-- ==== Sys2Proof/Word.lean ====
section
/-!
DEFINITION. The plain types of the model: bytes, ticks, sparse tables.
-/

namespace Sys2Proof

/-- One byte. -/
abbrev Byte := BitVec 8

/-- A tick count, an unsigned 48-bit count of 10 ns periods (R32). -/
abbrev Tick := BitVec 48

/-- A sparse table: pairs of a key and a value, keys strictly rising, no value equal to the default of the table. -/
abbrev Tbl (α : Type) := List (Nat × α)

end Sys2Proof
end

