-- ==== Sys2Proof/Syntax.lean ====
section
/-!
DEFINITION. The commands of the block: one constructor per row of the command table, with the operands that a command from outside
carries. Indices and values are natural numbers; `WellFormed.lean` says which of them the hardware has.
-/

namespace Sys2Proof

/-- An item of power-up calibration: its step, the slice, phase, trunk or lane it is for, and the pairs of results of its
attempts (R89). -/
abbrev CalMeasure := Nat × Nat × List (List (Int × Int))

/-- What an attempt at the analogue loop-back check of a slice measured: at each of the five levels the sum of the errors of its
1024 samples after stage 3, and the sum of their squares, in 1/64 LSB (R96). -/
abbrev LoopBack := List (Int × Nat)

/-- What the test of a part gave (R379, R380): the MISR of a logic test, or for each of the five levels of an analogue test the sum of the
errors of the 1024 samples and the sum of their squares, in 1/64 LSB, and the raw conversion of the group's monitor input. -/
inductive PartTest where
  | logic (misr : Nat)
  | analogue (levels : List (Int × Nat × Nat))
  deriving DecidableEq, Repr

/-- The input pre-check of one input (R93): a narrow input by its number or a trunk by its group, how many samples were taken and
the sum of the squares of their values in LSB. -/
structure InputLevel where
  narrow : Bool
  input : Nat
  count : Nat
  sumSq : Nat
  deriving DecidableEq, Repr

/-- What a host register write addresses: a BAR0 offset, the Command, MSI-X Message Control or Device Control register of the
configuration space, or a dword of the MSI-X table in BAR4 (R6, R424, R430). -/
inductive HostReg where
  | bar0 (off : Nat)
  | command
  | msixControl
  | deviceControl
  | deviceControl2
  | aerStatus
  | status
  | msixTable (dword : Nat)
  deriving DecidableEq, Repr

/-- A 64b/66b block as it arrives at a Quoda port: its sync header (1 data, 2 control, any other invalid) and its eight bytes (R214,
R215). -/
structure WireBlock where
  sync : Nat
  bytes : List Byte
  deriving DecidableEq, Repr

/-- The commands: host writes and reads, bus and link messages, pin and analogue events, device steps, microinstructions. -/
inductive Instr where
  /-- REGISTER_WRITE (R6): A host write to a register field that has no row of its own takes effect as its field type defines;
  `r` the register, `v` the value. -/
  | registerWrite (r : HostReg) (v : Nat)
  /-- LO_REGISTER_READ (R32): A read of a *_LO register latches the matching *_HI register; `off` the BAR0 offset. -/
  | loRegisterRead (off : Nat)
  /-- BAR0_BAD_ACCESS (R428): A BAR0 request that is not an aligned one-dword full-byte access returns all-ones or is ignored,
  and raises the host access size notice; `read` a read, else a write; `off` offset of the first byte; `len` bytes requested. -/
  | bar0BadAccess (read : Bool) (off : Nat) (len : Nat)
  /-- BAR2_READ (R427): A host read through the BAR2 window is served as class 2, with EP set for poisoned or unmapped data, or
  answered with UR in modes that refuse BAR2; `off` offset in BAR2, `len` bytes. -/
  | bar2Read (off : Nat) (len : Nat)
  /-- BAR2_WRITE (R427): A host write through the BAR2 window is stored, by read-modify-write for partial bursts and as the
  poison pattern when EP is set, or is discarded with UR; `data` bytes with their enables, `ep` the EP bit. -/
  | bar2Write (off : Nat) (data : List (Option Byte)) (ep : Bool)
  /-- FUNCTION_LEVEL_RESET (R432): A function-level reset resets configuration space, BAR4, BAR2_BASE, the readout queues and
  the mailbox state, and leaves acquisition running. -/
  | functionLevelReset
  /-- PCIE_LINK_DOWN (R433): The PCIe link goes down without PERST_N; queues later halt on CPL_TIMEOUT. -/
  | pcieLinkDown
  /-- PCIE_LINK_RETRAIN (R288): The PCIe link retrains to a new width or rate, and readout guarantees are judged again against
  LINK_CEIL; `width` lanes, `speed` 1 to 5 as HOST_STATUS.SPEED. -/
  | pcieLinkRetrain (width : Nat) (speed : Nat)
  /-- D3HOT_ENTRY (R433): The function enters D3hot, where it decodes no BAR and issues no request. -/
  | d3hotEntry
  /-- PERST_N_ASSERT (R433): PERST_N takes the link down, and on release acts as a function-level reset or, with PERST_POLICY =
  1, as a device reset; `asserted` its new state. -/
  | perstNAssert (asserted : Bool)
  /-- POWER_ON (R395): VDD_AON comes into range, or returns after its loss, and the device resets with cause 0. -/
  | powerOn
  /-- VDD_AON_LOSS (R442): The loss of VDD_AON resets the device and loses the staged log entries. -/
  | vddAonLoss
  /-- RESET_N_ASSERT (R456): RESET_N held low for at least 10 us resets the device with cause 1. -/
  | resetNAssert
  /-- THERMAL_TRIP (R446): A temperature site crosses the trip level; everything outside the always-on domain is reset and
  THERM_TRIP_N is driven low. -/
  | thermalTrip
  /-- THERMAL_TRIP_RELEASE (R446): Every site has stayed 15 C below the trip level for 1 s; THERM_TRIP_N is released and LOAD
  begins with cause 6. -/
  | thermalTripRelease
  /-- WATCHDOG_EXPIRY (R395): Tsufen has not serviced the management watchdog for 1 s, and the device resets with cause 5. -/
  | watchdogExpiry
  /-- FIRMWARE_VERIFIED (R404): The boot ROM has read and verified the firmware of the candidate slot and starts it, or passes
  on to the next candidate; `misr` the MISR that the test of partition 83 left. -/
  | firmwareVerified (misr : Nat)
  /-- IMAGE_VERIFIED (R401): Tsufen has read and verified the configuration image and judges its versions in the order of Table
  17-10; `monStart`, `refAuto`, `bar2` the image's MON_START, REF_AUTO and BAR2 default; `patchReadBack` the patch words read
  back as written; `fuses` what the hash fuses read back. -/
  | imageVerified (monStart : Option Nat) (refAuto : Bool) (bar2 : Nat) (patchReadBack : Bool) (fuses : List Byte)
  /-- DRAM_TRAINING_DONE (R248): Full DRAM training ends; failing ranks are replaced by spares, failing channels are excluded
  and n0 is fixed; `rankFails` failing ranks by channel and rank, `subFails` channels with a failing subchannel. -/
  | dramTrainingDone (rankFails : List (Nat × Nat)) (subFails : List Nat)
  /-- LOAD_SELF_TEST_DONE (R384): The LOAD self-test run ends and each failing part removes what Table 16-4 names; `results`
  what the test of each part gave, `refs` the raw conversions of the reference checks. -/
  | loadSelfTestDone (results : List PartTest) (refs : List Nat)
  /-- CATALOGUE_REINIT_DONE (R144): The re-initialisation of a catalogue, which writes every entry to zero, completes; plan `p`.
  -/
  | catalogueReinitDone (p : Nat)
  /-- LOAD_COMPLETE (R405): LOAD ends with the reference checks and the lane binding, and the device enters CALIBRATE; `inputs`
  what the input pre-check measured. -/
  | loadComplete (inputs : List InputLevel)
  /-- CALIBRATE_COMPLETE (R87): Step 8 of power-up calibration ends and the device enters READY; `items` what each item
  measured, `loopback` the attempts at the loop-back check of each slice. -/
  | calibrateComplete (items : List CalMeasure) (loopback : List (List LoopBack))
  /-- MODE_REQ_DORMANT (R407): A DORMANT request through DEV.MODE_REQ is accepted or refused and then starts DORMANT entry. -/
  | modeReqDormant
  /-- MODE_REQ_READY (R407): A READY request through DEV.MODE_REQ disarms every armed slot in ACQUIRE, or wakes the device from
  DORMANT. -/
  | modeReqReady
  /-- MODE_REQ_RESET (R407): A RESET request through DEV.MODE_REQ with KEY 0x5AFE resets the device once the staged log entries
  are committed; `key` DEV.MODE_REQ.KEY. -/
  | modeReqReset (key : Nat)
  /-- DORMANT_ENTRY_DONE (R407): After the display has stopped and memory is in self-refresh, the domains are powered down and
  DEV.MODE reads DORMANT. -/
  | dormantEntryDone
  /-- WAKE_TICK_REACHED (R53): The always-on tick count reaches DEV.WAKE_TICK with TICK_EN set, and DORMANT exit begins. -/
  | wakeTickReached
  /-- DORMANT_EXIT_DONE (R407): The domains, PLLs, memory and converters have been restored, and the device enters READY. -/
  | dormantExitDone
  /-- REFCLK_LOST (R42): REFCLK gives no edge for 200 ns, or leaves +-200 ppm; the tick clock goes into holdover and a fault is
  raised; `freq` by frequency, else by its edges. -/
  | refclkLost (freq : Bool)
  /-- REFCLK_PHASE_STEP (R42): The tick PLL detects a REFCLK phase step over 1 ns, slews to follow it and starts a PHASE_HIT
  interval. -/
  | refclkPhaseStep
  /-- REFCLK_VALID_1MS (R43): REFCLK has met the frequency test for 1 ms and SOURCE becomes ACQUIRING. -/
  | refclkValid1ms
  /-- SOURCE_LOCKED (R43): The residual phase error has fallen to 100 ps or less and SOURCE becomes LOCKED. -/
  | sourceLocked
  /-- CRYSTAL_LOST (R417): The crystal gives no edge for 1 us while it is the tick source, which is a fatal fault. -/
  | crystalLost
  /-- EPOCH_PULSE (R38): An EPOCH_IN pulse is assigned to an expected tick and judged as on time, an epoch slip or a surplus
  pulse. -/
  | epochPulse
  /-- REALIGN_JUMP (R38): At the next tick boundary after a slip under REALIGN, the tick count jumps to the value it would have
  had. -/
  | realignJump
  /-- EXPECTED_TICK (R36): The count reaches the expected tick; EPOCH_NUM increments and the expected tick advances by
  EPOCH_PERIOD. -/
  | expectedTick
  /-- EPOCH_MISSING (R39): No pulse has arrived by e + 1, and the epoch-missing notice is raised. -/
  | epochMissing
  /-- SPLL_LOCK_LOST (R41): The sampling PLL loses lock; every armed plan stops and its open folios are sealed TRUNCATED. -/
  | spllLockLost
  /-- SPLL_RELOCKED (R41): The sampling PLL regains lock. -/
  | spllRelocked
  /-- SPLL_RELOCK_TIMEOUT (R41): The sampling PLL has not relocked 10 ms after the loss, which raises the fatal fault. -/
  | spllRelockTimeout
  /-- TIME_SNAP (R32): TIME.CMD.SNAP captures the timestamp of the current fabric cycle. -/
  | timeSnap
  /-- EPOCH_ARM (R37): TIME.CMD.EPOCH_ARM arms an epoch load, or is ignored with a notice when EPOCH_EN is 0. -/
  | epochArm
  /-- TIME_CLR_COUNTS (R32): TIME.CMD.CLR_COUNTS clears TIME.COUNTS and TIME.SCHED_COUNTS. -/
  | timeClrCounts
  /-- SCHED_COMMIT (R44): SCHED_CMD.COMMIT commits a scheduler entry, refusing a reserved code or a bad argument, and judges it
  at once when it is due or past. -/
  | schedCommit (n : Nat)
  /-- SCHED_CANCEL (R51): SCHED_CMD.CANCEL ends a scheduler entry once none of its dispatched occurrences is still waiting. -/
  | schedCancel (n : Nat)
  /-- SCHED_FIELD_WRITE (R51): A write to the fields of a committed scheduler entry is ignored and raises a notice; entry `n`,
  register `r` of its fields, value `v`. -/
  | schedFieldWrite (n : Nat) (r : Nat) (v : Nat)
  /-- SCHED_DISPATCH (R45): The count reaches an entry's tick; the entry is judged for lateness and its action is dispatched in
  entry order, or it goes STALE. -/
  | schedDispatch (n : Nat)
  /-- SCHED_WINDOW_CLOSE (R47): The start window of a dispatched action closes before the action starts; STATE becomes DEADLINE
  and a deadline fault is raised. -/
  | schedWindowClose (n : Nat)
  /-- ACTION_ARM (R152): The scheduled ARM arms a plan, submitting an inactive plan for activation first. -/
  | actionArm (n : Nat)
  /-- ACTION_DISARM (R159): The scheduled DISARM disarms a plan. -/
  | actionDisarm (n : Nat)
  /-- ACTION_DEAL (R235): The acting dealer sends a DEAL from deal definition n and applies it to itself. -/
  | actionDeal (n : Nat)
  /-- ACTION_SHUFFLE (R76): A SHUFFLE starts a shuffle step in each group of its mask, or skips it when the resting slice is not
  ready or the group is FIXED. -/
  | actionShuffle (n : Nat)
  /-- ACTION_BIST_SLICE (R385): A BIST_SLICE tests the resting slice and the resting unit of each group of its mask that is not
  FIXED. -/
  | actionBistSlice (n : Nat)
  /-- ACTION_MON_SEQ (R346): A MON_SEQ names a monitor sequence definition, which starts after the given delay. -/
  | actionMonSeq (n : Nat)
  /-- ACTION_PSR_ENTER (R312): The scheduled PSR_ENTER requests Panel Self Refresh entry, or is refused when PSR_CAP is 0. -/
  | actionPsrEnter (n : Nat)
  /-- ACTION_PSR_EXIT (R312): The scheduled PSR_EXIT requests exit from Panel Self Refresh. -/
  | actionPsrExit (n : Nat)
  /-- ACTION_RDO_START (R293): RDO_START starts an idle queue, resumes a queue halted by MODE, or rings the doorbell of a
  running queue. -/
  | actionRdoStart (n : Nat)
  /-- ACTION_DRAM_RETRAIN (R260): A DRAM_RETRAIN starts a retraining pause on a DRAM channel. -/
  | actionDramRetrain (n : Nat)
  /-- ACTION_REFRESH_MAKEUP (R259): A REFRESH_MAKEUP starts a make-up refresh burst on a DRAM channel. -/
  | actionRefreshMakeup (n : Nat)
  /-- ACTION_TIME_MARK (R112): A TIME_MARK asserts its time-mark qualifier for one tick. -/
  | actionTimeMark (n : Nat)
  /-- SHADOW_FRAME_START (R77): At the first 64-sample boundary after settling, both slices start converting the moving lane for
  the shadow frame. -/
  | shadowFrameStart (g : Nat)
  /-- SHADOW_FRAME_END (R77, R78): The shadow frame ends and is evaluated, and the step is accepted with its switch instant fixed, or
  is aborted; `incoming` and `outgoing` are the raw conversions of its 4096 samples by the two slices, the first of them lane sample
  `first`. -/
  | shadowFrameEnd (g : Nat) (first : Nat) (incoming : List Nat) (outgoing : List Nat)
  /-- SHUFFLE_SWITCH (R77): At the switch instant, the incoming slice starts to serve the moving lane. -/
  | shuffleSwitch (g : Nat)
  /-- SHUFFLE_RELEASE (R77): At switch + 16 ns the outgoing slice becomes the resting slice and the group status updates. -/
  | shuffleRelease (g : Nat)
  /-- BG_RUN_COMPLETE (R98): A background run ends; its values are adopted and the slice becomes ready, or the failure is
  counted and may retire the slice; slice `sl`; `attempts` the pairs of results; `loopBack` what the loop-back check measured. -/
  | bgRunComplete (sl : Nat) (attempts : List (List (Int × Int))) (loopBack : LoopBack)
  /-- CNV_SNAP_MAP (R85): CNV.CMD.SNAP_MAP takes a consistent snapshot of the lane map and the slice status. -/
  | cnvSnapMap
  /-- CNV_CLR_COUNTS (R85): CNV.CMD.CLR_COUNTS clears the shuffle and range counters. -/
  | cnvClrCounts
  /-- TRACK_WINDOW_END (R102): A tracking window of a wide channel ends and is judged sufficient, insufficient or discarded;
  channel `c`, `first` the number of the window's first sample. -/
  | trackWindowEnd (c : Nat) (first : Nat)
  /-- TRACK_UPDATE_APPLY (R103): At the next 64-sample boundary, every slot of the channel applies its tracking changes. -/
  | trackUpdateApply (c : Nat)
  /-- CAL_SNAP (R107): CAL.CMD.SNAP takes a snapshot of the calibration values. -/
  | calSnap
  /-- CAL_CLR_COUNTS (R107): CAL.CMD.CLR_COUNTS clears the calibration counters. -/
  | calClrCounts
  /-- EVALUATION_INSTANT (R118): The trigger decision for one evaluation instant of a slot is complete; terms fire, and
  qualified triggers are judged and accepted; `slot` the slot judged, or none for the channels no slot holds; `l` the raw
  conversions of each channel: 14 SAR decisions, the first the most significant bit. -/
  | evaluationInstant (slot : Option Nat) (l : List (Nat × List Nat))
  /-- DETECTOR_STUCK (R111): A detector whose output and arming state have not changed for TIME ticks becomes stuck and raises a
  notice. -/
  | detectorStuck (i : Nat)
  /-- TRIG_IN_ACTIVATION (R138): A filtered activation of a TRIG_IN pin forms an event or a level onset and is counted; pin `i`;
  the edge `ago` 2^-23 ns before this cycle; `glitches` rejected before it. -/
  | trigInActivation (i : Nat) (ago : Nat) (glitches : Nat)
  /-- PIN_STUCK (R138): A TRIG_IN pin that has kept its filtered level for TIME ticks becomes stuck and raises a notice. -/
  | pinStuck (i : Nat)
  /-- FORCE (R133): A write of TRG.FORCE requests a force on slot k. -/
  | force (k : Nat)
  /-- DET_LEVEL_WRITE (R136): A live write of detector levels is checked against the bounds and becomes pending, or is refused;
  detector `i`, levels LH and LL. -/
  | detLevelWrite (i : Nat) (lh : Nat) (ll : Nat)
  /-- DET_HYST_WRITE (R136): A live write of detector hysteresis is checked and becomes pending, or is refused. -/
  | detHystWrite (i : Nat) (h : Nat)
  /-- HOLD_TICKS_WRITE (R136): A live write of HOLD_TICKS is checked and becomes pending, or is refused. -/
  | holdTicksWrite (k : Nat) (v : Nat)
  /-- HOLD_SAMPLES_WRITE (R136): A live write of HOLD_SAMPLES becomes pending. -/
  | holdSamplesWrite (k : Nat) (v : Nat)
  /-- HOLD_COUNT_WRITE (R136): A live write of HOLD_COUNT is checked and becomes pending, or is refused when zero. -/
  | holdCountWrite (k : Nat) (v : Nat)
  /-- REARM_POINT (R136): At the slot's re-arm point, pending trigger parameters take effect and detectors restart; `slot`, or
  none for what no slot holds. -/
  | rearmPoint (slot : Option Nat)
  /-- HOLDOFF_END (R128): A TIME or END_OF_RECORD holdoff ends and the slot reaches its ready instant. -/
  | holdoffEnd (k : Nat)
  /-- LL_SEL_WRITE (R137): A write of TRG.LL_SEL copies a lost-trigger list entry into LL_DATA. -/
  | llSelWrite (v : Nat)
  /-- TRG_CLR_COUNTS (R142): TRG.CMD.CLR_COUNTS clears the pin, output and coalescence counters. -/
  | trgClrCounts
  /-- TRIG_OUT_PULSE (R139): At the trigger time plus 100 ns, TRIG_OUTn starts a pulse or extends an active one. -/
  | trigOutPulse (n : Nat)
  /-- TRIG_OUT_PULSE_END (R139): A TRIG_OUT pulse ends after WIDTH ns. -/
  | trigOutPulseEnd (n : Nat)
  /-- PLAN_ACTIVATE (R16): PLAN_CMD OP ACTIVATE submits a library plan for activation under R28. -/
  | planActivate (p : Nat)
  /-- PLAN_DEACTIVATE (R159): PLAN_CMD OP DEACTIVATE disarms the plan and frees its slot once its last record has sealed. -/
  | planDeactivate (p : Nat)
  /-- PLAN_ARM (R152): PLAN_CMD OP ARM arms an active plan, reserving its gathering set, or is refused. -/
  | planArm (p : Nat)
  /-- PLAN_DISARM (R159): PLAN_CMD OP DISARM disarms a plan at its disarm instant. -/
  | planDisarm (p : Nat)
  /-- ADMISSION (R257): A waiting activation, grant increase or reservation request is decided against the ceiling of every DRAM
  channel, in order. -/
  | admission
  /-- COMMIT (R155): The binder commits a trigger from the FIFO, assigns its accession numbers, fixes the header identity and
  span, and binds it to a FILLING set. -/
  | commit (k : Nat)
  /-- RECORD_END (R158): The last sample E - 1 of a record reaches every lane's coder, and the coders close their last blocks.
  -/
  | recordEnd (k : Nat) (ch : Nat)
  /-- RECORD_SEAL (R158): After the drain, the segment heads, header and catalogue entry are written and the record is sealed.
  -/
  | recordSeal (k : Nat) (ch : Nat)
  /-- FOLIO_DEADLINE (R166): A folio is still SEALED DEADLINE ticks after its seal; a readout-deadline fault is raised and
  DL_MISSED is set. -/
  | folioDeadline (p : Nat) (f : Nat)
  /-- FOLIO_HOLD (R165): FOLIO_OP HOLD makes a SEALED folio HELD, or marks an IN_READOUT one, or is refused with WRONG_STATE. -/
  | folioHold
  /-- FOLIO_RELEASE (R165): FOLIO_OP RELEASE makes a HELD folio FREE, or is refused with WRONG_STATE. -/
  | folioRelease
  /-- BOOK_SNAP (R170): ACQ.CMD.SNAP copies the trigger and folio books in one cycle. -/
  | bookSnap
  /-- ELASTIC_OVF (R23): A lane's elastic buffer overflows; records containing lost samples are sealed TRUNCATED and a deadline
  fault is raised; `lane` loses `n` stored blocks. -/
  | elasticOvf (lane : Nat) (n : Nat)
  /-- CH_DECIM_WRITE (R189): A write of COD.CH_DECIM is checked and becomes pending for the next arm, or is refused. -/
  | chDecimWrite (c : Nat) (dm1 : Nat) (phi : Nat)
  /-- CH_GRANT_WRITE (R190): A write of COD.CH_GRANT is checked, and an increase goes to admission, before it becomes pending.
  -/
  | chGrantWrite (c : Nat) (g : Nat)
  /-- COD_CLR_COUNTS (R188): COD.CMD.CLR_COUNTS clears the coder block counters. -/
  | codClrCounts
  /-- ACCUM_ADD_END (R198): The add of a selected trigger ends when its last bin is written. -/
  | accumAddEnd (k : Nat)
  /-- BANK_COMPLETE (R198): The result header is formed, the bank becomes COMPLETE and an accumulation-complete notice is
  raised. -/
  | bankComplete (k : Nat)
  /-- ACC_FINISH (R198): SLOT_CMD.FINISH completes the accumulating bank after the add in progress. -/
  | accFinish (k : Nat)
  /-- ACC_DISCARD (R198): SLOT_CMD.DISCARDn frees a COMPLETE bank; slot `k`, bank `b`. -/
  | accDiscard (k : Nat) (b : Nat)
  /-- ACC_CLR_PLANE (R206): ACC.CMD.CLR_PLANE clears a plane at step 1 of the next composer frame. -/
  | accClrPlane (mask : Nat)
  /-- ACC_CLR_COUNTS (R213): ACC.CMD.CLR_COUNTS clears the accumulation, plane and composer counters. -/
  | accClrCounts
  /-- PLANE_SOURCE_WRITE (R211): A live write of a plane's SOURCE is checked and becomes pending until the next frame. -/
  | planeSourceWrite (p : Nat) (v : Nat)
  /-- PLANE_X_WRITE (R211): A live write of XSTEP and XTRIG is checked and becomes pending. -/
  | planeXWrite (p : Nat) (v : Nat)
  /-- PLANE_Y_WRITE (R211): A live write of YOFF and YGAIN is checked and becomes pending. -/
  | planeYWrite (p : Nat) (v : Nat)
  /-- PLANE_LOOK_WRITE (R211): A live write of decay, hue and saturation is checked and becomes pending. -/
  | planeLookWrite (p : Nat) (v : Nat)
  /-- PLANE_SCALE_WRITE (R211): A live write of CSCALE becomes pending. -/
  | planeScaleWrite (p : Nat) (v : Nat)
  /-- CURVE_WRITE (R211): A live write of an ACC.CURVE entry becomes pending. -/
  | curveWrite (i : Nat) (v : Nat)
  /-- COMPOSER_FRAME (R206): At a frame boundary the composer applies pending changes, decays planes and starts writing a
  surface, or drops the boundary as an overrun. -/
  | composerFrame
  /-- COMPOSER_FRAME_DONE (R206): Every write of the composed surface and count copies is acknowledged; LAST changes and FRAMES
  increments. -/
  | composerFrameDone
  /-- CALL_RECEIVE (R223): A call copy is received, checked, accepted or discarded as a duplicate, and forwarded cut-through;
  port `p`, first or `second` copy, the bytes. -/
  | callReceive (p : Nat) (second : Bool) (bl : List WireBlock)
  /-- CALL_DELIVER (R240): 8 ns after its check, an accepted call is delivered to every slot with CALL_RX as a qualified
  trigger. -/
  | callDeliver
  /-- CALL_LOST (R224): A pending call is not accepted within LOST_WAIT; it becomes lost and a call-lost fault is raised; source
  `src`, SEQ `q`. -/
  | callLost (src : Nat) (q : Nat)
  /-- ENUM_SCAN (R232): A received ENUM SCAN sets ENUM_BUSY and schedules the unit's REPORT. -/
  | enumScan (p : Nat) (bl : List WireBlock)
  /-- ENUM_REPORT (R232): The dealer receives an ENUM REPORT that gives a unit's candidate address and hop counts. -/
  | enumReport (p : Nat) (bl : List WireBlock)
  /-- ENUM_ASSIGN (R232): A unit receives an ENUM ASSIGN for its serial, stores the address and replies ACK. -/
  | enumAssign (p : Nat) (bl : List WireBlock)
  /-- ENUM_ACK (R232): The dealer receives an ENUM ACK for an assigned address. -/
  | enumAck (p : Nat) (bl : List WireBlock)
  /-- ENUM_DONE (R232): A unit receives ENUM DONE, sets UNITS and TOPO and clears ENUM_BUSY. -/
  | enumDone (p : Nat) (bl : List WireBlock)
  /-- ENUM_REPORT_DUE (R232): 100 us after first receiving SCAN, a unit sends its REPORT. -/
  | enumReportDue
  /-- ENUM_ASSIGN_DUE (R232): At 1.0 ms after SCAN the dealer assigns addresses and broadcasts ASSIGNs. -/
  | enumAssignDue
  /-- ENUM_ACK_TIMEOUT (R232): An ASSIGN without an ACK after 200 us is repeated, three rounds in all. -/
  | enumAckTimeout
  /-- ENUM_DONE_DUE (R232): The dealer broadcasts DONE and raises the enumeration-complete notice. -/
  | enumDoneDue
  /-- ENUMERATION_START (R233): The acting dealer starts an enumeration by broadcasting ENUM SCAN. -/
  | enumerationStart
  /-- ENS_ENUM (R233): ENS.CMD.ENUM starts an enumeration on the acting dealer. -/
  | ensEnum
  /-- DEAL_ARM (R236): An accepted DEAL with OP ARM updates TRICK_NEXT and commits internal arms at ARM_TICK. -/
  | dealArm (p : Nat) (bl : List WireBlock)
  /-- DEAL_DISARM (R236): An accepted DEAL with OP DISARM commits internal disarms at ARM_TICK. -/
  | dealDisarm (p : Nat) (bl : List WireBlock)
  /-- DEAL_ACTION_DUE (R236): At ARM_TICK the internal ARM or DISARM of a deal is judged and executed. -/
  | dealActionDue (id : Nat)
  /-- DEAL_CMD (R235): A write of ENS.DEAL_CMD sends a deal definition at once. -/
  | dealCmd (v : Nat)
  /-- TIME_MESSAGE (R230): A received TIME arms an epoch load, or raises a time-mismatch notice. -/
  | timeMessage (p : Nat) (bl : List WireBlock)
  /-- TIME_SEND (R230): EPOCH_PERIOD/2 after each expected tick, the dealer sends TIME. -/
  | timeSend
  /-- STAT_MESSAGE (R238): A received STAT updates the unit table, the trick counters and the dealer resolution. -/
  | statMessage (p : Nat) (bl : List WireBlock)
  /-- STAT_SEND (R238): Every STAT_PERIOD, the unit broadcasts STAT. -/
  | statSend
  /-- UNIT_PRESENCE_TIMEOUT (R238): A unit sends no STAT for three periods, and PRESENT clears. -/
  | unitPresenceTimeout (a : Nat)
  /-- DEALER_LOST (R238): A standby sees no STAT from the acting dealer for three periods and declares it lost. -/
  | dealerLost
  /-- DEALER_TAKEOVER (R238): At the next expected epoch tick the standby takes over as dealer, increments GEN and commits the
  DEAL entries. -/
  | dealerTakeover
  /-- DEALER_WAIT_END (R234): A configured dealer has waited two STAT periods after its first port came UP and starts to act. -/
  | dealerWaitEnd
  /-- RESTART_WINDOW_END (R223): After 10 STAT periods the unit stops setting RESTART and may send calls. -/
  | restartWindowEnd
  /-- TOKEN_REQUEST (R228): A received TOKEN REQUEST is time-stamped and answered with a REPLY; port `p`, bytes, `sub` the
  arrival within the cycle in 2^-24 tick. -/
  | tokenRequest (p : Nat) (bl : List WireBlock) (sub : Nat)
  /-- TOKEN_REPLY (R228): A received TOKEN REPLY completes an exchange, updates delay and offset, and may bring the port UP or
  MISWIRED; port `p`, bytes, `sub` the arrival within the cycle in 2^-24 tick. -/
  | tokenReply (p : Nat) (bl : List WireBlock) (sub : Nat)
  /-- TOKEN_SEND (R225): Every 10 us in TRAINING or 1 ms in UP, the port sends a TOKEN REQUEST. -/
  | tokenSend (p : Nat)
  /-- BLOCK_LOCK_ACQUIRED (R225): A port acquires block lock and goes from DOWN to TRAINING. -/
  | blockLockAcquired (p : Nat)
  /-- NEIGHBOUR_ABSENT (R226): No valid block for 2 us; the port goes DOWN, a fault is raised and a STAT is sent on the other
  port. -/
  | neighbourAbsent (p : Nat)
  /-- ENS_CLR_COUNTS (R244): ENS.CMD.CLR_COUNTS clears the call, deal and port counters. -/
  | ensClrCounts
  /-- PHY_LOCK_LOST (R268): A DRAM channel's PHY loses lock, and its requests are held. -/
  | phyLockLost (c : Nat)
  /-- PHY_LOCK_REGAINED (R268): The PHY regains lock within 10 us, and the held requests are served. -/
  | phyLockRegained (c : Nat)
  /-- CHANNEL_LOST (R268): A DRAM channel is lost; its way is re-homed or unmapped and admission is recomputed, stopping plans
  in order. -/
  | channelLost (c : Nat)
  /-- REFRESH_DUE (R259): A rank's refresh falls due; it is issued or postponed, and the ninth starts a make-up burst; `busy`
  class-0 requests wait. -/
  | refreshDue (c : Nat) (r : Nat) (busy : Bool)
  /-- MAKEUP_BURST (R259): A rank with no class-0 request waiting starts a make-up burst of postponed refreshes. -/
  | makeupBurst (c : Nat) (r : Nat)
  /-- RETRAIN_PAUSE_DONE (R260): A retraining pause ends, passing or failing, and four consecutive failures lose the channel;
  `ok` it succeeded; `ns` its length. -/
  | retrainPauseDone (c : Nat) (ok : Bool) (ns : Nat)
  /-- CORRECTED_ERROR (R264): A DRAM read with a corrected error is counted per rank, and may raise the correctable-rate notice.
  -/
  | correctedError (c : Nat) (r : Nat)
  /-- UNCORRECTABLE_ERROR (R265): An uncorrectable DRAM read poisons its granule, marks the records concerned and may retire the
  rank; device address `a`. -/
  | uncorrectableError (a : Nat)
  /-- CA_PARITY_ERROR (R266): A command/address parity error is reported and the commands are repeated. -/
  | caParityError (c : Nat) (r : Nat)
  /-- ROW_THROTTLE (R262): A requester exceeds ACT_TH activations of one row, is throttled and raises a throttle notice;
  channel, bank (128 subchannel + 32 rank + 4 bank group + bank), requester as Memory.lean numbers them, and the row. -/
  | rowThrottle (c : Nat) (bank : Nat) (req : Nat) (row : Nat)
  /-- THROTTLE_END (R262): The THROTTLE period of a deferred requester ends. -/
  | throttleEnd
  /-- MIGRATION_ROW_DONE (R269): A row has been copied to the spare rank and POS increments; at TOTAL the target replaces the
  rank. -/
  | migrationRowDone (c : Nat)
  /-- DISPLAY_PANIC_RAISE (R263): The display's fetch buffer falls below its panic level, and panic is raised. -/
  | displayPanicRaise
  /-- DISPLAY_PANIC_RELEASE (R309): The fetch buffer reaches its panic level again, and panic is released. -/
  | displayPanicRelease
  /-- MEM_CLR_COUNTS (R273): MEM.CMD.CLR_COUNTS clears the memory counters. -/
  | memClrCounts
  /-- QUEUE_START (R293): Q_CMD.START clears the books, requests the guarantee, fetches the head descriptor and runs an idle
  queue. -/
  | queueStart (q : Nat)
  /-- QUEUE_STOP (R293): Q_CMD.STOP abandons the descriptor in flight and sets the queue IDLE. -/
  | queueStop (q : Nat)
  /-- QUEUE_FLUSH (R290): Q_CMD.FLUSH takes the items available at its effect, regardless of pacing. -/
  | queueFlush (q : Nat)
  /-- QUEUE_RESUME (R293): Q_CMD.RESUME re-executes a halted queue's current descriptor from its beginning. -/
  | queueResume (q : Nat)
  /-- QUEUE_DOORBELL (R292): A write of Q_DOORBELL makes a parked queue re-read its LINK, or sets a pending bit. -/
  | queueDoorbell (q : Nat)
  /-- COMP_RD_WRITE (R284): A write of Q_COMP_RD records consumed completion entries, or is refused. -/
  | compRdWrite (q : Nat) (v : Nat)
  /-- Q_CFG_WRITE (R301): A binding write of Q_CFG is accepted only on an idle, unlocked queue. -/
  | qCfgWrite (q : Nat) (v : Nat)
  /-- Q_PACE_WRITE (R289): A binding write of the pacing marks is checked and accepted or refused. -/
  | qPaceWrite (q : Nat) (v : Nat)
  /-- Q_PACE_TO_WRITE (R301): A binding write of the pacing timeout is accepted or refused. -/
  | qPaceToWrite (q : Nat) (v : Nat)
  /-- Q_CTL_WRITE (R301): A binding write of Q_CTL is accepted or refused. -/
  | qCtlWrite (q : Nat) (v : Nat)
  /-- Q_HEAD_WRITE (R301): A binding write of the head descriptor address is accepted or refused. -/
  | qHeadWrite (q : Nat) (hi : Bool) (v : Nat)
  /-- Q_COMP_BASE_WRITE (R301): A binding write of the completion ring base is accepted or refused. -/
  | qCompBaseWrite (q : Nat) (hi : Bool) (v : Nat)
  /-- DESCRIPTOR_FETCHED (R279): A fetched descriptor is checked and started, or halts the queue as bad; queue `q`, the 32
  bytes. -/
  | descriptorFetched (q : Nat) (data : List Byte)
  /-- READOUT_BURST (R287): At a burst boundary the engine chooses a queue and issues its next burst of source reads and
  destination writes. -/
  | readoutBurst
  /-- READBACK_COMPLETE (R282): The read-back of a descriptor returns; its items change state, the books update, and an entry
  and an interrupt are written; queue `q`. -/
  | readbackComplete (q : Nat)
  /-- HOST_REQUEST_FAILED (R294): A non-posted request to the host fails and is reissued after 1 us, or halts the queue after
  RETRY_MAX; queue `q`; `cause` as Q_STATE.CAUSE. -/
  | hostRequestFailed (q : Nat) (cause : Nat)
  /-- PACE_TIMEOUT (R289): The source level has been non-zero for PACE_TO ticks, and pacing turns on. -/
  | paceTimeout (q : Nat)
  /-- RDO_SNAP (R298): RDO.CMD.SNAP copies the byte books of all queues. -/
  | rdoSnap
  /-- RDO_CLR_COUNTS (R301): RDO.CMD.CLR_COUNTS clears Q_ERR of every queue. -/
  | rdoClrCounts
  /-- FRAME_START (R304): At each display frame start the surface, overlay and palette are latched, and PSR entry and exit
  proceed. -/
  | frameStart
  /-- UNDERRUN (R310): A pixel is due without data; the last pixel is repeated to the end of the line; at pixel `x`, line `y`.
  -/
  | underrun (x : Nat) (y : Nat)
  /-- DSP_PSR_ENTER (R312): DSP.CMD.PSR_ENTER requests Panel Self Refresh entry. -/
  | dspPsrEnter
  /-- DSP_PSR_EXIT (R312): DSP.CMD.PSR_EXIT requests exit from Panel Self Refresh. -/
  | dspPsrExit
  /-- PAL_COMMIT (R307): DSP.CMD.PAL_COMMIT copies the shadow palette into use at the next frame start. -/
  | palCommit
  /-- DSP_RETRAIN (R315): DSP.CMD.RETRAIN trains the eDP link again at once. -/
  | dspRetrain
  /-- DSP_CLR_COUNTS (R312): DSP.CMD.CLR_COUNTS clears the display counters. -/
  | dspClrCounts
  /-- OVL_SEL_WRITE (R311): A write of DSP.OVL_SEL selects the overlay buffer for the next frame start, and requests exit during
  PSR. -/
  | ovlSelWrite (v : Nat)
  /-- LINK_TRAINING_DONE (R315): An eDP link training attempt ends; it falls back to lower rates or raises a link-training
  fault; `ok` trained; `psr` the panel has PSR. -/
  | linkTrainingDone (ok : Bool) (psr : Bool)
  /-- HPD_LOSS (R315): EDP_HPD stays low for more than 2 ms; fetch stops and a link-loss fault is raised. -/
  | hpdLoss
  /-- HPD_RETURN (R315): EDP_HPD returns high and link training restarts. -/
  | hpdReturn
  /-- IRQ_HPD (R312): An IRQ_HPD pulse is read; a reported PSR error requests exit and raises a notice; `psrError` the panel
  reports a PSR error. -/
  | irqHpd (psrError : Bool)
  /-- SEQ_INTERRUPT (R328): At a boundary, the sequencer takes the next pending interrupt source in cyclic order and enters its
  handler. -/
  | seqInterrupt (u : Nat)
  /-- NEXT (R324): Microinstruction NEXT continues at a + 1. -/
  | next (u : Nat) (ce : Bool)
  /-- JUMP (R324): Microinstruction JUMP goes to ADDR when its condition holds; unit `u`, condition `c`, target, `ce` a patch
  word was corrected. -/
  | jump (u : Nat) (c : Bool) (addr : Nat) (ce : Bool)
  /-- CALL (R325): Microinstruction CALL pushes a + 1 and goes to ADDR when its condition holds; unit `u`, condition `c`,
  target, `ce` a patch word was corrected. -/
  | call (u : Nat) (c : Bool) (addr : Nat) (ce : Bool)
  /-- RET (R325): Microinstruction RET pops the return address when its condition holds. -/
  | ret (u : Nat) (c : Bool) (ce : Bool)
  /-- WAIT (R324): Microinstruction WAIT repeats until its condition holds. -/
  | wait (u : Nat) (c : Bool) (ce : Bool)
  /-- DISPATCH (R324): Microinstruction DISPATCH goes to ADDR with its low bits replaced by a dispatch value; unit `u`, ADDR,
  dispatch value `d`, `ce` a patch word was corrected. -/
  | dispatch (u : Nat) (addr : Nat) (d : Nat) (ce : Bool)
  /-- RETI (R324): Microinstruction RETI returns from a handler to IRA. -/
  | reti (u : Nat) (ce : Bool)
  /-- ILLEGAL_NA (R324): The next-address code 7 is a machine check ILLEGAL_NA. -/
  | illegalNa (u : Nat) (ce : Bool)
  /-- CTX_PARITY (R329): A lane-context parity error traps; records in progress are sealed TRUNCATED and the context is re-
  initialised. -/
  | ctxParity (u : Nat)
  /-- MACHINE_CHECK (R330): A machine check freezes the unit, requests the emergency shuffle, and the handler records the cause
  and parks; unit `u`, CAUSE of SEQ.UNIT_MC. -/
  | machineCheck (u : Nat) (cause : Nat)
  /-- DOUBLE_MACHINE_CHECK (R330): A second machine check in the handler, or a handler not parked within 32 boundaries, stops
  the unit at once. -/
  | doubleMachineCheck (u : Nat)
  /-- EMERGENCY_SHUFFLE (R82): The group switch binds the lane of a stopped unit to the resting unit at a 64-sample boundary. -/
  | emergencyShuffle (lane : Nat)
  /-- TAKEOVER_SEAL (R331): Once the stopped unit's buffer has drained, the records spanning the gap are sealed TRUNCATED by the
  incoming unit or the proxy. -/
  | takeoverSeal (lane : Nat)
  /-- PATCH_WORD_REWRITE (R323): The management subsystem rewrites an uncorrectable patch RAM word from its retained copy; patch
  RAM word `w`. -/
  | patchWordRewrite (w : Nat)
  /-- SEQ_SNAP (R338): SEQ.CMD.SNAP takes a snapshot of all sequencers. -/
  | seqSnap
  /-- SEQ_CLR_COUNTS (R338): SEQ.CMD.CLR_COUNTS clears the sequencer counters. -/
  | seqClrCounts
  /-- MBX_DOORBELL (R342): A write of MGT.MBX_DOORBELL submits the PCIe mailbox request, or is refused while busy. -/
  | mbxDoorbell
  /-- UART_FRAME (R342): A whole UART frame is received and checked, and submits its request or is discarded. -/
  | uartFrame (bs : List Byte)
  /-- UART_GAP_TIMEOUT (R342): A gap of more than 10 ms between bytes discards a partial UART frame. -/
  | uartGapTimeout
  /-- GET_IDENTITY (R343): Mailbox command GET_IDENTITY returns the unit's identity and versions. -/
  | getIdentity
  /-- GET_STATE (R343): Mailbox command GET_STATE returns the mode, firmware state and latched sources. -/
  | getState
  /-- MODE_REQUEST (R343): Mailbox command MODE_REQUEST requests DORMANT, READY or RESET as DEV.MODE_REQ does. -/
  | modeRequest
  /-- LOG_INFO (R343): Mailbox command LOG_INFO returns the oldest and newest entries, the drop count and the newest seal. -/
  | logInfo
  /-- LOG_READ (R354): Mailbox command LOG_READ performs a multi-entry read of the event log. -/
  | logRead
  /-- LOG_SEAL (R352): Mailbox command LOG_SEAL returns a seal record. -/
  | logSeal
  /-- CAL_READ (R343): Mailbox command CAL_READ returns part of a calibration history record. -/
  | calRead
  /-- MON_READ (R343): Mailbox command MON_READ returns monitor result words. -/
  | monRead
  /-- UPD_BEGIN (R367): Update command UPD_BEGIN opens an update session on a slot and makes it WRITING. -/
  | updBegin
  /-- UPD_WRITE (R367): Update command UPD_WRITE writes bytes of the next 4 KiB unit of the slot. -/
  | updWrite
  /-- UPD_WRITE_DRAM (R367): Update command UPD_WRITE_DRAM starts writing units to the slot from device DRAM. -/
  | updWriteDram
  /-- UPD_UNIT_WRITTEN (R367): A 4 KiB unit has been erased, programmed and read back, and UPD_PROG advances; `readBack` the
  unit read back as written. -/
  | updUnitWritten (readBack : Bool)
  /-- UPD_VERIFY (R367): Update command UPD_VERIFY reads back and verifies the slot, making it VERIFIED or EMPTY. -/
  | updVerify
  /-- UPD_ACTIVATE (R365): Update command UPD_ACTIVATE makes a VERIFIED slot PENDING. -/
  | updActivate
  /-- UPD_COMMIT (R366): Update command UPD_COMMIT commits the TRIAL slot and advances the anti-rollback counter. -/
  | updCommit
  /-- UPD_ABORT (R367): Update command UPD_ABORT ends the session and leaves the slot EMPTY. -/
  | updAbort
  /-- UPD_STATUS (R367): Update command UPD_STATUS returns the slot states, progress and last result. -/
  | updStatus
  /-- GET_CERT (R375): Trust query GET_CERT returns part of the identity certificate. -/
  | getCert
  /-- GET_ANCHORS (R375): Trust query GET_ANCHORS returns the owner state, hash, RB_COUNT and Catraeno root hash. -/
  | getAnchors
  /-- SESSION_INFO (R375): Trust query SESSION_INFO returns a slot's session state. -/
  | sessionInfo
  /-- SEAL_NOW (R371): Trust query SEAL_NOW pads the log to the next seal boundary. -/
  | sealNow
  /-- ATTEST (R374): Trust query ATTEST signs a nonce with the unit's state under the identity key. -/
  | attest
  /-- SEC_CMD_SEAL_NOW (R371): SEC.CMD.SEAL_NOW pads the log so that a seal is written at once. -/
  | secCmdSealNow
  /-- MON_CONVERSION_DONE (R345): A monitor slot's last conversion ends; its result is corrected and written, and its alarm is
  judged; `raws` the conversions of the slot. -/
  | monConversionDone (raws : List Nat)
  /-- MON_SEQ_START (R346): The delay of a MON_SEQ expires and definition n starts at slot 0. -/
  | monSeqStart
  /-- PULSE_WIDTH_EVENT (R347): The power-event sources have been asserted for PW_WIDTH ticks; a pulse-width event forms and may
  wake the device; `sources` asserted. -/
  | pulseWidthEvent (sources : Nat)
  /-- INJECT_START (R347): INJ_DELAY ticks after a pulse-width event, the injected sequence starts and interrupts the regular
  one. -/
  | injectStart
  /-- MON_CTL_WRITE (R348): A write of MGT.MON_CTL.REF_EN enables or disables the monitor reference buffer. -/
  | monCtlWrite (v : Nat)
  /-- REF_SETTLED (R348): 400 us have passed since REF_EN became 1, and REF_SETTLED is set. -/
  | refSettled
  /-- LOG_COMMIT (R353): Staged log entries are committed to the event ring, eight at a time or after 10 ms, with seal records
  due. -/
  | logCommit
  /-- LOG_SEL_WRITE (R354): A write of MGT.LOG_SEL_LO starts a multi-entry read into the register window. -/
  | logSelWrite (v : Nat)
  /-- MGT_CLR_COUNTS (R357): MGT.CMD.CLR_COUNTS clears the monitor, log-drop and mailbox counters. -/
  | mgtClrCounts
  /-- BIST_SLICE_DONE (R387): A BIST slice ends; results are compared, state is restored, and repeated failures retire the slice
  or withdraw the unit; `results` what the test of each part gave. -/
  | bistSliceDone (g : Nat) (results : List PartTest)
  /-- SIG_SEL_WRITE (R391): A write of BST.SIG_SEL copies the selected part's signatures into SIG and GOLD. -/
  | sigSelWrite (v : Nat)
  /-- BST_CLR_COUNTS (R391): BST.CMD.CLR_COUNTS clears BST.GROUP_COUNTS. -/
  | bstClrCounts
  /-- EVT_STATUS_CLEAR (R411): A W1C write of EVT.STATUS clears latched source bits. -/
  | evtStatusClear (i : Nat) (v : Nat)
  /-- EVT_MASK_WRITE (R412): A write of EVT.MASK that clears a bit whose STATUS is 1 sends one MSI-X message. -/
  | evtMaskWrite (i : Nat) (v : Nat)
  /-- EVT_CLR_COUNTS (R423): EVT.CMD.CLR_COUNTS clears every event count. -/
  | evtClrCounts
  /-- EVT_CLR_STATUS (R411): EVT.CMD.CLR_STATUS clears every STATUS bit. -/
  | evtClrStatus
  /-- RESET_N_RELEASE (R456): RESET_N is released once the rails and crystal allow, and the device leaves reset and begins LOAD.
  -/
  | resetNRelease
  /-- PWR_EVT_DEASSERT (R347): Every pulse-width source is deasserted, which re-enables the forming of the next pulse-width
  event. -/
  | pwrEvtDeassert
  /-- TRIG_IN_DEACTIVATION (R138): A TRIG_IN pin's filtered level returns to inactive after a gap of 4 or more samples, ending a
  level-mode activation and clearing STUCK; pin `i`; the edge `ago` 2^-23 ns before this cycle; `gaps` rejected before it. -/
  | trigInDeactivation (i : Nat) (ago : Nat) (gaps : Nat)
  /-- PHASE_STEP_SETTLED (R42): After a REFCLK phase step, the residual phase error reaches 100 ps and the PHASE_HIT interval
  ends or awaits the next on-time epoch pulse. -/
  | phaseStepSettled
  /-- MAKEUP_BURST_END (R259): A make-up refresh burst ends, the rank accepts accesses again and a waiting retraining pause may
  start. -/
  | makeupBurstEnd (c : Nat) (r : Nat)
  /-- LINK_REREAD_COMPLETE (R292): The 8-byte LINK re-read of a parked queue returns, and the queue follows the link or stays
  parked; queue `q`, LINK as read. -/
  | linkRereadComplete (q : Nat) (link : Nat)
  /-- MSIX_VECTOR_UNMASK (R430): Host software clears an MSI-X vector mask or the function mask, and the messages pending for it
  are sent; `vector`, or none for the function mask. -/
  | msixVectorUnmask (vector : Option Nat)
  /-- RESIZABLE_BAR_WRITE (R425): A write of the Resizable BAR control sets a new BAR2 size, which the device applies at once;
  `log2` of the new size. -/
  | resizableBarWrite (log2 : Nat)
  /-- D3HOT_EXIT (R433): The function returns from D3hot to D0 and decodes its BARs again without a reset. -/
  | d3hotExit
  /-- CRYSTAL_START (R458): A clock source appears while LOAD waits at step 6 with neither REFCLK nor crystal, and LOAD
  continues; `ref` REFCLK gives edges within tolerance. -/
  | crystalStart (ref : Bool)
  deriving DecidableEq, Repr

end Sys2Proof
end

