-- ==== Sys2Proof/Decode.lean ====
section
/-!
DEFINITION. The command table gives no row any bits: the block's commands have no words.
-/

namespace Sys2Proof

/-- The command that a word spells by the bits of the command table, which gives none. -/
def decodeTableWord (_nbits _w : Nat) : Option Instr := none

end Sys2Proof
end

