-- ==== Sys2Proof/Config.lean ====
section
/-!
DEFINITION. What one unit fixes (fuses, silicon, boot ROM), the standard functions the spec names without restating them,
and the free values. Each rests on opaque constants: nothing can be proved of a value but the form the spec gives it, so a statement
holds for all of them.
-/

namespace Sys2Proof.Config

/-- Silicon stepping, DEV.ID.STEPPING: fuses (log entry 3). -/
opaque stepping : Nat
/-- Ordering code, DEV.ID.ORDER: fuses (log entry 3). -/
opaque orderCode : Nat
/-- ROM microcode version, SEQ.VERSION.ROM_VERSION: per stepping (log entry 3). -/
opaque romVersion : Nat
/-- Boot ROM version, returned by GET_IDENTITY (R343; log entry 3). -/
opaque bootRomVersion : Nat
/-- Design weight of SAR decision `b` in 1/64 LSB, the reset value of CAL.SLICE_WEIGHT (log entry 3). -/
opaque designWeight : Nat → Nat
/-- Byte `i`, 1 to 96, of the identity public key: X and Y of its point (R358; log entry 3). -/
opaque idPoint : Nat → BitVec 8
/-- Byte `i` of the identity public key, the uncompressed point 0x04, X, Y (R358). -/
def idByte (i : Nat) : BitVec 8 := if i = 0 then 4 else idPoint i
/-- The 97 bytes of the identity public key (R358). -/
def idKey : List Byte := (List.range 97).map idByte
/-- Dword `i` of the identity public key, SEC.IDKEY: the last one holds byte 96 alone (R358, R377). -/
def idKeyWord (i : Nat) : Nat :=
  if i < 24 then (idByte (4 * i)).toNat + 2 ^ 8 * (idByte (4 * i + 1)).toNat + 2 ^ 16 * (idByte (4 * i + 2)).toNat +
    2 ^ 24 * (idByte (4 * i + 3)).toNat
  else (idByte 96).toNat
/-- Serial number of the unit, 16 bytes (R358; log entry 3). -/
opaque serial : List Byte
/-- Byte `i`, 1 to 96, of Catraeno's root public key (R358; log entry 3). -/
opaque rootPoint : Nat → BitVec 8
/-- The 97 bytes of Catraeno's root public key (R358). -/
def rootKey : List Byte := 4 :: (List.range 96).map fun i => rootPoint (i + 1)
/-- The SVN byte of the identity certificate (Table 15-2; log entry 3). -/
opaque certSvn : Nat
/-- Golden signature of part `q` of partition `p`, boot ROM (R379; log entry 3). -/
opaque golden : Nat → Nat → Nat

/-- Factory trunk-to-trunk delay difference of trunk `g` in 0.01 ps (R94; log entry 3). -/
opaque trunkDelay : Nat → Int
/-- Factory trunk-to-trunk gain difference of trunk `g` in 0.001 dB (R94; log entry 3). -/
opaque trunkGain : Nat → Int
/-- Factory values of a calibrated quantity: kind and item (R105; log entry 3). -/
opaque factory : Nat → Nat → List Int
/-- Bytes of calibration history record `n`, whose layout the spec does not give (R105; log entry 19). -/
opaque calRecord : Nat → List Byte
/-- Offset in its area of calibration history record `n` (Table 14-7; log entry 19). -/
opaque calOffset : Nat → Nat

/-- `n` bytes of a list. -/
def fit (n : Nat) (l : List Byte) : List Byte := (l ++ List.replicate n 0).take n
/-- The value of SHA-384 (R352, R359; log entry 4). -/
opaque sha384Of : List Byte → List Byte
/-- SHA-384 as 48 bytes (R352, R359). -/
def sha384 (bs : List Byte) : List Byte := fit 48 (sha384Of bs)
/-- Catraeno root hash of the boot ROM: the key hash of its root key (R358). -/
def rootHash : List Byte := sha384 rootKey
/-- HMAC-SHA-384 under the record root RR, 48 bytes (R358, R368; log entry 4). -/
opaque hmacRR : List Byte → List Byte
/-- AES-256-GCM tag of an empty plaintext: key, IV, additional data; 16 bytes (R369; log entry 4). -/
opaque gcmTag : List Byte → List Byte → List Byte → List Byte
/-- r and s of the ECDSA P-384 signature of the bytes under the identity key, a function of them: its nonce is that of RFC 6979 (R359; log
entry 4). -/
opaque idSignature : List Byte → List Byte
/-- The identity key's signature over SHA-384 of the bytes: r and s, 48 bytes each (R359). -/
def signId (bs : List Byte) : List Byte := fit 96 (idSignature bs)
/-- Catraeno's signature over SHA-384 of the bytes, which the identity certificate carries (R358; log entry 4). -/
opaque rootSignature : List Byte → List Byte
/-- Catraeno's signature over SHA-384 of the bytes: r and s, 48 bytes each (R359). -/
def signRoot (bs : List Byte) : List Byte := fit 96 (rootSignature bs)
/-- The 96 data bits of ROM word `a` of the sequencers (R320, R321; log entry 3). -/
opaque romWord : Nat → BitVec 96
/-- The 8 SECDED check bits of a patch RAM word, whose code the spec does not give (R320; log entry 121). -/
opaque secded : BitVec 96 → BitVec 8
/-- Retry rounds of step `n` of the power-up calibration that began at a cycle (R90; log entry 100). -/
opaque calRounds : Nat → Nat → Nat
/-- Items of step `n` of the calibration that began at a cycle still in hand after attempt `a` (R90; log entry 100). -/
opaque calLeft : Nat → Nat → Nat → Nat
/-- Further attempts of the background run of a slice that began at a cycle (Table 04-5; log entry 100). -/
opaque bgRounds : Nat → Nat → Nat
/-- Die temperature at step `n` of the calibration that began at a cycle (R105; log entry 2). -/
opaque dieTemp : Nat → Nat → Nat
/-- What ECDSA P-384 decides of bytes, a public key and a signature (R359, R361; log entry 4). -/
opaque ecdsaValid : List Byte → List Byte → List Byte → Bool
/-- Whether a 96-byte signature is valid for the bytes under a 97-byte public key: what the holder of a key signed is, and ECDSA decides of
every other (R359, R361). -/
def sigValid (bs pub sig : List Byte) : Bool :=
  (pub == idKey && sig == signId bs) || (pub == rootKey && sig == signRoot bs) || ecdsaValid bs pub sig
/-- How long step `n` of Table 17-12 that began at a cycle shows, in cycles, within its maximum (R405; log entry 125). -/
opaque stepTime : Nat → Nat → Nat
/-- The weighted sum of SAR decisions that stands for 0, in 1/64 LSB, which the spec does not give (R71; log entry 93). -/
opaque sarZero : Int
/-- The factor of a trunk gain of `g` 0.001 dB, in 2^-30 (R71, Table 04-1; log entry 93). -/
opaque trunkFactor : Int → Int
/-- Tap `k`, -4 to 4, of the fixed 9-tap differentiator, in 2^-30 per sample (R71; log entry 93). -/
opaque diffTap : Int → Int
/-- A sample's estimate in 2^-21 LSB from the four samples before it and the four after it, nearest first, on a channel of so many
slots (R101; log entry 97). -/
opaque interpolated : Nat → List Int → List Int → Int
/-- The gain estimate, in 2^-30, of a slot from its power and the mean power over all slots, both times the same number (R101; log
entry 97). -/
opaque gainEstimate : Nat → Nat → Int
/-- The skew estimate, in 2^-8 fs, of slot `j` of a window without slope, F = 0 (R101; log entry 97). -/
opaque noSlope : Nat → Int
/-- Activations of a bank after which its device requires refresh management (R262; log entry 101). -/
opaque rfmThreshold : Nat
/-- The frequency of the neighbour on a port less this unit's, in ppm, within 400 (R219; log entry 106). -/
opaque portDrift : Nat → Int
/-- The byte the display shows for the byte at an address that reads as poisoned, which the spec does not give (R249, R265; log entry
103). -/
opaque poisonShown : Nat → BitVec 8
/-- The pixel that an underrun repeats when no pixel has been sent before it, which the spec does not give (R310; log entry 103). -/
opaque noPixel : Nat × Nat × Nat
/-- KiB in the display's fetch buffer at a cycle, within what panic tells of it (R309; log entry 113). -/
opaque fetchFill : Nat → Nat
/-- Sample `n` of channel `c` where no command has delivered it: a free value (log entry 25). -/
opaque unseen : Nat → Int → BitVec 12
/-- A fresh free value: the n-th value the spec leaves open (log entry 2). -/
opaque freeValue : Nat → Nat

end Sys2Proof.Config
end

