-- ==== Sys2Proof/Machine/Registers.lean ====
section
/-!
DEFINITION. The register fields of BAR0, written from the register tables of spec/ (one definition per field, named as
the spec names it). A field is where it stands (the number of its lowest bit, counted from BAR0 offset 0), its width and
its value after device reset (R8). The register file of the machine is one table keyed by that bit number.
-/

namespace Sys2Proof.Machine

/-- A register field: `addr` is 8 times its register's BAR0 offset plus its lowest bit, `width` its bits, `reset` its
value after device reset (R8; a log entry where the Reset column gives no number). -/
structure Fld where
  addr : Nat
  width : Nat
  reset : Nat
  deriving DecidableEq, Repr

/-- Whether event source `n` is a fault, Table 18-1 (R410). -/
def isFaultSource (n : Nat) : Bool :=
  n == 1 || n == 16 || n == 22 || n == 24 || (48 ≤ n && n ≤ 55) || n == 60 ||
  (72 ≤ n && n ≤ 111 && ((n - 72) % 5 == 0 || (n - 72) % 5 == 1)) ||
  n == 112 || n == 113 || n == 117 || n == 123 || n == 124 ||
  (136 ≤ n && n ≤ 183 && ((n - 136) % 4 == 1 || (n - 136) % 4 == 3)) ||
  (184 ≤ n && n ≤ 199) || n == 219 || n == 220 || (224 ≤ n && n ≤ 229) ||
  n == 239 || n == 241 || n == 248 || n == 250

/-- 1 for a fault source, 0 for a notice or reserved one: the value R414 gives ROUTE.ALERT and ROUTE.LOG of a source
whose fields the image does not set. -/
def evtFaultBit (n : Nat) : Nat := if isFaultSource n then 1 else 0

/-- EVT.CLASS[i]: bit `j` is 1 when source `32 i + j` is a fault (Table 18-1). -/
def evtClassWord (i : Nat) : Nat :=
  ((List.range 32).map fun j => evtFaultBit (32 * i + j) * 2 ^ j).sum

/-- EVT.MASK[i] where the image sets nothing: 1 for a notice and 0 for a fault (R414). -/
def evtMaskReset (i : Nat) : Nat := 2 ^ 32 - 1 - evtClassWord i

/-- Dword `i` of the unit's serial number, byte 0 in bits 7:0 (R9, SEC.SERIAL). -/
def serialDword (i : Nat) : Nat :=
  ((List.range 4).map fun j => (Config.serial.getD (4 * i + j) 0).toNat * 2 ^ (8 * j)).sum

/-! ### TIME block -/

/-- TIME.CFG bits 1:0, RO, reset 0b00: From the image: 0b00 crystal only, 0b01 REFCLK 10 MHz, 0b10 REFCLK 100 MHz; an image giving 0b11 is refused at LOAD (R30) -/
def TIME.CFG.REF_MODE : Fld := ⟨8 * (0x10000) + 0, 2, 0⟩

/-- TIME.CFG bits 2:2, RO, reset 0: 1: EPOCH_IN in use -/
def TIME.CFG.EPOCH_EN : Fld := ⟨8 * (0x10000) + 2, 1, 0⟩

/-- TIME.CFG bits 3:3, RO, reset 0: 0 REPORT, 1 REALIGN -/
def TIME.CFG.SLIP_POLICY : Fld := ⟨8 * (0x10000) + 3, 1, 0⟩

/-- TIME.STATUS bits 1:0, RO, reset 0b00: 0 CRYSTAL, 1 LOCKED, 2 HOLDOVER, 3 ACQUIRING -/
def TIME.STATUS.SOURCE : Fld := ⟨8 * (0x10004) + 0, 2, 0⟩

/-- TIME.STATUS bits 2:2, RO, reset 0: Sampling PLL locked -/
def TIME.STATUS.SPLL_LOCK : Fld := ⟨8 * (0x10004) + 2, 1, 0⟩

/-- TIME.STATUS bits 3:3, RO, reset 0: PHASE_HIT interval active -/
def TIME.STATUS.PHASE_HIT : Fld := ⟨8 * (0x10004) + 3, 1, 0⟩

/-- TIME.STATUS bits 4:4, RO, reset 0: HOLDOVER interval active -/
def TIME.STATUS.HOLDOVER : Fld := ⟨8 * (0x10004) + 4, 1, 0⟩

/-- TIME.STATUS bits 5:5, RO, reset 0: An epoch load has applied and the last pulse was on time -/
def TIME.STATUS.EPOCH_ALIGNED : Fld := ⟨8 * (0x10004) + 5, 1, 0⟩

/-- TIME.CMD bits 0:0, W1S, reset 0: Captures the timestamp of the current fabric cycle into the SNAP registers; reads 1 until done -/
def TIME.CMD.SNAP : Fld := ⟨8 * (0x10008) + 0, 1, 0⟩

/-- TIME.CMD bits 1:1, W1S, reset 0: Arms an epoch load; reads 1 until it applies; ignored, reading 0, when EPOCH_EN = 0 (R37) -/
def TIME.CMD.EPOCH_ARM : Fld := ⟨8 * (0x10008) + 1, 1, 0⟩

/-- TIME.CMD bits 2:2, W1S, reset 0: Clears TIME.COUNTS and TIME.SCHED_COUNTS; reads 1 until done -/
def TIME.CMD.CLR_COUNTS : Fld := ⟨8 * (0x10008) + 2, 1, 0⟩

/-- TIME.TICK_LO bits 31:0, RO, reset 0: Tick count bits 31:0; a read latches bits 47:32 into TIME.TICK_HI -/
def TIME.TICK_LO.TICK : Fld := ⟨8 * (0x10010) + 0, 32, 0⟩

/-- TIME.TICK_HI bits 15:0, RO, reset 0: Tick count bits 47:32, as latched by the last read of TIME.TICK_LO -/
def TIME.TICK_HI.TICK : Fld := ⟨8 * (0x10014) + 0, 16, 0⟩

/-- TIME.SNAP_TICK_LO bits 31:0, RO, reset 0: Snapshot tick bits 31:0 -/
def TIME.SNAP_TICK_LO.TICK : Fld := ⟨8 * (0x10018) + 0, 32, 0⟩

/-- TIME.SNAP_TICK_HI bits 15:0, RO, reset 0: Snapshot tick bits 47:32 -/
def TIME.SNAP_TICK_HI.TICK : Fld := ⟨8 * (0x1001C) + 0, 16, 0⟩

/-- TIME.SNAP_FRAC bits 23:0, RO, reset 0: Snapshot fraction, at a resolution of one fabric cycle -/
def TIME.SNAP_FRAC.FRAC : Fld := ⟨8 * (0x10020) + 0, 24, 0⟩

/-- TIME.EPOCH_PERIOD bits 31:0, RO, reset 0x05F5_E100: Epoch period in ticks, from the image -/
def TIME.EPOCH_PERIOD.PERIOD : Fld := ⟨8 * (0x10024) + 0, 32, 100000000⟩

/-- TIME.EPOCH_NUM bits 31:0, RO, reset 0: Current epoch number, as R36 and R37 define -/
def TIME.EPOCH_NUM.NUM : Fld := ⟨8 * (0x10028) + 0, 32, 0⟩

/-- TIME.EPOCH_LOAD_NUM bits 31:0, RW, reset 0: Epoch number applied by the next epoch load -/
def TIME.EPOCH_LOAD_NUM.NUM : Fld := ⟨8 * (0x1002C) + 0, 32, 0⟩

/-- TIME.EPOCH_LOAD_TICK_LO bits 31:0, RW, reset 0: Tick bits 31:0 applied by the next epoch load -/
def TIME.EPOCH_LOAD_TICK_LO.TICK : Fld := ⟨8 * (0x10030) + 0, 32, 0⟩

/-- TIME.EPOCH_LOAD_TICK_HI bits 15:0, RW, reset 0: Tick bits 47:32 applied by the next epoch load -/
def TIME.EPOCH_LOAD_TICK_HI.TICK : Fld := ⟨8 * (0x10034) + 0, 16, 0⟩

/-- TIME.SLIP_LAST bits 31:0, RO, reset 0: Signed d of the last epoch slip in ticks, saturating -/
def TIME.SLIP_LAST.OFFSET : Fld := ⟨8 * (0x10038) + 0, 32, 0⟩

/-- TIME.COUNTS bits 7:0, RO, reset 0: REFCLK losses, saturating at 255 -/
def TIME.COUNTS.REF_LOSS : Fld := ⟨8 * (0x1003C) + 0, 8, 0⟩

/-- TIME.COUNTS bits 15:8, RO, reset 0: Phase steps, saturating at 255 -/
def TIME.COUNTS.PHASE_HIT : Fld := ⟨8 * (0x1003C) + 8, 8, 0⟩

/-- TIME.COUNTS bits 23:16, RO, reset 0: Epoch-slip events, surplus pulses included (R38), saturating at 255 -/
def TIME.COUNTS.SLIP : Fld := ⟨8 * (0x1003C) + 16, 8, 0⟩

/-- TIME.COUNTS bits 31:24, RO, reset 0: Missing pulses, saturating at 255 -/
def TIME.COUNTS.EPOCH_MISSING : Fld := ⟨8 * (0x1003C) + 24, 8, 0⟩

/-- TIME.SCHED_COUNTS bits 15:0, RO, reset 0: STALE outcomes, saturating at 65 535 -/
def TIME.SCHED_COUNTS.STALE : Fld := ⟨8 * (0x10040) + 0, 16, 0⟩

/-- TIME.SCHED_COUNTS bits 31:16, RO, reset 0: DEADLINE outcomes, saturating at 65 535 -/
def TIME.SCHED_COUNTS.DEADLINE : Fld := ⟨8 * (0x10040) + 16, 16, 0⟩

/-- TIME.SCHED_TICK_LO[n] bits 31:0, RW, reset 0: Entry tick bits 31:0 -/
def TIME.SCHED_TICK_LO.TICK (n : Nat) : Fld := ⟨8 * (0x11000 + 32 * n) + 0, 32, 0⟩

/-- TIME.SCHED_TICK_HI[n] bits 15:0, RW, reset 0: Entry tick bits 47:32 -/
def TIME.SCHED_TICK_HI.TICK (n : Nat) : Fld := ⟨8 * (0x11004 + 32 * n) + 0, 16, 0⟩

/-- TIME.SCHED_ACT[n] bits 7:0, RW, reset 0x00: Action code, Table 02-4 -/
def TIME.SCHED_ACT.ACTION (n : Nat) : Fld := ⟨8 * (0x11008 + 32 * n) + 0, 8, 0⟩

/-- TIME.SCHED_ACT[n] bits 8:8, RW, reset 0: 0 DROP, 1 RUN_LATE -/
def TIME.SCHED_ACT.POLICY (n : Nat) : Fld := ⟨8 * (0x11008 + 32 * n) + 8, 1, 0⟩

/-- TIME.SCHED_ARG[n] bits 31:0, RW, reset 0: Argument, Table 02-4 -/
def TIME.SCHED_ARG.ARG (n : Nat) : Fld := ⟨8 * (0x1100C + 32 * n) + 0, 32, 0⟩

/-- TIME.SCHED_LIMIT[n] bits 15:0, RW, reset 0: Maximum lateness in ticks under RUN_LATE -/
def TIME.SCHED_LIMIT.LATE_MAX (n : Nat) : Fld := ⟨8 * (0x11010 + 32 * n) + 0, 16, 0⟩

/-- TIME.SCHED_LIMIT[n] bits 31:16, RW, reset 0: Start window in ticks; 0 requires a start in the dispatch tick -/
def TIME.SCHED_LIMIT.WINDOW (n : Nat) : Fld := ⟨8 * (0x11010 + 32 * n) + 16, 16, 0⟩

/-- TIME.SCHED_PERIOD[n] bits 31:0, RW, reset 0: Period in ticks; 0 means a single occurrence -/
def TIME.SCHED_PERIOD.PERIOD (n : Nat) : Fld := ⟨8 * (0x11014 + 32 * n) + 0, 32, 0⟩

/-- TIME.SCHED_CMD[n] bits 0:0, W1S, reset 0: Commits the entry under R44 and R45; reads 1 while committed -/
def TIME.SCHED_CMD.COMMIT (n : Nat) : Fld := ⟨8 * (0x11018 + 32 * n) + 0, 1, 0⟩

/-- TIME.SCHED_CMD[n] bits 1:1, W1S, reset 0: Cancels the entry under R51; reads 0 -/
def TIME.SCHED_CMD.CANCEL (n : Nat) : Fld := ⟨8 * (0x11018 + 32 * n) + 1, 1, 0⟩

/-- TIME.SCHED_STATUS[n] bits 2:0, RO, reset 0: 0 IDLE, 1 COMMITTED, 2 EXECUTED, 3 STALE, 4 DEADLINE, 5 CANCELLED, 6 REFUSED (R48); a periodic entry shows the outcome of its last occurrence while it stays committed -/
def TIME.SCHED_STATUS.STATE (n : Nat) : Fld := ⟨8 * (0x1101C + 32 * n) + 0, 3, 0⟩

/-- TIME.SCHED_STATUS[n] bits 6:3, RO, reset 0: Refusal code of the last REFUSED outcome under R48; 0 for any other outcome -/
def TIME.SCHED_STATUS.CODE (n : Nat) : Fld := ⟨8 * (0x1101C + 32 * n) + 3, 4, 0⟩

/-- TIME.SCHED_STATUS[n] bits 15:8, RO, reset 0: Occurrences skipped under R49 since the last commit, saturating at 255; cleared at commit (R49) -/
def TIME.SCHED_STATUS.SKIPPED (n : Nat) : Fld := ⟨8 * (0x1101C + 32 * n) + 8, 8, 0⟩

/-- TIME.SCHED_STATUS[n] bits 31:16, RO, reset 0: Lateness of the last execution in ticks, saturating at 65 535 -/
def TIME.SCHED_STATUS.LATE_BY (n : Nat) : Fld := ⟨8 * (0x1101C + 32 * n) + 16, 16, 0⟩

/-! ### CNV block -/

/-- CNV.LAYOUT bits 3:0, RO, reset 0x0: From the image: bit g is 1 when group g is in trunk mode -/
def CNV.LAYOUT.MODE : Fld := ⟨8 * (0x20000) + 0, 4, 0⟩

/-- CNV.LAYOUT bits 6:4, RO, reset 0: From the image: 0 none, 1 trunks 0+1, 2 trunks 2+3, 3 both pairs, 4 all four -/
def CNV.LAYOUT.JOIN : Fld := ⟨8 * (0x20000) + 4, 3, 0⟩

/-- CNV.UNUSED_LO bits 31:0, RO, reset 0: From the image: bit i is 1 when narrow input NIN(i) is unused under R59 -/
def CNV.UNUSED_LO.UNUSED : Fld := ⟨8 * (0x20004) + 0, 32, 0⟩

/-- CNV.UNUSED_HI bits 31:0, RO, reset 0: From the image: bit i is 1 when narrow input NIN(32+i) is unused -/
def CNV.UNUSED_HI.UNUSED : Fld := ⟨8 * (0x20008) + 0, 32, 0⟩

/-- CNV.CMD bits 0:0, W1S, reset 0: Takes a snapshot under R85; reads 1 until done -/
def CNV.CMD.SNAP_MAP : Fld := ⟨8 * (0x2000C) + 0, 1, 0⟩

/-- CNV.CMD bits 1:1, W1S, reset 0: Clears CNV.SHUFFLE_COUNT, CNV.OVER_COUNT and CNV.UNDER_COUNT; reads 1 until done -/
def CNV.CMD.CLR_COUNTS : Fld := ⟨8 * (0x2000C) + 1, 1, 0⟩

/-- CNV.GROUP_STATUS[g] bits 4:0, RO, reset 16: Resting position r, 0–16 -/
def CNV.GROUP_STATUS.REST (g : Nat) : Fld := ⟨8 * (0x20010 + 4 * g) + 0, 5, 16⟩

/-- CNV.GROUP_STATUS[g] bits 5:5, RO, reset 0: 0 DOWN, 1 UP -/
def CNV.GROUP_STATUS.DIR (g : Nat) : Fld := ⟨8 * (0x20010 + 4 * g) + 5, 1, 0⟩

/-- CNV.GROUP_STATUS[g] bits 6:6, RO, reset 0: 1: a slice is retired and the position is fixed (R80) -/
def CNV.GROUP_STATUS.FIXED (g : Nat) : Fld := ⟨8 * (0x20010 + 4 * g) + 6, 1, 0⟩

/-- CNV.GROUP_STATUS[g] bits 7:7, RO, reset 1: 1: the group has a resting unit (R82) -/
def CNV.GROUP_STATUS.SPARE_UNIT (g : Nat) : Fld := ⟨8 * (0x20010 + 4 * g) + 7, 1, 1⟩

/-- CNV.GROUP_STATUS[g] bits 10:8, RO, reset 0: 0 idle, 1 settle, 2 shadow, 3 evaluate, 4 wait for switch, 5 release -/
def CNV.GROUP_STATUS.STEP (g : Nat) : Fld := ⟨8 * (0x20010 + 4 * g) + 8, 3, 0⟩

/-- CNV.SHUFFLE_COUNT[g] bits 15:0, RO, reset 0: Completed steps, saturating at 65 535 -/
def CNV.SHUFFLE_COUNT.STEPS (g : Nat) : Fld := ⟨8 * (0x20020 + 4 * g) + 0, 16, 0⟩

/-- CNV.SHUFFLE_COUNT[g] bits 23:16, RO, reset 0: Aborted steps, inconclusive ones included, saturating at 255 -/
def CNV.SHUFFLE_COUNT.ABORTS (g : Nat) : Fld := ⟨8 * (0x20020 + 4 * g) + 16, 8, 0⟩

/-- CNV.SHUFFLE_COUNT[g] bits 31:24, RO, reset 0: Skipped steps, saturating at 255 -/
def CNV.SHUFFLE_COUNT.SKIPS (g : Nat) : Fld := ⟨8 * (0x20020 + 4 * g) + 24, 8, 0⟩

/-- CNV.SHADOW_LAST[g] bits 15:0, RO, reset 0: Signed mean difference of the last shadow frame in 1/64 LSB, saturating -/
def CNV.SHADOW_LAST.MEAN (g : Nat) : Fld := ⟨8 * (0x20030 + 4 * g) + 0, 16, 0⟩

/-- CNV.SHADOW_LAST[g] bits 31:16, RO, reset 0: Rms difference of the last shadow frame in 1/64 LSB, saturating at 65 535 -/
def CNV.SHADOW_LAST.RMS (g : Nat) : Fld := ⟨8 * (0x20030 + 4 * g) + 16, 16, 0⟩

/-- CNV.LAST_SWITCH_LO[g] bits 31:0, RO, reset 0: Tick bits 31:0 of the group's last switch instant; a read latches bits 47:32 into CNV.LAST_SWITCH_HI[g] -/
def CNV.LAST_SWITCH_LO.TICK (g : Nat) : Fld := ⟨8 * (0x20040 + 8 * g) + 0, 32, 0⟩

/-- CNV.LAST_SWITCH_HI[g] bits 15:0, RO, reset 0: Tick bits 47:32, as latched by the last read of CNV.LAST_SWITCH_LO[g] -/
def CNV.LAST_SWITCH_HI.TICK (g : Nat) : Fld := ⟨8 * (0x20044 + 8 * g) + 0, 16, 0⟩

/-- CNV.LANE_MAP[l] bits 6:0, RO, reset 0: Slice serving lane l, 0–67, at the last snapshot -/
def CNV.LANE_MAP.SLICE (l : Nat) : Fld := ⟨8 * (0x20100 + 4 * l) + 0, 7, 0⟩

/-- CNV.LANE_MAP[l] bits 7:7, RO, reset 0: 1: the lane carries an unused narrow input -/
def CNV.LANE_MAP.UNUSED (l : Nat) : Fld := ⟨8 * (0x20100 + 4 * l) + 7, 1, 0⟩

/-- CNV.LANE_MAP[l] bits 13:8, RO, reset 0: Channel carried by the lane -/
def CNV.LANE_MAP.CHANNEL (l : Nat) : Fld := ⟨8 * (0x20100 + 4 * l) + 8, 6, 0⟩

/-- CNV.LANE_MAP[l] bits 21:16, RO, reset 0: Slot j within a wide channel; 0 for a narrow channel -/
def CNV.LANE_MAP.SLOT (l : Nat) : Fld := ⟨8 * (0x20100 + 4 * l) + 16, 6, 0⟩

/-- CNV.LANE_MAP[l] bits 29:24, RO, reset 0: Sampling phase 0–63; 0 for a narrow channel -/
def CNV.LANE_MAP.PHASE (l : Nat) : Fld := ⟨8 * (0x20100 + 4 * l) + 24, 6, 0⟩

/-- CNV.SLICE_STATUS[s] bits 1:0, RO, reset 0: At the last snapshot: 0 SERVING, 1 RESTING, 2 SHADOW, 3 RETIRED -/
def CNV.SLICE_STATUS.ROLE (s : Nat) : Fld := ⟨8 * (0x20200 + 4 * s) + 0, 2, 0⟩

/-- CNV.SLICE_STATUS[s] bits 2:2, RO, reset 0: 1: the slice's converter is powered; 0 for a retired slice (R80) and for a slice that serves an unused lane (R59) -/
def CNV.SLICE_STATUS.POWERED (s : Nat) : Fld := ⟨8 * (0x20200 + 4 * s) + 2, 1, 0⟩

/-- CNV.SLICE_STATUS[s] bits 13:8, RO, reset 0: Lane served, or shadowed in SHADOW; 0 otherwise -/
def CNV.SLICE_STATUS.LANE (s : Nat) : Fld := ⟨8 * (0x20200 + 4 * s) + 8, 6, 0⟩

/-- CNV.SLICE_STATUS[s] bits 17:16, RO, reset 0: Consecutive shadow failures, 0–3 -/
def CNV.SLICE_STATUS.SHADOW_FAIL (s : Nat) : Fld := ⟨8 * (0x20200 + 4 * s) + 16, 2, 0⟩

/-- CNV.OVER_COUNT[c] bits 31:0, RO, reset 0: Over-range samples (+2047) of channel c since the last clear, saturating at 4 294 967 295; reads 0 for a channel that does not exist -/
def CNV.OVER_COUNT.COUNT (c : Nat) : Fld := ⟨8 * (0x20400 + 4 * c) + 0, 32, 0⟩

/-- CNV.UNDER_COUNT[c] bits 31:0, RO, reset 0: Under-range samples (−2048) of channel c since the last clear, saturating at 4 294 967 295; reads 0 for a channel that does not exist -/
def CNV.UNDER_COUNT.COUNT (c : Nat) : Fld := ⟨8 * (0x20500 + 4 * c) + 0, 32, 0⟩

/-! ### CAL block -/

/-- CAL.STATUS bits 1:0, RO, reset 0: 0 IDLE, 1 POWERUP (CALIBRATE running), 2 DONE -/
def CAL.STATUS.STATE : Fld := ⟨8 * (0x30000) + 0, 2, 0⟩

/-- CAL.STATUS bits 5:2, RO, reset 0: Step of Table 04-2 in progress, 1–8; 0 outside CALIBRATE -/
def CAL.STATUS.STEP : Fld := ⟨8 * (0x30000) + 2, 4, 0⟩

/-- CAL.STATUS bits 7:6, RO, reset 0: Attempt in progress within the step, 1–3 -/
def CAL.STATUS.ATTEMPT : Fld := ⟨8 * (0x30000) + 6, 2, 0⟩

/-- CAL.STATUS bits 14:8, RO, reset 0: Percentage under R88 -/
def CAL.STATUS.PCT : Fld := ⟨8 * (0x30000) + 8, 7, 0⟩

/-- CAL.PROGRESS bits 15:0, RO, reset 0: Progress units finished under R88 -/
def CAL.PROGRESS.POS : Fld := ⟨8 * (0x30004) + 0, 16, 0⟩

/-- CAL.PROGRESS bits 31:16, RO, reset 0: Progress units of this CALIBRATE -/
def CAL.PROGRESS.TOTAL : Fld := ⟨8 * (0x30004) + 16, 16, 0⟩

/-- CAL.CMD bits 0:0, W1S, reset 0: Takes a value snapshot under R107; reads 1 until done -/
def CAL.CMD.SNAP : Fld := ⟨8 * (0x30008) + 0, 1, 0⟩

/-- CAL.CMD bits 1:1, W1S, reset 0: Clears CAL.COUNTS, and BG_FAILS-independent counters INSUFF and UPDATES of CAL.TRACK_STATUS; reads 1 until done -/
def CAL.CMD.CLR_COUNTS : Fld := ⟨8 * (0x30008) + 1, 1, 0⟩

/-- CAL.RUN_RESULT bits 11:0, RO, reset 0: Duration of the last CALIBRATE in ms -/
def CAL.RUN_RESULT.DURATION : Fld := ⟨8 * (0x3000C) + 0, 12, 0⟩

/-- CAL.RUN_RESULT bits 19:12, RO, reset 0: Items that needed a second or third attempt, saturating at 255 -/
def CAL.RUN_RESULT.RETRIES : Fld := ⟨8 * (0x3000C) + 12, 8, 0⟩

/-- CAL.RUN_RESULT bits 27:20, RO, reset 0: Items marked CAL_SUSPECT, saturating at 255 -/
def CAL.RUN_RESULT.SUSPECT : Fld := ⟨8 * (0x3000C) + 20, 8, 0⟩

/-- CAL.RUN_RESULT bits 29:28, RO, reset 0: 0 not run, 1 all items agreed, 2 at least one item CAL_SUSPECT -/
def CAL.RUN_RESULT.OUTCOME : Fld := ⟨8 * (0x3000C) + 28, 2, 0⟩

/-- CAL.BG_CFG bits 0:0, RO, reset 1: From the image: 1 enables tracking under R101 -/
def CAL.BG_CFG.TRACK_EN : Fld := ⟨8 * (0x30010) + 0, 1, 1⟩

/-- CAL.BG_CFG bits 15:8, RO, reset 16: From the image: condition 2 threshold in LSB² -/
def CAL.BG_CFG.SLOPE_MIN : Fld := ⟨8 * (0x30010) + 8, 8, 16⟩

/-- CAL.BG_CFG bits 20:16, RO, reset 22: From the image: log2 of the window in channel samples, 18–24 -/
def CAL.BG_CFG.WINDOW : Fld := ⟨8 * (0x30010) + 16, 5, 22⟩

/-- CAL.COUNTS bits 15:0, RO, reset 0: Completed background runs, all groups, saturating at 65 535 -/
def CAL.COUNTS.BG_RUNS : Fld := ⟨8 * (0x30014) + 0, 16, 0⟩

/-- CAL.COUNTS bits 23:16, RO, reset 0: Failed background runs, saturating at 255 -/
def CAL.COUNTS.BG_FAILED : Fld := ⟨8 * (0x30014) + 16, 8, 0⟩

/-- CAL.COUNTS bits 31:24, RO, reset 0: Tracking windows discarded under R104, saturating at 255 -/
def CAL.COUNTS.DISCARDS : Fld := ⟨8 * (0x30014) + 24, 8, 0⟩

/-- CAL.GROUP_RESULT[g] bits 4:0, RO, reset 0: Slices of the group not marked CAL_SUSPECT at the end of CALIBRATE, 0–17 -/
def CAL.GROUP_RESULT.GOOD (g : Nat) : Fld := ⟨8 * (0x30020 + 4 * g) + 0, 5, 0⟩

/-- CAL.GROUP_RESULT[g] bits 5:5, RO, reset 0: 1: trunk g was live at the pre-check of R93 -/
def CAL.GROUP_RESULT.LIVE_TRUNK (g : Nat) : Fld := ⟨8 * (0x30020 + 4 * g) + 5, 1, 0⟩

/-- CAL.GROUP_RESULT[g] bits 6:6, RO, reset 0: 1: a narrow input of group g was live at the pre-check -/
def CAL.GROUP_RESULT.LIVE_NARROW (g : Nat) : Fld := ⟨8 * (0x30020 + 4 * g) + 6, 1, 0⟩

/-- CAL.GROUP_RESULT[g] bits 14:8, RO, reset 0: Phases of the group marked CAL_SUSPECT, 0–64 -/
def CAL.GROUP_RESULT.PHASE_SUSP (g : Nat) : Fld := ⟨8 * (0x30020 + 4 * g) + 8, 7, 0⟩

/-- CAL.TRUNK_TRIM[g] bits 5:0, RO, reset 0: Signed trunk delay trim in 0.25 ps, −24 to +24; 0 for a reference or unjoined trunk -/
def CAL.TRUNK_TRIM.DELAY (g : Nat) : Fld := ⟨8 * (0x30030 + 4 * g) + 0, 6, 0⟩

/-- CAL.TRUNK_TRIM[g] bits 27:16, RO, reset 0: Signed trunk gain in 0.001 dB, −1000 to +1000 -/
def CAL.TRUNK_TRIM.GAIN (g : Nat) : Fld := ⟨8 * (0x30030 + 4 * g) + 16, 12, 0⟩

/-- CAL.TRUNK_IMAGE[g] bits 15:0, RO, reset 0: From the image: signed splitter delay difference in 0.01 ps -/
def CAL.TRUNK_IMAGE.DELAY (g : Nat) : Fld := ⟨8 * (0x30040 + 4 * g) + 0, 16, 0⟩

/-- CAL.TRUNK_IMAGE[g] bits 31:16, RO, reset 0: From the image: signed splitter gain difference in 0.001 dB -/
def CAL.TRUNK_IMAGE.GAIN (g : Nat) : Fld := ⟨8 * (0x30040 + 4 * g) + 16, 16, 0⟩

/-- CAL.SLICE_STATE[s] bits 0:0, RO, reset 0: Offset CAL_SUSPECT -/
def CAL.SLICE_STATE.OFF_SUSP (s : Nat) : Fld := ⟨8 * (0x30A00 + 4 * s) + 0, 1, 0⟩

/-- CAL.SLICE_STATE[s] bits 1:1, RO, reset 0: Gain CAL_SUSPECT -/
def CAL.SLICE_STATE.GAIN_SUSP (s : Nat) : Fld := ⟨8 * (0x30A00 + 4 * s) + 1, 1, 0⟩

/-- CAL.SLICE_STATE[s] bits 2:2, RO, reset 0: Bit weights CAL_SUSPECT -/
def CAL.SLICE_STATE.WT_SUSP (s : Nat) : Fld := ⟨8 * (0x30A00 + 4 * s) + 2, 1, 0⟩

/-- CAL.SLICE_STATE[s] bits 3:3, RO, reset 0: Aperture trim CAL_SUSPECT -/
def CAL.SLICE_STATE.AP_SUSP (s : Nat) : Fld := ⟨8 * (0x30A00 + 4 * s) + 3, 1, 0⟩

/-- CAL.SLICE_STATE[s] bits 4:4, RO, reset 0: Loop-back check failed at step 7 -/
def CAL.SLICE_STATE.LB_FAIL (s : Nat) : Fld := ⟨8 * (0x30A00 + 4 * s) + 4, 1, 0⟩

/-- CAL.SLICE_STATE[s] bits 5:5, RO, reset 0: OR of bits 4:0; the slice is marked under R91 -/
def CAL.SLICE_STATE.SUSPECT (s : Nat) : Fld := ⟨8 * (0x30A00 + 4 * s) + 5, 1, 0⟩

/-- CAL.SLICE_STATE[s] bits 7:6, RO, reset 0: 0 power-up, 1 background, 2 history, 3 factory, under R105 -/
def CAL.SLICE_STATE.SRC (s : Nat) : Fld := ⟨8 * (0x30A00 + 4 * s) + 6, 2, 0⟩

/-- CAL.SLICE_STATE[s] bits 9:8, RO, reset 0: Consecutive failed background runs, 0–3 -/
def CAL.SLICE_STATE.BG_FAILS (s : Nat) : Fld := ⟨8 * (0x30A00 + 4 * s) + 8, 2, 0⟩

/-- CAL.SLICE_STATE[s] bits 12:10, RO, reset 0: 0 none, 1 settling, 2 calibrating, 3 loop-back, 4 ready, 5 failed -/
def CAL.SLICE_STATE.BG_STATE (s : Nat) : Fld := ⟨8 * (0x30A00 + 4 * s) + 10, 3, 0⟩

/-- CAL.SLICE_OG[s] bits 15:0, RO, reset 0: Signed slice offset in 1/64 LSB -/
def CAL.SLICE_OG.OFFSET (s : Nat) : Fld := ⟨8 * (0x30C00 + 4 * s) + 0, 16, 0⟩

/-- CAL.SLICE_OG[s] bits 31:16, RO, reset 0x8000: Slice gain, unsigned 1.15 -/
def CAL.SLICE_OG.GAIN (s : Nat) : Fld := ⟨8 * (0x30C00 + 4 * s) + 16, 16, 32768⟩

/-- CAL.SLICE_APERTURE[s] bits 7:0, RO, reset 0: Signed aperture trim in 10 fs; 0 for a slice of a narrow-mode group -/
def CAL.SLICE_APERTURE.TRIM (s : Nat) : Fld := ⟨8 * (0x30E00 + 4 * s) + 0, 8, 0⟩

/-- CAL.CHAN_STATE[c] bits 0:0, RO, reset 0: A phase used by the channel is CAL_SUSPECT -/
def CAL.CHAN_STATE.PHASE_SUSP (c : Nat) : Fld := ⟨8 * (0x30400 + 4 * c) + 0, 1, 0⟩

/-- CAL.CHAN_STATE[c] bits 1:1, RO, reset 0: A trunk trim of the channel failed at step 5 -/
def CAL.CHAN_STATE.TRIM_SUSP (c : Nat) : Fld := ⟨8 * (0x30400 + 4 * c) + 1, 1, 0⟩

/-- CAL.CHAN_STATE[c] bits 2:2, RO, reset 0: A slot offset is CAL_SUSPECT -/
def CAL.CHAN_STATE.OFF_SUSP (c : Nat) : Fld := ⟨8 * (0x30400 + 4 * c) + 2, 1, 0⟩

/-- CAL.CHAN_STATE[c] bits 3:3, RO, reset 0: A slot gain is CAL_SUSPECT -/
def CAL.CHAN_STATE.GAIN_SUSP (c : Nat) : Fld := ⟨8 * (0x30400 + 4 * c) + 3, 1, 0⟩

/-- CAL.CHAN_STATE[c] bits 4:4, RO, reset 0: A slot skew is CAL_SUSPECT -/
def CAL.CHAN_STATE.SKEW_SUSP (c : Nat) : Fld := ⟨8 * (0x30400 + 4 * c) + 4, 1, 0⟩

/-- CAL.CHAN_STATE[c] bits 5:5, RO, reset 0: A bandwidth tap is CAL_SUSPECT -/
def CAL.CHAN_STATE.BW_SUSP (c : Nat) : Fld := ⟨8 * (0x30400 + 4 * c) + 5, 1, 0⟩

/-- CAL.CHAN_STATE[c] bits 6:6, RO, reset 0: A trunk of the channel was live under R93 -/
def CAL.CHAN_STATE.LIVE (c : Nat) : Fld := ⟨8 * (0x30400 + 4 * c) + 6, 1, 0⟩

/-- CAL.CHAN_STATE[c] bits 7:7, RO, reset 0: OR of bits 6:0; the channel is marked until reset -/
def CAL.CHAN_STATE.SUSPECT (c : Nat) : Fld := ⟨8 * (0x30400 + 4 * c) + 7, 1, 0⟩

/-- CAL.CHAN_STATE[c] bits 9:8, RO, reset 0: 0 power-up, 2 history, 3 factory, under R105 -/
def CAL.CHAN_STATE.SRC (c : Nat) : Fld := ⟨8 * (0x30400 + 4 * c) + 8, 2, 0⟩

/-- CAL.TRACK_STATUS[c] bits 15:0, RO, reset 0: Sufficient windows applied, saturating at 65 535 -/
def CAL.TRACK_STATUS.UPDATES (c : Nat) : Fld := ⟨8 * (0x30500 + 4 * c) + 0, 16, 0⟩

/-- CAL.TRACK_STATUS[c] bits 23:16, RO, reset 0: Insufficient windows, saturating at 255 -/
def CAL.TRACK_STATUS.INSUFF (c : Nat) : Fld := ⟨8 * (0x30500 + 4 * c) + 16, 8, 0⟩

/-- CAL.TRACK_STATUS[c] bits 27:24, RO, reset 0: Conditions failed by the last insufficient window: bit 0 clip, bit 1 slope, bit 2 aperiodic, bit 3 halves -/
def CAL.TRACK_STATUS.REASON (c : Nat) : Fld := ⟨8 * (0x30500 + 4 * c) + 24, 4, 0⟩

/-- CAL.TRACK_STATUS[c] bits 28:28, RO, reset 0: A slot skew or gain is held at its limit under R103 -/
def CAL.TRACK_STATUS.LIMIT (c : Nat) : Fld := ⟨8 * (0x30500 + 4 * c) + 28, 1, 0⟩

/-- CAL.SLOT_OG[l] bits 15:0, RO, reset 0: Signed slot offset of lane l in 1/64 LSB; 0 for a narrow lane -/
def CAL.SLOT_OG.OFFSET (l : Nat) : Fld := ⟨8 * (0x30600 + 4 * l) + 0, 16, 0⟩

/-- CAL.SLOT_OG[l] bits 31:16, RO, reset 0x8000: Slot gain of lane l, unsigned 1.15 -/
def CAL.SLOT_OG.GAIN (l : Nat) : Fld := ⟨8 * (0x30600 + 4 * l) + 16, 16, 32768⟩

/-- CAL.SLOT_SKEW[l] bits 11:0, RO, reset 0: Signed slot skew of lane l in fs, −2000 to +2000 -/
def CAL.SLOT_SKEW.SKEW (l : Nat) : Fld := ⟨8 * (0x30700 + 4 * l) + 0, 12, 0⟩

/-- CAL.SLOT_BW0[l] bits 15:0, RO, reset 0x4000: Tap b(j,0) of lane l, signed 2.14 -/
def CAL.SLOT_BW0.B0 (l : Nat) : Fld := ⟨8 * (0x30800 + 4 * l) + 0, 16, 16384⟩

/-- CAL.SLOT_BW1[l] bits 15:0, RO, reset 0: Tap b(j,−1) of lane l, signed 2.14 -/
def CAL.SLOT_BW1.BM1 (l : Nat) : Fld := ⟨8 * (0x30900 + 4 * l) + 0, 16, 0⟩

/-- CAL.SLOT_BW1[l] bits 31:16, RO, reset 0: Tap b(j,+1) of lane l, signed 2.14 -/
def CAL.SLOT_BW1.BP1 (l : Nat) : Fld := ⟨8 * (0x30900 + 4 * l) + 16, 16, 0⟩

/-- CAL.PHASE_TRIM[i] bits 7:0, RO, reset 0: Signed phase-tap trim of phase p of group g in 10 fs -/
def CAL.PHASE_TRIM.TRIM (i : Nat) : Fld := ⟨8 * (0x31000 + 4 * i) + 0, 8, 0⟩

/-- CAL.PHASE_TRIM[i] bits 8:8, RO, reset 0: 1: the trim is CAL_SUSPECT -/
def CAL.PHASE_TRIM.SUSP (i : Nat) : Fld := ⟨8 * (0x31000 + 4 * i) + 8, 1, 0⟩

/-- CAL.SLICE_WEIGHT[i] bits 17:0, RO, reset Nominal: Weight of SAR decision b of slice s in 1/64 LSB; b = 0 is the first decision; the reset value is the design weight of the decision -/
def CAL.SLICE_WEIGHT.WEIGHT (i : Nat) : Fld := ⟨8 * (0x32000 + 4 * i) + 0, 18, Config.designWeight (i % 16)⟩

/-! ### TRG block -/

/-- TRG.CMD bits 0:0, W1S, reset 0: Clears PIN_COUNT, PIN_FILTER, OUT_COUNT and COALESCED of every slot; reads 1 until done -/
def TRG.CMD.CLR_COUNTS : Fld := ⟨8 * (0x40000) + 0, 1, 0⟩

/-- TRG.FORCE bits 7:0, W1S, reset 0: Bit k forces slot k under R133; reads 1 until the force is taken or cleared -/
def TRG.FORCE.FORCE : Fld := ⟨8 * (0x40004) + 0, 8, 0⟩

/-- TRG.LL_SEL bits 2:0, RW, reset 0: Slot whose list is read -/
def TRG.LL_SEL.SLOT : Fld := ⟨8 * (0x40008) + 0, 3, 0⟩

/-- TRG.LL_SEL bits 27:16, RW, reset 0: Entry index 0–4095; a write copies the entry into LL_DATA under R137 -/
def TRG.LL_SEL.INDEX : Fld := ⟨8 * (0x40008) + 16, 12, 0⟩

/-- TRG.LL_DATA[i] bits 31:0, RO, reset 0: Dword i of the copied entry, Table 05-7 -/
def TRG.LL_DATA.DATA (i : Nat) : Fld := ⟨8 * (0x40010 + 4 * i) + 0, 32, 0⟩

/-- TRG.PIN_CFG[i] bits 0:0, RO, reset 0: From the image: 0 edge, 1 level -/
def TRG.PIN_CFG.MODE (i : Nat) : Fld := ⟨8 * (0x40040 + 32 * i) + 0, 1, 0⟩

/-- TRG.PIN_CFG[i] bits 1:1, RO, reset 0: From the image: 0 active high, 1 active low -/
def TRG.PIN_CFG.POL (i : Nat) : Fld := ⟨8 * (0x40040 + 32 * i) + 1, 1, 0⟩

/-- TRG.PIN_CFG[i] bits 2:2, RO, reset 0: From the image: 1 pin in use -/
def TRG.PIN_CFG.IN_USE (i : Nat) : Fld := ⟨8 * (0x40040 + 32 * i) + 2, 1, 0⟩

/-- TRG.PIN_STUCK[i] bits 31:0, RO, reset 0: From the image: stuck time in ticks; 0 disables -/
def TRG.PIN_STUCK.TIME (i : Nat) : Fld := ⟨8 * (0x40044 + 32 * i) + 0, 32, 0⟩

/-- TRG.PIN_STATUS[i] bits 0:0, RO, reset 0: Filtered level, 1 active -/
def TRG.PIN_STATUS.LEVEL (i : Nat) : Fld := ⟨8 * (0x40048 + 32 * i) + 0, 1, 0⟩

/-- TRG.PIN_STATUS[i] bits 1:1, RO, reset 0: Pin stuck under R138 -/
def TRG.PIN_STATUS.STUCK (i : Nat) : Fld := ⟨8 * (0x40048 + 32 * i) + 1, 1, 0⟩

/-- TRG.PIN_COUNT[i] bits 31:0, RO, reset 0: Filtered activations in either mode (R138), saturating at 4 294 967 295 -/
def TRG.PIN_COUNT.EDGES (i : Nat) : Fld := ⟨8 * (0x4004C + 32 * i) + 0, 32, 0⟩

/-- TRG.PIN_FILTER[i] bits 15:0, RO, reset 0: Rejected glitches, saturating at 65 535 -/
def TRG.PIN_FILTER.GLITCH (i : Nat) : Fld := ⟨8 * (0x40050 + 32 * i) + 0, 16, 0⟩

/-- TRG.PIN_FILTER[i] bits 31:16, RO, reset 0: Bridged gaps, saturating at 65 535 -/
def TRG.PIN_FILTER.COALESCED (i : Nat) : Fld := ⟨8 * (0x40050 + 32 * i) + 16, 16, 0⟩

/-- TRG.OUT_CFG[n] bits 7:0, RO, reset 0: From the image: bit k selects slot k -/
def TRG.OUT_CFG.SLOTS (n : Nat) : Fld := ⟨8 * (0x400C0 + 16 * n) + 0, 8, 0⟩

/-- TRG.OUT_CFG[n] bits 8:8, RO, reset 0: From the image: 0 active high, 1 active low -/
def TRG.OUT_CFG.POL (n : Nat) : Fld := ⟨8 * (0x400C0 + 16 * n) + 8, 1, 0⟩

/-- TRG.OUT_CFG[n] bits 9:9, RO, reset 0: From the image: 1 drives pulses for call and out-of-order triggers under R139 -/
def TRG.OUT_CFG.CALL_MODE (n : Nat) : Fld := ⟨8 * (0x400C0 + 16 * n) + 9, 1, 0⟩

/-- TRG.OUT_CFG[n] bits 31:16, RO, reset 16: From the image: pulse width in ns, 1–65 535 -/
def TRG.OUT_CFG.WIDTH (n : Nat) : Fld := ⟨8 * (0x400C0 + 16 * n) + 16, 16, 16⟩

/-- TRG.OUT_COUNT[n] bits 15:0, RO, reset 0: Pulses started, saturating at 65 535 -/
def TRG.OUT_COUNT.PULSES (n : Nat) : Fld := ⟨8 * (0x400C4 + 16 * n) + 0, 16, 0⟩

/-- TRG.OUT_COUNT[n] bits 31:16, RO, reset 0: Triggers merged into an active pulse, saturating at 65 535 -/
def TRG.OUT_COUNT.MERGED (n : Nat) : Fld := ⟨8 * (0x400C4 + 16 * n) + 16, 16, 0⟩

/-- TRG.QMAP[q] bits 7:0, RO, reset 0xFF: From the image: source, Table 05-2 -/
def TRG.QMAP.SRC (q : Nat) : Fld := ⟨8 * (0x40100 + 4 * q) + 0, 8, 255⟩

/-- TRG.QMAP[q] bits 8:8, RO, reset 0: From the image: 1 inverts a state-type source -/
def TRG.QMAP.INV (q : Nat) : Fld := ⟨8 * (0x40100 + 4 * q) + 8, 1, 0⟩

/-- TRG.QMAP[q] bits 9:9, RO, reset 1: 0 event-type, 1 state-type; 1 for SRC 255 (Table 05-2) -/
def TRG.QMAP.KIND (q : Nat) : Fld := ⟨8 * (0x40100 + 4 * q) + 9, 1, 1⟩

/-- TRG.TERM_VAL_LO[t] bits 31:0, RO, reset 0: From the image: VAL bits 31:0 -/
def TRG.TERM_VAL_LO.VAL (t : Nat) : Fld := ⟨8 * (0x41000 + 32 * t) + 0, 32, 0⟩

/-- TRG.TERM_VAL_HI[t] bits 31:0, RO, reset 0: From the image: VAL bits 63:32 -/
def TRG.TERM_VAL_HI.VAL (t : Nat) : Fld := ⟨8 * (0x41004 + 32 * t) + 0, 32, 0⟩

/-- TRG.TERM_CARE_LO[t] bits 31:0, RO, reset 0: From the image: CARE bits 31:0 -/
def TRG.TERM_CARE_LO.CARE (t : Nat) : Fld := ⟨8 * (0x41008 + 32 * t) + 0, 32, 0⟩

/-- TRG.TERM_CARE_HI[t] bits 31:0, RO, reset 0: From the image: CARE bits 63:32 -/
def TRG.TERM_CARE_HI.CARE (t : Nat) : Fld := ⟨8 * (0x4100C + 32 * t) + 0, 32, 0⟩

/-- TRG.TERM_CTRL[t] bits 5:0, RO, reset 0: From the image: window W − 1 -/
def TRG.TERM_CTRL.WIN (t : Nat) : Fld := ⟨8 * (0x41010 + 32 * t) + 0, 6, 0⟩

/-- TRG.TERM_CTRL[t] bits 13:8, RO, reset 0: From the image: reference qualifier bit -/
def TRG.TERM_CTRL.REF (t : Nat) : Fld := ⟨8 * (0x41010 + 32 * t) + 8, 6, 0⟩

/-- TRG.DET_MODE[i] bits 2:0, RO, reset 0: From the image: 0 off, 1 edge, 2 level, 3 window, 4 width, 5 runt -/
def TRG.DET_MODE.TYPE (i : Nat) : Fld := ⟨8 * (0x42000 + 32 * i) + 0, 3, 0⟩

/-- TRG.DET_MODE[i] bits 5:4, RO, reset 0: From the image: edge 0 rising, 1 falling, 2 either; level 0 high, 1 low; window 0 inside, 1 outside; width and runt 0 positive, 1 negative -/
def TRG.DET_MODE.SENSE (i : Nat) : Fld := ⟨8 * (0x42000 + 32 * i) + 4, 2, 0⟩

/-- TRG.DET_MODE[i] bits 9:8, RO, reset 0: From the image: 0 narrower, 1 wider, 2 between -/
def TRG.DET_MODE.WMODE (i : Nat) : Fld := ⟨8 * (0x42000 + 32 * i) + 8, 2, 0⟩

/-- TRG.DET_LEVEL[i] bits 11:0, RW, reset From image: Signed level LH in LSB; live under R136 -/
def TRG.DET_LEVEL.LH (i : Nat) : Fld := ⟨8 * (0x42004 + 32 * i) + 0, 12, 0⟩

/-- TRG.DET_LEVEL[i] bits 27:16, RW, reset From image: Signed level LL in LSB; live under R136 -/
def TRG.DET_LEVEL.LL (i : Nat) : Fld := ⟨8 * (0x42004 + 32 * i) + 16, 12, 0⟩

/-- TRG.DET_HYST[i] bits 7:0, RW, reset From image: Hysteresis in LSB; live under R136 -/
def TRG.DET_HYST.H (i : Nat) : Fld := ⟨8 * (0x42008 + 32 * i) + 0, 8, 0⟩

/-- TRG.DET_WIDTH1[i] bits 23:0, RO, reset 1: From the image: W1 in channel samples -/
def TRG.DET_WIDTH1.W1 (i : Nat) : Fld := ⟨8 * (0x4200C + 32 * i) + 0, 24, 1⟩

/-- TRG.DET_WIDTH2[i] bits 23:0, RO, reset 1: From the image: W2 in channel samples -/
def TRG.DET_WIDTH2.W2 (i : Nat) : Fld := ⟨8 * (0x42010 + 32 * i) + 0, 24, 1⟩

/-- TRG.DET_BOUND[i] bits 11:0, RO, reset −2048: From the image: lowest allowed level, signed -/
def TRG.DET_BOUND.MIN (i : Nat) : Fld := ⟨8 * (0x42014 + 32 * i) + 0, 12, 2048⟩

/-- TRG.DET_BOUND[i] bits 27:16, RO, reset +2047: From the image: highest allowed level, signed -/
def TRG.DET_BOUND.MAX (i : Nat) : Fld := ⟨8 * (0x42014 + 32 * i) + 16, 12, 2047⟩

/-- TRG.DET_STUCK[i] bits 31:0, RO, reset 0: From the image: stuck time in ticks; 0 disables -/
def TRG.DET_STUCK.TIME (i : Nat) : Fld := ⟨8 * (0x42018 + 32 * i) + 0, 32, 0⟩

/-- TRG.DET_STATUS[i] bits 0:0, RO, reset 0: State-type: 1 active; event-type: 1 armed or candidate open -/
def TRG.DET_STATUS.STATE (i : Nat) : Fld := ⟨8 * (0x4201C + 32 * i) + 0, 1, 0⟩

/-- TRG.DET_STATUS[i] bits 1:1, RO, reset 0: Detector stuck under R111 -/
def TRG.DET_STATUS.STUCK (i : Nat) : Fld := ⟨8 * (0x4201C + 32 * i) + 1, 1, 0⟩

/-- TRG.DET_STATUS[i] bits 2:2, RO, reset 0: A level or hysteresis write is pending -/
def TRG.DET_STATUS.PEND (i : Nat) : Fld := ⟨8 * (0x4201C + 32 * i) + 2, 1, 0⟩

/-- TRG.DET_STATUS[i] bits 15:8, RO, reset 255: From the image: largest allowed H -/
def TRG.DET_STATUS.HYST_MAX (i : Nat) : Fld := ⟨8 * (0x4201C + 32 * i) + 8, 8, 255⟩

/-- TRG.SLOT_CFG[k] bits 5:0, RO, reset 0: Plan in the slot -/
def TRG.SLOT_CFG.PLAN (k : Nat) : Fld := ⟨8 * (0x43000 + 64 * k) + 0, 6, 0⟩

/-- TRG.SLOT_CFG[k] bits 7:7, RO, reset 0: 1: the slot holds an active plan -/
def TRG.SLOT_CFG.ACTIVE (k : Nat) : Fld := ⟨8 * (0x43000 + 64 * k) + 7, 1, 0⟩

/-- TRG.SLOT_CFG[k] bits 8:8, RO, reset 0: From the image: calls are qualified triggers -/
def TRG.SLOT_CFG.CALL_RX (k : Nat) : Fld := ⟨8 * (0x43000 + 64 * k) + 8, 1, 0⟩

/-- TRG.SLOT_CFG[k] bits 9:9, RO, reset 0: From the image: accepted triggers send calls -/
def TRG.SLOT_CFG.CALL_TX (k : Nat) : Fld := ⟨8 * (0x43000 + 64 * k) + 9, 1, 0⟩

/-- TRG.SLOT_CFG[k] bits 10:10, RO, reset 0: From the image: 0 SHORT, 1 FULL_ONLY -/
def TRG.SLOT_CFG.DEFICIT (k : Nat) : Fld := ⟨8 * (0x43000 + 64 * k) + 10, 1, 0⟩

/-- TRG.SLOT_CFG[k] bits 13:12, RO, reset 0: From the image: 0 NONE, 1 TIME, 2 COUNT, 3 END_OF_RECORD -/
def TRG.SLOT_CFG.HOLD (k : Nat) : Fld := ⟨8 * (0x43000 + 64 * k) + 12, 2, 0⟩

/-- TRG.SLOT_CFG[k] bits 18:16, RO, reset 0: Te under R114: 0 250 ps, 1 62.5 ps, 2 15.625 ps, 3 7.8125 ps, 4 3.906 25 ps -/
def TRG.SLOT_CFG.TE (k : Nat) : Fld := ⟨8 * (0x43000 + 64 * k) + 16, 3, 0⟩

/-- TRG.TERM_SEL_LO[k] bits 31:0, RO, reset 0: From the image: terms 0–31 selected -/
def TRG.TERM_SEL_LO.SEL (k : Nat) : Fld := ⟨8 * (0x43004 + 64 * k) + 0, 32, 0⟩

/-- TRG.TERM_SEL_HI[k] bits 31:0, RO, reset 0: From the image: terms 32–63 selected -/
def TRG.TERM_SEL_HI.SEL (k : Nat) : Fld := ⟨8 * (0x43008 + 64 * k) + 0, 32, 0⟩

/-- TRG.HOLD_TICKS[k] bits 31:0, RW, reset From image: Holdoff ticks; live under R136 -/
def TRG.HOLD_TICKS.TICKS (k : Nat) : Fld := ⟨8 * (0x4300C + 64 * k) + 0, 32, 0⟩

/-- TRG.HOLD_SAMPLES[k] bits 11:0, RW, reset From image: Holdoff evaluation periods, 0–4095; live under R136 -/
def TRG.HOLD_SAMPLES.SAMPLES (k : Nat) : Fld := ⟨8 * (0x43010 + 64 * k) + 0, 12, 0⟩

/-- TRG.HOLD_COUNT[k] bits 23:0, RW, reset From image: Count holdoff, 1–16 777 215; live under R136 -/
def TRG.HOLD_COUNT.COUNT (k : Nat) : Fld := ⟨8 * (0x43014 + 64 * k) + 0, 24, 0⟩

/-- TRG.HOLD_MAX_TICKS[k] bits 31:0, RO, reset From image: Largest allowed HOLD_TICKS -/
def TRG.HOLD_MAX_TICKS.MAX (k : Nat) : Fld := ⟨8 * (0x43018 + 64 * k) + 0, 32, 0⟩

/-- TRG.SLOT_STATUS[k] bits 0:0, RO, reset 0: Slot armed -/
def TRG.SLOT_STATUS.ARMED (k : Nat) : Fld := ⟨8 * (0x4301C + 64 * k) + 0, 1, 0⟩

/-- TRG.SLOT_STATUS[k] bits 1:1, RO, reset 0: Holdoff running -/
def TRG.SLOT_STATUS.HOLDOFF (k : Nat) : Fld := ⟨8 * (0x4301C + 64 * k) + 1, 1, 0⟩

/-- TRG.SLOT_STATUS[k] bits 2:2, RO, reset 0: Within re-arm time -/
def TRG.SLOT_STATUS.REARM (k : Nat) : Fld := ⟨8 * (0x4301C + 64 * k) + 2, 1, 0⟩

/-- TRG.SLOT_STATUS[k] bits 3:3, RO, reset 0: A holdoff write is pending -/
def TRG.SLOT_STATUS.PEND (k : Nat) : Fld := ⟨8 * (0x4301C + 64 * k) + 3, 1, 0⟩

/-- TRG.SLOT_STATUS[k] bits 5:4, RO, reset 0: Origin of the last accepted trigger: 0 term, 1 call, 2 force -/
def TRG.SLOT_STATUS.LAST_ORIGIN (k : Nat) : Fld := ⟨8 * (0x4301C + 64 * k) + 4, 2, 0⟩

/-- TRG.SLOT_STATUS[k] bits 13:8, RO, reset 0: Credited term of the last accepted trigger -/
def TRG.SLOT_STATUS.LAST_TERM (k : Nat) : Fld := ⟨8 * (0x4301C + 64 * k) + 8, 6, 0⟩

/-- TRG.LAST_TICK_LO[k] bits 31:0, RO, reset 0: Tick bits 31:0 of the last accepted trigger; a read latches LAST_TICK_HI and LAST_FRAC -/
def TRG.LAST_TICK_LO.TICK (k : Nat) : Fld := ⟨8 * (0x43020 + 64 * k) + 0, 32, 0⟩

/-- TRG.LAST_TICK_HI[k] bits 15:0, RO, reset 0: Tick bits 47:32, as latched -/
def TRG.LAST_TICK_HI.TICK (k : Nat) : Fld := ⟨8 * (0x43024 + 64 * k) + 0, 16, 0⟩

/-- TRG.LAST_FRAC[k] bits 23:0, RO, reset 0: Fraction, as latched -/
def TRG.LAST_FRAC.FRAC (k : Nat) : Fld := ⟨8 * (0x43028 + 64 * k) + 0, 24, 0⟩

/-- TRG.LAST_FRAC[k] bits 31:24, RO, reset 0: Quality code, as latched -/
def TRG.LAST_FRAC.QUALITY (k : Nat) : Fld := ⟨8 * (0x43028 + 64 * k) + 24, 8, 0⟩

/-- TRG.COALESCED[k] bits 31:0, RO, reset 0: Events merged under R115, saturating at 4 294 967 295 -/
def TRG.COALESCED.COUNT (k : Nat) : Fld := ⟨8 * (0x4302C + 64 * k) + 0, 32, 0⟩

/-- TRG.LL_WR[k] bits 31:0, RO, reset 0: Lost-trigger entries written since arm; cleared at arm -/
def TRG.LL_WR.WR (k : Nat) : Fld := ⟨8 * (0x43030 + 64 * k) + 0, 32, 0⟩

/-! ### ACQ block -/

/-- ACQ.CMD bits 0:0, W1S, reset 0: Takes a book snapshot under R170; reads 1 until complete -/
def ACQ.CMD.SNAP : Fld := ⟨8 * (0x50000) + 0, 1, 0⟩

/-- ACQ.SNAP_TICK_LO bits 31:0, RO, reset 0: Tick bits 31:0 of the last snapshot cycle -/
def ACQ.SNAP_TICK_LO.TICK : Fld := ⟨8 * (0x50004) + 0, 32, 0⟩

/-- ACQ.SNAP_TICK_HI bits 15:0, RO, reset 0: Tick bits 47:32 of the last snapshot cycle -/
def ACQ.SNAP_TICK_HI.TICK : Fld := ⟨8 * (0x50008) + 0, 16, 0⟩

/-- ACQ.PLAN_CMD bits 5:0, WO, reset 0: Library plan -/
def ACQ.PLAN_CMD.PLAN : Fld := ⟨8 * (0x5000C) + 0, 6, 0⟩

/-- ACQ.PLAN_CMD bits 10:8, WO, reset 0: 1 ACTIVATE, 2 DEACTIVATE, 3 ARM, 4 DISARM; the write submits the request under R28; other values are ignored -/
def ACQ.PLAN_CMD.OP : Fld := ⟨8 * (0x5000C) + 8, 3, 0⟩

/-- ACQ.PLAN_RESULT bits 5:0, RO, reset 0: Plan of the last host request -/
def ACQ.PLAN_RESULT.PLAN : Fld := ⟨8 * (0x50010) + 0, 6, 0⟩

/-- ACQ.PLAN_RESULT bits 10:8, RO, reset 0: Its OP -/
def ACQ.PLAN_RESULT.OP : Fld := ⟨8 * (0x50010) + 8, 3, 0⟩

/-- ACQ.PLAN_RESULT bits 16:16, RO, reset 0: 1 while the request is in progress, catalogue re-initialisation included -/
def ACQ.PLAN_RESULT.BUSY : Fld := ⟨8 * (0x50010) + 16, 1, 0⟩

/-- ACQ.PLAN_RESULT bits 23:20, RO, reset 0: 0 done, 1 admission refused, 2 channel held, 3 REGION_HELD, 4 no free slot, 5 wrong plan state, 6 plan not in library, 7 channel stopped or absent, 8 no usable set, 9 not in READY or ACQUIRE (R29) -/
def ACQ.PLAN_RESULT.RESULT : Fld := ⟨8 * (0x50010) + 20, 4, 0⟩

/-- ACQ.ACCESSION_LO bits 31:0, RO, reset 0: Next accession number, bits 31:0; a read latches bits 63:32 into ACQ.ACCESSION_HI -/
def ACQ.ACCESSION_LO.NEXT : Fld := ⟨8 * (0x50014) + 0, 32, 0⟩

/-- ACQ.ACCESSION_HI bits 31:0, RO, reset 0: Bits 63:32, as latched; after LOAD, the start of the block reserved under R156 -/
def ACQ.ACCESSION_HI.NEXT : Fld := ⟨8 * (0x50018) + 0, 32, 0⟩

/-- ACQ.TRICK_NEXT bits 31:0, RO, reset 0: Next trick number of a unit without an ensemble role, R157 -/
def ACQ.TRICK_NEXT.TRICK : Fld := ⟨8 * (0x5001C) + 0, 32, 0⟩

/-- ACQ.FOLIO_SEL bits 25:0, RW, reset 0: Folio number f -/
def ACQ.FOLIO_SEL.FOLIO : Fld := ⟨8 * (0x50020) + 0, 26, 0⟩

/-- ACQ.FOLIO_SEL bits 31:26, RW, reset 0: Library plan -/
def ACQ.FOLIO_SEL.PLAN : Fld := ⟨8 * (0x50020) + 26, 6, 0⟩

/-- ACQ.FOLIO_OP bits 1:0, WO, reset 0: 1 HOLD, 2 RELEASE, on the folio of ACQ.FOLIO_SEL under R165; a write of 0 or 3 is ignored and changes neither BUSY nor RESULT -/
def ACQ.FOLIO_OP.OP : Fld := ⟨8 * (0x50024) + 0, 2, 0⟩

/-- ACQ.FOLIO_OP bits 8:8, RO, reset 0: 1 until the command has taken effect, at most 200 ns -/
def ACQ.FOLIO_OP.BUSY : Fld := ⟨8 * (0x50024) + 8, 1, 0⟩

/-- ACQ.FOLIO_OP bits 11:9, RO, reset 0: 0 done, 1 WRONG_STATE, 2 folio out of range -/
def ACQ.FOLIO_OP.RESULT : Fld := ⟨8 * (0x50024) + 9, 3, 0⟩

/-- ACQ.LIB_CFG[p] bits 0:0, RO, reset 0: From the image: the plan exists -/
def ACQ.LIB_CFG.VALID (p : Nat) : Fld := ⟨8 * (0x50100 + 32 * p) + 0, 1, 0⟩

/-- ACQ.LIB_CFG[p] bits 1:1, RO, reset 0: From the image: armed by the schedule -/
def ACQ.LIB_CFG.AUTOSTART (p : Nat) : Fld := ⟨8 * (0x50100 + 32 * p) + 1, 1, 0⟩

/-- ACQ.LIB_CFG[p] bits 2:2, RO, reset 0: From the image: 0 RING, 1 STOP_WHEN_FULL -/
def ACQ.LIB_CFG.POLICY (p : Nat) : Fld := ⟨8 * (0x50100 + 32 * p) + 2, 1, 0⟩

/-- ACQ.LIB_CFG[p] bits 3:3, RO, reset 0: Catalogue to be re-initialised at activation, R144 -/
def ACQ.LIB_CFG.STALE (p : Nat) : Fld := ⟨8 * (0x50100 + 32 * p) + 3, 1, 0⟩

/-- ACQ.LIB_CFG[p] bits 4:4, RO, reset 0: The plan is active -/
def ACQ.LIB_CFG.ACTIVE (p : Nat) : Fld := ⟨8 * (0x50100 + 32 * p) + 4, 1, 0⟩

/-- ACQ.LIB_CFG[p] bits 7:5, RO, reset 0: Its slot while active -/
def ACQ.LIB_CFG.SLOT (p : Nat) : Fld := ⟨8 * (0x50100 + 32 * p) + 5, 3, 0⟩

/-- ACQ.LIB_CFG[p] bits 15:8, RO, reset 0: From the image: 0 lowest, for R22 -/
def ACQ.LIB_CFG.PRIORITY (p : Nat) : Fld := ⟨8 * (0x50100 + 32 * p) + 8, 8, 0⟩

/-- ACQ.LIB_CFG[p] bits 22:16, RO, reset 0: From the image: channels of the plan, 1–64; 0 when VALID is 0 -/
def ACQ.LIB_CFG.K (p : Nat) : Fld := ⟨8 * (0x50100 + 32 * p) + 16, 7, 0⟩

/-- ACQ.LIB_SETS[p] bits 25:0, RO, reset 0: From the image: folio sets in the ring -/
def ACQ.LIB_SETS.SETS (p : Nat) : Fld := ⟨8 * (0x50104 + 32 * p) + 0, 26, 0⟩

/-- ACQ.LIB_FOLIO[p] bits 19:0, RO, reset 0: From the image: folio size in 4 KiB units -/
def ACQ.LIB_FOLIO.F (p : Nat) : Fld := ⟨8 * (0x50108 + 32 * p) + 0, 20, 0⟩

/-- ACQ.LIB_DEADLINE[p] bits 31:0, RO, reset 0: From the image: readout deadline in ticks; 0 none, R166 -/
def ACQ.LIB_DEADLINE.TICKS (p : Nat) : Fld := ⟨8 * (0x5010C + 32 * p) + 0, 32, 0⟩

/-- ACQ.LIB_RING[p] bits 27:0, RO, reset 0: From the image: ring base address in 4 KiB units -/
def ACQ.LIB_RING.BASE (p : Nat) : Fld := ⟨8 * (0x50110 + 32 * p) + 0, 28, 0⟩

/-- ACQ.LIB_CAT[p] bits 27:0, RO, reset 0: From the image: catalogue base address in 4 KiB units -/
def ACQ.LIB_CAT.BASE (p : Nat) : Fld := ⟨8 * (0x50114 + 32 * p) + 0, 28, 0⟩

/-- ACQ.SLOT_STATE[k] bits 5:0, RO, reset 0: Plan in the slot -/
def ACQ.SLOT_STATE.PLAN (k : Nat) : Fld := ⟨8 * (0x51000 + 64 * k) + 0, 6, 0⟩

/-- ACQ.SLOT_STATE[k] bits 6:6, RO, reset 0: Slot holds an active plan -/
def ACQ.SLOT_STATE.ACTIVE (k : Nat) : Fld := ⟨8 * (0x51000 + 64 * k) + 6, 1, 0⟩

/-- ACQ.SLOT_STATE[k] bits 7:7, RO, reset 0: Slot armed -/
def ACQ.SLOT_STATE.ARMED (k : Nat) : Fld := ⟨8 * (0x51000 + 64 * k) + 7, 1, 0⟩

/-- ACQ.SLOT_STATE[k] bits 8:8, RO, reset 0: Disarmed under R154; cleared at the next arm -/
def ACQ.SLOT_STATE.FULL (k : Nat) : Fld := ⟨8 * (0x51000 + 64 * k) + 8, 1, 0⟩

/-- ACQ.SLOT_STATE[k] bits 9:9, RO, reset 0: Last arm ended by a stop, R160; cleared at the next arm -/
def ACQ.SLOT_STATE.STOPPED (k : Nat) : Fld := ⟨8 * (0x51000 + 64 * k) + 9, 1, 0⟩

/-- ACQ.SLOT_STATE[k] bits 22:16, RO, reset 0: Triggers in the FIFO, 0–64 -/
def ACQ.SLOT_STATE.FIFO (k : Nat) : Fld := ⟨8 * (0x51000 + 64 * k) + 16, 7, 0⟩

/-- ACQ.SLOT_STATE[k] bits 30:24, RO, reset 0: Highest FIFO level since activation -/
def ACQ.SLOT_STATE.FIFO_MAX (k : Nat) : Fld := ⟨8 * (0x51000 + 64 * k) + 24, 7, 0⟩

/-- ACQ.SLOT_GATHER[k] bits 25:0, RO, reset 0: Set into which the lanes are writing -/
def ACQ.SLOT_GATHER.SET (k : Nat) : Fld := ⟨8 * (0x51004 + 64 * k) + 0, 26, 0⟩

/-- ACQ.TBOOK_LO[k,i] bits 31:0, RO, reset 0: Snapshot bits 31:0 of book i: 0 qualified, 1 accepted, 2 held_off, 3 lost_rearm, 4 lost_queue, 5 early -/
def ACQ.TBOOK_LO.COUNT (k : Nat) (i : Nat) : Fld := ⟨8 * (0x51010 + 64 * k + 8 * i) + 0, 32, 0⟩

/-- ACQ.TBOOK_HI[k,i] bits 31:0, RO, reset 0: Snapshot bits 63:32 of book i -/
def ACQ.TBOOK_HI.COUNT (k : Nat) (i : Nat) : Fld := ⟨8 * (0x51014 + 64 * k + 8 * i) + 0, 32, 0⟩

/-- ACQ.CH_PRE[c] bits 31:0, RO, reset 0: From the image: pre-trigger length in stored samples -/
def ACQ.CH_PRE.P (c : Nat) : Fld := ⟨8 * (0x52000 + 16 * c) + 0, 32, 0⟩

/-- ACQ.CH_POST[c] bits 31:0, RO, reset 0: From the image: post-trigger length in stored samples, at least 1 -/
def ACQ.CH_POST.Q (c : Nat) : Fld := ⟨8 * (0x52004 + 16 * c) + 0, 32, 0⟩

/-- ACQ.CH_HIST[c] bits 31:0, RO, reset 0: From the image: extra call history in stored samples -/
def ACQ.CH_HIST.H (c : Nat) : Fld := ⟨8 * (0x52008 + 16 * c) + 0, 32, 0⟩

/-- ACQ.CH_GEOM[c] bits 6:0, RO, reset 0: Lanes of the channel: 1, 16, 32 or 64 -/
def ACQ.CH_GEOM.N (c : Nat) : Fld := ⟨8 * (0x5200C + 16 * c) + 0, 7, 0⟩

/-- ACQ.CH_GEOM[c] bits 31:8, RO, reset 0: Segment pitch in 64-byte units, R146 -/
def ACQ.CH_GEOM.SP (c : Nat) : Fld := ⟨8 * (0x5200C + 16 * c) + 8, 24, 0⟩

/-- ACQ.FBOOK[p,i] bits 31:0, RO, reset 0: Snapshot of book i of plan p: 0 FREE, 1 FILLING, 2 SEALED, 3 IN_READOUT, 4 HELD, 5 total, 6 OVERWRITTEN (saturating), 7 DEADLINE_MISSED (saturating) -/
def ACQ.FBOOK.COUNT (p : Nat) (i : Nat) : Fld := ⟨8 * (0x53000 + 32 * p + 4 * i) + 0, 32, 0⟩

/-! ### COD block -/

/-- COD.CMD bits 0:0, W1S, reset 0: Clears CNT_FULL, CNT_BOUNDED, CNT_HALVED and CNT_RFRAMES of every channel; reads 1 until done -/
def COD.CMD.CLR_COUNTS : Fld := ⟨8 * (0x60000) + 0, 1, 0⟩

/-- COD.RESULT bits 5:0, RO, reset 0: Channel of the last write of CH_DECIM or CH_GRANT -/
def COD.RESULT.CHANNEL : Fld := ⟨8 * (0x60004) + 0, 6, 0⟩

/-- COD.RESULT bits 8:8, RO, reset 0: 0 CH_DECIM, 1 CH_GRANT -/
def COD.RESULT.FIELD : Fld := ⟨8 * (0x60004) + 8, 1, 0⟩

/-- COD.RESULT bits 15:12, RO, reset 0: 0 accepted, 1 out of bounds, 2 phase not below D, 3 plan armed, 4 admission refused, 5 no plan holds the channel -/
def COD.RESULT.RESULT : Fld := ⟨8 * (0x60004) + 12, 4, 0⟩

/-- COD.RESULT bits 16:16, RO, reset 0: 1 while admission of R190 is deciding -/
def COD.RESULT.BUSY : Fld := ⟨8 * (0x60004) + 16, 1, 0⟩

/-- COD.LIMITS bits 12:0, RO, reset 2112: Smallest grant the device accepts, bytes per frame -/
def COD.LIMITS.GRANT_MIN : Fld := ⟨8 * (0x60008) + 0, 13, 2112⟩

/-- COD.LIMITS bits 28:16, RO, reset 6208: Grant at which no block is reduced, bytes per frame -/
def COD.LIMITS.GRANT_RAW : Fld := ⟨8 * (0x60008) + 16, 13, 6208⟩

/-- COD.CH_DECIM[c] bits 15:0, RW, reset From image: D − 1 of the current plan, pending or in force; live under R189 -/
def COD.CH_DECIM.DM1 (c : Nat) : Fld := ⟨8 * (0x61000 + 64 * c) + 0, 16, 0⟩

/-- COD.CH_DECIM[c] bits 31:16, RW, reset From image: φ, 0 to D − 1; written together with DM1 and judged with it -/
def COD.CH_DECIM.PHASE (c : Nat) : Fld := ⟨8 * (0x61000 + 64 * c) + 16, 16, 0⟩

/-- COD.CH_GRANT[c] bits 12:0, RW, reset From image: G in bytes per frame, 2112–6208; live under R189 and R190 -/
def COD.CH_GRANT.GRANT (c : Nat) : Fld := ⟨8 * (0x61004 + 64 * c) + 0, 13, 0⟩

/-- COD.CH_DBOUND[c] bits 15:0, RO, reset From image: D_MIN − 1 -/
def COD.CH_DBOUND.DMIN_M1 (c : Nat) : Fld := ⟨8 * (0x61008 + 64 * c) + 0, 16, 0⟩

/-- COD.CH_DBOUND[c] bits 31:16, RO, reset From image: D_MAX − 1 -/
def COD.CH_DBOUND.DMAX_M1 (c : Nat) : Fld := ⟨8 * (0x61008 + 64 * c) + 16, 16, 0⟩

/-- COD.CH_GBOUND[c] bits 12:0, RO, reset From image: G_MIN in bytes per frame -/
def COD.CH_GBOUND.GMIN (c : Nat) : Fld := ⟨8 * (0x6100C + 64 * c) + 0, 13, 0⟩

/-- COD.CH_GBOUND[c] bits 28:16, RO, reset From image: G_MAX in bytes per frame; the G of R146 -/
def COD.CH_GBOUND.GMAX (c : Nat) : Fld := ⟨8 * (0x6100C + 64 * c) + 16, 13, 0⟩

/-- COD.CH_INFORCE[c] bits 15:0, RO, reset 0: D − 1 in force since the last arm of the current plan -/
def COD.CH_INFORCE.DM1 (c : Nat) : Fld := ⟨8 * (0x61010 + 64 * c) + 0, 16, 0⟩

/-- COD.CH_INFORCE[c] bits 31:16, RO, reset 0: φ in force -/
def COD.CH_INFORCE.PHASE (c : Nat) : Fld := ⟨8 * (0x61010 + 64 * c) + 16, 16, 0⟩

/-- COD.CH_INFORCE_GRANT[c] bits 12:0, RO, reset 0: G in force since the last arm -/
def COD.CH_INFORCE_GRANT.GRANT (c : Nat) : Fld := ⟨8 * (0x61014 + 64 * c) + 0, 13, 0⟩

/-- COD.CH_INFORCE_GRANT[c] bits 16:16, RO, reset 0: 1: CH_DECIM or CH_GRANT holds a value not yet in force -/
def COD.CH_INFORCE_GRANT.PENDING (c : Nat) : Fld := ⟨8 * (0x61014 + 64 * c) + 16, 1, 0⟩

/-- COD.CNT_FULL[c] bits 31:0, RO, reset 0: RAW and LOSSLESS blocks written, all lanes of the channel, saturating at 4 294 967 295 -/
def COD.CNT_FULL.COUNT (c : Nat) : Fld := ⟨8 * (0x61018 + 64 * c) + 0, 32, 0⟩

/-- COD.CNT_BOUNDED[c] bits 31:0, RO, reset 0: Blocks written with H = 0 and K > 0, saturating at 4 294 967 295 -/
def COD.CNT_BOUNDED.COUNT (c : Nat) : Fld := ⟨8 * (0x6101C + 64 * c) + 0, 32, 0⟩

/-- COD.CNT_HALVED[c] bits 31:0, RO, reset 0: Blocks written with H = 1, saturating at 4 294 967 295 -/
def COD.CNT_HALVED.COUNT (c : Nat) : Fld := ⟨8 * (0x61020 + 64 * c) + 0, 32, 0⟩

/-- COD.CNT_RFRAMES[c] bits 31:0, RO, reset 0: Lane frames in which at least one block was reduced, saturating at 4 294 967 295 -/
def COD.CNT_RFRAMES.COUNT (c : Nat) : Fld := ⟨8 * (0x61024 + 64 * c) + 0, 32, 0⟩

/-- COD.CH_MAXK[c] bits 2:0, RO, reset 0: Largest CODER_MAX_K value of any block since the last clear, 0–5, with the meaning of Table 06-3 -/
def COD.CH_MAXK.MAXK (c : Nat) : Fld := ⟨8 * (0x61028 + 64 * c) + 0, 3, 0⟩

/-! ### ACC block -/

/-- ACC.CMD bits 3:0, W1S, reset 0: Bit p clears plane p at step 1 of the next frame; reads 1 until done -/
def ACC.CMD.CLR_PLANE : Fld := ⟨8 * (0x70000) + 0, 4, 0⟩

/-- ACC.CMD bits 4:4, W1S, reset 0: Clears SLOT_SKIPS, PLANE_COUNT, PLANE_STATUS.SKIPS, COMP_COUNTS and COMP_OVERRUN; reads 1 until done -/
def ACC.CMD.CLR_COUNTS : Fld := ⟨8 * (0x70000) + 4, 1, 0⟩

/-- ACC.RESULT bits 1:0, RO, reset 0: Plane of the last live write -/
def ACC.RESULT.PLANE : Fld := ⟨8 * (0x70004) + 0, 2, 0⟩

/-- ACC.RESULT bits 11:8, RO, reset 0: 0 accepted, 1 value out of range, 2 channel not held by the plane's plan, 3 plane not enabled -/
def ACC.RESULT.RESULT : Fld := ⟨8 * (0x70004) + 8, 4, 0⟩

/-- ACC.SLOT_CFG[k] bits 0:0, RO, reset 0: From the image: the plan accumulates -/
def ACC.SLOT_CFG.ENABLE (k : Nat) : Fld := ⟨8 * (0x71000 + 32 * k) + 0, 1, 0⟩

/-- ACC.SLOT_CFG[k] bits 1:1, RO, reset 0: From the image: 1 DRAM mode -/
def ACC.SLOT_CFG.DRAM (k : Nat) : Fld := ⟨8 * (0x71000 + 32 * k) + 1, 1, 0⟩

/-- ACC.SLOT_CFG[k] bits 2:2, RO, reset 0: From the image: 1 two banks -/
def ACC.SLOT_CFG.SPLIT (k : Nat) : Fld := ⟨8 * (0x71000 + 32 * k) + 2, 1, 0⟩

/-- ACC.SLOT_CFG[k] bits 3:3, RO, reset 0: From the image: 1 alignment under R196 -/
def ACC.SLOT_CFG.ALIGN (k : Nat) : Fld := ⟨8 * (0x71000 + 32 * k) + 3, 1, 0⟩

/-- ACC.SLOT_CFG[k] bits 15:8, RO, reset 0: From the image: bit q accepts quality code q, Table 08-2 -/
def ACC.SLOT_CFG.QMASK (k : Nat) : Fld := ⟨8 * (0x71000 + 32 * k) + 8, 8, 0⟩

/-- ACC.SLOT_PRE[k] bits 23:0, RO, reset 0: From the image: PRE in channel samples -/
def ACC.SLOT_PRE.PRE (k : Nat) : Fld := ⟨8 * (0x71004 + 32 * k) + 0, 24, 0⟩

/-- ACC.SLOT_BINS[k] bits 31:0, RO, reset 0: From the image: bins per channel -/
def ACC.SLOT_BINS.L (k : Nat) : Fld := ⟨8 * (0x71008 + 32 * k) + 0, 32, 0⟩

/-- ACC.SLOT_TARGET[k] bits 20:0, RO, reset 0: From the image: 1–1 048 576 -/
def ACC.SLOT_TARGET.TARGET (k : Nat) : Fld := ⟨8 * (0x7100C + 32 * k) + 0, 21, 0⟩

/-- ACC.SLOT_BASE[k] bits 27:0, RO, reset 0: From the image: region base, in 4096-bin units on die or 4 KiB units in DRAM -/
def ACC.SLOT_BASE.BASE (k : Nat) : Fld := ⟨8 * (0x71010 + 32 * k) + 0, 28, 0⟩

/-- ACC.SLOT_CMD[k] bits 0:0, W1S, reset 0: Completes the accumulating bank under Table 08-4; reads 1 until done -/
def ACC.SLOT_CMD.FINISH (k : Nat) : Fld := ⟨8 * (0x71014 + 32 * k) + 0, 1, 0⟩

/-- ACC.SLOT_CMD[k] bits 1:1, W1S, reset 0: Frees bank 0 if COMPLETE; reads 0 -/
def ACC.SLOT_CMD.DISCARD0 (k : Nat) : Fld := ⟨8 * (0x71014 + 32 * k) + 1, 1, 0⟩

/-- ACC.SLOT_CMD[k] bits 2:2, W1S, reset 0: Frees bank 1 if COMPLETE; reads 0 -/
def ACC.SLOT_CMD.DISCARD1 (k : Nat) : Fld := ⟨8 * (0x71014 + 32 * k) + 2, 1, 0⟩

/-- ACC.SLOT_STATE[k] bits 1:0, RO, reset 0: 0 FREE, 1 ACCUMULATING, 2 COMPLETE, 3 IN_READOUT -/
def ACC.SLOT_STATE.BANK0 (k : Nat) : Fld := ⟨8 * (0x71018 + 32 * k) + 0, 2, 0⟩

/-- ACC.SLOT_STATE[k] bits 3:2, RO, reset 0: As BANK0; 0 when SPLIT = 0 -/
def ACC.SLOT_STATE.BANK1 (k : Nat) : Fld := ⟨8 * (0x71018 + 32 * k) + 2, 2, 0⟩

/-- ACC.SLOT_STATE[k] bits 4:4, RO, reset 0: Bank accumulating, or to accumulate next -/
def ACC.SLOT_STATE.CUR (k : Nat) : Fld := ⟨8 * (0x71018 + 32 * k) + 4, 1, 0⟩

/-- ACC.SLOT_STATE[k] bits 28:8, RO, reset 0: Triggers selected into the accumulating bank -/
def ACC.SLOT_STATE.COUNT (k : Nat) : Fld := ⟨8 * (0x71018 + 32 * k) + 8, 21, 0⟩

/-- ACC.SLOT_SKIPS[k] bits 7:0, RO, reset 0: Test 1 failures, saturating at 255 -/
def ACC.SLOT_SKIPS.BUSY (k : Nat) : Fld := ⟨8 * (0x7101C + 32 * k) + 0, 8, 0⟩

/-- ACC.SLOT_SKIPS[k] bits 15:8, RO, reset 0: Test 2 failures, saturating at 255 -/
def ACC.SLOT_SKIPS.QUALITY (k : Nat) : Fld := ⟨8 * (0x7101C + 32 * k) + 8, 8, 0⟩

/-- ACC.SLOT_SKIPS[k] bits 23:16, RO, reset 0: Test 3 failures, saturating at 255 -/
def ACC.SLOT_SKIPS.HISTORY (k : Nat) : Fld := ⟨8 * (0x7101C + 32 * k) + 16, 8, 0⟩

/-- ACC.SLOT_SKIPS[k] bits 31:24, RO, reset 0: Test 4 failures, saturating at 255 -/
def ACC.SLOT_SKIPS.OVERLAP (k : Nat) : Fld := ⟨8 * (0x7101C + 32 * k) + 24, 8, 0⟩

/-- ACC.PLANE_CFG[p] bits 5:0, RO, reset 0: From the image: owning plan -/
def ACC.PLANE_CFG.PLAN (p : Nat) : Fld := ⟨8 * (0x72000 + 32 * p) + 0, 6, 0⟩

/-- ACC.PLANE_CFG[p] bits 6:6, RO, reset 0: From the image: plane in use -/
def ACC.PLANE_CFG.ENABLE (p : Nat) : Fld := ⟨8 * (0x72000 + 32 * p) + 6, 1, 0⟩

/-- ACC.PLANE_CFG[p] bits 7:7, RO, reset 0: From the image: R204 -/
def ACC.PLANE_CFG.VECTOR (p : Nat) : Fld := ⟨8 * (0x72000 + 32 * p) + 7, 1, 0⟩

/-- ACC.PLANE_CFG[p] bits 8:8, RO, reset 0: From the image: R204 -/
def ACC.PLANE_CFG.CLAMP (p : Nat) : Fld := ⟨8 * (0x72000 + 32 * p) + 8, 1, 0⟩

/-- ACC.PLANE_CFG[p] bits 21:16, RW, reset From image: Source channel; live under R211 -/
def ACC.PLANE_CFG.SOURCE (p : Nat) : Fld := ⟨8 * (0x72000 + 32 * p) + 16, 6, 0⟩

/-- ACC.PLANE_X[p] bits 19:0, RW, reset From image: Columns per sample in 2^−16 units, 1–1 048 575 -/
def ACC.PLANE_X.XSTEP (p : Nat) : Fld := ⟨8 * (0x72004 + 32 * p) + 0, 20, 0⟩

/-- ACC.PLANE_X[p] bits 30:20, RW, reset From image: Column of the trigger, 0–2047 -/
def ACC.PLANE_X.XTRIG (p : Nat) : Fld := ⟨8 * (0x72004 + 32 * p) + 20, 11, 0⟩

/-- ACC.PLANE_Y[p] bits 11:0, RW, reset From image: Signed code at row 512 -/
def ACC.PLANE_Y.YOFF (p : Nat) : Fld := ⟨8 * (0x72008 + 32 * p) + 0, 12, 0⟩

/-- ACC.PLANE_Y[p] bits 31:16, RW, reset From image: Rows per LSB in 2^−8 units, 1–65 535 -/
def ACC.PLANE_Y.YGAIN (p : Nat) : Fld := ⟨8 * (0x72008 + 32 * p) + 16, 16, 0⟩

/-- ACC.PLANE_LOOK[p] bits 3:0, RW, reset From image: Decay shift, 0 none, 1–15 -/
def ACC.PLANE_LOOK.DS (p : Nat) : Fld := ⟨8 * (0x7200C + 32 * p) + 0, 4, 0⟩

/-- ACC.PLANE_LOOK[p] bits 15:8, RW, reset From image: Frames between decays, 1–255 -/
def ACC.PLANE_LOOK.DFRAMES (p : Nat) : Fld := ⟨8 * (0x7200C + 32 * p) + 8, 8, 0⟩

/-- ACC.PLANE_LOOK[p] bits 23:16, RW, reset From image: Hue in 1/256 turn -/
def ACC.PLANE_LOOK.HUE (p : Nat) : Fld := ⟨8 * (0x7200C + 32 * p) + 16, 8, 0⟩

/-- ACC.PLANE_LOOK[p] bits 31:24, RW, reset From image: Saturation, 0–255 -/
def ACC.PLANE_LOOK.SAT (p : Nat) : Fld := ⟨8 * (0x7200C + 32 * p) + 24, 8, 0⟩

/-- ACC.PLANE_SCALE[p] bits 15:0, RW, reset From image: Count scale, unsigned 8.8 -/
def ACC.PLANE_SCALE.CSCALE (p : Nat) : Fld := ⟨8 * (0x72010 + 32 * p) + 0, 16, 0⟩

/-- ACC.PLANE_COUNT[p] bits 31:0, RO, reset 0: Triggers imaged, saturating at 4 294 967 295 -/
def ACC.PLANE_COUNT.RECORDS (p : Nat) : Fld := ⟨8 * (0x72014 + 32 * p) + 0, 32, 0⟩

/-- ACC.PLANE_STATUS[p] bits 15:0, RO, reset 0: Triggers not imaged under R204, saturating at 65 535 -/
def ACC.PLANE_STATUS.SKIPS (p : Nat) : Fld := ⟨8 * (0x72018 + 32 * p) + 0, 16, 0⟩

/-- ACC.PLANE_STATUS[p] bits 16:16, RO, reset 0: A count saturated since the plane was last zeroed -/
def ACC.PLANE_STATUS.SAT (p : Nat) : Fld := ⟨8 * (0x72018 + 32 * p) + 16, 1, 0⟩

/-- ACC.PLANE_STATUS[p] bits 17:17, RO, reset 0: A live write is pending -/
def ACC.PLANE_STATUS.PEND (p : Nat) : Fld := ⟨8 * (0x72018 + 32 * p) + 17, 1, 0⟩

/-- ACC.PLANE_COPY[p] bits 27:0, RO, reset 0: From the image: copy base in 4 KiB units -/
def ACC.PLANE_COPY.BASE (p : Nat) : Fld := ⟨8 * (0x7201C + 32 * p) + 0, 28, 0⟩

/-- ACC.PLANE_COPY[p] bits 31:31, RO, reset 0: From the image: copies written under R209 -/
def ACC.PLANE_COPY.COPY_EN (p : Nat) : Fld := ⟨8 * (0x7201C + 32 * p) + 31, 1, 0⟩

/-- ACC.COMP_CFG bits 0:0, RO, reset 0: From the image: 0 8-bit, 1 10-bit elements -/
def ACC.COMP_CFG.L10 : Fld := ⟨8 * (0x73000) + 0, 1, 0⟩

/-- ACC.COMP_CFG bits 2:1, RO, reset 0: From the image: 0 4:2:0, 1 4:2:2 -/
def ACC.COMP_CFG.CHROMA : Fld := ⟨8 * (0x73000) + 1, 2, 0⟩

/-- ACC.COMP_CFG bits 3:3, RO, reset 0: From the image: 1 frame boundary at display frame start -/
def ACC.COMP_CFG.SYNC : Fld := ⟨8 * (0x73000) + 3, 1, 0⟩

/-- ACC.COMP_CFG bits 4:4, RO, reset 0: From the image: composer in use -/
def ACC.COMP_CFG.ENABLE : Fld := ⟨8 * (0x73000) + 4, 1, 0⟩

/-- ACC.COMP_PERIOD bits 31:0, RO, reset 0: From the image: frame period in ticks when SYNC = 0; at least 1 when ENABLE = 1 and SYNC = 0 (R206) -/
def ACC.COMP_PERIOD.TICKS : Fld := ⟨8 * (0x73004) + 0, 32, 0⟩

/-- ACC.COMP_SURF bits 11:0, RO, reset 0: From the image: surface width in pixels -/
def ACC.COMP_SURF.WIDTH : Fld := ⟨8 * (0x73008) + 0, 12, 0⟩

/-- ACC.COMP_SURF bits 27:16, RO, reset 0: From the image: surface height in pixels -/
def ACC.COMP_SURF.HEIGHT : Fld := ⟨8 * (0x73008) + 16, 12, 0⟩

/-- ACC.COMP_VIEW_POS bits 11:0, RO, reset 0: From the image: viewport left -/
def ACC.COMP_VIEW_POS.VX : Fld := ⟨8 * (0x7300C) + 0, 12, 0⟩

/-- ACC.COMP_VIEW_POS bits 27:16, RO, reset 0: From the image: viewport top -/
def ACC.COMP_VIEW_POS.VY : Fld := ⟨8 * (0x7300C) + 16, 12, 0⟩

/-- ACC.COMP_VIEW_SIZE bits 11:0, RO, reset 0: From the image: viewport width -/
def ACC.COMP_VIEW_SIZE.VW : Fld := ⟨8 * (0x73010) + 0, 12, 0⟩

/-- ACC.COMP_VIEW_SIZE bits 27:16, RO, reset 0: From the image: viewport height -/
def ACC.COMP_VIEW_SIZE.VH : Fld := ⟨8 * (0x73010) + 16, 12, 0⟩

/-- ACC.COMP_PITCH bits 15:0, RO, reset 0: From the image: luma pitch in bytes -/
def ACC.COMP_PITCH.LPITCH : Fld := ⟨8 * (0x73014) + 0, 16, 0⟩

/-- ACC.COMP_PITCH bits 31:16, RO, reset 0: From the image: chroma pitch in bytes -/
def ACC.COMP_PITCH.CPITCH : Fld := ⟨8 * (0x73014) + 16, 16, 0⟩

/-- ACC.COMP_BASE[i] bits 27:0, RO, reset 0: From the image, in 4 KiB units: i = 0 luma and 1 chroma of surface 0, 2 luma and 3 chroma of surface 1 -/
def ACC.COMP_BASE.BASE (i : Nat) : Fld := ⟨8 * (0x73020 + 4 * i) + 0, 28, 0⟩

/-- ACC.COMP_STATUS bits 0:0, RO, reset 0: Surface last completed -/
def ACC.COMP_STATUS.LAST : Fld := ⟨8 * (0x73030) + 0, 1, 0⟩

/-- ACC.COMP_STATUS bits 1:1, RO, reset 0: Steps 2–5 in progress -/
def ACC.COMP_STATUS.BUSY : Fld := ⟨8 * (0x73030) + 1, 1, 0⟩

/-- ACC.COMP_STATUS bits 2:2, RO, reset 0: Reservation refused under R210 -/
def ACC.COMP_STATUS.REFUSED : Fld := ⟨8 * (0x73030) + 2, 1, 0⟩

/-- ACC.COMP_COUNTS bits 15:0, RO, reset 0: Frames written, wrapping modulo 2^16 -/
def ACC.COMP_COUNTS.FRAMES : Fld := ⟨8 * (0x73034) + 0, 16, 0⟩

/-- ACC.COMP_COUNTS bits 31:16, RO, reset 0: Frames ended at step 3, saturating at 65 535 -/
def ACC.COMP_COUNTS.UNCHANGED : Fld := ⟨8 * (0x73034) + 16, 16, 0⟩

/-- ACC.COMP_OVERRUN bits 15:0, RO, reset 0: Boundaries dropped under R206, saturating at 65 535 -/
def ACC.COMP_OVERRUN.OVERRUN : Fld := ⟨8 * (0x73038) + 0, 16, 0⟩

/-- ACC.CURVE[i] bits 9:0, RW, reset From image: Luma for density index i; live under R211 -/
def ACC.CURVE.VALUE (i : Nat) : Fld := ⟨8 * (0x73400 + 4 * i) + 0, 10, 0⟩

/-! ### ENS block -/

/-- ENS.CFG bits 1:0, RO, reset 0: From the image: 0 none, 1 member, 2 dealer, 3 standby -/
def ENS.CFG.ROLE : Fld := ⟨8 * (0x80000) + 0, 2, 0⟩

/-- ENS.CFG bits 2:2, RO, reset 0: From the image: TIME arms epoch loads (R230) -/
def ENS.CFG.TIME_LOAD : Fld := ⟨8 * (0x80000) + 2, 1, 0⟩

/-- ENS.CFG bits 3:3, RO, reset 0: From the image: enumerate at READY (R233) -/
def ENS.CFG.AUTO_ENUM : Fld := ⟨8 * (0x80000) + 3, 1, 0⟩

/-- ENS.ID bits 31:0, RO, reset 0: From the image -/
def ENS.ID.ENSEMBLE_ID : Fld := ⟨8 * (0x80004) + 0, 32, 0⟩

/-- ENS.TIMING bits 15:0, RO, reset 1000: From the image: STAT period in µs, 10–65 535 -/
def ENS.TIMING.STAT_PERIOD : Fld := ⟨8 * (0x80008) + 0, 16, 1000⟩

/-- ENS.TIMING bits 31:16, RO, reset 120: From the image: R224 wait in 100 ns units -/
def ENS.TIMING.LOST_WAIT : Fld := ⟨8 * (0x80008) + 16, 16, 120⟩

/-- ENS.DEAL_CFG bits 15:0, RO, reset 0: From the image: R236 limit in ticks -/
def ENS.DEAL_CFG.LATE_MAX : Fld := ⟨8 * (0x8000C) + 0, 16, 0⟩

/-- ENS.DEAL_CFG bits 31:16, RO, reset 100: From the image: R229 limit in ps -/
def ENS.DEAL_CFG.ALIGN_MAX : Fld := ⟨8 * (0x8000C) + 16, 16, 100⟩

/-- ENS.REF_DELAY bits 15:0, RO, reset 0: From the image: signed REFCLK path delay in ps -/
def ENS.REF_DELAY.DELAY : Fld := ⟨8 * (0x80010) + 0, 16, 0⟩

/-- ENS.STATUS bits 7:0, RO, reset 0: Own address -/
def ENS.STATUS.ADDR : Fld := ⟨8 * (0x80014) + 0, 8, 0⟩

/-- ENS.STATUS bits 10:8, RO, reset 0: 0 none, 1 member, 2 DEALER (acting), 3 standby -/
def ENS.STATUS.ACT_ROLE : Fld := ⟨8 * (0x80014) + 8, 3, 0⟩

/-- ENS.STATUS bits 12:11, RO, reset 0: 0 alone, 1 ring, 2 line -/
def ENS.STATUS.TOPO : Fld := ⟨8 * (0x80014) + 11, 2, 0⟩

/-- ENS.STATUS bits 13:13, RO, reset 0: Enumeration in progress -/
def ENS.STATUS.ENUM_BUSY : Fld := ⟨8 * (0x80014) + 13, 1, 0⟩

/-- ENS.STATUS bits 23:16, RO, reset 0: Acting dealer's address; 0 none known -/
def ENS.STATUS.DEALER : Fld := ⟨8 * (0x80014) + 16, 8, 0⟩

/-- ENS.STATUS bits 31:24, RO, reset 0: U from the last DONE -/
def ENS.STATUS.UNITS : Fld := ⟨8 * (0x80014) + 24, 8, 0⟩

/-- ENS.CMD bits 0:0, W1S, reset 0: Starts enumeration on the acting dealer, ignored elsewhere; reads 1 until DONE -/
def ENS.CMD.ENUM : Fld := ⟨8 * (0x80018) + 0, 1, 0⟩

/-- ENS.CMD bits 1:1, W1S, reset 0: Clears ENS.CALL_TX, CALL_RX, CALL_LOSS, DEAL_COUNTS and the port counters; reads 1 until done -/
def ENS.CMD.CLR_COUNTS : Fld := ⟨8 * (0x80018) + 1, 1, 0⟩

/-- ENS.DEAL_CMD bits 3:0, WO, reset 0: Sends deal definition n under R235 -/
def ENS.DEAL_CMD.DEAL : Fld := ⟨8 * (0x8001C) + 0, 4, 0⟩

/-- ENS.DEAL_CMD bits 8:8, RO, reset 0: 1 until sent -/
def ENS.DEAL_CMD.BUSY : Fld := ⟨8 * (0x8001C) + 8, 1, 0⟩

/-- ENS.DEAL_CMD bits 11:9, RO, reset 0: 0 sent, 1 not acting dealer, 2 definition not valid, 3 not in READY or ACQUIRE -/
def ENS.DEAL_CMD.RESULT : Fld := ⟨8 * (0x8001C) + 9, 3, 0⟩

/-- ENS.TRICK_NEXT bits 31:0, RO, reset 0: Next local trick number, R237 -/
def ENS.TRICK_NEXT.NEXT : Fld := ⟨8 * (0x80020) + 0, 32, 0⟩

/-- ENS.TRICK_HIGH bits 31:0, RO, reset 0: Latest trick number seen, R237 -/
def ENS.TRICK_HIGH.HIGH : Fld := ⟨8 * (0x80024) + 0, 32, 0⟩

/-- ENS.GEN bits 15:0, RO, reset 0: Highest dealer generation seen -/
def ENS.GEN.GEN : Fld := ⟨8 * (0x80028) + 0, 16, 0⟩

/-- ENS.GEN bits 30:16, RO, reset 0: SEQ of the next call sent -/
def ENS.GEN.CALL_SEQ : Fld := ⟨8 * (0x80028) + 16, 15, 0⟩

/-- ENS.LAST_DEAL bits 0:0, RO, reset 0: 0 ARM, 1 DISARM -/
def ENS.LAST_DEAL.OP : Fld := ⟨8 * (0x8002C) + 0, 1, 0⟩

/-- ENS.LAST_DEAL bits 3:1, RO, reset 0: 0 on time, 1 late, 2 stale, 3 ignored, 4 refused by the plan (R48) -/
def ENS.LAST_DEAL.OUTCOME : Fld := ⟨8 * (0x8002C) + 1, 3, 0⟩

/-- ENS.LAST_DEAL bits 7:4, RO, reset 0: Deal number -/
def ENS.LAST_DEAL.DEAL : Fld := ⟨8 * (0x8002C) + 4, 4, 0⟩

/-- ENS.LAST_DEAL bits 15:8, RO, reset 0: Sender -/
def ENS.LAST_DEAL.SRC : Fld := ⟨8 * (0x8002C) + 8, 8, 0⟩

/-- ENS.LAST_DEAL bits 31:16, RO, reset 0: Ticks late, saturating at 65 535 -/
def ENS.LAST_DEAL.LATE_BY : Fld := ⟨8 * (0x8002C) + 16, 16, 0⟩

/-- ENS.CALL_TX bits 31:0, RO, reset 0: Call pairs sent, saturating at 4 294 967 295 -/
def ENS.CALL_TX.COUNT : Fld := ⟨8 * (0x80030) + 0, 32, 0⟩

/-- ENS.CALL_RX bits 31:0, RO, reset 0: Calls accepted and delivered, saturating at 4 294 967 295 -/
def ENS.CALL_RX.COUNT : Fld := ⟨8 * (0x80034) + 0, 32, 0⟩

/-- ENS.CALL_LOSS bits 15:0, RO, reset 0: Calls lost under R224, saturating at 65 535 -/
def ENS.CALL_LOSS.LOST : Fld := ⟨8 * (0x80038) + 0, 16, 0⟩

/-- ENS.CALL_LOSS bits 23:16, RO, reset 0: Call pairs dropped under R218, saturating at 255 -/
def ENS.CALL_LOSS.DROPPED : Fld := ⟨8 * (0x80038) + 16, 8, 0⟩

/-- ENS.CALL_LOSS bits 31:24, RO, reset 0: Calls not sent under R231, saturating at 255 -/
def ENS.CALL_LOSS.UNSENT : Fld := ⟨8 * (0x80038) + 24, 8, 0⟩

/-- ENS.DEAL_COUNTS bits 15:0, RO, reset 0: DEALs accepted, saturating at 65 535 -/
def ENS.DEAL_COUNTS.RX : Fld := ⟨8 * (0x8003C) + 0, 16, 0⟩

/-- ENS.DEAL_COUNTS bits 23:16, RO, reset 0: DEALs ignored, saturating at 255 -/
def ENS.DEAL_COUNTS.IGNORED : Fld := ⟨8 * (0x8003C) + 16, 8, 0⟩

/-- ENS.DEAL_COUNTS bits 31:24, RO, reset 0: Ordinary messages dropped under R218, saturating at 255 -/
def ENS.DEAL_COUNTS.MSG_DROPPED : Fld := ⟨8 * (0x8003C) + 24, 8, 0⟩

/-- ENS.DEAL_DEF[n] bits 0:0, RO, reset 0: From the image: definition exists -/
def ENS.DEAL_DEF.VALID (n : Nat) : Fld := ⟨8 * (0x80100 + 16 * n) + 0, 1, 0⟩

/-- ENS.DEAL_DEF[n] bits 1:1, RO, reset 0: From the image: 0 ARM, 1 DISARM -/
def ENS.DEAL_DEF.OP (n : Nat) : Fld := ⟨8 * (0x80100 + 16 * n) + 1, 1, 0⟩

/-- ENS.DEAL_DEF[n] bits 31:8, RO, reset 0: From the image: lead in ticks -/
def ENS.DEAL_DEF.LEAD (n : Nat) : Fld := ⟨8 * (0x80100 + 16 * n) + 8, 24, 0⟩

/-- ENS.DEAL_MASK_LO[n] bits 31:0, RO, reset 0: From the image: plans 0–31 -/
def ENS.DEAL_MASK_LO.MASK (n : Nat) : Fld := ⟨8 * (0x80104 + 16 * n) + 0, 32, 0⟩

/-- ENS.DEAL_MASK_HI[n] bits 31:0, RO, reset 0: From the image: plans 32–63 -/
def ENS.DEAL_MASK_HI.MASK (n : Nat) : Fld := ⟨8 * (0x80108 + 16 * n) + 0, 32, 0⟩

/-- ENS.PORT_STATUS[p] bits 1:0, RO, reset 0: 0 DOWN, 1 TRAINING, 2 UP, 3 MISWIRED -/
def ENS.PORT_STATUS.STATE (p : Nat) : Fld := ⟨8 * (0x80200 + 32 * p) + 0, 2, 0⟩

/-- ENS.PORT_STATUS[p] bits 2:2, RO, reset 0: Block lock held -/
def ENS.PORT_STATUS.LOCK (p : Nat) : Fld := ⟨8 * (0x80200 + 32 * p) + 2, 1, 0⟩

/-- ENS.PORT_STATUS[p] bits 15:8, RO, reset 0: Neighbour's address -/
def ENS.PORT_STATUS.NEIGH_ADDR (p : Nat) : Fld := ⟨8 * (0x80200 + 32 * p) + 8, 8, 0⟩

/-- ENS.PORT_STATUS[p] bits 16:16, RO, reset 0: Neighbour's port, 0 A, 1 B -/
def ENS.PORT_STATUS.NEIGH_PORT (p : Nat) : Fld := ⟨8 * (0x80200 + 32 * p) + 16, 1, 0⟩

/-- ENS.PORT_STATUS[p] bits 31:24, RO, reset 0: Transitions to DOWN, saturating at 255 -/
def ENS.PORT_STATUS.DOWNS (p : Nat) : Fld := ⟨8 * (0x80200 + 32 * p) + 24, 8, 0⟩

/-- ENS.PORT_DELAY[p] bits 31:0, RO, reset 0: Cable delay δ in fs, R228 -/
def ENS.PORT_DELAY.DELAY (p : Nat) : Fld := ⟨8 * (0x80204 + 32 * p) + 0, 32, 0⟩

/-- ENS.PORT_OFFSET[p] bits 31:0, RO, reset 0: Signed θ in fs, R228 -/
def ENS.PORT_OFFSET.OFFSET (p : Nat) : Fld := ⟨8 * (0x80208 + 32 * p) + 0, 32, 0⟩

/-- ENS.PORT_ERR[p] bits 15:0, RO, reset 0: Errored blocks, saturating at 65 535 -/
def ENS.PORT_ERR.BLOCK_ERR (p : Nat) : Fld := ⟨8 * (0x8020C + 32 * p) + 0, 16, 0⟩

/-- ENS.PORT_ERR[p] bits 31:16, RO, reset 0: Copies failing their check, saturating at 65 535 -/
def ENS.PORT_ERR.CRC_ERR (p : Nat) : Fld := ⟨8 * (0x8020C + 32 * p) + 16, 16, 0⟩

/-- ENS.PORT_COPY[p] bits 15:0, RO, reset 0: R224, saturating at 65 535 -/
def ENS.PORT_COPY.SINGLE (p : Nat) : Fld := ⟨8 * (0x80210 + 32 * p) + 0, 16, 0⟩

/-- ENS.PORT_COPY[p] bits 31:16, RO, reset 0: R224, saturating at 65 535 -/
def ENS.PORT_COPY.PAIR_LOST (p : Nat) : Fld := ⟨8 * (0x80210 + 32 * p) + 16, 16, 0⟩

/-- ENS.PORT_COMP[p] bits 15:0, RO, reset 0: IDLE blocks inserted, saturating at 65 535 -/
def ENS.PORT_COMP.INSERTED (p : Nat) : Fld := ⟨8 * (0x80214 + 32 * p) + 0, 16, 0⟩

/-- ENS.PORT_COMP[p] bits 31:16, RO, reset 0: IDLE blocks deleted, saturating at 65 535 -/
def ENS.PORT_COMP.DELETED (p : Nat) : Fld := ⟨8 * (0x80214 + 32 * p) + 16, 16, 0⟩

/-- ENS.UNIT_STATE[a] bits 0:0, RO, reset 0: A STAT arrived within three periods -/
def ENS.UNIT_STATE.PRESENT (a : Nat) : Fld := ⟨8 * (0x81000 + 16 * a) + 0, 1, 0⟩

/-- ENS.UNIT_STATE[a] bits 2:1, RO, reset 0: ROLE of its last STAT -/
def ENS.UNIT_STATE.ROLE (a : Nat) : Fld := ⟨8 * (0x81000 + 16 * a) + 1, 2, 0⟩

/-- ENS.UNIT_STATE[a] bits 7:4, RO, reset 0: Mode code of its last STAT -/
def ENS.UNIT_STATE.MODE (a : Nat) : Fld := ⟨8 * (0x81000 + 16 * a) + 4, 4, 0⟩

/-- ENS.UNIT_STATE[a] bits 15:8, RO, reset 0: FLAGS of its last STAT -/
def ENS.UNIT_STATE.FLAGS (a : Nat) : Fld := ⟨8 * (0x81000 + 16 * a) + 8, 8, 0⟩

/-- ENS.UNIT_STATE[a] bits 23:16, RO, reset 0: Armed slots of its last STAT -/
def ENS.UNIT_STATE.ARMED (a : Nat) : Fld := ⟨8 * (0x81000 + 16 * a) + 16, 8, 0⟩

/-- ENS.UNIT_STATE[a] bits 31:24, RO, reset 0: Fewest links crossed by its last STAT -/
def ENS.UNIT_STATE.HOPS (a : Nat) : Fld := ⟨8 * (0x81000 + 16 * a) + 24, 8, 0⟩

/-- ENS.UNIT_TRICK[a] bits 31:0, RO, reset 0: TRICK_NEXT of its last STAT -/
def ENS.UNIT_TRICK.NEXT (a : Nat) : Fld := ⟨8 * (0x81004 + 16 * a) + 0, 32, 0⟩

/-- ENS.UNIT_SEEN[a] bits 31:0, RO, reset 0: Own tick bits 31:0 at receipt of its last STAT -/
def ENS.UNIT_SEEN.TICK (a : Nat) : Fld := ⟨8 * (0x81008 + 16 * a) + 0, 32, 0⟩

/-! ### MEM block -/

/-- MEM.CFG bits 11:0, RO, reset 0: From the image: bit c is 1 for a populated channel -/
def MEM.CFG.POPULATED : Fld := ⟨8 * (0x90000) + 0, 12, 0⟩

/-- MEM.CFG bits 13:12, RO, reset 0: From the image: 0 A, 1 B, 2 C (Table 10-1) -/
def MEM.CFG.CONFIG : Fld := ⟨8 * (0x90000) + 12, 2, 0⟩

/-- MEM.CFG bits 14:14, RO, reset 0: From the image: 0 x4, 1 x8 -/
def MEM.CFG.WIDTH : Fld := ⟨8 * (0x90000) + 14, 1, 0⟩

/-- MEM.CFG bits 16:15, RO, reset 0: From the image: 0 16 Gb, 1 24 Gb, 2 32 Gb -/
def MEM.CFG.DENSITY : Fld := ⟨8 * (0x90000) + 15, 2, 0⟩

/-- MEM.CFG bits 19:17, RO, reset 0: From the image: ranks per channel, spare included, 1–4 -/
def MEM.CFG.RANKS : Fld := ⟨8 * (0x90000) + 17, 3, 0⟩

/-- MEM.CFG bits 20:20, RO, reset 0: From the image: highest rank is a spare -/
def MEM.CFG.SPARE : Fld := ⟨8 * (0x90000) + 20, 1, 0⟩

/-- MEM.STATUS bits 11:0, RO, reset 0: Bit c is 1 for a channel in service -/
def MEM.STATUS.IN_SERVICE : Fld := ⟨8 * (0x90004) + 0, 12, 0⟩

/-- MEM.STATUS bits 15:12, RO, reset 0: Channels in the address map, n0 -/
def MEM.STATUS.N0 : Fld := ⟨8 * (0x90004) + 12, 4, 0⟩

/-- MEM.STATUS bits 19:16, RO, reset 0: Way re-homed under R251; valid when REHOMED is 1 -/
def MEM.STATUS.REHOMED_WAY : Fld := ⟨8 * (0x90004) + 16, 4, 0⟩

/-- MEM.STATUS bits 20:20, RO, reset 0: A way is re-homed -/
def MEM.STATUS.REHOMED : Fld := ⟨8 * (0x90004) + 20, 1, 0⟩

/-- MEM.STATUS bits 21:21, RO, reset 0: A way is unmapped -/
def MEM.STATUS.UNMAPPED : Fld := ⟨8 * (0x90004) + 21, 1, 0⟩

/-- MEM.STATUS bits 22:22, RO, reset 0: A migration is in progress -/
def MEM.STATUS.MIGRATING : Fld := ⟨8 * (0x90004) + 22, 1, 0⟩

/-- MEM.STATUS bits 23:23, RO, reset 0: Display panic raised -/
def MEM.STATUS.PANIC : Fld := ⟨8 * (0x90004) + 23, 1, 0⟩

/-- MEM.CMD bits 0:0, W1S, reset 0: Clears CH_ECC, CH_CAPAR, CH_REFRESH.MAKEUP, CH_RETRAIN.COUNT, CH_RH and MEM.PANIC; reads 1 until done -/
def MEM.CMD.CLR_COUNTS : Fld := ⟨8 * (0x90008) + 0, 1, 0⟩

/-- MEM.CEIL bits 15:0, RO, reset 0: Ceiling per channel under R256 -/
def MEM.CEIL.CEIL : Fld := ⟨8 * (0x9000C) + 0, 16, 0⟩

/-- MEM.CEIL bits 31:16, RO, reset 2000: From the image: migration grant -/
def MEM.CEIL.MIG : Fld := ⟨8 * (0x9000C) + 16, 16, 2000⟩

/-- MEM.MAPG bits 24:0, RO, reset 0: Mapped granules per channel -/
def MEM.MAPG.MAPG : Fld := ⟨8 * (0x90010) + 0, 25, 0⟩

/-- MEM.RESG bits 24:0, RO, reset 0: From the image: re-home reserve per channel in granules -/
def MEM.RESG.RESG : Fld := ⟨8 * (0x90014) + 0, 25, 0⟩

/-- MEM.RESG bits 25:25, RO, reset 0: RESG × (n0 − 1) ≥ MAPG -/
def MEM.RESG.SUFFICIENT : Fld := ⟨8 * (0x90014) + 25, 1, 0⟩

/-- MEM.AGE bits 9:0, RO, reset 200: From the image: class-0 age limit in 10 ns, 1–1023 -/
def MEM.AGE.CLS0 : Fld := ⟨8 * (0x90018) + 0, 10, 200⟩

/-- MEM.AGE bits 19:10, RO, reset 200: From the image: class-1 age limit -/
def MEM.AGE.CLS1 : Fld := ⟨8 * (0x90018) + 10, 10, 200⟩

/-- MEM.AGE bits 29:20, RO, reset 200: From the image: class-2 age limit -/
def MEM.AGE.CLS2 : Fld := ⟨8 * (0x90018) + 20, 10, 200⟩

/-- MEM.LIMITS bits 15:0, RO, reset 4096: From the image: activation threshold of R262 -/
def MEM.LIMITS.ACT_TH : Fld := ⟨8 * (0x9001C) + 0, 16, 4096⟩

/-- MEM.LIMITS bits 23:16, RO, reset 10: From the image: throttle period in µs -/
def MEM.LIMITS.THROTTLE : Fld := ⟨8 * (0x9001C) + 16, 8, 10⟩

/-- MEM.LIMITS bits 27:24, RO, reset 8: From the image: threshold for DEGRADED in units of 2 uncorrectable errors, 1–15 (2–30 errors); the reset value 8 gives the default of 16 errors (R267) -/
def MEM.LIMITS.UE_TH : Fld := ⟨8 * (0x9001C) + 24, 4, 8⟩

/-- MEM.ADMIT bits 2:0, RO, reset 0: Last admission: 0 plan activation, 1 grant increase, 2 display, 3 composer, 4 readout guarantee, 5 recomputation after loss -/
def MEM.ADMIT.KIND : Fld := ⟨8 * (0x90020) + 0, 3, 0⟩

/-- MEM.ADMIT bits 12:4, RO, reset 0: Plan, channel or queue concerned -/
def MEM.ADMIT.ID : Fld := ⟨8 * (0x90020) + 4, 9, 0⟩

/-- MEM.ADMIT bits 14:13, RO, reset 0: 0 admitted, 1 refused for bandwidth, 2 refused for an unmapped region, 3 refused for the PCIe link ceiling (R288) -/
def MEM.ADMIT.RESULT : Fld := ⟨8 * (0x90020) + 13, 2, 0⟩

/-- MEM.ADMIT bits 19:16, RO, reset 0: Channel with the largest demand; the lowest-numbered of equal ones (R257) -/
def MEM.ADMIT.WORST : Fld := ⟨8 * (0x90020) + 16, 4, 0⟩

/-- MEM.ADMIT_DEMAND bits 31:0, RO, reset 0: Total shares on WORST, the request included -/
def MEM.ADMIT_DEMAND.DEMAND : Fld := ⟨8 * (0x90024) + 0, 32, 0⟩

/-- MEM.ADMIT_EXCESS bits 31:0, RO, reset 0: DEMAND − CEIL when refused for bandwidth; the excess over LINK_CEIL when refused for the link (R288); otherwise 0 -/
def MEM.ADMIT_EXCESS.EXCESS : Fld := ⟨8 * (0x90028) + 0, 32, 0⟩

/-- MEM.PANIC bits 31:0, RO, reset 0: Panics raised, saturating at 4 294 967 295 -/
def MEM.PANIC.COUNT : Fld := ⟨8 * (0x9002C) + 0, 32, 0⟩

/-- MEM.FIXED_RESV bits 15:0, RO, reset 0: Display share per channel -/
def MEM.FIXED_RESV.DISPLAY : Fld := ⟨8 * (0x90030) + 0, 16, 0⟩

/-- MEM.FIXED_RESV bits 31:16, RO, reset 0: Composer share per channel -/
def MEM.FIXED_RESV.COMPOSER : Fld := ⟨8 * (0x90030) + 16, 16, 0⟩

/-- MEM.RDO_RESV bits 31:0, RO, reset 0: Sum of readout-queue shares per channel -/
def MEM.RDO_RESV.SHARE : Fld := ⟨8 * (0x90034) + 0, 32, 0⟩

/-- MEM.SLOT_RESV[k] bits 31:0, RO, reset 0: Share per channel of every reservation of the plan in slot k -/
def MEM.SLOT_RESV.SHARE (k : Nat) : Fld := ⟨8 * (0x90100 + 8 * k) + 0, 32, 0⟩

/-- MEM.SLOT_RMAX[k] bits 23:0, RO, reset 0: From the image: declared set rate of the plan in slot k, sets per second -/
def MEM.SLOT_RMAX.RMAX (k : Nat) : Fld := ⟨8 * (0x90104 + 8 * k) + 0, 24, 0⟩

/-- MEM.CH_STATE[c] bits 2:0, RO, reset 0: 0 unpopulated, 1 training, 2 in service, 3 excluded, 4 lost, 5 SELF_REFRESH -/
def MEM.CH_STATE.STATE (c : Nat) : Fld := ⟨8 * (0x91000 + 64 * c) + 0, 3, 0⟩

/-- MEM.CH_STATE[c] bits 15:8, RO, reset 0: Two bits per rank j at bits 9+2j:8+2j: 0 good, 1 DEGRADED, 2 retired, 3 spare -/
def MEM.CH_STATE.RANK (c : Nat) : Fld := ⟨8 * (0x91000 + 64 * c) + 8, 8, 0⟩

/-- MEM.CH_STATE[c] bits 17:16, RO, reset 0: Rank being migrated -/
def MEM.CH_STATE.MIG_FROM (c : Nat) : Fld := ⟨8 * (0x91000 + 64 * c) + 16, 2, 0⟩

/-- MEM.CH_STATE[c] bits 19:18, RO, reset 0: Target rank -/
def MEM.CH_STATE.MIG_TO (c : Nat) : Fld := ⟨8 * (0x91000 + 64 * c) + 18, 2, 0⟩

/-- MEM.CH_STATE[c] bits 21:20, RO, reset 0: 0 none, 1 running, 2 paused, 3 complete -/
def MEM.CH_STATE.MIG_STATE (c : Nat) : Fld := ⟨8 * (0x91000 + 64 * c) + 20, 2, 0⟩

/-- MEM.CH_STATE[c] bits 28:22, RO, reset 0: Percentage under R269 -/
def MEM.CH_STATE.MIG_PCT (c : Nat) : Fld := ⟨8 * (0x91000 + 64 * c) + 22, 7, 0⟩

/-- MEM.CH_MIG_POS[c] bits 31:0, RO, reset 0: Rows copied -/
def MEM.CH_MIG_POS.POS (c : Nat) : Fld := ⟨8 * (0x91004 + 64 * c) + 0, 32, 0⟩

/-- MEM.CH_MIG_TOTAL[c] bits 31:0, RO, reset 0: Rows of the migrating rank -/
def MEM.CH_MIG_TOTAL.TOTAL (c : Nat) : Fld := ⟨8 * (0x91008 + 64 * c) + 0, 32, 0⟩

/-- MEM.CH_RESV[c] bits 31:0, RO, reset 0: Total shares held on the channel, classes 0 and 1 -/
def MEM.CH_RESV.SHARE (c : Nat) : Fld := ⟨8 * (0x9100C + 64 * c) + 0, 32, 0⟩

/-- MEM.CH_ACCT[c] bits 31:0, RO, reset 0: Total shares the last admission demanded on this channel -/
def MEM.CH_ACCT.DEMAND (c : Nat) : Fld := ⟨8 * (0x91010 + 64 * c) + 0, 32, 0⟩

/-- MEM.CH_ECC[c] bits 15:0, RO, reset 0: Corrected errors, saturating at 65 535 -/
def MEM.CH_ECC.CE (c : Nat) : Fld := ⟨8 * (0x91014 + 64 * c) + 0, 16, 0⟩

/-- MEM.CH_ECC[c] bits 31:16, RO, reset 0: Uncorrectable errors, saturating at 65 535 -/
def MEM.CH_ECC.UE (c : Nat) : Fld := ⟨8 * (0x91014 + 64 * c) + 16, 16, 0⟩

/-- MEM.CH_CAPAR[c] bits 15:0, RO, reset 0: Command/address parity errors, saturating at 65 535 -/
def MEM.CH_CAPAR.PARITY (c : Nat) : Fld := ⟨8 * (0x91018 + 64 * c) + 0, 16, 0⟩

/-- MEM.CH_CAPAR[c] bits 23:16, RO, reset 0: Failed retraining pauses, saturating at 255 -/
def MEM.CH_CAPAR.RETRAIN_FAIL (c : Nat) : Fld := ⟨8 * (0x91018 + 64 * c) + 16, 8, 0⟩

/-- MEM.CH_CAPAR[c] bits 26:24, RO, reset 0: Consecutive failed pauses, 0–4 -/
def MEM.CH_CAPAR.CONSEC (c : Nat) : Fld := ⟨8 * (0x91018 + 64 * c) + 24, 3, 0⟩

/-- MEM.CH_REFRESH[c] bits 3:0, RO, reset 0: Largest number of refreshes now postponed on any rank, 0–8 -/
def MEM.CH_REFRESH.POSTPONED (c : Nat) : Fld := ⟨8 * (0x9101C + 64 * c) + 0, 4, 0⟩

/-- MEM.CH_REFRESH[c] bits 7:4, RO, reset 0: Largest value of POSTPONED since LOAD -/
def MEM.CH_REFRESH.MAX (c : Nat) : Fld := ⟨8 * (0x9101C + 64 * c) + 4, 4, 0⟩

/-- MEM.CH_REFRESH[c] bits 31:16, RO, reset 0: Make-up bursts, saturating at 65 535 -/
def MEM.CH_REFRESH.MAKEUP (c : Nat) : Fld := ⟨8 * (0x9101C + 64 * c) + 16, 16, 0⟩

/-- MEM.CH_RETRAIN[c] bits 15:0, RO, reset 0: Retraining pauses, saturating at 65 535 -/
def MEM.CH_RETRAIN.COUNT (c : Nat) : Fld := ⟨8 * (0x91020 + 64 * c) + 0, 16, 0⟩

/-- MEM.CH_RETRAIN[c] bits 26:16, RO, reset 0: Duration of the last pause in ns -/
def MEM.CH_RETRAIN.LAST_NS (c : Nat) : Fld := ⟨8 * (0x91020 + 64 * c) + 16, 11, 0⟩

/-- MEM.CH_RH[c] bits 15:0, RO, reset 0: Throttle events, saturating at 65 535 -/
def MEM.CH_RH.THROTTLES (c : Nat) : Fld := ⟨8 * (0x91024 + 64 * c) + 0, 16, 0⟩

/-- MEM.CH_RH[c] bits 31:16, RO, reset 0: RFM commands, saturating at 65 535 -/
def MEM.CH_RH.RFM (c : Nat) : Fld := ⟨8 * (0x91024 + 64 * c) + 16, 16, 0⟩

/-- MEM.CH_POISON[c] bits 31:0, RO, reset 0: Granules poisoned under R265, saturating at 4 294 967 295 -/
def MEM.CH_POISON.GRANULES (c : Nat) : Fld := ⟨8 * (0x91028 + 64 * c) + 0, 32, 0⟩

/-- MEM.CH_ERR_LO[c] bits 31:0, RO, reset 0: Device address bits 31:0 of the last uncorrectable error; a read latches CH_ERR_HI -/
def MEM.CH_ERR_LO.ADDR (c : Nat) : Fld := ⟨8 * (0x9102C + 64 * c) + 0, 32, 0⟩

/-- MEM.CH_ERR_HI[c] bits 7:0, RO, reset 0: Device address bits 39:32, as latched -/
def MEM.CH_ERR_HI.ADDR (c : Nat) : Fld := ⟨8 * (0x91030 + 64 * c) + 0, 8, 0⟩

/-- MEM.CH_ERR_HI[c] bits 9:8, RO, reset 0: Rank of the error -/
def MEM.CH_ERR_HI.RANK (c : Nat) : Fld := ⟨8 * (0x91030 + 64 * c) + 8, 2, 0⟩

/-! ### RDO block -/

/-- RDO.CMD bits 0:0, W1S, reset 0: Book snapshot under R298; reads 1 until done -/
def RDO.CMD.SNAP : Fld := ⟨8 * (0xA0000) + 0, 1, 0⟩

/-- RDO.CMD bits 1:1, W1S, reset 0: Clears Q_ERR of every queue; reads 1 until done -/
def RDO.CMD.CLR_COUNTS : Fld := ⟨8 * (0xA0000) + 1, 1, 0⟩

/-- RDO.RESULT bits 8:0, RO, reset 0: Queue of the last refused write or command -/
def RDO.RESULT.QUEUE : Fld := ⟨8 * (0xA0004) + 0, 9, 0⟩

/-- RDO.RESULT bits 15:12, RO, reset 0: 0 accepted, 1 queue not IDLE, 2 binding locked, 3 value out of range, 4 command not allowed in state, 5 COMP_RD beyond COMP_WR -/
def RDO.RESULT.RESULT : Fld := ⟨8 * (0xA0004) + 12, 4, 0⟩

/-- RDO.LINK_CEIL bits 15:0, RO, reset 0: LINK_CEIL in MB/s under R288 -/
def RDO.LINK_CEIL.CEIL : Fld := ⟨8 * (0xA0008) + 0, 16, 0⟩

/-- RDO.LINK_CEIL bits 31:16, RO, reset 0: Sum of held guarantees in 1 GB/s units, rounded up -/
def RDO.LINK_CEIL.HELD : Fld := ⟨8 * (0xA0008) + 16, 16, 0⟩

/-- RDO.SNAP_TICK_LO bits 31:0, RO, reset 0: Tick bits 31:0 of the last snapshot -/
def RDO.SNAP_TICK_LO.TICK : Fld := ⟨8 * (0xA000C) + 0, 32, 0⟩

/-- RDO.SNAP_TICK_HI bits 15:0, RO, reset 0: Tick bits 47:32 of the last snapshot -/
def RDO.SNAP_TICK_HI.TICK : Fld := ⟨8 * (0xA0010) + 0, 16, 0⟩

/-- RDO.HALT_SUM[b] bits 31:0, RO, reset 0: Bit i is 1 while queue 32b + i is HALTED -/
def RDO.HALT_SUM.HALTED (b : Nat) : Fld := ⟨8 * (0xA0100 + 4 * b) + 0, 32, 0⟩

/-- RDO.Q_CFG[q] bits 1:0, RW, reset From image: 0 PLAN, 1 ACCUM, 2 IMAGE, 3 RANGE (R274) -/
def RDO.Q_CFG.SRC_KIND (q : Nat) : Fld := ⟨8 * (0xB0000 + 64 * q) + 0, 2, 0⟩

/-- RDO.Q_CFG[q] bits 7:2, RW, reset From image: Plan, or IMAGE selector -/
def RDO.Q_CFG.SRC_ID (q : Nat) : Fld := ⟨8 * (0xB0000 + 64 * q) + 2, 6, 0⟩

/-- RDO.Q_CFG[q] bits 10:8, RW, reset From image: Priority 0–7, 7 highest -/
def RDO.Q_CFG.PRIO (q : Nat) : Fld := ⟨8 * (0xB0000 + 64 * q) + 8, 3, 0⟩

/-- RDO.Q_CFG[q] bits 23:16, RW, reset From image: MSI-X vector of completion interrupts -/
def RDO.Q_CFG.VECTOR (q : Nat) : Fld := ⟨8 * (0xB0000 + 64 * q) + 16, 8, 0⟩

/-- RDO.Q_PACE[q] bits 15:0, RW, reset From image: Items, 1–65 535 -/
def RDO.Q_PACE.HI_MARK (q : Nat) : Fld := ⟨8 * (0xB0004 + 64 * q) + 0, 16, 0⟩

/-- RDO.Q_PACE[q] bits 31:16, RW, reset From image: Items, below HI_MARK -/
def RDO.Q_PACE.LO_MARK (q : Nat) : Fld := ⟨8 * (0xB0004 + 64 * q) + 16, 16, 0⟩

/-- RDO.Q_PACE_TO[q] bits 31:0, RW, reset From image: Pacing timeout in ticks; 0 disables -/
def RDO.Q_PACE_TO.TICKS (q : Nat) : Fld := ⟨8 * (0xB0008 + 64 * q) + 0, 32, 0⟩

/-- RDO.Q_CTL[q] bits 3:0, RW, reset From image: Reissues, 0–15 (R294) -/
def RDO.Q_CTL.RETRY_MAX (q : Nat) : Fld := ⟨8 * (0xB000C + 64 * q) + 0, 4, 0⟩

/-- RDO.Q_CTL[q] bits 7:4, RW, reset 12: log2 of the FIXED request size, 6–12 -/
def RDO.Q_CTL.FIXED_WIN (q : Nat) : Fld := ⟨8 * (0xB000C + 64 * q) + 4, 4, 12⟩

/-- RDO.Q_CTL[q] bits 12:8, RW, reset From image: log2 of ring entries, 4–16 -/
def RDO.Q_CTL.SIZE (q : Nat) : Fld := ⟨8 * (0xB000C + 64 * q) + 8, 5, 0⟩

/-- RDO.Q_CTL[q] bits 13:13, RW, reset From image: Poison delivery under R296 -/
def RDO.Q_CTL.EP (q : Nat) : Fld := ⟨8 * (0xB000C + 64 * q) + 13, 1, 0⟩

/-- RDO.Q_HEAD_LO[q] bits 0:0, RW, reset 0: First descriptor in device DRAM -/
def RDO.Q_HEAD_LO.DEV (q : Nat) : Fld := ⟨8 * (0xB0010 + 64 * q) + 0, 1, 0⟩

/-- RDO.Q_HEAD_LO[q] bits 31:5, RW, reset 0: First descriptor address bits 31:5 -/
def RDO.Q_HEAD_LO.ADDR (q : Nat) : Fld := ⟨8 * (0xB0010 + 64 * q) + 5, 27, 0⟩

/-- RDO.Q_HEAD_HI[q] bits 31:0, RW, reset 0: Address bits 63:32 -/
def RDO.Q_HEAD_HI.ADDR (q : Nat) : Fld := ⟨8 * (0xB0014 + 64 * q) + 0, 32, 0⟩

/-- RDO.Q_COMP_BASE_LO[q] bits 0:0, RW, reset 0: Ring in device DRAM -/
def RDO.Q_COMP_BASE_LO.DEV (q : Nat) : Fld := ⟨8 * (0xB0018 + 64 * q) + 0, 1, 0⟩

/-- RDO.Q_COMP_BASE_LO[q] bits 31:12, RW, reset 0: Ring base bits 31:12 -/
def RDO.Q_COMP_BASE_LO.ADDR (q : Nat) : Fld := ⟨8 * (0xB0018 + 64 * q) + 12, 20, 0⟩

/-- RDO.Q_COMP_BASE_HI[q] bits 31:0, RW, reset 0: Ring base bits 63:32 -/
def RDO.Q_COMP_BASE_HI.ADDR (q : Nat) : Fld := ⟨8 * (0xB001C + 64 * q) + 0, 32, 0⟩

/-- RDO.Q_LEVEL[q] bits 25:0, RO, reset 0: Items available under R289 -/
def RDO.Q_LEVEL.LEVEL (q : Nat) : Fld := ⟨8 * (0xB0020 + 64 * q) + 0, 26, 0⟩

/-- RDO.Q_CMD[q] bits 0:0, W1S, reset 0: R293; reads 0 -/
def RDO.Q_CMD.START (q : Nat) : Fld := ⟨8 * (0xB0024 + 64 * q) + 0, 1, 0⟩

/-- RDO.Q_CMD[q] bits 1:1, W1S, reset 0: R293; reads 1 until IDLE -/
def RDO.Q_CMD.STOP (q : Nat) : Fld := ⟨8 * (0xB0024 + 64 * q) + 1, 1, 0⟩

/-- RDO.Q_CMD[q] bits 2:2, W1S, reset 0: R290; reads 1 until the flush ends -/
def RDO.Q_CMD.FLUSH (q : Nat) : Fld := ⟨8 * (0xB0024 + 64 * q) + 2, 1, 0⟩

/-- RDO.Q_CMD[q] bits 3:3, W1S, reset 0: R293; reads 0 -/
def RDO.Q_CMD.RESUME (q : Nat) : Fld := ⟨8 * (0xB0024 + 64 * q) + 3, 1, 0⟩

/-- RDO.Q_DOORBELL[q] bits 31:0, WO, reset 0: Any write is a doorbell under R292 -/
def RDO.Q_DOORBELL.RING (q : Nat) : Fld := ⟨8 * (0xB0028 + 64 * q) + 0, 32, 0⟩

/-- RDO.Q_STATE[q] bits 2:0, RO, reset 0: 0 IDLE, 1 WAITING (pacing off), 2 RUNNING, 3 PARKED, 4 HALTED -/
def RDO.Q_STATE.STATE (q : Nat) : Fld := ⟨8 * (0xB002C + 64 * q) + 0, 3, 0⟩

/-- RDO.Q_STATE[q] bits 7:3, RO, reset 0: 0 none, 1 CPL_ABORT, 2 CPL_TIMEOUT, 3 UR, 4 POISONED_CPL, 5 DESC_POISON, 6 BAD_DESC, 7 ITEM_TOO_LARGE, 8 MODE, 9 COMP_UNMAPPED -/
def RDO.Q_STATE.CAUSE (q : Nat) : Fld := ⟨8 * (0xB002C + 64 * q) + 3, 5, 0⟩

/-- RDO.Q_STATE[q] bits 9:8, RO, reset 0: 0 none configured or not requested, 1 held, 2 REFUSED, 3 withdrawn -/
def RDO.Q_STATE.GUAR_STATE (q : Nat) : Fld := ⟨8 * (0xB002C + 64 * q) + 8, 2, 0⟩

/-- RDO.Q_STATE[q] bits 10:10, RO, reset 0: A flush is in effect -/
def RDO.Q_STATE.FLUSHING (q : Nat) : Fld := ⟨8 * (0xB002C + 64 * q) + 10, 1, 0⟩

/-- RDO.Q_STATE[q] bits 11:11, RO, reset 0: Waiting under R284 -/
def RDO.Q_STATE.RING_FULL (q : Nat) : Fld := ⟨8 * (0xB002C + 64 * q) + 11, 1, 0⟩

/-- RDO.Q_STATE[q] bits 12:12, RO, reset 0: Pending doorbell under R292 -/
def RDO.Q_STATE.DB_PEND (q : Nat) : Fld := ⟨8 * (0xB002C + 64 * q) + 12, 1, 0⟩

/-- RDO.Q_STATE[q] bits 19:13, RO, reset 0: R291 -/
def RDO.Q_STATE.PCT (q : Nat) : Fld := ⟨8 * (0xB002C + 64 * q) + 13, 7, 0⟩

/-- RDO.Q_PROG_POS[q] bits 31:0, RO, reset 0: R291 -/
def RDO.Q_PROG_POS.POS (q : Nat) : Fld := ⟨8 * (0xB0030 + 64 * q) + 0, 32, 0⟩

/-- RDO.Q_PROG_TOTAL[q] bits 31:0, RO, reset 0: R291 -/
def RDO.Q_PROG_TOTAL.TOTAL (q : Nat) : Fld := ⟨8 * (0xB0034 + 64 * q) + 0, 32, 0⟩

/-- RDO.Q_CUR_LO[q] bits 0:0, RO, reset 0: Current descriptor in device DRAM -/
def RDO.Q_CUR_LO.DEV (q : Nat) : Fld := ⟨8 * (0xB0038 + 64 * q) + 0, 1, 0⟩

/-- RDO.Q_CUR_LO[q] bits 31:5, RO, reset 0: Current, parked or halted descriptor address bits 31:5; a read latches Q_CUR_HI -/
def RDO.Q_CUR_LO.ADDR (q : Nat) : Fld := ⟨8 * (0xB0038 + 64 * q) + 5, 27, 0⟩

/-- RDO.Q_CUR_HI[q] bits 31:0, RO, reset 0: Address bits 63:32, as latched -/
def RDO.Q_CUR_HI.ADDR (q : Nat) : Fld := ⟨8 * (0xB003C + 64 * q) + 0, 32, 0⟩

/-- RDO.Q_BOOK[q,i] bits 31:0, RO, reset 0: Snapshot under R298: i = 0, 1 requested bits 31:0, 63:32; 2, 3 written; 4, 5 pending; 6 items completed, saturating; 7 ABANDONED items, saturating; every counter is cleared by START (R293) -/
def RDO.Q_BOOK.COUNT (q : Nat) (i : Nat) : Fld := ⟨8 * (0xB8000 + 32 * q + 4 * i) + 0, 32, 0⟩

/-- RDO.Q_GUAR[q] bits 15:0, RO, reset 0: From the image: guarantee in MB/s; 0 none -/
def RDO.Q_GUAR.GUAR (q : Nat) : Fld := ⟨8 * (0xBC000 + 16 * q) + 0, 16, 0⟩

/-- RDO.Q_GUAR[q] bits 31:31, RO, reset 0: From the image: bindings not writable -/
def RDO.Q_GUAR.LOCKED (q : Nat) : Fld := ⟨8 * (0xBC000 + 16 * q) + 31, 1, 0⟩

/-- RDO.Q_ERR[q] bits 15:0, RO, reset 0: Reissued requests, saturating at 65 535 -/
def RDO.Q_ERR.RETRIES (q : Nat) : Fld := ⟨8 * (0xBC004 + 16 * q) + 0, 16, 0⟩

/-- RDO.Q_ERR[q] bits 23:16, RO, reset 0: Halts, saturating at 255 -/
def RDO.Q_ERR.HALTS (q : Nat) : Fld := ⟨8 * (0xBC004 + 16 * q) + 16, 8, 0⟩

/-- RDO.Q_ERR[q] bits 31:24, RO, reset 0: Descriptors completed with POISONED, saturating at 255 -/
def RDO.Q_ERR.POISONED (q : Nat) : Fld := ⟨8 * (0xBC004 + 16 * q) + 24, 8, 0⟩

/-- RDO.Q_COMP_WR[q] bits 31:0, RO, reset 0: Entries written since START -/
def RDO.Q_COMP_WR.WR (q : Nat) : Fld := ⟨8 * (0xBC008 + 16 * q) + 0, 32, 0⟩

/-- RDO.Q_COMP_RD[q] bits 31:0, RW, reset 0: Entries consumed by host software; cleared by START; checked under R284 -/
def RDO.Q_COMP_RD.RD (q : Nat) : Fld := ⟨8 * (0xBC00C + 16 * q) + 0, 32, 0⟩

/-! ### DSP block -/

/-- DSP.CFG bits 0:0, RO, reset 0: From the image: display in use -/
def DSP.CFG.ENABLE : Fld := ⟨8 * (0xC0000) + 0, 1, 0⟩

/-- DSP.CFG bits 1:1, RO, reset 0: From the image: surface plane scanned (R305) -/
def DSP.CFG.SURF_EN : Fld := ⟨8 * (0xC0000) + 1, 1, 0⟩

/-- DSP.CFG bits 2:2, RO, reset 0: From the image: overlay plane scanned (R307) -/
def DSP.CFG.OVL_EN : Fld := ⟨8 * (0xC0000) + 2, 1, 0⟩

/-- DSP.CFG bits 4:3, RO, reset 0: From the image: 0 six, 1 eight, 2 ten bits per component -/
def DSP.CFG.BPC : Fld := ⟨8 * (0xC0000) + 3, 2, 0⟩

/-- DSP.CFG bits 6:5, RO, reset 0: From the image: 0 one, 1 two, 2 four -/
def DSP.CFG.LANES : Fld := ⟨8 * (0xC0000) + 5, 2, 0⟩

/-- DSP.CFG bits 10:7, RO, reset 0: From the image: 0 1.62, 1 2.16, 2 2.43, 3 2.7, 4 3.24, 5 4.32, 6 5.4, 7 8.1 Gb/s -/
def DSP.CFG.RATE : Fld := ⟨8 * (0xC0000) + 7, 4, 0⟩

/-- DSP.CFG bits 11:11, RO, reset 0: From the image: 1 active-high horizontal sync -/
def DSP.CFG.HPOL : Fld := ⟨8 * (0xC0000) + 11, 1, 0⟩

/-- DSP.CFG bits 12:12, RO, reset 0: From the image: 1 active-high vertical sync -/
def DSP.CFG.VPOL : Fld := ⟨8 * (0xC0000) + 12, 1, 0⟩

/-- DSP.CFG bits 23:16, RO, reset 0: From the image: R312; 0 disables automatic entry -/
def DSP.CFG.PSR_FRAMES : Fld := ⟨8 * (0xC0000) + 16, 8, 0⟩

/-- DSP.CMD bits 0:0, W1S, reset 0: R312; reads 1 until taken or discarded -/
def DSP.CMD.PSR_ENTER : Fld := ⟨8 * (0xC0004) + 0, 1, 0⟩

/-- DSP.CMD bits 1:1, W1S, reset 0: R312; reads 1 until exit step 2 -/
def DSP.CMD.PSR_EXIT : Fld := ⟨8 * (0xC0004) + 1, 1, 0⟩

/-- DSP.CMD bits 2:2, W1S, reset 0: R307; reads 1 until applied -/
def DSP.CMD.PAL_COMMIT : Fld := ⟨8 * (0xC0004) + 2, 1, 0⟩

/-- DSP.CMD bits 3:3, W1S, reset 0: R315; reads 1 until training ends -/
def DSP.CMD.RETRAIN : Fld := ⟨8 * (0xC0004) + 3, 1, 0⟩

/-- DSP.CMD bits 4:4, W1S, reset 0: Clears DSP.COUNTS and DSP.LINK_ERR; reads 1 until done -/
def DSP.CMD.CLR_COUNTS : Fld := ⟨8 * (0xC0004) + 4, 1, 0⟩

/-- DSP.STATUS bits 3:0, RO, reset 0: 0 OFF, 1 TRAINING, 2 ACTIVE, 3 PSR_ENTRY, 4 PSR, 5 PSR_EXIT, 6 REFUSED, 7 LINK_FAIL -/
def DSP.STATUS.STATE : Fld := ⟨8 * (0xC0008) + 0, 4, 0⟩

/-- DSP.STATUS bits 4:4, RO, reset 0: Panel reports PSR support -/
def DSP.STATUS.PSR_CAP : Fld := ⟨8 * (0xC0008) + 4, 1, 0⟩

/-- DSP.STATUS bits 5:5, RO, reset 0: Surface latched at the last frame start -/
def DSP.STATUS.SURF : Fld := ⟨8 * (0xC0008) + 5, 1, 0⟩

/-- DSP.STATUS bits 6:6, RO, reset 0: Overlay buffer latched at the last frame start -/
def DSP.STATUS.OVL : Fld := ⟨8 * (0xC0008) + 6, 1, 0⟩

/-- DSP.STATUS bits 7:7, RO, reset 0: Panic raised (R309) -/
def DSP.STATUS.PANIC : Fld := ⟨8 * (0xC0008) + 7, 1, 0⟩

/-- DSP.STATUS bits 9:8, RO, reset 0: Coded as LANES -/
def DSP.STATUS.LANES_TRAINED : Fld := ⟨8 * (0xC0008) + 8, 2, 0⟩

/-- DSP.STATUS bits 13:10, RO, reset 0: Coded as RATE -/
def DSP.STATUS.RATE_TRAINED : Fld := ⟨8 * (0xC0008) + 10, 4, 0⟩

/-- DSP.PCLK bits 19:0, RO, reset 0: From the image: pixel clock in kHz -/
def DSP.PCLK.KHZ : Fld := ⟨8 * (0xC000C) + 0, 20, 0⟩

/-- DSP.H_ACT_FP bits 11:0, RO, reset 0: From the image: active pixels per line -/
def DSP.H_ACT_FP.ACTIVE : Fld := ⟨8 * (0xC0010) + 0, 12, 0⟩

/-- DSP.H_ACT_FP bits 27:16, RO, reset 0: From the image: front porch in pixels -/
def DSP.H_ACT_FP.FP : Fld := ⟨8 * (0xC0010) + 16, 12, 0⟩

/-- DSP.H_SYNC_BP bits 11:0, RO, reset 0: From the image: sync width in pixels -/
def DSP.H_SYNC_BP.SYNC : Fld := ⟨8 * (0xC0014) + 0, 12, 0⟩

/-- DSP.H_SYNC_BP bits 27:16, RO, reset 0: From the image: back porch in pixels -/
def DSP.H_SYNC_BP.BP : Fld := ⟨8 * (0xC0014) + 16, 12, 0⟩

/-- DSP.V_ACT_FP bits 11:0, RO, reset 0: From the image: active lines -/
def DSP.V_ACT_FP.ACTIVE : Fld := ⟨8 * (0xC0018) + 0, 12, 0⟩

/-- DSP.V_ACT_FP bits 27:16, RO, reset 0: From the image: front porch in lines -/
def DSP.V_ACT_FP.FP : Fld := ⟨8 * (0xC0018) + 16, 12, 0⟩

/-- DSP.V_SYNC_BP bits 11:0, RO, reset 0: From the image: sync width in lines -/
def DSP.V_SYNC_BP.SYNC : Fld := ⟨8 * (0xC001C) + 0, 12, 0⟩

/-- DSP.V_SYNC_BP bits 27:16, RO, reset 0: From the image: back porch in lines -/
def DSP.V_SYNC_BP.BP : Fld := ⟨8 * (0xC001C) + 16, 12, 0⟩

/-- DSP.FETCH bits 7:0, RO, reset 48: From the image: panic level in KiB, 16–120 -/
def DSP.FETCH.PANIC : Fld := ⟨8 * (0xC0020) + 0, 8, 48⟩

/-- DSP.FETCH bits 23:16, RO, reset 0: Fetch buffer fill in KiB, 0–128 -/
def DSP.FETCH.LEVEL : Fld := ⟨8 * (0xC0020) + 16, 8, 0⟩

/-- DSP.OVL_BASE[i] bits 27:0, RO, reset 0: From the image: overlay buffer i in 4 KiB units -/
def DSP.OVL_BASE.BASE (i : Nat) : Fld := ⟨8 * (0xC0024 + 4 * i) + 0, 28, 0⟩

/-- DSP.OVL_PITCH bits 15:0, RO, reset 0: From the image: overlay pitch in bytes -/
def DSP.OVL_PITCH.PITCH : Fld := ⟨8 * (0xC002C) + 0, 16, 0⟩

/-- DSP.OVL_SEL bits 0:0, RW, reset 0: Overlay buffer latched at the next frame start -/
def DSP.OVL_SEL.SEL : Fld := ⟨8 * (0xC0030) + 0, 1, 0⟩

/-- DSP.COUNTS bits 15:0, RO, reset 0: Lines with an underrun, saturating at 65 535 -/
def DSP.COUNTS.UNDERRUN : Fld := ⟨8 * (0xC0034) + 0, 16, 0⟩

/-- DSP.COUNTS bits 23:16, RO, reset 0: Entries completed, saturating at 255 -/
def DSP.COUNTS.PSR_ENTRIES : Fld := ⟨8 * (0xC0034) + 16, 8, 0⟩

/-- DSP.COUNTS bits 31:24, RO, reset 0: Exits completed, saturating at 255 -/
def DSP.COUNTS.PSR_EXITS : Fld := ⟨8 * (0xC0034) + 24, 8, 0⟩

/-- DSP.FRAME bits 31:0, RO, reset 0: Frame starts since entry to READY, wrapping -/
def DSP.FRAME.COUNT : Fld := ⟨8 * (0xC0038) + 0, 32, 0⟩

/-- DSP.UNCHANGED bits 7:0, RO, reset 0: Consecutive unchanged frames (R311), saturating at 255 -/
def DSP.UNCHANGED.COUNT : Fld := ⟨8 * (0xC003C) + 0, 8, 0⟩

/-- DSP.LINK_ERR bits 7:0, RO, reset 0: Failed training attempts, saturating at 255 -/
def DSP.LINK_ERR.TRAIN_FAILS : Fld := ⟨8 * (0xC0040) + 0, 8, 0⟩

/-- DSP.LINK_ERR bits 15:8, RO, reset 0: IRQ_HPD pulses, saturating at 255 -/
def DSP.LINK_ERR.HPD_IRQ : Fld := ⟨8 * (0xC0040) + 8, 8, 0⟩

/-- DSP.LINK_ERR bits 23:16, RO, reset 0: Link losses, saturating at 255 -/
def DSP.LINK_ERR.LOSSES : Fld := ⟨8 * (0xC0040) + 16, 8, 0⟩

/-- DSP.LINK_ERR bits 31:24, RO, reset 0: PSR errors reported, saturating at 255 -/
def DSP.LINK_ERR.PSR_ERRORS : Fld := ⟨8 * (0xC0040) + 24, 8, 0⟩

/-- DSP.PALETTE[i] bits 7:0, RW, reset From image: Blue, shadow copy (R307) -/
def DSP.PALETTE.B (i : Nat) : Fld := ⟨8 * (0xC0400 + 4 * i) + 0, 8, 0⟩

/-- DSP.PALETTE[i] bits 15:8, RW, reset From image: Green -/
def DSP.PALETTE.G (i : Nat) : Fld := ⟨8 * (0xC0400 + 4 * i) + 8, 8, 0⟩

/-- DSP.PALETTE[i] bits 23:16, RW, reset From image: Red -/
def DSP.PALETTE.R (i : Nat) : Fld := ⟨8 * (0xC0400 + 4 * i) + 16, 8, 0⟩

/-- DSP.PALETTE[i] bits 31:24, RW, reset From image: Alpha; 255 opaque -/
def DSP.PALETTE.A (i : Nat) : Fld := ⟨8 * (0xC0400 + 4 * i) + 24, 8, 0⟩

/-! ### SEQ block -/

/-- SEQ.VERSION bits 15:0, RO, reset Stepping: ROM microcode version -/
def SEQ.VERSION.ROM_VERSION : Fld := ⟨8 * (0xD0000) + 0, 16, Config.romVersion⟩

/-- SEQ.VERSION bits 31:16, RO, reset 0: PATCH_VERSION of the active patch; 0 none -/
def SEQ.VERSION.PATCH_VERSION : Fld := ⟨8 * (0xD0000) + 16, 16, 0⟩

/-- SEQ.PATCH_STATE bits 2:0, RO, reset 0: 0 NONE, 1 LOADING, 2 ACTIVE, 3 REFUSED_SIGNATURE, 4 REFUSED_PAIRING, 5 REFUSED_ROM, 6 REFUSED_FORMAT, 7 LOAD_FAIL -/
def SEQ.PATCH_STATE.STATE : Fld := ⟨8 * (0xD0004) + 0, 3, 0⟩

/-- SEQ.PATCH_STATE bits 13:8, RO, reset 0: Match registers in use -/
def SEQ.PATCH_STATE.NMATCH : Fld := ⟨8 * (0xD0004) + 8, 6, 0⟩

/-- SEQ.PATCH_STATE bits 25:16, RO, reset 0: Patch RAM words in use -/
def SEQ.PATCH_STATE.NWORDS : Fld := ⟨8 * (0xD0004) + 16, 10, 0⟩

/-- SEQ.DIGEST_LO bits 31:0, RO, reset 0: Digest bytes 0–3, byte 0 in bits 7:0 -/
def SEQ.DIGEST_LO.DIGEST : Fld := ⟨8 * (0xD0008) + 0, 32, 0⟩

/-- SEQ.DIGEST_HI bits 31:0, RO, reset 0: Digest bytes 4–7 -/
def SEQ.DIGEST_HI.DIGEST : Fld := ⟨8 * (0xD000C) + 0, 32, 0⟩

/-- SEQ.CMD bits 0:0, W1S, reset 0: Snapshot under R338; reads 1 until done -/
def SEQ.CMD.SNAP : Fld := ⟨8 * (0xD0010) + 0, 1, 0⟩

/-- SEQ.CMD bits 1:1, W1S, reset 0: Clears SEQ.PATCH_ECC, SEQ.UNIT_COUNTS and SEQ.UNIT_LAT; reads 1 until done -/
def SEQ.CMD.CLR_COUNTS : Fld := ⟨8 * (0xD0010) + 1, 1, 0⟩

/-- SEQ.PATCH_ECC bits 15:0, RO, reset 0: Corrected patch words, saturating at 65 535 -/
def SEQ.PATCH_ECC.CE : Fld := ⟨8 * (0xD0014) + 0, 16, 0⟩

/-- SEQ.PATCH_ECC bits 31:16, RO, reset 0: Uncorrectable patch words, saturating at 65 535 -/
def SEQ.PATCH_ECC.UE : Fld := ⟨8 * (0xD0014) + 16, 16, 0⟩

/-- SEQ.MATCH[i] bits 13:0, RO, reset 0: ROM micro-address replaced -/
def SEQ.MATCH.ROM_ADDR (i : Nat) : Fld := ⟨8 * (0xD0100 + 4 * i) + 0, 14, 0⟩

/-- SEQ.MATCH[i] bits 24:16, RO, reset 0: Patch RAM word -/
def SEQ.MATCH.INDEX (i : Nat) : Fld := ⟨8 * (0xD0100 + 4 * i) + 16, 9, 0⟩

/-- SEQ.MATCH[i] bits 30:30, RO, reset 0: Applies to sequencers 0–67 -/
def SEQ.MATCH.LANE (i : Nat) : Fld := ⟨8 * (0xD0100 + 4 * i) + 30, 1, 0⟩

/-- SEQ.MATCH[i] bits 31:31, RO, reset 0: Applies to sequencer 68 -/
def SEQ.MATCH.TRAIN (i : Nat) : Fld := ⟨8 * (0xD0100 + 4 * i) + 31, 1, 0⟩

/-- SEQ.LANE_UNIT[l] bits 6:0, RO, reset 0: Unit bound to lane l -/
def SEQ.LANE_UNIT.UNIT (l : Nat) : Fld := ⟨8 * (0xD0200 + 4 * l) + 0, 7, 0⟩

/-- SEQ.LANE_UNIT[l] bits 7:7, RO, reset 0: 1: the lane is bound -/
def SEQ.LANE_UNIT.VALID (l : Nat) : Fld := ⟨8 * (0xD0200 + 4 * l) + 7, 1, 0⟩

/-- SEQ.LANE_UNIT[l] bits 8:8, RO, reset 0: 1: the lane holds its channel's lead duties (R319) -/
def SEQ.LANE_UNIT.LEAD (l : Nat) : Fld := ⟨8 * (0xD0200 + 4 * l) + 8, 1, 0⟩

/-- SEQ.UNIT_STATE[u] bits 2:0, RO, reset 0: 0 RESTING, 1 BOUND, 2 STOPPED, 3 WITHDRAWN, 4 TRAINING (u = 68) -/
def SEQ.UNIT_STATE.STATE (u : Nat) : Fld := ⟨8 * (0xD1000 + 16 * u) + 0, 3, 0⟩

/-- SEQ.UNIT_STATE[u] bits 13:8, RO, reset 0: Lane bound; 0 when not BOUND -/
def SEQ.UNIT_STATE.LANE (u : Nat) : Fld := ⟨8 * (0xD1000 + 16 * u) + 8, 6, 0⟩

/-- SEQ.UNIT_STATE[u] bits 19:16, RO, reset 0: Stack entries, 0–8 -/
def SEQ.UNIT_STATE.DEPTH (u : Nat) : Fld := ⟨8 * (0xD1000 + 16 * u) + 16, 4, 0⟩

/-- SEQ.UNIT_STATE[u] bits 20:20, RO, reset 0: A handler is running -/
def SEQ.UNIT_STATE.IN_HANDLER (u : Nat) : Fld := ⟨8 * (0xD1000 + 16 * u) + 20, 1, 0⟩

/-- SEQ.UNIT_STATE[u] bits 23:21, RO, reset 0: Interrupt source served last -/
def SEQ.UNIT_STATE.LAST_SRC (u : Nat) : Fld := ⟨8 * (0xD1000 + 16 * u) + 21, 3, 0⟩

/-- SEQ.UNIT_MC[u] bits 3:0, RO, reset 0: 0 none, 1 ROM_PARITY, 2 PATCH_UE, 3 STACK_OVF, 4 STACK_UNF, 5 HANDLER_STACK, 6 HANDLER_LONG, 7 ILLEGAL_NA, 8 ADDR_RANGE -/
def SEQ.UNIT_MC.CAUSE (u : Nat) : Fld := ⟨8 * (0xD1004 + 16 * u) + 0, 4, 0⟩

/-- SEQ.UNIT_MC[u] bits 4:4, RO, reset 0: Double machine check (R330) -/
def SEQ.UNIT_MC.DOUBLE (u : Nat) : Fld := ⟨8 * (0xD1004 + 16 * u) + 4, 1, 0⟩

/-- SEQ.UNIT_MC[u] bits 22:8, RO, reset 0: Micro-address of the instruction not executed -/
def SEQ.UNIT_MC.ADDR (u : Nat) : Fld := ⟨8 * (0xD1004 + 16 * u) + 8, 15, 0⟩

/-- SEQ.UNIT_MC[u] bits 27:24, RO, reset 0: Stack entries at detection -/
def SEQ.UNIT_MC.DEPTH (u : Nat) : Fld := ⟨8 * (0xD1004 + 16 * u) + 24, 4, 0⟩

/-- SEQ.UNIT_COUNTS[u] bits 7:0, RO, reset 0: Trap 0 taken, saturating at 255 -/
def SEQ.UNIT_COUNTS.ELASTIC_OVF (u : Nat) : Fld := ⟨8 * (0xD1008 + 16 * u) + 0, 8, 0⟩

/-- SEQ.UNIT_COUNTS[u] bits 15:8, RO, reset 0: Trap 1 taken, saturating at 255 -/
def SEQ.UNIT_COUNTS.CTX_PARITY (u : Nat) : Fld := ⟨8 * (0xD1008 + 16 * u) + 8, 8, 0⟩

/-- SEQ.UNIT_COUNTS[u] bits 31:16, RO, reset 0: Segments sealed for stopped units, saturating at 65 535 -/
def SEQ.UNIT_COUNTS.PROXY (u : Nat) : Fld := ⟨8 * (0xD1008 + 16 * u) + 16, 16, 0⟩

/-- SEQ.UNIT_LAT[u] bits 13:0, RO, reset 0: Largest interrupt latency observed, in ns, 0–7764 (R328) -/
def SEQ.UNIT_LAT.MAX_LAT (u : Nat) : Fld := ⟨8 * (0xD100C + 16 * u) + 0, 14, 0⟩

/-- SEQ.UNIT_LAT[u] bits 19:16, RO, reset 0: Largest interrupt handler length, in boundaries, 0–8 -/
def SEQ.UNIT_LAT.MAX_LEN (u : Nat) : Fld := ⟨8 * (0xD100C + 16 * u) + 16, 4, 0⟩

/-! ### MGT block -/

/-- MGT.FW_VERSION bits 15:0, RO, reset 0: Tsufen minor version; 0 while the boot ROM serves -/
def MGT.FW_VERSION.MINOR : Fld := ⟨8 * (0xE0000) + 0, 16, 0⟩

/-- MGT.FW_VERSION bits 31:16, RO, reset 0: Tsufen major version -/
def MGT.FW_VERSION.MAJOR : Fld := ⟨8 * (0xE0000) + 16, 16, 0⟩

/-- MGT.STATUS bits 1:0, RO, reset 0: 0 boot ROM starting, 1 Tsufen running, 2 boot ROM serving SAFE (R339) -/
def MGT.STATUS.FW_STATE : Fld := ⟨8 * (0xE0004) + 0, 2, 0⟩

/-- MGT.STATUS bits 2:2, RO, reset 0: Firmware slot: 0 A, 1 B -/
def MGT.STATUS.FW_SLOT : Fld := ⟨8 * (0xE0004) + 2, 1, 0⟩

/-- MGT.STATUS bits 4:3, RO, reset 0: From the image: 0 115 200, 1 921 600, 2 3 000 000 baud -/
def MGT.STATUS.UART_RATE : Fld := ⟨8 * (0xE0004) + 3, 2, 0⟩

/-- MGT.CMD bits 0:0, W1S, reset 0: Clears MON_COUNTS, LOG_STATUS.DROPPED and the MBX_STATUS counters; reads 1 until done -/
def MGT.CMD.CLR_COUNTS : Fld := ⟨8 * (0xE0008) + 0, 1, 0⟩

/-- MGT.MON_CTL bits 0:0, RW, reset 0: Reference buffer enabled (R348) -/
def MGT.MON_CTL.REF_EN : Fld := ⟨8 * (0xE000C) + 0, 1, 0⟩

/-- MGT.MON_CTL bits 1:1, RO, reset 0: 400 µs have passed since REF_EN became 1 -/
def MGT.MON_CTL.REF_SETTLED : Fld := ⟨8 * (0xE000C) + 1, 1, 0⟩

/-- MGT.MON_CTL bits 5:2, RO, reset 0: Definition of the regular sequence -/
def MGT.MON_CTL.REG_DEF : Fld := ⟨8 * (0xE000C) + 2, 4, 0⟩

/-- MGT.MON_CTL bits 6:6, RO, reset 0: Regular sequence running -/
def MGT.MON_CTL.REG_RUN : Fld := ⟨8 * (0xE000C) + 6, 1, 0⟩

/-- MGT.MON_CTL bits 7:7, RO, reset 0: Injected sequence running or its delay pending -/
def MGT.MON_CTL.INJ_RUN : Fld := ⟨8 * (0xE000C) + 7, 1, 0⟩

/-- MGT.MON_CTL bits 11:8, RO, reset 0: Regular slot in progress or to resume -/
def MGT.MON_CTL.REG_SLOT : Fld := ⟨8 * (0xE000C) + 8, 4, 0⟩

/-- MGT.MON_PW bits 15:0, RO, reset 1: From the image: width in ticks -/
def MGT.MON_PW.PW_WIDTH : Fld := ⟨8 * (0xE0010) + 0, 16, 1⟩

/-- MGT.MON_PW bits 19:16, RO, reset 0: From the image: bit 0 core, 1 memories, 2 analogue front end, 3 DDR PHY -/
def MGT.MON_PW.OC_SRC : Fld := ⟨8 * (0xE0010) + 16, 4, 0⟩

/-- MGT.MON_PW bits 20:20, RO, reset 0: From the image: PWR_EVT_N is a source -/
def MGT.MON_PW.PIN_EN : Fld := ⟨8 * (0xE0010) + 20, 1, 0⟩

/-- MGT.MON_PW bits 22:21, RO, reset 0: From the image: injected slots − 1 -/
def MGT.MON_PW.INJ_LEN : Fld := ⟨8 * (0xE0010) + 21, 2, 0⟩

/-- MGT.MON_DELAY bits 15:0, RO, reset 0: From the image: delay in ticks (R347) -/
def MGT.MON_DELAY.INJ_DELAY : Fld := ⟨8 * (0xE0014) + 0, 16, 0⟩

/-- MGT.MON_COUNTS bits 7:0, RO, reset 0: Pulse-width events, saturating at 255 -/
def MGT.MON_COUNTS.PW_EVENTS : Fld := ⟨8 * (0xE0018) + 0, 8, 0⟩

/-- MGT.MON_COUNTS bits 15:8, RO, reset 0: Regular conversions abandoned, saturating at 255 -/
def MGT.MON_COUNTS.INTERRUPTED : Fld := ⟨8 * (0xE0018) + 8, 8, 0⟩

/-- MGT.MON_COUNTS bits 23:16, RO, reset 0: Events discarded, saturating at 255 -/
def MGT.MON_COUNTS.INJ_OVERRUN : Fld := ⟨8 * (0xE0018) + 16, 8, 0⟩

/-- MGT.MON_COUNTS bits 31:24, RO, reset 0: UNSETTLED results, saturating at 255 -/
def MGT.MON_COUNTS.UNSETTLED : Fld := ⟨8 * (0xE0018) + 24, 8, 0⟩

/-- MGT.LOAD_PROG bits 15:0, RO, reset 0: Configuration load position (R355) -/
def MGT.LOAD_PROG.POS : Fld := ⟨8 * (0xE001C) + 0, 16, 0⟩

/-- MGT.LOAD_PROG bits 31:16, RO, reset 0: Configuration load total -/
def MGT.LOAD_PROG.TOTAL : Fld := ⟨8 * (0xE001C) + 16, 16, 0⟩

/-- MGT.UPD_PROG bits 15:0, RO, reset 0: Update write position -/
def MGT.UPD_PROG.POS : Fld := ⟨8 * (0xE0020) + 0, 16, 0⟩

/-- MGT.UPD_PROG bits 31:16, RO, reset 0: Update write total -/
def MGT.UPD_PROG.TOTAL : Fld := ⟨8 * (0xE0020) + 16, 16, 0⟩

/-- MGT.PROG_PCT bits 6:0, RO, reset 0: Configuration load percentage -/
def MGT.PROG_PCT.LOAD : Fld := ⟨8 * (0xE0024) + 0, 7, 0⟩

/-- MGT.PROG_PCT bits 14:8, RO, reset 0: Update write percentage -/
def MGT.PROG_PCT.UPD : Fld := ⟨8 * (0xE0024) + 8, 7, 0⟩

/-- MGT.LOG_STATUS bits 0:0, RO, reset 0: A window read is running (R354) -/
def MGT.LOG_STATUS.RD_BUSY : Fld := ⟨8 * (0xE0030) + 0, 1, 0⟩

/-- MGT.LOG_STATUS bits 2:1, RO, reset 0: 0 done, 1 reduced count, 2 GONE -/
def MGT.LOG_STATUS.RD_RESULT : Fld := ⟨8 * (0xE0030) + 1, 2, 0⟩

/-- MGT.LOG_STATUS bits 6:3, RO, reset 0: Entries in the window, 0–8 -/
def MGT.LOG_STATUS.RD_COUNT : Fld := ⟨8 * (0xE0030) + 3, 4, 0⟩

/-- MGT.LOG_STATUS bits 31:16, RO, reset 0: Entries dropped (R353), saturating at 65 535 -/
def MGT.LOG_STATUS.DROPPED : Fld := ⟨8 * (0xE0030) + 16, 16, 0⟩

/-- MGT.LOG_NEWEST_LO bits 31:0, RO, reset 0: Newest committed entry bits 31:0; a read latches LOG_NEWEST_HI -/
def MGT.LOG_NEWEST_LO.SEQ : Fld := ⟨8 * (0xE0034) + 0, 32, 0⟩

/-- MGT.LOG_NEWEST_HI bits 15:0, RO, reset 0: Bits 47:32, as latched -/
def MGT.LOG_NEWEST_HI.SEQ : Fld := ⟨8 * (0xE0038) + 0, 16, 0⟩

/-- MGT.LOG_OLDEST_LO bits 31:0, RO, reset 0: Oldest entry held bits 31:0; a read latches LOG_OLDEST_HI -/
def MGT.LOG_OLDEST_LO.SEQ : Fld := ⟨8 * (0xE003C) + 0, 32, 0⟩

/-- MGT.LOG_OLDEST_HI bits 15:0, RO, reset 0: Bits 47:32, as latched -/
def MGT.LOG_OLDEST_HI.SEQ : Fld := ⟨8 * (0xE0040) + 0, 16, 0⟩

/-- MGT.LOG_SEL_HI bits 15:0, RW, reset 0: First entry bits 47:32; written before LOG_SEL_LO -/
def MGT.LOG_SEL_HI.FIRST : Fld := ⟨8 * (0xE0044) + 0, 16, 0⟩

/-- MGT.LOG_SEL_LO bits 28:0, RW, reset 0: First entry bits 28:0; the write starts a read under R354 -/
def MGT.LOG_SEL_LO.FIRST : Fld := ⟨8 * (0xE0048) + 0, 29, 0⟩

/-- MGT.LOG_SEL_LO bits 31:29, RW, reset 0: Entries − 1, 0–7 -/
def MGT.LOG_SEL_LO.COUNT : Fld := ⟨8 * (0xE0048) + 29, 3, 0⟩

/-- MGT.MBX_STATUS bits 0:0, RO, reset 0: PCIe request outstanding -/
def MGT.MBX_STATUS.BUSY : Fld := ⟨8 * (0xE0080) + 0, 1, 0⟩

/-- MGT.MBX_STATUS bits 1:1, W1C, reset 0: Response in MBX_RSP -/
def MGT.MBX_STATUS.DONE : Fld := ⟨8 * (0xE0080) + 1, 1, 0⟩

/-- MGT.MBX_STATUS bits 15:8, RO, reset 0: Doorbells refused, saturating at 255 -/
def MGT.MBX_STATUS.REFUSED : Fld := ⟨8 * (0xE0080) + 8, 8, 0⟩

/-- MGT.MBX_STATUS bits 23:16, RO, reset 0: UART frames discarded, saturating at 255 -/
def MGT.MBX_STATUS.UART_ERR : Fld := ⟨8 * (0xE0080) + 16, 8, 0⟩

/-- MGT.MBX_DOORBELL bits 31:0, WO, reset 0: Any write submits the request in MBX_REQ (R342) -/
def MGT.MBX_DOORBELL.RING : Fld := ⟨8 * (0xE0084) + 0, 32, 0⟩

/-- MGT.MBX_REQ[i] bits 31:0, RW, reset 0: Request bytes 4i to 4i + 3 -/
def MGT.MBX_REQ.DATA (i : Nat) : Fld := ⟨8 * (0xE0100 + 4 * i) + 0, 32, 0⟩

/-- MGT.MBX_RSP[i] bits 31:0, RO, reset 0: Response bytes 4i to 4i + 3 -/
def MGT.MBX_RSP.DATA (i : Nat) : Fld := ⟨8 * (0xE0200 + 4 * i) + 0, 32, 0⟩

/-- MGT.LOG_DATA[i] bits 31:0, RO, reset 0: Bytes 4i to 4i + 3 of the copied entries, entry j at dwords 8j to 8j + 7 -/
def MGT.LOG_DATA.DATA (i : Nat) : Fld := ⟨8 * (0xE0300 + 4 * i) + 0, 32, 0⟩

/-- MGT.MON_RESULT[n] bits 11:0, RO, reset 0: Corrected code c (R345) -/
def MGT.MON_RESULT.VALUE (n : Nat) : Fld := ⟨8 * (0xE0400 + 4 * n) + 0, 12, 0⟩

/-- MGT.MON_RESULT[n] bits 12:12, RO, reset 0: R348 -/
def MGT.MON_RESULT.UNSETTLED (n : Nat) : Fld := ⟨8 * (0xE0400 + 4 * n) + 12, 1, 0⟩

/-- MGT.MON_RESULT[n] bits 13:13, RO, reset 0: Alarm entered (R349) -/
def MGT.MON_RESULT.ALARM (n : Nat) : Fld := ⟨8 * (0xE0400 + 4 * n) + 13, 1, 0⟩

/-- MGT.MON_RESULT[n] bits 31:16, RO, reset 0: Results written, wrapping modulo 2^16 -/
def MGT.MON_RESULT.UPDATES (n : Nat) : Fld := ⟨8 * (0xE0400 + 4 * n) + 16, 16, 0⟩

/-- MGT.MON_CORR[n] bits 11:0, RW, reset From image: Signed offset in raw codes -/
def MGT.MON_CORR.OFFSET (n : Nat) : Fld := ⟨8 * (0xE0500 + 4 * n) + 0, 12, 0⟩

/-- MGT.MON_CORR[n] bits 31:16, RW, reset From image: Gain, unsigned 1.15 -/
def MGT.MON_CORR.GAIN (n : Nat) : Fld := ⟨8 * (0xE0500 + 4 * n) + 16, 16, 0⟩

/-- MGT.MON_LIMIT[n] bits 11:0, RO, reset 0: From the image: low limit, corrected code -/
def MGT.MON_LIMIT.LO (n : Nat) : Fld := ⟨8 * (0xE0600 + 8 * n) + 0, 12, 0⟩

/-- MGT.MON_LIMIT[n] bits 27:16, RO, reset 4095: From the image: high limit -/
def MGT.MON_LIMIT.HI (n : Nat) : Fld := ⟨8 * (0xE0600 + 8 * n) + 16, 12, 4095⟩

/-- MGT.MON_ALARM[n] bits 7:0, RO, reset 0: From the image: hysteresis in codes -/
def MGT.MON_ALARM.HYST (n : Nat) : Fld := ⟨8 * (0xE0604 + 8 * n) + 0, 8, 0⟩

/-- MGT.MON_ALARM[n] bits 11:8, RO, reset 1: From the image: 1–15 -/
def MGT.MON_ALARM.CONFIRM (n : Nat) : Fld := ⟨8 * (0xE0604 + 8 * n) + 8, 4, 1⟩

/-- MGT.MON_ALARM[n] bits 12:12, RO, reset 0: From the image: 0 notice, 1 fault -/
def MGT.MON_ALARM.CLASS (n : Nat) : Fld := ⟨8 * (0xE0604 + 8 * n) + 12, 1, 0⟩

/-- MGT.MON_ALARM[n] bits 13:13, RO, reset 0: From the image: fault enters SAFE -/
def MGT.MON_ALARM.SAFE_ON (n : Nat) : Fld := ⟨8 * (0xE0604 + 8 * n) + 13, 1, 0⟩

/-- MGT.SEQ_CFG[d] bits 0:0, RO, reset 0: From the image: definition exists -/
def MGT.SEQ_CFG.VALID (d : Nat) : Fld := ⟨8 * (0xE0800 + 4 * d) + 0, 1, 0⟩

/-- MGT.SEQ_CFG[d] bits 1:1, RO, reset 0: From the image: 0 CONTINUOUS, 1 SINGLE -/
def MGT.SEQ_CFG.MODE (d : Nat) : Fld := ⟨8 * (0xE0800 + 4 * d) + 1, 1, 0⟩

/-- MGT.SEQ_CFG[d] bits 7:4, RO, reset 0: From the image: slots − 1 -/
def MGT.SEQ_CFG.LEN (d : Nat) : Fld := ⟨8 * (0xE0800 + 4 * d) + 4, 4, 0⟩

/-- MGT.INJ_SLOT[s] bits 5:0, RO, reset 0: From the image: input 0–39 -/
def MGT.INJ_SLOT.INPUT (s : Nat) : Fld := ⟨8 * (0xE0840 + 4 * s) + 0, 6, 0⟩

/-- MGT.INJ_SLOT[s] bits 9:8, RO, reset 0: From the image: 2^AVG conversions -/
def MGT.INJ_SLOT.AVG (s : Nat) : Fld := ⟨8 * (0xE0840 + 4 * s) + 8, 2, 0⟩

/-- MGT.SEQ_SLOT[d,s] bits 5:0, RO, reset 0: From the image: input 0–39 -/
def MGT.SEQ_SLOT.INPUT (d : Nat) (s : Nat) : Fld := ⟨8 * (0xE0C00 + 64 * d + 4 * s) + 0, 6, 0⟩

/-- MGT.SEQ_SLOT[d,s] bits 9:8, RO, reset 0: From the image: 2^AVG conversions -/
def MGT.SEQ_SLOT.AVG (d : Nat) (s : Nat) : Fld := ⟨8 * (0xE0C00 + 64 * d + 4 * s) + 8, 2, 0⟩

/-! ### SEC block -/

/-- SEC.STATUS bits 1:0, RO, reset Fuses: 0 UNENROLLED, 1 ENROLLED, 2 PARTIAL -/
def SEC.STATUS.OWNER : Fld := ⟨8 * (0xF0000) + 0, 2, 0⟩

/-- SEC.STATUS bits 8:2, RO, reset Fuses: Anti-rollback fuses blown, 0–64 -/
def SEC.STATUS.RB_COUNT : Fld := ⟨8 * (0xF0000) + 2, 7, 0⟩

/-- SEC.STATUS bits 11:9, RO, reset 0: 0 none, 1 done, 2 no permit, 3 permit invalid, 4 serial mismatch, 5 fuse conflict, 6 FUSE_FAIL -/
def SEC.STATUS.ENROL_RESULT : Fld := ⟨8 * (0xF0000) + 9, 3, 0⟩

/-- SEC.STATUS bits 12:12, RO, reset 0: Slot booted: 0 A, 1 B -/
def SEC.STATUS.BOOT_SLOT : Fld := ⟨8 * (0xF0000) + 12, 1, 0⟩

/-- SEC.STATUS bits 15:13, RO, reset 0: Last verification failure: 0 none, 1 signature, 2 key, 3 ROLLBACK, 4 format -/
def SEC.STATUS.LAST_FAIL : Fld := ⟨8 * (0xF0000) + 13, 3, 0⟩

/-- SEC.CMD bits 0:0, W1S, reset 0: Pads the log to the next seal (R371); reads 1 until the seal is written -/
def SEC.CMD.SEAL_NOW : Fld := ⟨8 * (0xF0004) + 0, 1, 0⟩

/-- SEC.CFG bits 4:0, RO, reset 20: From the image: log2 of triggers between checkpoints, 10–30 -/
def SEC.CFG.CHECK : Fld := ⟨8 * (0xF0008) + 0, 5, 20⟩

/-- SEC.CFG bits 12:8, RO, reset 0: From the image: log2 of triggers per session, 16–31; 0 no rollover -/
def SEC.CFG.ROLL : Fld := ⟨8 * (0xF0008) + 8, 5, 0⟩

/-- SEC.SLOT_STATE[s] bits 2:0, RO, reset Flash: 0 EMPTY, 1 WRITING, 2 VERIFIED, 3 PENDING, 4 TRIAL, 5 COMMITTED, 6 FAILED -/
def SEC.SLOT_STATE.STATE (s : Nat) : Fld := ⟨8 * (0xF0050 + 4 * s) + 0, 3, 0⟩

/-- SEC.SLOT_STATE[s] bits 9:3, RO, reset Flash: Smallest owner SVN in the slot; 0 when EMPTY -/
def SEC.SLOT_STATE.SVN (s : Nat) : Fld := ⟨8 * (0xF0050 + 4 * s) + 3, 7, 0⟩

/-- SEC.SERIAL[i] bits 31:0, RO, reset Fuses: Serial bytes 4i to 4i + 3 -/
def SEC.SERIAL.SERIAL (i : Nat) : Fld := ⟨8 * (0xF0010 + 4 * i) + 0, 32, serialDword i⟩

/-- SEC.OWNER_HASH[i] bits 31:0, RO, reset Fuses: Owner key hash bytes 4i to 4i + 3; zero while UNENROLLED -/
def SEC.OWNER_HASH.HASH (i : Nat) : Fld := ⟨8 * (0xF0020 + 4 * i) + 0, 32, 0⟩

/-- SEC.IDKEY[i] bits 31:0, RO, reset Fixed: Identity public key bytes 4i to 4i + 3; in IDKEY[24], bits 7:0 hold byte 96 and bits 31:8 are zero -/
def SEC.IDKEY.KEY (i : Nat) : Fld := ⟨8 * (0xF0100 + 4 * i) + 0, 32, Config.idKeyWord i⟩

/-- SEC.SESS_ID_LO[k] bits 31:0, RO, reset 0: Current session ID bits 31:0; a read latches SESS_ID_HI -/
def SEC.SESS_ID_LO.ID (k : Nat) : Fld := ⟨8 * (0xF0200 + 16 * k) + 0, 32, 0⟩

/-- SEC.SESS_ID_HI[k] bits 15:0, RO, reset 0: Bits 47:32, as latched -/
def SEC.SESS_ID_HI.ID (k : Nat) : Fld := ⟨8 * (0xF0204 + 16 * k) + 0, 16, 0⟩

/-- SEC.SESS_TRIG[k] bits 31:0, RO, reset 0: Triggers committed in the current session -/
def SEC.SESS_TRIG.N (k : Nat) : Fld := ⟨8 * (0xF0208 + 16 * k) + 0, 32, 0⟩

/-- SEC.SESS_STATE[k] bits 1:0, RO, reset 0: 0 none, 1 open, 2 closing -/
def SEC.SESS_STATE.STATE (k : Nat) : Fld := ⟨8 * (0xF020C + 16 * k) + 0, 2, 0⟩

/-- SEC.SESS_STATE[k] bits 15:8, RO, reset 0: Earlier sessions of the slot not yet closed, saturating at 255 -/
def SEC.SESS_STATE.PEND_CLOSE (k : Nat) : Fld := ⟨8 * (0xF020C + 16 * k) + 8, 8, 0⟩

/-! ### BST block -/

/-- BST.CFG bits 1:0, RO, reset 3: From the image: 1 LOGIC, 2 ANALOGUE, 3 BOTH -/
def BST.CFG.LOAD_SEL : Fld := ⟨8 * (0x100000) + 0, 2, 3⟩

/-- BST.CFG bits 3:2, RO, reset 3: From the image: as LOAD_SEL -/
def BST.CFG.RUN_SEL : Fld := ⟨8 * (0x100000) + 2, 2, 3⟩

/-- BST.STATUS bits 1:0, RO, reset 0: 0 idle, 1 LOAD run in progress, 2 DONE -/
def BST.STATUS.STATE : Fld := ⟨8 * (0x100004) + 0, 2, 0⟩

/-- BST.STATUS bits 2:2, RO, reset 0: A part failed in the LOAD run -/
def BST.STATUS.LOAD_FAIL : Fld := ⟨8 * (0x100004) + 2, 1, 0⟩

/-- BST.STATUS bits 9:3, RO, reset 0: Percentage under R383 -/
def BST.STATUS.PCT : Fld := ⟨8 * (0x100004) + 3, 7, 0⟩

/-- BST.STATUS bits 17:10, RO, reset 0: Bit i is 1 when reference check of input 24 + i failed -/
def BST.STATUS.REFCHK : Fld := ⟨8 * (0x100004) + 10, 8, 0⟩

/-- BST.PROGRESS bits 15:0, RO, reset 0: Units finished under R383 -/
def BST.PROGRESS.POS : Fld := ⟨8 * (0x100008) + 0, 16, 0⟩

/-- BST.PROGRESS bits 31:16, RO, reset 0: Units of the LOAD run -/
def BST.PROGRESS.TOTAL : Fld := ⟨8 * (0x100008) + 16, 16, 0⟩

/-- BST.CMD bits 0:0, W1S, reset 0: Clears BST.GROUP_COUNTS; reads 1 until done -/
def BST.CMD.CLR_COUNTS : Fld := ⟨8 * (0x10000C) + 0, 1, 0⟩

/-- BST.SIG_SEL bits 6:0, RW, reset 0: Partition 0–83 -/
def BST.SIG_SEL.PART_NO : Fld := ⟨8 * (0x100010) + 0, 7, 0⟩

/-- BST.SIG_SEL bits 9:8, RW, reset 0: Logic part, 0 or 2; a write copies its signatures into SIG and GOLD -/
def BST.SIG_SEL.PART : Fld := ⟨8 * (0x100010) + 8, 2, 0⟩

/-- BST.SIG[i] bits 31:0, RO, reset 0: Last MISR of the selected part, bits 32i + 31 to 32i -/
def BST.SIG.SIG (i : Nat) : Fld := ⟨8 * (0x100014 + 4 * i) + 0, 32, 0⟩

/-- BST.GOLD[i] bits 31:0, RO, reset 0: Golden signature of the selected part, bits 32i + 31 to 32i -/
def BST.GOLD.GOLD (i : Nat) : Fld := ⟨8 * (0x10001C + 4 * i) + 0, 32, 0⟩

/-- BST.GROUP_COUNTS[g] bits 15:0, RO, reset 0: BIST slices completed, saturating at 65 535 -/
def BST.GROUP_COUNTS.SLICES (g : Nat) : Fld := ⟨8 * (0x100040 + 4 * g) + 0, 16, 0⟩

/-- BST.GROUP_COUNTS[g] bits 23:16, RO, reset 0: BIST slices with a failing part, saturating at 255 -/
def BST.GROUP_COUNTS.FAILS (g : Nat) : Fld := ⟨8 * (0x100040 + 4 * g) + 16, 8, 0⟩

/-- BST.GROUP_COUNTS[g] bits 27:24, RO, reset 0: Skipped under R385, saturating at 15 -/
def BST.GROUP_COUNTS.SKIPS (g : Nat) : Fld := ⟨8 * (0x100040 + 4 * g) + 24, 4, 0⟩

/-- BST.GROUP_COUNTS[g] bits 31:28, RO, reset 0: Abandoned under R389, saturating at 15 -/
def BST.GROUP_COUNTS.ABANDONED (g : Nat) : Fld := ⟨8 * (0x100040 + 4 * g) + 28, 4, 0⟩

/-- BST.PART_STATE[p] bits 1:0, RO, reset 0: Part 0, last result: 0 not run, 1 pass, 2 FAIL, 3 ABANDONED -/
def BST.PART_STATE.RES0 (p : Nat) : Fld := ⟨8 * (0x100100 + 4 * p) + 0, 2, 0⟩

/-- BST.PART_STATE[p] bits 3:2, RO, reset 0: Part 1, as RES0; 0 outside lane partitions -/
def BST.PART_STATE.RES1 (p : Nat) : Fld := ⟨8 * (0x100100 + 4 * p) + 2, 2, 0⟩

/-- BST.PART_STATE[p] bits 5:4, RO, reset 0: Part 2, as RES0; 0 outside lane partitions -/
def BST.PART_STATE.RES2 (p : Nat) : Fld := ⟨8 * (0x100100 + 4 * p) + 4, 2, 0⟩

/-- BST.PART_STATE[p] bits 6:6, RO, reset 0: 1: the last results are from the LOAD run -/
def BST.PART_STATE.AT_LOAD (p : Nat) : Fld := ⟨8 * (0x100100 + 4 * p) + 6, 1, 0⟩

/-- BST.PART_STATE[p] bits 9:8, RO, reset 0: Consecutive failures of the last failing part, 0–2 -/
def BST.PART_STATE.CONSEC (p : Nat) : Fld := ⟨8 * (0x100100 + 4 * p) + 8, 2, 0⟩

/-- BST.PART_STATE[p] bits 11:10, RO, reset 0: 0 good, 1 slice retired, 2 unit withdrawn or not bound, 3 partition out of service -/
def BST.PART_STATE.OUTCOME (p : Nat) : Fld := ⟨8 * (0x100100 + 4 * p) + 10, 2, 0⟩

/-! ### DEV block -/

/-- DEV.ID bits 15:0, RO, reset 0x2568: Part number -/
def DEV.ID.PART : Fld := ⟨8 * (0x0) + 0, 16, 9576⟩

/-- DEV.ID bits 23:16, RO, reset Fuses: Silicon stepping -/
def DEV.ID.STEPPING : Fld := ⟨8 * (0x0) + 16, 8, Config.stepping⟩

/-- DEV.ID bits 25:24, RO, reset Fuses: 1 LV2568-C, 2 LV2568-I -/
def DEV.ID.ORDER : Fld := ⟨8 * (0x0) + 24, 2, Config.orderCode⟩

/-- DEV.MODE bits 3:0, RO, reset 0: Table 17-1 -/
def DEV.MODE.MODE : Fld := ⟨8 * (0x4) + 0, 4, 0⟩

/-- DEV.MODE bits 7:4, RO, reset 0: Mode left at the last change -/
def DEV.MODE.PREV : Fld := ⟨8 * (0x4) + 4, 4, 0⟩

/-- DEV.MODE bits 12:8, RO, reset 0: Cause code of the last change, Table 17-2 -/
def DEV.MODE.CAUSE : Fld := ⟨8 * (0x4) + 8, 5, 0⟩

/-- DEV.MODE bits 13:13, RO, reset 0: A change is running (R393) -/
def DEV.MODE.TRANSIT : Fld := ⟨8 * (0x4) + 13, 1, 0⟩

/-- DEV.MODE bits 14:14, RO, reset 0: Booted from a TRIAL slot -/
def DEV.MODE.TRIAL : Fld := ⟨8 * (0x4) + 14, 1, 0⟩

/-- DEV.MODE bits 15:15, RO, reset 0: Patch not applied under Table 17-10 order 4 -/
def DEV.MODE.ROM_ONLY : Fld := ⟨8 * (0x4) + 15, 1, 0⟩

/-- DEV.MODE_REQ bits 1:0, WO, reset 0: 1 DORMANT, 2 READY, 3 RESET (R407) -/
def DEV.MODE_REQ.TARGET : Fld := ⟨8 * (0x8) + 0, 2, 0⟩

/-- DEV.MODE_REQ bits 31:16, WO, reset 0: 0x5AFE required with RESET -/
def DEV.MODE_REQ.KEY : Fld := ⟨8 * (0x8) + 16, 16, 0⟩

/-- DEV.MODE_RESULT bits 1:0, RO, reset 0: Target of the last request -/
def DEV.MODE_RESULT.TARGET : Fld := ⟨8 * (0xC) + 0, 2, 0⟩

/-- DEV.MODE_RESULT bits 2:2, RO, reset 0: Request in progress -/
def DEV.MODE_RESULT.BUSY : Fld := ⟨8 * (0xC) + 2, 1, 0⟩

/-- DEV.MODE_RESULT bits 7:4, RO, reset 0: 0 accepted, 1 not in mode, 2 BUSY, 3 bad key, 4 invalid target, 5 update session open, 6 wake tick past -/
def DEV.MODE_RESULT.RESULT : Fld := ⟨8 * (0xC) + 4, 4, 0⟩

/-- DEV.RESET_CAUSE bits 7:0, RO, reset Cause: Table 17-3 -/
def DEV.RESET_CAUSE.CAUSE : Fld := ⟨8 * (0x10) + 0, 8, 0⟩

/-- DEV.RESET_CAUSE bits 15:8, RO, reset Flash: Consecutive watchdog resets before READY -/
def DEV.RESET_CAUSE.WDOG : Fld := ⟨8 * (0x10) + 8, 8, 0⟩

/-- DEV.SAFE_CAUSE bits 4:0, RO, reset 0: Cause of the last SAFE entry, Table 17-2 -/
def DEV.SAFE_CAUSE.CAUSE : Fld := ⟨8 * (0x14) + 0, 5, 0⟩

/-- DEV.SAFE_CAUSE bits 5:5, RO, reset 0: The boot ROM serves SAFE (R404) -/
def DEV.SAFE_CAUSE.BOOT_ROM : Fld := ⟨8 * (0x14) + 5, 1, 0⟩

/-- DEV.BOOT bits 0:0, RO, reset 0: Slot booted: 0 A, 1 B -/
def DEV.BOOT.SLOT : Fld := ⟨8 * (0x18) + 0, 1, 0⟩

/-- DEV.BOOT bits 3:1, RO, reset 0: Candidates tried at the last LOAD -/
def DEV.BOOT.TRIES : Fld := ⟨8 * (0x18) + 1, 3, 0⟩

/-- DEV.BOOT bits 7:4, RO, reset 0: Reason slot A failed: 0 none, 1 slot header, 2 firmware verify, 3 image verify, 4 serial, 5 manifest, 6 trial failed -/
def DEV.BOOT.FAIL_A : Fld := ⟨8 * (0x18) + 4, 4, 0⟩

/-- DEV.BOOT bits 11:8, RO, reset 0: As FAIL_A, for slot B -/
def DEV.BOOT.FAIL_B : Fld := ⟨8 * (0x18) + 8, 4, 0⟩

/-- DEV.IMAGE_VERSION bits 31:0, RO, reset 0: From the image: IMAGE_VERSION -/
def DEV.IMAGE_VERSION.VERSION : Fld := ⟨8 * (0x1C) + 0, 32, 0⟩

/-- DEV.FEATURES[i] bits 31:0, RO, reset 0: i = 0, 1: image FEATURES bits 31:0, 63:32; i = 2, 3: firmware FEATURES bits 31:0, 63:32 -/
def DEV.FEATURES.BITS (i : Nat) : Fld := ⟨8 * (0x20 + 4 * i) + 0, 32, 0⟩

/-- DEV.MANIFEST bits 7:0, RO, reset 0xFF: Entry applied under Table 17-10; 0xFF none -/
def DEV.MANIFEST.MATCH : Fld := ⟨8 * (0x30) + 0, 8, 255⟩

/-- DEV.MANIFEST bits 15:8, RO, reset 0: Manifest entries -/
def DEV.MANIFEST.NENT : Fld := ⟨8 * (0x30) + 8, 8, 0⟩

/-- DEV.TIMES bits 11:0, RO, reset 0: Duration of the last LOAD in ms -/
def DEV.TIMES.LOAD_MS : Fld := ⟨8 * (0x34) + 0, 12, 0⟩

/-- DEV.TIMES bits 27:16, RO, reset 0: Reset to READY in ms, saturating at 4095 -/
def DEV.TIMES.READY_MS : Fld := ⟨8 * (0x34) + 16, 12, 0⟩

/-- DEV.STARTUP bits 3:0, RO, reset 0: Step of Table 17-12 in progress, 1–12; 0 when done -/
def DEV.STARTUP.STAGE : Fld := ⟨8 * (0x38) + 0, 4, 0⟩

/-- DEV.CFG bits 0:0, RO, reset 0: From the image: R395 -/
def DEV.CFG.PERST_POLICY : Fld := ⟨8 * (0x3C) + 0, 1, 0⟩

/-- DEV.WAKE_TICK_LO bits 31:0, RW, reset 0: Wake tick bits 31:0 -/
def DEV.WAKE_TICK_LO.TICK : Fld := ⟨8 * (0x40) + 0, 32, 0⟩

/-- DEV.WAKE_TICK_HI bits 15:0, RW, reset 0: Wake tick bits 47:32 -/
def DEV.WAKE_TICK_HI.TICK : Fld := ⟨8 * (0x44) + 0, 16, 0⟩

/-- DEV.WAKE_CFG bits 0:0, RW, reset 0: Wake at WAKE_TICK -/
def DEV.WAKE_CFG.TICK_EN : Fld := ⟨8 * (0x48) + 0, 1, 0⟩

/-- DEV.WAKE_CFG bits 1:1, RW, reset 0: Wake on a pulse-width event -/
def DEV.WAKE_CFG.PW_EN : Fld := ⟨8 * (0x48) + 1, 1, 0⟩

/-- DEV.DORMANT bits 15:0, RO, reset 0: DORMANT entries since reset, saturating at 65 535 -/
def DEV.DORMANT.ENTRIES : Fld := ⟨8 * (0x4C) + 0, 16, 0⟩

/-- DEV.DORMANT bits 20:16, RO, reset 0: Cause code of the last exit: 5, 6 or 7 -/
def DEV.DORMANT.WAKE : Fld := ⟨8 * (0x4C) + 16, 5, 0⟩

/-- DEV.FLASH_ID bits 23:0, RO, reset 0: Response to 0x9F -/
def DEV.FLASH_ID.JEDEC_ID : Fld := ⟨8 * (0x50) + 0, 24, 0⟩

/-- DEV.FLASH_CFG bits 8:0, RO, reset 0: Capacity in MiB, from SFDP -/
def DEV.FLASH_CFG.SIZE : Fld := ⟨8 * (0x54) + 0, 9, 0⟩

/-- DEV.FLASH_CFG bits 9:9, RO, reset 0: 4-byte addressing in use -/
def DEV.FLASH_CFG.ADDR4 : Fld := ⟨8 * (0x54) + 9, 1, 0⟩

/-- DEV.FLASH_CFG bits 13:10, RO, reset 0: Dummy cycles of 0xEB -/
def DEV.FLASH_CFG.DUMMY : Fld := ⟨8 * (0x54) + 10, 4, 0⟩

/-! ### EVT block -/

/-- EVT.SUMMARY bits 7:0, RO, reset 0: Bit i is 1 when any bit of EVT.STATUS[i] is 1 -/
def EVT.SUMMARY.LATCHED : Fld := ⟨8 * (0x110000) + 0, 8, 0⟩

/-- EVT.SUMMARY bits 8:8, RO, reset 0: A fault source is latched -/
def EVT.SUMMARY.FAULT : Fld := ⟨8 * (0x110000) + 8, 1, 0⟩

/-- EVT.SUMMARY bits 9:9, RO, reset 0: ALERT_N driven low (R413) -/
def EVT.SUMMARY.ALERT : Fld := ⟨8 * (0x110000) + 9, 1, 0⟩

/-- EVT.CMD bits 0:0, W1S, reset 0: Clears every EVT.COUNT; reads 1 until done -/
def EVT.CMD.CLR_COUNTS : Fld := ⟨8 * (0x110004) + 0, 1, 0⟩

/-- EVT.CMD bits 1:1, W1S, reset 0: Clears every STATUS bit under R411; reads 1 until done -/
def EVT.CMD.CLR_STATUS : Fld := ⟨8 * (0x110004) + 1, 1, 0⟩

/-- EVT.FIRST bits 7:0, RO, reset 0: First fault source since reset -/
def EVT.FIRST.SOURCE : Fld := ⟨8 * (0x110008) + 0, 8, 0⟩

/-- EVT.FIRST bits 8:8, RO, reset 0: A fault has occurred since reset -/
def EVT.FIRST.VALID : Fld := ⟨8 * (0x110008) + 8, 1, 0⟩

/-- EVT.FIRST_TICK_LO bits 31:0, RO, reset 0: Tick bits 31:0 of the first fault; a read latches EVT.FIRST_TICK_HI -/
def EVT.FIRST_TICK_LO.TICK : Fld := ⟨8 * (0x11000C) + 0, 32, 0⟩

/-- EVT.FIRST_TICK_HI bits 15:0, RO, reset 0: Tick bits 47:32, as latched -/
def EVT.FIRST_TICK_HI.TICK : Fld := ⟨8 * (0x110010) + 0, 16, 0⟩

/-- EVT.STATUS[i] bits 31:0, W1C, reset 0: Bit j latches source 32i + j (R411) -/
def EVT.STATUS.STATUS (i : Nat) : Fld := ⟨8 * (0x110100 + 4 * i) + 0, 32, 0⟩

/-- EVT.MASK[i] bits 31:0, RW, reset From image: Bit j masks source 32i + j from MSI-X and ALERT_N (R412, R413) -/
def EVT.MASK.MASK (i : Nat) : Fld := ⟨8 * (0x110120 + 4 * i) + 0, 32, evtMaskReset i⟩

/-- EVT.CLASS[i] bits 31:0, RO, reset Fixed: Bit j is 1 when source 32i + j is a fault (Table 18-1) -/
def EVT.CLASS.FAULT (i : Nat) : Fld := ⟨8 * (0x110140 + 4 * i) + 0, 32, evtClassWord i⟩

/-- EVT.ROUTE[n] bits 7:0, RW, reset From image: MSI-X vector -/
def EVT.ROUTE.VECTOR (n : Nat) : Fld := ⟨8 * (0x111000 + 16 * n) + 0, 8, 0⟩

/-- EVT.ROUTE[n] bits 8:8, RW, reset From image: Drives ALERT_N -/
def EVT.ROUTE.ALERT (n : Nat) : Fld := ⟨8 * (0x111000 + 16 * n) + 8, 1, evtFaultBit n⟩

/-- EVT.ROUTE[n] bits 9:9, RW, reset From image: Logs notices; reads 1 and ignores writes for a fault -/
def EVT.ROUTE.LOG (n : Nat) : Fld := ⟨8 * (0x111000 + 16 * n) + 9, 1, evtFaultBit n⟩

/-- EVT.COUNT[n] bits 15:0, RO, reset 0: Occurrences, saturating at 65 535 -/
def EVT.COUNT.COUNT (n : Nat) : Fld := ⟨8 * (0x111004 + 16 * n) + 0, 16, 0⟩

/-- EVT.DETAIL[n] bits 7:0, RO, reset 0: K of the last occurrence -/
def EVT.DETAIL.KIND (n : Nat) : Fld := ⟨8 * (0x111008 + 16 * n) + 0, 8, 0⟩

/-- EVT.DETAIL[n] bits 15:8, RO, reset 0: I of the last occurrence -/
def EVT.DETAIL.INDEX (n : Nat) : Fld := ⟨8 * (0x111008 + 16 * n) + 8, 8, 0⟩

/-- EVT.DETAIL[n] bits 31:16, RO, reset 0: A of the last occurrence -/
def EVT.DETAIL.ARG (n : Nat) : Fld := ⟨8 * (0x111008 + 16 * n) + 16, 16, 0⟩

/-- EVT.LAST_TICK[n] bits 31:0, RO, reset 0: Tick bits 31:0 of the last occurrence -/
def EVT.LAST_TICK.TICK (n : Nat) : Fld := ⟨8 * (0x11100C + 16 * n) + 0, 32, 0⟩

/-! ### DEV block -/

/-- DEV.BAR2_BASE bits 9:0, RW, reset 0: Device address bits 39:30 of BAR2 offset 0; bits below the BAR2 size are taken as zero (R426); cleared by function-level reset -/
def DEV.BAR2_BASE.BASE : Fld := ⟨8 * (0x100) + 0, 10, 0⟩

/-- DEV.HOST_STATUS bits 4:0, RO, reset 0: Trained lanes: 4, 8 or 16; 0 while the link is down -/
def DEV.HOST_STATUS.WIDTH : Fld := ⟨8 * (0x104) + 0, 5, 0⟩

/-- DEV.HOST_STATUS bits 7:5, RO, reset 0: 0 down; 1–5 for 2.5, 5.0, 8.0, 16.0, 32.0 GT/s -/
def DEV.HOST_STATUS.SPEED : Fld := ⟨8 * (0x104) + 5, 3, 0⟩

/-- DEV.HOST_STATUS bits 8:8, RO, reset 0: Function in D3hot -/
def DEV.HOST_STATUS.D3HOT : Fld := ⟨8 * (0x104) + 8, 1, 0⟩

/-- DEV.HOST_STATUS bits 9:9, RO, reset 0: MSI-X Enable set and Function Mask clear -/
def DEV.HOST_STATUS.MSIX_EN : Fld := ⟨8 * (0x104) + 9, 1, 0⟩

/-- DEV.HOST_STATUS bits 10:10, RO, reset 0: Bus Master Enable set -/
def DEV.HOST_STATUS.BME : Fld := ⟨8 * (0x104) + 10, 1, 0⟩

/-- DEV.HOST_STATUS bits 23:16, RO, reset 0: Function-level resets since device reset, saturating at 255 -/
def DEV.HOST_STATUS.FLRS : Fld := ⟨8 * (0x104) + 16, 8, 0⟩

/-- DEV.HOST_STATUS bits 31:24, RO, reset 0: Link-down events since device reset, saturating at 255 -/
def DEV.HOST_STATUS.LINK_DOWNS : Fld := ⟨8 * (0x104) + 24, 8, 0⟩

/-- DEV.HOST_ERR bits 15:0, RO, reset 0: BAR0 requests refused under R428, saturating at 65 535 -/
def DEV.HOST_ERR.BAD_SIZE : Fld := ⟨8 * (0x108) + 0, 16, 0⟩

/-- DEV.HOST_ERR bits 31:16, RO, reset 0: BAR2 requests answered with Unsupported Request under R427, saturating at 65 535 -/
def DEV.HOST_ERR.BAR2_UR : Fld := ⟨8 * (0x108) + 16, 16, 0⟩

end Sys2Proof.Machine
end

