-- ==== Sys2Proof/Machine/RegTable.lean ====
section
/-!
DEFINITION. The register table of BAR0, from the register tables of spec/ and the bases of Table 19-4 (R435): one row per
register, with the strides of its indices and its fields. A host access by offset is looked up here (R6, R7, R428).
-/

namespace Sys2Proof.Machine

/-- The field types of R6. -/
inductive FieldType where
  | ro | rw | wo | w1c | w1s
  deriving DecidableEq, Repr

/-- The register found at a BAR0 offset: its fields, each as the field it stands for. -/
abbrev FoundReg := List (FieldType × Fld)

/-- Which index a register has at `off`, if `off` is one of `base + stride * i`, `i < count`. -/
def index1 (base stride count off : Nat) : Option Nat :=
  if base ≤ off ∧ (off - base) % stride = 0 ∧ (off - base) / stride < count then some ((off - base) / stride) else none

/-- Which two indices a register has at `off`. -/
def index2 (base s1 n1 s2 n2 off : Nat) : Option (Nat × Nat) :=
  if base ≤ off ∧ (off - base) / s1 < n1 ∧ (off - base) % s1 % s2 = 0 ∧ (off - base) % s1 / s2 < n2 then
    some ((off - base) / s1, (off - base) % s1 / s2)
  else none

/-- The registers of the TIME block. -/
def findTIME (off : Nat) : Option FoundReg :=
  if off = 0x10000 then some [(.ro, TIME.CFG.REF_MODE), (.ro, TIME.CFG.EPOCH_EN), (.ro, TIME.CFG.SLIP_POLICY)] else
  if off = 0x10004 then some [(.ro, TIME.STATUS.SOURCE), (.ro, TIME.STATUS.SPLL_LOCK), (.ro, TIME.STATUS.PHASE_HIT), (.ro, TIME.STATUS.HOLDOVER), (.ro, TIME.STATUS.EPOCH_ALIGNED)] else
  if off = 0x10008 then some [(.w1s, TIME.CMD.SNAP), (.w1s, TIME.CMD.EPOCH_ARM), (.w1s, TIME.CMD.CLR_COUNTS)] else
  if off = 0x10010 then some [(.ro, TIME.TICK_LO.TICK)] else
  if off = 0x10014 then some [(.ro, TIME.TICK_HI.TICK)] else
  if off = 0x10018 then some [(.ro, TIME.SNAP_TICK_LO.TICK)] else
  if off = 0x1001C then some [(.ro, TIME.SNAP_TICK_HI.TICK)] else
  if off = 0x10020 then some [(.ro, TIME.SNAP_FRAC.FRAC)] else
  if off = 0x10024 then some [(.ro, TIME.EPOCH_PERIOD.PERIOD)] else
  if off = 0x10028 then some [(.ro, TIME.EPOCH_NUM.NUM)] else
  if off = 0x1002C then some [(.rw, TIME.EPOCH_LOAD_NUM.NUM)] else
  if off = 0x10030 then some [(.rw, TIME.EPOCH_LOAD_TICK_LO.TICK)] else
  if off = 0x10034 then some [(.rw, TIME.EPOCH_LOAD_TICK_HI.TICK)] else
  if off = 0x10038 then some [(.ro, TIME.SLIP_LAST.OFFSET)] else
  if off = 0x1003C then some [(.ro, TIME.COUNTS.REF_LOSS), (.ro, TIME.COUNTS.PHASE_HIT), (.ro, TIME.COUNTS.SLIP), (.ro, TIME.COUNTS.EPOCH_MISSING)] else
  if off = 0x10040 then some [(.ro, TIME.SCHED_COUNTS.STALE), (.ro, TIME.SCHED_COUNTS.DEADLINE)] else
  if let some n := index1 0x11000 32 256 off then some [(.rw, TIME.SCHED_TICK_LO.TICK n)] else
  if let some n := index1 0x11004 32 256 off then some [(.rw, TIME.SCHED_TICK_HI.TICK n)] else
  if let some n := index1 0x11008 32 256 off then some [(.rw, TIME.SCHED_ACT.ACTION n), (.rw, TIME.SCHED_ACT.POLICY n)] else
  if let some n := index1 0x1100C 32 256 off then some [(.rw, TIME.SCHED_ARG.ARG n)] else
  if let some n := index1 0x11010 32 256 off then some [(.rw, TIME.SCHED_LIMIT.LATE_MAX n), (.rw, TIME.SCHED_LIMIT.WINDOW n)] else
  if let some n := index1 0x11014 32 256 off then some [(.rw, TIME.SCHED_PERIOD.PERIOD n)] else
  if let some n := index1 0x11018 32 256 off then some [(.w1s, TIME.SCHED_CMD.COMMIT n), (.w1s, TIME.SCHED_CMD.CANCEL n)] else
  if let some n := index1 0x1101C 32 256 off then some [(.ro, TIME.SCHED_STATUS.STATE n), (.ro, TIME.SCHED_STATUS.CODE n), (.ro, TIME.SCHED_STATUS.SKIPPED n), (.ro, TIME.SCHED_STATUS.LATE_BY n)] else
  none

/-- The registers of the CNV block. -/
def findCNV (off : Nat) : Option FoundReg :=
  if off = 0x20000 then some [(.ro, CNV.LAYOUT.MODE), (.ro, CNV.LAYOUT.JOIN)] else
  if off = 0x20004 then some [(.ro, CNV.UNUSED_LO.UNUSED)] else
  if off = 0x20008 then some [(.ro, CNV.UNUSED_HI.UNUSED)] else
  if off = 0x2000C then some [(.w1s, CNV.CMD.SNAP_MAP), (.w1s, CNV.CMD.CLR_COUNTS)] else
  if let some g := index1 0x20010 4 4 off then some [(.ro, CNV.GROUP_STATUS.REST g), (.ro, CNV.GROUP_STATUS.DIR g), (.ro, CNV.GROUP_STATUS.FIXED g), (.ro, CNV.GROUP_STATUS.SPARE_UNIT g), (.ro, CNV.GROUP_STATUS.STEP g)] else
  if let some g := index1 0x20020 4 4 off then some [(.ro, CNV.SHUFFLE_COUNT.STEPS g), (.ro, CNV.SHUFFLE_COUNT.ABORTS g), (.ro, CNV.SHUFFLE_COUNT.SKIPS g)] else
  if let some g := index1 0x20030 4 4 off then some [(.ro, CNV.SHADOW_LAST.MEAN g), (.ro, CNV.SHADOW_LAST.RMS g)] else
  if let some g := index1 0x20040 8 4 off then some [(.ro, CNV.LAST_SWITCH_LO.TICK g)] else
  if let some g := index1 0x20044 8 4 off then some [(.ro, CNV.LAST_SWITCH_HI.TICK g)] else
  if let some l := index1 0x20100 4 64 off then some [(.ro, CNV.LANE_MAP.SLICE l), (.ro, CNV.LANE_MAP.UNUSED l), (.ro, CNV.LANE_MAP.CHANNEL l), (.ro, CNV.LANE_MAP.SLOT l), (.ro, CNV.LANE_MAP.PHASE l)] else
  if let some s := index1 0x20200 4 68 off then some [(.ro, CNV.SLICE_STATUS.ROLE s), (.ro, CNV.SLICE_STATUS.POWERED s), (.ro, CNV.SLICE_STATUS.LANE s), (.ro, CNV.SLICE_STATUS.SHADOW_FAIL s)] else
  if let some c := index1 0x20400 4 64 off then some [(.ro, CNV.OVER_COUNT.COUNT c)] else
  if let some c := index1 0x20500 4 64 off then some [(.ro, CNV.UNDER_COUNT.COUNT c)] else
  none

/-- The registers of the CAL block. -/
def findCAL (off : Nat) : Option FoundReg :=
  if off = 0x30000 then some [(.ro, CAL.STATUS.STATE), (.ro, CAL.STATUS.STEP), (.ro, CAL.STATUS.ATTEMPT), (.ro, CAL.STATUS.PCT)] else
  if off = 0x30004 then some [(.ro, CAL.PROGRESS.POS), (.ro, CAL.PROGRESS.TOTAL)] else
  if off = 0x30008 then some [(.w1s, CAL.CMD.SNAP), (.w1s, CAL.CMD.CLR_COUNTS)] else
  if off = 0x3000C then some [(.ro, CAL.RUN_RESULT.DURATION), (.ro, CAL.RUN_RESULT.RETRIES), (.ro, CAL.RUN_RESULT.SUSPECT), (.ro, CAL.RUN_RESULT.OUTCOME)] else
  if off = 0x30010 then some [(.ro, CAL.BG_CFG.TRACK_EN), (.ro, CAL.BG_CFG.SLOPE_MIN), (.ro, CAL.BG_CFG.WINDOW)] else
  if off = 0x30014 then some [(.ro, CAL.COUNTS.BG_RUNS), (.ro, CAL.COUNTS.BG_FAILED), (.ro, CAL.COUNTS.DISCARDS)] else
  if let some g := index1 0x30020 4 4 off then some [(.ro, CAL.GROUP_RESULT.GOOD g), (.ro, CAL.GROUP_RESULT.LIVE_TRUNK g), (.ro, CAL.GROUP_RESULT.LIVE_NARROW g), (.ro, CAL.GROUP_RESULT.PHASE_SUSP g)] else
  if let some g := index1 0x30030 4 4 off then some [(.ro, CAL.TRUNK_TRIM.DELAY g), (.ro, CAL.TRUNK_TRIM.GAIN g)] else
  if let some g := index1 0x30040 4 4 off then some [(.ro, CAL.TRUNK_IMAGE.DELAY g), (.ro, CAL.TRUNK_IMAGE.GAIN g)] else
  if let some s := index1 0x30A00 4 68 off then some [(.ro, CAL.SLICE_STATE.OFF_SUSP s), (.ro, CAL.SLICE_STATE.GAIN_SUSP s), (.ro, CAL.SLICE_STATE.WT_SUSP s), (.ro, CAL.SLICE_STATE.AP_SUSP s), (.ro, CAL.SLICE_STATE.LB_FAIL s), (.ro, CAL.SLICE_STATE.SUSPECT s), (.ro, CAL.SLICE_STATE.SRC s), (.ro, CAL.SLICE_STATE.BG_FAILS s), (.ro, CAL.SLICE_STATE.BG_STATE s)] else
  if let some s := index1 0x30C00 4 68 off then some [(.ro, CAL.SLICE_OG.OFFSET s), (.ro, CAL.SLICE_OG.GAIN s)] else
  if let some s := index1 0x30E00 4 68 off then some [(.ro, CAL.SLICE_APERTURE.TRIM s)] else
  if let some c := index1 0x30400 4 64 off then some [(.ro, CAL.CHAN_STATE.PHASE_SUSP c), (.ro, CAL.CHAN_STATE.TRIM_SUSP c), (.ro, CAL.CHAN_STATE.OFF_SUSP c), (.ro, CAL.CHAN_STATE.GAIN_SUSP c), (.ro, CAL.CHAN_STATE.SKEW_SUSP c), (.ro, CAL.CHAN_STATE.BW_SUSP c), (.ro, CAL.CHAN_STATE.LIVE c), (.ro, CAL.CHAN_STATE.SUSPECT c), (.ro, CAL.CHAN_STATE.SRC c)] else
  if let some c := index1 0x30500 4 64 off then some [(.ro, CAL.TRACK_STATUS.UPDATES c), (.ro, CAL.TRACK_STATUS.INSUFF c), (.ro, CAL.TRACK_STATUS.REASON c), (.ro, CAL.TRACK_STATUS.LIMIT c)] else
  if let some l := index1 0x30600 4 64 off then some [(.ro, CAL.SLOT_OG.OFFSET l), (.ro, CAL.SLOT_OG.GAIN l)] else
  if let some l := index1 0x30700 4 64 off then some [(.ro, CAL.SLOT_SKEW.SKEW l)] else
  if let some l := index1 0x30800 4 64 off then some [(.ro, CAL.SLOT_BW0.B0 l)] else
  if let some l := index1 0x30900 4 64 off then some [(.ro, CAL.SLOT_BW1.BM1 l), (.ro, CAL.SLOT_BW1.BP1 l)] else
  if let some i := index1 0x31000 4 256 off then some [(.ro, CAL.PHASE_TRIM.TRIM i), (.ro, CAL.PHASE_TRIM.SUSP i)] else
  if let some i := index1 0x32000 4 1088 off then (if i % 16 < 14 then some [(.ro, CAL.SLICE_WEIGHT.WEIGHT i)] else none) else
  none

/-- The registers of the TRG block. -/
def findTRG (off : Nat) : Option FoundReg :=
  if off = 0x40000 then some [(.w1s, TRG.CMD.CLR_COUNTS)] else
  if off = 0x40004 then some [(.w1s, TRG.FORCE.FORCE)] else
  if off = 0x40008 then some [(.rw, TRG.LL_SEL.SLOT), (.rw, TRG.LL_SEL.INDEX)] else
  if let some i := index1 0x40010 4 4 off then some [(.ro, TRG.LL_DATA.DATA i)] else
  if let some i := index1 0x40040 32 4 off then some [(.ro, TRG.PIN_CFG.MODE i), (.ro, TRG.PIN_CFG.POL i), (.ro, TRG.PIN_CFG.IN_USE i)] else
  if let some i := index1 0x40044 32 4 off then some [(.ro, TRG.PIN_STUCK.TIME i)] else
  if let some i := index1 0x40048 32 4 off then some [(.ro, TRG.PIN_STATUS.LEVEL i), (.ro, TRG.PIN_STATUS.STUCK i)] else
  if let some i := index1 0x4004C 32 4 off then some [(.ro, TRG.PIN_COUNT.EDGES i)] else
  if let some i := index1 0x40050 32 4 off then some [(.ro, TRG.PIN_FILTER.GLITCH i), (.ro, TRG.PIN_FILTER.COALESCED i)] else
  if let some n := index1 0x400C0 16 2 off then some [(.ro, TRG.OUT_CFG.SLOTS n), (.ro, TRG.OUT_CFG.POL n), (.ro, TRG.OUT_CFG.CALL_MODE n), (.ro, TRG.OUT_CFG.WIDTH n)] else
  if let some n := index1 0x400C4 16 2 off then some [(.ro, TRG.OUT_COUNT.PULSES n), (.ro, TRG.OUT_COUNT.MERGED n)] else
  if let some q := index1 0x40100 4 64 off then some [(.ro, TRG.QMAP.SRC q), (.ro, TRG.QMAP.INV q), (.ro, TRG.QMAP.KIND q)] else
  if let some t := index1 0x41000 32 64 off then some [(.ro, TRG.TERM_VAL_LO.VAL t)] else
  if let some t := index1 0x41004 32 64 off then some [(.ro, TRG.TERM_VAL_HI.VAL t)] else
  if let some t := index1 0x41008 32 64 off then some [(.ro, TRG.TERM_CARE_LO.CARE t)] else
  if let some t := index1 0x4100C 32 64 off then some [(.ro, TRG.TERM_CARE_HI.CARE t)] else
  if let some t := index1 0x41010 32 64 off then some [(.ro, TRG.TERM_CTRL.WIN t), (.ro, TRG.TERM_CTRL.REF t)] else
  if let some i := index1 0x42000 32 128 off then some [(.ro, TRG.DET_MODE.TYPE i), (.ro, TRG.DET_MODE.SENSE i), (.ro, TRG.DET_MODE.WMODE i)] else
  if let some i := index1 0x42004 32 128 off then some [(.rw, TRG.DET_LEVEL.LH i), (.rw, TRG.DET_LEVEL.LL i)] else
  if let some i := index1 0x42008 32 128 off then some [(.rw, TRG.DET_HYST.H i)] else
  if let some i := index1 0x4200C 32 128 off then some [(.ro, TRG.DET_WIDTH1.W1 i)] else
  if let some i := index1 0x42010 32 128 off then some [(.ro, TRG.DET_WIDTH2.W2 i)] else
  if let some i := index1 0x42014 32 128 off then some [(.ro, TRG.DET_BOUND.MIN i), (.ro, TRG.DET_BOUND.MAX i)] else
  if let some i := index1 0x42018 32 128 off then some [(.ro, TRG.DET_STUCK.TIME i)] else
  if let some i := index1 0x4201C 32 128 off then some [(.ro, TRG.DET_STATUS.STATE i), (.ro, TRG.DET_STATUS.STUCK i), (.ro, TRG.DET_STATUS.PEND i), (.ro, TRG.DET_STATUS.HYST_MAX i)] else
  if let some k := index1 0x43000 64 8 off then some [(.ro, TRG.SLOT_CFG.PLAN k), (.ro, TRG.SLOT_CFG.ACTIVE k), (.ro, TRG.SLOT_CFG.CALL_RX k), (.ro, TRG.SLOT_CFG.CALL_TX k), (.ro, TRG.SLOT_CFG.DEFICIT k), (.ro, TRG.SLOT_CFG.HOLD k), (.ro, TRG.SLOT_CFG.TE k)] else
  if let some k := index1 0x43004 64 8 off then some [(.ro, TRG.TERM_SEL_LO.SEL k)] else
  if let some k := index1 0x43008 64 8 off then some [(.ro, TRG.TERM_SEL_HI.SEL k)] else
  if let some k := index1 0x4300C 64 8 off then some [(.rw, TRG.HOLD_TICKS.TICKS k)] else
  if let some k := index1 0x43010 64 8 off then some [(.rw, TRG.HOLD_SAMPLES.SAMPLES k)] else
  if let some k := index1 0x43014 64 8 off then some [(.rw, TRG.HOLD_COUNT.COUNT k)] else
  if let some k := index1 0x43018 64 8 off then some [(.ro, TRG.HOLD_MAX_TICKS.MAX k)] else
  if let some k := index1 0x4301C 64 8 off then some [(.ro, TRG.SLOT_STATUS.ARMED k), (.ro, TRG.SLOT_STATUS.HOLDOFF k), (.ro, TRG.SLOT_STATUS.REARM k), (.ro, TRG.SLOT_STATUS.PEND k), (.ro, TRG.SLOT_STATUS.LAST_ORIGIN k), (.ro, TRG.SLOT_STATUS.LAST_TERM k)] else
  if let some k := index1 0x43020 64 8 off then some [(.ro, TRG.LAST_TICK_LO.TICK k)] else
  if let some k := index1 0x43024 64 8 off then some [(.ro, TRG.LAST_TICK_HI.TICK k)] else
  if let some k := index1 0x43028 64 8 off then some [(.ro, TRG.LAST_FRAC.FRAC k), (.ro, TRG.LAST_FRAC.QUALITY k)] else
  if let some k := index1 0x4302C 64 8 off then some [(.ro, TRG.COALESCED.COUNT k)] else
  if let some k := index1 0x43030 64 8 off then some [(.ro, TRG.LL_WR.WR k)] else
  none

/-- The registers of the ACQ block. -/
def findACQ (off : Nat) : Option FoundReg :=
  if off = 0x50000 then some [(.w1s, ACQ.CMD.SNAP)] else
  if off = 0x50004 then some [(.ro, ACQ.SNAP_TICK_LO.TICK)] else
  if off = 0x50008 then some [(.ro, ACQ.SNAP_TICK_HI.TICK)] else
  if off = 0x5000C then some [(.wo, ACQ.PLAN_CMD.PLAN), (.wo, ACQ.PLAN_CMD.OP)] else
  if off = 0x50010 then some [(.ro, ACQ.PLAN_RESULT.PLAN), (.ro, ACQ.PLAN_RESULT.OP), (.ro, ACQ.PLAN_RESULT.BUSY), (.ro, ACQ.PLAN_RESULT.RESULT)] else
  if off = 0x50014 then some [(.ro, ACQ.ACCESSION_LO.NEXT)] else
  if off = 0x50018 then some [(.ro, ACQ.ACCESSION_HI.NEXT)] else
  if off = 0x5001C then some [(.ro, ACQ.TRICK_NEXT.TRICK)] else
  if off = 0x50020 then some [(.rw, ACQ.FOLIO_SEL.FOLIO), (.rw, ACQ.FOLIO_SEL.PLAN)] else
  if off = 0x50024 then some [(.wo, ACQ.FOLIO_OP.OP), (.ro, ACQ.FOLIO_OP.BUSY), (.ro, ACQ.FOLIO_OP.RESULT)] else
  if let some p := index1 0x50100 32 64 off then some [(.ro, ACQ.LIB_CFG.VALID p), (.ro, ACQ.LIB_CFG.AUTOSTART p), (.ro, ACQ.LIB_CFG.POLICY p), (.ro, ACQ.LIB_CFG.STALE p), (.ro, ACQ.LIB_CFG.ACTIVE p), (.ro, ACQ.LIB_CFG.SLOT p), (.ro, ACQ.LIB_CFG.PRIORITY p), (.ro, ACQ.LIB_CFG.K p)] else
  if let some p := index1 0x50104 32 64 off then some [(.ro, ACQ.LIB_SETS.SETS p)] else
  if let some p := index1 0x50108 32 64 off then some [(.ro, ACQ.LIB_FOLIO.F p)] else
  if let some p := index1 0x5010C 32 64 off then some [(.ro, ACQ.LIB_DEADLINE.TICKS p)] else
  if let some p := index1 0x50110 32 64 off then some [(.ro, ACQ.LIB_RING.BASE p)] else
  if let some p := index1 0x50114 32 64 off then some [(.ro, ACQ.LIB_CAT.BASE p)] else
  if let some k := index1 0x51000 64 8 off then some [(.ro, ACQ.SLOT_STATE.PLAN k), (.ro, ACQ.SLOT_STATE.ACTIVE k), (.ro, ACQ.SLOT_STATE.ARMED k), (.ro, ACQ.SLOT_STATE.FULL k), (.ro, ACQ.SLOT_STATE.STOPPED k), (.ro, ACQ.SLOT_STATE.FIFO k), (.ro, ACQ.SLOT_STATE.FIFO_MAX k)] else
  if let some k := index1 0x51004 64 8 off then some [(.ro, ACQ.SLOT_GATHER.SET k)] else
  if let some (k, i) := index2 0x51010 64 8 8 6 off then some [(.ro, ACQ.TBOOK_LO.COUNT k i)] else
  if let some (k, i) := index2 0x51014 64 8 8 6 off then some [(.ro, ACQ.TBOOK_HI.COUNT k i)] else
  if let some c := index1 0x52000 16 64 off then some [(.ro, ACQ.CH_PRE.P c)] else
  if let some c := index1 0x52004 16 64 off then some [(.ro, ACQ.CH_POST.Q c)] else
  if let some c := index1 0x52008 16 64 off then some [(.ro, ACQ.CH_HIST.H c)] else
  if let some c := index1 0x5200C 16 64 off then some [(.ro, ACQ.CH_GEOM.N c), (.ro, ACQ.CH_GEOM.SP c)] else
  if let some (p, i) := index2 0x53000 32 64 4 8 off then some [(.ro, ACQ.FBOOK.COUNT p i)] else
  none

/-- The registers of the COD block. -/
def findCOD (off : Nat) : Option FoundReg :=
  if off = 0x60000 then some [(.w1s, COD.CMD.CLR_COUNTS)] else
  if off = 0x60004 then some [(.ro, COD.RESULT.CHANNEL), (.ro, COD.RESULT.FIELD), (.ro, COD.RESULT.RESULT), (.ro, COD.RESULT.BUSY)] else
  if off = 0x60008 then some [(.ro, COD.LIMITS.GRANT_MIN), (.ro, COD.LIMITS.GRANT_RAW)] else
  if let some c := index1 0x61000 64 64 off then some [(.rw, COD.CH_DECIM.DM1 c), (.rw, COD.CH_DECIM.PHASE c)] else
  if let some c := index1 0x61004 64 64 off then some [(.rw, COD.CH_GRANT.GRANT c)] else
  if let some c := index1 0x61008 64 64 off then some [(.ro, COD.CH_DBOUND.DMIN_M1 c), (.ro, COD.CH_DBOUND.DMAX_M1 c)] else
  if let some c := index1 0x6100C 64 64 off then some [(.ro, COD.CH_GBOUND.GMIN c), (.ro, COD.CH_GBOUND.GMAX c)] else
  if let some c := index1 0x61010 64 64 off then some [(.ro, COD.CH_INFORCE.DM1 c), (.ro, COD.CH_INFORCE.PHASE c)] else
  if let some c := index1 0x61014 64 64 off then some [(.ro, COD.CH_INFORCE_GRANT.GRANT c), (.ro, COD.CH_INFORCE_GRANT.PENDING c)] else
  if let some c := index1 0x61018 64 64 off then some [(.ro, COD.CNT_FULL.COUNT c)] else
  if let some c := index1 0x6101C 64 64 off then some [(.ro, COD.CNT_BOUNDED.COUNT c)] else
  if let some c := index1 0x61020 64 64 off then some [(.ro, COD.CNT_HALVED.COUNT c)] else
  if let some c := index1 0x61024 64 64 off then some [(.ro, COD.CNT_RFRAMES.COUNT c)] else
  if let some c := index1 0x61028 64 64 off then some [(.ro, COD.CH_MAXK.MAXK c)] else
  none

/-- The registers of the ACC block. -/
def findACC (off : Nat) : Option FoundReg :=
  if off = 0x70000 then some [(.w1s, ACC.CMD.CLR_PLANE), (.w1s, ACC.CMD.CLR_COUNTS)] else
  if off = 0x70004 then some [(.ro, ACC.RESULT.PLANE), (.ro, ACC.RESULT.RESULT)] else
  if let some k := index1 0x71000 32 8 off then some [(.ro, ACC.SLOT_CFG.ENABLE k), (.ro, ACC.SLOT_CFG.DRAM k), (.ro, ACC.SLOT_CFG.SPLIT k), (.ro, ACC.SLOT_CFG.ALIGN k), (.ro, ACC.SLOT_CFG.QMASK k)] else
  if let some k := index1 0x71004 32 8 off then some [(.ro, ACC.SLOT_PRE.PRE k)] else
  if let some k := index1 0x71008 32 8 off then some [(.ro, ACC.SLOT_BINS.L k)] else
  if let some k := index1 0x7100C 32 8 off then some [(.ro, ACC.SLOT_TARGET.TARGET k)] else
  if let some k := index1 0x71010 32 8 off then some [(.ro, ACC.SLOT_BASE.BASE k)] else
  if let some k := index1 0x71014 32 8 off then some [(.w1s, ACC.SLOT_CMD.FINISH k), (.w1s, ACC.SLOT_CMD.DISCARD0 k), (.w1s, ACC.SLOT_CMD.DISCARD1 k)] else
  if let some k := index1 0x71018 32 8 off then some [(.ro, ACC.SLOT_STATE.BANK0 k), (.ro, ACC.SLOT_STATE.BANK1 k), (.ro, ACC.SLOT_STATE.CUR k), (.ro, ACC.SLOT_STATE.COUNT k)] else
  if let some k := index1 0x7101C 32 8 off then some [(.ro, ACC.SLOT_SKIPS.BUSY k), (.ro, ACC.SLOT_SKIPS.QUALITY k), (.ro, ACC.SLOT_SKIPS.HISTORY k), (.ro, ACC.SLOT_SKIPS.OVERLAP k)] else
  if let some p := index1 0x72000 32 4 off then some [(.ro, ACC.PLANE_CFG.PLAN p), (.ro, ACC.PLANE_CFG.ENABLE p), (.ro, ACC.PLANE_CFG.VECTOR p), (.ro, ACC.PLANE_CFG.CLAMP p), (.rw, ACC.PLANE_CFG.SOURCE p)] else
  if let some p := index1 0x72004 32 4 off then some [(.rw, ACC.PLANE_X.XSTEP p), (.rw, ACC.PLANE_X.XTRIG p)] else
  if let some p := index1 0x72008 32 4 off then some [(.rw, ACC.PLANE_Y.YOFF p), (.rw, ACC.PLANE_Y.YGAIN p)] else
  if let some p := index1 0x7200C 32 4 off then some [(.rw, ACC.PLANE_LOOK.DS p), (.rw, ACC.PLANE_LOOK.DFRAMES p), (.rw, ACC.PLANE_LOOK.HUE p), (.rw, ACC.PLANE_LOOK.SAT p)] else
  if let some p := index1 0x72010 32 4 off then some [(.rw, ACC.PLANE_SCALE.CSCALE p)] else
  if let some p := index1 0x72014 32 4 off then some [(.ro, ACC.PLANE_COUNT.RECORDS p)] else
  if let some p := index1 0x72018 32 4 off then some [(.ro, ACC.PLANE_STATUS.SKIPS p), (.ro, ACC.PLANE_STATUS.SAT p), (.ro, ACC.PLANE_STATUS.PEND p)] else
  if let some p := index1 0x7201C 32 4 off then some [(.ro, ACC.PLANE_COPY.BASE p), (.ro, ACC.PLANE_COPY.COPY_EN p)] else
  if off = 0x73000 then some [(.ro, ACC.COMP_CFG.L10), (.ro, ACC.COMP_CFG.CHROMA), (.ro, ACC.COMP_CFG.SYNC), (.ro, ACC.COMP_CFG.ENABLE)] else
  if off = 0x73004 then some [(.ro, ACC.COMP_PERIOD.TICKS)] else
  if off = 0x73008 then some [(.ro, ACC.COMP_SURF.WIDTH), (.ro, ACC.COMP_SURF.HEIGHT)] else
  if off = 0x7300C then some [(.ro, ACC.COMP_VIEW_POS.VX), (.ro, ACC.COMP_VIEW_POS.VY)] else
  if off = 0x73010 then some [(.ro, ACC.COMP_VIEW_SIZE.VW), (.ro, ACC.COMP_VIEW_SIZE.VH)] else
  if off = 0x73014 then some [(.ro, ACC.COMP_PITCH.LPITCH), (.ro, ACC.COMP_PITCH.CPITCH)] else
  if let some i := index1 0x73020 4 4 off then some [(.ro, ACC.COMP_BASE.BASE i)] else
  if off = 0x73030 then some [(.ro, ACC.COMP_STATUS.LAST), (.ro, ACC.COMP_STATUS.BUSY), (.ro, ACC.COMP_STATUS.REFUSED)] else
  if off = 0x73034 then some [(.ro, ACC.COMP_COUNTS.FRAMES), (.ro, ACC.COMP_COUNTS.UNCHANGED)] else
  if off = 0x73038 then some [(.ro, ACC.COMP_OVERRUN.OVERRUN)] else
  if let some i := index1 0x73400 4 256 off then some [(.rw, ACC.CURVE.VALUE i)] else
  none

/-- The registers of the ENS block. -/
def findENS (off : Nat) : Option FoundReg :=
  if off = 0x80000 then some [(.ro, ENS.CFG.ROLE), (.ro, ENS.CFG.TIME_LOAD), (.ro, ENS.CFG.AUTO_ENUM)] else
  if off = 0x80004 then some [(.ro, ENS.ID.ENSEMBLE_ID)] else
  if off = 0x80008 then some [(.ro, ENS.TIMING.STAT_PERIOD), (.ro, ENS.TIMING.LOST_WAIT)] else
  if off = 0x8000C then some [(.ro, ENS.DEAL_CFG.LATE_MAX), (.ro, ENS.DEAL_CFG.ALIGN_MAX)] else
  if off = 0x80010 then some [(.ro, ENS.REF_DELAY.DELAY)] else
  if off = 0x80014 then some [(.ro, ENS.STATUS.ADDR), (.ro, ENS.STATUS.ACT_ROLE), (.ro, ENS.STATUS.TOPO), (.ro, ENS.STATUS.ENUM_BUSY), (.ro, ENS.STATUS.DEALER), (.ro, ENS.STATUS.UNITS)] else
  if off = 0x80018 then some [(.w1s, ENS.CMD.ENUM), (.w1s, ENS.CMD.CLR_COUNTS)] else
  if off = 0x8001C then some [(.wo, ENS.DEAL_CMD.DEAL), (.ro, ENS.DEAL_CMD.BUSY), (.ro, ENS.DEAL_CMD.RESULT)] else
  if off = 0x80020 then some [(.ro, ENS.TRICK_NEXT.NEXT)] else
  if off = 0x80024 then some [(.ro, ENS.TRICK_HIGH.HIGH)] else
  if off = 0x80028 then some [(.ro, ENS.GEN.GEN), (.ro, ENS.GEN.CALL_SEQ)] else
  if off = 0x8002C then some [(.ro, ENS.LAST_DEAL.OP), (.ro, ENS.LAST_DEAL.OUTCOME), (.ro, ENS.LAST_DEAL.DEAL), (.ro, ENS.LAST_DEAL.SRC), (.ro, ENS.LAST_DEAL.LATE_BY)] else
  if off = 0x80030 then some [(.ro, ENS.CALL_TX.COUNT)] else
  if off = 0x80034 then some [(.ro, ENS.CALL_RX.COUNT)] else
  if off = 0x80038 then some [(.ro, ENS.CALL_LOSS.LOST), (.ro, ENS.CALL_LOSS.DROPPED), (.ro, ENS.CALL_LOSS.UNSENT)] else
  if off = 0x8003C then some [(.ro, ENS.DEAL_COUNTS.RX), (.ro, ENS.DEAL_COUNTS.IGNORED), (.ro, ENS.DEAL_COUNTS.MSG_DROPPED)] else
  if let some n := index1 0x80100 16 16 off then some [(.ro, ENS.DEAL_DEF.VALID n), (.ro, ENS.DEAL_DEF.OP n), (.ro, ENS.DEAL_DEF.LEAD n)] else
  if let some n := index1 0x80104 16 16 off then some [(.ro, ENS.DEAL_MASK_LO.MASK n)] else
  if let some n := index1 0x80108 16 16 off then some [(.ro, ENS.DEAL_MASK_HI.MASK n)] else
  if let some p := index1 0x80200 32 2 off then some [(.ro, ENS.PORT_STATUS.STATE p), (.ro, ENS.PORT_STATUS.LOCK p), (.ro, ENS.PORT_STATUS.NEIGH_ADDR p), (.ro, ENS.PORT_STATUS.NEIGH_PORT p), (.ro, ENS.PORT_STATUS.DOWNS p)] else
  if let some p := index1 0x80204 32 2 off then some [(.ro, ENS.PORT_DELAY.DELAY p)] else
  if let some p := index1 0x80208 32 2 off then some [(.ro, ENS.PORT_OFFSET.OFFSET p)] else
  if let some p := index1 0x8020C 32 2 off then some [(.ro, ENS.PORT_ERR.BLOCK_ERR p), (.ro, ENS.PORT_ERR.CRC_ERR p)] else
  if let some p := index1 0x80210 32 2 off then some [(.ro, ENS.PORT_COPY.SINGLE p), (.ro, ENS.PORT_COPY.PAIR_LOST p)] else
  if let some p := index1 0x80214 32 2 off then some [(.ro, ENS.PORT_COMP.INSERTED p), (.ro, ENS.PORT_COMP.DELETED p)] else
  if let some a := index1 0x81000 16 255 off then some [(.ro, ENS.UNIT_STATE.PRESENT a), (.ro, ENS.UNIT_STATE.ROLE a), (.ro, ENS.UNIT_STATE.MODE a), (.ro, ENS.UNIT_STATE.FLAGS a), (.ro, ENS.UNIT_STATE.ARMED a), (.ro, ENS.UNIT_STATE.HOPS a)] else
  if let some a := index1 0x81004 16 255 off then some [(.ro, ENS.UNIT_TRICK.NEXT a)] else
  if let some a := index1 0x81008 16 255 off then some [(.ro, ENS.UNIT_SEEN.TICK a)] else
  none

/-- The registers of the MEM block. -/
def findMEM (off : Nat) : Option FoundReg :=
  if off = 0x90000 then some [(.ro, MEM.CFG.POPULATED), (.ro, MEM.CFG.CONFIG), (.ro, MEM.CFG.WIDTH), (.ro, MEM.CFG.DENSITY), (.ro, MEM.CFG.RANKS), (.ro, MEM.CFG.SPARE)] else
  if off = 0x90004 then some [(.ro, MEM.STATUS.IN_SERVICE), (.ro, MEM.STATUS.N0), (.ro, MEM.STATUS.REHOMED_WAY), (.ro, MEM.STATUS.REHOMED), (.ro, MEM.STATUS.UNMAPPED), (.ro, MEM.STATUS.MIGRATING), (.ro, MEM.STATUS.PANIC)] else
  if off = 0x90008 then some [(.w1s, MEM.CMD.CLR_COUNTS)] else
  if off = 0x9000C then some [(.ro, MEM.CEIL.CEIL), (.ro, MEM.CEIL.MIG)] else
  if off = 0x90010 then some [(.ro, MEM.MAPG.MAPG)] else
  if off = 0x90014 then some [(.ro, MEM.RESG.RESG), (.ro, MEM.RESG.SUFFICIENT)] else
  if off = 0x90018 then some [(.ro, MEM.AGE.CLS0), (.ro, MEM.AGE.CLS1), (.ro, MEM.AGE.CLS2)] else
  if off = 0x9001C then some [(.ro, MEM.LIMITS.ACT_TH), (.ro, MEM.LIMITS.THROTTLE), (.ro, MEM.LIMITS.UE_TH)] else
  if off = 0x90020 then some [(.ro, MEM.ADMIT.KIND), (.ro, MEM.ADMIT.ID), (.ro, MEM.ADMIT.RESULT), (.ro, MEM.ADMIT.WORST)] else
  if off = 0x90024 then some [(.ro, MEM.ADMIT_DEMAND.DEMAND)] else
  if off = 0x90028 then some [(.ro, MEM.ADMIT_EXCESS.EXCESS)] else
  if off = 0x9002C then some [(.ro, MEM.PANIC.COUNT)] else
  if off = 0x90030 then some [(.ro, MEM.FIXED_RESV.DISPLAY), (.ro, MEM.FIXED_RESV.COMPOSER)] else
  if off = 0x90034 then some [(.ro, MEM.RDO_RESV.SHARE)] else
  if let some k := index1 0x90100 8 8 off then some [(.ro, MEM.SLOT_RESV.SHARE k)] else
  if let some k := index1 0x90104 8 8 off then some [(.ro, MEM.SLOT_RMAX.RMAX k)] else
  if let some c := index1 0x91000 64 12 off then some [(.ro, MEM.CH_STATE.STATE c), (.ro, MEM.CH_STATE.RANK c), (.ro, MEM.CH_STATE.MIG_FROM c), (.ro, MEM.CH_STATE.MIG_TO c), (.ro, MEM.CH_STATE.MIG_STATE c), (.ro, MEM.CH_STATE.MIG_PCT c)] else
  if let some c := index1 0x91004 64 12 off then some [(.ro, MEM.CH_MIG_POS.POS c)] else
  if let some c := index1 0x91008 64 12 off then some [(.ro, MEM.CH_MIG_TOTAL.TOTAL c)] else
  if let some c := index1 0x9100C 64 12 off then some [(.ro, MEM.CH_RESV.SHARE c)] else
  if let some c := index1 0x91010 64 12 off then some [(.ro, MEM.CH_ACCT.DEMAND c)] else
  if let some c := index1 0x91014 64 12 off then some [(.ro, MEM.CH_ECC.CE c), (.ro, MEM.CH_ECC.UE c)] else
  if let some c := index1 0x91018 64 12 off then some [(.ro, MEM.CH_CAPAR.PARITY c), (.ro, MEM.CH_CAPAR.RETRAIN_FAIL c), (.ro, MEM.CH_CAPAR.CONSEC c)] else
  if let some c := index1 0x9101C 64 12 off then some [(.ro, MEM.CH_REFRESH.POSTPONED c), (.ro, MEM.CH_REFRESH.MAX c), (.ro, MEM.CH_REFRESH.MAKEUP c)] else
  if let some c := index1 0x91020 64 12 off then some [(.ro, MEM.CH_RETRAIN.COUNT c), (.ro, MEM.CH_RETRAIN.LAST_NS c)] else
  if let some c := index1 0x91024 64 12 off then some [(.ro, MEM.CH_RH.THROTTLES c), (.ro, MEM.CH_RH.RFM c)] else
  if let some c := index1 0x91028 64 12 off then some [(.ro, MEM.CH_POISON.GRANULES c)] else
  if let some c := index1 0x9102C 64 12 off then some [(.ro, MEM.CH_ERR_LO.ADDR c)] else
  if let some c := index1 0x91030 64 12 off then some [(.ro, MEM.CH_ERR_HI.ADDR c), (.ro, MEM.CH_ERR_HI.RANK c)] else
  none

/-- The registers of the RDO block. -/
def findRDO (off : Nat) : Option FoundReg :=
  if off = 0xA0000 then some [(.w1s, RDO.CMD.SNAP), (.w1s, RDO.CMD.CLR_COUNTS)] else
  if off = 0xA0004 then some [(.ro, RDO.RESULT.QUEUE), (.ro, RDO.RESULT.RESULT)] else
  if off = 0xA0008 then some [(.ro, RDO.LINK_CEIL.CEIL), (.ro, RDO.LINK_CEIL.HELD)] else
  if off = 0xA000C then some [(.ro, RDO.SNAP_TICK_LO.TICK)] else
  if off = 0xA0010 then some [(.ro, RDO.SNAP_TICK_HI.TICK)] else
  if let some b := index1 0xA0100 4 16 off then some [(.ro, RDO.HALT_SUM.HALTED b)] else
  if let some q := index1 0xB0000 64 512 off then some [(.rw, RDO.Q_CFG.SRC_KIND q), (.rw, RDO.Q_CFG.SRC_ID q), (.rw, RDO.Q_CFG.PRIO q), (.rw, RDO.Q_CFG.VECTOR q)] else
  if let some q := index1 0xB0004 64 512 off then some [(.rw, RDO.Q_PACE.HI_MARK q), (.rw, RDO.Q_PACE.LO_MARK q)] else
  if let some q := index1 0xB0008 64 512 off then some [(.rw, RDO.Q_PACE_TO.TICKS q)] else
  if let some q := index1 0xB000C 64 512 off then some [(.rw, RDO.Q_CTL.RETRY_MAX q), (.rw, RDO.Q_CTL.FIXED_WIN q), (.rw, RDO.Q_CTL.SIZE q), (.rw, RDO.Q_CTL.EP q)] else
  if let some q := index1 0xB0010 64 512 off then some [(.rw, RDO.Q_HEAD_LO.DEV q), (.rw, RDO.Q_HEAD_LO.ADDR q)] else
  if let some q := index1 0xB0014 64 512 off then some [(.rw, RDO.Q_HEAD_HI.ADDR q)] else
  if let some q := index1 0xB0018 64 512 off then some [(.rw, RDO.Q_COMP_BASE_LO.DEV q), (.rw, RDO.Q_COMP_BASE_LO.ADDR q)] else
  if let some q := index1 0xB001C 64 512 off then some [(.rw, RDO.Q_COMP_BASE_HI.ADDR q)] else
  if let some q := index1 0xB0020 64 512 off then some [(.ro, RDO.Q_LEVEL.LEVEL q)] else
  if let some q := index1 0xB0024 64 512 off then some [(.w1s, RDO.Q_CMD.START q), (.w1s, RDO.Q_CMD.STOP q), (.w1s, RDO.Q_CMD.FLUSH q), (.w1s, RDO.Q_CMD.RESUME q)] else
  if let some q := index1 0xB0028 64 512 off then some [(.wo, RDO.Q_DOORBELL.RING q)] else
  if let some q := index1 0xB002C 64 512 off then some [(.ro, RDO.Q_STATE.STATE q), (.ro, RDO.Q_STATE.CAUSE q), (.ro, RDO.Q_STATE.GUAR_STATE q), (.ro, RDO.Q_STATE.FLUSHING q), (.ro, RDO.Q_STATE.RING_FULL q), (.ro, RDO.Q_STATE.DB_PEND q), (.ro, RDO.Q_STATE.PCT q)] else
  if let some q := index1 0xB0030 64 512 off then some [(.ro, RDO.Q_PROG_POS.POS q)] else
  if let some q := index1 0xB0034 64 512 off then some [(.ro, RDO.Q_PROG_TOTAL.TOTAL q)] else
  if let some q := index1 0xB0038 64 512 off then some [(.ro, RDO.Q_CUR_LO.DEV q), (.ro, RDO.Q_CUR_LO.ADDR q)] else
  if let some q := index1 0xB003C 64 512 off then some [(.ro, RDO.Q_CUR_HI.ADDR q)] else
  if let some (q, i) := index2 0xB8000 32 512 4 8 off then some [(.ro, RDO.Q_BOOK.COUNT q i)] else
  if let some q := index1 0xBC000 16 512 off then some [(.ro, RDO.Q_GUAR.GUAR q), (.ro, RDO.Q_GUAR.LOCKED q)] else
  if let some q := index1 0xBC004 16 512 off then some [(.ro, RDO.Q_ERR.RETRIES q), (.ro, RDO.Q_ERR.HALTS q), (.ro, RDO.Q_ERR.POISONED q)] else
  if let some q := index1 0xBC008 16 512 off then some [(.ro, RDO.Q_COMP_WR.WR q)] else
  if let some q := index1 0xBC00C 16 512 off then some [(.rw, RDO.Q_COMP_RD.RD q)] else
  none

/-- The registers of the DSP block. -/
def findDSP (off : Nat) : Option FoundReg :=
  if off = 0xC0000 then some [(.ro, DSP.CFG.ENABLE), (.ro, DSP.CFG.SURF_EN), (.ro, DSP.CFG.OVL_EN), (.ro, DSP.CFG.BPC), (.ro, DSP.CFG.LANES), (.ro, DSP.CFG.RATE), (.ro, DSP.CFG.HPOL), (.ro, DSP.CFG.VPOL), (.ro, DSP.CFG.PSR_FRAMES)] else
  if off = 0xC0004 then some [(.w1s, DSP.CMD.PSR_ENTER), (.w1s, DSP.CMD.PSR_EXIT), (.w1s, DSP.CMD.PAL_COMMIT), (.w1s, DSP.CMD.RETRAIN), (.w1s, DSP.CMD.CLR_COUNTS)] else
  if off = 0xC0008 then some [(.ro, DSP.STATUS.STATE), (.ro, DSP.STATUS.PSR_CAP), (.ro, DSP.STATUS.SURF), (.ro, DSP.STATUS.OVL), (.ro, DSP.STATUS.PANIC), (.ro, DSP.STATUS.LANES_TRAINED), (.ro, DSP.STATUS.RATE_TRAINED)] else
  if off = 0xC000C then some [(.ro, DSP.PCLK.KHZ)] else
  if off = 0xC0010 then some [(.ro, DSP.H_ACT_FP.ACTIVE), (.ro, DSP.H_ACT_FP.FP)] else
  if off = 0xC0014 then some [(.ro, DSP.H_SYNC_BP.SYNC), (.ro, DSP.H_SYNC_BP.BP)] else
  if off = 0xC0018 then some [(.ro, DSP.V_ACT_FP.ACTIVE), (.ro, DSP.V_ACT_FP.FP)] else
  if off = 0xC001C then some [(.ro, DSP.V_SYNC_BP.SYNC), (.ro, DSP.V_SYNC_BP.BP)] else
  if off = 0xC0020 then some [(.ro, DSP.FETCH.PANIC), (.ro, DSP.FETCH.LEVEL)] else
  if let some i := index1 0xC0024 4 2 off then some [(.ro, DSP.OVL_BASE.BASE i)] else
  if off = 0xC002C then some [(.ro, DSP.OVL_PITCH.PITCH)] else
  if off = 0xC0030 then some [(.rw, DSP.OVL_SEL.SEL)] else
  if off = 0xC0034 then some [(.ro, DSP.COUNTS.UNDERRUN), (.ro, DSP.COUNTS.PSR_ENTRIES), (.ro, DSP.COUNTS.PSR_EXITS)] else
  if off = 0xC0038 then some [(.ro, DSP.FRAME.COUNT)] else
  if off = 0xC003C then some [(.ro, DSP.UNCHANGED.COUNT)] else
  if off = 0xC0040 then some [(.ro, DSP.LINK_ERR.TRAIN_FAILS), (.ro, DSP.LINK_ERR.HPD_IRQ), (.ro, DSP.LINK_ERR.LOSSES), (.ro, DSP.LINK_ERR.PSR_ERRORS)] else
  if let some i := index1 0xC0400 4 256 off then some [(.rw, DSP.PALETTE.B i), (.rw, DSP.PALETTE.G i), (.rw, DSP.PALETTE.R i), (.rw, DSP.PALETTE.A i)] else
  none

/-- The registers of the SEQ block. -/
def findSEQ (off : Nat) : Option FoundReg :=
  if off = 0xD0000 then some [(.ro, SEQ.VERSION.ROM_VERSION), (.ro, SEQ.VERSION.PATCH_VERSION)] else
  if off = 0xD0004 then some [(.ro, SEQ.PATCH_STATE.STATE), (.ro, SEQ.PATCH_STATE.NMATCH), (.ro, SEQ.PATCH_STATE.NWORDS)] else
  if off = 0xD0008 then some [(.ro, SEQ.DIGEST_LO.DIGEST)] else
  if off = 0xD000C then some [(.ro, SEQ.DIGEST_HI.DIGEST)] else
  if off = 0xD0010 then some [(.w1s, SEQ.CMD.SNAP), (.w1s, SEQ.CMD.CLR_COUNTS)] else
  if off = 0xD0014 then some [(.ro, SEQ.PATCH_ECC.CE), (.ro, SEQ.PATCH_ECC.UE)] else
  if let some i := index1 0xD0100 4 32 off then some [(.ro, SEQ.MATCH.ROM_ADDR i), (.ro, SEQ.MATCH.INDEX i), (.ro, SEQ.MATCH.LANE i), (.ro, SEQ.MATCH.TRAIN i)] else
  if let some l := index1 0xD0200 4 64 off then some [(.ro, SEQ.LANE_UNIT.UNIT l), (.ro, SEQ.LANE_UNIT.VALID l), (.ro, SEQ.LANE_UNIT.LEAD l)] else
  if let some u := index1 0xD1000 16 69 off then some [(.ro, SEQ.UNIT_STATE.STATE u), (.ro, SEQ.UNIT_STATE.LANE u), (.ro, SEQ.UNIT_STATE.DEPTH u), (.ro, SEQ.UNIT_STATE.IN_HANDLER u), (.ro, SEQ.UNIT_STATE.LAST_SRC u)] else
  if let some u := index1 0xD1004 16 69 off then some [(.ro, SEQ.UNIT_MC.CAUSE u), (.ro, SEQ.UNIT_MC.DOUBLE u), (.ro, SEQ.UNIT_MC.ADDR u), (.ro, SEQ.UNIT_MC.DEPTH u)] else
  if let some u := index1 0xD1008 16 69 off then some [(.ro, SEQ.UNIT_COUNTS.ELASTIC_OVF u), (.ro, SEQ.UNIT_COUNTS.CTX_PARITY u), (.ro, SEQ.UNIT_COUNTS.PROXY u)] else
  if let some u := index1 0xD100C 16 69 off then some [(.ro, SEQ.UNIT_LAT.MAX_LAT u), (.ro, SEQ.UNIT_LAT.MAX_LEN u)] else
  none

/-- The registers of the MGT block. -/
def findMGT (off : Nat) : Option FoundReg :=
  if off = 0xE0000 then some [(.ro, MGT.FW_VERSION.MINOR), (.ro, MGT.FW_VERSION.MAJOR)] else
  if off = 0xE0004 then some [(.ro, MGT.STATUS.FW_STATE), (.ro, MGT.STATUS.FW_SLOT), (.ro, MGT.STATUS.UART_RATE)] else
  if off = 0xE0008 then some [(.w1s, MGT.CMD.CLR_COUNTS)] else
  if off = 0xE000C then some [(.rw, MGT.MON_CTL.REF_EN), (.ro, MGT.MON_CTL.REF_SETTLED), (.ro, MGT.MON_CTL.REG_DEF), (.ro, MGT.MON_CTL.REG_RUN), (.ro, MGT.MON_CTL.INJ_RUN), (.ro, MGT.MON_CTL.REG_SLOT)] else
  if off = 0xE0010 then some [(.ro, MGT.MON_PW.PW_WIDTH), (.ro, MGT.MON_PW.OC_SRC), (.ro, MGT.MON_PW.PIN_EN), (.ro, MGT.MON_PW.INJ_LEN)] else
  if off = 0xE0014 then some [(.ro, MGT.MON_DELAY.INJ_DELAY)] else
  if off = 0xE0018 then some [(.ro, MGT.MON_COUNTS.PW_EVENTS), (.ro, MGT.MON_COUNTS.INTERRUPTED), (.ro, MGT.MON_COUNTS.INJ_OVERRUN), (.ro, MGT.MON_COUNTS.UNSETTLED)] else
  if off = 0xE001C then some [(.ro, MGT.LOAD_PROG.POS), (.ro, MGT.LOAD_PROG.TOTAL)] else
  if off = 0xE0020 then some [(.ro, MGT.UPD_PROG.POS), (.ro, MGT.UPD_PROG.TOTAL)] else
  if off = 0xE0024 then some [(.ro, MGT.PROG_PCT.LOAD), (.ro, MGT.PROG_PCT.UPD)] else
  if off = 0xE0030 then some [(.ro, MGT.LOG_STATUS.RD_BUSY), (.ro, MGT.LOG_STATUS.RD_RESULT), (.ro, MGT.LOG_STATUS.RD_COUNT), (.ro, MGT.LOG_STATUS.DROPPED)] else
  if off = 0xE0034 then some [(.ro, MGT.LOG_NEWEST_LO.SEQ)] else
  if off = 0xE0038 then some [(.ro, MGT.LOG_NEWEST_HI.SEQ)] else
  if off = 0xE003C then some [(.ro, MGT.LOG_OLDEST_LO.SEQ)] else
  if off = 0xE0040 then some [(.ro, MGT.LOG_OLDEST_HI.SEQ)] else
  if off = 0xE0044 then some [(.rw, MGT.LOG_SEL_HI.FIRST)] else
  if off = 0xE0048 then some [(.rw, MGT.LOG_SEL_LO.FIRST), (.rw, MGT.LOG_SEL_LO.COUNT)] else
  if off = 0xE0080 then some [(.ro, MGT.MBX_STATUS.BUSY), (.w1c, MGT.MBX_STATUS.DONE), (.ro, MGT.MBX_STATUS.REFUSED), (.ro, MGT.MBX_STATUS.UART_ERR)] else
  if off = 0xE0084 then some [(.wo, MGT.MBX_DOORBELL.RING)] else
  if let some i := index1 0xE0100 4 64 off then some [(.rw, MGT.MBX_REQ.DATA i)] else
  if let some i := index1 0xE0200 4 64 off then some [(.ro, MGT.MBX_RSP.DATA i)] else
  if let some i := index1 0xE0300 4 64 off then some [(.ro, MGT.LOG_DATA.DATA i)] else
  if let some n := index1 0xE0400 4 40 off then some [(.ro, MGT.MON_RESULT.VALUE n), (.ro, MGT.MON_RESULT.UNSETTLED n), (.ro, MGT.MON_RESULT.ALARM n), (.ro, MGT.MON_RESULT.UPDATES n)] else
  if let some n := index1 0xE0500 4 40 off then some [(.rw, MGT.MON_CORR.OFFSET n), (.rw, MGT.MON_CORR.GAIN n)] else
  if let some n := index1 0xE0600 8 40 off then some [(.ro, MGT.MON_LIMIT.LO n), (.ro, MGT.MON_LIMIT.HI n)] else
  if let some n := index1 0xE0604 8 40 off then some [(.ro, MGT.MON_ALARM.HYST n), (.ro, MGT.MON_ALARM.CONFIRM n), (.ro, MGT.MON_ALARM.CLASS n), (.ro, MGT.MON_ALARM.SAFE_ON n)] else
  if let some d := index1 0xE0800 4 16 off then some [(.ro, MGT.SEQ_CFG.VALID d), (.ro, MGT.SEQ_CFG.MODE d), (.ro, MGT.SEQ_CFG.LEN d)] else
  if let some s := index1 0xE0840 4 4 off then some [(.ro, MGT.INJ_SLOT.INPUT s), (.ro, MGT.INJ_SLOT.AVG s)] else
  if let some (d, s) := index2 0xE0C00 64 16 4 16 off then some [(.ro, MGT.SEQ_SLOT.INPUT d s), (.ro, MGT.SEQ_SLOT.AVG d s)] else
  none

/-- The registers of the SEC block. -/
def findSEC (off : Nat) : Option FoundReg :=
  if off = 0xF0000 then some [(.ro, SEC.STATUS.OWNER), (.ro, SEC.STATUS.RB_COUNT), (.ro, SEC.STATUS.ENROL_RESULT), (.ro, SEC.STATUS.BOOT_SLOT), (.ro, SEC.STATUS.LAST_FAIL)] else
  if off = 0xF0004 then some [(.w1s, SEC.CMD.SEAL_NOW)] else
  if off = 0xF0008 then some [(.ro, SEC.CFG.CHECK), (.ro, SEC.CFG.ROLL)] else
  if let some s := index1 0xF0050 4 2 off then some [(.ro, SEC.SLOT_STATE.STATE s), (.ro, SEC.SLOT_STATE.SVN s)] else
  if let some i := index1 0xF0010 4 4 off then some [(.ro, SEC.SERIAL.SERIAL i)] else
  if let some i := index1 0xF0020 4 12 off then some [(.ro, SEC.OWNER_HASH.HASH i)] else
  if let some i := index1 0xF0100 4 25 off then some [(.ro, SEC.IDKEY.KEY i)] else
  if let some k := index1 0xF0200 16 8 off then some [(.ro, SEC.SESS_ID_LO.ID k)] else
  if let some k := index1 0xF0204 16 8 off then some [(.ro, SEC.SESS_ID_HI.ID k)] else
  if let some k := index1 0xF0208 16 8 off then some [(.ro, SEC.SESS_TRIG.N k)] else
  if let some k := index1 0xF020C 16 8 off then some [(.ro, SEC.SESS_STATE.STATE k), (.ro, SEC.SESS_STATE.PEND_CLOSE k)] else
  none

/-- The registers of the BST block. -/
def findBST (off : Nat) : Option FoundReg :=
  if off = 0x100000 then some [(.ro, BST.CFG.LOAD_SEL), (.ro, BST.CFG.RUN_SEL)] else
  if off = 0x100004 then some [(.ro, BST.STATUS.STATE), (.ro, BST.STATUS.LOAD_FAIL), (.ro, BST.STATUS.PCT), (.ro, BST.STATUS.REFCHK)] else
  if off = 0x100008 then some [(.ro, BST.PROGRESS.POS), (.ro, BST.PROGRESS.TOTAL)] else
  if off = 0x10000C then some [(.w1s, BST.CMD.CLR_COUNTS)] else
  if off = 0x100010 then some [(.rw, BST.SIG_SEL.PART_NO), (.rw, BST.SIG_SEL.PART)] else
  if let some i := index1 0x100014 4 2 off then some [(.ro, BST.SIG.SIG i)] else
  if let some i := index1 0x10001C 4 2 off then some [(.ro, BST.GOLD.GOLD i)] else
  if let some g := index1 0x100040 4 4 off then some [(.ro, BST.GROUP_COUNTS.SLICES g), (.ro, BST.GROUP_COUNTS.FAILS g), (.ro, BST.GROUP_COUNTS.SKIPS g), (.ro, BST.GROUP_COUNTS.ABANDONED g)] else
  if let some p := index1 0x100100 4 84 off then some [(.ro, BST.PART_STATE.RES0 p), (.ro, BST.PART_STATE.RES1 p), (.ro, BST.PART_STATE.RES2 p), (.ro, BST.PART_STATE.AT_LOAD p), (.ro, BST.PART_STATE.CONSEC p), (.ro, BST.PART_STATE.OUTCOME p)] else
  none

/-- The registers of the DEV block (R409). -/
def findDEV (off : Nat) : Option FoundReg :=
  if off = 0x0 then some [(.ro, DEV.ID.PART), (.ro, DEV.ID.STEPPING), (.ro, DEV.ID.ORDER)] else
  if off = 0x4 then some [(.ro, DEV.MODE.MODE), (.ro, DEV.MODE.PREV), (.ro, DEV.MODE.CAUSE), (.ro, DEV.MODE.TRANSIT), (.ro, DEV.MODE.TRIAL), (.ro, DEV.MODE.ROM_ONLY)] else
  if off = 0x8 then some [(.wo, DEV.MODE_REQ.TARGET), (.wo, DEV.MODE_REQ.KEY)] else
  if off = 0xC then some [(.ro, DEV.MODE_RESULT.TARGET), (.ro, DEV.MODE_RESULT.BUSY), (.ro, DEV.MODE_RESULT.RESULT)] else
  if off = 0x10 then some [(.ro, DEV.RESET_CAUSE.CAUSE), (.ro, DEV.RESET_CAUSE.WDOG)] else
  if off = 0x14 then some [(.ro, DEV.SAFE_CAUSE.CAUSE), (.ro, DEV.SAFE_CAUSE.BOOT_ROM)] else
  if off = 0x18 then some [(.ro, DEV.BOOT.SLOT), (.ro, DEV.BOOT.TRIES), (.ro, DEV.BOOT.FAIL_A), (.ro, DEV.BOOT.FAIL_B)] else
  if off = 0x1C then some [(.ro, DEV.IMAGE_VERSION.VERSION)] else
  if let some i := index1 0x20 4 4 off then some [(.ro, DEV.FEATURES.BITS i)] else
  if off = 0x30 then some [(.ro, DEV.MANIFEST.MATCH), (.ro, DEV.MANIFEST.NENT)] else
  if off = 0x34 then some [(.ro, DEV.TIMES.LOAD_MS), (.ro, DEV.TIMES.READY_MS)] else
  if off = 0x38 then some [(.ro, DEV.STARTUP.STAGE)] else
  if off = 0x3C then some [(.ro, DEV.CFG.PERST_POLICY)] else
  if off = 0x40 then some [(.rw, DEV.WAKE_TICK_LO.TICK)] else
  if off = 0x44 then some [(.rw, DEV.WAKE_TICK_HI.TICK)] else
  if off = 0x48 then some [(.rw, DEV.WAKE_CFG.TICK_EN), (.rw, DEV.WAKE_CFG.PW_EN)] else
  if off = 0x4C then some [(.ro, DEV.DORMANT.ENTRIES), (.ro, DEV.DORMANT.WAKE)] else
  if off = 0x50 then some [(.ro, DEV.FLASH_ID.JEDEC_ID)] else
  if off = 0x54 then some [(.ro, DEV.FLASH_CFG.SIZE), (.ro, DEV.FLASH_CFG.ADDR4), (.ro, DEV.FLASH_CFG.DUMMY)] else
  if off = 0x100 then some [(.rw, DEV.BAR2_BASE.BASE)] else
  if off = 0x104 then some [(.ro, DEV.HOST_STATUS.WIDTH), (.ro, DEV.HOST_STATUS.SPEED), (.ro, DEV.HOST_STATUS.D3HOT), (.ro, DEV.HOST_STATUS.MSIX_EN), (.ro, DEV.HOST_STATUS.BME), (.ro, DEV.HOST_STATUS.FLRS), (.ro, DEV.HOST_STATUS.LINK_DOWNS)] else
  if off = 0x108 then some [(.ro, DEV.HOST_ERR.BAD_SIZE), (.ro, DEV.HOST_ERR.BAR2_UR)] else
  none

/-- The registers of the EVT block. -/
def findEVT (off : Nat) : Option FoundReg :=
  if off = 0x110000 then some [(.ro, EVT.SUMMARY.LATCHED), (.ro, EVT.SUMMARY.FAULT), (.ro, EVT.SUMMARY.ALERT)] else
  if off = 0x110004 then some [(.w1s, EVT.CMD.CLR_COUNTS), (.w1s, EVT.CMD.CLR_STATUS)] else
  if off = 0x110008 then some [(.ro, EVT.FIRST.SOURCE), (.ro, EVT.FIRST.VALID)] else
  if off = 0x11000C then some [(.ro, EVT.FIRST_TICK_LO.TICK)] else
  if off = 0x110010 then some [(.ro, EVT.FIRST_TICK_HI.TICK)] else
  if let some i := index1 0x110100 4 8 off then some [(.w1c, EVT.STATUS.STATUS i)] else
  if let some i := index1 0x110120 4 8 off then some [(.rw, EVT.MASK.MASK i)] else
  if let some i := index1 0x110140 4 8 off then some [(.ro, EVT.CLASS.FAULT i)] else
  if let some n := index1 0x111000 16 256 off then some [(.rw, EVT.ROUTE.VECTOR n), (.rw, EVT.ROUTE.ALERT n), (.rw, EVT.ROUTE.LOG n)] else
  if let some n := index1 0x111004 16 256 off then some [(.ro, EVT.COUNT.COUNT n)] else
  if let some n := index1 0x111008 16 256 off then some [(.ro, EVT.DETAIL.KIND n), (.ro, EVT.DETAIL.INDEX n), (.ro, EVT.DETAIL.ARG n)] else
  if let some n := index1 0x11100C 16 256 off then some [(.ro, EVT.LAST_TICK.TICK n)] else
  none

/-- The register at a BAR0 offset, by the block bases of Table 19-4 (R435); `none` for a reserved offset. -/
def findReg (off : Nat) : Option FoundReg :=
  match off / 0x10000 with
  | 1 => findTIME off
  | 2 => findCNV off
  | 3 => findCAL off
  | 4 => findTRG off
  | 5 => findACQ off
  | 6 => findCOD off
  | 7 => findACC off
  | 8 => findENS off
  | 9 => findMEM off
  | 10 => findRDO off
  | 11 => findRDO off
  | 12 => findDSP off
  | 13 => findSEQ off
  | 14 => findMGT off
  | 15 => findSEC off
  | 16 => findBST off
  | 0 => findDEV off
  | 17 => findEVT off
  | _ => none

end Sys2Proof.Machine
end

