-- ==== Sys2Proof/Machine/State.lean ====
section
/-!
DEFINITION. The state of the device as plain data: the register file, the state the spec gives each block beside its
registers, the queue of waiting commands, and the record of what left the device. State.reset is the machine right after reset.
-/

namespace Sys2Proof.Machine

/-- Faults of the model. The spec gives every command an effect, so no meaning raises one; the one constructor stands for an
internal stop that no command reaches. Safe: a stop that is never taken hides nothing. -/
inductive Fault where
  /-- Raised by no meaning. Safe. -/
  | neverRaised
  deriving DecidableEq, Repr

/-- Refusals of the model. -/
inductive Refusal where
  /-- A command whose meaning has not been written, named by its mnemonic; raised by no arm of exec now. Safe: nothing can be
  proved of such a command. -/
  | notModelled (mnemonic : String)
  deriving DecidableEq, Repr

/-! ### What the device sends out -/

/-- Something that leaves the device. The list of them in the state is the model's own record of the outside (log entry 5). -/
inductive Out where
  | msix (vector : Nat)                              -- one MSI-X message (R412, R430)
  | hostWrite (addr : Nat) (data : List Byte) (ep : Bool)   -- a posted write to host memory (R286, R283)
  | hostRead (addr len be : Nat)                     -- a non-posted read of host memory; byte enables of its one dword, or 15 (R282, R424)
  | completion (ep : Bool) (data : List Byte)        -- a BAR0 or BAR2 read completion (R427, R428)
  | unsupported                                      -- Unsupported Request (R427)
  | uart (bytes : List Byte)                         -- a frame on MGT_TX (R342)
  | quoda (port : Nat) (bytes : List Byte)           -- a message on a Quoda port (R215)
  | callOut (port : Nat) (bytes : List Byte)         -- a call on a Quoda port (R215)
  | guards (port : Nat)                              -- the two GUARD blocks between the copies of a message (R222)
  | flash (code addr len : Nat)                      -- a command to the configuration flash: code, address, bytes (R397, Table 17-4)
  | trigOut (n : Nat) (level : Bool)                 -- TRIG_OUTn is driven to a level (R139, R140)
  | trigHiZ                                          -- TRIG_OUT0 and TRIG_OUT1 go to high impedance (R140)
  | panelFrame (vsc : Nat) (pixels : List (Nat × Nat × Nat))  -- a frame sent to the panel: VSC mark (0 none, 1 PSR active, 2 PSR
                                                     -- inactive) and R, G, B in scan order (R308, R312)
  deriving DecidableEq, Repr

/-! ### Timeline and scheduler -/

/-- An interval of device time in fabric cycles: start and, once it has ended, end. -/
structure Span where
  start : Nat
  stop : Option Nat
  deriving DecidableEq, Repr

/-- The timeline's own state beside the TIME registers (R32 to R43). -/
structure TimeSt where
  expected : Option Tick := none      -- next expected epoch tick, R36
  previous : Option Tick := none      -- the expected tick reached last
  seenNext : Bool := false            -- a pulse has been assigned to `expected` (R38)
  seenPrev : Bool := false            -- a pulse has been assigned to `previous`
  judged : Bool := true               -- the missing test of `previous` has been made (R39)
  armed : Option (Nat × Tick) := none -- an armed epoch load: EPOCH_NUM and tick (R37)
  realign : Option (Int × Nat) := none -- a REALIGN jump owed: d, and the cycle of its pulse (R38)
  holdover : List Span := []          -- HOLDOVER intervals, newest first (R42, R43)
  phaseHit : List Span := []          -- PHASE_HIT intervals and jumps, newest first (R42)
  holdWaits : Bool := false           -- LOCKED reached, HOLDOVER ends at the next pulse (R43)
  phaseWaits : Bool := false          -- residual settled, PHASE_HIT ends at the next on-time pulse (R42)
  spllLostAt : Option Nat := none     -- cycle at which the sampling PLL lost lock (R41)
  crystalOk : Bool := true            -- the crystal gives edges
  refOk : Bool := true                -- REFCLK gives edges within tolerance
  refFreq : Bool := false             -- it failed by frequency, not by its edges
  loaded : Bool := false              -- an epoch load has applied since reset (EPOCH_ALIGNED)
  jumpLog : List (Nat × Int) := []    -- jumps of the count: cycle and size in ticks, newest first (R172, R191)
  deriving DecidableEq, Repr

/-- A dispatched occurrence of a scheduler entry that has not finished starting (R47). -/
structure Occ where
  entry : Nat
  action : Nat
  arg : Nat
  at_ : Tick          -- tick of dispatch
  from_ : Nat         -- cycle of dispatch, from which the start window runs (log entry 83)
  window : Nat
  lateBy : Nat
  groups : Nat        -- groups of a SHUFFLE or BIST_SLICE mask that have not started (R47)
  missed : Bool       -- a group has missed the window
  started : Bool := false -- it has started and waits for admission (R47, Table 02-4)
  deriving DecidableEq, Repr

/-- A SCHEDULE entry of the configuration image (R403). -/
structure SchedImage where
  entry : Nat
  action : Nat
  runLate : Bool
  relative : Bool
  tick : Nat
  arg : Nat
  lateMax : Nat
  window : Nat
  period : Nat
  deriving DecidableEq, Repr

/-- Scheduler state beside the SCHED registers. -/
structure SchedSt where
  due : Tbl Nat := []             -- tick of the next occurrence of a committed entry (R49)
  late : Tbl Nat := []            -- lateness already judged against an entry, when it is not 0 (R45, R50, R52)
  waiting : List Occ := []        -- dispatched occurrences, in dispatch order
  cancel : Tbl Bool := []         -- entries cancelled while an occurrence waits (R51)
  lastDispatch : Option Nat := none -- cycle of the last dispatch (R46)
  image : List SchedImage := []   -- SCHEDULE entries of the image (R403)
  deriving DecidableEq, Repr

/-! ### Event log, management, trust -/

/-- An event log entry (R351); `chain` is bytes 0 to 7 of H(SEQ), empty until the entry is committed. -/
structure LogEntry where
  seq : Nat
  typ : Nat
  source : Nat
  tick : Tick
  flags : Nat
  data : List Byte
  chain : List Byte
  stagedAt : Nat      -- cycle at which it was staged (R353)
  deriving DecidableEq, Repr

/-- A seal record (R352). -/
structure SealRec where
  number : Nat
  lastSeq : Nat
  hash : List Byte
  sig : List Byte
  deriving DecidableEq, Repr

/-- A slot control record (R398). -/
structure CtlRec where
  wseq : Nat
  stateA : Nat
  stateB : Nat
  seenA : Bool
  seenB : Bool
  wdog : Nat
  deriving DecidableEq, Repr

/-- One quantity of an item in a calibration result: the step of Table 04-2, the item, the quantity's number in it, whether it agreed,
and its values, as measured or as fallen back to (R105). -/
structure CalItem where
  step : Nat
  item : Nat
  q : Nat
  agreed : Bool
  values : List Int
  deriving DecidableEq, Repr

/-- A result in the calibration history: a power-up calibration, or a passing background run of a slice (R105). `num` orders them;
`sig` is the layout and the splitter values; `temps` the die temperatures. -/
structure CalRun where
  num : Nat
  stepping : Nat
  sig : List Nat
  temps : List Nat
  items : List CalItem
  deriving DecidableEq, Repr

/-- What survives a device reset: flash, fuses, log memory (R350, R358, R397). -/
structure NvSt where
  ring : Tbl LogEntry := []       -- event ring, keyed by SEQ (R350)
  nextSeq : Nat := 0              -- SEQ of the next entry to be committed
  chainH : List Byte := List.replicate 48 0    -- H of the last committed entry (R352)
  seals : Tbl SealRec := []       -- seal area, keyed by seal number
  calRuns : List CalRun := []     -- the last eight power-up calibrations, newest first (R105)
  calBg : Tbl (Option CalRun) := []  -- per slice, its latest passing background run (R105)
  persist : List (Nat × Nat) := [] -- persistent area: kind (0 address, 1 accession block) and value, newest first, at most 8192
  persistCount : Nat := 0         -- persistent records written (R350)
  calRecords : Nat := 0           -- calibration history records written (R105)
  flash : Tbl Byte := []          -- configuration flash, Table 17-5; an unlisted byte is erased
  flashMiB : Nat := 32            -- capacity in MiB, 16 to 256 (R397)
  jedecId : Nat := 0
  flashDummy : Nat := 0           -- dummy cycles of 0xEB, from SFDP
  ctlBusy : Option (Nat × CtlRec) := none -- the control record being written: its copy, erased and not yet programmed (R398)
  rbCount : Nat := 0              -- anti-rollback fuses blown (R358)
  ownerValid : Bool := false      -- OWNER_VALID fuse
  ownerHash : List Byte := []     -- hash fuses; empty while none is blown
  deriving DecidableEq, Repr

/-- A mailbox request accepted on a channel (0 PCIe, 1 UART) and not yet answered (R342). -/
structure MbxReq where
  chan : Nat
  msg : List Byte
  at_ : Nat := 0          -- cycle of its arrival
  void : Bool := false    -- its response is discarded (R432)
  deriving DecidableEq, Repr

/-- An open update session (R342, R367). -/
structure UpdSt where
  chan : Nat
  slot : Nat
  total : Nat         -- bytes declared by UPD_BEGIN
  pos : Nat           -- 4 KiB units finished
  filling : Tbl Byte  -- bytes received by UPD_WRITE for the units not yet programmed, by their offset in the slot
  owed : Bool := false -- an UPD_WRITE that completed the unit awaits its answer (Table 15-6)
  fromDram : Option (Nat × Nat) -- an UPD_WRITE_DRAM under way: device address, units left
  deriving DecidableEq, Repr

/-- Management state (chapter 14) beside the MGT registers. -/
structure MgtSt where
  staged : List LogEntry := []    -- staging buffer, oldest first (R353)
  credit : Nat := 6400000         -- log rate allowance in cycles: 100 000 per entry, at most 64 entries (R353)
  creditAt : Nat := 0
  dropPend : Nat := 0             -- entries dropped since the last DROPPED entry was staged
  dropRun : Bool := false         -- a run of drops is open (R353)
  reqs : List MbxReq := []        -- outstanding requests in order of arrival (R342)
  upd : Option UpdSt := none
  updResult : Nat := 0            -- last update result, for UPD_STATUS
  pwLow : Bool := false           -- a pulse-width source is asserted and its event has formed (R347)
  injAt : Option Nat := none      -- cycle at which the injected sequence starts (R347)
  injSlot : Option Nat := none    -- injected slot converting
  monPend : Option (Nat × Nat) := none  -- a MON_SEQ dispatched: definition and the cycle of its start (R346)
  slotAt : Nat := 0               -- cycle at which the slot converting began (R344)
  monNext : Option Nat := none    -- regular definition that starts after the injected sequence (R356)
  refOnAt : Nat := 0              -- cycle at which REF_EN last became 1 (R348)
  refWas : List (Nat × Nat) := [] -- the times REF_EN was 1 before, of the last 8 us: from, until (R348)
  alarmCnt : Tbl Nat := []        -- consecutive judged results toward entering or leaving an alarm (R349)
  burn : Option (Nat × Nat × Nat) := none -- an UPD_COMMIT blowing fuses: the old count, the new one, cycle of the next fuse (R366, R376)
  monStart : Option Nat := none   -- MON_START of the image
  refAuto : Bool := false         -- REF_AUTO of the image
  deriving DecidableEq, Repr

/-- An authentication session (R368 to R371). -/
structure Session where
  id : Nat
  key : List Byte
  plan : Nat
  n : Nat             -- triggers committed
  r : Nat             -- results
  chains : Tbl (List Byte) -- C_i by channel position
  chainR : List Byte
  sealed : Tbl Nat    -- records sealed by channel position
  checked : Nat       -- n of the last CHECKPOINT
  owed : Nat          -- committed records not yet sealed
  marks : Tbl (List (List Byte)) -- by channel position: C_i at the multiples of 2^CHECK not yet checkpointed, oldest first
  deriving DecidableEq, Repr

/-- Trust state beside the SEC registers. -/
structure SecSt where
  current : Tbl (List Session) := []  -- per slot: the current session first, then those not yet closed
  permit : List Byte := []            -- OWNER_HASH of a valid permit during an enrolling LOAD (R364)
  deriving DecidableEq, Repr

/-- Event state beside the EVT registers. -/
structure EvtSt where
  firstTick : Tick := 0
  seen : Tbl Nat := []      -- per source: cycle of its last occurrence, plus 1 (R411)
  told : Tbl Nat := []      -- per source: cycle of its last message, plus 1 (R412)
  kept : Tbl Nat := []      -- per source: cycle, plus 1, of a last occurrence that left DETAIL to a higher-numbered unit's (R415)
  deriving DecidableEq, Repr

/-! ### Host interface, modes, self-test -/

/-- PCI Express state beside the registers (chapter 19). -/
structure HostSt where
  mse : Bool := false               -- Memory Space Enable
  msixEn : Bool := false            -- MSI-X Enable
  fmask : Bool := false             -- MSI-X function mask
  unmasked : Tbl Bool := []         -- vectors whose mask bit is clear
  table_ : Tbl Nat := []            -- MSI-X table dwords other than vector control, keyed by BAR4 dword
  pba : Tbl Bool := []              -- pending bit array
  bar2Log : Nat := 36               -- log2 of the BAR2 size (R425)
  bar2Def : Nat := 36               -- its default, from the image
  readData : Option Nat := none     -- dword returned by the last BAR0 register read
  perst : Bool := false             -- PERST_N asserted
  mps : Nat := 128                  -- Max_Payload_Size in force
  cplCode : Nat := 0                -- Completion Timeout Value, Device Control 2 bits 3:0
  cplOff : Bool := false            -- Completion Timeout Disable, Device Control 2 bit 4
  aer : Nat := 0                    -- AER Uncorrectable Error Status
  status : Nat := 0                 -- error bits of the Status register
  perstAt : Nat := 0                -- cycle of the last PERST_N deassertion
  deriving DecidableEq, Repr

/-- Reset, start-up and mode state beside the DEV registers (chapters 17 and 20). -/
structure DevSt where
  held : Bool := false              -- held in reset
  vddAon : Bool := true             -- VDD_AON in range
  resetN : Bool := false            -- RESET_N low
  trip : Bool := false              -- THERM_TRIP_N driven low (R446)
  tripAt : Nat := 0                 -- cycle at which a site was last seen at its trip level
  cause : Nat := 0                  -- lowest reset cause of this reset (R458)
  startAt : Nat := 0                -- cycle at which LOAD began
  tried : List Nat := []            -- slots tried in this LOAD
  slot : Option Nat := none         -- slot whose firmware runs
  booted : Bool := false            -- steps 1 and 2 of Table 17-12 are over
  stageAt : Nat := 0                -- cycle at which STARTUP.STAGE last changed
  trialFailed : Bool := false       -- the TRIAL slot has failed in this LOAD (R365)
  enrolDue : Bool := false          -- the hash fuses are programmed, OWNER_VALID is not yet blown (Table 15-4)
  fwOk : Bool := false              -- firmware of the last candidate passed R361
  fwMatched : Bool := false         -- it was matched by a manifest entry
  imageOk : Bool := false           -- image verified
  training : Option (List (Nat × Nat) × List Nat) := none -- what a training found that ended before the partitions of step 7 were judged
  trained : Bool := false           -- DRAM training ended
  tested : Bool := false            -- LOAD self-test run ended
  clockWait : Bool := false         -- LOAD waits at step 6 for a clock source (R458)
  request : Nat := 0                -- target of the mode request in progress (MODE_RESULT.BUSY), 0 with none
  dormantDue : Bool := false        -- a DORMANT request waits for the requests that came before it (R407)
  entering : Bool := false          -- DORMANT entry under way
  leaving : Bool := false           -- DORMANT exit under way
  wake : List Nat := []             -- wake causes seen during DORMANT entry (R408)
  leaveAt : Nat := 0                -- cycle at which DORMANT exit began
  resetAt : Option Nat := none      -- cycle at which a RESET request was accepted
  plan68 : Bool := true             -- partition 68 passed at LOAD (R384)
  outOk : Bool := true              -- partition 81 passed
  dispOk : Bool := true             -- partition 82 passed
  mgtOk : Bool := true              -- partition 83 passed
  features : Nat := 0               -- firmware FEATURES
  readyTick : Tick := 0             -- tick of the last entry to READY from LOAD or CALIBRATE (R403)
  sleepMem : Bool := false          -- DRAM in self-refresh
  domainOff : Bool := false         -- blocks outside the always-on domain powered down (DORMANT, SAFE)
  deriving DecidableEq, Repr

/-- A BIST slice running in a group (R385). -/
structure BistRun where
  startAt : Nat
  slice : Nat
  unit : Option Nat
  deriving DecidableEq, Repr

/-- Self-test state beside the BST registers. -/
structure BstSt where
  run : Tbl (Option BistRun) := []  -- per group
  sig : Tbl Nat := []               -- last MISR of logic part q of partition p, key 4 p + q
  lastFail : Tbl Nat := []          -- per partition: the last failing part, plus 1
  consec : Tbl Nat := []            -- consecutive failures of part q of partition p, key 4 p + q
  monOff : Tbl Bool := []           -- groups whose monitor test is removed (R381)
  deriving DecidableEq, Repr

/-! ### Converter fabric and calibration -/

/-- A shuffle step under way in a group (Table 03-4). -/
structure Step where
  entry : Nat           -- scheduler entry that started it
  lane : Nat
  incoming : Nat
  outgoing : Nat
  startAt : Nat
  shadowAt : Option Nat   -- start of the shadow frame
  switchAt : Option Nat   -- the switch instant, once fixed, in 2^-23 ns
  switched : Bool
  down : Bool
  deriving DecidableEq, Repr

/-- Converter-fabric state beside the CNV registers. -/
structure CnvSt where
  step : Tbl (Option Step) := []   -- per group
  retired : Tbl Bool := []         -- retired slices (R80)
  shadowFail : Tbl Nat := []       -- consecutive shadow failures, live
  short : Tbl Bool := []           -- short groups (R419)
  shortSlice : Tbl Nat := []       -- slice of a lane of a short narrow group, plus 1
  stopped : Tbl Bool := []         -- stopped channels (R83)
  lastSwitch : Tbl Nat := []       -- tick of a group's last switch instant; at 4 + g, as LAST_SWITCH shows it
  switches : List (Nat × Nat) := [] -- lane and the switch instants in 2^-23 ns, newest first (R79)
  served : List (Nat × Nat × Nat) := [] -- lane, slice left, switch instant in 2^-23 ns (R77, R92)
  conv : Tbl (List Nat) := []      -- last raw conversions of a channel, newest first (R71)
  convN : Tbl Nat := []            -- number of the channel's next conversion
  deriving DecidableEq, Repr

/-- A tracking window in progress (R101): the number of its first sample, that of the next sample, and the corrected samples, newest
first, from at most four before it. -/
structure TrackWin where
  from_ : Nat
  top : Nat
  xs : List Int
  deriving DecidableEq, Repr

/-- Live calibrated quantities and background activity beside the CAL registers. -/
structure CalSt where
  offset : Tbl Int := []           -- slice offset, 1/64 LSB (Table 04-1)
  gain : Tbl Int := []             -- slice gain, unsigned 1.15; default 0x8000
  weight : Tbl (Option Int) := []  -- bit weight, key 16 s + b; none is the design weight
  aperture : Tbl Int := []
  phase : Tbl Int := []            -- phase-tap trim, key 64 g + p
  phaseSusp : Tbl Bool := []
  trunkDelay : Tbl Int := []
  trunkGain : Tbl Int := []
  slotOffset : Tbl Int := []       -- per lane, in 2^-16 LSB (log entry 20)
  slotGain : Tbl Int := []         -- per lane, in 2^-30; default 2^30
  slotSkew : Tbl Int := []         -- per lane, in 2^-8 fs
  bw0 : Tbl Int := []              -- 2.14; default 0x4000
  bwM : Tbl Int := []
  bwP : Tbl Int := []
  bgRun : Tbl (Option Nat) := []   -- background run on a slice: cycle of its start
  apSrc : Tbl Nat := []            -- source of a slice's aperture trim (R105)
  track : Tbl (List (Int × Int × Int)) := [] -- pending tracking changes of a channel: offset, gain, skew per slot (R103)
  trackFull : Tbl Bool := []       -- they come from a sufficient window
  disturb : Tbl (List Nat) := []   -- cycles of the arms and disarms of a plan holding the channel, newest first (R104)
  win : Tbl (Option TrackWin) := [] -- tracking window of a channel (R101)
  limits : Tbl Bool := []          -- held at their limits: slot gain of lane l at 2l, slot skew at 2l + 1 (R103)
  calAt : Nat := 0                 -- cycle of entry to CALIBRATE
  results : List CalItem := []     -- results of the power-up calibration under way, newest first (R105)
  markOff : Tbl Nat := []          -- cycle, plus 1, at which the CAL_SUSPECT mark of a marked slice was last cleared (R92, R99)
  deriving DecidableEq, Repr
/-! ### Plans -/

/-- A channel record of a library plan (Table 17-11). -/
structure Chan where
  ch : Nat
  p : Nat
  q : Nat
  h : Nat
  dm1 : Nat       -- D - 1
  phi : Nat
  g : Nat         -- write grant G
  gMin : Nat
  gMax : Nat
  dMin : Nat      -- D_MIN - 1
  dMax : Nat      -- D_MAX - 1
  deriving DecidableEq, Repr

/-- A plan of the library (R15, Table 17-11, R402). -/
structure Plan where
  num : Nat
  autostart : Bool
  ring : Bool     -- POLICY 0 RING; false for 1 STOP_WHEN_FULL (ACQ.LIB_CFG)
  callRx : Bool
  callTx : Bool
  deficit : Bool  -- FULL_ONLY
  prio : Nat
  sets : Nat
  f : Nat         -- folio size in 4 KiB units
  deadline : Nat
  ringBase : Nat
  catBase : Nat
  rmax : Nat
  hold : Nat
  termSel : Nat
  holdTicks : Nat
  holdSamples : Nat
  holdCount : Nat
  holdMax : Nat
  accEn : Bool
  accDram : Bool
  accSplit : Bool
  accAlign : Bool
  qmask : Nat
  accPre : Nat
  accL : Nat
  target : Nat
  accBase : Nat
  chans : List Chan
  deriving DecidableEq, Repr

/-! ### Trigger -/

/-- The state of one event detector (R108 to R111). -/
structure Det where
  fresh : Bool := true      -- restarts at the next sample (R110)
  rise : Bool := false      -- rising machine armed
  fall : Bool := false      -- falling machine armed
  active : Bool := false    -- state-type: active
  wait : Bool := false      -- width: waits for a pulse in progress at the restart to end
  width : Option Nat := none  -- width of the pulse in progress, in samples
  before : Option (Bool × Bool × Bool × Bool × Bool × Bool) := none -- output and arming state before a restart not yet made (R111)
  cand : Bool := false      -- runt candidate open
  pend : Option (Int × Int × Int) := none -- pending LH, LL and H (R136)
  changeAt : Nat := 0       -- cycle of the last change of output or arming state (R111)
  lastOut : Bool := false   -- an event or the active state at the last sample
  deriving DecidableEq, Repr

/-- A TRIG_IN pin beside its registers (R138). Times are in 1/16 ns sample periods since the model's start. -/
structure Pin where
  level : Bool := false          -- filtered level
  runs : List (Nat × Option Nat) := []  -- last active runs: first sample and first sample after, newest first
  changeAt : Nat := 0
  deriving DecidableEq, Repr

/-- A TRIG_OUT pin (R139). Times in 62.5 ps. -/
structure OutPin where
  due : List Nat := []           -- starts of pulses to come, in order
  endsAt : Option Nat := none    -- end of the active pulse
  deriving DecidableEq, Repr

/-- An event of a qualifier source inside an evaluation instant: its time in 2^-23 ns since the model's start and its quality
code (R115, R122). -/
abbrev SrcEvent := Nat × Nat

/-- An event sample of a detector: the sample, whether a falling machine gave it, and LH in force (R109, R123). -/
structure DetEvent where
  src : Nat
  sample : Nat
  falling : Bool
  lh : Int
  deriving DecidableEq, Repr

/-- What the samples of an evaluation instant gave, until the sample after it has come (R121, R123; log entry 28): the qualifier
vector and the first event of each event-type detector. -/
structure Raw where
  inst : Nat
  q : Nat
  events : List DetEvent
  deriving DecidableEq, Repr

/-- What one evaluation instant of a slot saw (R114): the instant, its qualifier vector, the events by source. -/
structure Seen where
  inst : Nat
  q : Nat
  events : Tbl SrcEvent
  deriving DecidableEq, Repr

/-- A call (R220). -/
structure Call where
  src : Nat
  seq : Nat
  trick : Nat
  tick : Tick
  frac : Nat
  quality : Nat
  deriving DecidableEq, Repr

/-- A trigger taken by a slot's FIFO (R127, R153). `gen` is the arm it belongs to. -/
structure Trig where
  t : Nat              -- trigger time in 2^-23 ns since the model's start
  tick : Tick          -- its timestamp
  frac : Nat
  quality : Nat
  origin : Nat         -- 0 term, 1 call, 2 force
  term : Nat
  trick : Option Nat   -- trick number fixed before commit (R157)
  lostSince : Nat
  gen : Nat
  oldest : Tbl Int := [] -- per channel, the oldest stored sample that the history held when it was judged (R130, R242)
  deriving DecidableEq, Repr

/-- An arm of a slot that has ended while triggers qualified in it were still to be judged (R126, R159): the disarm instant, and what
the judging of its triggers rests on. -/
structure PastArm where
  gen : Nat
  firstInst : Nat
  disarmAt : Nat
  lateArm : Bool
  matched : Nat
  tLast : Option Nat
  remembered : List (Nat × Nat)
  holdEnd : Option Nat
  holdLeft : Nat
  ready : Option Nat
  lostSince : Nat
  deriving DecidableEq, Repr

/-- A call whose judging waits for the local decision of the instant it was delivered in (R126): the slot, the instant, the call,
the cycle of its delivery. -/
structure HeldCall where
  slot : Nat
  inst : Nat
  call : Call
  gen : Nat
  at_ : Nat := 0
  deriving DecidableEq, Repr

/-- Trigger state beside the TRG registers. -/
structure TrgSt where
  det : Tbl Det := []            -- per detector
  pins : Tbl Pin := []
  outs : Tbl OutPin := []
  marks : List (Nat × Nat) := [] -- time marks: mark and cycle of its tick boundary, newest first (Table 05-2)
  list : Tbl (Tbl (List Nat)) := []  -- lost-trigger lists: per slot, four dwords per index (R137)
  forceAt : Tbl Nat := []        -- cycle, plus 1, at which a force reaches the fabric (R133)
  hold : Tbl (List (Nat × Nat)) := [] -- pending holdoff values of a slot: 0 ticks, 1 samples, 2 count (R136)
  last : Tbl Nat := []           -- last accepted trigger of a slot: tick, quality and fraction, as 2^32 tick + 2^24 quality + fraction
  calls : List HeldCall := []    -- calls delivered and not yet judged, oldest first (R126)
  outOn : Bool := false          -- the TRIG_OUT pins are driven; else they are at high impedance (R140)
  deriving DecidableEq, Repr

/-! ### Records -/

/-- A coded block of a segment (R173 to R179): its index, its place in the data area, its bytes, its K and H. -/
structure Blk where
  u : Int
  off : Nat
  bytes : List Byte
  k : Nat
  h : Nat
  bad : Bool := false      -- a granule it lies in was poisoned, or lost a write, after it was written (Table 06-3 bit 5)
  deriving DecidableEq, Repr

/-- The part of a set that one lane writes (R147). -/
structure Seg where
  wptr : Nat := 0          -- bytes written into the data area since the set began
  blks : List Blk := []    -- blocks held, oldest first
  cut : Option Int := none -- first block index lost to this segment (R161)
  deriving DecidableEq, Repr

/-- A committed record that has not sealed (R155 to R163). -/
structure Rec where
  slot : Nat
  plan : Nat
  set : Nat
  pos : Nat                -- position of the channel among the plan's channels
  ch : Nat
  accession : Nat
  trick : Nat
  trig : Trig
  s : Int                  -- first stored sample (R150)
  e : Int
  tSample : Int            -- trigger sample
  pre : Nat
  post : Nat
  deficit : Nat
  dm1 : Nat
  phi : Nat
  n : Nat                  -- lanes
  base : Int               -- stored-grid sample index less the channel sample index since the model's start
  spt : Nat
  segs : List Seg
  ended : Option Nat := none   -- cycle of RECORD_END
  trunc : Bool := false
  poison : Bool := false
  accumulated : Bool := false
  lateArm : Bool := false
  suspect : Bool := false      -- a marked slice or channel seen while the record was open (R92)
  session : Nat
  gen : Nat                    -- arm of the slot it belongs to
  deriving DecidableEq, Repr

/-- A channel's stored stream in an arm (R149, R171 to R173, R182). -/
structure Stored where
  base : Int               -- sample index of R171 less the channel sample index since the model's start
  dm1 : Nat
  phi : Nat
  g : Nat
  n : Nat                  -- lanes
  start : Int              -- first stored index of the arm
  sa : Int                 -- the later of the beginning and the largest end committed (R150)
  buf : List (List Int)    -- per segment: samples of the block in progress, newest first
  u : List Int             -- per segment: index of the block in progress
  budget : List Nat        -- per segment: R (R183)
  reduced : List Bool      -- per segment: a block of the frame was reduced
  gather : List Seg        -- per segment: what the oldest set without a trigger holds
  skipTo : List Int        -- per segment: stored samples below this index are lost (R82, R23)
  lost : List (Nat × Int × Int) -- per segment, ranges of lost block indices (R23, R82)
  buffer : List (Nat × Int × Int) := []  -- of them, ranges coded and then lost in an elastic buffer (R23)
  deriving DecidableEq, Repr

/-- An active slot (R16, R127 to R135, R152 to R160). Times t are in 2^-23 ns since the model's start. -/
structure Slot where
  plan : Nat
  order : Nat                  -- order of activation (R258)
  armed : Bool := false
  armAt : Nat := 0             -- cycle of the arm instant
  gen : Nat := 0               -- arms since activation
  lateArm : Bool := false
  lateArms : List Nat := []    -- earlier arms that were late, while triggers of theirs are to be committed
  inst : Nat := 0              -- next evaluation instant to be delivered, counted from the model's start
  firstInst : Nat := 0         -- first instant after the arm
  disarmAt : Option Nat := none -- disarm instant whose judging is not over (R159)
  past : List PastArm := []    -- earlier arms whose judging is not over, oldest first (R126, R159)
  leaving : Bool := false      -- being deactivated
  unbound : List (Nat × Nat) := []  -- FILLING sets without a bound trigger, with the arm each serves, oldest first
  fifo : List Trig := []
  streams : Tbl (Option Stored) := []  -- by 64 arm + channel
  raw : Option Raw := none     -- the instant delivered last, not yet judged
  seen : List Seen := []       -- last instants judged since the arm, newest first
  matched : Nat := 0           -- terms that matched at the last instant
  tLast : Option Nat := none
  remembered : List (Nat × Nat) := []  -- accepted triggers: time and end (R132), newest first
  holdEnd : Option Nat := none -- end of a TIME or END_OF_RECORD holdoff
  holdLeft : Nat := 0          -- COUNT holdoff left
  ready : Option Nat := none   -- ready instant not yet used for a retrigger (R118)
  lostSince : Nat := 0
  resG : Tbl Nat := []         -- grant and D - 1 on which each channel's lane reservation stands (R190)
  resD : Tbl Nat := []
  deriving DecidableEq, Repr

/-- A live write of D and φ (field 0) or of G (field 1) and its cycle (R26): the plan, the channel, the values that stood before it,
and those it asks for. -/
structure CodWrite where
  cyc : Nat
  plan : Nat
  field : Nat
  old : Chan
  new : Chan
  wasPending : Bool   -- the plan had a pending value before it
  accepted : Bool
  deriving DecidableEq, Repr

/-- Acquisition state beside the ACQ and COD registers. -/
structure AcqSt where
  lib : Tbl (Option Plan) := []      -- the plan library (R402), with the live D, φ and G of each channel (R189)
  slots : Tbl (Option Slot) := []
  orders : Nat := 0                  -- activations so far
  ring : Tbl Nat := []               -- ring position plus 1 of each plan; 0 is SETS - 1 (R144)
  lastSlot : Tbl Nat := []           -- slot a plan last held, plus 1 (R166)
  current : Tbl Nat := []            -- per channel: plan that held it most recently while active, plus 1 (R189)
  inforce : Tbl Nat := []            -- D - 1, φ and G in force since a plan's last arm: keys 192 plan + 3 channel + 0, 1, 2
  pending : Tbl Bool := []           -- accepted D, φ or G not yet in force, by 64 plan + channel (R189)
  writes : List CodWrite := []       -- live writes of D, φ and G of the present fabric cycle, newest first (R26)
  recs : List Rec := []              -- committed records not yet sealed, in commit order
  books : Tbl Nat := []              -- live trigger books, key 8 slot + book (R168)
  folios : Tbl Nat := []             -- live folio books, key 8 plan + book (R169)
  sealTick : Tbl Nat := []           -- seal tick plus 1 of SEALED folios, key 2^26 plan + folio (R166)
  missed : Tbl Bool := []            -- folios whose deadline has been judged
  accession : Nat := 0               -- next accession number (R156)
  sealAt : Tbl Nat := []             -- cycle of the seal plus 1 of folios SEALED or IN_READOUT, key 2^26 plan + folio (R275)
  holdAfter : Tbl Bool := []         -- IN_READOUT folios with an accepted HOLD (R165)
  folioOps : List (Nat × Nat × Nat) := [] -- folio commands of this cycle: 1 HOLD or 2 RELEASE, plan, folio, oldest first (R165)
  snapAt : Option Nat := none        -- cycle of a book snapshot that still takes items in transit (R170)
  deriving DecidableEq, Repr

/-! ### Accumulation and image -/

/-- The result header of a bank, as its adds make it (Table 08-5). -/
structure Result where
  first : Nat := 0
  last : Nat := 0
  count : Nat := 0
  flags : Nat := 0
  firstTick : Nat := 0
  lastTick : Nat := 0
  sat : Nat := 0
  seq : Nat := 0
  tag : List Byte := []
  deriving DecidableEq, Repr

/-- A selected trigger whose add has not ended (R194, R196). -/
structure Add where
  accession : Nat
  tick : Tick
  bank : Nat
  remote : Bool
  lateArm : Bool
  centres : List (Nat × Int × Int)  -- per channel: channel, c and ρ
  deriving DecidableEq, Repr

/-- Accumulation of a slot beside the ACC registers (R192 to R201). -/
structure Acc where
  banks : Tbl Result := []
  selected : Tbl Nat := []        -- triggers selected into a bank
  adds : List Add := []           -- in order of commit
  lastSpan : Tbl (Option Int) := [] -- per channel: last input sample of the previous selected trigger (test 4)
  seq : Nat := 0                  -- results completed since activation
  lastDone : Option Nat := none   -- bank completed last
  finish : List Nat := []         -- banks that FINISH is to complete, in order of the commands (Table 08-4)
  satBins : List Nat := []        -- bins that have saturated since their bank was begun, as bank times K times L plus bin (R197)
  deriving DecidableEq, Repr

/-- A trigger being imaged on a plane (R204). -/
structure Imaging where
  plane : Nat
  c : Int
  rho : Int
  next : Int        -- next sample to examine
  last : Int        -- last sample to examine
  prevRow : Option Int
  deriving DecidableEq, Repr

/-- Imager plane beside the ACC registers (R203 to R205, R211). -/
structure Plane where
  hits : Tbl Nat := []             -- counts by 2048 row + col
  lastExam : Option Int := none    -- last examined sample of the previous imaged trigger
  jobs : List Imaging := []
  pend : List (Nat × Nat) := []    -- pending live writes: register of the plane and value
  clear : Bool := false
  frames : Nat := 0                -- boundaries since the last decay
  deriving DecidableEq, Repr

/-- A composer frame under way (Table 08-8). -/
structure CompFrame where
  boundary : Nat                  -- cycle of the boundary
  surface : Nat
  deriving DecidableEq, Repr

/-- Accumulator, imager and composer state. -/
structure AccSt where
  slots : Tbl Acc := []
  bins : Tbl Int := []             -- on-die accumulation memory
  planes : Tbl Plane := []
  hist : Tbl (List Int) := []      -- per channel: most recent corrected samples, newest first
  histN : Tbl Nat := []            -- per channel: number, since the model's start, of the sample after the newest
  changed : Bool := false          -- something changed since the previous frame's step 3 (R206)
  frame : Option CompFrame := none
  heldFrame : Option (Tbl (Tbl Nat)) := none -- step 4 waits for the display: the counts after step 2, by plane (R314)
  curve : List (Nat × Nat) := []   -- pending CURVE writes
  nextBoundary : Option Nat := none -- cycle of the next frame boundary with SYNC = 0
  syncDue : Bool := false          -- a display frame has started and its boundary has not been taken (SYNC = 1)
  composed : Bool := false         -- a frame has been completed since the last entry to READY (R277)
  compOn : Bool := false           -- reservation held
  kept : Tbl Acc := []             -- accumulation of plans that hold no slot, for results not yet read (R198)
  keptState : Tbl Nat := []        -- state of their banks, key 2 plan + bank
  deriving DecidableEq, Repr

/-! ### Memory -/

/-- A request waiting for admission (R28): its kind as MEM.ADMIT.KIND, or 6 for a deactivation and 7 for the reservations of an
arm (R190). -/
structure AdmReq where
  kind : Nat
  id : Nat        -- plan, channel or queue
  origin : Nat    -- 0 the device, 1 the host, 2 a scheduler entry, 3 a deal
  entry : Nat     -- the scheduler entry, or the plan of a grant
  val : Nat       -- grant asked for
  deriving DecidableEq, Repr

/-- A request that a DRAM channel has not served yet (R253, R259, R260, R262, R263, R268): its requester, when it came, the device
address, the bytes of a write (`ep`: of one that stores the poison pattern instead) or the length of a BAR2 read, how many bytes of its first burst its stream has already written (R264), and
the move in a plan's folio books that its acknowledgment makes: plan, from, to (R169). -/
structure Waiting where
  chan : Nat
  req : Nat
  at_ : Nat
  addr : Nat
  data : Option (List Byte)
  len : Nat
  ep : Bool := false
  pre : Nat := 0
  ack : Option (Nat × Nat × Nat) := none
  deriving DecidableEq, Repr

/-- Activations of one row of a bank by one requester in the refresh window (R262). -/
structure RowActs where
  bank : Nat          -- bank key
  row : Nat
  req : Nat
  count : Nat
  deriving DecidableEq, Repr

/-- A reservation in MB/s: fractions whose sum it is (R255). -/
abbrev Resv := List (Nat × Nat)

/-- Memory system state beside the MEM registers. -/
structure MemSt where
  ways : List Nat := []           -- in-service channels at LOAD, ascending (R249)
  capg : Nat := 0                 -- granules of a channel's used capacity
  bytes : Tbl Byte := []          -- DRAM contents by 2^40 channel + byte address within the channel; unlisted is 0
  poison : Tbl Bool := []         -- bursts whose poison state differs from what LOAD left, by 2^34 channel + burst
  resv : Tbl Resv := []           -- 4k lanes, 4k + 1 overhead, 4k + 2 accumulation of slot k; 32 display; 33 composer; 64 + q
  reqs : List AdmReq := []        -- waiting requests
  held : List Waiting := []       -- requests not served yet, in order of arrival
  open_ : Tbl Nat := []           -- open row, plus 1, by bank key (R254)
  acts : List RowActs := []       -- activations in the present refresh window (R262)
  actWin : Nat := 0               -- its number
  raa : Tbl Nat := []             -- activations since the last RFM, by bank key (R262)
  meters : Tbl (Option (Nat × Nat)) := []  -- rate meters, 2048 channel + requester: level in 1/1000 byte and cycle; none is full
  phyLost : Tbl (Option Nat) := []  -- cycle at which a channel's PHY lost lock
  ue : Tbl Nat := []              -- uncorrectable errors of rank 4c + r since LOAD
  ceTimes : Tbl (List Nat) := []  -- corrected errors of the last second, cycles
  paTimes : Tbl (List Nat) := []  -- parity errors of the last second, cycles
  failing : Tbl Bool := []
  spareUsed : Tbl Bool := []      -- the channel's spare is used up
  repl : Tbl Nat := []            -- rank that replaces rank 4c + r, plus 1
  postponed : Tbl Nat := []       -- refreshes postponed on rank 4c + r
  burst : Tbl Nat := []           -- make-up burst on rank 4c + r: 0 none, 1 waits for a pause, 2 running
  pause : Tbl Bool := []          -- a retraining pause runs on the channel
  burstAt : Tbl Nat := []         -- cycle, plus 1, at which the burst of rank 4c + r started (R259)
  throttled : List (Nat × Nat × Nat) := [] -- bank key, requester, cycle at which the deferral ends
  retiredAt : Tbl Nat := []       -- cycle, plus 1, at which a channel's spare was last taken (R272)
  stuck : Tbl Bool := []          -- the channel's migration stopped because its target failed (R270)
  rowAt : Tbl Nat := []           -- cycle at which a channel's last migration row was done
  errAddr : Tbl Nat := []         -- device address of the last uncorrectable error
  spd : List Byte := []           -- SPD contents of the image, from which the controller takes its timing (Table 17-9)
  deriving DecidableEq, Repr

/-! ### Ensemble -/

/-- An internal ARM or DISARM of a deal (R236). -/
structure DealAct where
  id : Nat
  deal : Nat
  op : Nat            -- 0 ARM, 1 DISARM
  plan : Nat
  tick : Tick
  lateBy : Nat := 0
  from_ : Option Nat := none -- cycle of its dispatch, while it waits for its plan (R47)
  started : Bool := false  -- an ARM that waits for admission
  deriving DecidableEq, Repr

/-- A call pair or an ordinary message that a port sends (R218, R222). -/
structure TxItem where
  call : Bool                -- a call pair, else an ordinary message
  forwarded : Bool
  at_ : Nat                  -- when it can leave, in 0.2 ns
  len : Nat                  -- blocks
  more : Bool := false       -- a forwarded call whose second copy has yet to come
  token : Option (Nat × Nat × Nat × Nat) := none  -- a TOKEN, stamped as it leaves: OP, SEQ, T1 and T2 (R228)
  outs : List Out            -- what leaves the port
  deriving DecidableEq, Repr

/-- A REPORT the dealer has received (R232). -/
structure Report where
  serial : List Byte
  addr : Nat
  stored : Bool
  hopsA : Nat
  hopsB : Nat
  deriving DecidableEq, Repr

/-- An address the dealer assigns to another unit (R232). -/
structure Assign where
  serial : List Byte
  addr : Nat
  acked : Bool
  deriving DecidableEq, Repr

/-- Ensemble state beside the ENS registers (chapter 9). -/
structure EnsSt where
  callSeen : Tbl (List Nat) := []    -- last 64 call SEQ values accepted, by source, newest first (R223)
  msgSeen : Tbl (List Nat) := []     -- last 64 message SEQ values, by source
  enumSeen : List (List Byte × List Nat) := []  -- last SEQ values of ENUM messages, by SERIAL
  pend : Tbl Nat := []               -- pending calls: cycle plus 1, by 2^15 source + SEQ (R224)
  lost : Tbl Bool := []              -- lost calls, by 2^15 source + SEQ
  firstIn : Tbl Nat := []            -- per port: first copy of the present call pair: 1 intact, 2 failed (R224)
  fwd : Tbl Nat := []                -- per port: the first copy of the present call pair was not forwarded out of it, was, or was dropped (R218)
  fwdMsg : Tbl (List Byte) := []     -- per port: the last message received intact, but for COPY and CRC (R218)
  deliver : List (Call × Nat) := []  -- accepted calls and the cycle of their check (R240)
  firstAt : Tbl Nat := []            -- per port: cycle, plus 1, of the first copy of the present call pair (R224)
  tx : Tbl (List TxItem) := []       -- per port: call pairs and messages that wait to be sent, oldest first (R218)
  callEnd : Tbl Nat := []            -- per port: end of the call pair being sent, in 0.2 ns
  msgEnd : Tbl Nat := []             -- per port: end of the ordinary message being sent, in 0.2 ns
  runLen : Tbl Nat := []             -- per port: blocks sent since the last IDLE (R219)
  skew : Tbl Int := []               -- per port: fill of the elastic buffer from its middle, in 2 × 10^-4 ns × ppm (R219)
  dealTick : Tbl Nat := []           -- by plan: tick, plus 1, of the last ARM of a deal (R243)
  msgSeq : Nat := 0                  -- SEQ of the next ordinary message
  deals : List DealAct := []         -- internal arms and disarms committed
  dealIds : Nat := 0
  lockAt : Tbl Nat := []             -- per port: cycle, plus 1, of block lock
  exch : Tbl Nat := []               -- per port: consecutive TOKEN exchanges completed in TRAINING
  asked : Tbl (Option Nat) := []     -- per port: T1 of the REQUEST not yet answered, in 2^-24 tick modulo 2^56
  tokAt : Tbl Nat := []              -- per port: cycle, plus 1, of the last REQUEST sent (R225)
  means : Tbl (List (Int × Int)) := [] -- per port: δ and θ in fs of the last 16 exchanges, newest first (R228)
  startAt : Nat := 0                 -- cycle of the reset (R223)
  restart : Bool := true             -- RESTART is set and no call is sent
  firstUp : Option Nat := none       -- cycle at which the first port came UP (R234)
  acting : Bool := false             -- the wait of R234 has ended with this unit acting
  demoted : Bool := false            -- acts as a member until reset
  dealerGen : Nat := 0               -- GEN of the acting dealer's last STAT
  own : Nat := 0                     -- own GEN as dealer
  dealerLost : Option Nat := none    -- cycle at which the acting dealer was declared lost (R238)
  dealerSeen : Option Nat := none    -- cycle of the last STAT of the acting dealer
  statSeq : Tbl Nat := []            -- SEQ, plus 1, of the last STAT by address
  statAt : Tbl Nat := []             -- cycle, plus 1, of the last STAT by address
  flagsOf : Tbl Nat := []            -- port-down flags of the last STAT by address
  portChange : Option Nat := none    -- cycle at which a STAT reported a port change (R233)
  sentAt : Option Nat := none        -- cycle of the last STAT sent
  lastCall : Tbl Nat := []           -- newest call SEQ, plus 1, known of each source
  enumDue : Bool := false            -- an enumeration is owed: READY with AUTO_ENUM, or a takeover (R233)
  scanSrc : Nat := 0                 -- dealer whose SCAN is answered
  scanAt : Option Nat := none        -- cycle at which SCAN was first received or sent
  scanA : Nat := 0                   -- links crossed by the SCAN copies received on port A
  scanB : Nat := 0
  closed : Bool := false             -- the dealer's own SCAN came back: a closed ring
  reported : Bool := false
  reports : List Report := []
  assigns : List Assign := []
  assigned : Bool := false           -- step 3 of Table 09-6 is done
  assignRound : Nat := 0             -- rounds of ASSIGN sent
  assignAt : Nat := 0                -- cycle of the last round
  assignDue : List Assign := []      -- ASSIGNs of the round not yet sent, in order (R232)
  units : Nat := 0                   -- U of the enumeration under way
  timeSent : Option Tick := none     -- expected tick for which TIME was sent (R230)
  deriving DecidableEq, Repr

/-! ### Readout -/

/-- A run of source bytes of an item: device DRAM, bytes held by the engine, or bins of the accumulation memory. -/
inductive Piece where
  | mem (addr len : Nat)
  | imm (bytes : List Byte)
  | die (base n : Nat)
  deriving DecidableEq, Repr

/-- A descriptor as read (Table 11-1). -/
structure Desc where
  src : Nat
  dst : Nat
  len : Nat
  flags : Nat
  tag : Nat
  link : Nat
  deriving DecidableEq, Repr

/-- The item a queue is delivering. -/
structure Item where
  pieces : List Piece
  len : Nat
  first : Nat         -- what FIRST of the entry takes from it
  flags : Nat
  at_ : Nat           -- its place in the destination buffer
  off : Nat := 0      -- bytes delivered
  torn : Bool := false
  deriving DecidableEq, Repr

/-- A request to the host, or a wait for memory, that has not been answered: 0 descriptor fetch, 1 LINK re-read, 2 the half
read-back, 3 the read-back at the end (R282, R294). -/
structure HostReq where
  kind : Nat
  addr : Nat          -- its address, length and byte enables
  len : Nat
  be : Nat
  tries : Nat := 0
  again : Nat := 0    -- cycle at which it was issued, or is issued again
  due : Bool := false -- it failed and has not been issued again yet
  lost : Bool := false -- it could not be issued, and can only time out
  deriving DecidableEq, Repr

/-- A readout queue beside its registers (R274 to R300). -/
structure Queue where
  cur : Nat := 0                  -- address of the current descriptor
  curDev : Bool := false
  desc : Option Desc := none
  taken : List Nat := []          -- folios or banks taken under it
  takenLen : Nat := 0
  item : Option Item := none
  fill : Nat := 0                 -- end of the last item in the destination buffer
  bytes : Nat := 0
  items : Nat := 0
  flags : Nat := 0
  first : Nat := 0
  poisoned : Nat := 0
  torn : Bool := false
  flushed : Bool := false
  paceEnd : Bool := false
  ended : Bool := false           -- takes nothing more
  endFlush : Bool := false        -- ends with FLUSHED after the item in progress (R290)
  done : Bool := false            -- step 3 of R282 has been made
  halfDone : Bool := false        -- the half read-back has been issued
  lastAddr : Nat := 0             -- last byte written
  lastBe : Nat := 15              -- byte enables of the last dword's last write (R282)
  waits : List HostReq := []      -- requests outstanding, oldest first
  entry : Option Bool := none     -- an entry waits for ring space; true for HALF (R284)
  entryNext : Bool := false       -- the FULL read-back came back while a HALF entry waited
  pacing : Bool := false          -- pacing state on
  since : Option Nat := none      -- cycle at which the level became non-zero
  flush : Option (List Nat) := none -- items of the flush in effect not yet taken
  flushTotal : Nat := 0
  flushDone : Nat := 0
  flushItems : Nat := 0           -- flush items under the current descriptor
  requested : Nat := 0
  written : Nat := 0
  done_ : Nat := 0                -- items completed
  abandoned : Nat := 0
  haltBytes : Nat := 0            -- pending bytes of the descriptor a halt abandoned (R297)
  asked : Bool := false           -- the guarantee has been requested (R288)
  startAt : Nat := 0              -- cycle of START
  credit : Nat := 0               -- guarantee meter in 1/1000 byte
  creditAt : Nat := 0
  turn : Nat := 0                 -- number of its last burst
  stopAt : Nat := 0               -- cycle of its last STOP, plus 1 (R293)
  deriving DecidableEq, Repr

/-- Readout engine state. -/
structure RdoSt where
  q : Tbl Queue := []
  bursts : Nat := 0               -- bursts issued since LOAD
  deriving DecidableEq, Repr

/-! ### Display -/

/-- Display state beside the DSP registers (chapter 12). -/
structure DspSt where
  pal : Tbl Nat := []            -- palette in use, entries as DSP.PALETTE holds them (R307)
  dirty : Bool := false          -- a byte of a surface or an overlay buffer written since the previous frame start (R311)
  enterReq : Bool := false       -- a PSR_ENTER request is pending (R312)
  exitReq : Bool := false        -- exit is requested
  admitted : Bool := false       -- the reservation is held
  hpd : Bool := true             -- EDP_HPD is high
  tries : Nat := 0               -- failed training attempts at the image's rate
  rate : Nat := 0                -- rate being trained
  sent : Nat := 0                -- the frame under way: 0 not sent, 1 sent, 2 sent to be captured, 3 sent as the end of PSR
  enterAt : Nat := 0             -- cycle of the last PSR_ENTER request, plus 1 (Table 12-3)
  exitAt : Nat := 0              -- cycle of the last PSR_EXIT request, plus 1 (Table 12-3)
  last : Option (Nat × Nat × Nat) := none -- the last pixel sent to the panel (R310)
  latched : Bool := false        -- a surface has been latched since the entry to READY (R314)
  under : List (Nat × Nat) := [] -- lines of the frame under way with an underrun, and the first pixel missing (R310)
  deriving DecidableEq, Repr

/-- A sequencer (R320 to R330). -/
structure SeqUnit where
  st : Nat := 0                  -- SEQ.UNIT_STATE.STATE, live: 0 RESTING, 1 BOUND, 2 STOPPED, 3 WITHDRAWN, 4 TRAINING
  lane : Nat := 0                -- lane bound
  pc : Nat := 0                  -- micro-address of the next microinstruction
  stack : List Nat := []         -- return addresses, newest first (R325)
  ira : Nat := 0                 -- interrupt return address (R326)
  handler : Nat := 0             -- 0 none, 1 machine check, 2 trap, 3 interrupt
  src : Nat := 0                 -- number of the trap or the interrupt source being handled
  bounds : Nat := 0              -- boundaries since the handler was entered (R328, R329)
  pend : Nat := 0                -- pending interrupt sources, a bit each (R327)
  traps : Nat := 0               -- pending traps, a bit each
  last : Option Nat := none      -- interrupt source served last (R328)
  mcAt : Option Nat := none      -- cycle of the machine check that stopped it
  checks : Nat := 0              -- machine checks of the training sequencer since LOAD (R333)
  deriving DecidableEq, Repr

/-- A takeover under way: a lane whose unit stopped on a machine check (R82, R331). -/
structure Takeover where
  unit : Nat                          -- the stopped unit
  at_ : Nat                           -- cycle of detection
  streams : List (Nat × Nat × Int)    -- slot, stream key and first block lost of each stream the lane served
  bound : Option Nat := none          -- cycle of the binding to the resting unit
  lost : List (Nat × Nat × Int × Int) := [] -- slot, stream key, first and last block lost of each stream (R331)
  deriving DecidableEq, Repr

/-- Sequencer state beside the SEQ registers (chapter 13). -/
structure SeqSt where
  units : Tbl SeqUnit := []
  reqAt : Tbl Nat := []          -- cycle, plus 1, at which interrupt source i of unit u was requested, by 8 u + i (R328)
  words : Tbl Nat := []          -- patch RAM words loaded (R320, R336)
  badWords : Tbl Nat := []       -- uncorrectable patch words: cycle, plus 1, of the first fetch (R323)
  gaps : Tbl (Option Takeover) := []  -- by lane
  lostSpans : Tbl (List (Nat × Nat)) := [] -- per channel: samples lost between a detection and its binding, first and after the last (R199)
  training : Nat := 0            -- channels whose retraining pause the training sequencer runs, a bit each (R317, R333)
  deriving DecidableEq, Repr

/-! ### The device -/

/-- The whole machine. -/
structure State where
  regs : Tbl Nat := []        -- the register file: field values that differ from their reset values, by field address
  tick : Tick := 0            -- the tick count (R32)
  cyc : Nat := 0              -- fabric cycle within the tick, 0 to 9 (log entry 6)
  now : Nat := 0              -- fabric cycles since the model's start; never jumps
  freeCount : Nat := 0        -- free values taken so far (the model's own, log entry 2)
  time : TimeSt := {}
  sched : SchedSt := {}
  nv : NvSt := {}
  mgt : MgtSt := {}
  sec : SecSt := {}
  evt : EvtSt := {}
  host : HostSt := {}
  dev : DevSt := {}
  bst : BstSt := {}
  cnv : CnvSt := {}
  cal : CalSt := {}
  trg : TrgSt := {}
  acq : AcqSt := {}
  acc : AccSt := {}
  ens : EnsSt := {}
  mem : MemSt := {}
  rdo : RdoSt := {}
  dsp : DspSt := {}
  seq : SeqSt := {}
  clearedAt : Nat := 0        -- cycle, plus 1, of the last CLR_COUNTS, 0 before one (R85, R107, R142, R213, R244, R273, R301, R338)
  cleared : List Nat := []    -- the counters that the CLR_COUNTS of that cycle have cleared, by field address
  out : List Out := []        -- what has left the device, newest first
  pending : List Instr := []  -- commands waiting, first in first out
  deriving DecidableEq, Repr

/-- The machine right after a power-on reset, cause 0: every register at the Reset column's value (an empty register file but for
DEV.STARTUP, whose first step is in progress), the tick count 0, mode LOAD, nothing armed, nothing listed in DRAM, the START entry
of this LOAD in the staging buffer (R395), an empty queue. Values the spec does not give are named in log entries 1, 2, 3 and 7. -/
def State.reset : State :=
  { regs := [(DEV.STARTUP.STAGE.addr, 1)]
    mgt := { staged := [{ seq := 0, typ := 0, source := 0, tick := 0, flags := 0, data := List.replicate 8 0, chain := [], stagedAt := 0 }] } }

end Sys2Proof.Machine
end

