-- ==== Sys2Proof/Machine/Ops.lean ====
section
/-!
DEFINITION. The named operations: sparse tables, register fields, time, bytes, DRAM bytes. Every read and write of a register
field goes through `State.fld` and `State.setF`.
-/

namespace Sys2Proof.Machine

/-! ### Sparse tables -/

/-- The value at a key: the first listed, else the default. -/
def Tbl.get {α : Type} (d : α) : Tbl α → Nat → α
  | [], _ => d
  | (k, v) :: t, key => if k = key then v else Tbl.get d t key

/-- Removal of every entry at a key. -/
def Tbl.erase {α : Type} (t : Tbl α) (key : Nat) : Tbl α := t.filter fun e => e.1 != key

/-- Insertion in key order. -/
def Tbl.insert {α : Type} (key : Nat) (v : α) : Tbl α → Tbl α
  | [] => [(key, v)]
  | (k, w) :: t => if key < k then (key, v) :: (k, w) :: t else (k, w) :: Tbl.insert key v t

/-- The table with `v` at `key`: listed unless it is the default. -/
def Tbl.set {α : Type} [DecidableEq α] (d : α) (t : Tbl α) (key : Nat) (v : α) : Tbl α :=
  if v = d then Tbl.erase t key else Tbl.insert key v (Tbl.erase t key)

/-- Keys strictly rising. -/
def Tbl.sorted {α : Type} : Tbl α → Bool
  | [] => true
  | (k, _) :: t => t.all (fun e => decide (k < e.1)) && Tbl.sorted t

/-- The canonical form of a table: keys strictly rising, no entry equal to the default. -/
def Tbl.wf {α : Type} [DecidableEq α] (d : α) (t : Tbl α) : Bool :=
  Tbl.sorted t && t.all fun e => decide (e.2 ≠ d)

/-! ### Register fields -/

/-- The value of a register field (R6: the last value written, or the reset value). -/
def State.fld (s : State) (f : Fld) : Nat := Tbl.get f.reset s.regs f.addr

/-- A register field written with a value, which wraps to its width (R11). -/
def State.setF (s : State) (f : Fld) (v : Nat) : State :=
  { s with regs := Tbl.set f.reset s.regs f.addr (v % 2 ^ f.width) }

/-- A CLR_COUNTS has cleared the counter in the present fabric cycle: an increment of this cycle is discarded (R85, R107, R142, R213,
R244, R273, R301, R338, R357, R391, R423). -/
def State.justCleared (s : State) (f : Fld) : Bool := s.clearedAt == s.now + 1 && s.cleared.contains f.addr

/-- A counter raised by `n`, saturating at its width; a clear in the same fabric cycle takes precedence. -/
def State.bumpF (s : State) (f : Fld) (n : Nat) : State :=
  { s with regs := if s.justCleared f then s.regs else (s.setF f (min (s.fld f + n) (2 ^ f.width - 1))).regs }

/-- A counter raised by `n`, wrapping at its width; a clear in the same fabric cycle takes precedence. -/
def State.wrapF (s : State) (f : Fld) (n : Nat) : State :=
  { s with regs := if s.justCleared f then s.regs else (s.setF f (s.fld f + n)).regs }

/-- A one-bit field as a truth value. -/
def State.bit (s : State) (f : Fld) : Bool := s.fld f == 1

/-- A one-bit field written. -/
def State.setB (s : State) (f : Fld) (b : Bool) : State := s.setF f (if b then 1 else 0)

/-- A signed field as an integer, two's complement in its width. -/
def State.fldS (s : State) (f : Fld) : Int :=
  let v := s.fld f
  if v < 2 ^ (f.width - 1) then (v : Int) else (v : Int) - 2 ^ f.width

/-- An integer in two's complement of `w` bits. -/
def toTwos (w : Nat) (i : Int) : Nat := (i % (2 : Int) ^ w).toNat

/-- The `w` low bits of `v` read as a signed integer. -/
def ofTwos (w v : Nat) : Int :=
  if v % 2 ^ w < 2 ^ (w - 1) then ((v % 2 ^ w : Nat) : Int) else ((v % 2 ^ w : Nat) : Int) - 2 ^ w

/-- `i` saturated to `lo` to `hi`. -/
def satI (i lo hi : Int) : Int := max lo (min i hi)

/-- A signed field written, saturating. -/
def State.setS (s : State) (f : Fld) (i : Int) : State :=
  s.setF f (toTwos f.width (satI i (-(2 ^ (f.width - 1))) (2 ^ (f.width - 1) - 1)))

/-- Fields written one after another with 0. -/
def State.clearFs (s : State) (fs : List Fld) : State := fs.foldl (fun s f => s.setF f 0) s

/-- CLR_COUNTS: the counters are cleared, and an increment of the same fabric cycle will find them so. -/
def State.clearCounts (s : State) (fs : List Fld) : State :=
  { s.clearFs fs with clearedAt := s.now + 1
                      cleared := fs.map Fld.addr ++ (if s.clearedAt = s.now + 1 then s.cleared else []) }

/-- Bit `i` of a value. -/
def bitOf (v i : Nat) : Bool := v / 2 ^ i % 2 == 1

/-- `v` with bit `i` made 1. -/
def withBit (v i : Nat) : Nat := if bitOf v i then v else v + 2 ^ i

/-- `v` without bit `i`. -/
def withoutBit (v i : Nat) : Nat := if bitOf v i then v - 2 ^ i else v

/-- The number made of the bits of `v` that are not in `m`, over `w` bits. -/
def clearBits (w v m : Nat) : Nat :=
  (List.range w).foldl (fun a i => if bitOf m i then withoutBit a i else a) v

/-! ### Bytes, little-endian (R9) -/

/-- `n` bytes of a number, least significant first (R9). -/
def le : Nat → Nat → List Byte
  | 0, _ => []
  | n + 1, v => BitVec.ofNat 8 v :: le n (v / 256)

/-- The number a little-endian byte list spells (R9). -/
def ofLe : List Byte → Nat
  | [] => 0
  | b :: t => b.toNat + 256 * ofLe t

/-- `len` bytes of a list from an offset. -/
def slice (bs : List Byte) (off len : Nat) : List Byte := (bs.drop off).take len

/-- A little-endian number of `len` bytes at an offset of a byte list. -/
def num (bs : List Byte) (off len : Nat) : Nat := ofLe (slice bs off len)

/-- A byte list filled with zeros, or cut, to a length. -/
def padTo (bs : List Byte) (len : Nat) : List Byte := (bs ++ List.replicate (len - bs.length) 0).take len

/-- One step of a CRC over a byte, most significant bit first, with a polynomial of `w` bits. -/
def crcByteMsb (w poly crc : Nat) (b : Byte) : Nat :=
  (List.range 8).foldl (fun c i =>
    let top := c / 2 ^ (w - 1) % 2
    let c' := c * 2 % 2 ^ w
    if (top + b.toNat / 2 ^ (7 - i) % 2) % 2 = 1 then (Nat.xor c' poly) else c') crc

/-- CRC-16 of the UART frames: polynomial 0x1021, initial value 0xFFFF, no reflection, no final inversion (R342). -/
def crc16 (bs : List Byte) : Nat := bs.foldl (crcByteMsb 16 0x1021) 0xFFFF

/-- One step of a reflected CRC over a byte. -/
def crcByteLsb (poly crc : Nat) (b : Byte) : Nat :=
  (List.range 8).foldl (fun c _ => if c % 2 = 1 then Nat.xor (c / 2) poly else c / 2) (Nat.xor crc b.toNat)

/-- CRC-32 as IEEE 802.3 defines it (R398). -/
def crc32 (bs : List Byte) : Nat :=
  Nat.xor (bs.foldl (crcByteLsb 0xEDB88320) 0xFFFFFFFF) 0xFFFFFFFF

/-! ### Time -/

/-- Tick `t` is due or past at count `c` (R33). -/
def duePast (c t : Tick) : Bool := decide ((c - t).toNat < 2 ^ 47)

/-- The signed distance from tick `b` to tick `a`, modulo the count's wrap. -/
def tickDiff (a b : Tick) : Int := ofTwos 48 (a - b).toNat

/-- A tick moved by a signed number of ticks. -/
def tickAdd (t : Tick) (d : Int) : Tick := t + BitVec.ofInt 48 d

/-- Fabric cycles in a tick (log entry 6). -/
def cyclesPerTick : Nat := 10

/-- Cycles per microsecond. -/
def cyclesPerUs : Nat := 1000

/-- One fabric cycle passes. -/
def State.advance (s : State) : State :=
  if s.cyc + 1 < cyclesPerTick then { s with cyc := s.cyc + 1, now := s.now + 1 }
  else { s with cyc := 0, now := s.now + 1, tick := s.tick + 1 }

/-- A fresh free value (log entry 2). -/
def State.free (s : State) : Nat × State := (Config.freeValue s.freeCount, { s with freeCount := s.freeCount + 1 })

/-! ### Modes and blocks -/

/-- Mode codes, Table 17-1 (R392). -/
def modeLoad : Nat := 0
def modeCalibrate : Nat := 1
def modeReady : Nat := 2
def modeAcquire : Nat := 3
def modeDormant : Nat := 4
def modeSafe : Nat := 5

/-- The mode DEV.MODE shows. -/
def State.mode (s : State) : Nat := s.fld DEV.MODE.MODE

/-- READY or ACQUIRE. -/
def State.running (s : State) : Bool := s.mode == modeReady || s.mode == modeAcquire

/-- READY or ACQUIRE, and no DORMANT request has been accepted: dispatch, arms, activations and deals go on (R29, R52, Table 17-6
entry 1; log entry 85). -/
def State.active (s : State) : Bool := s.running && !s.dev.entering && !s.dev.dormantDue

/-- CALIBRATE, READY or ACQUIRE: the modes in which every block is served (Table 19-3). -/
def State.serving (s : State) : Bool := s.mode == modeCalibrate || s.running

/-- The block a BAR0 offset lies in is one of DEV, MGT, SEC, EVT, which every mode serves (Table 19-3, R407). -/
def alwaysBlock (off : Nat) : Bool :=
  off / 0x10000 == 0 || off / 0x10000 == 14 || off / 0x10000 == 15 || off / 0x10000 == 17

/-- An AER uncorrectable error status bit is set (R431). -/
def State.aer (s : State) (n : Nat) : State := { s with host := { s.host with aer := withBit s.host.aer n } }

/-- The shortest completion timeout, in cycles, of a Completion Timeout Value of Device Control 2 (log entry 109). -/
def completionTimeout (code : Nat) : Nat :=
  let us := if code = 2 then 1000 else if code = 5 then 16000 else if code = 6 then 65000 else if code = 9 then 260000
    else if code = 10 then 1000000 else if code = 13 then 4000000 else if code = 14 then 17000000 else 50
  us * cyclesPerUs

/-- The host reaches the registers: not in reset, link up, memory space enabled, not in D3hot (Table 19-3, R433). -/
def State.hostUp (s : State) : Bool :=
  !s.dev.held && decide (s.fld DEV.HOST_STATUS.WIDTH ≠ 0) && !s.bit DEV.HOST_STATUS.D3HOT && s.host.mse

/-- A write to the BAR0 offset takes effect in the present mode (Table 19-3, R407, R429). -/
def State.served (s : State) (off : Nat) : Bool := s.hostUp && (alwaysBlock off || s.serving)

/-- Prepend to what has left the device. -/
def State.emit (s : State) (o : Out) : State := { s with out := o :: s.out }

end Sys2Proof.Machine
end

