-- ==== Sys2Proof/Machine/Log.lean ====
section
/-!
DEFINITION. The event log: staging, the rate limit, commit with the hash chain and the seals (R350 to R353); and the raising
of an event: status, count, detail, MSI-X, log entry (R411 to R414).
-/

namespace Sys2Proof.Machine

/-! ### Staging and commit -/

/-- Bytes 0 to 23 of an entry as the log memory stores them (R351). -/
def LogEntry.head (e : LogEntry) : List Byte :=
  le 6 e.seq ++ le 1 e.typ ++ le 1 e.source ++ le 6 e.tick.toNat ++ le 1 e.flags ++ le 1 0 ++ padTo e.data 8

/-- All 32 bytes of a committed entry (R351). -/
def LogEntry.bytes (e : LogEntry) : List Byte := e.head ++ padTo e.chain 8

/-- The 160 bytes of a seal record (R352). -/
def SealRec.bytes (r : SealRec) : List Byte :=
  le 4 r.number ++ le 6 r.lastSeq ++ le 6 0 ++ padTo r.hash 48 ++ padTo r.sig 96

/-- The SEQ the next staged entry takes: numbering runs on from the committed entries through the staged ones (R351). -/
def State.nextStaged (s : State) : Nat := s.nv.nextSeq + s.mgt.staged.length

/-- One entry appended to the staging buffer, whatever the rate (R353). -/
def State.stageRaw (s : State) (typ source flags : Nat) (data : List Byte) : State :=
  let e : LogEntry :=
    { seq := s.nextStaged, typ := typ, source := source, tick := s.tick, flags := flags, data := padTo data 8, chain := []
      stagedAt := s.now }
  { s with mgt := { s.mgt with staged := s.mgt.staged ++ [e] } }

/-- The FLAGS of an entry: bit 0 fault, bit 1 HOLDOVER at the tick (R351). -/
def State.logFlags (s : State) (fault : Bool) : Nat :=
  (if fault then 1 else 0) + (if s.bit TIME.STATUS.HOLDOVER then 2 else 0)

/-- Cycles of log rate one entry costs: 10 000 entries a second (R353). -/
def logCost : Nat := 100000

/-- The rate allowance at the present cycle: it refills with time up to a burst of 64 entries (R353). -/
def State.logCredit (s : State) : Nat := min (64 * logCost) (s.mgt.credit + (s.now - s.mgt.creditAt))

/-- An entry may be staged: the rate allows it and the 64-entry buffer has room (R353). -/
def State.canStage (s : State) (n : Nat) : Bool :=
  decide (n * logCost ≤ s.logCredit) && decide (s.mgt.staged.length + n ≤ 64)

/-- The rate allowance for `n` entries is spent. -/
def State.spendLog (s : State) (n : Nat) : State :=
  { s with mgt := { s.mgt with credit := s.logCredit - n * logCost, creditAt := s.now } }

/-- An entry dropped and counted (R353). -/
def State.dropEntry (s : State) : State :=
  let s := s.bumpF MGT.LOG_STATUS.DROPPED 1
  { s with mgt := { s.mgt with dropPend := s.mgt.dropPend + 1 } }

/-- The DROPPED entry owed, staged when the rate next allows it (R353). -/
def State.stageDropped (s : State) : State :=
  if s.mgt.dropPend ≠ 0 ∧ s.canStage 1 then
    let s' := (s.spendLog 1).stageRaw 5 0 (s.logFlags false) (le 4 s.mgt.dropPend)
    { s' with mgt := { s'.mgt with dropPend := 0 } }
  else s

/-- An entry staged under the rate limit, or dropped; the answer says whether it was dropped as the first of a run. -/
def State.stageLimited (s : State) (typ source flags : Nat) (data : List Byte) : Bool × State :=
  let s := s.stageDropped
  if s.canStage 1 then (false, (s.spendLog 1).stageRaw typ source flags data)
  else
    let s' := s.dropEntry
    (!s.mgt.dropRun, { s' with mgt := { s'.mgt with dropRun := true } })

/-- The payload of a record cut into the DATA of a first entry and of CONT entries, 8 bytes each (R371). -/
def chunks8 : Nat → List Byte → List (List Byte)
  | 0, _ => []
  | n + 1, bs => if bs.isEmpty then [] else bs.take 8 :: chunks8 n (bs.drop 8)

/-- Event ring size in entries (R350). -/
def ringSize : Nat := 163840

/-- One staged entry committed: its chain value, its place in the ring over the oldest, its seal when one is due
(R352, R353). -/
def NvSt.commit (nv : NvSt) (e : LogEntry) : NvSt :=
  let h := Config.sha384 (nv.chainH ++ e.head)
  let ring := Tbl.insert e.seq { e with chain := h.take 8 } (Tbl.erase nv.ring (e.seq - ringSize))
  let ring := if e.seq < ringSize then Tbl.insert e.seq { e with chain := h.take 8 } nv.ring else ring
  let k := e.seq / 256
  let body := le 4 k ++ le 6 e.seq ++ le 6 0 ++ h
  let seals :=
    if e.seq % 256 = 255 then
      let kept := if 1638 ≤ k then Tbl.erase nv.seals (k - 1638) else nv.seals
      Tbl.insert k { number := k, lastSeq := e.seq, hash := h, sig := Config.signId body } kept
    else nv.seals
  { nv with ring := ring, chainH := h, nextSeq := e.seq + 1, seals := seals }

/-- LOG_NEWEST and LOG_OLDEST as the event ring is (R353). -/
def State.showLog (s : State) : State :=
  (s.setF MGT.LOG_NEWEST_LO.SEQ (s.nv.nextSeq - 1)).setF MGT.LOG_OLDEST_LO.SEQ (s.nv.nextSeq - ringSize)

/-- The oldest `n` staged entries committed; LOG_NEWEST and LOG_OLDEST follow, and a committed DROPPED entry with a count
ends the run of drops (R353). -/
def State.commitStaged (s : State) : Nat → State
  | 0 => s
  | n + 1 =>
    match s.mgt.staged with
    | [] => s
    | e :: rest =>
      let nv := s.nv.commit e
      let ended := e.typ == 5 && ofLe (e.data.take 4) != 0
      let s := State.showLog { s with nv := nv, mgt := { s.mgt with staged := rest, dropRun := s.mgt.dropRun && !ended } }
      s.commitStaged n

/-- At least `n` staged entries committed, and the rest of the record that the last of them belongs to: a record of several entries is
committed as a unit (R351, R353). -/
def State.commitUnits (s : State) (n : Nat) : State :=
  s.commitStaged (if n = 0 then 0 else n + ((s.mgt.staged.drop n).takeWhile fun e => e.typ == 10).length)

/-- Every staged entry committed: on a device reset, on entry to DORMANT, on a read (R353). -/
def State.commitAll (s : State) : State := s.commitStaged s.mgt.staged.length

/-! ### Records that the rate does not drop (R351, R371, R376) -/

/-- The 64-entry buffer has room for `n` more entries: it is committed in groups of 8 as it fills (R353). -/
def State.makeRoom (s : State) : Nat → Nat → State
  | 0, _ => s
  | fuel + 1, n => if s.mgt.staged.length + n ≤ 64 ∨ s.mgt.staged = [] then s else (s.commitUnits 8).makeRoom fuel n

/-- Filler DROPPED entries with a count of 0 (R351, R371). -/
def State.stageFiller (s : State) : Nat → State
  | 0 => s
  | n + 1 => ((s.makeRoom 8 1).stageRaw 5 0 (s.logFlags false) (le 4 0)).stageFiller n

/-- The EVENT entries at the end of the staging buffer, which a session record goes ahead of when it meets the rate limit (R376). -/
def State.stagedEvents (s : State) : List LogEntry := (s.mgt.staged.reverse.takeWhile fun e => e.typ == 1).reverse

/-- Entries staged again behind a record that has gone ahead of them: their SEQ follow it. -/
def State.restage (s : State) : List LogEntry → State
  | [] => s
  | e :: t => ({ s with mgt := { s.mgt with staged := s.mgt.staged ++ [{ e with seq := s.nextStaged }] } }).restage t

/-- The EVENT entries that a record of `n` entries goes ahead of: those at the end of the buffer when the rate limit is reached, else none
(R376). -/
def State.overtaken (s : State) (n : Nat) : List LogEntry := if s.canStage n then [] else s.stagedEvents

/-- The buffer with those entries taken out. -/
def State.setAside (s : State) (n : Nat) : State :=
  { s with mgt := { s.mgt with staged := s.mgt.staged.take (s.mgt.staged.length - (s.overtaken n).length) } }

/-- Filler entries to the seal boundary, where a record of `n` entries would span it (R351). -/
def State.padSeal (s : State) (n : Nat) : State :=
  if s.nextStaged % 256 + n > 256 then s.stageFiller (256 - s.nextStaged % 256) else s

/-- The SEQ that the first entry of a TRUST record of `n` entries takes. -/
def State.trustSeq (s : State) (n : Nat) : Nat := ((s.setAside n).padSeal n).nextStaged

/-- A TRUST record of several entries, staged as a unit that spans no seal boundary; session records are never dropped, and where the
rate limit is reached they wait ahead of EVENT entries (R351, R371, Table 15-9). The answer is the SEQ of its first entry. -/
def State.stageTrust (s : State) (payload : List Byte) : Nat × State :=
  let parts := chunks8 64 payload
  let n := parts.length
  let last := s.overtaken n
  let s := (((s.setAside n).spendLog n).padSeal n).makeRoom 8 (n + last.length)
  let first := s.nextStaged
  let go : State × Bool → List Byte → State × Bool := fun (s, cont) d =>
    (s.stageRaw (if cont then 10 else 9) 0 (s.logFlags false) d, true)
  (first, (parts.foldl go (s, false)).1.restage last)

/-! ### Raising an event -/

/-- An MSI-X message owed on a vector: discarded when MSI-X is disabled, Bus Master Enable is clear, the function is in D3hot
or the link is down; left pending when the vector or the function is masked; else sent (R412, R430). -/
def State.message (s : State) (vector : Nat) : State :=
  if !s.host.msixEn || !s.bit DEV.HOST_STATUS.BME || s.bit DEV.HOST_STATUS.D3HOT || s.fld DEV.HOST_STATUS.WIDTH == 0 then s
  else if s.host.fmask || !Tbl.get false s.host.unmasked vector then
    { s with host := { s.host with pba := Tbl.set false s.host.pba vector true } }
  else s.emit (.msix vector)

/-- STATUS bit of a source (R411). -/
def State.latched (s : State) (n : Nat) : Bool := bitOf (s.fld (EVT.STATUS.STATUS (n / 32))) (n % 32)

/-- MASK bit of a source. -/
def State.masked (s : State) (n : Nat) : Bool := bitOf (s.fld (EVT.MASK.MASK (n / 32))) (n % 32)

/-- Source `n` has occurred in this fabric cycle. -/
def State.justSeen (s : State) (n : Nat) : Bool := Tbl.get 0 s.evt.seen n == s.now + 1

/-- The number of the unit that raised an occurrence, as its detail names it. DEDUCED (log entry 112): INDEX, or ARG where Table 18-1 puts
the queue or the word there. -/
def raisingUnit (n i a : Nat) : Nat := if n = 3 ∨ n = 200 ∨ n = 201 ∨ n = 231 then a else i

/-- An occurrence leaves DETAIL to a higher-numbered unit's of the same source and cycle (R415). -/
def State.keepsDetail (s : State) (n i a : Nat) : Bool :=
  s.justSeen n && decide (raisingUnit n i a < raisingUnit n (s.fld (EVT.DETAIL.INDEX n)) (s.fld (EVT.DETAIL.ARG n)))

/-- DETAIL takes KIND, INDEX and ARG of an occurrence (R411, R415). -/
def State.showDetail (s : State) (n k i a : Nat) : State :=
  if s.keepsDetail n i a then s else ((s.setF (EVT.DETAIL.KIND n) k).setF (EVT.DETAIL.INDEX n) i).setF (EVT.DETAIL.ARG n) a

/-- An occurrence of source `n` is noted with its cycle. -/
def State.noteSeen (s : State) (n i a : Nat) : EvtSt :=
  { s.evt with seen := Tbl.set 0 s.evt.seen n (s.now + 1)
               kept := Tbl.set 0 s.evt.kept n (if s.keepsDetail n i a then s.now + 1 else 0) }

/-- Steps 1 to 3 of an occurrence (R411): STATUS, COUNT, DETAIL and LAST_TICK. -/
def State.showEvent (s : State) (n k i a : Nat) : State :=
  let s := s.showDetail n k i a
  let s := (s.setF (EVT.STATUS.STATUS (n / 32)) (withBit (s.fld (EVT.STATUS.STATUS (n / 32))) (n % 32))).bumpF (EVT.COUNT.COUNT n) 1
  s.setF (EVT.LAST_TICK.TICK n) s.tick.toNat

/-- Step 4: FIRST takes the first fault since reset. -/
def State.noteFirst (s : State) (n : Nat) : State :=
  if isFaultSource n && !s.bit EVT.FIRST.VALID then
    let s := ((s.setF EVT.FIRST.SOURCE n).setF EVT.FIRST.VALID 1).setF EVT.FIRST_TICK_LO.TICK s.tick.toNat
    { s with evt := { s.evt with firstTick := s.tick } }
  else s

/-- Steps 1 to 4 of an occurrence (R411). -/
def State.latchEvent (s : State) (n k i a : Nat) : State :=
  State.noteFirst { s.showEvent n k i a with evt := s.noteSeen n i a } n

/-- The message of source `n` is sent, and noted with its cycle (R412). -/
def State.tell (s : State) (n : Nat) : State :=
  State.message { s with evt := { s.evt with told := Tbl.set 0 s.evt.told n (s.now + 1) } } (s.fld (EVT.ROUTE.VECTOR n))

/-- The message of an occurrence: when the STATUS bit was 0 and the MASK bit is 0 (R412). -/
def State.announce (s : State) (was : Bool) (n : Nat) : State := if !was && !s.masked n then s.tell n else s

/-- The log-dropped notice, source 240, once per run of drops (R353); its own entry, where ROUTE.LOG asks for one, falls to the
same rate limit. -/
def State.logDropped (s : State) : State :=
  let was := s.latched 240
  let s := (s.latchEvent 240 0 0 0).announce was 240
  if s.bit (EVT.ROUTE.LOG 240) then s.dropEntry else s

/-- An entry staged under the rate limit, with the log-dropped notice for the first drop of a run (R353). -/
def State.logEntry (s : State) (typ source flags : Nat) (data : List Byte) : State :=
  let r := s.stageLimited typ source flags data
  if r.1 then r.2.logDropped else r.2

/-- Every fault occurrence writes an EVENT entry, a notice occurrence where ROUTE.LOG is 1 (R414). -/
def State.logEvent (s : State) (n k i a a2 : Nat) : State :=
  if isFaultSource n || s.bit (EVT.ROUTE.LOG n) then
    s.logEntry 1 n (s.logFlags (isFaultSource n)) (le 1 k ++ le 1 i ++ le 2 a ++ le 4 a2)
  else s

/-- An occurrence at event source `n` with KIND, INDEX, ARG and ARG2 (R410 to R414). -/
def State.raise (s : State) (n k i a a2 : Nat) : State :=
  let was := s.latched n
  let s := s.latchEvent n k i a
  let s := s.announce was n
  s.logEvent n k i a a2

/-- ALERT_N is driven low: a source has STATUS 1, MASK 0 and ROUTE.ALERT 1; released in reset (R413). -/
def State.alertLow (s : State) : Bool :=
  !s.dev.held && (List.range 256).any fun n => s.latched n && !s.masked n && s.bit (EVT.ROUTE.ALERT n)

/-- A MODE entry: mode left, mode entered, cause (R393). -/
def State.logMode (s : State) (left entered cause : Nat) : State :=
  s.logEntry 2 0 (s.logFlags false) (le 1 left ++ le 1 entered ++ le 1 cause)

end Sys2Proof.Machine
end

