-- ==== Sys2Proof/Machine/Events.lean ====
section
/-!
DEFINITION. The EVT commands: clearing STATUS, writing MASK, clearing counts (R411, R412, R423).
-/

namespace Sys2Proof.Machine

/-- What a meaning answers. -/
abbrev Res := Host.Outcome State Fault Refusal

/-- The sources of word `i` that a clear with the bits `v` finds set by an occurrence of this fabric cycle: the occurrence prevails
(R411). -/
def State.heldSources (s : State) (i v : Nat) : List Nat :=
  ((List.range 32).filter fun j => bitOf v j && s.latched (32 * i + j) && s.justSeen (32 * i + j)).map fun j => 32 * i + j

/-- A message of this fabric cycle for source `n` is still owed when it is not masked (R412, R415). -/
def State.tellOnce (s : State) (n : Nat) : State :=
  if s.masked n || Tbl.get 0 s.evt.told n == s.now + 1 then s else s.tell n

/-- The bits `v` of EVT.STATUS[i] are cleared, but for those of an occurrence of the same cycle, which stay set and count as newly set
(R411, R412). -/
def State.clearStatus (s : State) (i v : Nat) : State :=
  let held := s.heldSources i v
  let m := held.foldl (fun m n => withoutBit m (n % 32)) v
  held.foldl State.tellOnce (s.setF (EVT.STATUS.STATUS i) (clearBits 32 (s.fld (EVT.STATUS.STATUS i)) m))

/-- A W1C write of EVT.STATUS[i]: every written 1 clears its bit (R411). -/
def effEvtStatusClear (i v : Nat) (s : State) : State :=
  if s.served (0x110100 + 4 * i) && decide (i < 8) then s.clearStatus i v else s

/-- The sources of word `i` whose MASK bit the write clears while their STATUS bit is 1, in order (R412). -/
def unmaskedSources (i old v status : Nat) : List Nat :=
  ((List.range 32).filter fun j => bitOf old j && !bitOf v j && bitOf status j).map fun j => 32 * i + j

/-- A write of EVT.MASK[i]: the mask is stored, and each cleared bit whose STATUS is 1 sends one message (R412). -/
def effEvtMaskWrite (i v : Nat) (s : State) : State :=
  if s.served (0x110120 + 4 * i) && decide (i < 8) then
    let due := unmaskedSources i (s.fld (EVT.MASK.MASK i)) v (s.fld (EVT.STATUS.STATUS i))
    due.foldl State.tellOnce (s.setF (EVT.MASK.MASK i) v)
  else s

/-- EVT.CMD.CLR_COUNTS clears every EVT.COUNT (R423). -/
def effEvtClrCounts (s : State) : State :=
  if s.served 0x110004 then s.clearCounts ((List.range 256).map EVT.COUNT.COUNT) else s

/-- EVT.CMD.CLR_STATUS clears every STATUS bit (R411). -/
def effEvtClrStatus (s : State) : State :=
  if s.served 0x110004 then (List.range 8).foldl (fun (s : State) i => s.clearStatus i (2 ^ 32 - 1)) s else s

def execEvtStatusClear (i v : Nat) (s : State) : Res := .next (effEvtStatusClear i v s)
def execEvtMaskWrite (i v : Nat) (s : State) : Res := .next (effEvtMaskWrite i v s)
def execEvtClrCounts (s : State) : Res := .next (effEvtClrCounts s)
def execEvtClrStatus (s : State) : Res := .next (effEvtClrStatus s)

end Sys2Proof.Machine
end

