-- ==== Sys2Proof/Machine/Scheduler.lean ====
section
/-!
DEFINITION. The scheduler: commit, cancel, dispatch, lateness, start windows, outcomes (R44 to R52). What a dispatched action
does is in the family it acts on; here is when it may start and how its outcome is recorded.
-/

namespace Sys2Proof.Machine

/-! ### Entries -/

/-- The tick of the next occurrence of entry `n`, while one is to come. -/
def State.dueOf (s : State) (n : Nat) : Option Tick :=
  match Tbl.get 0 s.sched.due n with
  | 0 => none
  | d + 1 => some (BitVec.ofNat 48 d)

/-- The tick of the next occurrence set, or none. -/
def State.setDue (s : State) (n : Nat) (t : Option Tick) : State :=
  { s with sched := { s.sched with due := Tbl.set 0 s.sched.due n (match t with
    | none => 0
    | some t => t.toNat + 1) } }

/-- The lateness already judged against entry `n` set. -/
def State.setLate (s : State) (n l : Nat) : State :=
  { s with sched := { s.sched with late := Tbl.set 0 s.sched.late n l } }

/-- Entry `n` is committed (SCHED_CMD.COMMIT reads 1). -/
def State.committed (s : State) (n : Nat) : Bool := s.bit (TIME.SCHED_CMD.COMMIT n)

/-- The tick written in an entry's fields. -/
def State.entryTick (s : State) (n : Nat) : Tick :=
  BitVec.ofNat 48 (s.fld (TIME.SCHED_TICK_LO.TICK n) + 2 ^ 32 * s.fld (TIME.SCHED_TICK_HI.TICK n))

/-- The schedule-refused notice (source 25). -/
def State.schedRefused (s : State) (n kind code : Nat) : State := s.raise 25 kind n code 0

/-- An action code and argument that a commit accepts: a code of Table 02-4, its argument in range, DEAL only on the acting dealer and of a
valid definition, MON_SEQ only of a valid definition (R44, R234, R346). -/
def State.actionOk (s : State) (action arg : Nat) : Bool :=
  if action ≤ 2 then true
  else if action = 3 then s.fld ENS.STATUS.ACT_ROLE == 2 && s.bit (ENS.DEAL_DEF.VALID (arg % 16))
  else if action = 6 then s.bit (MGT.SEQ_CFG.VALID (arg % 16))
  else if action = 10 ∨ action = 11 then decide (arg % 16 < 12)
  else decide (action ≤ 12)

/-- After an occurrence, a periodic entry becomes due one PERIOD later, and an occurrence already past takes its lateness now
(R49); a single one has no further occurrence. -/
def State.nextOccurrence (s : State) (n : Nat) (due : Tick) : State :=
  let p := s.fld (TIME.SCHED_PERIOD.PERIOD n)
  if p = 0 then (s.setDue n none).setLate n 0
  else
    let d := due + BitVec.ofNat 48 p
    let s := s.setDue n (some d)
    s.setLate n (if duePast s.tick d then (s.tick - d).toNat else 0)

/-- A committed entry with no dispatched occurrence waiting and a cancel asked for becomes CANCELLED (R51). -/
def State.settleCancel (s : State) (n : Nat) : State :=
  if Tbl.get false s.sched.cancel n && !(s.sched.waiting.any fun o => o.entry == n) then
    let s := (s.setF (TIME.SCHED_STATUS.STATE n) 5).setF (TIME.SCHED_CMD.COMMIT n) 0
    { s with sched := { s.sched with cancel := Tbl.set false s.sched.cancel n false } }
  else s

/-- The outcome of an occurrence: STATE and CODE; an entry with no occurrence to come is committed no longer (R48, R49), unless it is
cancelled and waits for another dispatched occurrence (R51). -/
def State.outcome (s : State) (n state code : Nat) : State :=
  let s := (s.setF (TIME.SCHED_STATUS.STATE n) state).setF (TIME.SCHED_STATUS.CODE n) code
  let s := if s.dueOf n = none ∧ Tbl.get false s.sched.cancel n = false then s.setF (TIME.SCHED_CMD.COMMIT n) 0 else s
  s.settleCancel n

/-- An entry too late does not execute: STALE, counted, with the stale-action event; a periodic one counts the skip
(R45, R49). -/
def State.stale (s : State) (n : Nat) (due : Tick) : State :=
  let action := s.fld (TIME.SCHED_ACT.ACTION n)
  let s := s.bumpF TIME.SCHED_COUNTS.STALE 1
  let s := if s.fld (TIME.SCHED_PERIOD.PERIOD n) ≠ 0 then s.bumpF (TIME.SCHED_STATUS.SKIPPED n) 1 else s
  let s := s.nextOccurrence n due
  (s.outcome n 3 0).raise 23 0 n action 0

/-- The groups of a SHUFFLE or BIST_SLICE mask; 0 for another action. -/
def groupMask (action arg : Nat) : Nat := if action = 4 ∨ action = 5 then arg % 16 else 0

/-- An occurrence is dispatched: it joins the waiting occurrences in dispatch order (R46, R47). -/
def State.dispatchOcc (s : State) (n : Nat) (due : Tick) (l : Nat) : State :=
  let action := s.fld (TIME.SCHED_ACT.ACTION n)
  let arg := s.fld (TIME.SCHED_ARG.ARG n)
  let o : Occ := { entry := n, action := action, arg := arg, at_ := s.tick, from_ := s.now, window := s.fld (TIME.SCHED_LIMIT.WINDOW n)
                   lateBy := l, groups := groupMask action arg, missed := false }
  let s := { s with sched := { s.sched with waiting := s.sched.waiting ++ [o], lastDispatch := some s.now } }
  s.nextOccurrence n due

/-- An entry is judged with lateness `l` (R45). -/
def State.judge (s : State) (n : Nat) (due : Tick) (l : Nat) : State :=
  if l = 0 ∨ (s.bit (TIME.SCHED_ACT.POLICY n) = true ∧ l ≤ s.fld (TIME.SCHED_LIMIT.LATE_MAX n)) then
    s.dispatchOcc n due l
  else s.stale n due

/-- The fields of an entry as committed: STATE COMMITTED, SKIPPED, LATE_BY and CODE cleared (R49). -/
def State.markCommitted (s : State) (n : Nat) : State :=
  let s := (s.setF (TIME.SCHED_CMD.COMMIT n) 1).setF (TIME.SCHED_STATUS.STATE n) 1
  let s := s.clearFs [TIME.SCHED_STATUS.SKIPPED n, TIME.SCHED_STATUS.LATE_BY n, TIME.SCHED_STATUS.CODE n]
  let s := { s with sched := { s.sched with cancel := Tbl.set false s.sched.cancel n false } }
  (s.setDue n (some (s.entryTick n))).setLate n 0

/-- A commit of entry `n`, by the host or by READY entry (R44, R45, R52): refused with STATE IDLE, or committed and, in READY and
ACQUIRE, judged at once when due or past. -/
def State.commitEntry (s : State) (n : Nat) (judgeNow : Bool) : State :=
  if s.actionOk (s.fld (TIME.SCHED_ACT.ACTION n)) (s.fld (TIME.SCHED_ARG.ARG n)) then
    let s := s.markCommitted n
    let t := s.entryTick n
    if judgeNow && duePast s.tick t then s.judge n t (s.tick - t).toNat else s
  else (s.setF (TIME.SCHED_STATUS.STATE n) 0).schedRefused n 0 0

/-- The RW fields of entry `n` at its register `r` (0 tick low, 1 tick high, 2 action, 3 argument, 4 limits, 5 period). -/
def State.writeEntry (s : State) (n r v : Nat) : State :=
  match r with
  | 0 => s.setF (TIME.SCHED_TICK_LO.TICK n) v
  | 1 => s.setF (TIME.SCHED_TICK_HI.TICK n) v
  | 2 => (s.setF (TIME.SCHED_ACT.ACTION n) v).setF (TIME.SCHED_ACT.POLICY n) (v / 2 ^ 8)
  | 3 => s.setF (TIME.SCHED_ARG.ARG n) v
  | 4 => (s.setF (TIME.SCHED_LIMIT.LATE_MAX n) v).setF (TIME.SCHED_LIMIT.WINDOW n) (v / 2 ^ 16)
  | 5 => s.setF (TIME.SCHED_PERIOD.PERIOD n) v
  | _ => s

/-- An entry of the image's schedule takes its place, whatever the host committed there (R52, R238, R403). -/
def State.putEntry_ (s : State) (e : SchedImage) (t : Tick) (judgeNow : Bool) : State :=
  let n := e.entry
  let s := ((s.setDue n none).setLate n 0).setF (TIME.SCHED_CMD.COMMIT n) 0
  let s := (s.writeEntry n 0 t.toNat).writeEntry n 1 (t.toNat / 2 ^ 32)
  let s := (s.writeEntry n 2 (e.action + if e.runLate then 256 else 0)).writeEntry n 3 e.arg
  ((s.writeEntry n 4 (e.lateMax + 65536 * e.window)).writeEntry n 5 e.period).commitEntry n judgeNow

/-- SCHED_CMD[n].COMMIT (R44, R45, R52). DEDUCED (log entry 117): a due entry committed while an entry to DORMANT runs is not judged at
once but at the next entry to READY. -/
def effSchedCommit (n : Nat) (s : State) : State :=
  if s.served (0x11018 + 32 * n) && decide (n < 256) && !s.committed n then s.commitEntry n s.active else s

/-- SCHED_CMD[n].CANCEL ends the entry; a dispatched occurrence is never withdrawn (R51). -/
def effSchedCancel (n : Nat) (s : State) : State :=
  if s.served (0x11018 + 32 * n) && decide (n < 256) && s.committed n then
    let s := (s.setDue n none).setLate n 0
    let s := { s with sched := { s.sched with cancel := Tbl.set false s.sched.cancel n true } }
    s.settleCancel n
  else s

/-- A write to the fields of entry `n`: ignored with a notice while the entry is committed (R51). DEDUCED (log entry 83): a periodic
entry that stays committed ignores it too, though its STATE shows the outcome of its last occurrence (SCHED_STATUS). -/
def effSchedFieldWrite (n r v : Nat) (s : State) : State :=
  if s.served (0x11000 + 32 * n) && decide (n < 256) && decide (r < 6) then
    if s.committed n then s.schedRefused n 1 0 else s.writeEntry n r v
  else s

/-- Entry `m` goes before entry `n` among the entries that are due: an older tick, or the same tick and a lower number
(R46, R52). -/
def State.precedes (s : State) (m n : Nat) (t : Tick) : Bool :=
  match s.dueOf m with
  | none => false
  | some u => duePast s.tick u && ((u == t && decide (m < n)) || (u != t && decide ((s.tick - t).toNat < (s.tick - u).toNat)))

/-- The count has reached entry `n`'s tick: the entry is judged, one per fabric cycle, in READY and ACQUIRE until an entry to
DORMANT begins (R45, R46, R52, Table 17-6). -/
def effSchedDispatch (n : Nat) (s : State) : State :=
  match s.dueOf n with
  | none => s
  | some t =>
    if s.active && decide (n < 256) && duePast s.tick t && decide (s.sched.lastDispatch ≠ some s.now) &&
        !((List.range 256).any fun m => s.precedes m n t) then
      s.judge n t (Tbl.get 0 s.sched.late n)
    else s

/-! ### Starting a dispatched action -/

/-- What an action holds: a kind of resource and its number; groups are acquired one by one (Table 02-4, R47). -/
def resourceOf (action arg : Nat) : Option (Nat × Nat) :=
  if action = 1 ∨ action = 2 then some (0, arg % 64)
  else if action = 3 then some (1, 0)
  else if action = 6 then some (2, 0)
  else if action = 7 ∨ action = 8 then some (3, 0)
  else if action = 9 then some (4, arg % 512)
  else if action = 10 then some (5, arg % 16)
  else if action = 11 then some (6, arg % 16)
  else none

/-- The start window of an occurrence is open (R47): no more than WINDOW ticks have passed since its dispatch, whatever jumps the
count has made (log entry 83). -/
def State.inWindow (s : State) (o : Occ) : Bool := decide (s.now / cyclesPerTick ≤ o.from_ / cyclesPerTick + o.window)

/-- The first waiting occurrence of entry `n` with this action that has not started. -/
def State.findOcc (s : State) (n action : Nat) : Option Occ :=
  s.sched.waiting.find? fun o => o.entry == n && o.action == action && !o.started

/-- The occurrences dispatched before `o`. -/
def State.earlier (s : State) (o : Occ) : List Occ := s.sched.waiting.takeWhile fun x => x != o

/-- A deal's internal action holds the plan, or was dispatched before cycle `t` and waits for it (R236). -/
def State.dealHolds (s : State) (r : Nat × Nat) (t : Nat) : Bool :=
  s.ens.deals.any fun x => (0, x.plan) == r && (x.started || (match x.from_ with
    | some c => decide (c < t)
    | none => false))

/-- No earlier waiting occurrence, and no deal, contends for the resource: they are served in dispatch order, of one fabric cycle the
schedule's first (R47; log entry 107). -/
def State.firstInLine (s : State) (o : Occ) : Bool :=
  match resourceOf o.action o.arg with
  | none => true
  | some r => !((s.earlier o).any fun x => resourceOf x.action x.arg == some r) && !s.dealHolds r o.from_

/-- The occurrence leaves the waiting list. -/
def State.dropOcc (s : State) (o : Occ) : State :=
  { s with sched := { s.sched with waiting := s.sched.waiting.erase o } }

/-- An occurrence has started, and ends EXECUTED with its lateness (R45), or REFUSED with a code (R48). -/
def State.endOcc (s : State) (o : Occ) (refusal : Option Nat) : State :=
  let s := s.dropOcc o
  let s := s.setF (TIME.SCHED_STATUS.LATE_BY o.entry) (min o.lateBy 65535)
  match refusal with
  | none => s.outcome o.entry 2 0
  | some c => (s.outcome o.entry 6 c).schedRefused o.entry 3 c

/-- A dispatched action with one resource starts: it is in its window, first in line and its resource is free, and `act` says
whether the function it acts on refuses it (R47, R48). -/
def State.runAction (s : State) (n action : Nat) (free : Occ → Bool) (act : Occ → State → Option Nat × State) : State :=
  match s.findOcc n action with
  | none => s
  | some o =>
    if s.active && s.inWindow o && s.firstInLine o && free o then
      let r := act o s
      r.2.endOcc o r.1
    else s

/-- The window of a dispatched action has closed before it started: DEADLINE and the deadline fault, for each group of a mask
that has not started; for a retraining K = 1 with the DRAM channel (R47, R260, R416). DESIGN CHOICE (log entry 117): LATE_BY stays as
it was, also where the action has started in some of its groups. -/
def effSchedWindowClose (n : Nat) (s : State) : State :=
  match s.sched.waiting.find? fun o => o.entry == n && !o.started && !s.inWindow o with
  | none => s
  | some o =>
    let s := s.dropOcc o
    let s := (s.bumpF TIME.SCHED_COUNTS.DEADLINE 1).outcome n 4 0
    let times := if o.action = 4 ∨ o.action = 5 then ((List.range 4).filter (bitOf o.groups)).length else 1
    (List.range times).foldl (fun s _ => if o.action = 10 then s.raise 24 1 (o.arg % 16) 0 0 else s.raise 24 0 n 0 0) s

/-- On entry to LOAD or SAFE every entry is set IDLE (R52). -/
def State.idleSchedule (s : State) : State :=
  let s := { s with sched := { s.sched with due := [], late := [], waiting := [], cancel := [], lastDispatch := none } }
  (List.range 256).foldl (fun s n => (s.setF (TIME.SCHED_STATUS.STATE n) 0).setF (TIME.SCHED_CMD.COMMIT n) 0) s

def execSchedCommit (n : Nat) (s : State) : Res := .next (effSchedCommit n s)
def execSchedCancel (n : Nat) (s : State) : Res := .next (effSchedCancel n s)
def execSchedFieldWrite (n r v : Nat) (s : State) : Res := .next (effSchedFieldWrite n r v s)
def execSchedDispatch (n : Nat) (s : State) : Res := .next (effSchedDispatch n s)
def execSchedWindowClose (n : Nat) (s : State) : Res := .next (effSchedWindowClose n s)

end Sys2Proof.Machine
end

