-- ==== Sys2Proof/Machine/Fabric.lean ====
section
/-!
DEFINITION. The converter fabric: layouts, which slice serves a lane, retirement, snapshots (R54 to R64, R68, R74, R80, R85).
-/

namespace Sys2Proof.Machine

/-! ### Layouts -/

/-- Group `g` is in trunk mode (R55). -/
def State.trunk (s : State) (g : Nat) : Bool := bitOf (s.fld CNV.LAYOUT.MODE) g

/-- One of the 26 layouts of Table 03-2 (R68): a join needs its groups in trunk mode. -/
def layoutOk (mode join : Nat) : Bool :=
  if join = 0 then decide (mode < 16)
  else if join = 1 then decide (mode < 16) && bitOf mode 0 && bitOf mode 1
  else if join = 2 then decide (mode < 16) && bitOf mode 2 && bitOf mode 3
  else if join = 3 ∨ join = 4 then mode == 15
  else false

/-- The groups of the wide channel that holds trunk `g` (R65, R68). -/
def groupsOf (join g : Nat) : List Nat :=
  if join = 4 then [0, 1, 2, 3]
  else if (join = 1 ∨ join = 3) ∧ g < 2 then [0, 1]
  else if (join = 2 ∨ join = 3) ∧ 2 ≤ g then [2, 3]
  else [g]

/-- The groups of channel `c` when it is wide; empty for a narrow channel (R68). -/
def State.chanGroups (s : State) (c : Nat) : List Nat :=
  if s.trunk (c / 16) then groupsOf (s.fld CNV.LAYOUT.JOIN) (c / 16) else []

/-- The channel a lane belongs to (R57, R68). -/
def State.chanOf (s : State) (lane : Nat) : Nat :=
  if s.trunk (lane / 16) then 16 * ((groupsOf (s.fld CNV.LAYOUT.JOIN) (lane / 16)).headD 0) else lane

/-- Narrow input `i` is marked unused (R59). -/
def State.unused (s : State) (i : Nat) : Bool :=
  if i < 32 then bitOf (s.fld CNV.UNUSED_LO.UNUSED) i else bitOf (s.fld CNV.UNUSED_HI.UNUSED) (i - 32)

/-- The lane carries an unused narrow input. -/
def State.unusedLane (s : State) (lane : Nat) : Bool := !s.trunk (lane / 16) && s.unused lane

/-- Channel `c` exists for plans: in the layout (R68), and not an unused input (R59). -/
def State.chanExists (s : State) (c : Nat) : Bool :=
  decide (c < 64) && s.chanOf c == c && !s.unusedLane c && (!s.trunk (c / 16) || c % 16 == 0)

/-- Lanes that sample channel `c`: 1, 16, 32 or 64 (R14, R62). -/
def State.lanes (s : State) (c : Nat) : Nat := if s.trunk (c / 16) then 16 * (s.chanGroups c).length else 1

/-- The lane of slot `j` of channel `c` (R63). -/
def State.slotLane (s : State) (c j : Nat) : Nat :=
  let gs := s.chanGroups c
  if gs.isEmpty then c else 16 * gs.getD (j % gs.length) 0 + j / gs.length

/-- The lanes of channel `c` in slot order (R63). -/
def State.lanesOf (s : State) (c : Nat) : List Nat := (List.range (s.lanes c)).map (s.slotLane c)

/-- The slot of a lane within its channel (R63, inverse). -/
def State.slotOf (s : State) (lane : Nat) : Nat :=
  let gs := s.chanGroups (s.chanOf lane)
  if gs.isEmpty then 0 else (lane % 16) * gs.length + gs.findIdx (fun g => g == lane / 16)

/-- The sampling phase of a lane, 0 to 63; phase 0 is that of the tick boundary (R40, R62, R63). -/
def State.phaseOf (s : State) (lane : Nat) : Nat :=
  let n := s.lanes (s.chanOf lane)
  if s.trunk (lane / 16) then s.slotOf lane * (64 / n) else 0

/-! ### Slices -/

/-- The slice that serves lane `16 g + m` while position `r` rests (R56). -/
def sliceAt (g m r : Nat) : Nat := if m < r then 17 * g + m else 17 * g + m + 1

/-- The shuffle step under way in group `g`. -/
def State.stepOf (s : State) (g : Nat) : Option Step := Tbl.get none s.cnv.step g

/-- Resting position of a group. -/
def State.restPos (s : State) (g : Nat) : Nat := s.fld (CNV.GROUP_STATUS.REST g)

/-- The resting slice of a group (R56). -/
def State.restSlice (s : State) (g : Nat) : Nat := 17 * g + s.restPos g

/-- The slice that serves a lane now, one of its own group (R13): R56, the incoming slice from the switch instant on (R77 step 4), and the assignment of
R419 in a short narrow group. -/
def State.sliceOf (s : State) (lane : Nat) : Nat :=
  let g := lane / 16
  match Tbl.get 0 s.cnv.shortSlice lane with
  | n + 1 => n
  | 0 =>
    match s.stepOf g with
    | some st => if st.switched && st.lane == lane then st.incoming else sliceAt g (lane % 16) (s.restPos g)
    | none => sliceAt g (lane % 16) (s.restPos g)

/-- A slice is retired (R80). -/
def State.isRetired (s : State) (sl : Nat) : Bool := Tbl.get false s.cnv.retired sl

/-- A group is FIXED (R80, R419). -/
def State.fixed (s : State) (g : Nat) : Bool := s.bit (CNV.GROUP_STATUS.FIXED g)

/-- A channel is stopped until the next reset (R83, R419). -/
def State.chanStopped (s : State) (c : Nat) : Bool := Tbl.get false s.cnv.stopped c

/-- The step of a group set or cleared. -/
def State.setStep (s : State) (g : Nat) (st : Option Step) : State :=
  { s with cnv := { s.cnv with step := Tbl.set none s.cnv.step g st } }

/-- A slice's background state (CAL.SLICE_STATE.BG_STATE): 4 is ready under R76. -/
def State.sliceReady (s : State) (sl : Nat) : Bool := s.fld (CAL.SLICE_STATE.BG_STATE sl) == 4

/-- A background run set or cleared on a slice. -/
def State.setBg (s : State) (sl : Nat) (r : Option Nat) : State :=
  { s with cal := { s.cal with bgRun := Tbl.set none s.cal.bgRun sl r } }

/-- A slice is retired: its group is FIXED at its position, its run is abandoned, and the slice-retired fault is raised
(R80, R100). -/
def State.retire (s : State) (sl kind : Nat) : State :=
  let g := sl / 17
  let s := { s with cnv := { s.cnv with retired := Tbl.set false s.cnv.retired sl true } }
  let s := (s.setF (CNV.GROUP_STATUS.FIXED g) 1).setF (CNV.GROUP_STATUS.REST g) (sl % 17)
  let s := (s.setBg sl none).setF (CAL.SLICE_STATE.BG_STATE sl) 5
  s.raise (48 + g) kind sl 0 0

/-- A background run starts on a slice that has come to rest in a group that is not FIXED (R97). -/
def State.startBg (s : State) (sl : Nat) : State :=
  if s.fixed (sl / 17) then s else (s.setBg sl (some s.now)).setF (CAL.SLICE_STATE.BG_STATE sl) 1

/-- A shuffle step before its switch instant is aborted; the slice stays resting (R81). -/
def State.abortStep (s : State) (g : Nat) : State :=
  match s.stepOf g with
  | none => s
  | some st =>
    if st.switched then s
    else ((s.setStep g none).setF (CNV.GROUP_STATUS.STEP g) 0).bumpF (CNV.SHUFFLE_COUNT.ABORTS g) 1

/-- Every step before its switch instant is aborted. -/
def State.abortSteps (s : State) : State := (List.range 4).foldl State.abortStep s

/-! ### Lane units (R317 to R319, R327) -/

/-- Sequencer `u`. -/
def State.sunit (s : State) (u : Nat) : SeqUnit := Tbl.get {} s.seq.units u

/-- Sequencer `u` set. -/
def State.setUnit (s : State) (u : Nat) (x : SeqUnit) : State :=
  { s with seq := { s.seq with units := Tbl.set {} s.seq.units u x } }

/-- The unit bound to a lane, one of the 17 of its group (R73, R318). -/
def State.unitOf (s : State) (lane : Nat) : Option Nat :=
  if s.bit (SEQ.LANE_UNIT.VALID lane) then some (s.fld (SEQ.LANE_UNIT.UNIT lane)) else none

/-- The resting unit of a group (R318). -/
def State.restUnit (s : State) (g : Nat) : Option Nat :=
  if s.bit (CNV.GROUP_STATUS.SPARE_UNIT g) then ((List.range 17).map fun m => 17 * g + m).find? fun u => (s.sunit u).st == 0
  else none

/-- An interrupt source of a unit is requested (R327). -/
def State.seqRequest (s : State) (u i : Nat) : State :=
  let x := s.sunit u
  if bitOf x.pend i then s
  else
    let s := s.setUnit u { x with pend := withBit x.pend i }
    { s with seq := { s.seq with reqAt := Tbl.set 0 s.seq.reqAt (8 * u + i) (s.now + 1) } }

/-- An interrupt source of a lane's unit is requested. -/
def State.laneRequest (s : State) (i lane : Nat) : State :=
  match s.unitOf lane with
  | some u => s.seqRequest u i
  | none => s

/-- The lead lane of a channel, when it has one (R319). -/
def State.leadLane (s : State) (c : Nat) : Option Nat := (s.lanesOf c).find? fun l => s.bit (SEQ.LANE_UNIT.LEAD l)

/-- An interrupt source of every unit that serves a channel is requested. -/
def State.chanRequest (s : State) (i c : Nat) : State := (s.lanesOf c).foldl (fun (s : State) l => s.laneRequest i l) s

/-- The ACC source of a channel's lead unit is requested (Table 13-4). -/
def State.leadRequest (s : State) (c : Nat) : State :=
  match s.leadLane c with
  | some l => s.laneRequest 4 l
  | none => s

/-- The FLAG source of every bound unit is requested: a flagged interval of Table 02-2 starts or ends (Table 13-4). -/
def State.flagRequest (s : State) : State := (List.range 64).foldl (fun (s : State) l => s.laneRequest 6 l) s

/-- Trap `t` of a unit: taken when no handler runs, else pending; a stopped unit takes none (R326, R329). The handler of trap 0 raises the
lane-deadline fault (R23). -/
def State.takeTrap (s : State) (u t : Nat) : State :=
  let x := s.sunit u
  if x.st = 2 ∨ x.st = 3 then s
  else if x.handler ≠ 0 then s.setUnit u { x with traps := withBit x.traps t }
  else
    let s := s.bumpF (if t = 0 then SEQ.UNIT_COUNTS.ELASTIC_OVF u else SEQ.UNIT_COUNTS.CTX_PARITY u) 1
    let s := s.setUnit u { x with ira := x.pc, pc := 0x3F10 + 8 * t, handler := 2, src := t, bounds := 0 }
    if t = 0 then s.raise 228 0 x.lane 0 0 else s

/-- Trap `t` of a lane's unit; an overflow on a lane without one raises its fault at once (R23). -/
def State.laneTrap (s : State) (t lane : Nat) : State :=
  match s.unitOf lane with
  | some u => s.takeTrap u t
  | none => if t = 0 then s.raise 228 0 lane 0 0 else s

/-- A unit is withdrawn until the next reset (R82, R333, Table 16-4). -/
def State.withdrawUnit (s : State) (u : Nat) : State := s.setUnit u { s.sunit u with st := 3, lane := 0 }

/-- A lane's lead duties and unit in the registers (R318, R319). -/
def State.bindLane (s : State) (lane u : Nat) : State :=
  let s := s.setUnit u { s.sunit u with st := 1, lane := lane }
  (s.setF (SEQ.LANE_UNIT.UNIT lane) u).setF (SEQ.LANE_UNIT.VALID lane) 1

/-! ### Snapshots -/

/-- The role of a slice: 0 SERVING, 1 RESTING, 2 SHADOW, 3 RETIRED; a slice in a step is in SHADOW until its switch (R85). DEDUCED (log
entry 95): from the switch to its release the outgoing slice, which no longer serves, shows as RESTING. -/
def State.roleOf (s : State) (sl : Nat) : Nat :=
  let g := sl / 17
  if s.isRetired sl then 3
  else match s.stepOf g with
    | some st => if st.incoming = sl ∧ st.switched = false ∧ st.shadowAt.isSome then 2
                 else if sl = s.restSlice g ∧ st.switched = false then 1
                 else if sl = st.outgoing ∧ st.switched = true then 1 else 0
    | none => if sl = s.restSlice g then 1 else 0

/-- The lane a slice serves or shadows; 0 otherwise (R85). -/
def State.laneOfSlice (s : State) (sl : Nat) : Nat :=
  let g := sl / 17
  match s.stepOf g with
  | some st =>
    if st.incoming = sl ∧ st.shadowAt.isSome then st.lane
    else (((List.range 16).map fun m => 16 * g + m).find? fun l => s.sliceOf l == sl).getD 0
  | none => (((List.range 16).map fun m => 16 * g + m).find? fun l => s.sliceOf l == sl).getD 0

/-- A slice leaves an unused lane and has not been released: it is powered up at switch + 16 ns (R77). -/
def State.leavesUnused (s : State) (sl : Nat) : Bool :=
  match s.stepOf (sl / 17) with
  | some st => st.switched && st.outgoing == sl && s.unusedLane st.lane
  | none => false

/-- A slice is powered: not retired, not serving an unused lane, and not leaving one (R59, R77, R80). -/
def State.powered (s : State) (sl : Nat) : Bool :=
  !s.isRetired sl && !s.leavesUnused sl &&
    !(((List.range 16).map fun m => 16 * (sl / 17) + m).any fun l => s.unusedLane l && s.sliceOf l == sl)

/-- One lane's entry of the snapshot (R85). -/
def State.snapLane (s : State) (l : Nat) : State :=
  let s1 := s.setF (CNV.LANE_MAP.SLICE l) (s.sliceOf l)
  let s1 := s1.setB (CNV.LANE_MAP.UNUSED l) (s.unusedLane l)
  let s1 := s1.setF (CNV.LANE_MAP.CHANNEL l) (s.chanOf l)
  let s1 := s1.setF (CNV.LANE_MAP.SLOT l) (s.slotOf l)
  s1.setF (CNV.LANE_MAP.PHASE l) (s.phaseOf l)

/-- One slice's entry of the snapshot (R85). -/
def State.snapSlice (s : State) (sl : Nat) : State :=
  let s1 := s.setF (CNV.SLICE_STATUS.ROLE sl) (s.roleOf sl)
  let s1 := s1.setB (CNV.SLICE_STATUS.POWERED sl) (s.powered sl)
  let s1 := s1.setF (CNV.SLICE_STATUS.LANE sl) (s.laneOfSlice sl)
  s1.setF (CNV.SLICE_STATUS.SHADOW_FAIL sl) (Tbl.get 0 s.cnv.shadowFail sl)

/-- A consistent snapshot of the lane map and the slice status (R85). -/
def State.snapMap (s : State) : State :=
  (List.range 68).foldl State.snapSlice ((List.range 64).foldl State.snapLane s)

/-- The snapshot of all sequencers (R338). -/
def State.seqSnap (s : State) : State :=
  (List.range 69).foldl (fun (s : State) u =>
    let x := s.sunit u
    let s := (s.setF (SEQ.UNIT_STATE.STATE u) x.st).setF (SEQ.UNIT_STATE.LANE u) x.lane
    let s := (s.setF (SEQ.UNIT_STATE.DEPTH u) x.stack.length).setB (SEQ.UNIT_STATE.IN_HANDLER u) (x.handler != 0)
    s.setF (SEQ.UNIT_STATE.LAST_SRC u) (x.last.getD 0)) s

/-- CNV.CMD.SNAP_MAP (R85). -/
def effCnvSnapMap (s : State) : State := if s.served 0x2000C then s.snapMap else s

/-- The counters that CNV.CMD.CLR_COUNTS clears: SHUFFLE_COUNT, OVER_COUNT and UNDER_COUNT (R85). -/
def cnvCounters : List Fld :=
  ((List.range 4).flatMap fun g => [CNV.SHUFFLE_COUNT.STEPS g, CNV.SHUFFLE_COUNT.ABORTS g, CNV.SHUFFLE_COUNT.SKIPS g]) ++
    (List.range 64).flatMap fun c => [CNV.OVER_COUNT.COUNT c, CNV.UNDER_COUNT.COUNT c]

/-- CNV.CMD.CLR_COUNTS (R85). -/
def effCnvClrCounts (s : State) : State := if s.served 0x2000C then s.clearCounts cnvCounters else s

/-! ### Absolute sample counts -/

/-- A 64-sample boundary of the lane streams at the present cycle: tick × 40 + k a multiple of 64 (R77). -/
def State.at64 (s : State) : Bool := (s.tick.toNat * 40 + 4 * s.cyc) % 64 == 0

/-- Cycles to the first 64-sample boundary at or after the present cycle (16 cycles are 64 samples). -/
def State.to64 (s : State) : Nat :=
  let k := (s.tick.toNat * 40 + 4 * s.cyc) % 64
  if k = 0 then 0 else (64 - k) / 4

def execCnvSnapMap (s : State) : Res := .next (effCnvSnapMap s)
def execCnvClrCounts (s : State) : Res := .next (effCnvClrCounts s)

end Sys2Proof.Machine
end

