-- ==== Sys2Proof/Machine/Memory.lean ====
section
/-!
DEFINITION. The memory system: geometry, address map, reads, writes and poison, reservations and the admission test, refresh,
ranks and their migration (R245 to R273). What a lost channel does to plans and queues is in Machine/Loss.lean.
-/

namespace Sys2Proof.Machine

/-! ### Geometry (R245 to R250) -/

/-- Ranks per channel other than the spare. -/
def State.liveRanks (s : State) : Nat := s.fld MEM.CFG.RANKS - s.fld MEM.CFG.SPARE

/-- The spare's rank number (R245). -/
def State.spareRank (s : State) : Nat := s.fld MEM.CFG.RANKS - 1

/-- Gigabits of a DRAM device, MEM.CFG.DENSITY. -/
def State.densityGb (s : State) : Nat := if s.fld MEM.CFG.DENSITY = 0 then 16 else if s.fld MEM.CFG.DENSITY = 1 then 24 else 32

/-- Bank groups and banks per group of every supported DDR5 device (log entry 21). -/
def bankGroups : Nat := 8
def banksPerGroup : Nat := 4

/-- Bits a device drives: x4 or x8. -/
def State.deviceWidth (s : State) : Nat := if s.bit MEM.CFG.WIDTH then 8 else 4

/-- Rows of a bank: the device's bits over 32 banks of 2048 columns of its width (R250, log entry 21). -/
def State.rowsPerBank (s : State) : Nat := s.densityGb * 2 ^ 30 / (bankGroups * banksPerGroup * 2048 * s.deviceWidth)

/-- Bytes of a rank: two subchannels of 8 KiB rows. -/
def State.rankBytes (s : State) : Nat := 2 * 8192 * bankGroups * banksPerGroup * s.rowsPerBank

/-- Used capacity of a channel in granules, limited to 64 GiB (R247). -/
def State.capacity (s : State) : Nat := min (64 * 2 ^ 30) (s.liveRanks * s.rankBytes) / 4096

/-- PEAK in MB/s, Table 10-1. -/
def State.peak (s : State) : Nat := if s.fld MEM.CFG.CONFIG = 0 then 64000 else 51200

/-- CEIL (R256): floor to 250 MB/s of PEAK × 0.919125 × η - MIG. -/
def State.ceiling (s : State) : Nat :=
  let eta := if s.fld MEM.CFG.RANKS ≤ 2 then 816 else 800
  (s.peak * 919125 * eta - s.fld MEM.CEIL.MIG * 10 ^ 9) / (250 * 10 ^ 9) * 250

/-- DRAM channel `c` is in service. -/
def State.inService (s : State) (c : Nat) : Bool := bitOf (s.fld MEM.STATUS.IN_SERVICE) c

/-- The in-service channels, ascending. -/
def State.channels (s : State) : List Nat := (List.range 12).filter s.inService

/-- Channels that carry mapped or re-homed granules (R255). -/
def State.carriers (s : State) : Nat := s.channels.length

/-! ### Address map (R249, R251) -/

/-- The channel and byte address within it of a device address; none when unmapped. -/
def State.phys (s : State) (a : Nat) : Option (Nat × Nat) :=
  let n0 := s.mem.ways.length
  let mapg := s.fld MEM.MAPG.MAPG
  let g := a / 4096
  if n0 * mapg ≤ g then none
  else
    let w := g % n0
    let cg := g / n0
    let ch := s.mem.ways.getD w 0
    if s.inService ch then some (ch, cg * 4096 + a % 4096)
    else if s.bit MEM.STATUS.REHOMED && s.fld MEM.STATUS.REHOMED_WAY == w then
      let ch' := (s.mem.ways.eraseIdx w).getD (cg % (n0 - 1)) 0
      if s.inService ch' then some (ch', (mapg + cg / (n0 - 1)) * 4096 + a % 4096) else none
    else none

/-- Every granule from `a` for `len` bytes is mapped. -/
def State.mappedRange (s : State) (a len : Nat) : Bool :=
  (List.range ((a + len + 4095) / 4096 - a / 4096)).all fun i => (s.phys ((a / 4096 + i) * 4096)).isSome

/-- Where a burst lies in its channel (R250). -/
structure Loc where
  sub : Nat
  col : Nat
  rank : Nat
  bg : Nat
  bank : Nat
  row : Nat
  deriving DecidableEq, Repr

/-- The place of a byte address within a channel (R250). -/
def State.locate (s : State) (a : Nat) : Loc :=
  let b := a / 64
  let u := b / 2
  let col := u % 128 * 16
  let u := u / 128
  let bgi := u % bankGroups
  let u := u / bankGroups
  let bank := u % banksPerGroup
  let u := u / banksPerGroup
  let row := u / s.liveRanks
  { sub := b % 2, col := col, rank := u % s.liveRanks, bg := Nat.xor bgi (row % bankGroups), bank := bank, row := row }

/-- Key of rank `r` of channel `c`. -/
def rankKey (c r : Nat) : Nat := 4 * c + r

/-- The bank of a place, within its channel's subchannels and ranks. -/
def bankNo (l : Loc) (rank : Nat) : Nat := 128 * l.sub + 32 * rank + 4 * l.bg + l.bank

/-- A migration has moved rows of the channel that it has not given back: it runs, is paused, or has stopped midway (R269, R270). -/
def State.migrated (s : State) (c : Nat) : Bool :=
  s.fld (MEM.CH_STATE.MIG_STATE c) == 1 || s.fld (MEM.CH_STATE.MIG_STATE c) == 2 || Tbl.get false s.mem.stuck c

/-- The place of a row in the order of migration: rows ascending, bank groups and banks in turn within a row number (R269). -/
def migOrder (l : Loc) : Nat := l.row * (bankGroups * banksPerGroup) + 4 * l.bg + l.bank

/-- The physical rank that rank number `r` of the map names: the spare once it has replaced it (R250). -/
def State.physRank (s : State) (c r : Nat) : Nat :=
  match Tbl.get 0 s.mem.repl (rankKey c r) with
  | 0 => r
  | n + 1 => n

/-- The physical rank that serves a place: the target for a row already copied (R250, R270). -/
def State.rankAt (s : State) (c : Nat) (l : Loc) : Nat :=
  let p := s.physRank c l.rank
  if s.migrated c && s.fld (MEM.CH_STATE.MIG_FROM c) == p && decide (migOrder l < s.fld (MEM.CH_MIG_POS.POS c)) then
    s.fld (MEM.CH_STATE.MIG_TO c)
  else p

/-! ### Poison and bytes (R264) -/

/-- Key of burst `b` of channel `c`. -/
def burstKey (c b : Nat) : Nat := 2 ^ 34 * c + b

/-- The burst of channel `c` that holds byte `a` is poisoned; LOAD poisons the re-home reserve (R251). -/
def State.poisoned (s : State) (c a : Nat) : Bool :=
  let reserve := decide (s.fld MEM.MAPG.MAPG ≤ a / 4096) && decide (a / 4096 < s.mem.capg)
  xor (Tbl.get false s.mem.poison (burstKey c (a / 64))) reserve

/-- The poison state of a burst set. -/
def State.setPoison (s : State) (c a : Nat) (p : Bool) : State :=
  if s.poisoned c a = p then s
  else
    let k := burstKey c (a / 64)
    { s with mem := { s.mem with poison := Tbl.set false s.mem.poison k (!Tbl.get false s.mem.poison k) } }

/-- The granule of channel `c` at byte `a` takes the poison pattern in all 64 bursts (R265). -/
def State.poisonGranule (s : State) (c a : Nat) : State :=
  (List.range 64).foldl (fun s i => s.setPoison c (a / 4096 * 4096 + 64 * i) true) s

/-- One byte of channel `c`. -/
def State.dramByte (s : State) (c a : Nat) : Byte := Tbl.get 0 s.mem.bytes (2 ^ 40 * c + a)

/-- One byte of channel `c` written. -/
def State.setDramByte (s : State) (c a : Nat) (b : Byte) : State :=
  { s with mem := { s.mem with bytes := Tbl.set 0 s.mem.bytes (2 ^ 40 * c + a) b } }

/-! ### Requesters and classes (R252, R255) -/

/-- Requesters of the memory system. -/
def reqBar2 : Nat := 0
def reqMgt : Nat := 2
def reqPoison : Nat := 3
def reqDisplay : Nat := 5
def reqComposer : Nat := 6
def reqMigrate (c : Nat) : Nat := 16 + c
def reqLane (l : Nat) : Nat := 256 + l
def reqRecord (k : Nat) : Nat := 512 + k
def reqAcc (k : Nat) : Nat := 520 + k
def reqQueue (q : Nat) : Nat := 1024 + q

/-- Bytes of a row of migration: 8 KiB in each subchannel. -/
def migRowBytes : Nat := 16384

/-- The next row of migration of channel `c` lies within the grant (R269). -/
def State.migWithin (s : State) (c : Nat) : Bool :=
  decide (1000 * migRowBytes ≤ s.fld MEM.CEIL.MIG * (s.now - Tbl.get 0 s.mem.rowAt c))

/-- Service class of a requester (Table 10-3). -/
def State.classOf (s : State) (req : Nat) : Nat :=
  if req = reqBar2 ∨ req = reqMgt then 2
  else if 16 ≤ req ∧ req < 28 then (if s.migWithin (req - 16) then 1 else 2)
  else if req = reqComposer then 1
  else if 1024 ≤ req then (if s.fld (RDO.Q_STATE.GUAR_STATE (req - 1024)) = 1 then 1 else 2)
  else 0

/-- BAR2 and management requests carry the close hint (Table 10-3). -/
def closeHint (req : Nat) : Bool := req == reqBar2 || req == reqMgt

/-- The unmapped-access notice (R249): K is 0 BAR2, 1 readout, 2 management, 3 lane; of the display and the composer, for which the spec
names no code, a free value (log entry 2). -/
def State.unmappedAccess (s : State) (req a : Nat) : State :=
  if req = reqBar2 then s.raise 4 0 0 0 (a / 256)
  else if 1024 ≤ req then s.raise 4 1 0 0 (a / 256)
  else if req = reqMgt then s.raise 4 2 0 0 (a / 256)
  else if req = reqDisplay ∨ req = reqComposer then
    let (k, s) := s.free
    s.raise 4 (k % 256) 0 0 (a / 256)
  else s.raise 4 3 0 0 (a / 256)

/-- The byte at a device address: 0 where unmapped. -/
def State.peek (s : State) (a : Nat) : Byte :=
  match s.phys a with
  | some (c, b) => s.dramByte c b
  | none => 0

/-- `len` bytes from a device address. -/
def State.peekN (s : State) (a len : Nat) : List Byte := (List.range len).map fun i => s.peek (a + i)

/-- Some byte of a range is unmapped or in a poisoned burst: the read is marked poisoned (R249, R265). -/
def State.rangePoisoned (s : State) (a len : Nat) : Bool :=
  (List.range len).any fun i => match s.phys (a + i) with
    | some (c, b) => s.poisoned c b
    | none => true

/-- One device byte written; an unmapped write is discarded (R249). -/
def State.poke (s : State) (a : Nat) (b : Byte) : State :=
  match s.phys a with
  | some (c, p) => s.setDramByte c p b
  | none => s

/-- Bytes written from a device address upward. -/
def State.pokeN : State → Nat → List Byte → State
  | s, _, [] => s
  | s, a, b :: t => (s.poke a b).pokeN (a + 1) t

/-- The bursts that a write covers whole lose their poison; one written in part keeps it (R264). -/
def State.unpoison (s : State) (a len : Nat) : State :=
  let first := (a + 63) / 64
  (List.range ((a + len) / 64 - first)).foldl (fun s i => match s.phys (64 * (first + i)) with
    | some (c, b) => s.setPoison c b false
    | none => s) s

/-- Device ranges of the composed surfaces and the overlay buffers (R311). -/
def State.shownRanges (s : State) : List (Nat × Nat) :=
  let h := s.fld ACC.COMP_SURF.HEIGHT
  let luma := s.fld ACC.COMP_PITCH.LPITCH * h
  let chroma := s.fld ACC.COMP_PITCH.CPITCH * (if s.fld ACC.COMP_CFG.CHROMA = 0 then (h + 1) / 2 else h)
  let ovl := s.fld DSP.OVL_PITCH.PITCH * s.fld DSP.V_ACT_FP.ACTIVE
  [(4096 * s.fld (ACC.COMP_BASE.BASE 0), luma), (4096 * s.fld (ACC.COMP_BASE.BASE 1), chroma),
    (4096 * s.fld (ACC.COMP_BASE.BASE 2), luma), (4096 * s.fld (ACC.COMP_BASE.BASE 3), chroma),
    (4096 * s.fld (DSP.OVL_BASE.BASE 0), ovl), (4096 * s.fld (DSP.OVL_BASE.BASE 1), ovl)]

/-- A write of `len` bytes at `a` may change the picture (R311). -/
def State.touchPicture (s : State) (a len : Nat) : State :=
  if s.shownRanges.any (fun r => decide (a < r.1 + r.2) && decide (r.1 < a + len)) then
    { s with dsp := { s.dsp with dirty := true } }
  else s

/-! ### Reservations and admission (R255 to R257) -/

/-- Sum of a list of fractions. -/
def fracSum (r : Resv) : Nat × Nat := r.foldl (fun x y => (x.1 * y.2 + y.1 * x.2, x.2 * y.2)) (0, 1)

/-- The share of a reservation on each of `n` channels, rounded up to 1 MB/s (R255). -/
def shareOf (n : Nat) (r : Resv) : Nat :=
  let x := fracSum r
  if n = 0 ∨ x.1 = 0 then 0 else (x.1 + x.2 * n - 1) / (x.2 * n)

/-- Total of the shares of a table of reservations. -/
def totalShare (n : Nat) (t : Tbl Resv) : Nat := t.foldl (fun a e => a + shareOf n e.2) 0

/-- The share of the reservation at a key. -/
def State.shareAt (s : State) (k : Nat) : Nat := shareOf s.carriers (Tbl.get [] s.mem.resv k)

/-- The reservation registers follow the reservations held (R273). -/
def State.showResv (s : State) : State :=
  let n := s.carriers
  let s1 := (s.setF MEM.FIXED_RESV.DISPLAY (s.shareAt 32)).setF MEM.FIXED_RESV.COMPOSER (s.shareAt 33)
  let s1 := s1.setF MEM.RDO_RESV.SHARE (totalShare n (s.mem.resv.filter fun e => 64 ≤ e.1))
  let s1 := (List.range 8).foldl (fun x k =>
    x.setF (MEM.SLOT_RESV.SHARE k) (s.shareAt (4 * k) + s.shareAt (4 * k + 1) + s.shareAt (4 * k + 2))) s1
  let total := totalShare n s.mem.resv
  (List.range 12).foldl (fun x c => x.setF (MEM.CH_RESV.SHARE c) (if s.inService c then total else 0)) s1

/-- Reservations put in place. -/
def State.setResv (s : State) (t : Tbl Resv) : State := State.showResv { s with mem := { s.mem with resv := t } }

/-- What an admission reports: KIND, ID, RESULT, WORST, DEMAND, EXCESS and each channel's demand (R257). -/
def State.reportAdmit (s : State) (kind id result demand excess : Nat) : State :=
  let s := ((s.setF MEM.ADMIT.KIND kind).setF MEM.ADMIT.ID id).setF MEM.ADMIT.RESULT result
  let s := s.setF MEM.ADMIT.WORST (s.channels.headD 0)
  let s := (s.setF MEM.ADMIT_DEMAND.DEMAND demand).setF MEM.ADMIT_EXCESS.EXCESS excess
  (List.range 12).foldl (fun x c => x.setF (MEM.CH_ACCT.DEMAND c) (if s.inService c then demand else 0)) s

/-- The admission-refused notice (source 2). -/
def State.admissionRefused (s : State) (kind id excess : Nat) : State := s.raise 2 kind (id % 256) 0 excess

/-- The table with a list of reservations put at their keys. -/
def putResv (t : Tbl Resv) (l : List (Nat × Resv)) : Tbl Resv := l.foldl (fun t e => Tbl.set [] t e.1 e.2) t

/-- Admission of reservations at their keys (R21, R257): accepted when the shares held plus those asked for fit under CEIL on every
in-service channel; refused leaves every reservation unchanged. `mapped` says that every region asked for is mapped, and
`linkExcess` by how much a guarantee passes the PCIe link ceiling (R288). The answer is MEM.ADMIT.RESULT. -/
def State.judgeAdmission (s : State) (kind id : Nat) (asks : List (Nat × Resv)) (mapped : Bool) (linkExcess : Nat) : Nat × State :=
  let t := putResv s.mem.resv asks
  let demand := totalShare s.carriers t
  let ceil := s.fld MEM.CEIL.CEIL
  if mapped = false then (2, (s.reportAdmit kind id 2 demand 0).admissionRefused kind id 0)
  else if ceil < demand then
    (1, (s.reportAdmit kind id 1 demand (demand - ceil)).admissionRefused kind id (demand - ceil))
  else if 0 < linkExcess then (3, (s.reportAdmit kind id 3 demand linkExcess).admissionRefused kind id linkExcess)
  else (0, (s.reportAdmit kind id 0 demand 0).setResv t)

/-- A request joins the requests waiting for admission (R28). -/
def State.submit (s : State) (r : AdmReq) : State := { s with mem := { s.mem with reqs := s.mem.reqs ++ [r] } }

/-! ### Rate meters (R253, R255) -/

/-- The reservation of a requester in MB/s, as a fraction: a lane's from its grant in force or pending and the decimation in force. -/
def State.reqResv (s : State) (req : Nat) : Nat × Nat :=
  if req = reqDisplay then fracSum (Tbl.get [] s.mem.resv 32)
  else if req = reqComposer then fracSum (Tbl.get [] s.mem.resv 33)
  else if 1024 ≤ req then fracSum (Tbl.get [] s.mem.resv (64 + (req - 1024)))
  else if 520 ≤ req then fracSum (Tbl.get [] s.mem.resv (4 * (req - 520) + 2))
  else if 512 ≤ req then fracSum (Tbl.get [] s.mem.resv (4 * (req - 512) + 1))
  else if 256 ≤ req then
    let c := s.chanOf (req - 256)
    (max (s.fld (COD.CH_INFORCE_GRANT.GRANT c)) (s.fld (COD.CH_GRANT.GRANT c)) * 1000, 1024 * (s.fld (COD.CH_INFORCE.DM1 c) + 1))
  else (0, 1)

/-- Level of a requester's meter on channel `c` in 1/1000 byte, 4 KiB deep: filled at its share, a lane's unrounded (R255). -/
def State.meterAt (s : State) (c req : Nat) : Nat :=
  match Tbl.get none s.mem.meters (2048 * c + req) with
  | none => 4096000
  | some (level, at_) =>
    let r := s.reqResv req
    let gain := if 256 ≤ req ∧ req < 512 then r.1 * (s.now - at_) / (r.2 * s.carriers) else shareOf s.carriers [r] * (s.now - at_)
    min 4096000 (level + gain)

/-- Bytes that a request at byte `b` of a channel costs its meter: record overhead counts 128 for each burst written in part, a
read-modify-write (R255). -/
def meterCost (req b len : Nat) : Nat :=
  if 512 ≤ req ∧ req < 520 then
    ((List.range ((b + max len 1 - 1) / 64 + 1 - b / 64)).map fun i =>
      let lo := max b (64 * (b / 64 + i))
      if min (b + len) (64 * (b / 64 + i + 1)) - lo = 64 then 64 else 128).sum
  else len

/-- A request of `len` bytes lies within its requester's meter on the channel. DESIGN CHOICE (log entry 102): the meter must hold all its
bytes; a requester without a reservation has no meter. -/
def State.withinMeter (s : State) (c req len : Nat) : Bool :=
  decide (0 < (s.reqResv req).1) && decide (1000 * len ≤ s.meterAt c req)

/-- A request within its meter draws on it. -/
def State.drawMeter (s : State) (c req len : Nat) : State :=
  if s.withinMeter c req len then
    { s with mem := { s.mem with meters := Tbl.set none s.mem.meters (2048 * c + req) (some (s.meterAt c req - 1000 * len, s.now)) } }
  else s

/-! ### Rows and activations (R254, R262) -/

/-- Key of bank `n` of channel `c`. -/
def bankKey (c n : Nat) : Nat := 256 * c + n

/-- The 32 ms refresh window of a cycle. -/
def refreshWindow (now : Nat) : Nat := now / 32000000

/-- The activations counted in the present window. -/
def State.actsNow (s : State) : List RowActs := if s.mem.actWin = refreshWindow s.now then s.mem.acts else []

/-- A row is activated: counted for its requester in the window, and toward the refresh management its device requires (R262). -/
def State.activate (s : State) (c n row req : Nat) : State :=
  let l := s.actsNow
  let key := bankKey c n
  let mine : RowActs → Bool := fun a => a.bank == key && a.row == row && a.req == req
  let count := ((l.find? mine).map RowActs.count).getD 0 + 1
  let raa := Tbl.get 0 s.mem.raa key + 1
  let rfm := decide (Config.rfmThreshold ≤ raa)
  let s := { s with mem := { s.mem with
    acts := { bank := key, row := row, req := req, count := count } :: l.filter fun a => !mine a
    actWin := refreshWindow s.now
    raa := Tbl.set 0 s.mem.raa key (if rfm then 0 else raa) } }
  if rfm then s.bumpF (MEM.CH_RH.RFM c) 1 else s

/-- The open row of a bank, plus 1. -/
def State.openRow (s : State) (c n : Nat) : Nat := Tbl.get 0 s.mem.open_ (bankKey c n)

/-- An access to a row of a bank: another open row is closed, a row not open is activated, and the row stays open or, with the close hint,
is closed by auto-precharge (R254). -/
def State.touchRow (s : State) (c n row req : Nat) : State :=
  let s := if s.openRow c n = row + 1 then s else s.activate c n row req
  { s with mem := { s.mem with open_ := Tbl.set 0 s.mem.open_ (bankKey c n) (if closeHint req then 0 else row + 1) } }

/-- The rows of a rank's banks are closed before its refresh (R254). -/
def State.closeRank (s : State) (c r : Nat) : State :=
  { s with mem := { s.mem with open_ := s.mem.open_.filter fun e => !(e.1 / 256 == c && e.1 % 128 / 32 == r) } }

/-- The places of `len` bytes from byte `b` of a channel, within a granule: one in each subchannel they touch. -/
def State.places (s : State) (b len : Nat) : List Loc :=
  let bursts := (b + max len 1 - 1) / 64 + 1 - b / 64
  s.locate b :: (if 1 < bursts then [s.locate (b + 64)] else [])

/-- The ranks that serve a place: a write to the row that migration is copying goes to its target as well (R270). -/
def State.serversOf (s : State) (c : Nat) (l : Loc) (wr : Bool) : List Nat :=
  let copying := s.fld (MEM.CH_STATE.MIG_STATE c) == 1 && s.fld (MEM.CH_STATE.MIG_FROM c) == s.physRank c l.rank &&
    migOrder l == s.fld (MEM.CH_MIG_POS.POS c)
  s.rankAt c l :: (if wr && copying then [s.fld (MEM.CH_STATE.MIG_TO c)] else [])

/-- An access of `len` bytes at byte `b` of channel `c`; `wr` a write. -/
def State.access (s : State) (c b len req : Nat) (wr : Bool) : State :=
  (s.places b len).foldl (fun (s : State) l => (s.serversOf c l wr).foldl (fun (s : State) r => s.touchRow c (bankNo l r) l.row req) s)
    (s.drawMeter c req (meterCost req b len))

/-! ### Requests that wait (R253, R259, R260, R262, R263, R268) -/

/-- A retraining pause runs on the channel. -/
def State.pausing (s : State) (c : Nat) : Bool := Tbl.get false s.mem.pause c

/-- The channel accepts no access: its PHY is out of lock or it pauses (R260, R268). -/
def State.chanStops (s : State) (c : Nat) : Bool := (Tbl.get none s.mem.phyLost c).isSome || s.pausing c

/-- A make-up burst runs on a rank, which accepts no access (R259). -/
def State.rankBursts (s : State) (c r : Nat) : Bool := Tbl.get 0 s.mem.burst (rankKey c r) == 2

/-- Requests of `req` to a bank are deferred (R262). -/
def State.bankDeferred (s : State) (c n req : Nat) : Bool := s.mem.throttled.any fun x => x.1 == bankKey c n && x.2.1 == req

/-- A request at byte `b` of channel `c` cannot be served now. -/
def State.stops (s : State) (c b len req : Nat) (wr : Bool) : Bool :=
  s.chanStops c || (s.bit MEM.STATUS.PANIC && s.classOf req == 2) ||
    (s.places b len).any fun l => (s.serversOf c l wr).any fun r => s.rankBursts c r || s.bankDeferred c (bankNo l r) req

/-- An earlier request that waits touches the range: requests for the same bytes are served in order. -/
def State.behind (s : State) (a len : Nat) : Bool :=
  s.mem.held.any fun h => decide (a < h.addr + h.len) && decide (h.addr < a + len)

/-- The channel on which a request within one granule, a write unless said otherwise, has to wait. -/
def State.waitsAt (s : State) (req a len : Nat) (wr : Bool := true) : Option Nat :=
  match s.phys a with
  | some (c, b) => if s.stops c b len req wr || s.behind a len then some c else none
  | none => none

/-- The granules of a range, each with the bytes of the range in it. -/
def granules (a len : Nat) : List (Nat × Nat) :=
  (List.range ((a + len + 4095) / 4096 - a / 4096)).map fun i =>
    let lo := max a ((a / 4096 + i) * 4096)
    (lo, min (a + len) ((a / 4096 + i + 1) * 4096) - lo)

/-- Some part of a request, a read unless said otherwise, has to wait. -/
def State.rangeWaits (s : State) (req a len : Nat) (wr : Bool := false) : Bool :=
  (granules a len).any fun g => (s.waitsAt req g.1 g.2 wr).isSome

/-- Bytes stored at a device address: the bursts covered whole lose their poison, the first one together with the `pre` bytes before it
that its stream has written; and the picture may have changed (R264, R311). -/
def State.store (s : State) (a : Nat) (data : List Byte) (pre : Nat) : State :=
  ((s.pokeN a data).unpoison (a - pre) (data.length + pre)).touchPicture a data.length

/-- A folio moves between two states in the books (R169). -/
def State.moveBook (s : State) (p a b : Nat) : State :=
  let f := Tbl.set 0 s.acq.folios (8 * p + a) (Tbl.get 0 s.acq.folios (8 * p + a) - 1)
  { s with acq := { s.acq with folios := Tbl.set 0 f (8 * p + b) (Tbl.get 0 f (8 * p + b) + 1) } }

/-- A write's acknowledgment. -/
def State.acknowledge (s : State) (ack : Option (Nat × Nat × Nat)) : State :=
  match ack with
  | some (p, a, b) => s.moveBook p a b
  | none => s

/-- A write within one granule is made. -/
def State.serveWrite (s : State) (req a : Nat) (data : List Byte) (pre : Nat) (ack : Option (Nat × Nat × Nat)) : State :=
  match s.phys a with
  | some (c, b) => ((s.access c b data.length req true).store a data pre).acknowledge ack
  | none => (s.unmappedAccess req a).acknowledge ack

/-- A write to DRAM within one granule: it waits, or is made, with an unmapped-access notice where the granule is unmapped (R249). -/
def State.writeGranule (s : State) (req a : Nat) (data : List Byte) (pre : Nat) (ack : Option (Nat × Nat × Nat)) : State :=
  match s.waitsAt req a data.length with
  | some c => { s with mem := { s.mem with held := s.mem.held ++
      [{ chan := c, req := req, at_ := s.now, addr := a, data := some data, len := data.length, pre := pre, ack := ack }] } }
  | none => s.serveWrite req a data pre ack

/-- A write to DRAM, cut at granule boundaries. `fuel` is at least the granules it touches. -/
def State.dramWriteGo : Nat → State → Nat → Nat → List Byte → Nat → State
  | 0, s, _, _, _, _ => s
  | fuel + 1, s, req, a, data, pre =>
    if data.isEmpty then s
    else
      let n := 4096 - a % 4096
      State.dramWriteGo fuel (s.writeGranule req a (data.take n) pre none) req (a + n) (data.drop n) 0

/-- A write of bytes at a device address by a requester, `pre` bytes of its stream standing before it in its first burst (R249, R252). -/
def State.dramWriteAfter (s : State) (req a : Nat) (data : List Byte) (pre : Nat) : State :=
  State.dramWriteGo (data.length / 4096 + 2) s req a data pre

/-- A write of bytes at a device address by a requester (R249, R252). -/
def State.dramWrite (s : State) (req a : Nat) (data : List Byte) : State := s.dramWriteAfter req a data 0

/-- The accesses of a read, with the unmapped-access notice for its first unmapped granule (R249). -/
def State.readAccess (s : State) (req a len : Nat) : State :=
  let gs := granules a len
  let s := gs.foldl (fun (s : State) g => match s.phys g.1 with
    | some (c, b) => s.access c b g.2 req false
    | none => s) s
  match gs.find? fun g => (s.phys g.1).isNone with
  | some g => s.unmappedAccess req g.1
  | none => s

/-- A read of bytes at a device address: the bytes, whether they are marked poisoned, and the state after (R249). -/
def State.dramRead (s : State) (req a len : Nat) : List Byte × Bool × State :=
  (s.peekN a len, s.rangePoisoned a len, s.readAccess req a len)

/-- The byte a device address will hold once the writes that wait have been served: what the unit that wrote it takes it to be. -/
def State.peekAhead (s : State) (a : Nat) : Byte :=
  match s.mem.held.reverse.findSome? fun h => match h.data with
      | some d => if h.addr ≤ a ∧ a < h.addr + h.len then d[a - h.addr]? else none
      | none => none with
  | some b => b
  | none => s.peek a

/-- The bytes a BAR2 read shows: all-ones where unmapped (R427). -/
def State.bar2Bytes (s : State) (a len : Nat) : List Byte :=
  (List.range len).map fun i => match s.phys (a + i) with
    | some (c, b) => s.dramByte c b
    | none => 0xFF

/-- A BAR2 read waits on the channel of its first granule that has to wait, else it completes (R427). -/
def State.bar2Read (s : State) (a len at_ : Nat) : State :=
  match (granules a len).findSome? fun g => s.waitsAt reqBar2 g.1 g.2 false with
  | some c => { s with mem := { s.mem with held := s.mem.held ++
      [{ chan := c, req := reqBar2, at_ := at_, addr := a, data := none, len := len }] } }
  | none =>
    let r := s.dramRead reqBar2 a len
    r.2.2.emit (.completion r.2.1 (s.bar2Bytes a len))

/-- Every burst that `len` bytes at `a`, within one granule, lie in takes the poison pattern (R265, R427). -/
def State.poisonGranuleAt (s : State) (req a len : Nat) : State :=
  match s.phys a with
  | some (c, b) =>
    ((List.range ((b + len + 63) / 64 - b / 64)).foldl (fun (s : State) i => s.setPoison c (b + 64 * i) true)
      (s.access c b len req true)).touchPicture a len
  | none => s.unmappedAccess req a

/-- A write with EP set stores the poison pattern in the bursts it covers, or waits (R427). -/
def State.poisonWrite (s : State) (req a len : Nat) : State :=
  (granules a len).foldl (fun (s : State) g => match s.waitsAt req g.1 g.2 with
    | some c => { s with mem := { s.mem with held := s.mem.held ++
        [{ chan := c, req := req, at_ := s.now, addr := g.1, data := some [], len := g.2, ep := true }] } }
    | none => s.poisonGranuleAt req g.1 g.2) s

/-- A read by a unit that goes on when its bytes come: its granules are accessed, or wait (R253, R268). -/
def State.unitRead (s : State) (req a len : Nat) : State :=
  (granules a len).foldl (fun (s : State) g => match s.waitsAt req g.1 g.2 false with
    | some c => { s with mem := { s.mem with held := s.mem.held ++
        [{ chan := c, req := req, at_ := s.now, addr := g.1, data := none, len := g.2 }] } }
    | none => s.readAccess req g.1 g.2) s

/-- A request that waited is served. -/
def State.serveOne (s : State) (h : Waiting) : State :=
  match h.data with
  | some d => if h.ep then s.poisonGranuleAt h.req h.addr h.len else s.serveWrite h.req h.addr d h.pre h.ack
  | none => if h.req = reqBar2 then s.bar2Read h.addr h.len h.at_ else s.readAccess h.req h.addr h.len

/-- The group of R253 in which a waiting request stands, and within it the display's first while panic is raised, in groups 1 and 4
(R263), row hits first but for the aged, then the oldest. -/
def State.urgency (s : State) (h : Waiting) : Nat × Nat × Nat :=
  let cls := s.classOf h.req
  let limit := if cls = 0 then s.fld MEM.AGE.CLS0 else if cls = 1 then s.fld MEM.AGE.CLS1 else s.fld MEM.AGE.CLS2
  let migrates := decide (16 ≤ h.req) && decide (h.req < 28)
  let within := (migrates && s.migWithin (h.req - 16)) || s.withinMeter h.chan h.req (meterCost h.req h.addr h.len)
  let first := h.req == reqDisplay && s.bit MEM.STATUS.PANIC
  let g := if cls = 0 ∧ within = true then 1 else if h.at_ + 10 * limit < s.now then 2
    else if cls = 1 ∧ within = true then 3 else if cls = 0 then 4 else if cls = 1 then 5 else 6
  let hit := match s.phys h.addr with
    | some (c, b) => (s.places b h.len).all fun l => s.openRow c (bankNo l (s.rankAt c l)) == l.row + 1
    | none => false
  (g, if (g = 1 ∨ g = 4) ∧ first = true then 0 else if g = 2 ∨ hit = true then 1 else 2, h.at_)

/-- One urgency goes before another. -/
def moreUrgent (x y : Nat × Nat × Nat) : Bool :=
  decide (x.1 < y.1) || (x.1 == y.1 && (decide (x.2.1 < y.2.1) || (x.2.1 == y.2.1 && decide (x.2.2 < y.2.2))))

/-- An earlier request of the list touches the same bytes. -/
def hasEarlier (l : List Waiting) (i : Nat) (h : Waiting) : Bool :=
  (l.take i).any fun x => decide (h.addr < x.addr + x.len) && decide (x.addr < h.addr + h.len)

/-- The place of the request of channel `c` that is served next, `inOrder` the oldest, else by R253; none while none can be. -/
def State.nextWaiting (s : State) (c : Nat) (inOrder : Bool) : Option Nat :=
  let can := s.mem.held.zipIdx.filter fun x => x.1.chan == c && !hasEarlier s.mem.held x.2 x.1 && (match s.phys x.1.addr with
    | some (ch, b) => !s.stops ch b x.1.len x.1.req x.1.data.isSome
    | none => true)
  (can.foldl (fun (b : Option (Waiting × Nat)) x => match b with
    | none => some x
    | some y => if !inOrder && moreUrgent (s.urgency x.1) (s.urgency y.1) then some x else some y) none).map Prod.snd

/-- The requests of channel `c` that can be served are served one after another. `fuel` is at least their number. -/
def State.serveWaiting : Nat → State → Nat → Bool → State
  | 0, s, _, _ => s
  | fuel + 1, s, c, inOrder =>
    match s.nextWaiting c inOrder with
    | none => s
    | some i => match s.mem.held[i]? with
      | none => s
      | some h => State.serveWaiting fuel (State.serveOne { s with mem := { s.mem with held := s.mem.held.eraseIdx i } } h) c inOrder

/-- What waited on channel `c` is served as R253 orders it. -/
def State.resumeChan (s : State) (c : Nat) : State := s.serveWaiting s.mem.held.length c false

/-- What waited on any channel is served. -/
def State.resumeAll (s : State) : State := (List.range 12).foldl State.resumeChan s

/-! ### Refresh and retraining (R259, R260) -/

/-- CH_REFRESH.POSTPONED and MAX follow the ranks. -/
def State.showPostponed (s : State) (c : Nat) : State :=
  let p := (List.range 4).foldl (fun m r => max m (Tbl.get 0 s.mem.postponed (rankKey c r))) 0
  let s := s.setF (MEM.CH_REFRESH.POSTPONED c) p
  if s.fld (MEM.CH_REFRESH.MAX c) < p then s.setF (MEM.CH_REFRESH.MAX c) p else s

/-- The refreshes postponed on a rank set. -/
def State.setPostponed (s : State) (c r n : Nat) : State :=
  State.showPostponed { s with mem := { s.mem with postponed := Tbl.set 0 s.mem.postponed (rankKey c r) n } } c

/-- A make-up burst runs on some rank of the channel. -/
def State.bursting (s : State) (c : Nat) : Bool := (List.range 4).any (s.rankBursts c)

/-- The state of a rank's make-up burst set. -/
def State.setBurst (s : State) (c r v : Nat) : State :=
  { s with mem := { s.mem with burst := Tbl.set 0 s.mem.burst (rankKey c r) v } }

/-- A make-up burst starts on a rank, or waits for the retraining pause under way (R260); it issues every refresh postponed. -/
def State.startBurst (s : State) (c r : Nat) : State :=
  if Tbl.get 0 s.mem.burst (rankKey c r) = 2 then s
  else if s.pausing c then s.setBurst c r 1
  else
    let s := ((s.setBurst c r 2).bumpF (MEM.CH_REFRESH.MAKEUP c) 1).setPostponed c r 0
    State.closeRank { s with mem := { s.mem with burstAt := Tbl.set 0 s.mem.burstAt (rankKey c r) (s.now + 1) } } c r

/-- Rank `r` of channel `c` is powered: there, and not a rank that the spare has replaced (R269 step 4). -/
def State.rankThere (s : State) (c r : Nat) : Bool :=
  s.inService c && decide (r < s.fld MEM.CFG.RANKS) &&
    !(s.fld (MEM.CH_STATE.RANK c) / 4 ^ r % 4 == 2 && !(s.migrated c && s.fld (MEM.CH_STATE.MIG_FROM c) == r))

/-- A rank's refresh falls due: issued, or postponed while class-0 requests wait; the ninth starts a make-up burst (R259). -/
def effRefreshDue (c r : Nat) (busy : Bool) (s : State) : State :=
  if s.rankThere c r && !s.dev.sleepMem then
    let n := Tbl.get 0 s.mem.postponed (rankKey c r)
    if busy then if n < 8 then s.setPostponed c r (n + 1) else s.startBurst c r else s.closeRank c r
  else s

/-- A rank with postponed refreshes and no class-0 request waiting starts a make-up burst (R259). -/
def effMakeupBurst (c r : Nat) (s : State) : State :=
  if s.rankThere c r && decide (0 < Tbl.get 0 s.mem.postponed (rankKey c r)) then s.startBurst c r else s

/-- A make-up burst ends; the rank accepts accesses again, and what waited for it is served (R259). -/
def State.endBurst (s : State) (c r : Nat) : State := (s.setBurst c r 0).resumeChan c

/-- MAKEUP_BURST_END: a burst ends within 4.0 us of its start (R259). -/
def effMakeupBurstEnd (c r : Nat) (s : State) : State :=
  if s.rankBursts c r && decide (s.now < Tbl.get 0 s.mem.burstAt (rankKey c r) + 4000) then s.endBurst c r else s

/-- A DRAM channel an action names can be used (Table 02-4). -/
def State.chanIdle (s : State) (o : Occ) : Bool := !s.pausing (o.arg % 16) && !s.bursting (o.arg % 16)

/-- The training sequencer restarts at its next request when a machine check has stopped it (R333). -/
def State.restartTraining (s : State) : State :=
  let x := s.sunit 68
  if x.st = 2 then s.setUnit 68 { x with st := 4, pc := 0, stack := [], handler := 0, bounds := 0 } else s

/-- A DRAM_RETRAIN dispatched by entry `n` starts a retraining pause; refused on a channel not in service (R260, log entry 22). With
the training sequencer withdrawn it completes at once without a pause (R333). -/
def effActionDramRetrain (n : Nat) (s : State) : State :=
  s.runAction n 10 s.chanIdle fun o s =>
    let c := o.arg % 16
    if s.inService c = false then (some 0, s)
    else if (s.sunit 68).st = 3 then (none, s)
    else
      let s := { s with mem := { s.mem with pause := Tbl.set false s.mem.pause c true }
                        seq := { s.seq with training := withBit s.seq.training c } }
      (none, s.restartTraining.seqRequest 68 1)

/-- A REFRESH_MAKEUP dispatched by entry `n` starts a make-up burst on every powered rank of the channel (R259, R269, log entry 22). -/
def effActionRefreshMakeup (n : Nat) (s : State) : State :=
  s.runAction n 11 s.chanIdle fun o s =>
    let c := o.arg % 16
    if s.inService c then (none, ((List.range 4).filter (s.rankThere c)).foldl (fun s r => s.startBurst c r) s) else (some 0, s)

/-- The make-up bursts that wait for the channel's pause start. -/
def State.startWaiting (s : State) (c : Nat) : State :=
  (List.range 4).foldl (fun s r => if Tbl.get 0 s.mem.burst (rankKey c r) = 1 then s.startBurst c r else s) s

/-! ### Row disturbance (R262) -/

/-- Row `row` of bank `n` of channel `c` has been activated more than ACT_TH times by the requester in the window (R262). -/
def State.overActive (s : State) (c n req row : Nat) : Bool :=
  s.actsNow.any fun a => a.bank == bankKey c n && a.row == row && a.req == req && decide (s.fld MEM.LIMITS.ACT_TH < a.count)

/-- ROW_THROTTLE: a requester that has passed ACT_TH activations of row `row` has its requests to the bank deferred for THROTTLE us;
class-0 streams are exempt (R262). `n` is the bank: 128 subchannel + 32 rank + 4 bank group + bank. DEDUCED (log entry 119): the notice is
logged as R414 says, when ROUTE[5].LOG is 1. -/
def effRowThrottle (c n req row : Nat) (s : State) : State :=
  if s.inService c && decide (n < 256) && s.classOf req != 0 && s.overActive c n req row && !s.bankDeferred c n req then
    let until_ := s.now + s.fld MEM.LIMITS.THROTTLE * cyclesPerUs
    let s := { s with mem := { s.mem with throttled := (bankKey c n, req, until_) :: s.mem.throttled } }
    (s.bumpF (MEM.CH_RH.THROTTLES c) 1).raise 5 0 c n 0
  else s

/-- The THROTTLE period of deferred requesters ends, and what waited for it is served (R262). -/
def effThrottleEnd (s : State) : State :=
  State.resumeAll { s with mem := { s.mem with throttled := s.mem.throttled.filter fun x => decide (s.now < x.2.2) } }

/-! ### Ranks (R264, R266, R267, R269) -/

/-- State of rank `r` of channel `c`: 0 good, 1 DEGRADED, 2 retired, 3 spare. -/
def State.rankState (s : State) (c r : Nat) : Nat := s.fld (MEM.CH_STATE.RANK c) / 4 ^ r % 4

/-- The state of a rank set. -/
def State.setRank (s : State) (c r v : Nat) : State :=
  s.setF (MEM.CH_STATE.RANK c) (s.fld (MEM.CH_STATE.RANK c) - s.rankState c r * 4 ^ r + v * 4 ^ r)

/-- The rank-change notice. -/
def State.rankChange (s : State) (c r k : Nat) : State := s.raise (138 + 4 * c) k r 0 0

/-- The channel has a spare that is not used up. -/
def State.spareFree (s : State) (c : Nat) : Bool := s.bit MEM.CFG.SPARE && !Tbl.get false s.mem.spareUsed c

/-- A rank is retired and its migration to the spare starts (R267, Table 10-6 step 1). -/
def State.retireRank (s : State) (c r : Nat) : State :=
  let sp := s.spareRank
  let s := { s with mem := { s.mem with spareUsed := Tbl.set false s.mem.spareUsed c true
                                        retiredAt := Tbl.set 0 s.mem.retiredAt c (s.now + 1)
                                        rowAt := Tbl.set 0 s.mem.rowAt c s.now } }
  let s := (s.setRank c r 2).setF (MEM.CH_STATE.MIG_FROM c) r
  let s := ((s.setF (MEM.CH_STATE.MIG_TO c) sp).setF (MEM.CH_STATE.MIG_STATE c) 1).setF (MEM.CH_STATE.MIG_PCT c) 0
  let s := (s.setF (MEM.CH_MIG_POS.POS c) 0).setF (MEM.CH_MIG_TOTAL.TOTAL c) (bankGroups * banksPerGroup * s.rowsPerBank)
  (s.setF MEM.STATUS.MIGRATING 1).rankChange c r 0

/-- MEM.STATUS.MIGRATING follows the channels. -/
def State.showMigrating (s : State) : State :=
  s.setB MEM.STATUS.MIGRATING ((List.range 12).any fun c =>
    s.fld (MEM.CH_STATE.MIG_STATE c) == 1 || s.fld (MEM.CH_STATE.MIG_STATE c) == 2)

/-- A rank without a spare is marked DEGRADED at UE_TH uncorrectable errors or when failing (R267). -/
def State.degrade (s : State) (c p : Nat) : State :=
  if (2 * s.fld MEM.LIMITS.UE_TH ≤ Tbl.get 0 s.mem.ue (rankKey c p) ∨ Tbl.get false s.mem.failing (rankKey c p) = true) ∧
      s.rankState c p ≠ 1 then (s.setRank c p 1).rankChange c p 2 else s

/-- The target of a running migration fails: migration stops where it is, the channel has no spare, and both ranks stay in service
without one (R267, R270). -/
def State.targetFails (s : State) (c : Nat) : State :=
  let r := s.fld (MEM.CH_STATE.MIG_FROM c)
  let sp := s.fld (MEM.CH_STATE.MIG_TO c)
  let s := { s with mem := { s.mem with stuck := Tbl.set false s.mem.stuck c true } }
  let s := ((s.setF (MEM.CH_STATE.MIG_STATE c) 0).rankChange c sp 3).showMigrating
  ((s.setRank c r 0).setRank c sp 0).degrade c r |>.degrade c sp

/-- A higher-numbered rank has taken the channel's spare in this very cycle, before a row was copied: of two ranks that fail together
the lower-numbered takes it (R272). -/
def State.spareContested (s : State) (c p : Nat) : Bool :=
  Tbl.get 0 s.mem.retiredAt c == s.now + 1 && s.fld (MEM.CH_STATE.MIG_STATE c) == 1 &&
    decide (p < s.fld (MEM.CH_STATE.MIG_FROM c)) && s.fld (MEM.CH_MIG_POS.POS c) == 0

/-- Physical rank `p` fails (R267): retired onto an unused spare, else it stays in service. -/
def State.rankFails (s : State) (c p : Nat) : State :=
  let migrating := s.fld (MEM.CH_STATE.MIG_STATE c) == 1 || s.fld (MEM.CH_STATE.MIG_STATE c) == 2
  if migrating && s.fld (MEM.CH_STATE.MIG_TO c) == p then s.targetFails c
  else if s.rankState c p = 2 ∨ s.rankState c p = 3 then s
  else if s.spareFree c then s.retireRank c p
  else if s.spareContested c p then
    let q := s.fld (MEM.CH_STATE.MIG_FROM c)
    ((s.setRank c q 0).retireRank c p).degrade c q
  else s.degrade c p

/-- The times of the last second in a list. -/
def lastSecond (now : Nat) (l : List Nat) : List Nat := l.filter fun t => decide (now < t + 1000000000)

/-- A corrected error: counted, and the correctable-rate notice when the rank passes CE_TH, 1000, in one second
(R264, log entry 22). -/
def effCorrectedError (c r : Nat) (s : State) : State :=
  if s.rankThere c r then
    let l := s.now :: lastSecond s.now (Tbl.get [] s.mem.ceTimes (rankKey c r))
    let s := { s with mem := { s.mem with ceTimes := Tbl.set [] s.mem.ceTimes (rankKey c r) l } }
    let s := s.bumpF (MEM.CH_ECC.CE c) 1
    if l.length = 1001 then s.raise (136 + 4 * c) 0 r 0 0 else s
  else s

/-- A row can be copied now: the channel serves accesses, neither rank is in a make-up burst, and under panic the row is class 1 (R259,
R263, R269, R272). -/
def State.rowMoves (s : State) (c : Nat) : Bool :=
  !s.chanStops c && !s.rankBursts c (s.fld (MEM.CH_STATE.MIG_FROM c)) && !s.rankBursts c (s.fld (MEM.CH_STATE.MIG_TO c)) &&
    (!s.bit MEM.STATUS.PANIC || s.classOf (reqMigrate c) == 1)

/-- The accesses that copy the row at POS: it is read from the retired rank and written to the target, in both subchannels (R252,
R269). -/
def State.copyMigRow (s : State) (c : Nat) : State :=
  let pos := s.fld (MEM.CH_MIG_POS.POS c)
  let place : Nat → Loc := fun sub =>
    { sub := sub, col := 0, rank := s.fld (MEM.CH_STATE.MIG_FROM c), bg := pos % 32 / 4, bank := pos % 4, row := pos / 32 }
  [0, 1].foldl (fun (s : State) sub =>
    let l := place sub
    (s.touchRow c (bankNo l l.rank) l.row (reqMigrate c)).touchRow c (bankNo l (s.fld (MEM.CH_STATE.MIG_TO c))) l.row (reqMigrate c)) s

/-- A row has been copied to the spare; at TOTAL the target replaces the rank (Table 10-6 steps 3 and 4). -/
def effMigrationRowDone (c : Nat) (s : State) : State :=
  if s.inService c && s.fld (MEM.CH_STATE.MIG_STATE c) == 1 && !s.dev.sleepMem && s.rowMoves c then
    let s := s.copyMigRow c
    let s := { s with mem := { s.mem with rowAt := Tbl.set 0 s.mem.rowAt c s.now } }
    let pos := s.fld (MEM.CH_MIG_POS.POS c) + 1
    let total := s.fld (MEM.CH_MIG_TOTAL.TOTAL c)
    let s := (s.setF (MEM.CH_MIG_POS.POS c) pos).setF (MEM.CH_STATE.MIG_PCT c) (100 * pos / total)
    if total ≤ pos then
      let r := s.fld (MEM.CH_STATE.MIG_FROM c)
      let sp := s.fld (MEM.CH_STATE.MIG_TO c)
      let s := { s with mem := { s.mem with repl := Tbl.set 0 s.mem.repl (rankKey c r) (sp + 1) } }
      let s := (s.setRank c sp 0).setF (MEM.CH_STATE.MIG_STATE c) 3
      s.showMigrating.rankChange c r 1
    else s
  else s

/-! ### PHY lock and panic (R263, R268) -/

/-- A channel's PHY loses lock: its requests are held (R268). -/
def effPhyLockLost (c : Nat) (s : State) : State :=
  if s.inService c && (Tbl.get none s.mem.phyLost c).isNone then
    { s with mem := { s.mem with phyLost := Tbl.set none s.mem.phyLost c (some s.now) } }
  else s

/-- The requests that wait on a lost channel: writes are discarded, reads complete with data marked poisoned, those of a unit of the device
where that unit takes them (R268). -/
def State.dropWaiting (s : State) (c : Nat) : State :=
  let mine := s.mem.held.filter fun x => x.chan == c
  let s := { s with mem := { s.mem with held := s.mem.held.filter (fun x => x.chan != c)
                                        phyLost := Tbl.set none s.mem.phyLost c none } }
  mine.foldl (fun s x => match x.data with
    | some _ => s
    | none => if x.req ≠ reqBar2 then s else s.emit (.completion true ((List.range x.len).map fun i => match s.phys (x.addr + i) with
        | some (ch, b) => if ch = c then 0xFF else s.dramByte ch b
        | none => 0xFF))) s

/-- The PHY regains lock within 10 us: the held requests are served in order (R268). -/
def effPhyLockRegained (c : Nat) (s : State) : State :=
  match Tbl.get none s.mem.phyLost c with
  | some t =>
    if s.inService c ∧ s.now ≤ t + 10 * cyclesPerUs then
      State.serveWaiting s.mem.held.length { s with mem := { s.mem with phyLost := Tbl.set none s.mem.phyLost c none } } c true
    else s
  | none => s

/-- The display fetches: ACTIVE or PSR_ENTRY (R312). -/
def State.fetching (s : State) : Bool := s.fld DSP.STATUS.STATE == 2 || s.fld DSP.STATUS.STATE == 3

/-- Panic is raised (R263, R309). -/
def State.panicUp (s : State) : State :=
  if s.bit MEM.STATUS.PANIC then s else ((s.setF MEM.STATUS.PANIC 1).setF DSP.STATUS.PANIC 1).bumpF MEM.PANIC.COUNT 1

/-- The display's fetch buffer falls below its panic level: panic is raised (R263, R309); it cannot be in PSR (R312). -/
def effDisplayPanicRaise (s : State) : State :=
  if s.fetching && s.running && !s.bit MEM.STATUS.PANIC then
    s.panicUp.setF DSP.FETCH.LEVEL (s.fld DSP.FETCH.PANIC - 1)
  else s

/-- The fetch buffer is back at its panic level: panic is released (R309). -/
def effDisplayPanicRelease (s : State) : State :=
  if s.bit MEM.STATUS.PANIC then
    (((s.setF MEM.STATUS.PANIC 0).setF DSP.STATUS.PANIC 0).setF DSP.FETCH.LEVEL (s.fld DSP.FETCH.PANIC)).resumeAll
  else s

/-- Where panic stood and stands no more, since fetch has stopped, what waited for its end is served (R263, R312). -/
def State.afterPanic (s : State) (before : Bool) : State := if before && !s.bit MEM.STATUS.PANIC then s.resumeAll else s

/-- The counters that MEM.CMD.CLR_COUNTS clears (R273). -/
def memCounters : List Fld :=
  MEM.PANIC.COUNT :: (List.range 12).flatMap fun c =>
    [MEM.CH_ECC.CE c, MEM.CH_ECC.UE c, MEM.CH_CAPAR.PARITY c, MEM.CH_CAPAR.RETRAIN_FAIL c, MEM.CH_CAPAR.CONSEC c,
      MEM.CH_REFRESH.MAKEUP c, MEM.CH_RETRAIN.COUNT c, MEM.CH_RH.THROTTLES c, MEM.CH_RH.RFM c]

/-- MEM.CMD.CLR_COUNTS (R273). -/
def effMemClrCounts (s : State) : State := if s.served 0x90008 then s.clearCounts memCounters else s

def execRefreshDue (c r : Nat) (busy : Bool) (s : State) : Res := .next (effRefreshDue c r busy s)
def execMakeupBurst (c r : Nat) (s : State) : Res := .next (effMakeupBurst c r s)
def execMakeupBurstEnd (c r : Nat) (s : State) : Res := .next (effMakeupBurstEnd c r s)
def execActionDramRetrain (n : Nat) (s : State) : Res := .next (effActionDramRetrain n s)
def execActionRefreshMakeup (n : Nat) (s : State) : Res := .next (effActionRefreshMakeup n s)
def execRowThrottle (c n req row : Nat) (s : State) : Res := .next (effRowThrottle c n req row s)
def execThrottleEnd (s : State) : Res := .next (effThrottleEnd s)
def execCorrectedError (c r : Nat) (s : State) : Res := .next (effCorrectedError c r s)
def execMigrationRowDone (c : Nat) (s : State) : Res := .next (effMigrationRowDone c s)
def execPhyLockLost (c : Nat) (s : State) : Res := .next (effPhyLockLost c s)
def execPhyLockRegained (c : Nat) (s : State) : Res := .next (effPhyLockRegained c s)
def execDisplayPanicRaise (s : State) : Res := .next (effDisplayPanicRaise s)
def execDisplayPanicRelease (s : State) : Res := .next (effDisplayPanicRelease s)
def execMemClrCounts (s : State) : Res := .next (effMemClrCounts s)

end Sys2Proof.Machine
end

