-- ==== Sys2Proof/Machine/Coder.lean ====
section
/-!
DEFINITION. The sample coder: block modes and formats, the choice of a mode under the write grant, reconstruction, the stored
stream of a channel and its segments (R171 to R188), and the live changes of D, φ and G (R189, R190).
-/

namespace Sys2Proof.Machine

/-! ### Block format (R176 to R180) -/

/-- The coded values of a block (R177): every position with H = 0, the even ones with H = 1, each shifted right by K. -/
def codedValues (x : List Int) (k h : Nat) : List Int :=
  let kept := if h = 0 then x else (List.range 32).map fun m => x.getD (2 * m) 0
  kept.map fun v => v / 2 ^ k

/-- wrap(v, w) of R178. -/
def wrapW (v : Int) (w : Nat) : Int := (v + 2 ^ (w - 1)) % 2 ^ w - 2 ^ (w - 1)

/-- The mapped differences u of a block (R178 steps 2 and 3). -/
def mappedDiffs (w : Nat) : List Int → List Nat
  | a :: b :: t =>
    let d := wrapW (b - a) w
    (if 0 ≤ d then (2 * d).toNat else (-2 * d - 1).toNat) :: mappedDiffs w (b :: t)
  | _ => []

/-- Bytes of a bit count. -/
def bytesOf (bits : Nat) : Nat := (bits + 7) / 8

/-- Size of a block in packed form (R179). -/
def packedSize (n w : Nat) : Nat := 1 + bytesOf (n * w)

/-- Size of a block in Rice form with parameter `p` (R179). -/
def riceSize (us : List Nat) (w p : Nat) : Nat := 1 + bytesOf (w + (us.map fun u => u / 2 ^ p + 1 + p).sum)

/-- The smallest form of a block for given K and H: its size and its P; on equal sizes the packed form first, then the lowest P
(R179). -/
def bestForm (x : List Int) (k h : Nat) : Nat × Nat :=
  let ys := codedValues x k h
  let w := 12 - k
  let us := mappedDiffs w ys
  (List.range w).foldl (fun b p => if riceSize us w p < b.1 then (riceSize us w p, p) else b) (packedSize ys.length w, 15)

/-- The K and H of the choices of R183, in order. -/
def modeOrder : List (Nat × Nat) := [(0, 0), (1, 0), (2, 0), (3, 0), (4, 0), (0, 1), (1, 1), (2, 1), (3, 1), (4, 1)]

/-- The K and H chosen for block `b` of a frame with `r` bytes left: the first mode that fits, at worst the last (R19, R183, R184). -/
def chooseMode (x : List Int) (r b : Nat) : Nat × Nat :=
  let v := r - 33 * (63 - b)
  (modeOrder.find? fun m => decide ((bestForm x m.1 m.2).1 ≤ v)).getD (4, 1)

/-- `w` bits of a value, least significant first. -/
def bitsLsb (w : Nat) (v : Nat) : List Bool := (List.range w).map fun i => v.testBit i

/-- Bits packed into bytes, bit j in bit j mod 8 of byte j div 8, zero-padded (R178). -/
def packBits : Nat → List Bool → List Byte
  | 0, _ => []
  | n + 1, bs =>
    BitVec.ofNat 8 ((List.range 8).foldl (fun a i => if bs.getD i false then a + 2 ^ i else a) 0) :: packBits n (bs.drop 8)

/-- The bytes of a block coded with K, H and P (R176, R178). -/
def encodeBlock (x : List Int) (k h p : Nat) : List Byte :=
  let ys := codedValues x k h
  let w := 12 - k
  let bits :=
    if p = 15 then ys.flatMap fun y => bitsLsb w (toTwos w y)
    else bitsLsb w (toTwos w (ys.headD 0)) ++
      (mappedDiffs w ys).flatMap fun u => List.replicate (u / 2 ^ p) false ++ [true] ++ bitsLsb p (u % 2 ^ p)
  BitVec.ofNat 8 (p + 16 * k + 128 * h) :: packBits (bytesOf bits.length) bits

/-- Bit `j` of the stream of a block (R178). -/
def streamBit (body : List Byte) (j : Nat) : Bool := ((body.getD (j / 8) 0).toNat).testBit (j % 8)

/-- read(b) of R180 at bit `j`. -/
def readBits (body : List Byte) (j b : Nat) : Nat :=
  (List.range b).foldl (fun a i => if streamBit body (j + i) then a + 2 ^ i else a) 0

/-- The number of 0 bits from bit `j` on, up to `fuel`. -/
def zerosAt (body : List Byte) (j : Nat) : Nat → Nat
  | 0 => 0
  | fuel + 1 => if streamBit body j then 0 else 1 + zerosAt body (j + 1) fuel

/-- The values of a Rice block after y[0] (R180). -/
def riceValues (body : List Byte) (w p : Nat) : Nat → Nat → Int → List Int
  | 0, _, _ => []
  | n + 1, j, prev =>
    let q := zerosAt body j (8 * body.length)
    let u := q * 2 ^ p + readBits body (j + q + 1) p
    let d : Int := if u % 2 = 0 then ((u / 2 : Nat) : Int) else -(((u + 1) / 2 : Nat) : Int)
    let y := wrapW (prev + d) w
    y :: riceValues body w p n (j + q + 1 + p) y

/-- The value of every position of a block; none at an absent position (R180). -/
def decodeBlock (blk : List Byte) : List (Option Int) :=
  let hdr := (blk.headD 0).toNat
  let body := blk.drop 1
  let p := hdr % 16
  let k := hdr / 16 % 8
  let h := hdr / 128
  let n := if h = 0 then 64 else 32
  let w := 12 - k
  let ys := if p = 15 then (List.range n).map fun m => ofTwos w (readBits body (m * w) w)
            else let y0 := ofTwos w (readBits body 0 w)
                 y0 :: riceValues body w p (n - 1) w y0
  let vs := ys.map fun y => if k = 0 then y else y * 2 ^ k + 2 ^ (k - 1)
  if h = 0 then vs.map some else vs.flatMap fun v => [some v, none]

/-! ### Folio geometry (R146, R147) -/

/-- Segment pitch SP in bytes of a channel (R146), with the largest grant that its plan's image allows. -/
def segPitch (n : Nat) (c : Chan) : Nat :=
  let a := 64 * n
  let b := (c.p + c.h + a - 1) / a + (c.q + a - 1) / a + 9
  let w := min (97 * b) (c.gMax * ((b + 63) / 64 + 1))
  64 * ((8 + w + 63) / 64)

/-- Fc: the folio size a channel requires (R146). -/
def folioNeed (n : Nat) (c : Chan) : Nat := 4096 * ((64 + n * segPitch n c + 4095) / 4096)

/-- The plan of a slot. -/
def State.slotOf? (s : State) (k : Nat) : Option Slot := Tbl.get none s.acq.slots k

/-- A library plan. -/
def State.planOf (s : State) (p : Nat) : Option Plan := Tbl.get none s.acq.lib p

/-- The channel of a plan. -/
def Plan.chan? (pl : Plan) (c : Nat) : Option Chan := pl.chans.find? fun x => x.ch == c

/-- Channels of a plan. -/
def Plan.k (pl : Plan) : Nat := pl.chans.length

/-- The position of a channel, in ascending channel order, among its plan's channels (R145). -/
def Plan.posOf (pl : Plan) (c : Nat) : Nat := (pl.chans.filter fun x => decide (x.ch < c)).length

/-- The sets without a trigger that serve arm `gen` of a slot, oldest first. -/
def Slot.setsOf (sl : Slot) (gen : Nat) : List Nat := (sl.unbound.filter fun x => x.2 == gen).map Prod.fst

/-- Triggers of arm `gen` in the slot's FIFO. -/
def Slot.queued (sl : Slot) (gen : Nat) : Nat := (sl.fifo.filter fun t => t.gen == gen).length

/-- Device address of folio `f` of a plan (R145). -/
def Plan.folioAddr (pl : Plan) (f : Nat) : Nat := 4096 * pl.ringBase + f * (4096 * pl.f)

/-- Device address of the catalogue entry of folio `f` (R145). -/
def Plan.entryAddr (pl : Plan) (f : Nat) : Nat := 4096 * pl.catBase + 32 * f

/-- A slot put in place. -/
def State.setSlot (s : State) (k : Nat) (sl : Option Slot) : State :=
  { s with acq := { s.acq with slots := Tbl.set none s.acq.slots k sl } }

/-- The active slot that holds channel `c`. -/
def State.slotHolding (s : State) (c : Nat) : Option Nat :=
  (List.range 8).find? fun k => match s.slotOf? k with
    | some sl => match s.planOf sl.plan with
      | some pl => (pl.chan? c).isSome
      | none => false
    | none => false

/-- The slot in which plan `p` is active. -/
def State.slotOfPlan (s : State) (p : Nat) : Option Nat :=
  (List.range 8).find? fun k => match s.slotOf? k with
    | some sl => sl.plan == p
    | none => false

/-! ### The stored stream (R171 to R173, R183 to R187) -/

/-- Samples per tick of channel `c`: 40 for each lane, the ratio of the sampling clock to the tick clock (R40, R62). -/
def State.spt (s : State) (c : Nat) : Nat := 40 * s.lanes c

/-- Bytes of a segment written circularly into its data area from offset `off` by a lane: its writes are whole bursts but for the first
and the last (R255, R264). -/
def State.writeCircular (s : State) (lane base area off : Nat) (bs : List Byte) : State :=
  let n := area - off
  let pre := if base ≤ (base + off) / 64 * 64 then (base + off) % 64 else 0
  (s.dramWriteAfter (reqLane lane) (base + off) (bs.take n) pre).dramWrite (reqLane lane) base (bs.drop n)

/-- Device address of the data area of segment `seg` of a channel's folio in a set. -/
def State.areaAddr (s : State) (pl : Plan) (set pos ch seg : Nat) : Nat :=
  match pl.chan? ch with
  | some c => pl.folioAddr (set * pl.k + pos) + 64 + seg * segPitch (s.lanes ch) c + 8
  | none => 0

/-- Size of the data area of a segment. -/
def State.areaSize (s : State) (pl : Plan) (ch : Nat) : Nat :=
  match pl.chan? ch with
  | some c => segPitch (s.lanes ch) c - 8
  | none => 1

/-- The newest blocks whose bytes fit an area written circularly: older ones have been overwritten (R146, log entry 70). -/
def keepLast (area : Nat) (l : List Blk) : List Blk :=
  if (l.map fun b => b.bytes.length).sum ≤ area then l else match l with
    | [] => []
    | _ :: t => keepLast area t

/-- A coded block appended to a segment's area of a set: written to DRAM and, when it belongs to what the segment holds, listed. -/
def State.appendBlk (s : State) (pl : Plan) (set pos ch seg : Nat) (g : Seg) (b : Blk) (hold : Bool) : Seg × State :=
  let area := s.areaSize pl ch
  let off := g.wptr % area
  let s' := s.writeCircular (s.slotLane ch seg) (s.areaAddr pl set pos ch seg) area off b.bytes
  ({ g with wptr := g.wptr + b.bytes.length, blks := if hold then keepLast area (g.blks ++ [{ b with off := off }]) else g.blks }, s')

/-- The open record of a slot's channel and arm that block `u` belongs to: the first, in commit order, that ends after it. -/
def State.recFor (s : State) (k gen ch : Nat) (u : Int) : Option Rec :=
  s.acq.recs.find? fun r => r.slot == k && r.gen == gen && r.ch == ch && r.ended.isNone && decide (64 * r.n * u < r.e)

/-- A record replaced in the list of open records. -/
def State.putRec (s : State) (r : Rec) : State :=
  { s with acq := { s.acq with recs := s.acq.recs.map fun x => if x.accession = r.accession then r else x } }

/-- A slot's stream replaced; its key is 64 arm + channel. -/
def State.putStored (s : State) (k key : Nat) (st : Option Stored) : State :=
  match s.slotOf? k with
  | some sl => s.setSlot k (some { sl with streams := Tbl.set none sl.streams key st })
  | none => s

/-- The block has been lost in the lane's elastic buffer (R23). -/
def Stored.dropped (st : Stored) (seg : Nat) (u : Int) : Bool :=
  st.buffer.any fun x => x.1 == seg && decide (x.2.1 ≤ u) && decide (u ≤ x.2.2)

/-- A block of a segment goes to the record it belongs to, else to the set that gathers for its arm (R155). -/
def State.routeBlk (s : State) (k key seg : Nat) (st : Stored) (b : Blk) : Stored × State :=
  let ch := key % 64
  match s.slotOf? k with
  | none => (st, s)
  | some sl =>
    match s.planOf sl.plan with
    | none => (st, s)
    | some pl =>
      let pos := pl.posOf ch
      match s.recFor k (key / 64) ch b.u with
      | some r =>
        let g := r.segs.getD seg {}
        let hold := decide (r.s ≤ 64 * r.n * b.u) && (match g.cut with
          | some c => decide (b.u < c)
          | none => true)
        let (g', s') := s.appendBlk pl r.set pos ch seg g b hold
        (st, s'.putRec { r with segs := r.segs.set seg g' })
      | none =>
        match sl.setsOf (key / 64) with
        | [] => (st, s)
        | set :: _ =>
          let (g', s') := s.appendBlk pl set pos ch seg (st.gather.getD seg {}) b true
          ({ st with gather := st.gather.set seg g' }, s')

/-- The COD counters of a coded block (R188). -/
def State.countBlk (s : State) (ch k h : Nat) (firstReduced : Bool) : State :=
  let s := if k = 0 ∧ h = 0 then s.bumpF (COD.CNT_FULL.COUNT ch) 1
           else if h = 0 then s.bumpF (COD.CNT_BOUNDED.COUNT ch) 1
           else s.bumpF (COD.CNT_HALVED.COUNT ch) 1
  let s := if firstReduced then s.bumpF (COD.CNT_RFRAMES.COUNT ch) 1 else s
  let m := if h = 1 then 5 else k
  if s.fld (COD.CH_MAXK.MAXK ch) < m then s.setF (COD.CH_MAXK.MAXK ch) m else s

/-- The block in progress of a segment is complete: its mode is chosen, it is coded, counted and routed (R183, R185). -/
def State.closeBlk (s : State) (k key seg : Nat) (st : Stored) : Stored × State :=
  let u := st.u.getD seg 0
  let b := (u % 64).toNat
  let x := (st.buf.getD seg []).reverse
  let r := if b = 0 then st.g else st.budget.getD seg 0
  let (kk, h) := chooseMode x r b
  let (size, p) := bestForm x kk h
  let was := b != 0 && st.reduced.getD seg false
  let red := decide (kk ≠ 0 ∨ h ≠ 0)
  let s := s.countBlk (key % 64) kk h (red && !was)
  let st := { st with u := st.u.set seg (u + 1), buf := st.buf.set seg [], budget := st.budget.set seg (r - size)
                      reduced := st.reduced.set seg (was || red) }
  if st.dropped seg u then (st, s)
  else s.routeBlk k key seg st { u := u, off := 0, bytes := encodeBlock x kk h p, k := kk, h := h }

/-- Stored sample `i` of a channel goes to segment i mod N (R173); samples a lane has lost are skipped. -/
def State.pushStored (s : State) (k key : Nat) (st : Stored) (i : Int) (x : Int) : Stored × State :=
  let seg := (i % st.n).toNat
  if i < st.start ∨ i < st.skipTo.getD seg st.start then (st, s)
  else
    let st := { st with buf := st.buf.set seg (x :: st.buf.getD seg []) }
    if (st.buf.getD seg []).length = 64 then s.closeBlk k key seg st else (st, s)

/-- Channel sample `n`, counted from the model's start, reaches the decimator of a stream: it is kept when n mod D = φ on the count
of the arm (R171, R172). -/
def State.decimateOne (s : State) (k key n : Nat) (x : Int) : State :=
  match s.slotOf? k with
  | none => s
  | some sl =>
    match Tbl.get none sl.streams key with
    | none => s
    | some st =>
      let m := (n : Int) + st.base
      let d : Int := st.dm1 + 1
      if m % d = st.phi then
        let (st', s') := s.pushStored k key st ((m - st.phi) / d) x
        s'.putStored k key (some st')
      else s

/-- Every stream of the slot's channel takes the sample. -/
def State.decimate (s : State) (k ch n : Nat) (x : Int) : State :=
  match s.slotOf? k with
  | none => s
  | some sl => (sl.streams.filter fun e => e.1 % 64 == ch).foldl (fun s e => s.decimateOne k e.1 n x) s

/-- A stored stream that begins at the first block boundary at or after stored index `i0` (R149), with the first frame's budget
(R183). -/
def newStored (base i0 : Int) (c : Chan) (n : Nat) : Stored :=
  let a : Int := 64 * n
  let u0 := (i0 + a - 1) / a
  let nb := 64 - (u0 % 64).toNat
  { base := base, dm1 := c.dm1, phi := c.phi, g := c.g, n := n, start := a * u0, sa := a * u0
    buf := List.replicate n [], u := List.replicate n u0, budget := List.replicate n (c.g * nb / 64)
    reduced := List.replicate n false, gather := List.replicate n {}, skipTo := List.replicate n (a * u0), lost := [] }

/-! ### Current plan and the registers of a channel (R189, ACQ.CH_GEOM) -/

/-- The current plan of channel `c`: the active one that holds it, else the one that held it last, else the lowest-numbered. -/
def State.currentPlan (s : State) (c : Nat) : Option Plan :=
  match s.slotHolding c with
  | some k => match s.slotOf? k with
    | some sl => s.planOf sl.plan
    | none => none
  | none =>
    match Tbl.get 0 s.acq.current c with
    | p + 1 => s.planOf p
    | 0 => (List.range 64).findSome? fun p => match s.planOf p with
      | some pl => if (pl.chan? c).isSome then some pl else none
      | none => none

/-- A value in force since the last arm of a plan: j = 0 D - 1, 1 φ, 2 G. -/
def State.inForce (s : State) (p c j : Nat) : Nat := Tbl.get 0 s.acq.inforce (192 * p + 3 * c + j)

/-- The registers of channel `c` show its current plan (R189, ACQ.CH_GEOM). DESIGN CHOICE (log entry 118): PENDING reads 0 from LOAD to the
first arm, for no write has been accepted yet, though the values of the image are not in force. -/
def State.showChan (s : State) (c : Nat) : State :=
  match s.currentPlan c with
  | none => s
  | some pl =>
    match pl.chan? c with
    | none => s
    | some ch =>
      let n := s.lanes c
      let s := ((s.setF (ACQ.CH_PRE.P c) ch.p).setF (ACQ.CH_POST.Q c) ch.q).setF (ACQ.CH_HIST.H c) ch.h
      let s := (s.setF (ACQ.CH_GEOM.N c) n).setF (ACQ.CH_GEOM.SP c) (segPitch n ch / 64)
      let s := ((s.setF (COD.CH_DECIM.DM1 c) ch.dm1).setF (COD.CH_DECIM.PHASE c) ch.phi).setF (COD.CH_GRANT.GRANT c) ch.g
      let s := (s.setF (COD.CH_DBOUND.DMIN_M1 c) ch.dMin).setF (COD.CH_DBOUND.DMAX_M1 c) ch.dMax
      let s := (s.setF (COD.CH_GBOUND.GMIN c) ch.gMin).setF (COD.CH_GBOUND.GMAX c) ch.gMax
      let s := (s.setF (COD.CH_INFORCE.DM1 c) (s.inForce pl.num c 0)).setF (COD.CH_INFORCE.PHASE c) (s.inForce pl.num c 1)
      let s := s.setF (COD.CH_INFORCE_GRANT.GRANT c) (s.inForce pl.num c 2)
      s.setB (COD.CH_INFORCE_GRANT.PENDING c) (Tbl.get false s.acq.pending (64 * pl.num + c))

/-- A plan put into the library. -/
def State.putPlan (s : State) (pl : Plan) : State :=
  { s with acq := { s.acq with lib := Tbl.set none s.acq.lib pl.num (some pl) } }

/-- A plan's channel changed, its value pending until the next arm (R189). -/
def State.putChan (s : State) (pl : Plan) (c : Chan) : State :=
  let s := s.putPlan { pl with chans := pl.chans.map fun x => if x.ch = c.ch then c else x }
  let s := { s with acq := { s.acq with pending := Tbl.set false s.acq.pending (64 * pl.num + c.ch) true } }
  s.showChan c.ch

/-! ### Live changes (R189, R190) -/

/-- COD.RESULT of a write; a refusal raises the coder-parameter notice. -/
def State.codResult (s : State) (c field r : Nat) : State :=
  let s := ((s.setF COD.RESULT.CHANNEL c).setF COD.RESULT.FIELD field).setF COD.RESULT.RESULT r
  if r = 0 then s else s.raise 7 r c 0 0

/-- A plan is armed. -/
def State.planArmed (s : State) (p : Nat) : Bool :=
  match s.slotOfPlan p with
  | some k => match s.slotOf? k with
    | some sl => sl.armed
    | none => false
  | none => false

/-- A live write is remembered for its cycle: an arm or a disarm of the same cycle is applied before it (R26). -/
def State.noteWrite (s : State) (pl : Plan) (field : Nat) (old new : Chan) (accepted : Bool) : State :=
  let w : CodWrite := { cyc := s.now, plan := pl.num, field := field, old := old, new := new
                        wasPending := Tbl.get false s.acq.pending (64 * pl.num + old.ch), accepted := accepted }
  { s with acq := { s.acq with writes := w :: s.acq.writes.filter fun x => x.cyc == s.now } }

/-- What a live write changes: the grant, or D and φ (R189). -/
def CodWrite.applyTo (w : CodWrite) (c : Chan) : Chan :=
  if w.field = 1 then { c with g := w.new.g } else { c with dm1 := w.new.dm1, phi := w.new.phi }

/-- The live writes of plan `p` received in the present cycle, oldest first. -/
def State.writesNow (s : State) (p : Nat) (accepted : Bool) : List CodWrite :=
  (s.acq.writes.filter fun w => w.cyc == s.now && w.plan == p && w.accepted == accepted).reverse

/-- An arm of plan `p` takes effect before the live writes received in its cycle: those accepted are taken back and refused, for
the plan is armed (R26, R189). -/
def State.refuseWrites (s : State) (p : Nat) : State :=
  let l := s.writesNow p true
  let asked : AdmReq → Bool := fun r => r.kind == 1 && r.entry == p && l.any fun w => w.field == 1 && w.old.ch == r.id && w.new.g == r.val
  let s := { s with acq := { s.acq with writes := s.acq.writes.filter fun w => w.plan != p }
                    mem := { s.mem with reqs := s.mem.reqs.filter fun r => !asked r } }
  let s := if s.mem.reqs.any fun r => r.kind == 1 then s else s.setF COD.RESULT.BUSY 0
  let s := l.reverse.foldl (fun (s : State) w => match s.planOf p with
    | none => s
    | some pl =>
      let s := s.putPlan { pl with chans := pl.chans.map fun x => if x.ch = w.old.ch then w.old else x }
      State.showChan { s with acq := { s.acq with pending := Tbl.set false s.acq.pending (64 * p + w.old.ch) w.wasPending } } w.old.ch) s
  l.foldl (fun (s : State) w => s.codResult w.old.ch w.field 3) s

/-- A disarm of plan `p` takes effect before the live writes received in its cycle: those refused because the plan was armed are
accepted; the notice they raised stands (R26; log entry 85). An increase of the grant goes to admission (R190). -/
def State.acceptWrites (s : State) (p : Nat) : State :=
  let l := s.writesNow p false
  let s := { s with acq := { s.acq with writes := s.acq.writes.filter fun w => w.plan != p } }
  l.foldl (fun (s : State) w => match s.planOf p with
    | none => s
    | some pl => match pl.chan? w.old.ch with
      | none => s
      | some c =>
        if w.field = 1 ∧ c.g < w.new.g then
          ((s.codResult c.ch 1 0).setF COD.RESULT.BUSY 1).submit { kind := 1, id := c.ch, origin := 1, entry := p, val := w.new.g }
        else (s.putChan pl (w.applyTo c)).codResult c.ch w.field 0) s

/-- Plan `p` with the values that an arm in the present cycle takes: those before the cycle's live writes (R26). -/
def State.armPlan (s : State) (pl : Plan) : Plan := ((s.refuseWrites pl.num).planOf pl.num).getD pl

/-- A write of COD.CH_DECIM[c]: judged in the order of R189, then pending until the next arm. -/
def effChDecimWrite (c dm1 phi : Nat) (s : State) : State :=
  if s.served (0x61000 + 64 * c) && s.chanExists c then
    match s.currentPlan c with
    | none => s.codResult c 0 5
    | some pl =>
      match pl.chan? c with
      | none => s.codResult c 0 5
      | some ch =>
        let d := dm1 % 65536
        let f := phi % 65536
        let new : Chan := { ch with dm1 := d, phi := f }
        let bad := if d < ch.dMin ∨ ch.dMax < d then 1 else if d < f then 2 else 0
        if s.planArmed pl.num then
          if bad = 0 then (s.noteWrite pl 0 ch new false).codResult c 0 3 else s.codResult c 0 3
        else if bad ≠ 0 then s.codResult c 0 bad
        else ((s.noteWrite pl 0 ch new true).putChan pl new).codResult c 0 0
  else s

/-- A write of COD.CH_GRANT[c]: judged as R189 says; an increase for an active plan goes to admission first (R190). -/
def effChGrantWrite (c g : Nat) (s : State) : State :=
  if s.served (0x61004 + 64 * c) && s.chanExists c then
    match s.currentPlan c with
    | none => s.codResult c 1 5
    | some pl =>
      match pl.chan? c with
      | none => s.codResult c 1 5
      | some ch =>
        let v := g % 8192
        let new : Chan := { ch with g := v }
        let bad := decide (v < ch.gMin ∨ ch.gMax < v)
        if s.planArmed pl.num then
          if bad then s.codResult c 1 3 else (s.noteWrite pl 1 ch new false).codResult c 1 3
        else if bad then s.codResult c 1 1
        else if ch.g < v ∧ (s.slotOfPlan pl.num).isSome = true then
          (((s.noteWrite pl 1 ch new true).codResult c 1 0).setF COD.RESULT.BUSY 1).submit
            { kind := 1, id := c, origin := 1, entry := pl.num, val := v }
        else ((s.noteWrite pl 1 ch new true).putChan pl new).codResult c 1 0
  else s

/-- COD.CMD.CLR_COUNTS clears the counters of every channel (R188). DEDUCED (log entry 118): CH_MAXK, which counts "since the last
clear", is cleared with them. -/
def effCodClrCounts (s : State) : State :=
  if s.served 0x60000 then
    (List.range 64).foldl (fun s c => s.clearCounts
      [COD.CNT_FULL.COUNT c, COD.CNT_BOUNDED.COUNT c, COD.CNT_HALVED.COUNT c, COD.CNT_RFRAMES.COUNT c, COD.CH_MAXK.MAXK c]) s
  else s

def execChDecimWrite (c dm1 phi : Nat) (s : State) : Res := .next (effChDecimWrite c dm1 phi s)
def execChGrantWrite (c g : Nat) (s : State) : Res := .next (effChGrantWrite c g s)
def execCodClrCounts (s : State) : Res := .next (effCodClrCounts s)

end Sys2Proof.Machine
end

