-- ==== Sys2Proof/Machine/Session.lean ====
section
/-!
DEFINITION. Authentication sessions: opening, chains, tags, checkpoints, closing (R368 to R371).
-/

namespace Sys2Proof.Machine

/-- 48 zero bytes, the start of every chain (R370). -/
def zero48 : List Byte := List.replicate 48 0

/-- The sessions of a slot: the current one first, then those not yet closed. -/
def State.sessions (s : State) (k : Nat) : List Session := Tbl.get [] s.sec.current k

/-- The sessions of a slot put in place; SESS_ID, SESS_TRIG and SESS_STATE follow (R377). -/
def State.setSessions (s : State) (k : Nat) (l : List Session) : State :=
  let s := { s with sec := { s.sec with current := Tbl.set [] s.sec.current k l } }
  let leaving := match s.slotOf? k with
    | some sl => sl.leaving
    | none => true
  match l with
  | [] => ((s.setF (SEC.SESS_STATE.STATE k) 0).setF (SEC.SESS_STATE.PEND_CLOSE k) 0).setF (SEC.SESS_TRIG.N k) 0
  | x :: rest =>
    let s := (s.setF (SEC.SESS_ID_LO.ID k) x.id).setF (SEC.SESS_TRIG.N k) x.n
    (s.setF (SEC.SESS_STATE.STATE k) (if leaving then 2 else 1)).setF (SEC.SESS_STATE.PEND_CLOSE k) (min 255 rest.length)

/-- A session replaced by its id. -/
def State.putSession (s : State) (k : Nat) (x : Session) : State :=
  s.setSessions k ((s.sessions k).map fun y => if y.id = x.id then x else y)

/-- The session key of a session ID (R368). -/
def sessionKey (id : Nat) : List Byte := (Config.hmacRR (Config.serial ++ le 8 id)).take 32

/-- The chain values of a session in ascending channel order. -/
def Session.allChains (x : Session) (kk : Nat) : List Byte :=
  (List.range kk).flatMap fun i => Tbl.get zero48 x.chains i

/-- TD of a session (Table 15-7). -/
def Session.digest (x : Session) (kk : Nat) : List Byte :=
  Config.sha384 (le 4 x.n ++ le 4 x.r ++ x.allChains kk ++ x.chainR)

/-- Channels of the plan of a session. -/
def State.planK (s : State) (p : Nat) : Nat :=
  match s.planOf p with
  | some pl => pl.k
  | none => 0

/-- The CLOSE record of a session (Table 15-7). -/
def State.logClose (s : State) (k : Nat) (x : Session) (incomplete : Bool) (n : Nat) (td : List Byte) : State :=
  let kk := s.planK x.plan
  (s.stageTrust (le 1 2 ++ le 1 k ++ le 1 kk ++ le 1 (if incomplete then 1 else 0) ++ le 4 0 ++ le 6 x.id ++ le 2 0 ++
    le 4 n ++ le 4 (if incomplete then 0 else x.r) ++ padTo x.key 32 ++ padTo td 48)).2

/-- The earlier sessions of a slot whose last record has sealed are closed (R371). -/
def State.closeOld (s : State) (k : Nat) : State :=
  match s.sessions k with
  | [] => s
  | x :: rest =>
    let done := rest.filter fun y => y.owed == 0
    let s := done.reverse.foldl (fun s y => s.logClose k y false y.n (y.digest (s.planK y.plan))) s
    s.setSessions k (x :: rest.filter fun y => y.owed != 0)

/-- A session opens in a slot: OPEN is logged, its SEQ is the session ID, its key is derived (R368, R371). `why` is 0 arm,
1 rollover. -/
def State.openSession (s : State) (k plan why : Nat) : State :=
  let id := s.trustSeq 9
  let key := sessionKey id
  let s := (s.stageTrust (le 1 0 ++ le 1 k ++ le 1 plan ++ le 1 why ++ le 4 0 ++ le 6 s.tick.toNat ++ le 10 0 ++
    padTo (Config.sha384 key) 48)).2
  let x : Session := { id := id, key := key, plan := plan, n := 0, r := 0, chains := [], chainR := zero48, sealed := []
                       checked := 0, owed := 0, marks := [] }
  (s.setSessions k (x :: s.sessions k)).closeOld k

/-- A trigger is committed in the current session: `kk` records are owed to it; the answer is the session ID. After 2^ROLL
triggers the slot opens a new session (R368), unless a stop has come first (R376). -/
def State.sessionCommit (s : State) (k kk : Nat) : Nat × State :=
  match s.sessions k with
  | [] => (0, s)
  | x :: _ =>
    let x' := { x with n := x.n + 1, owed := x.owed + kk }
    let s := s.putSession k x'
    let roll := s.fld SEC.CFG.ROLL
    if roll ≠ 0 ∧ 2 ^ roll ≤ x'.n ∧ s.bit (ACQ.SLOT_STATE.STOPPED k) = false then (x.id, s.openSession k x.plan 1) else (x.id, s)

/-- The session of a slot by its id. -/
def State.sessionOf (s : State) (k id : Nat) : Option Session := (s.sessions k).find? fun x => x.id == id

/-- The tag of a record or result under a key (R369): `kind` 0 record, 1 result. -/
def tagOf (key : List Byte) (kind accession : Nat) (data : List Byte) : List Byte :=
  padTo (Config.gcmTag key (le 8 accession ++ le 4 kind) data) 16

/-- The tag of a record of session `id` of slot `k`. -/
def State.recordTag (s : State) (k id accession : Nat) (data : List Byte) : List Byte :=
  match s.sessionOf k id with
  | some x => tagOf x.key 0 accession data
  | none => List.replicate 16 0

/-- A CHECKPOINT is logged when every channel's record of trigger n, a multiple of 2^CHECK, has sealed (Table 15-7). -/
def State.checkpoint (s : State) (k : Nat) (x : Session) : State :=
  let kk := s.planK x.plan
  let queues := (List.range kk).map fun i => Tbl.get [] x.marks i
  if kk = 0 ∨ queues.any List.isEmpty then s
  else
    let n := x.checked + 2 ^ s.fld SEC.CFG.CHECK
    let cs := queues.flatMap fun q => q.headD []
    let marks := (List.range kk).foldl (fun t i => Tbl.set [] t i ((Tbl.get [] t i).drop 1)) x.marks
    let s := (s.stageTrust (le 1 1 ++ le 1 k ++ le 6 0 ++ le 6 x.id ++ le 2 0 ++ le 4 n ++ le 4 0 ++
      Config.sha384 (le 4 n ++ cs))).2
    s.putSession k { x with checked := n, marks := marks }

/-- A record of channel position `i` seals: its chain takes ACCESSION and TAG, a checkpoint may fall due, and an earlier session
may close (R370, R371). -/
def State.sessionSeal (s : State) (k id i accession : Nat) (tag : List Byte) : State :=
  match s.sessionOf k id with
  | none => s
  | some x =>
    let c := Config.sha384 (Tbl.get zero48 x.chains i ++ le 8 accession ++ tag)
    let m := Tbl.get 0 x.sealed i + 1
    let marks := if m % 2 ^ s.fld SEC.CFG.CHECK = 0 then Tbl.set [] x.marks i (Tbl.get [] x.marks i ++ [c]) else x.marks
    let x := { x with chains := Tbl.set zero48 x.chains i c, sealed := Tbl.set 0 x.sealed i m, owed := x.owed - 1, marks := marks }
    ((s.putSession k x).checkpoint k x).closeOld k

/-- A result completes in the slot's most recent session: the answer is its tag; C_R and r follow (R368 to R370). -/
def State.sessionResult (s : State) (k lastAccession : Nat) (data : List Byte) : List Byte × State :=
  match s.sessions k with
  | [] => (List.replicate 16 0, s)
  | x :: _ =>
    let tag := tagOf x.key 1 lastAccession data
    let c := Config.sha384 (x.chainR ++ le 8 lastAccession ++ tag)
    (tag, s.putSession k { x with r := x.r + 1, chainR := c })

/-- At deactivation, once nothing is owed, every session of the slot closes (R371). -/
def State.closeAll (s : State) (k : Nat) : State :=
  let s := (s.sessions k).reverse.foldl (fun s y => s.logClose k y false y.n (y.digest (s.planK y.plan))) s
  s.setSessions k []

end Sys2Proof.Machine
end

