-- ==== Sys2Proof/Machine/Taps.lean ====
section
/-!
DEFINITION. The alignment filter of R195 and the quarter cosine of R207, as integers worked out from their formulas (log entry 24).
-/

namespace Sys2Proof.Machine

/-- Alignment taps h(-7) to h(8) for the phases ρ = -32 to -25 (R195). -/
def taps0 : List (List Int) :=
  [[687, -1334, 2364, -4006, 6828, -12921, 41255, 41254, -12921, 6828, -4006, 2364, -1334, 687, -299, 90],
   [678, -1320, 2342, -3969, 6761, -12754, 39938, 42556, -13061, 6880, -4034, 2382, -1345, 694, -304, 92],
   [668, -1303, 2313, -3923, 6678, -12560, 38606, 43838, -13172, 6916, -4052, 2393, -1353, 700, -307, 94],
   [657, -1283, 2280, -3868, 6581, -12340, 37259, 45098, -13253, 6936, -4061, 2399, -1358, 703, -310, 96],
   [644, -1260, 2242, -3804, 6469, -12095, 35899, 46335, -13303, 6939, -4060, 2399, -1359, 705, -312, 97],
   [629, -1234, 2199, -3732, 6343, -11827, 34529, 47548, -13321, 6924, -4048, 2393, -1357, 705, -313, 98],
   [614, -1206, 2151, -3652, 6204, -11536, 33151, 48731, -13306, 6892, -4026, 2381, -1352, 704, -313, 99],
   [597, -1175, 2098, -3565, 6052, -11223, 31765, 49891, -13259, 6843, -3994, 2362, -1343, 700, -313, 100]]

/-- Alignment taps h(-7) to h(8) for the phases ρ = -24 to -17 (R195). -/
def taps1 : List (List Int) :=
  [[579, -1142, 2041, -3470, 5888, -10890, 30374, 51018, -13177, 6775, -3952, 2338, -1330, 695, -311, 100],
   [560, -1107, 1981, -3368, 5713, -10539, 28980, 52113, -13060, 6690, -3899, 2307, -1314, 688, -309, 100],
   [540, -1069, 1916, -3259, 5526, -10169, 27585, 53174, -12907, 6586, -3835, 2270, -1294, 678, -306, 100],
   [519, -1030, 1848, -3145, 5329, -9782, 26190, 54202, -12719, 6464, -3761, 2226, -1270, 667, -302, 100],
   [497, -989, 1776, -3024, 5123, -9381, 24798, 55192, -12494, 6324, -3676, 2177, -1243, 654, -297, 99],
   [475, -946, 1701, -2898, 4907, -8965, 23409, 56146, -12231, 6165, -3580, 2120, -1212, 639, -291, 97],
   [451, -902, 1623, -2767, 4683, -8536, 22027, 57060, -11931, 5988, -3474, 2058, -1177, 621, -284, 96],
   [428, -856, 1543, -2631, 4452, -8095, 20652, 57932, -11594, 5793, -3358, 1989, -1139, 602, -276, 94]]

/-- Alignment taps h(-7) to h(8) for the phases ρ = -16 to -9 (R195). -/
def taps2 : List (List Int) :=
  [[403, -809, 1460, -2490, 4213, -7644, 19287, 58761, -11217, 5580, -3231, 1915, -1097, 581, -267, 91],
   [378, -761, 1374, -2346, 3968, -7184, 17932, 59550, -10803, 5350, -3094, 1834, -1052, 558, -257, 89],
   [353, -712, 1287, -2199, 3717, -6716, 16591, 60293, -10349, 5101, -2947, 1747, -1003, 533, -246, 86],
   [328, -662, 1198, -2048, 3462, -6242, 15264, 60992, -9857, 4835, -2791, 1654, -951, 506, -234, 82],
   [302, -611, 1108, -1895, 3202, -5761, 13953, 61643, -9326, 4552, -2625, 1556, -895, 477, -222, 78],
   [276, -560, 1017, -1740, 2939, -5277, 12659, 62248, -8757, 4252, -2449, 1452, -836, 446, -208, 74],
   [250, -508, 924, -1582, 2672, -4790, 11385, 62802, -8148, 3936, -2264, 1343, -773, 413, -193, 69],
   [224, -457, 831, -1424, 2404, -4300, 10131, 63309, -7501, 3605, -2071, 1228, -708, 379, -178, 64]]

/-- Alignment taps h(-7) to h(8) for the phases ρ = -8 to -1 (R195). -/
def taps3 : List (List Int) :=
  [[198, -405, 737, -1264, 2134, -3811, 8900, 63765, -6815, 3257, -1869, 1108, -639, 343, -161, 58],
   [172, -353, 644, -1104, 1863, -3321, 7692, 64170, -6092, 2895, -1659, 984, -568, 305, -144, 52],
   [147, -301, 550, -944, 1592, -2833, 6509, 64522, -5330, 2519, -1442, 855, -494, 266, -126, 46],
   [121, -249, 456, -783, 1322, -2348, 5352, 64823, -4532, 2129, -1217, 722, -417, 225, -107, 39],
   [96, -198, 363, -624, 1053, -1867, 4222, 65074, -3697, 1726, -985, 584, -338, 182, -87, 32],
   [71, -148, 271, -466, 785, -1390, 3121, 65269, -2825, 1311, -747, 443, -257, 139, -66, 25],
   [47, -98, 179, -309, 520, -920, 2050, 65412, -1918, 884, -503, 299, -173, 94, -45, 17],
   [23, -48, 89, -153, 258, -456, 1009, 65500, -976, 447, -254, 151, -87, 47, -23, 9]]

/-- Alignment taps h(-7) to h(8) for the phases ρ = 0 to 7 (R195). -/
def taps4 : List (List Int) :=
  [[0, 0, 0, 0, 0, 0, 0, 65536, 0, 0, 0, 0, 0, 0, 0, 0],
   [-23, 47, -87, 151, -254, 447, -976, 65518, 1009, -456, 258, -153, 89, -48, 23, -9],
   [-45, 94, -173, 299, -504, 885, -1919, 65446, 2051, -920, 521, -309, 179, -98, 47, -18],
   [-66, 139, -257, 444, -748, 1312, -2827, 65320, 3123, -1391, 786, -466, 271, -148, 71, -27],
   [-87, 183, -338, 585, -986, 1728, -3700, 65140, 4227, -1869, 1054, -625, 363, -198, 96, -37],
   [-107, 225, -418, 723, -1219, 2132, -4538, 64910, 5359, -2351, 1324, -785, 457, -250, 121, -47],
   [-126, 266, -495, 856, -1444, 2523, -5339, 64624, 6519, -2838, 1595, -945, 551, -301, 147, -57],
   [-144, 306, -569, 986, -1662, 2901, -6103, 64284, 7706, -3327, 1867, -1106, 645, -353, 173, -68]]

/-- Alignment taps h(-7) to h(8) for the phases ρ = 8 to 15 (R195). -/
def taps5 : List (List Int) :=
  [[-162, 344, -641, 1111, -1873, 3264, -6830, 63898, 8918, -3818, 2138, -1267, 739, -405, 198, -78],
   [-178, 380, -710, 1231, -2076, 3613, -7518, 63456, 10155, -4310, 2409, -1427, 833, -458, 225, -89],
   [-194, 415, -775, 1346, -2270, 3947, -8169, 62963, 11414, -4802, 2679, -1586, 927, -510, 251, -100],
   [-208, 447, -838, 1456, -2456, 4264, -8781, 62422, 12695, -5292, 2947, -1744, 1020, -562, 277, -111],
   [-222, 478, -897, 1561, -2633, 4566, -9355, 61831, 13995, -5779, 3212, -1901, 1112, -613, 303, -122],
   [-235, 507, -954, 1660, -2800, 4851, -9890, 61193, 15314, -6262, 3473, -2055, 1202, -664, 329, -133],
   [-247, 535, -1006, 1753, -2958, 5119, -10386, 60506, 16649, -6740, 3730, -2207, 1292, -714, 354, -144],
   [-258, 560, -1056, 1841, -3106, 5369, -10843, 59773, 17999, -7211, 3983, -2355, 1379, -764, 380, -155]]

/-- Alignment taps h(-7) to h(8) for the phases ρ = 16 to 23 (R195). -/
def taps6 : List (List Int) :=
  [[-268, 583, -1102, 1922, -3244, 5602, -11262, 58995, 19362, -7674, 4230, -2500, 1465, -812, 405, -166],
   [-277, 605, -1144, 1998, -3372, 5817, -11641, 58172, 20737, -8129, 4470, -2642, 1549, -860, 429, -176],
   [-285, 624, -1182, 2067, -3489, 6014, -11983, 57306, 22122, -8573, 4704, -2779, 1630, -906, 453, -187],
   [-292, 642, -1217, 2130, -3596, 6193, -12287, 56397, 23515, -9005, 4929, -2911, 1709, -950, 477, -198],
   [-298, 657, -1249, 2187, -3693, 6353, -12552, 55451, 24914, -9425, 5147, -3038, 1784, -994, 500, -208],
   [-303, 670, -1276, 2237, -3779, 6495, -12781, 54466, 26317, -9830, 5355, -3160, 1857, -1035, 521, -218],
   [-307, 682, -1300, 2281, -3854, 6619, -12972, 53441, 27723, -10220, 5554, -3276, 1925, -1075, 543, -228],
   [-311, 691, -1321, 2319, -3919, 6724, -13127, 52382, 29130, -10593, 5742, -3385, 1991, -1113, 563, -237]]

/-- Alignment taps h(-7) to h(8) for the phases ρ = 24 to 31 (R195). -/
def taps7 : List (List Int) :=
  [[-313, 699, -1337, 2350, -3973, 6811, -13246, 51286, 30535, -10948, 5920, -3488, 2052, -1148, 582, -246],
   [-314, 704, -1350, 2375, -4016, 6880, -13330, 50161, 31937, -11284, 6085, -3584, 2109, -1182, 600, -255],
   [-315, 708, -1359, 2394, -4049, 6930, -13380, 49004, 33334, -11600, 6238, -3672, 2162, -1213, 617, -263],
   [-315, 709, -1365, 2406, -4071, 6963, -13396, 47817, 34724, -11894, 6379, -3753, 2211, -1241, 633, -271],
   [-314, 709, -1367, 2413, -4083, 6978, -13379, 46602, 36105, -12165, 6506, -3826, 2255, -1267, 647, -278],
   [-312, 707, -1366, 2413, -4085, 6976, -13330, 45362, 37475, -12412, 6619, -3890, 2293, -1290, 661, -285],
   [-309, 704, -1361, 2407, -4076, 6957, -13249, 44096, 38833, -12634, 6717, -3946, 2327, -1311, 672, -291],
   [-305, 698, -1353, 2396, -4058, 6921, -13138, 42808, 40175, -12830, 6801, -3992, 2355, -1328, 682, -296]]

/-- The taps for every phase, from ρ = -32. -/
def alignTaps : List (List Int) := taps0 ++ taps1 ++ taps2 ++ taps3 ++ taps4 ++ taps5 ++ taps6 ++ taps7

/-- h(j) of phase ρ, j = -7 to 8 (R195). -/
def tap (rho j : Int) : Int := (alignTaps.getD (rho + 32).toNat []).getD (j + 7).toNat 0

/-- cos(2π k / 256) for k = 0 to 64, in 2^-30 (R207). -/
def cosQuarter : List Int :=
  [1073741824, 1073418433, 1072448455, 1070832474, 1068571464, 1065666786, 1062120190, 1057933813,
   1053110176, 1047652185, 1041563127, 1034846671, 1027506862, 1019548121, 1010975242, 1001793390,
   992008094, 981625251, 970651112, 959092290, 946955747, 934248793, 920979082, 907154608,
   892783698, 877875009, 862437520, 846480531, 830013654, 813046808, 795590213, 777654384,
   759250125, 740388522, 721080937, 701339000, 681174602, 660599890, 639627258, 618269338,
   596538995, 574449320, 552013618, 529245404, 506158392, 482766489, 459083786, 435124548,
   410903207, 386434353, 361732726, 336813204, 311690799, 286380643, 260897982, 235258165,
   209476638, 183568930, 157550647, 131437462, 105245103, 78989349, 52686014, 26350943,
   0]

/-- cos(2π k / 256) in 2^-30 for any k (R207). -/
def cosTurn (k : Nat) : Int :=
  let h := k % 256
  if h ≤ 64 then cosQuarter.getD h 0
  else if h ≤ 128 then -cosQuarter.getD (128 - h) 0
  else if h ≤ 192 then -cosQuarter.getD (h - 128) 0
  else cosQuarter.getD (256 - h) 0

/-- a / b rounded to the nearest integer, halves away from zero (R195, R207). -/
def roundAway (a : Int) (b : Nat) : Int :=
  if 0 ≤ a then (2 * a + b) / (2 * b) else -((2 * -a + b) / (2 * b))

end Sys2Proof.Machine
end

