-- ==== Sys2Proof/Machine/Accumulate.lean ====
section
/-!
DEFINITION. Full-rate sample history, the flags of a span of time, the accumulator (R191 to R202) and the imager's planes
(R203 to R205, R211).
-/

namespace Sys2Proof.Machine

/-! ### Times and samples -/

/-- Units of the fine time axis, 2^-23 ns, in one nanosecond and in one tick. -/
def finePerNs : Nat := 2 ^ 23
def finePerTick : Nat := 10 * 2 ^ 23

/-- The cycle of channel sample `n`, counted from the model's start. -/
def cycleOf (spt : Nat) (n : Int) : Nat := (n * 10 / (spt : Int)).toNat

/-- The centre sample c and the phase ρ of a trigger time on a channel's grid (R191). -/
def centreOf (spt t : Nat) : Int × Int :=
  let tick := t / finePerTick
  let f := t % finePerTick / 5
  let x : Nat := tick * spt * 1024 + (f * spt * 1024 + 2 ^ 23) / 2 ^ 24
  let c : Nat := (x + 512) / 1024
  let r : Int := (x : Int) - 1024 * c
  let rho : Int := (r + 8) / 16
  if rho = 32 then (Int.ofNat c + 1, -32) else (Int.ofNat c, rho)

/-- Corrected sample `n` of channel `c`: from the samples delivered, else a free value (log entry 25). -/
def State.sampleAt (s : State) (c : Nat) (n : Int) : Int :=
  let top : Int := ((Tbl.get 0 s.acc.histN c : Nat) : Int)
  let l := Tbl.get [] s.acc.hist c
  if n < top ∧ top - n ≤ l.length then l.getD (top - 1 - n).toNat 0 else (Config.unseen c n).toInt

/-- The next sample of channel `c` to be delivered. -/
def State.sampleTop (s : State) (c : Nat) : Int := ((Tbl.get 0 s.acc.histN c : Nat) : Int)

/-! ### Flags of a span (R42, R79, R92, R201) -/

/-- The time of channel sample `n`, counted from the model's start, in 2^-23 ns. -/
def fineOf (spt : Nat) (n : Int) : Nat := (n * finePerTick / (spt : Int)).toNat

/-- Evaluation instants of a slot per tick, by its TE code (R114). -/
def instPerTick (te : Nat) : Nat :=
  if te = 0 then 40 else if te = 1 then 160 else if te = 2 then 640 else if te = 3 then 1280 else 2560

/-- The next evaluation instant of a slot to be judged: an instant is judged when the next one has been delivered. -/
def Slot.nextJudged (sl : Slot) : Nat := max sl.firstInst (sl.inst - 1)

/-- Some interval meets the times `a` to `b`, in 2^-23 ns. -/
def meets (l : List Span) (a b : Nat) : Bool :=
  l.any fun x => decide (x.start * finePerNs ≤ b) && (match x.stop with
    | none => true
    | some e => decide (a ≤ e * finePerNs))

/-- The slices that served a lane at some time from `a` to `b`, each with the time from which it served, from the lane's switches (slice
left and switch instant), newest first, and the slice that serves it after them; times in 2^-23 ns. -/
def servedIn (a b : Nat) : Nat → List (Nat × Nat) → List (Nat × Nat)
  | cur, [] => [(cur, 0)]
  | cur, (left, c) :: t => (if c ≤ b then [(cur, c)] else []) ++ (if a < c then servedIn a b left t else [])

/-- The slices that served a lane from `a` to `b`, and since when (R77, R92). -/
def State.servers (s : State) (l a b : Nat) : List (Nat × Nat) :=
  servedIn a b (s.sliceOf l) ((s.cnv.served.filter fun x => x.1 == l).map Prod.snd)

/-- A lane's slice produced marked samples at some time from `a` to `b`, in 2^-23 ns (R92): a slice that served it then is marked, or
its mark was cleared after `a` and after it began to serve. Marks are set in CALIBRATE alone, before any sample is stored. -/
def State.laneSuspect (s : State) (l a b : Nat) : Bool :=
  (s.servers l a b).any fun x =>
    s.bit (CAL.SLICE_STATE.SUSPECT x.1) || decide (max a x.2 < (Tbl.get 0 s.cal.markOff x.1 - 1) * finePerNs)

/-- The flags a span of channel `c`, from time `a` to time `b` in 2^-23 ns, takes from the device's state: HOLDOVER, PHASE_HIT,
CAL_SUSPECT and SHUFFLED at their bits of Table 06-3. -/
def State.spanFlags (s : State) (c a b : Nat) : Nat :=
  let lanes := s.lanesOf c
  let susp := s.bit (CAL.CHAN_STATE.SUSPECT c) || lanes.any fun l => s.laneSuspect l a b
  let shuf := s.cnv.switches.any fun x => lanes.contains x.1 && decide (a ≤ x.2) && decide (x.2 ≤ b)
  (if meets s.time.holdover a b then 1 else 0) + (if meets s.time.phaseHit a b then 2 else 0) +
    (if susp then 64 else 0) + (if shuf then 2048 else 0)

/-- Two sets of flags together. -/
def orFlags (a b : Nat) : Nat := Nat.lor a b

/-! ### Banks (R192 to R199) -/

/-- Accumulation of slot `k`. -/
def State.accOf (s : State) (k : Nat) : Acc := Tbl.get {} s.acc.slots k

/-- The accumulation of slot `k` replaced. -/
def State.setAcc (s : State) (k : Nat) (a : Acc) : State := { s with acc := { s.acc with slots := Tbl.set {} s.acc.slots k a } }

/-- State of bank `b` of slot `k`: 0 FREE, 1 ACCUMULATING, 2 COMPLETE, 3 IN_READOUT. -/
def bankFld (k b : Nat) : Fld := if b = 0 then ACC.SLOT_STATE.BANK0 k else ACC.SLOT_STATE.BANK1 k

/-- Banks of a plan: 1 + SPLIT. -/
def Plan.banks (pl : Plan) : Nat := if pl.accSplit then 2 else 1

/-- SLOT_STATE.COUNT and SLOT_CMD.FINISH follow the accumulation of slot `k`. -/
def State.showAcc (s : State) (k : Nat) : State :=
  let a := s.accOf k
  (s.setF (ACC.SLOT_STATE.COUNT k) (Tbl.get 0 a.selected (s.fld (ACC.SLOT_STATE.CUR k)))).setB (ACC.SLOT_CMD.FINISH k) (!a.finish.isEmpty)

/-- A bank is freed: its result, and a FINISH of it, are forgotten. -/
def State.freeBank (s : State) (k b : Nat) : State :=
  let a := s.accOf k
  State.showAcc ((s.setAcc k { a with banks := Tbl.set {} a.banks b {}, selected := Tbl.set 0 a.selected b 0
                                      finish := a.finish.filter (· != b) }).setF (bankFld k b) 0) k

/-- The bank another selected trigger goes to (Table 08-2 test 1): the accumulating one while it has room and is not finishing,
else a FREE one, which is not the one completed last. DESIGN CHOICE (log entry 122): a bank with a pending FINISH has no room for another
selected trigger. -/
def State.bankFor (s : State) (k : Nat) (pl : Plan) : Option Nat :=
  let a := s.accOf k
  let cur := s.fld (ACC.SLOT_STATE.CUR k)
  if s.fld (bankFld k cur) = 1 ∧ Tbl.get 0 a.selected cur < pl.target ∧ !a.finish.contains cur then some cur
  else
    let free := (List.range pl.banks).filter fun b => s.fld (bankFld k b) == 0
    match free.find? fun b => a.lastDone != some b with
    | some b => some b
    | none => free.head?

/-- The first sample a trigger's add reads on a channel, and the last (R194). -/
def inputSpan (pl : Plan) (c : Int) : Int × Int := (c - pl.accPre - 7, c - pl.accPre + pl.accL + 7)

/-- The test of Table 08-2 that a trigger fails first: 0 none, 1 bank, 2 quality, 3 history, 4 overlap. -/
def State.accTest (s : State) (k : Nat) (pl : Plan) (t : Trig) : Nat :=
  let a := s.accOf k
  let cs := pl.chans.map fun c => (c.ch, (centreOf (s.spt c.ch) t.t).1)
  if s.bankFor k pl = none then 1
  else if pl.accAlign = true ∧ bitOf pl.qmask t.quality = false then 2
  else if cs.any fun x => decide ((inputSpan pl x.2).1 < s.sampleTop x.1 - 16384 * s.lanes x.1) then 3
  else if cs.any fun x => match Tbl.get none a.lastSpan x.1 with
      | some e => decide ((inputSpan pl x.2).1 ≤ e)
      | none => false
    then 4
  else 0

/-- The counter of a failed test (Table 08-2). -/
def skipFld (k test : Nat) : Fld :=
  if test = 1 then ACC.SLOT_SKIPS.BUSY k else if test = 2 then ACC.SLOT_SKIPS.QUALITY k
  else if test = 3 then ACC.SLOT_SKIPS.HISTORY k else ACC.SLOT_SKIPS.OVERLAP k

/-- At commit the accumulator decides whether a trigger is selected (R194). -/
def State.accSelect (s : State) (k : Nat) (pl : Plan) (t : Trig) (accession : Nat) (lateArm : Bool) : Bool × State :=
  if pl.accEn = false then (false, s)
  else
    let test := s.accTest k pl t
    match s.bankFor k pl with
    | none => (false, s.bumpF (skipFld k 1) 1)
    | some b =>
      if test ≠ 0 then (false, s.bumpF (skipFld k test) 1)
      else
        let a := s.accOf k
        let centres := pl.chans.map fun c =>
          let x := centreOf (s.spt c.ch) t.t
          (c.ch, x.1, if pl.accAlign then x.2 else 0)
        let add : Add := { accession := accession, tick := t.tick, bank := b, remote := t.origin == 1, lateArm := lateArm
                           centres := centres }
        let n := Tbl.get 0 a.selected b + 1
        let spans := centres.foldl (fun m x => Tbl.set none m x.1 (some (inputSpan pl x.2.1).2)) a.lastSpan
        let a := { a with selected := Tbl.set 0 a.selected b n, adds := a.adds ++ [add], lastSpan := spans }
        let s := ((s.setAcc k a).setF (bankFld k b) 1).setF (ACC.SLOT_STATE.CUR k) b
        (true, pl.chans.foldl (fun (s : State) (c : Chan) => s.leadRequest c.ch) (s.setF (ACC.SLOT_STATE.COUNT k) n))

/-- Bin address of bin `i` of bank `b`: on die an index of the accumulation memory, in DRAM mode a device address (R192). -/
def Plan.binAt (pl : Plan) (b i : Nat) : Nat :=
  let n := b * pl.k * pl.accL + i
  if pl.accDram then 4096 * pl.accBase + 4 * n else 4096 * pl.accBase + n

/-- A bin read. -/
def State.bin (s : State) (pl : Plan) (b i : Nat) : Int :=
  if pl.accDram then ofTwos 32 (ofLe (s.peekN (pl.binAt b i) 4)) else Tbl.get 0 s.acc.bins (pl.binAt b i)

/-- A bin written. -/
def State.setBin (s : State) (pl : Plan) (b i : Nat) (v : Int) : State :=
  if pl.accDram then s.dramWrite (reqAcc ((s.slotOfPlan pl.num).getD 0)) (pl.binAt b i) (le 4 (toTwos 32 v))
  else { s with acc := { s.acc with bins := Tbl.set 0 s.acc.bins (pl.binAt b i) v } }

/-- The aligned value a of sample `m` (R196). -/
def State.aligned (s : State) (ch : Nat) (rho m : Int) : Int :=
  let sum := (List.range 16).foldl (fun (a : Int) j => a + tap rho ((j : Int) - 7) * s.sampleAt ch (m + j - 7)) 0
  satI ((sum + 8192) / 16384) (-8192) 8191

/-- One bin of slot `k` takes a record's value (R196). DEDUCED (log entry 91): a bin that has saturated keeps its limit (R197). -/
def State.addBin (s : State) (k : Nat) (pl : Plan) (b i : Nat) (first : Bool) (a : Int) : State :=
  if first then s.setBin pl b i a
  else
    let key := b * pl.k * pl.accL + i
    let acc := s.accOf k
    if acc.satBins.contains key then s
    else
      let v := s.bin pl b i + a
      let w := satI v (-(2 ^ 31)) (2 ^ 31 - 1)
      let s := if v = w then s else s.setAcc k { acc with satBins := key :: acc.satBins }
      s.setBin pl b i w

/-- Bins of bank `b` that have saturated (R197). -/
def State.satCount (s : State) (k : Nat) (pl : Plan) (b : Nat) : Nat :=
  ((s.accOf k).satBins.filter fun x => x / (pl.k * pl.accL) == b).length

/-- A bank is begun anew: none of its bins has saturated. -/
def State.beginBank (s : State) (k : Nat) (pl : Plan) (b : Nat) : State :=
  let a := s.accOf k
  s.setAcc k { a with satBins := a.satBins.filter fun x => x / (pl.k * pl.accL) != b }

/-- The first `n` bins of a channel take a record (R196). -/
def State.addChan (s : State) (k : Nat) (pl : Plan) (b pos ch : Nat) (c rho : Int) (first : Bool) (n : Nat) : State :=
  (List.range n).foldl (fun (x : State) i =>
    x.addBin k pl b (pos * pl.accL + i) first (x.aligned ch rho (c - pl.accPre + (i : Nat)))) s

/-- The flags an add gives its result (R201). -/
def State.addFlags (s : State) (pl : Plan) (d : Add) : Nat :=
  let spans := d.centres.foldl (fun f x =>
    let (a, b) := inputSpan pl x.2.1
    orFlags f (s.spanFlags x.1 (fineOf (s.spt x.1) a) (fineOf (s.spt x.1) b))) 0
  orFlags spans ((if d.remote then 128 else 0) + (if d.lateArm then 1024 else 0) + 512)

/-- Ranges of samples of channel `c` that emergency shuffles lost: those of past gaps, and those since a detection whose lane is not bound
yet (R82). -/
def State.lostRanges (s : State) (c : Nat) : List (Nat × Nat) :=
  Tbl.get [] s.seq.lostSpans c ++ (s.lanesOf c).filterMap fun l => match Tbl.get none s.seq.gaps l with
    | some t => if t.bound.isNone then some (t.at_ * s.spt c / 10, s.now * s.spt c / 10 + 1) else none
    | none => none

/-- The first sample of channel `c` from `a` to `b` that was lost. -/
def State.firstGone (s : State) (c : Nat) (a b : Int) : Option Int :=
  ((s.lostRanges c).filterMap fun (x : Nat × Nat) => if (x.1 : Int) ≤ b ∧ a < x.2 then some (max a x.1) else none).min?

/-- An input sample of an add was lost: the add is interrupted (R199). -/
def State.addLost (s : State) (pl : Plan) (d : Add) : Bool :=
  d.centres.any fun x => (s.firstGone x.1 (inputSpan pl x.2.1).1 (inputSpan pl x.2.1).2).isSome

/-- Every input sample of an add has been delivered. -/
def State.addReady (s : State) (pl : Plan) (d : Add) : Bool :=
  d.centres.all fun x => decide ((inputSpan pl x.2.1).2 < s.sampleTop x.1)

/-- The bins of a bank in DRAM cannot be accessed now (R268). -/
def State.binsWait (s : State) (k : Nat) (pl : Plan) (b : Nat) : Bool :=
  pl.accDram && s.rangeWaits (reqAcc k) (pl.binAt b 0) (4 * (pl.k * pl.accL))

/-- The add at the head of a slot's adds ends (R196, R198); in DRAM mode one that is not a bank's first reads the bins (R193, R252). -/
def State.endAdd (s : State) (k : Nat) (pl : Plan) (d : Add) : State :=
  let b := d.bank
  let r := Tbl.get {} (s.accOf k).banks b
  let first := decide (r.count = 0)
  let s := if first then s.beginBank k pl b
    else if pl.accDram then s.unitRead (reqAcc k) (pl.binAt b 0) (4 * (pl.k * pl.accL)) else s
  let s' := d.centres.foldl (fun (x : State) c => x.addChan k pl b (pl.posOf c.1) c.1 c.2.1 c.2.2 first pl.accL) s
  let r := { r with first := if first then d.accession else r.first, last := d.accession, count := r.count + 1
                    flags := orFlags r.flags (s'.addFlags pl d)
                    firstTick := if first then d.tick.toNat else r.firstTick, lastTick := d.tick.toNat
                    sat := min 65535 (s'.satCount k pl b) }
  let a := s'.accOf k
  let s' := s'.setAcc k { a with adds := a.adds.tail, banks := Tbl.set {} a.banks b r }
  pl.chans.foldl (fun (s : State) (c : Chan) => s.leadRequest c.ch) s'

/-- Bytes 0 to 47 of a result header (Table 08-5). -/
def resultHead (pl : Plan) (r : Result) : List Byte :=
  le 8 r.first ++ le 8 r.last ++ le 4 r.count ++ le 1 pl.num ++ le 1 pl.k ++ le 2 r.flags ++ le 6 r.firstTick ++ le 2 r.seq ++
    le 6 r.lastTick ++ le 2 r.sat ++ le 4 pl.accL ++
    le 4 (pl.accPre + (if pl.accDram then 2 ^ 24 else 0) + (if pl.accAlign then 2 ^ 25 else 0))

/-- The bins of a bank in result order (R200). -/
def State.resultBins (s : State) (pl : Plan) (b : Nat) : List Byte :=
  (List.range (pl.k * pl.accL)).flatMap fun i => le 4 (toTwos 32 (s.bin pl b i))

/-- The result header is formed, the bank becomes COMPLETE and the notice is raised (R198, R200). DESIGN CHOICE (log entry 122): SEQ is the
number of results completed before this one since activation. -/
def State.completeBank (s : State) (k : Nat) (pl : Plan) (b : Nat) (trunc : Bool) : State :=
  let a := s.accOf k
  let r := Tbl.get {} a.banks b
  let r := { r with seq := a.seq % 65536, flags := orFlags r.flags (if trunc then 256 else 0), sat := min 65535 (s.satCount k pl b) }
  let (tag, s) := s.sessionResult k r.last (resultHead pl r ++ s.resultBins pl b)
  let a := { a with banks := Tbl.set {} a.banks b { r with tag := tag }, seq := a.seq + 1, lastDone := some b
                    finish := a.finish.filter (· != b), selected := Tbl.set 0 a.selected b 0 }
  let s := (s.setAcc k a).setF (bankFld k b) 2
  ((s.setF (ACC.SLOT_STATE.CUR k) (if pl.accSplit then 1 - b else 0)).showAcc k).raise (75 + 5 * k) 0 pl.num b 0

/-- The accumulating bank has no add under way or waiting. -/
def State.addsDone (s : State) (k b : Nat) : Bool := !((s.accOf k).adds.any fun d => d.bank == b)

/-- The accumulating bank completes: TARGET adds have ended, or FINISH was set on it with at least one (R198). -/
def effBankComplete (k : Nat) (s : State) : State :=
  match s.slotOf? k with
  | none => s
  | some sl =>
    match s.planOf sl.plan with
    | none => s
    | some pl =>
      match (List.range pl.banks).find? fun b => s.fld (bankFld k b) == 1 && s.addsDone k b &&
          decide (0 < (Tbl.get {} (s.accOf k).banks b).count) &&
          (decide ((Tbl.get {} (s.accOf k).banks b).count = pl.target) || (s.accOf k).finish.contains b) with
      | some b => s.completeBank k pl b false
      | none => s

/-- The bank that accumulates: CUR when it does, else the other one while its last adds go on. -/
def State.accumulating (s : State) (k : Nat) : Option Nat :=
  let cur := s.fld (ACC.SLOT_STATE.CUR k)
  if s.fld (bankFld k cur) = 1 then some cur else if s.fld (bankFld k (1 - cur)) = 1 then some (1 - cur) else none

/-- SLOT_CMD.FINISH (Table 08-4, Table 08-9): ignored unless a bank accumulates. -/
def effAccFinish (k : Nat) (s : State) : State :=
  if s.served (0x71014 + 32 * k) && decide (k < 8) then
    match s.accumulating k with
    | some b =>
      let a := s.accOf k
      (s.setAcc k { a with finish := if a.finish.contains b then a.finish else a.finish ++ [b] }).setF (ACC.SLOT_CMD.FINISH k) 1
    | none => s
  else s

/-- SLOT_CMD.DISCARDn frees a COMPLETE bank, else is ignored (Table 08-4). -/
def effAccDiscard (k b : Nat) (s : State) : State :=
  if s.served (0x71014 + 32 * k) && decide (k < 8) && decide (b < 2) && s.fld (bankFld k b) == 2 then s.freeBank k b else s

/-- Bins of a channel whose 16 input samples have all been delivered, before the first lost one, for a trigger centred on `c`. -/
def State.binsReady (s : State) (pl : Plan) (ch : Nat) (c : Int) : Nat :=
  let top := match s.firstGone ch (inputSpan pl c).1 (inputSpan pl c).2 with
    | some g => min g (s.sampleTop ch)
    | none => s.sampleTop ch
  min pl.accL (top - (c - pl.accPre + 8)).toNat

/-- An add is left half made: the bins whose samples have come take it (R199). -/
def State.addPart (s : State) (k : Nat) (pl : Plan) (d : Add) : State :=
  let first := decide ((Tbl.get {} (s.accOf k).banks d.bank).count = 0)
  d.centres.foldl (fun (x : State) c =>
    x.addChan k pl d.bank (pl.posOf c.1) c.1 c.2.1 c.2.2 first (s.binsReady pl c.1 c.2.1)) s

/-- An add is interrupted (R199): the bins hold a part of it, its bank becomes COMPLETE with TRUNCATED, or FREE when no add had ended, the
triggers selected into that bank whose adds have not started are not added, and the accumulation-damaged fault is raised. -/
def State.interruptAdd (s : State) (k : Nat) (pl : Plan) (d : Add) : State :=
  let s := s.addPart k pl d
  let a := s.accOf k
  let s := s.setAcc k { a with adds := a.adds.filter fun x => x.bank != d.bank }
  let s := if (Tbl.get {} a.banks d.bank).count = 0 then s.freeBank k d.bank else s.completeBank k pl d.bank true
  s.raise (72 + 5 * k) 1 pl.num 0 0

/-- The oldest selected trigger of slot `k`: its add ends when its input samples have come, or is interrupted when some of them are lost
(R198, R199). -/
def effAccumAddEnd (k : Nat) (s : State) : State :=
  match s.slotOf? k with
  | none => s
  | some sl =>
    match s.planOf sl.plan, (s.accOf k).adds with
    | some pl, d :: _ =>
      if s.addLost pl d then s.interruptAdd k pl d
      else if s.addReady pl d && !s.binsWait k pl d.bank then s.endAdd k pl d else s
    | _, _ => s

/-- The adds of slot `k` that can end do, and those that have lost samples are interrupted (R199). -/
def State.cutAdds (s : State) (k : Nat) : State := (s.accOf k).adds.foldl (fun (x : State) _ => effAccumAddEnd k x) s

/-- A stop interrupts the adds of slot `k`: those whose input spans have been delivered whole end, and of each bank the next is
interrupted (R199). -/
def State.interruptAdds (s : State) (k : Nat) : State :=
  let s := s.cutAdds k
  match s.slotOf? k with
  | none => s
  | some sl =>
    match s.planOf sl.plan with
    | none => s
    | some pl => (List.range 2).foldl (fun (s : State) b => match (s.accOf k).adds.find? fun d => d.bank == b with
      | some d => s.interruptAdd k pl d
      | none => s) s

/-- At deactivation an accumulating bank becomes COMPLETE, or FREE when no add has ended (Table 08-4). -/
def State.settleBanks (s : State) (k : Nat) (pl : Plan) : State :=
  (List.range pl.banks).foldl (fun s b =>
    if s.fld (bankFld k b) = 1 then
      if (Tbl.get {} (s.accOf k).banks b).count = 0 then s.freeBank k b else s.completeBank k pl b false
    else s) s

/-! ### Imager planes (R203 to R205) -/

/-- A plane. -/
def State.plane (s : State) (p : Nat) : Plane := Tbl.get {} s.acc.planes p

/-- A plane replaced. -/
def State.setPlane (s : State) (p : Nat) (x : Plane) : State :=
  { s with acc := { s.acc with planes := Tbl.set {} s.acc.planes p x } }

/-- Something has changed for the composer (R206). -/
def State.markChanged (s : State) : State := { s with acc := { s.acc with changed := true } }

/-- A cell of a plane takes one hit; a count saturates at 65 535 and sets SAT (R204). -/
def State.hitCell (s : State) (p col row : Nat) : State :=
  let x := s.plane p
  let key := 2048 * row + col
  let n := Tbl.get 0 x.hits key
  let s := s.markChanged
  if n = 65535 then s.setF (ACC.PLANE_STATUS.SAT p) 1
  else s.setPlane p { x with hits := Tbl.set 0 x.hits key (n + 1) }

/-- A row that may lie outside the grid takes a hit: clamped when CLAMP = 1, else nothing (R204). -/
def State.hitRow (s : State) (p col : Nat) (row : Int) : State :=
  if 0 ≤ row ∧ row ≤ 1023 then s.hitCell p col row.toNat
  else if s.bit (ACC.PLANE_CFG.CLAMP p) then s.hitCell p col (if row < 0 then 0 else 1023)
  else s

/-- Rows within the grid from `a`, exclusive, to `b`, inclusive. -/
def rowsBetween (a b : Int) : List Nat :=
  if a < b then (List.range 1024).filter fun r => decide (a < (r : Int)) && decide ((r : Int) ≤ b)
  else (List.range 1024).filter fun r => decide (b ≤ (r : Int)) && decide ((r : Int) < a)

/-- Column of sample `m` of a trigger with centre `c` and phase ρ (R204). -/
def State.imageCol (s : State) (p : Nat) (c rho m : Int) : Int :=
  s.fld (ACC.PLANE_X.XTRIG p) + (64 * (m - c) - rho) * s.fld (ACC.PLANE_X.XSTEP p) / 2 ^ 22

/-- Row of a sample value (R204). -/
def State.imageRow (s : State) (p : Nat) (x : Int) : Int :=
  512 + (x - s.fldS (ACC.PLANE_Y.YOFF p)) * s.fld (ACC.PLANE_Y.YGAIN p) / 256

/-- One examined sample of a job (R204): with VECTOR every row from the previous sample's row, exclusive, to this one's. A row
outside the grid is clamped before the run when CLAMP = 1 (log entry 26). -/
def State.imageSample (s : State) (j : Imaging) (x : Int) : Imaging × State :=
  let p := j.plane
  let at_ := s.imageCol p j.c j.rho j.next
  let col := at_.toNat
  let row := s.imageRow p x
  let row := if s.bit (ACC.PLANE_CFG.CLAMP p) then satI row 0 1023 else row
  let s := if at_ < 0 ∨ 2047 < at_ then s else match j.prevRow, s.bit (ACC.PLANE_CFG.VECTOR p) with
    | some r, true => (rowsBetween r row).foldl (fun s i => s.hitCell p col i) s
    | _, _ => s.hitRow p col row
  ({ j with next := j.next + 1, prevRow := some row }, s)

/-- A job takes the samples that have been delivered; a lost one ends it (Table 08-9). -/
def State.imageRun : Nat → State → Nat → Imaging → Imaging × State
  | 0, s, _, j => (j, s)
  | fuel + 1, s, ch, j =>
    if (s.firstGone ch j.next j.next).isSome then ({ j with next := j.last + 1 }, s)
    else if j.next ≤ j.last ∧ j.next < s.sampleTop ch then
      let (j', s') := s.imageSample j (s.sampleAt ch j.next)
      State.imageRun fuel s' ch j'
    else (j, s)

/-- The planes take what has been delivered; a finished job ends. -/
def State.pumpImages (s : State) : State :=
  (List.range 4).foldl (fun s p =>
    let ch := s.fld (ACC.PLANE_CFG.SOURCE p)
    let jobs := (s.plane p).jobs
    let (kept, s) := jobs.foldl (fun (x : List Imaging × State) j =>
      let (j', s') := State.imageRun ((s.sampleTop ch - j.next).toNat) x.2 ch j
      (if j'.next ≤ j'.last then x.1 ++ [j'] else x.1, s')) ([], s)
    if jobs.isEmpty then s else s.setPlane p { s.plane p with jobs := kept }) s

/-- Quotient rounded up. -/
def ceilDivI (a : Int) (b : Nat) : Int := -((-a) / b)

/-- The first and last samples a plane examines for a trigger (R204). -/
def State.examined (s : State) (p : Nat) (n : Nat) (c rho : Int) : Int × Int :=
  let xs := s.fld (ACC.PLANE_X.XSTEP p)
  let xt : Int := s.fld (ACC.PLANE_X.XTRIG p)
  let lo := ceilDivI (ceilDivI (-(xt * 2 ^ 22)) xs + rho) 64
  let hi := (ceilDivI ((2048 - xt) * 2 ^ 22) xs - 1 + rho) / 64
  (max (c - 8192 * n) (c + lo), c + hi)

/-- At commit each plane of the plan locates the trigger and places its examined samples, while the plan is armed (R203, R204). -/
def State.imageCommit (s : State) (pl : Plan) (t : Trig) : State :=
  (List.range 4).foldl (fun s p =>
    if s.bit (ACC.PLANE_CFG.ENABLE p) && s.fld (ACC.PLANE_CFG.PLAN p) == pl.num && s.planArmed pl.num then
      let ch := s.fld (ACC.PLANE_CFG.SOURCE p)
      let (c, rho) := centreOf (s.spt ch) t.t
      let (lo, hi) := s.examined p (s.lanes ch) c rho
      let x := s.plane p
      let late := match x.lastExam with
        | some e => decide (lo ≤ e)
        | none => false
      if late then s.bumpF (ACC.PLANE_STATUS.SKIPS p) 1
      else
        let j : Imaging := { plane := p, c := c, rho := rho, next := lo, last := hi, prevRow := none }
        (s.setPlane p { x with lastExam := some hi, jobs := x.jobs ++ [j] }).bumpF (ACC.PLANE_COUNT.RECORDS p) 1
    else s) s

/-- At a stop or a disarm the hits placed stay and imaging ends (R203, Table 08-9). -/
def State.dropImages (s : State) (p : Nat) : State :=
  (List.range 4).foldl (fun s i =>
    if s.fld (ACC.PLANE_CFG.PLAN i) = p ∧ (s.plane i).jobs.isEmpty = false then s.setPlane i { s.plane i with jobs := [] } else s) s

/-- An emergency shuffle on channel `c` ends the imaging of the planes that take its samples (Table 08-9). -/
def State.dropChannelImages (s : State) (c : Nat) : State :=
  (List.range 4).foldl (fun s i =>
    if s.fld (ACC.PLANE_CFG.SOURCE i) = c ∧ (s.plane i).jobs.isEmpty = false then s.setPlane i { s.plane i with jobs := [] } else s) s

/-- A plane's counts become zero (R205, R206). -/
def State.zeroPlane (s : State) (p : Nat) : State :=
  ((s.setPlane p { s.plane p with hits := [] }).setF (ACC.PLANE_STATUS.SAT p) 0).markChanged

/-- Activation of a plan clears its planes (R203). -/
def State.clearPlanes (s : State) (p : Nat) : State :=
  (List.range 4).foldl (fun s i =>
    if s.bit (ACC.PLANE_CFG.ENABLE i) && s.fld (ACC.PLANE_CFG.PLAN i) == p then s.zeroPlane i else s) s

/-! ### Samples delivered -/

/-- The oldest sample of channel `c` that an add or an image still needs. -/
def State.oldestNeeded (s : State) (c : Nat) : Int :=
  let top := s.sampleTop c
  let adds := (List.range 8).flatMap fun k => match s.slotOf? k with
    | some sl => match s.planOf sl.plan with
      | some pl => (s.accOf k).adds.flatMap fun d => (d.centres.filter fun x => x.1 == c).map fun x => (inputSpan pl x.2.1).1
      | none => []
    | none => []
  let jobs := (List.range 4).flatMap fun p =>
    if s.fld (ACC.PLANE_CFG.SOURCE p) = c then (s.plane p).jobs.map fun j => j.next else []
  (adds ++ jobs).foldl min (top - 16384 * s.lanes c)

/-- Samples from number `n` on are delivered on channel `c`; a gap starts the history anew. -/
def State.deliver (s : State) (c n : Nat) (xs : List Int) : State :=
  let old := if Tbl.get 0 s.acc.histN c = n then Tbl.get [] s.acc.hist c else []
  let s := { s with acc := { s.acc with hist := Tbl.set [] s.acc.hist c (xs.reverse ++ old)
                                        histN := Tbl.set 0 s.acc.histN c (n + xs.length) } }
  let keep := (s.sampleTop c - s.oldestNeeded c).toNat
  { s with acc := { s.acc with hist := Tbl.set [] s.acc.hist c ((Tbl.get [] s.acc.hist c).take keep) } }

/-! ### Live changes (R211) -/

/-- ACC.RESULT of a live write; a refusal raises the image-parameter notice. -/
def State.accResult (s : State) (p r : Nat) : State :=
  let s := (s.setF ACC.RESULT.PLANE p).setF ACC.RESULT.RESULT r
  if r = 0 then s else s.raise 222 r p 0 0

/-- A live write of register `r` of plane `p`: refused when the plane is not enabled or for the cause given, else pending until
step 1 of the next frame, a second write replacing the first (R211). -/
def State.planeWrite (s : State) (p r v cause : Nat) : State :=
  if s.served (0x72000 + 32 * p + 4 * r) && decide (p < 4) then
    if s.bit (ACC.PLANE_CFG.ENABLE p) = false then s.accResult p 3
    else if cause ≠ 0 then s.accResult p cause
    else
      let x := s.plane p
      let s := s.setPlane p { x with pend := (x.pend.filter fun e => e.1 != r) ++ [(r, v)] }
      (s.setF (ACC.PLANE_STATUS.PEND p) 1).accResult p 0
  else s

/-- The channel is held by the plane's plan. -/
def State.planeHolds (s : State) (p c : Nat) : Bool :=
  match s.planOf (s.fld (ACC.PLANE_CFG.PLAN p)) with
  | some pl => (pl.chan? c).isSome
  | none => false

/-- A write of PLANE_CFG[p].SOURCE (R211). -/
def effPlaneSourceWrite (p v : Nat) (s : State) : State :=
  s.planeWrite p 0 v (if s.planeHolds p (v / 2 ^ 16 % 64) then 0 else 2)

/-- A write of PLANE_X[p] (R211). -/
def effPlaneXWrite (p v : Nat) (s : State) : State := s.planeWrite p 1 v (if v % 2 ^ 20 = 0 then 1 else 0)

/-- A write of PLANE_Y[p] (R211). -/
def effPlaneYWrite (p v : Nat) (s : State) : State := s.planeWrite p 2 v (if v / 2 ^ 16 % 2 ^ 16 = 0 then 1 else 0)

/-- A write of PLANE_LOOK[p] (R211). -/
def effPlaneLookWrite (p v : Nat) (s : State) : State := s.planeWrite p 3 v (if v / 2 ^ 8 % 2 ^ 8 = 0 then 1 else 0)

/-- A write of PLANE_SCALE[p] (R211). -/
def effPlaneScaleWrite (p v : Nat) (s : State) : State := s.planeWrite p 4 v 0

/-- A write of ACC.CURVE[i], pending until the next frame (R211). -/
def effCurveWrite (i v : Nat) (s : State) : State :=
  if s.served (0x73400 + 4 * i) && decide (i < 256) then
    { s with acc := { s.acc with curve := (s.acc.curve.filter fun e => e.1 != i) ++ [(i, v % 1024)] } }
  else s

/-- ACC.CMD.CLR_PLANE: each plane of the mask is cleared at step 1 of the next frame (R206). -/
def effAccClrPlane (mask : Nat) (s : State) : State :=
  if s.served 0x70000 then
    (List.range 4).foldl (fun s p =>
      if bitOf mask p then (s.setPlane p { s.plane p with clear := true }).setF ACC.CMD.CLR_PLANE (withBit (s.fld ACC.CMD.CLR_PLANE) p)
      else s) s
  else s

/-- The counters that ACC.CMD.CLR_COUNTS clears (R213). -/
def accCounters : List Fld :=
  ((List.range 8).flatMap fun k =>
    [ACC.SLOT_SKIPS.BUSY k, ACC.SLOT_SKIPS.QUALITY k, ACC.SLOT_SKIPS.HISTORY k, ACC.SLOT_SKIPS.OVERLAP k]) ++
    ((List.range 4).flatMap fun p => [ACC.PLANE_COUNT.RECORDS p, ACC.PLANE_STATUS.SKIPS p]) ++
    [ACC.COMP_COUNTS.FRAMES, ACC.COMP_COUNTS.UNCHANGED, ACC.COMP_OVERRUN.OVERRUN]

/-- ACC.CMD.CLR_COUNTS (R213). -/
def effAccClrCounts (s : State) : State := if s.served 0x70000 then s.clearCounts accCounters else s

def execAccFinish (k : Nat) (s : State) : Res := .next (effAccFinish k s)
def execAccClrPlane (mask : Nat) (s : State) : Res := .next (effAccClrPlane mask s)
def execAccClrCounts (s : State) : Res := .next (effAccClrCounts s)
def execPlaneSourceWrite (p v : Nat) (s : State) : Res := .next (effPlaneSourceWrite p v s)
def execPlaneXWrite (p v : Nat) (s : State) : Res := .next (effPlaneXWrite p v s)
def execPlaneYWrite (p v : Nat) (s : State) : Res := .next (effPlaneYWrite p v s)
def execPlaneLookWrite (p v : Nat) (s : State) : Res := .next (effPlaneLookWrite p v s)
def execPlaneScaleWrite (p v : Nat) (s : State) : Res := .next (effPlaneScaleWrite p v s)
def execCurveWrite (i v : Nat) (s : State) : Res := .next (effCurveWrite i v s)

end Sys2Proof.Machine
end

