-- ==== Sys2Proof/Machine/Calibrate.lean ====
section
/-!
DEFINITION. Calibration: repeat agreement and adoption, fall-back values, background runs, tracking, snapshots (R86 to R107).
Measured values come with the commands, in the fine units each quantity names (log entry 20).
-/

namespace Sys2Proof.Machine

/-! ### Repeat agreement (R89, R90) -/

/-- Kinds of measured value, with its fine unit. -/
inductive Quantity where
  | weight      -- 2^-16 LSB
  | offset      -- 2^-16 LSB
  | gain        -- 2^-30
  | trim        -- phase-tap or aperture trim, 2^-8 fs
  | delay       -- trunk delay, 2^-8 fs
  | trunkGain   -- 10^-6 dB
  | skew        -- 2^-8 fs
  | tap         -- bandwidth tap, 2^-24
  deriving DecidableEq, Repr

/-- The agreement condition of Table 04-3 on two results. -/
def Quantity.agrees (q : Quantity) (r : Int × Int) : Bool :=
  let d : Int := ((r.1 - r.2).natAbs : Int)
  match q with
  | .weight => decide (10 * d ≤ 65536)
  | .offset => decide (2 * d ≤ 65536)
  | .gain => decide (10000 * d ≤ r.1 + r.2)
  | .trim | .delay | .skew => decide (d ≤ 20 * 256)
  | .trunkGain => decide (d ≤ 1700)
  | .tap => decide (1000 * d ≤ 2 * 16777216)

/-- A quotient rounded to the nearest integer, halves away from zero (R89). -/
def roundDiv (a : Int) (b : Nat) : Int :=
  if 0 ≤ a then (2 * a + b) / (2 * b) else -((2 * (-a) + b) / (2 * b))

/-- The divisor that takes the sum of two fine results to the mean in the quantity's format (Table 04-1). -/
def Quantity.scale : Quantity → Nat
  | .weight => 2048 | .offset => 2048 | .gain => 65536 | .trim => 5120 | .delay => 128000 | .trunkGain => 2000
  | .skew => 512 | .tap => 2048

/-- The mean of two results, rounded to the format with halves away from zero (R89). -/
def Quantity.mean (q : Quantity) (r : Int × Int) : Int := roundDiv (r.1 + r.2) q.scale

/-- The values an item of a step measures, as quantities, each quantity a list of value kinds (Table 04-2). -/
def stepQuantities (step : Nat) : List (List Quantity) :=
  if step = 2 then [List.replicate 14 .weight, [.offset], [.gain]]
  else if step = 3 ∨ step = 4 then [[.trim]]
  else if step = 5 then [[.delay], [.trunkGain]]
  else if step = 6 then [[.offset], [.gain], [.skew], [.tap, .tap, .tap]]
  else []

/-- One quantity's pairs judged and averaged: its means when every value agrees (R89). -/
def judgeQuantity (qs : List Quantity) (rs : List (Int × Int)) : Option (List Int) :=
  if qs.length = rs.length ∧ (List.zipWith Quantity.agrees qs rs).all id then some (List.zipWith Quantity.mean qs rs) else none

/-- An attempt judged quantity by quantity. -/
def judgeAttempt : List (List Quantity) → List (Int × Int) → List (Option (List Int))
  | [], _ => []
  | q :: qs, rs => judgeQuantity q (rs.take q.length) :: judgeAttempt qs (rs.drop q.length)

/-- The attempt that decides an item of power-up calibration: the first that agrees in every quantity, else the third (R89, R90). No
attempt decides it while fewer than three have disagreed. DEDUCED (log entry 96): of an item whose attempts all disagree, the quantities
that agree in the third are adopted. -/
def decideItem (step : Nat) (attempts : List (List (Int × Int))) : Option (List (Option (List Int))) :=
  let js := (attempts.take 3).map (judgeAttempt (stepQuantities step))
  match js.find? fun j => j.all Option.isSome with
  | some j => some j
  | none => js[2]?

/-- The quantities of a background run: each adopts its first attempt that agrees, for only those that disagreed are measured again; none
is decided against before its third attempt (Table 04-5). -/
def decideRun (attempts : List (List (Int × Int))) : Option (List (Option (List Int))) :=
  let js := (attempts.take 3).map (judgeAttempt (stepQuantities 2))
  let d := (List.range (stepQuantities 2).length).map fun q => js.findSome? fun j => (j[q]?).join
  if d.all Option.isSome || decide (3 ≤ js.length) then some d else none

/-- An item needed a second or third attempt: the first does not agree. -/
def retried (step : Nat) (attempts : List (List (Int × Int))) : Bool :=
  match attempts with
  | [] => false
  | a :: _ => !((judgeAttempt (stepQuantities step) a).all Option.isSome)

/-! ### The input pre-check and the loop-back check (R93, R96) -/

/-- An input is live: its rms level is above -30 dBFS, 10^-3 of the mean square 2048² / 2 of a full-scale sine (R93). -/
def inputLive (x : InputLevel) : Bool := decide (2097152 * x.count < 1000 * x.sumSq)

/-- The 1024 samples at one level: the mean error is within `mean` LSB and the rms deviation within `rms` LSB. DEDUCED (log entry
96): the deviation is from the level's mean. -/
def levelWithin (mean rms : Nat) (x : Int × Nat) : Bool :=
  decide (x.1.natAbs ≤ 64 * 1024 * mean) && decide ((1024 * x.2 : Int) - x.1 * x.1 ≤ ((64 * 1024 * rms : Nat) : Int) ^ 2)

/-- The loop-back check passes at every one of the five levels: mean error 1.0 LSB, rms deviation 2.0 LSB at the most (R96). -/
def loopPasses (x : LoopBack) : Bool := x.length == 5 && x.all (levelWithin 1 2)

/-- The outcome of step 7 for a slice: it fails when both its check and the one re-measurement fail (R87, R96); none while a failing slice
has not been measured again. -/
def loopOutcome : List LoopBack → Option Bool
  | [] => none
  | a :: t => if loopPasses a then some true else t.head?.map loopPasses

/-! ### History and fall-back (R105) -/

/-- The layout and splitter values a trunk or slot quantity depends on (R105). -/
def State.calSig (s : State) : List Nat :=
  [s.fld CNV.LAYOUT.MODE, s.fld CNV.LAYOUT.JOIN] ++
    (List.range 4).flatMap fun g => [s.fld (CAL.TRUNK_IMAGE.DELAY g), s.fld (CAL.TRUNK_IMAGE.GAIN g)]

/-- The most recent passing value of a quantity in the history, on the same stepping and, for trunk and slot quantities, with the same
layout and splitter values (R105). -/
def State.histValue (s : State) (step q item : Nat) : Option (List Int) :=
  let fits : CalRun → Option (Nat × List Int) := fun r =>
    if r.stepping ≠ Config.stepping ∨ ((step = 5 ∨ step = 6) ∧ r.sig ≠ s.calSig) then none
    else (r.items.find? fun x => x.step == step && x.item == item && x.q == q && x.agreed).map fun x => (r.num, x.values)
  let bg := if step = 2 then match Tbl.get none s.nv.calBg item with
      | some r => fits r
      | none => none
    else none
  let up := s.nv.calRuns.findSome? fits
  match up, bg with
  | some a, some b => some (if a.1 < b.1 then b.2 else a.2)
  | some a, none => some a.2
  | none, some b => some b.2
  | none, none => none

/-- The value of a quantity and its source: adopted (0), the most recent passing value in the history (2), factory (3), used as stored
(R105, R106). -/
def State.resolve (s : State) (step q item : Nat) (adopted : Option (List Int)) : List Int × Nat :=
  match adopted with
  | some v => (v, 0)
  | none =>
    match s.histValue step q item with
    | some v => (v, 2)
    | none => (Config.factory (8 * step + q) item, 3)

/-- A quantity of an item of the power-up calibration under way enters its result (R105). -/
def State.noteItem (s : State) (step q item : Nat) (agreed : Bool) (v : List Int) : State :=
  { s with cal := { s.cal with results := { step := step, item := item, q := q, agreed := agreed, values := v } :: s.cal.results } }

/-- A calibration history record is complete: its CAL log entry, kind 0 power-up or 1 background (Table 14-7). -/
def State.logCal (s : State) (kind : Nat) : State :=
  let n := s.nv.calRecords
  let s := { s with nv := { s.nv with calRecords := n + 1 } }
  s.logEntry 3 0 (s.logFlags false) (le 4 (Config.calOffset n) ++ le 1 kind)

/-- The result of a power-up calibration goes to the history, which keeps the last eight, with the die temperatures at step 2 and, when
it runs, at step 6, which are free values of the calibration (R105; log entry 2). -/
def State.storePowerUp (s : State) : State :=
  let temps := Config.dieTemp s.cal.calAt 2 :: (if (List.range 4).any s.trunk then [Config.dieTemp s.cal.calAt 6] else [])
  let r : CalRun := { num := s.nv.calRecords, stepping := Config.stepping, sig := s.calSig, temps := temps, items := s.cal.results }
  State.logCal { s with nv := { s.nv with calRuns := (r :: s.nv.calRuns).take 8 }, cal := { s.cal with results := [] } } 0

/-- The result of a passing background run replaces the slice's last one (R105). -/
def State.storeBg (s : State) (sl : Nat) (values : List (List Int)) : State :=
  let (t, s) := s.free
  let items := (values.zipIdx).map fun x => { step := 2, item := sl, q := x.2, agreed := true, values := x.1 : CalItem }
  let r : CalRun := { num := s.nv.calRecords, stepping := Config.stepping, sig := s.calSig, temps := [t], items := items }
  State.logCal { s with nv := { s.nv with calBg := Tbl.set none s.nv.calBg sl (some r) } } 1

/-! ### Adoption -/

/-- The fields that mark a slice, in the order weights, offset, gain (R91). -/
def sliceMark (sl q : Nat) : Fld :=
  if q = 0 then CAL.SLICE_STATE.WT_SUSP sl else if q = 1 then CAL.SLICE_STATE.OFF_SUSP sl else CAL.SLICE_STATE.GAIN_SUSP sl

/-- The fields that mark a wide channel by slot quantity (R91). -/
def slotMark (c q : Nat) : Fld :=
  if q = 0 then CAL.CHAN_STATE.OFF_SUSP c else if q = 1 then CAL.CHAN_STATE.GAIN_SUSP c
  else if q = 2 then CAL.CHAN_STATE.SKEW_SUSP c else CAL.CHAN_STATE.BW_SUSP c

/-- The design weight where no weight has been adopted. -/
def State.weightOf (s : State) (i : Nat) : Int :=
  match Tbl.get none s.cal.weight i with
  | some w => w
  | none => Config.designWeight (i % 16)

/-- A slice quantity takes its value: 0 weights, 1 offset, 2 gain. -/
def State.setSliceValue (s : State) (sl q : Nat) (v : List Int) : State :=
  if q = 0 then
    let w := (List.range 14).foldl (fun t b => Tbl.set none t (16 * sl + b) (v[b]?)) s.cal.weight
    { s with cal := { s.cal with weight := w } }
  else if q = 1 then { s with cal := { s.cal with offset := Tbl.set 0 s.cal.offset sl (v.headD 0) } }
  else { s with cal := { s.cal with gain := Tbl.set 0x8000 s.cal.gain sl (v.headD 0x8000) } }

/-- A slot quantity takes its value: 0 offset, 1 gain, 2 skew, 3 bandwidth taps. -/
def State.setSlotValue (s : State) (l q : Nat) (v : List Int) : State :=
  if q = 0 then { s with cal := { s.cal with slotOffset := Tbl.set 0 s.cal.slotOffset l (1024 * v.headD 0) } }
  else if q = 1 then { s with cal := { s.cal with slotGain := Tbl.set 1073741824 s.cal.slotGain l (32768 * v.headD 32768) } }
  else if q = 2 then { s with cal := { s.cal with slotSkew := Tbl.set 0 s.cal.slotSkew l (256 * satI (v.headD 0) (-2000) 2000) } }
  else { s with cal := { s.cal with bwM := Tbl.set 0 s.cal.bwM l (v.headD 0)
                                    bw0 := Tbl.set 0x4000 s.cal.bw0 l (v.getD 1 0x4000)
                                    bwP := Tbl.set 0 s.cal.bwP l (v.getD 2 0) } }

/-- A field raised to a value it is below: the weakest source has the highest code (R105). -/
def State.maxF (s : State) (f : Fld) (v : Nat) : State := if s.fld f < v then s.setF f v else s

/-- A slice's mark follows its per-quantity marks (R91). -/
def State.markSlice (s : State) (sl : Nat) : State :=
  s.setB (CAL.SLICE_STATE.SUSPECT sl)
    (s.bit (CAL.SLICE_STATE.OFF_SUSP sl) || s.bit (CAL.SLICE_STATE.GAIN_SUSP sl) || s.bit (CAL.SLICE_STATE.WT_SUSP sl) ||
     s.bit (CAL.SLICE_STATE.AP_SUSP sl) || s.bit (CAL.SLICE_STATE.LB_FAIL sl))

/-- A channel's mark follows its per-quantity marks (R91). -/
def State.markChan (s : State) (c : Nat) : State :=
  s.setB (CAL.CHAN_STATE.SUSPECT c)
    (s.bit (CAL.CHAN_STATE.PHASE_SUSP c) || s.bit (CAL.CHAN_STATE.TRIM_SUSP c) || s.bit (CAL.CHAN_STATE.OFF_SUSP c) ||
     s.bit (CAL.CHAN_STATE.GAIN_SUSP c) || s.bit (CAL.CHAN_STATE.SKEW_SUSP c) || s.bit (CAL.CHAN_STATE.BW_SUSP c) ||
     s.bit (CAL.CHAN_STATE.LIVE c))

/-- The channels that sample at phase `p` of group `g` (R91). -/
def State.chansAtPhase (s : State) (g p : Nat) : List Nat :=
  (((List.range 16).map fun m => 16 * g + m).filter fun l => s.phaseOf l == p).map s.chanOf

/-- One quantity of an item of step 2, 3, 4 or 6 takes its value, its mark and its source. -/
def State.adoptOne (s : State) (step item q : Nat) (adopted : Option (List Int)) : State :=
  let (v, src) := s.resolve step q item adopted
  let bad := adopted.isNone
  let s := s.noteItem step q item (!bad) v
  if step = 2 then
    ((s.setSliceValue item q v).setB (sliceMark item q) bad).maxF (CAL.SLICE_STATE.SRC item) src
  else if step = 3 then
    let s := { s with cal := { s.cal with phase := Tbl.set 0 s.cal.phase item (v.headD 0)
                                          phaseSusp := Tbl.set false s.cal.phaseSusp item bad } }
    (s.chansAtPhase (item / 64) (item % 64)).foldl (fun s c =>
      (if bad then s.setF (CAL.CHAN_STATE.PHASE_SUSP c) 1 else s).maxF (CAL.CHAN_STATE.SRC c) src) s
  else if step = 4 then
    let s := { s with cal := { s.cal with aperture := Tbl.set 0 s.cal.aperture item (v.headD 0)
                                          apSrc := Tbl.set 0 s.cal.apSrc item src } }
    (s.setB (CAL.SLICE_STATE.AP_SUSP item) bad).maxF (CAL.SLICE_STATE.SRC item) src
  else if step = 6 then
    let c := s.chanOf item
    let s := s.setSlotValue item q v
    (if bad then s.setF (slotMark c q) 1 else s).maxF (CAL.CHAN_STATE.SRC c) src
  else s

/-- A trunk quantity takes its value: 0 the delay trim, 1 the gain. -/
def State.setTrunkValue (s : State) (g q : Nat) (v : Int) : State :=
  if q = 0 then { s with cal := { s.cal with trunkDelay := Tbl.set 0 s.cal.trunkDelay g v } }
  else { s with cal := { s.cal with trunkGain := Tbl.set 0 s.cal.trunkGain g v } }

/-- A quantity of a trunk adopted or fallen back to. -/
def State.adoptTrunkOne (s : State) (g q : Nat) (adopted : Option Int) : State :=
  let c := s.chanOf (16 * g)
  let (v, src) := s.resolve 5 q g (adopted.map fun x => [x])
  let s := s.noteItem 5 q g adopted.isSome v
  let s := if adopted.isNone then s.setF (CAL.CHAN_STATE.TRIM_SUSP c) 1 else s
  (s.setTrunkValue g q (v.headD 0)).maxF (CAL.CHAN_STATE.SRC c) src

/-- The delay and gain sums of a trunk: the image's difference and the factory's, in 0.01 ps and 0.001 dB (R94). -/
def State.trunkSums (s : State) (g : Nat) : Int × Int :=
  (s.fldS (CAL.TRUNK_IMAGE.DELAY g) + Config.trunkDelay g, s.fldS (CAL.TRUNK_IMAGE.GAIN g) + Config.trunkGain g)

/-- A trunk's sums cannot be trimmed: the item fails at once (R94). -/
def State.trunkOut (s : State) (g : Nat) : Bool :=
  decide (600 < (s.trunkSums g).1.natAbs) || decide (1000 < (s.trunkSums g).2.natAbs)

/-- Step 5 for a non-reference trunk: the trims are the sums, and the measurement of the trimmed trunk decides each of the two
quantities; sums outside the range fail both at once (R90, R94). -/
def State.adoptTrunk (s : State) (g : Nat) (js : List (Option (List Int))) : Bool × State :=
  let (d, a) := s.trunkSums g
  let ok : Nat → Bool := fun q => !s.trunkOut g && ((js[q]?).join).isSome
  let s' := (s.adoptTrunkOne g 0 (if ok 0 then some (roundDiv d 25) else none)).adoptTrunkOne g 1 (if ok 1 then some a else none)
  (!(ok 0 && ok 1), s')

/-- An item has been decided: its attempts settle it, or it is a trunk that cannot be trimmed (R90, R94). -/
def State.settled (s : State) (m : CalMeasure) : Bool :=
  (decideItem m.1 m.2.2).isSome || (m.1 == 5 && s.trunkOut m.2.1)

/-- An item has finished: POS counts it, and PCT is floor(100 POS / TOTAL) (R88). -/
def State.finishItem (s : State) : State :=
  let s := s.wrapF CAL.PROGRESS.POS 1
  s.setF CAL.STATUS.PCT (100 * s.fld CAL.PROGRESS.POS / s.fld CAL.PROGRESS.TOTAL)

/-- One item adopted; the answer says whether it was marked CAL_SUSPECT. -/
def State.adoptItem (s : State) (m : CalMeasure) : Bool × State :=
  let (step, item, attempts) := m
  let js := (decideItem step attempts).getD []
  if step = 5 then s.adoptTrunk item js
  else
    let r := js.foldl (fun (p : Nat × State) j => (p.1 + 1, p.2.adoptOne step item p.1 j)) (0, s)
    (js.any Option.isNone, r.2)

/-- The progress units of the steps that run, fixed at entry to CALIBRATE (R87, R88). -/
def State.calTotal (s : State) : Nat :=
  let trunks := (List.range 4).filter s.trunk
  let refs := trunks.filter fun g => s.chanOf (16 * g) != 16 * g
  1 + 68 + 256 + 17 * trunks.length + refs.length + 16 * trunks.length + 68 + 1

/-! ### Background runs -/

/-- A slice's marks are cleared (R99). -/
def State.clearSliceMarks (s : State) (sl : Nat) : State :=
  let was := s.bit (CAL.SLICE_STATE.SUSPECT sl)
  let s := s.clearFs [CAL.SLICE_STATE.OFF_SUSP sl, CAL.SLICE_STATE.GAIN_SUSP sl, CAL.SLICE_STATE.WT_SUSP sl,
    CAL.SLICE_STATE.AP_SUSP sl, CAL.SLICE_STATE.LB_FAIL sl, CAL.SLICE_STATE.SUSPECT sl]
  if was then { s with cal := { s.cal with markOff := Tbl.set 0 s.cal.markOff sl (s.now + 1) } } else s

/-- A background run passes: its values are adopted and written to the history, the slice's marks are cleared, and it is ready (R98, R99). -/
def State.passRun (s : State) (sl : Nat) (js : List (Option (List Int))) : State :=
  let values := js.filterMap id
  let s := (values.zipIdx).foldl (fun (s : State) x => s.setSliceValue sl x.2 x.1) s
  let s := s.clearSliceMarks sl
  let s := s.setF (CAL.SLICE_STATE.SRC sl) (max 1 (Tbl.get 0 s.cal.apSrc sl))
  let s := (s.setF (CAL.SLICE_STATE.BG_FAILS sl) 0).setF (CAL.SLICE_STATE.BG_STATE sl) 4
  s.storeBg sl values

/-- A background run fails: the slice keeps its values; the third failure in a row retires it (R98). -/
def State.failRun (s : State) (sl : Nat) : State :=
  let n := s.fld (CAL.SLICE_STATE.BG_FAILS sl) + 1
  let s := (s.setF (CAL.SLICE_STATE.BG_FAILS sl) (min 3 n)).setF (CAL.SLICE_STATE.BG_STATE sl) 5
  let s := (s.bumpF CAL.COUNTS.BG_FAILED 1).raise (56 + sl / 17) 0 sl 0 0
  if 3 ≤ n then s.retire sl 1 else s

/-- BG_RUN_COMPLETE: a background run ends once every quantity has agreed or has disagreed three times (R98). -/
def effBgRunComplete (sl : Nat) (attempts : List (List (Int × Int))) (loopBack : LoopBack) (s : State) : State :=
  if (Tbl.get none s.cal.bgRun sl).isSome && s.running && (Tbl.get none s.bst.run (sl / 17)).isNone && decide (sl < 68) then
    match decideRun attempts with
    | none => s
    | some js =>
      let s := (s.setBg sl none).bumpF CAL.COUNTS.BG_RUNS 1
      if js.all Option.isSome && loopPasses loopBack then s.passRun sl js else s.failRun sl
  else s

/-! ### Snapshots and counters -/

/-- The slot skew of a lane in the steps of 1 fs in which it is held and applied (R71, Table 04-1); tracking gathers fractions of a
step beside it (log entry 99). -/
def State.skewFs (s : State) (l : Nat) : Int := roundDiv (Tbl.get 0 s.cal.slotSkew l) 256

/-- A snapshot of the calibration values, taken in one fabric cycle (R107). -/
def State.calSnap (s : State) : State :=
  let s := (List.range 68).foldl (fun s sl =>
    let s := (s.setS (CAL.SLICE_OG.OFFSET sl) (Tbl.get 0 s.cal.offset sl)).setF (CAL.SLICE_OG.GAIN sl) (Tbl.get 0x8000 s.cal.gain sl).toNat
    let s := s.setS (CAL.SLICE_APERTURE.TRIM sl) (Tbl.get 0 s.cal.aperture sl)
    (List.range 14).foldl (fun s b => s.setF (CAL.SLICE_WEIGHT.WEIGHT (16 * sl + b)) (s.weightOf (16 * sl + b)).toNat) s) s
  let s := (List.range 256).foldl (fun s i =>
    (s.setS (CAL.PHASE_TRIM.TRIM i) (Tbl.get 0 s.cal.phase i)).setB (CAL.PHASE_TRIM.SUSP i) (Tbl.get false s.cal.phaseSusp i)) s
  let s := (List.range 4).foldl (fun s g =>
    (s.setS (CAL.TRUNK_TRIM.DELAY g) (Tbl.get 0 s.cal.trunkDelay g)).setS (CAL.TRUNK_TRIM.GAIN g) (Tbl.get 0 s.cal.trunkGain g)) s
  (List.range 64).foldl (fun s l =>
    let s := s.setS (CAL.SLOT_OG.OFFSET l) (roundDiv (Tbl.get 0 s.cal.slotOffset l) 1024)
    let s := s.setF (CAL.SLOT_OG.GAIN l) (min 65535 (roundDiv (Tbl.get 1073741824 s.cal.slotGain l) 32768).toNat)
    let s := s.setS (CAL.SLOT_SKEW.SKEW l) (s.skewFs l)
    let s := s.setS (CAL.SLOT_BW0.B0 l) (Tbl.get 0x4000 s.cal.bw0 l)
    (s.setS (CAL.SLOT_BW1.BM1 l) (Tbl.get 0 s.cal.bwM l)).setS (CAL.SLOT_BW1.BP1 l) (Tbl.get 0 s.cal.bwP l)) s

/-- CAL.CMD.SNAP (R107). -/
def effCalSnap (s : State) : State := if s.served 0x30008 then s.calSnap else s

/-- The counters that CAL.CMD.CLR_COUNTS clears: CAL.COUNTS, and INSUFF and UPDATES of CAL.TRACK_STATUS (R107). -/
def calCounters : List Fld :=
  [CAL.COUNTS.BG_RUNS, CAL.COUNTS.BG_FAILED, CAL.COUNTS.DISCARDS] ++
    (List.range 64).flatMap fun c => [CAL.TRACK_STATUS.INSUFF c, CAL.TRACK_STATUS.UPDATES c]

/-- CAL.CMD.CLR_COUNTS (R107). -/
def effCalClrCounts (s : State) : State := if s.served 0x30008 then s.clearCounts calCounters else s

def execBgRunComplete (sl : Nat) (attempts : List (List (Int × Int))) (loopBack : LoopBack) (s : State) : Res :=
  .next (effBgRunComplete sl attempts loopBack s)
def execCalSnap (s : State) : Res := .next (effCalSnap s)
def execCalClrCounts (s : State) : Res := .next (effCalClrCounts s)

end Sys2Proof.Machine
end

