-- ==== Sys2Proof/Machine/Correct.lean ====
section
/-!
DEFINITION. From raw conversions to corrected samples: stage 3 per slice, stage 4 per slot of a wide channel, the sample coding, and
the gathering of tracking windows (R69 to R71, R101).
-/

namespace Sys2Proof.Machine

/-! ### Stage 3 (R71) -/

/-- SAR decision `b` of a raw conversion, b = 0 the first: the most significant of 14 bits. -/
def sarBit (raw b : Nat) : Bool := bitOf raw (13 - b)

/-- The weighted sum of the decisions, in 1/64 LSB. -/
def sarSum (w : Nat → Int) (raw : Nat) : Int := ((List.range 14).map fun b => if sarBit raw b then w b else 0).sum

/-- The clip code of a raw conversion at its lowest or highest level (R69). -/
def clipCode (raw : Nat) : Option Int := if raw = 0 then some (-2048) else if raw = 2 ^ 14 - 1 then some 2047 else none

/-- Stage 3: bit weights, offset, gain of the slice; in 2^-21 LSB. DESIGN CHOICE (log entry 93): a decision adds its weight or nothing, and
the sum that stands for 0 is not given. -/
def State.stage3 (s : State) (sl raw : Nat) : Int :=
  (sarSum (fun b => s.weightOf (16 * sl + b)) raw - Config.sarZero - Tbl.get 0 s.cal.offset sl) * Tbl.get 0x8000 s.cal.gain sl

/-- A corrected result `a` / `b` in LSB as a code: rounded to the nearest, halves away from zero, and saturated short of the clip codes
(R69). -/
def codeOf (a : Int) (b : Nat) : Int := satI (roundDiv a b) (-2047) 2046

/-! ### The conversions of a channel -/

/-- How far the filters of stage 4 look past a sample: four samples for the differentiator and one for the bandwidth filter. -/
def State.reach (s : State) (c : Nat) : Nat := if s.trunk (c / 16) then 5 else 0

/-- The raw conversion of sample `n` of channel `c`, when it has been delivered and is kept. -/
def State.rawAt (s : State) (c : Nat) (n : Int) : Option Nat :=
  let top : Int := ((Tbl.get 0 s.cnv.convN c : Nat) : Int)
  if n < top then (Tbl.get [] s.cnv.conv c)[(top - 1 - n).toNat]? else none

/-- The slice that serves a lane at a time in 2^-23 ns. -/
def State.sliceWhen (s : State) (lane t : Nat) : Nat := ((s.servers lane t t).map Prod.fst).headD (s.sliceOf lane)

/-- The lane that samples number `n` of channel `c`: slot n mod N (R63). -/
def State.laneAt (s : State) (c : Nat) (n : Int) : Nat := s.slotLane c (n % (s.lanes c : Nat)).toNat

/-- Stage 3 of sample `n` of channel `c`. -/
def State.stage3At (s : State) (c : Nat) (n : Int) (raw : Nat) : Int :=
  let l := s.laneAt c n
  s.stage3 (s.sliceWhen l (fineOf (s.spt c) n)) raw

/-! ### Stage 4 (R71) -/

/-- The unit of a wide sample after slot offset, slot gain and trunk gain: 2^-81 LSB. -/
def wideUnit : Nat := 2 ^ 81

/-- Slot offset and slot gain, with the trunk's gain, of a value after stage 3; in 2^-81 LSB. DESIGN CHOICE (log entry 93): the trunk
gain acts with the slot gain; a trunk without one has the factor 1. -/
def State.slotCorrect (s : State) (lane : Nat) (v : Int) : Int :=
  let t := Tbl.get 0 s.cal.trunkGain (lane / 16)
  (v - 32 * Tbl.get 0 s.cal.slotOffset lane) * Tbl.get 1073741824 s.cal.slotGain lane *
    (if t = 0 then 2 ^ 30 else Config.trunkFactor t)

/-- Sample `n` as the skew filter takes it: a clip code is the value -2048 or +2047 (R70); a conversion nobody delivered is a free
value (log entry 25). -/
def State.wideAt (s : State) (c : Nat) (n : Int) : Int :=
  match s.rawAt c n with
  | none => (Config.unseen c n).toInt * wideUnit
  | some raw => match clipCode raw with
    | some x => x * wideUnit
    | none => s.slotCorrect (s.laneAt c n) (s.stage3At c n raw)

/-- The denominator of a skewed sample beside its unit: taps of 2^-30, skews of 1 fs, ticks of 10^7 fs. -/
def skewUnit : Nat := 2 ^ 30 * 10000000

/-- The 9-tap differentiator about sample `n`, in 2^-30 of the samples' unit per sample. -/
def slopeOf (x : Int → Int) (n : Int) : Int :=
  ((List.range 9).map fun (k : Nat) => Config.diffTap ((k : Int) - 4) * x (n + (k : Int) - 4)).sum

/-- Skew: the slot's delay times the differentiator (R71). -/
def State.skewed (s : State) (c : Nat) (n : Int) : Int :=
  s.wideAt c n * skewUnit + s.skewFs (s.laneAt c n) * (s.spt c : Nat) * slopeOf (s.wideAt c) n

/-- Sample `n` as the bandwidth filter takes it. -/
def State.skewedAt (s : State) (c : Nat) (n : Int) : Int :=
  match s.rawAt c n with
  | none => (Config.unseen c n).toInt * wideUnit * skewUnit
  | some raw => match clipCode raw with
    | some x => x * wideUnit * skewUnit
    | none => s.skewed c n

/-- The 3-tap bandwidth filter of the sample's slot (R71), with taps of 2^-14. -/
def State.stage4 (s : State) (c : Nat) (n : Int) : Int :=
  let l := s.laneAt c n
  Tbl.get 0 s.cal.bwM l * s.skewedAt c (n - 1) + Tbl.get 0x4000 s.cal.bw0 l * s.skewedAt c n +
    Tbl.get 0 s.cal.bwP l * s.skewedAt c (n + 1)

/-- The corrected sample `n` of channel `c` (R69 to R71): its clip code when its own slice's conversion is at an end of its range, else the
rounded result. DESIGN CHOICE (log entry 94): the values in force when the samples are delivered correct them. -/
def State.correct (s : State) (c : Nat) (n : Int) : Int :=
  match s.rawAt c n with
  | none => (Config.unseen c n).toInt
  | some raw => match clipCode raw with
    | some x => x
    | none => if s.trunk (c / 16) then codeOf (s.stage4 c n) (wideUnit * skewUnit * 2 ^ 14) else codeOf (s.stage3At c n raw) (2 ^ 21)

/-- Raw conversions of channel `c` from number `n` on. -/
def State.convert (s : State) (c n : Nat) (raws : List Nat) : State :=
  let old := if Tbl.get 0 s.cnv.convN c = n then Tbl.get [] s.cnv.conv c else []
  { s with cnv := { s.cnv with conv := Tbl.set [] s.cnv.conv c ((raws.reverse ++ old).take 1024)
                               convN := Tbl.set 0 s.cnv.convN c (n + raws.length) } }

/-- Raw conversions are 14 decisions. -/
def rawsOk (xs : List Nat) : Bool := xs.all fun x => decide (x < 2 ^ 14)

/-- The corrected samples of channel `c` from number `a` to before `b`. -/
def State.corrected (s : State) (c a b : Nat) : List Int := (List.range (b - a)).map fun (j : Nat) => s.correct c ((a + j : Nat) : Int)

/-! ### Tracking windows (R101, R104) -/

/-- Channel `c` is tracked: a wide channel that an active plan holds, not stopped, with TRACK_EN (R101, R104). -/
def State.tracked (s : State) (c : Nat) : Bool :=
  s.bit CAL.BG_CFG.TRACK_EN && (s.slotHolding c).isSome && s.running && s.trunk (c / 16) && s.chanExists c && !s.chanStopped c

/-- The tracking window of channel `c` set or cleared. -/
def State.setWin (s : State) (c : Nat) (w : Option TrackWin) : State :=
  { s with cal := { s.cal with win := Tbl.set none s.cal.win c w } }

/-- Corrected samples of channel `c` from number `n` on enter its tracking window; the first one begins when the samples of a tracked
channel begin, and windows follow one another (R101). -/
def State.trackSamples (s : State) (c n : Nat) (xs : List Int) : State :=
  if s.tracked c then
    match Tbl.get none s.cal.win c with
    | some w =>
      if w.top = n then s.setWin c (some { w with top := n + xs.length, xs := xs.reverse ++ w.xs })
      else s.setWin c (some { from_ := n, top := n + xs.length, xs := xs.reverse })
    | none => s.setWin c (some { from_ := n, top := n + xs.length, xs := xs.reverse })
  else s.setWin c none

end Sys2Proof.Machine
end

