-- ==== Sys2Proof/Machine/Records.lean ====
section
/-!
DEFINITION. Folios, catalogue and books; committing a trigger, ending and sealing a record; folio commands, deadlines, snapshots
(R143 to R170, R185, R187).
-/

namespace Sys2Proof.Machine

/-! ### Catalogue and folio books (R145, R164, R165, R169) -/

/-- CTRL of folio `f` of a plan, as the catalogue unit has last written it (R165). -/
def State.ctrl (s : State) (pl : Plan) (f : Nat) : Nat :=
  ofLe [s.peekAhead (pl.entryAddr f + 12), s.peekAhead (pl.entryAddr f + 13)]

/-- Folio states, Table 06-4. -/
def folioFree : Nat := 0
def folioFilling : Nat := 1
def folioSealed : Nat := 2
def folioReadout : Nat := 3
def folioHeld : Nat := 4

/-- STATE of a folio. -/
def State.folioState (s : State) (pl : Plan) (f : Nat) : Nat := s.ctrl pl f % 8

/-- A live folio book of a plan: 0 to 4 the states, 5 total, 6 OVERWRITTEN, 7 DEADLINE_MISSED. -/
def State.book (s : State) (p i : Nat) : Nat := Tbl.get 0 s.acq.folios (8 * p + i)

/-- A live folio book set. -/
def State.setBook (s : State) (p i v : Nat) : State :=
  { s with acq := { s.acq with folios := Tbl.set 0 s.acq.folios (8 * p + i) v } }

/-- A saturating folio counter. -/
def State.countBook (s : State) (p i : Nat) : State := s.setBook p i (min (2 ^ 32 - 1) (s.book p i + 1))

/-- The requester of a plan's record overhead. -/
def State.overheadReq (s : State) (pl : Plan) : Nat := reqRecord ((s.slotOfPlan pl.num).getD 0)

/-- Bytes 12 and 13 of the catalogue entry written (R164); their acknowledgment makes a move in the folio books (R169). -/
def State.writeCtrl (s : State) (pl : Plan) (f v : Nat) (ack : Option (Nat × Nat × Nat)) : State :=
  s.writeGranule (s.overheadReq pl) (pl.entryAddr f + 12) (le 2 v) 0 ack

/-- A folio's seal tick, for the readout deadline (R166). -/
def State.setSealTick (s : State) (p f : Nat) (t : Option Tick) : State :=
  { s with acq := { s.acq with
    sealTick := Tbl.set 0 s.acq.sealTick (2 ^ 26 * p + f) (match t with
      | some t => t.toNat + 1
      | none => 0)
    sealAt := Tbl.set 0 s.acq.sealAt (2 ^ 26 * p + f) (if t.isSome then s.now + 1 else 0)
    missed := Tbl.set false s.acq.missed (2 ^ 26 * p + f) false } }

/-- A folio changes state, its other CTRL bits kept, OVERWRITTEN and DL_MISSED among them (R164, R165; DESIGN CHOICE, log entry 85). A
folio taken by a queue keeps its seal tick, for it may return to SEALED (R276). -/
def State.moveFolio (s : State) (pl : Plan) (f to_ : Nat) : State :=
  let c := s.ctrl pl f
  let s := s.writeCtrl pl f (c - c % 8 + to_) (some (pl.num, c % 8, to_))
  if to_ = folioSealed ∨ to_ = folioReadout then s else s.setSealTick pl.num f none

/-- A folio may be reserved: FREE, or SEALED under RING (R145). -/
def State.folioUsable (s : State) (pl : Plan) (f : Nat) : Bool :=
  s.folioState pl f == folioFree || (pl.ring && s.folioState pl f == folioSealed)

/-- A set is usable when each of its folios is (R145). -/
def State.setUsable (s : State) (pl : Plan) (j : Nat) : Bool := (List.range pl.k).all fun i => s.folioUsable pl (j * pl.k + i)

/-- The ring position of a plan (R144). -/
def State.ringPos (s : State) (pl : Plan) : Nat :=
  match Tbl.get 0 s.acq.ring pl.num with
  | 0 => pl.sets - 1
  | n + 1 => n

/-- The first usable set among the next `n` in ring order (R152). -/
def State.nextUsable (s : State) (pl : Plan) : Nat → Nat → Option Nat
  | 0, _ => none
  | n + 1, j => if s.setUsable pl (j % pl.sets) then some (j % pl.sets) else State.nextUsable s pl n (j + 1)

/-- The set the plan can reserve next: under RING the first usable, under STOP_WHEN_FULL only the next (R152). -/
def State.reservable (s : State) (pl : Plan) : Option Nat :=
  s.nextUsable pl (if pl.ring then pl.sets else 1) (s.ringPos pl + 1)

/-- A folio becomes FILLING; one that was SEALED is overwritten: counted, marked, and a deadline fault or an overwrite notice is
raised on slot `k` (R153). -/
def State.reserveFolio (s : State) (k : Nat) (pl : Plan) (i f : Nat) : State :=
  let ch := (pl.chans.getD i ⟨0, 0, 0, 0, 0, 0, 0, 0, 0, 0, 0⟩).ch
  let was := s.folioState pl f
  let wasSealed := was == folioSealed
  let s := s.writeCtrl pl f (folioFilling + (if wasSealed then 8 else 0) + 256 * ch) (some (pl.num, was, folioFilling))
  let s := s.setSealTick pl.num f none
  if wasSealed then
    let s := s.countBook pl.num 6
    if pl.deadline ≠ 0 then s.raise (73 + 5 * k) 0 pl.num 0 f else s.raise (74 + 5 * k) 1 pl.num 0 0
  else s

/-- A set is reserved: its folios become FILLING and the ring position moves (R152, R153). -/
def State.reserveSet (s : State) (k : Nat) (pl : Plan) (j : Nat) : State :=
  let s := (List.range pl.k).foldl (fun s i => s.reserveFolio k pl i (j * pl.k + i)) s
  { s with acq := { s.acq with ring := Tbl.set 0 s.acq.ring pl.num (j + 1) } }

/-- A FILLING set returns to FREE without being sealed (R159, R160). -/
def State.releaseSet (s : State) (pl : Plan) (j : Nat) : State :=
  (List.range pl.k).foldl (fun s i => s.moveFolio pl (j * pl.k + i) folioFree) s

/-! ### Slot registers -/

/-- SLOT_STATE.FIFO, FIFO_MAX and SLOT_GATHER follow the slot. DESIGN CHOICE (log entry 85): from a commit on SLOT_GATHER shows the next
set without a trigger, though the lanes still write the committed one up to E. -/
def State.showFifo (s : State) (k : Nat) : State :=
  match s.slotOf? k with
  | none => s
  | some sl =>
    let n := sl.fifo.length
    let s := s.setF (ACQ.SLOT_STATE.FIFO k) n
    let s := if s.fld (ACQ.SLOT_STATE.FIFO_MAX k) < n then s.setF (ACQ.SLOT_STATE.FIFO_MAX k) n else s
    match sl.unbound.head? with
    | some j => s.setF (ACQ.SLOT_GATHER.SET k) j.1
    | none => s

/-- A live trigger book of slot `k`: 0 qualified, 1 accepted, 2 held_off, 3 lost_rearm, 4 lost_queue, 5 early (R168). -/
def State.tbook (s : State) (k i : Nat) : Nat := Tbl.get 0 s.acq.books (8 * k + i)

/-- A trigger book counts one. -/
def State.countT (s : State) (k i : Nat) : State :=
  { s with acq := { s.acq with books := Tbl.set 0 s.acq.books (8 * k + i) ((s.tbook k i + 1) % 2 ^ 64) } }

/-! ### Accession numbers (R156) -/

/-- A persistent record is written to the log memory, over the oldest once the area's 8192 places are taken, and logged (R350, Table 14-5,
Table 14-7; log entry 27). Kind 0 is the ensemble address, 1 an accession block. -/
def State.writePersist (s : State) (kind v : Nat) : State :=
  let off := 32 * s.nv.persistCount % 262144
  let s := { s with nv := { s.nv with persist := ((kind, v) :: s.nv.persist).take 8192, persistCount := s.nv.persistCount + 1 } }
  s.logEntry 4 0 (s.logFlags false) (le 4 off)

/-- The newest persistent record of a kind. -/
def NvSt.persisted (nv : NvSt) (kind : Nat) : Option Nat := (nv.persist.find? fun x => x.1 == kind).map Prod.snd

/-- ACQ.ACCESSION shows the next number. -/
def State.showAccession (s : State) : State := s.setF ACQ.ACCESSION_LO.NEXT s.acq.accession

/-- A block of 2^32 numbers is reserved and numbering goes on at its start (R156). -/
def State.reserveBlock (s : State) : State :=
  let b := match s.nv.persisted 1 with
    | some b => b + 1
    | none => 0
  let s := s.writePersist 1 b
  State.showAccession { s with acq := { s.acq with accession := 2 ^ 32 * b } }

/-- The next accession number, its block reserved before use (R156). -/
def State.takeAccession (s : State) : Nat × State :=
  let s := if s.acq.accession % 2 ^ 32 = 0 ∧ s.nv.persisted 1 ≠ some (s.acq.accession / 2 ^ 32) then s.reserveBlock else s
  (s.acq.accession, State.showAccession { s with acq := { s.acq with accession := (s.acq.accession + 1) % 2 ^ 64 } })

/-! ### Commit (R149, R150, R155, R157) -/

/-- The trigger sample: the first stored sample whose instant is at or after the trigger time (R149). `t` is in 2^-23 ns. -/
def triggerSample (st : Stored) (spt t : Nat) : Int :=
  -- sample m of the arm's count is at (m - base) * finePerTick / spt
  let m0 := ceilDivI ((t : Int) * spt) finePerTick + st.base
  ceilDivI (m0 - st.phi) (st.dm1 + 1)

/-- The span and the header counts of a record (R150). -/
structure RecSpan where
  s : Int
  e : Int
  pre : Nat
  post : Nat
  deficit : Nat
  deriving DecidableEq, Repr

/-- The computation of R150. -/
def recSpan (a : Nat) (t p q sa : Int) : RecSpan :=
  let sr := a * ((t - p) / a)
  let e := a * ceilDivI (t + q) a
  let s := min (max sr sa) e
  let (pre, post) : Int × Int := if s ≤ t then (t - s, e - t) else (0, e - s)
  let def_ := max 0 (p - pre) + max 0 (s - t)
  { s := s, e := e, pre := pre.toNat, post := post.toNat, deficit := min (2 ^ 24 - 1) def_.toNat }

/-- The first lost block index of a segment within a span (R23, R161). -/
def firstLost (lost : List (Nat × Int × Int)) (seg : Nat) (u0 u1 : Int) : Option Int :=
  lost.foldl (fun (m : Option Int) x =>
    let lo := max x.2.1 u0
    if x.1 = seg ∧ lo ≤ x.2.2 ∧ lo < u1 then match m with
      | some v => some (min v lo)
      | none => some lo
    else m) none

/-- The oldest stored sample that the history of a channel still holds: P and H and, for the time between trigger and commit, eight
blocks behind the newest complete block (R146, R242; log entry 85). -/
def Stored.oldest (st : Stored) (c : Chan) : Int :=
  let a : Int := 64 * st.n
  let u := st.u.foldl min (st.u.headD 0)
  max st.start (a * (u - ceilDivI ((c.p : Int) + c.h) (64 * st.n) - 8))

/-- What a record keeps of the set that gathered: its own blocks, before the first lost one (R161). -/
def recSeg (g : Seg) (u0 u1 : Int) (cut : Option Int) : Seg :=
  { wptr := g.wptr, cut := cut
    blks := g.blks.filter fun b => decide (u0 ≤ b.u) && decide (b.u < u1) && (match cut with
      | some c => decide (b.u < c)
      | none => true) }

/-- The blocks after a record's end go to the next set of the slot (R155). -/
def State.regather (s : State) (k key : Nat) (pl : Plan) (st : Stored) (later : List (List Blk)) : State :=
  let n := st.n
  let st0 := { st with gather := List.replicate n {} }
  match s.slotOf? k with
  | none => s
  | some sl =>
    match sl.setsOf (key / 64) with
    | [] => s.putStored k key (some st0)
    | set :: _ =>
      let ch := key % 64
      let r := (List.range n).foldl (fun (x : Stored × State) seg =>
        (later.getD seg []).foldl (fun (y : Stored × State) b =>
          let (g, s') := y.2.appendBlk pl set (pl.posOf ch) ch seg (y.1.gather.getD seg {}) b true
          ({ y.1 with gather := y.1.gather.set seg g }, s')) x) (st0, s)
      r.2.putStored k key (some r.1)

/-- The record of one channel committed (R150, R155, R156). -/
def State.commitChan (s : State) (k set : Nat) (pl : Plan) (t : Trig) (trick session : Nat) (accumulated lateArm : Bool) (c : Chan) : State :=
  match s.slotOf? k with
  | none => s
  | some sl =>
    let key := 64 * t.gen + c.ch
    match Tbl.get none sl.streams key with
    | none => s
    | some st =>
      let spt := s.spt c.ch
      let a := 64 * st.n
      let ts := triggerSample st spt t.t
      let sp := recSpan a ts c.p c.q (max st.sa (Tbl.get st.start t.oldest c.ch))
      let u0 := sp.s / a
      let u1 := sp.e / a
      let segs := (List.range st.n).map fun i => recSeg (st.gather.getD i {}) u0 u1 (firstLost st.lost i u0 u1)
      let later := (List.range st.n).map fun i => (st.gather.getD i {}).blks.filter fun b => decide (u1 ≤ b.u)
      let (acc, s) := s.takeAccession
      let r : Rec :=
        { slot := k, plan := pl.num, set := set, pos := pl.posOf c.ch, ch := c.ch, accession := acc, trick := trick, trig := t
          s := sp.s, e := sp.e, tSample := ts, pre := sp.pre, post := sp.post, deficit := sp.deficit, dm1 := st.dm1
          phi := st.phi, n := st.n, base := st.base, spt := spt, segs := segs
          trunc := segs.any fun g => g.cut.isSome
          poison := segs.any fun g => g.blks.any Blk.bad
          accumulated := accumulated, lateArm := lateArm, session := session, gen := t.gen }
      let s := { s with acq := { s.acq with recs := s.acq.recs ++ [r] } }
      s.regather k key pl { st with sa := max st.sa sp.e } later

/-- The trick number of a trigger at commit (R157). -/
def State.takeTrick (s : State) (t : Trig) : Nat × State :=
  match t.trick with
  | some n => (n, s)
  | none => (s.fld ACQ.TRICK_NEXT.TRICK, s.wrapF ACQ.TRICK_NEXT.TRICK 1)

/-- LATE_ARM of arm `gen` of a slot (R46). -/
def Slot.lateIn (sl : Slot) (gen : Nat) : Bool :=
  if gen = sl.gen then sl.lateArm else ((sl.past.find? fun p => p.gen == gen).map PastArm.lateArm).getD
    (sl.lateArms.contains gen)

/-- The oldest trigger of the slot's FIFO is committed to the oldest FILLING set of its arm without a trigger (R151, R155 to R157,
R194, R204, R368). A trigger committed at a stop is tested for accumulation as every commit is (R194); its add and its imaging end with the
stop (Table 08-9). -/
def State.commitOne (s : State) (k : Nat) : State :=
  match s.slotOf? k with
  | none => s
  | some sl =>
    match s.planOf sl.plan, sl.fifo with
    | some pl, t :: fifo =>
      match sl.setsOf t.gen with
      | [] => s
      | set :: _ =>
      let late := sl.lateIn t.gen
      let s := s.setSlot k (some { sl with fifo := fifo, unbound := sl.unbound.erase (set, t.gen) })
      let (trick, s) := s.takeTrick t
      let first := if s.acq.accession % 2 ^ 32 = 0 ∧ s.nv.persisted 1 ≠ some (s.acq.accession / 2 ^ 32)
        then 2 ^ 32 * (match s.nv.persisted 1 with
          | some b => b + 1
          | none => 0) else s.acq.accession
      let (sel, s) := s.accSelect k pl t first late
      let s := s.imageCommit pl t
      let (sid, s) := s.sessionCommit k pl.k
      let s := pl.chans.foldl (fun s c => (s.commitChan k set pl t trick sid sel late c).chanRequest 1 c.ch) s
      (s.pumpImages).showFifo k
    | _, _ => s

/-- COMMIT: the binder commits the next trigger of slot `k` (R155). -/
def effCommit (k : Nat) (s : State) : State := s.commitOne k

/-! ### End and seal (R148, R158, R161 to R164, R188) -/

/-- Open records of a slot's channel in commit order. -/
def State.openRecs (s : State) (k ch : Nat) : List Rec := s.acq.recs.filter fun r => r.slot == k && r.ch == ch

/-- The block index every segment has reached in a record's stream. -/
def State.streamAt (s : State) (r : Rec) (seg : Nat) : Option Int :=
  match s.slotOf? r.slot with
  | some sl => match Tbl.get none sl.streams (64 * sl.gen + r.ch), Tbl.get none sl.streams (64 * r.gen + r.ch) with
    | _, some st => some (st.u.getD seg 0)
    | _, none => none
  | none => none

/-- A record's stream has delivered every block to its end, or that segment is cut. -/
def State.delivered (s : State) (r : Rec) : Bool :=
  (List.range r.n).all fun seg =>
    (r.segs.getD seg {}).cut.isSome || (match s.streamAt r seg with
      | some u => decide (r.e ≤ 64 * r.n * u)
      | none => true)

/-- The last sample of the oldest open record of channel `ch` of slot `k` has reached every coder (R158). -/
def effRecordEnd (k ch : Nat) (s : State) : State :=
  match (s.openRecs k ch).find? fun r => r.ended.isNone with
  | some r => if s.delivered r then (s.putRec { r with ended := some s.now }).chanRequest 2 ch else s
  | none => s

/-- USED, START and the held bytes of a segment (R147). -/
def Seg.used (g : Seg) : Nat := (g.blks.map fun b => b.bytes.length).sum
def Seg.start (g : Seg) : Nat := (g.blks.map Blk.off).headD 0
def Seg.data (g : Seg) : List Byte := g.blks.flatMap Blk.bytes

/-- A segment in record order: head and data (R147, R148). -/
def Seg.image (g : Seg) : List Byte := le 4 g.used ++ le 4 g.start ++ g.data

/-- The stored index up to which every segment is complete (R161). -/
def Rec.complete (r : Rec) : Int :=
  let a : Int := 64 * r.n
  (r.segs.map fun g => match g.blks.getLast? with
    | some b => a * (b.u + 1)
    | none => r.s).foldl min r.e

/-- POST_SAMPLES of a record, cut short when TRUNCATED (R150, R161). -/
def Rec.postNow (r : Rec) : Nat :=
  if r.trunc then (if r.s ≤ r.tSample then r.complete - r.tSample else r.complete - r.s).toNat else r.post

/-- The time of a stored sample of the record, in 2^-23 ns. -/
def Rec.time (r : Rec) (i : Int) : Nat := fineOf r.spt (i * (r.dm1 + 1) + r.phi - r.base)

/-- The capture window of a record in 2^-23 ns: first held to last held sample, or the trigger time (R42). DEDUCED (log entry 85): the
window of a TRUNCATED record whose segments end apart ends where the earliest of them does. -/
def Rec.window (r : Rec) : Nat × Nat :=
  if r.segs.all fun g => g.blks.isEmpty then (r.trig.t, r.trig.t)
  else (r.time r.s, r.time (r.complete - 1))

/-- FLAGS of a record at its seal (Table 06-3). -/
def State.recFlags (s : State) (r : Rec) : Nat :=
  let (a, b) := r.window
  let blks := r.segs.flatMap Seg.blks
  let half := blks.any fun x => x.h == 1
  let bound := blks.any fun x => decide (0 < x.k)
  let maxK := if half then 5 else blks.foldl (fun m x => max m x.k) 0
  let f := s.spanFlags r.ch a b
  let f := if r.suspect then orFlags f 64 else f
  f + (if r.deficit ≠ 0 then 4 else 0) + (if half then 8 else 0) + (if bound then 16 else 0) + (if r.poison then 32 else 0) +
    (if r.trig.origin = 1 then 128 else 0) + (if r.trunc then 256 else 0) + (if r.accumulated then 512 else 0) +
    (if r.lateArm then 1024 else 0) + 4096 * maxK

/-- DATA_BYTES (R148). -/
def Rec.dataBytes (r : Rec) : Nat := r.n * 8 + (r.segs.map Seg.used).sum

/-- Bytes 0 to 47 of the record header (R162, Table 06-2). -/
def State.recHead (s : State) (r : Rec) : List Byte :=
  le 8 r.accession ++ le 4 r.trick ++ le 1 r.plan ++ le 1 r.ch ++ le 2 (s.recFlags r) ++ le 8 r.trig.tick.toNat ++
    le 3 r.trig.frac ++ le 1 r.trig.quality ++ le 4 r.pre ++ le 4 r.postNow ++ le 3 r.deficit ++ le 1 (min 255 r.trig.lostSince) ++
    le 2 r.dm1 ++ le 2 r.phi ++ le 4 r.dataBytes

/-- The catalogue entry of a sealed record (Table 06-4); OVERWRITTEN stays as the reservation set it. -/
def State.recEntry (s : State) (pl : Plan) (r : Rec) : List Byte :=
  let f := r.set * pl.k + r.pos
  let ow := s.ctrl pl f / 8 % 2
  le 8 r.accession ++ le 4 r.trick ++ le 2 (folioSealed + 8 * ow + 256 * r.ch) ++ le 2 (s.recFlags r) ++
    le 8 (f * (4096 * pl.f)) ++ le 4 (64 + r.dataBytes) ++ le 4 s.tick.toNat

/-- The closing partial burst of a segment whose data area begins at `area` is charged to its plan's record overhead (R255). -/
def State.chargeClose (s : State) (req area : Nat) (g : Seg) : State :=
  if g.wptr % 64 = 0 then s
  else match s.phys (area + g.wptr / 64 * 64) with
    | some (c, _) => s.drawMeter c req 128
    | none => s

/-- A record is sealed: segment heads, header and catalogue entry are written, books and session follow (R158, Table 06-1). -/
def State.sealRec (s : State) (r : Rec) : State :=
  match s.planOf r.plan with
  | none => s
  | some pl =>
    let f := r.set * pl.k + r.pos
    let base := pl.folioAddr f
    let head := s.recHead r
    let entry := s.recEntry pl r
    let tag := s.recordTag r.slot r.session r.accession (head ++ r.segs.flatMap Seg.image)
    let pitch := match pl.chan? r.ch with
      | some c => segPitch r.n c
      | none => 0
    let s := (List.range r.n).foldl (fun s i =>
      let g := r.segs.getD i {}
      (s.chargeClose (s.overheadReq pl) (base + 64 + i * pitch + 8) g).dramWrite (s.overheadReq pl) (base + 64 + i * pitch)
        (le 4 g.used ++ le 4 g.start)) s
    let s := s.dramWrite (s.overheadReq pl) base (head ++ tag)
    let s := s.writeGranule (s.overheadReq pl) (pl.entryAddr f) entry 0 (some (pl.num, folioFilling, folioSealed))
    let s := s.setSealTick pl.num f (some s.tick)
    let s := s.sessionSeal r.slot r.session r.pos r.accession tag
    { s with acq := { s.acq with recs := s.acq.recs.filter fun x => x.accession != r.accession } }

/-- Memory has acknowledged what a record wrote, and takes its segment heads, header and catalogue entry (Table 06-1 steps 2 to 5). -/
def State.drained (s : State) (r : Rec) : Bool :=
  match s.planOf r.plan with
  | none => true
  | some pl =>
    let f := r.set * pl.k + r.pos
    let len := match pl.chan? r.ch with
      | some c => 64 + r.n * segPitch r.n c
      | none => 64
    !s.rangeWaits (s.overheadReq pl) (pl.folioAddr f) len && !s.rangeWaits (s.overheadReq pl) (pl.entryAddr f) 32

/-- The oldest open record of channel `ch` of slot `k`, once it has ended and drained: records of one channel seal in commit order
(R158). -/
def State.sealable (s : State) (k ch : Nat) : Option Rec :=
  match (s.openRecs k ch).head? with
  | some r => if r.ended.isSome && s.drained r then some r else none
  | none => none

/-- The streams of earlier arms that no open record needs end. -/
def State.dropStreams (s : State) (k : Nat) : State :=
  match s.slotOf? k with
  | none => s
  | some sl =>
    let live := sl.streams.filter fun e =>
      (e.1 / 64 == sl.gen && (sl.armed || sl.disarmAt.isSome)) || (sl.past.any fun p => p.gen == e.1 / 64) ||
        (sl.fifo.any fun t => t.gen == e.1 / 64) ||
        (s.openRecs k (e.1 % 64)).any fun r => r.gen == e.1 / 64 && r.ended.isNone
    s.setSlot k (some { sl with streams := live })

/-! ### Folio commands, deadlines, snapshots (R165, R166, R170) -/

/-- The folio that FOLIO_SEL names, when it is in range. -/
def State.selected (s : State) : Option (Plan × Nat) :=
  match s.planOf (s.fld ACQ.FOLIO_SEL.PLAN) with
  | some pl =>
    let f := s.fld ACQ.FOLIO_SEL.FOLIO
    if f < pl.sets * pl.k then some (pl, f) else none
  | none => none

/-- HOLD of folio `f` of a plan (R165): a SEALED folio becomes HELD; an IN_READOUT one becomes HELD when its readout ends; the answer is
RESULT. -/
def State.holdFolio (s : State) (pl : Plan) (f : Nat) : State :=
  if s.folioState pl f = folioSealed then (s.moveFolio pl f folioHeld).setF ACQ.FOLIO_OP.RESULT 0
  else if s.folioState pl f = folioReadout then
    ({ s with acq := { s.acq with holdAfter := Tbl.set false s.acq.holdAfter (2 ^ 26 * pl.num + f) true } }).setF ACQ.FOLIO_OP.RESULT 0
  else s.setF ACQ.FOLIO_OP.RESULT 1

/-- RELEASE of folio `f` of a plan (R165): a HELD folio becomes FREE. -/
def State.releaseFolio (s : State) (pl : Plan) (f : Nat) : State :=
  if s.folioState pl f = folioHeld then (s.moveFolio pl f folioFree).setF ACQ.FOLIO_OP.RESULT 0
  else s.setF ACQ.FOLIO_OP.RESULT 1

/-- A host command on the selected folio waits for the end of its fabric cycle, with BUSY, for transitions made by the device in that cycle
come first (R165). One on a folio out of range has RESULT 2 at once. -/
def State.askFolio (s : State) (op : Nat) : State :=
  match s.selected with
  | none => s.setF ACQ.FOLIO_OP.RESULT 2
  | some (pl, f) => { s.setF ACQ.FOLIO_OP.BUSY 1 with acq := { s.acq with folioOps := s.acq.folioOps ++ [(op, pl.num, f)] } }

/-- A folio command takes effect. -/
def State.doFolioOp (s : State) (x : Nat × Nat × Nat) : State :=
  match s.planOf x.2.1 with
  | none => s
  | some pl => if x.1 = 1 then s.holdFolio pl x.2.2 else s.releaseFolio pl x.2.2

/-- The host's folio commands of a fabric cycle take effect at its end, in order (R165). -/
def State.doFolioOps (s : State) : State :=
  if s.acq.folioOps.isEmpty then s
  else
    let ops := s.acq.folioOps
    (ops.foldl State.doFolioOp { s with acq := { s.acq with folioOps := [] } }).setF ACQ.FOLIO_OP.BUSY 0

/-- FOLIO_OP HOLD (R165). -/
def effFolioHold (s : State) : State := if s.served 0x50024 then s.askFolio 1 else s

/-- FOLIO_OP RELEASE (R165). -/
def effFolioRelease (s : State) : State := if s.served 0x50024 then s.askFolio 2 else s

/-- Folio `f` of plan `p` is still SEALED DEADLINE ticks after its seal: one readout-deadline fault on the slot the plan holds or
last held, and DL_MISSED (R166). -/
def effFolioDeadline (p f : Nat) (s : State) : State :=
  match s.planOf p with
  | none => s
  | some pl =>
    let key := 2 ^ 26 * p + f
    match Tbl.get 0 s.acq.sealTick key with
    | 0 => s
    | t + 1 =>
      if pl.deadline ≠ 0 ∧ s.folioState pl f = folioSealed ∧ Tbl.get false s.acq.missed key = false ∧
          pl.deadline ≤ (s.tick - BitVec.ofNat 48 t).toNat then
        let s := { s with acq := { s.acq with missed := Tbl.set false s.acq.missed key true } }
        let s := (s.writeCtrl pl f (withBit (s.ctrl pl f) 4) none).countBook p 7
        let k := Tbl.get 0 s.acq.lastSlot p - 1
        s.raise (73 + 5 * k) 1 p 0 f
      else s

/-- The snapshot of the books (R170). -/
def State.snapBooks (s : State) : State :=
  let s1 := (List.range 8).foldl (fun x k => (List.range 6).foldl (fun y i =>
    let v := s.tbook k i
    (y.setF (ACQ.TBOOK_LO.COUNT k i) v).setF (ACQ.TBOOK_HI.COUNT k i) (v / 2 ^ 32)) x) s
  let s1 := (List.range 64).foldl (fun x p => (List.range 8).foldl (fun y i => y.setF (ACQ.FBOOK.COUNT p i) (s.book p i)) x) s1
  (s1.setF ACQ.SNAP_TICK_LO.TICK s.tick.toNat).setF ACQ.SNAP_TICK_HI.TICK (s.tick.toNat / 2 ^ 32)

/-- Nothing is in transit at the snapshot any more: every instant of a slot that began by its cycle is judged, and every call delivered
by then; or 64 ns have passed (R168, R170). -/
def State.snapDone (s : State) (c : Nat) : Bool :=
  decide (c + 64 ≤ s.now) ||
    ((s.trg.calls.all fun x => decide (c < x.at_)) && (List.range 8).all fun k => match s.slotOf? k with
      | some sl => !(sl.armed || sl.disarmAt.isSome || !sl.past.isEmpty) ||
          decide ((c + 1) * 2 ^ 23 ≤ sl.nextJudged * (10 * 2 ^ 23) / instPerTick (s.fld (TRG.SLOT_CFG.TE k)))
      | none => true)

/-- A snapshot from which nothing is missing any more is complete: SNAP reads 0 (R170). -/
def State.closeSnap (s : State) : State :=
  match s.acq.snapAt with
  | none => s
  | some c => if s.snapDone c then { s.setF ACQ.CMD.SNAP 0 with acq := { s.acq with snapAt := none } } else s

/-- What judging an item, placed at cycle `at_`, changed in the trigger books of slot `k` since `old` enters a snapshot that it was in
transit at (R170). -/
def State.alsoSnap (s old : State) (k at_ : Nat) : State :=
  match s.acq.snapAt with
  | none => s
  | some c =>
    if at_ ≤ c then (List.range 6).foldl (fun (s : State) i =>
      let v := s.fld (ACQ.TBOOK_LO.COUNT k i) + 2 ^ 32 * s.fld (ACQ.TBOOK_HI.COUNT k i) + s.tbook k i - old.tbook k i
      (s.setF (ACQ.TBOOK_LO.COUNT k i) v).setF (ACQ.TBOOK_HI.COUNT k i) (v / 2 ^ 32)) s
    else s

/-- ACQ.CMD.SNAP: the books are copied; SNAP reads 1 until what was in transit has its outcome (R170). -/
def effBookSnap (s : State) : State :=
  if s.served 0x50000 then
    let t := s.snapBooks.setF ACQ.CMD.SNAP 1
    State.closeSnap { t with acq := { t.acq with snapAt := some s.now } }
  else s

/-! ### Lost samples (R23, R82, R161) -/

/-- Open records of a stream whose span holds a sample of blocks `u0` to `u1` of a segment are TRUNCATED before it (R23, R161). -/
def State.truncateAt (s : State) (k key seg : Nat) (u0 u1 : Int) : State :=
      let mark : Rec → Rec := fun r =>
        let a : Int := 64 * r.n
        if r.slot = k ∧ r.gen = key / 64 ∧ r.ch = key % 64 ∧ r.ended = none ∧ a * u0 < r.e ∧ r.s < a * (u1 + 1) then
          let g := r.segs.getD seg {}
          let c := max u0 (r.s / a)
          let c := match g.cut with
            | some x => min x c
            | none => c
          { r with trunc := true, segs := r.segs.set seg { g with cut := some c, blks := g.blks.filter fun b => decide (b.u < c) } }
        else r
      { s with acq := { s.acq with recs := s.acq.recs.map mark } }

/-- The samples of stored blocks `u0` to `u1` of a segment of a stream never reach a coder: the block in progress is discarded, and the
unit that codes on begins at block `u1 + 1` with the budget of the rest of its frame; within one frame, a frame already counted as reduced
stays so (R82, R183, R188, Table 07-4). -/
def State.loseBlocks (s : State) (k key seg : Nat) (u0 u1 : Int) : State :=
  match s.slotOf? k with
  | none => s
  | some sl =>
    match Tbl.get none sl.streams key with
    | none => s
    | some st =>
      let st := { st with lost := if u0 ≤ u1 then (seg, u0, u1) :: st.lost else st.lost, buf := st.buf.set seg []
                          skipTo := st.skipTo.set seg (64 * st.n * (u1 + 1)), u := st.u.set seg (u1 + 1)
                          budget := st.budget.set seg (st.g * (64 - ((u1 + 1) % 64).toNat) / 64)
                          reduced := st.reduced.set seg (st.reduced.getD seg false && decide ((u1 + 1) / 64 = st.u.getD seg 0 / 64)) }
      let s := s.putStored k key (some st)
      if u0 ≤ u1 then s.truncateAt k key seg u0 u1 else s

/-- Coded blocks `u0` to `u1` of a segment of a stream are lost after the coder, which codes on with its frame and its budget as they
are (R23, R183). -/
def State.dropBlocks (s : State) (k key seg : Nat) (u0 u1 : Int) : State :=
  match s.slotOf? k with
  | none => s
  | some sl =>
    match Tbl.get none sl.streams key with
    | none => s
    | some st =>
      let st := { st with lost := (seg, u0, u1) :: st.lost, buffer := (seg, u0, u1) :: st.buffer }
      (s.putStored k key (some st)).truncateAt k key seg u0 u1

/-- A lane's elastic buffer overflows: `n` stored blocks from the block in progress are lost to it, in every arm whose stream still fills a
record (R23); the lane's unit takes trap 0, whose handler raises the lane-deadline fault (R329, source 228). -/
def effElasticOvf (lane n : Nat) (s : State) : State :=
  let ch := s.chanOf lane
  let seg := s.slotOf lane
  let s' := match s.slotHolding ch with
    | none => s
    | some k =>
      match s.slotOf? k with
      | none => s
      | some sl => (sl.streams.filter fun (e : Nat × Option Stored) => e.1 % 64 == ch).foldl (fun (s : State) (e : Nat × Option Stored) => match e.2 with
        | none => s
        | some st =>
          let u := st.u.getD seg 0
          if n = 0 then s else s.dropBlocks k e.1 seg u (u + n - 1)) s
  if decide (lane < 64) && s.mode == modeAcquire then s'.laneTrap 0 lane else s

def execRecordEnd (k ch : Nat) (s : State) : Res := .next (effRecordEnd k ch s)
def execFolioHold (s : State) : Res := .next (effFolioHold s)
def execFolioRelease (s : State) : Res := .next (effFolioRelease s)
def execFolioDeadline (p f : Nat) (s : State) : Res := .next (effFolioDeadline p f s)
def execBookSnap (s : State) : Res := .next (effBookSnap s)

end Sys2Proof.Machine
end

