-- ==== Sys2Proof/Machine/Plans.lean ====
section
/-!
DEFINITION. Modes as they change, plans: activation, arm, disarm, stop and deactivation; the requests of host, scheduler and
deals for them; sealing (R16, R22, R28, R29, R46, R48, R144, R152, R158 to R160, R190, R235, R394).
-/

namespace Sys2Proof.Machine

/-- The mode changes; every change but those between READY and ACQUIRE is logged and raises the mode notice (R393, R394). -/
def State.changeMode (s : State) (to_ cause : Nat) : State :=
  let old := s.mode
  let s := ((s.setF DEV.MODE.MODE to_).setF DEV.MODE.PREV old).setF DEV.MODE.CAUSE cause
  if (old = modeReady ∧ to_ = modeAcquire) ∨ (old = modeAcquire ∧ to_ = modeReady) then s
  else ((s.setF DEV.MODE.TRANSIT 0).raise 0 cause to_ 0 0).logMode old to_ cause

/-- The mode request in progress has ended, if its target is this one (DEV.MODE_RESULT). -/
def State.requestDone (s : State) (target : Nat) : State :=
  if s.dev.request = target then { s.setF DEV.MODE_RESULT.BUSY 0 with dev := { s.dev with request := 0 } } else s

/-! ### Regions and slots (R16, R144, R192) -/

/-- DRAM ranges a plan uses: ring, catalogue and DRAM accumulation area, as start and length. -/
def Plan.dramRegions (pl : Plan) : List (Nat × Nat) :=
  [(4096 * pl.ringBase, pl.sets * pl.k * (4096 * pl.f)), (4096 * pl.catBase, 32 * pl.sets * pl.k)] ++
    (if pl.accEn && pl.accDram then [(4096 * pl.accBase, 4 * pl.banks * pl.k * pl.accL)] else [])

/-- Bins of the accumulation memory a plan uses. -/
def Plan.dieRegions (pl : Plan) : List (Nat × Nat) :=
  if pl.accEn && !pl.accDram then [(4096 * pl.accBase, pl.banks * pl.k * pl.accL)] else []

/-- Some range of one list meets a range of the other. -/
def rangesMeet (a b : List (Nat × Nat)) : Bool :=
  a.any fun x => b.any fun y => decide (x.1 < y.1 + y.2) && decide (y.1 < x.1 + x.2)

/-- The regions of two plans overlap. -/
def Plan.overlaps (a b : Plan) : Bool := rangesMeet a.dramRegions b.dramRegions || rangesMeet a.dieRegions b.dieRegions

/-- The accumulation areas of two plans overlap. -/
def Plan.accOverlaps (a b : Plan) : Bool :=
  rangesMeet a.dieRegions b.dieRegions || rangesMeet (a.dramRegions.drop 2) (b.dramRegions.drop 2)

/-- Rings or catalogues of two plans overlap. -/
def Plan.ringOverlaps (a b : Plan) : Bool := rangesMeet (a.dramRegions.take 2) (b.dramRegions)

/-- State of bank `b` of plan `p`: in its slot, or kept since the plan left it (Table 08-4). -/
def State.bankState (s : State) (p b : Nat) : Nat :=
  match s.slotOfPlan p with
  | some k => s.fld (bankFld k b)
  | none => Tbl.get 0 s.acc.keptState (2 * p + b)

/-- Device ranges and accumulation-memory ranges of the folios and banks that readout queues hold (R276). -/
def State.readoutRanges (s : State) : List (Nat × Nat) × List (Nat × Nat) :=
  s.rdo.q.foldl (fun (x : List (Nat × Nat) × List (Nat × Nat)) (e : Nat × Queue) =>
    match s.planOf (s.fld (RDO.Q_CFG.SRC_ID e.1)) with
    | none => x
    | some pl =>
      if e.2.done then x
      else if s.fld (RDO.Q_CFG.SRC_KIND e.1) = 0 then
        (x.1 ++ e.2.taken.flatMap (fun f => [(pl.folioAddr f, 4096 * pl.f), (pl.entryAddr f, 32)]), x.2)
      else if s.fld (RDO.Q_CFG.SRC_KIND e.1) = 1 then
        let n := pl.k * pl.accL
        if pl.accDram then (x.1 ++ e.2.taken.map (fun b => (4096 * pl.accBase + 4 * b * n, 4 * n)), x.2)
        else (x.1, x.2 ++ e.2.taken.map (fun b => (4096 * pl.accBase + b * n, n)))
      else x) ([], [])

/-- Slots that hold a plan. -/
def State.activeSlots (s : State) : List Nat := (List.range 8).filter fun k => (s.slotOf? k).isSome

/-- The plan of an active slot. -/
def State.slotPlan (s : State) (k : Nat) : Option Plan :=
  match s.slotOf? k with
  | some sl => s.planOf sl.plan
  | none => none

/-- Every region of a plan lies in mapped granules (R257). -/
def State.planMapped (s : State) (pl : Plan) : Bool := pl.dramRegions.all fun x => s.mappedRange x.1 x.2

/-! ### Reservations of a plan (R190, R193, R255) -/

/-- Lane reservation for grants and D - 1 given by channel, in MB/s. -/
def State.laneResv (s : State) (pl : Plan) (g d : Chan → Nat) : Resv :=
  pl.chans.map fun c => (s.lanes c.ch * g c * 1000, 1024 * (d c + 1))

/-- Record overhead. -/
def State.overheadResv (s : State) (pl : Plan) : Resv :=
  [(pl.rmax * (pl.chans.map fun c => 320 + 256 * s.lanes c.ch).sum, 1000000)]

/-- DRAM-mode accumulation: 8 bytes per channel sample. -/
def State.accResv (s : State) (pl : Plan) : Resv :=
  if pl.accEn && pl.accDram then [((pl.chans.map fun c => 32000 * s.lanes c.ch).sum, 1)] else []

/-- A reservation without a rate is none. -/
def someResv (r : Resv) : Resv := if (fracSum r).1 = 0 then [] else r

/-- One reservation is no larger than another. -/
def resvLe (a b : Resv) : Bool :=
  let x := fracSum a
  let y := fracSum b
  decide (x.1 * y.2 ≤ y.1 * x.2)

/-- The lane reservation held by slot `k`. -/
def State.heldLanes (s : State) (k : Nat) : Resv := Tbl.get [] s.mem.resv (4 * k)

/-! ### Settling: freeing slots, leaving ACQUIRE -/

/-- A request for a plan has been answered (ACQ.PLAN_RESULT, host requests only; R48). -/
def State.answerHost (s : State) (plan op result : Nat) : State :=
  if s.fld ACQ.PLAN_RESULT.PLAN = plan ∧ s.fld ACQ.PLAN_RESULT.OP = op then
    (s.setF ACQ.PLAN_RESULT.BUSY 0).setF ACQ.PLAN_RESULT.RESULT result
  else s

/-- An internal action of a deal has been refused by the plan: LAST_DEAL.OUTCOME = 4 (R48); the action is done. -/
def State.endDeal (s : State) (id : Nat) (outcome lateBy : Nat) : State :=
  let s := { s with ens := { s.ens with deals := s.ens.deals.filter fun d => d.id != id } }
  (s.setF ENS.LAST_DEAL.OUTCOME outcome).setF ENS.LAST_DEAL.LATE_BY (min lateBy 65535)

/-- An activation or arm has been decided with a RESULT code: the one who asked for it is told (R48, R236). -/
def State.answer (s : State) (r : AdmReq) (op code : Nat) : State :=
  match r.origin with
  | 1 => s.answerHost r.id op code
  | 2 =>
    match s.sched.waiting.find? fun o => o.entry == r.entry && o.started with
    | some o => s.endOcc o (if code = 0 then none else some code)
    | none => s
  | 3 =>
    match s.ens.deals.find? fun d => d.id == r.entry with
    | some d => s.endDeal d.id (if code ≠ 0 then 4 else if d.lateBy = 0 then 0 else 1) d.lateBy
    | none => s
  | _ => s

/-- What a slot's plan still owes: records or triggers. -/
def State.owes (s : State) (k : Nat) : Bool :=
  (s.acq.recs.any fun r => r.slot == k) || (s.trg.calls.any fun c => c.slot == k) || (match s.slotOf? k with
    | some sl => sl.armed || sl.disarmAt.isSome || !sl.past.isEmpty || !sl.fifo.isEmpty
    | none => false)

/-- The slot is freed: banks settle, sessions close, reservations and registers are cleared; the results not read stay with the
plan (R159, R371, Table 08-4). The deactivation at the head of the requests, if one asked for it, is done; a later one waits its turn (R28). -/
def State.freeSlot (s : State) (k : Nat) : State :=
  match s.slotPlan k with
  | none => s.setSlot k none
  | some pl =>
    let s := (s.settleBanks k pl).closeAll k
    let s := (List.range 2).foldl (fun (x : State) b =>
      { x with acc := { x.acc with keptState := Tbl.set 0 x.acc.keptState (2 * pl.num + b) (x.fld (bankFld k b)) } }) s
    let s := { s with acc := { s.acc with kept := Tbl.set {} s.acc.kept pl.num (s.accOf k), slots := Tbl.erase s.acc.slots k } }
    let s := s.setSlot k none
    let s := s.setResv (Tbl.erase (Tbl.erase (Tbl.erase s.mem.resv (4 * k)) (4 * k + 1)) (4 * k + 2))
    let s := s.clearFs [ACQ.LIB_CFG.ACTIVE pl.num, ACQ.LIB_CFG.SLOT pl.num, ACQ.SLOT_STATE.PLAN k, ACQ.SLOT_STATE.ACTIVE k,
      ACQ.SLOT_STATE.ARMED k, TRG.SLOT_CFG.PLAN k, TRG.SLOT_CFG.ACTIVE k, TRG.SLOT_CFG.CALL_RX k, TRG.SLOT_CFG.CALL_TX k,
      TRG.SLOT_CFG.DEFICIT k, TRG.SLOT_CFG.HOLD k, TRG.SLOT_CFG.TE k, TRG.TERM_SEL_LO.SEL k, TRG.TERM_SEL_HI.SEL k,
      MEM.SLOT_RMAX.RMAX k, ACC.SLOT_STATE.BANK0 k, ACC.SLOT_STATE.BANK1 k, ACC.SLOT_STATE.CUR k, ACC.SLOT_STATE.COUNT k,
      ACC.SLOT_CFG.ENABLE k, ACC.SLOT_CFG.DRAM k, ACC.SLOT_CFG.SPLIT k, ACC.SLOT_CFG.ALIGN k, ACC.SLOT_CFG.QMASK k,
      ACC.SLOT_PRE.PRE k, ACC.SLOT_BINS.L k, ACC.SLOT_TARGET.TARGET k, ACC.SLOT_BASE.BASE k, ACC.SLOT_CMD.FINISH k]
    match s.mem.reqs with
    | r :: rest => if r.kind = 6 ∧ r.id = pl.num then State.answer { s with mem := { s.mem with reqs := rest } } r 2 0 else s
    | [] => s

/-- A slot being deactivated is freed once nothing is owed (R159). DESIGN CHOICE (log entry 90): it waits for the adds of its selected
triggers too, which still complete after a disarm (R198). -/
def State.freeIfDone (s : State) (k : Nat) : State :=
  match s.slotOf? k with
  | some sl => if sl.leaving && !s.owes k && (s.accOf k).adds.isEmpty then s.freeSlot k else s
  | none => s

/-- Slots are freed, and ACQUIRE ends once no slot is armed and every record has sealed (Table 17-2); this entry to READY takes the
snapshots of R85 and R338 too. -/
def State.settle (s : State) : State :=
  let s := (List.range 8).foldl State.freeIfDone s
  if s.mode = modeAcquire ∧ s.dev.entering = false ∧ (List.range 8).all (fun k => !s.owes k) = true ∧ s.acq.recs.isEmpty = true then
    let s := (s.changeMode modeReady 3).snapMap.seqSnap
    s.requestDone 2
  else s

/-! ### Disarm (R159) -/

/-- Start of evaluation instant `n`, counted from the model's start, in 2^-23 ns. -/
def State.instStart (s : State) (k n : Nat) : Nat := n * finePerTick / instPerTick (s.fld (TRG.SLOT_CFG.TE k))

/-- The sets of arm `gen` of a slot that no trigger takes any more return to FREE (R159). -/
def State.freeSets (s : State) (k gen : Nat) : State :=
  match s.slotOf? k with
  | none => s
  | some sl =>
    match s.planOf sl.plan with
    | none => s
    | some pl =>
      let spare := (sl.setsOf gen).drop (sl.queued gen)
      let s := s.setSlot k (some { sl with unbound := sl.unbound.filter fun x => !(x.2 == gen && spare.contains x.1) })
      spare.foldl (fun (s : State) j => s.releaseSet pl j) s

/-- The judging of an arm with its first instant and its disarm instant is over (R126). -/
def State.judgedPast (s : State) (k : Nat) (sl : Slot) (first d : Nat) : Bool :=
  decide (d * finePerNs ≤ s.instStart k (max first (sl.inst - 1)))

/-- Once every trigger qualified before a disarm instant has been judged, the FILLING set of its arm without a trigger is released
(R159); earlier arms first. -/
def State.releaseIfJudged (s : State) (k : Nat) : State :=
  match s.slotOf? k with
  | none => s
  | some sl =>
    let done := sl.past.filter fun p => s.judgedPast k sl p.firstInst p.disarmAt
    let late := (done.filter fun p => p.lateArm && decide (0 < sl.queued p.gen)).map PastArm.gen
    let s := s.setSlot k (some { sl with past := sl.past.filter fun p => !done.contains p, lateArms := sl.lateArms ++ late })
    let s := done.foldl (fun (s : State) p => s.freeSets k p.gen) s
    match s.slotOf? k, sl.disarmAt with
    | some x, some d =>
      if s.judgedPast k x x.firstInst d then
        ((s.setSlot k (some { x with disarmAt := none })).freeSets k x.gen).dropStreams k
      else s
    | _, _ => if done.isEmpty then s else s.dropStreams k

/-- A pending force of the slot is cleared (R133, R135). -/
def State.clearForce (s : State) (k : Nat) : State :=
  let s := { s with trg := { s.trg with forceAt := Tbl.set 0 s.trg.forceAt k 0 } }
  s.setF TRG.FORCE.FORCE (withoutBit (s.fld TRG.FORCE.FORCE) k)

/-- The force of slot `k` reached the fabric before the disarm: the first instant that begins after its arrival begins before now, and
takes it (R126, R133). -/
def State.forceTakes (s : State) (k : Nat) : Bool :=
  match Tbl.get 0 s.trg.forceAt k with
  | 0 => false
  | c + 1 =>
    let per := instPerTick (s.fld (TRG.SLOT_CFG.TE k))
    decide (s.instStart k ((c * per + 9) / 10) < s.now * finePerNs)

/-- The channels of a plan have just been armed or disarmed (R104). -/
def State.disturb (s : State) (pl : Plan) : State :=
  { s with cal := { s.cal with disturb := pl.chans.foldl (fun (t : Tbl (List Nat)) (c : Chan) => Tbl.set [] t c.ch (s.now :: Tbl.get [] t c.ch)) s.cal.disturb } }

/-- The slot shows as armed or not. -/
def State.showArmed (s : State) (k : Nat) (b : Bool) : State :=
  (s.setB (ACQ.SLOT_STATE.ARMED k) b).setB (TRG.SLOT_STATUS.ARMED k) b

/-- Calls delivered in the cycle of the disarm instant are not qualified after all (R126). -/
def State.dropCalls (s : State) (k : Nat) : State :=
  let late : HeldCall → Bool := fun c => c.slot == k && c.at_ == s.now
  let n := (s.trg.calls.filter late).length
  { s with trg := { s.trg with calls := s.trg.calls.filter fun c => !late c }
           acq := { s.acq with books := Tbl.set 0 s.acq.books (8 * k) (s.tbook k 0 - n) } }

/-- The slot disarms now (R154, R159): a force that an instant before now takes stays until that instant is judged, and live writes of
this cycle find the plan disarmed (R26). -/
def State.disarm (s : State) (k : Nat) : State :=
  match s.slotOf? k, s.slotPlan k with
  | some sl, some pl =>
    if sl.armed then
      let s := (s.setSlot k (some { sl with armed := false, disarmAt := some s.now })).dropCalls k
      let s := ((if s.forceTakes k then s else s.clearForce k).showArmed k false).disturb pl
      let s := s.clearFs [TRG.SLOT_STATUS.HOLDOFF k, TRG.SLOT_STATUS.REARM k]
      let s := pl.chans.foldl (fun (s : State) (c : Chan) => s.chanRequest 3 c.ch) s
      ((s.releaseIfJudged k).dropImages pl.num).acceptWrites pl.num
    else s
  | _, _ => s

/-! ### Activation (R16, R144, R168, R203) -/

/-- A source's evaluation code under R114: 0 narrow channel, 1 pin, 2 to 4 wide channel; 5 sets no bound. -/
def State.teOfSource (s : State) (src : Nat) : Nat :=
  if src < 128 then
    let n := s.lanes (src / 2)
    if n = 1 then 0 else if n = 16 then 2 else if n = 32 then 3 else 4
  else if src < 132 then 1 else 5

/-- CARE of a term. -/
def State.termCare (s : State) (t : Nat) : Nat := s.fld (TRG.TERM_CARE_LO.CARE t) + 2 ^ 32 * s.fld (TRG.TERM_CARE_HI.CARE t)

/-- VAL of a term. -/
def State.termVal (s : State) (t : Nat) : Nat := s.fld (TRG.TERM_VAL_LO.VAL t) + 2 ^ 32 * s.fld (TRG.TERM_VAL_HI.VAL t)

/-- The TE code of a plan: the longest sample period among the sources that participate (R114). -/
def State.teOf (s : State) (pl : Plan) : Nat :=
  let m := (List.range 64).foldl (fun m t =>
    if bitOf pl.termSel t then (List.range 64).foldl (fun m q =>
      if bitOf (s.termCare t) q then min m (s.teOfSource (s.fld (TRG.QMAP.SRC q))) else m) m
    else m) 5
  if m = 5 then 0 else m

/-- What refuses an activation of plan `p` before admission, as a code of ACQ.PLAN_RESULT. A channel held by an active plan comes
first, for that refusal always raises the admission-refused event (R16). -/
def State.activationBar (s : State) (p : Nat) : Option Nat :=
  match s.planOf p with
  | none => some 6
  | some pl =>
    if (s.slotOfPlan p).isSome then some 5
    else if pl.chans.any (fun c => (s.slotHolding c.ch).isSome) then some 2
    else if pl.chans.any (fun c => !s.chanExists c.ch || s.chanStopped c.ch) then some 7
    else if s.activeSlots.any (fun k => match s.slotPlan k with
        | some q => pl.overlaps q
        | none => false) then some 3
    else if rangesMeet s.readoutRanges.1 pl.dramRegions || rangesMeet s.readoutRanges.2 pl.dieRegions then some 3
    else if s.activeSlots.length = 8 then some 4
    else none

/-- The reservations of a plan for slot `k` (R257). -/
def State.planAsks (s : State) (k : Nat) (pl : Plan) : List (Nat × Resv) :=
  [(4 * k, someResv (s.laneResv pl (fun c => c.g) (fun c => c.dm1))), (4 * k + 1, someResv (s.overheadResv pl)),
    (4 * k + 2, someResv (s.accResv pl))]

/-- The registers of a slot take its plan. -/
def State.showSlot (s : State) (k : Nat) (pl : Plan) : State :=
  let s := ((s.setF (ACQ.LIB_CFG.ACTIVE pl.num) 1).setF (ACQ.LIB_CFG.SLOT pl.num) k).setF (ACQ.SLOT_STATE.PLAN k) pl.num
  let s := (s.setF (ACQ.SLOT_STATE.ACTIVE k) 1).clearFs [ACQ.SLOT_STATE.ARMED k, ACQ.SLOT_STATE.FULL k, ACQ.SLOT_STATE.STOPPED k,
    ACQ.SLOT_STATE.FIFO k, ACQ.SLOT_STATE.FIFO_MAX k, ACQ.SLOT_GATHER.SET k]
  let s := (s.setF (TRG.SLOT_CFG.PLAN k) pl.num).setF (TRG.SLOT_CFG.ACTIVE k) 1
  let s := (s.setB (TRG.SLOT_CFG.CALL_RX k) pl.callRx).setB (TRG.SLOT_CFG.CALL_TX k) pl.callTx
  let s := ((s.setB (TRG.SLOT_CFG.DEFICIT k) pl.deficit).setF (TRG.SLOT_CFG.HOLD k) pl.hold).setF (TRG.SLOT_CFG.TE k) (s.teOf pl)
  let s := (s.setF (TRG.TERM_SEL_LO.SEL k) pl.termSel).setF (TRG.TERM_SEL_HI.SEL k) (pl.termSel / 2 ^ 32)
  let s := (s.setF (TRG.HOLD_TICKS.TICKS k) pl.holdTicks).setF (TRG.HOLD_SAMPLES.SAMPLES k) pl.holdSamples
  let s := (s.setF (TRG.HOLD_COUNT.COUNT k) pl.holdCount).setF (TRG.HOLD_MAX_TICKS.MAX k) pl.holdMax
  let s := s.setF (MEM.SLOT_RMAX.RMAX k) pl.rmax
  let s := ((s.setB (ACC.SLOT_CFG.ENABLE k) pl.accEn).setB (ACC.SLOT_CFG.DRAM k) pl.accDram).setB (ACC.SLOT_CFG.SPLIT k) pl.accSplit
  let s := (s.setB (ACC.SLOT_CFG.ALIGN k) pl.accAlign).setF (ACC.SLOT_CFG.QMASK k) pl.qmask
  let s := ((s.setF (ACC.SLOT_PRE.PRE k) pl.accPre).setF (ACC.SLOT_BINS.L k) pl.accL).setF (ACC.SLOT_TARGET.TARGET k) pl.target
  (s.setF (ACC.SLOT_BASE.BASE k) pl.accBase).clearFs [ACC.SLOT_STATE.BANK0 k, ACC.SLOT_STATE.BANK1 k, ACC.SLOT_STATE.CUR k,
    ACC.SLOT_STATE.COUNT k, ACC.SLOT_CMD.FINISH k, TRG.SLOT_STATUS.ARMED k, TRG.SLOT_STATUS.HOLDOFF k, TRG.SLOT_STATUS.REARM k]

/-- The evaluation instants of an active slot go on from the next one (R114). -/
def State.startInstants (s : State) (k : Nat) (pl : Plan) : State :=
  match s.slotOf? k with
  | some sl => s.setSlot k (some { sl with inst := (s.now * instPerTick (s.teOf pl) + 9) / 10, raw := none, seen := [] })
  | none => s

/-- Library plans. -/
def State.library (s : State) : List Plan := (List.range 64).filterMap s.planOf

/-- Plan `p` becomes active in slot `k`: trigger books cleared, overlapping plans stale, results in its region discarded, its
planes cleared (R144, R168, R192, R203). -/
def State.install (s : State) (k : Nat) (pl : Plan) : State :=
  let resG := pl.chans.foldl (fun (t : Tbl Nat) (c : Chan) => Tbl.set 0 t c.ch c.g) []
  let resD := pl.chans.foldl (fun (t : Tbl Nat) (c : Chan) => Tbl.set 0 t c.ch c.dm1) []
  let n := s.acq.orders + 1
  let s := s.setSlot k (some { plan := pl.num, order := n, resG := resG, resD := resD })
  let s := s.startInstants k pl
  let s := { s with acq := { s.acq with
    orders := n
    lastSlot := Tbl.set 0 s.acq.lastSlot pl.num (k + 1)
    current := pl.chans.foldl (fun (t : Tbl Nat) (c : Chan) => Tbl.set 0 t c.ch (pl.num + 1)) s.acq.current
    books := s.acq.books.filter fun e => e.1 / 8 != k } }
  let s := s.showSlot k pl
  let s := { s with acc := { s.acc with slots := Tbl.erase s.acc.slots k } }
  let s := s.library.foldl (fun (s : State) (q : Plan) =>
    if q.num ≠ pl.num ∧ q.overlaps pl = true then
      let s := if q.ringOverlaps pl || pl.ringOverlaps q then s.setF (ACQ.LIB_CFG.STALE q.num) 1 else s
      if q.accOverlaps pl then { s with acc := { s.acc with kept := Tbl.erase s.acc.kept q.num } } else s
    else s) s
  let s := { s with acc := { s.acc with kept := Tbl.erase s.acc.kept pl.num } }
  let s := { s with acc := { s.acc with keptState := s.acc.keptState.filter fun e =>
    !((s.library.any fun q => q.num == e.1 / 2 && q.accOverlaps pl) || e.1 / 2 == pl.num) } }
  let s := pl.chans.foldl (fun (s : State) (c : Chan) => (s.showChan c.ch).setWin c.ch none) s
  s.clearPlanes pl.num

/-! ### Arm (R135, R149, R152, R172, R189, R190, R368) -/

/-- First sample of a grid of `spt` samples a tick at or after the present cycle, counted from the model's start. -/
def State.nextSample (s : State) (spt : Nat) : Nat := (s.now * spt + 9) / 10

/-- Absolute sample index less the index counted from the model's start (R171, R172). -/
def State.indexBase (s : State) (spt : Nat) : Int :=
  (((s.tick.toNat : Int) * 10 + s.cyc - s.now) / 10) * spt

/-- The stored stream of a channel begins (R149, R171, R183). -/
def State.startStream (s : State) (c : Chan) : Stored :=
  let spt := s.spt c.ch
  let base := s.indexBase spt
  let n : Int := (s.nextSample spt : Nat) + base
  newStored base (ceilDivI (n - c.phi) (c.dm1 + 1)) c (s.lanes c.ch)

/-- The pending values of a plan come into force at its arm (R189). -/
def State.putInForce (s : State) (pl : Plan) : State :=
  let s := pl.chans.foldl (fun (s : State) (c : Chan) =>
    let t := s.acq.inforce
    let b := 192 * pl.num + 3 * c.ch
    { s with acq := { s.acq with inforce := Tbl.set 0 (Tbl.set 0 (Tbl.set 0 t b c.dm1) (b + 1) c.phi) (b + 2) c.g
                                 pending := Tbl.set false s.acq.pending (64 * pl.num + c.ch) false } }) s
  pl.chans.foldl (fun (s : State) (c : Chan) => s.showChan c.ch) s

/-- What refuses an arm of plan `p` before its reservations and its set are looked at. -/
def State.armBar (s : State) (p : Nat) : Option Nat :=
  match s.planOf p with
  | none => some 6
  | some pl =>
    match s.slotOfPlan p with
    | none => some 5
    | some k =>
      match s.slotOf? k with
      | none => some 5
      | some sl =>
        if sl.armed || sl.leaving then some 5
        else if pl.chans.any (fun c => s.chanStopped c.ch) then some 7
        else none

/-- The arm of a slot that ended at cycle `d`, as the judging of its triggers still needs it (R126). -/
def Slot.endArm (sl : Slot) (d : Nat) : PastArm :=
  { gen := sl.gen, firstInst := sl.firstInst, disarmAt := d, lateArm := sl.lateArm, matched := sl.matched, tLast := sl.tLast
    remembered := sl.remembered, holdEnd := sl.holdEnd, holdLeft := sl.holdLeft, ready := sl.ready, lostSince := sl.lostSince }

/-- The arm itself: the slot reserves its gathering set, loses its history, its streams begin and a session opens; the answer is
the code of ACQ.PLAN_RESULT (R135, R149, R152, R368). Live writes of its cycle come after it, and are refused (R26). -/
def State.doArm (s : State) (k : Nat) (pl : Plan) (lateArm : Bool) : Nat × State :=
  let pl := s.armPlan pl
  match s.slotOf? k, s.reservable pl with
  | some sl, some j =>
    let s := (s.refuseWrites pl.num).reserveSet k pl j
    let gen := sl.gen + 1
    let per := instPerTick (s.fld (TRG.SLOT_CFG.TE k))
    let first := (s.now * per + 9) / 10
    let streams := pl.chans.foldl (fun (t : Tbl (Option Stored)) (c : Chan) => Tbl.set none t (64 * gen + c.ch) (some (s.startStream c))) sl.streams
    let resG := pl.chans.foldl (fun (t : Tbl Nat) (c : Chan) => Tbl.set 0 t c.ch c.g) []
    let resD := pl.chans.foldl (fun (t : Tbl Nat) (c : Chan) => Tbl.set 0 t c.ch c.dm1) []
    let past := match sl.disarmAt with
      | some d => sl.past ++ [sl.endArm d]
      | none => sl.past
    let sl' : Slot := { plan := sl.plan, order := sl.order, armed := true, armAt := s.now, gen := gen, lateArm := lateArm
                        lateArms := sl.lateArms ++ (if sl.lateArm && decide (0 < sl.queued sl.gen) then [sl.gen] else [])
                        inst := sl.inst, raw := sl.raw, seen := sl.seen, firstInst := first, past := past
                        unbound := sl.unbound ++ [(j, gen)], fifo := sl.fifo, streams := streams, resG := resG, resD := resD }
    let s := s.setSlot k (some sl')
    let s := s.setResv (Tbl.set [] s.mem.resv (4 * k) (someResv (s.laneResv pl (fun c => c.g) (fun c => c.dm1))))
    let s := { s with trg := { s.trg with list := Tbl.set [] s.trg.list k [] } }
    let s := (s.showArmed k true).clearFs [TRG.LL_WR.WR k, ACQ.SLOT_STATE.FULL k, ACQ.SLOT_STATE.STOPPED k,
      TRG.SLOT_STATUS.HOLDOFF k, TRG.SLOT_STATUS.REARM k]
    let s := ((s.putInForce pl).disturb pl).showFifo k
    let s := pl.chans.foldl (fun (s : State) (c : Chan) => s.chanRequest 0 c.ch) s
    let s := if s.mode = modeReady then s.changeMode modeAcquire 2 else s
    (0, s.openSession k pl.num 0)
  | _, _ => (8, s.raise (74 + 5 * k) 0 pl.num 0 0)

/-- The lane reservation that takes effect at an arm is larger than the one held (R26, R190). -/
def State.armGrows (s : State) (k : Nat) (pl : Plan) : Bool :=
  !resvLe (s.laneResv (s.armPlan pl) (fun c => c.g) (fun c => c.dm1)) (s.heldLanes k)

/-- An arm is asked for: refused, done, or submitted to admission first (R152, R190). The answer is the code, or none while it
waits. -/
def State.askArm (s : State) (r : AdmReq) (lateArm : Bool) : Option Nat × State :=
  match s.armBar r.id, s.planOf r.id, s.slotOfPlan r.id with
  | some c, _, _ => (some c, s)
  | none, some pl, some k =>
    if s.armGrows k pl then (none, s.submit { r with kind := 7 })
    else
      let x := s.doArm k pl lateArm
      (some x.1, x.2)
  | _, _, _ => (some 6, s)

/-- A request of the host's is accepted for processing or refused at once (ACQ.PLAN_RESULT; R29). DEDUCED (log entry 85): once an
entry to DORMANT has begun, which stops the plans, no plan is activated or armed any more. -/
def State.hostAsk (s : State) (p op : Nat) : Bool × State :=
  let s := (((s.setF ACQ.PLAN_RESULT.PLAN p).setF ACQ.PLAN_RESULT.OP op).setF ACQ.PLAN_RESULT.BUSY 0)
  if s.active then (true, s) else (false, s.setF ACQ.PLAN_RESULT.RESULT 9)

/-- ACQ.PLAN_CMD. -/
def planCmdAddr : Nat := 0x5000C

/-- PLAN_CMD OP ACTIVATE (R16, R28). -/
def effPlanActivate (p : Nat) (s : State) : State :=
  if s.served planCmdAddr && decide (p < 64) then
    let (ok, s) := s.hostAsk p 1
    if ok then (s.setF ACQ.PLAN_RESULT.BUSY 1).submit { kind := 0, id := p, origin := 1, entry := 0, val := 0 } else s
  else s

/-- PLAN_CMD OP ARM (R152). -/
def effPlanArm (p : Nat) (s : State) : State :=
  if s.served planCmdAddr && decide (p < 64) then
    let (ok, s) := s.hostAsk p 3
    if ok then
      match s.askArm { kind := 7, id := p, origin := 1, entry := 0, val := 0 } false with
      | (some c, s') => s'.answerHost p 3 c
      | (none, s') => s'.setF ACQ.PLAN_RESULT.BUSY 1
    else s
  else s

/-- What refuses a disarm. -/
def State.disarmBar (s : State) (p : Nat) : Option Nat :=
  if s.planOf p = none then some 6
  else match s.slotOfPlan p with
    | none => some 5
    | some k => match s.slotOf? k with
      | some sl => if sl.armed then none else some 5
      | none => some 5

/-- A plan is disarmed by its number. -/
def State.disarmPlan (s : State) (p : Nat) : State :=
  match s.slotOfPlan p with
  | some k => (s.disarm k).settle
  | none => s

/-- PLAN_CMD OP DISARM (R159). -/
def effPlanDisarm (p : Nat) (s : State) : State :=
  if s.served planCmdAddr && decide (p < 64) then
    let (ok, s) := s.hostAsk p 4
    if ok then
      match s.disarmBar p with
      | some c => s.answerHost p 4 c
      | none => (s.disarmPlan p).answerHost p 4 0
    else s
  else s

/-- The deactivation at the head of the queue starts: its first step is a disarm (R159). -/
def State.startLeaving (s : State) (p : Nat) : State :=
  match s.slotOfPlan p with
  | none => s
  | some k =>
    let s := s.disarm k
    match s.slotOf? k with
    | some sl =>
      let s := s.setSlot k (some { sl with leaving := true })
      (s.setSessions k (s.sessions k)).settle
    | none => s

/-- PLAN_CMD OP DEACTIVATE (R159): queued behind earlier requests, else started at once (R28). -/
def effPlanDeactivate (p : Nat) (s : State) : State :=
  if s.served planCmdAddr && decide (p < 64) then
    let (ok, s) := s.hostAsk p 2
    if ok then
      if s.planOf p = none then s.answerHost p 2 6
      else if s.slotOfPlan p = none ∧ s.mem.reqs.isEmpty = true then s.answerHost p 2 5
      else
        let first := s.mem.reqs.isEmpty
        let s := (s.setF ACQ.PLAN_RESULT.BUSY 1).submit { kind := 6, id := p, origin := 1, entry := 0, val := 0 }
        if first then s.startLeaving p else s
    else s
  else s

/-! ### Requests at the head of the admission queue -/

/-- The head of the queue leaves it. -/
def State.popReq (s : State) : State := { s with mem := { s.mem with reqs := s.mem.reqs.tail } }

/-- After an activation for a scheduler entry or a deal, the plan is armed (Table 02-4, R236). -/
def State.armAfter (s : State) (r : AdmReq) : State :=
  if r.origin = 2 ∨ r.origin = 3 then
    match s.askArm { r with kind := 7 } (decide (r.val ≠ 0)) with
    | (some c, s') => s'.answer r 3 c
    | (none, s') => s'
  else s.answer r 1 0

/-- An activation is decided (R16, R144, R257). A stale plan waits for its catalogue (R144). -/
def State.decideActivation (s : State) (r : AdmReq) : State :=
  match s.activationBar r.id, s.planOf r.id with
  | some c, _ =>
    let s := s.popReq
    let s := if c = 2 then s.raise 2 0 r.id 0 0 else s
    s.answer r 1 c
  | none, some pl =>
    if s.bit (ACQ.LIB_CFG.STALE pl.num) then s
    else
      let k := ((List.range 8).find? fun k => (s.slotOf? k).isNone).getD 0
      let (res, s) := s.popReq.judgeAdmission 0 pl.num (s.planAsks k pl) (s.planMapped pl) 0
      if res = 0 then (s.install k pl).armAfter r else s.answer r 1 1
  | none, none => s.popReq

/-- A grant increase is decided for the plan that was the channel's current one when it was asked for, with the larger of the pending and
the in-force grant (R190). -/
def State.decideGrant (s : State) (r : AdmReq) : State :=
  let s := s.popReq
  let s := if s.mem.reqs.any fun x => x.kind == 1 then s else s.setF COD.RESULT.BUSY 0
  match s.planOf r.entry with
  | none => s
  | some pl =>
    match pl.chan? r.id, s.slotOfPlan pl.num with
    | some c, some k =>
      match s.slotOf? k with
      | none => s
      | some sl =>
        let g := Tbl.set 0 sl.resG r.id (max r.val (s.inForce pl.num r.id 2))
        let ask := someResv (s.laneResv pl (fun x => Tbl.get 0 g x.ch) (fun x => Tbl.get 0 sl.resD x.ch))
        let (res, s) := s.judgeAdmission 1 r.id [(4 * k, ask)] true 0
        if res = 0 then (s.setSlot k (some { sl with resG := g })).putChan pl { c with g := r.val } else s.codResult r.id 1 4
    | some c, none => s.putChan pl { c with g := r.val }
    | none, _ => s

/-- The larger reservations of an arm are decided, and the arm with them (R190). DESIGN CHOICE (log entry 118): the decision shows KIND 0,
as a plan's activation, in MEM.ADMIT and in the notice. -/
def State.decideArm (s : State) (r : AdmReq) : State :=
  let s := s.popReq
  match s.armBar r.id, s.planOf r.id, s.slotOfPlan r.id with
  | none, some pl, some k =>
    let ask := someResv (s.laneResv (s.armPlan pl) (fun c => c.g) (fun c => c.dm1))
    let (res, s) := s.judgeAdmission 0 r.id [(4 * k, ask)] true 0
    if res = 0 then
      let x := s.doArm k pl (decide (r.val ≠ 0))
      x.2.answer r 3 x.1
    else s.answer r 3 1
  | some c, _, _ => s.answer r 3 c
  | none, _, _ => s.answer r 3 5

/-- A deactivation at the head starts, unless it has. -/
def State.decideLeave (s : State) (r : AdmReq) : State :=
  match s.slotOfPlan r.id with
  | none => s.popReq.answer r 2 5
  | some k => match s.slotOf? k with
    | some sl => if sl.leaving then s else s.startLeaving r.id
    | none => s

/-! ### Catalogues (R144) -/

/-- A catalogue is written to zero: every folio FREE, books and ring position set. -/
def State.initCatalogue (s : State) (pl : Plan) : State :=
  let n := pl.sets * pl.k
  let s := s.dramWrite (reqRecord ((s.slotOfPlan pl.num).getD 0)) (4096 * pl.catBase) (List.replicate (32 * n) 0)
  let s := (List.range 5).foldl (fun s i => s.setBook pl.num i 0) s
  let s := (s.setBook pl.num 0 n).setBook pl.num 5 n
  let s := { s with acq := { s.acq with
    ring := Tbl.set 0 s.acq.ring pl.num 0
    sealTick := s.acq.sealTick.filter fun e => e.1 / 2 ^ 26 != pl.num
    sealAt := s.acq.sealAt.filter fun e => e.1 / 2 ^ 26 != pl.num
    missed := s.acq.missed.filter fun e => e.1 / 2 ^ 26 != pl.num
    holdAfter := s.acq.holdAfter.filter fun e => e.1 / 2 ^ 26 != pl.num } }
  s.setF (ACQ.LIB_CFG.STALE pl.num) 0

/-- The re-initialisation of plan `p`'s catalogue completes: at LOAD after training, or for the activation at the head of the
queue (R144, R405). -/
def effCatalogueReinitDone (p : Nat) (s : State) : State :=
  match s.planOf p with
  | none => s
  | some pl =>
    let atLoad := s.mode == modeLoad && s.dev.trained && s.dev.tested
    let asked := match s.mem.reqs.head? with
      | some r => s.running && r.kind == 0 && r.id == p && (s.activationBar p).isNone
      | none => false
    if s.bit (ACQ.LIB_CFG.STALE p) && (atLoad || asked) then s.initCatalogue pl else s

/-! ### Scheduled arms and disarms (R46, R48, Table 02-4) -/

/-- ACTION_ARM: the scheduled ARM; an inactive plan is submitted for activation first, and armed once it is active. After a deal's ARM of
the plan in the same tick it has no effect (R243). -/
def effActionArm (n : Nat) (s : State) : State :=
  match s.findOcc n 1 with
  | none => s
  | some o =>
    if s.active && s.inWindow o && s.firstInLine o then
      let p := o.arg % 64
      let r : AdmReq := { kind := 7, id := p, origin := 2, entry := n, val := o.lateBy }
      let begin_ : State → State := fun s =>
        { s with sched := { s.sched with waiting := s.sched.waiting.map fun x => if x = o then { o with started := true } else x } }
      if Tbl.get 0 s.ens.dealTick p = o.at_.toNat + 1 then s.endOcc o none
      else if s.planOf p ≠ none ∧ s.slotOfPlan p = none then (begin_ s).submit { r with kind := 0 }
      else match (begin_ s).askArm r (decide (o.lateBy ≠ 0)) with
        | (some c, s') => s'.answer r 3 c
        | (none, s') => s'
    else s

/-- ACTION_DISARM: the scheduled DISARM. -/
def effActionDisarm (n : Nat) (s : State) : State :=
  s.runAction n 2 (fun _ => true) fun o s =>
    match s.disarmBar (o.arg % 64) with
    | some c => (some c, s)
    | none => (none, s.disarmPlan (o.arg % 64))

/-! ### Sealing and returning to READY (R158, R394) -/

/-- RECORD_SEAL: the oldest ended record of channel `ch` of slot `k` is sealed; the slot may be freed and ACQUIRE may end. -/
def effRecordSeal (k ch : Nat) (s : State) : State :=
  match s.sealable k ch with
  | some r => ((s.sealRec r).dropStreams k).settle
  | none => s

/-! ### Coder-block boundaries (R77) -/

/-- The switch instant of a lane in 2^-23 ns: the next coder-block boundary of its stream while it codes for an armed plan, else the
next 64-sample boundary. -/
def State.switchInstant (s : State) (lane : Nat) : Nat :=
  let c := s.chanOf lane
  let plain := (s.now + s.to64) * finePerNs
  match s.slotHolding c with
  | none => plain
  | some k =>
    match s.slotOf? k with
    | none => plain
    | some sl =>
      match Tbl.get none sl.streams (64 * sl.gen + c) with
      | none => plain
      | some st =>
        if sl.armed then
          let spt := s.spt c
          let a : Int := 64 * st.n
          let n : Int := (s.nextSample spt : Nat) + st.base
          let i := ceilDivI (n - st.phi) (st.dm1 + 1)
          let b := a * ceilDivI i (64 * st.n)
          max (s.now * finePerNs) (fineOf spt (b * (st.dm1 + 1) + st.phi - st.base))
        else plain

/-- ACCUM_ADD_END: the add of the oldest selected trigger ends; a slot that waited for it may be freed. -/
def execAccumAddEnd (k : Nat) (s : State) : Res := .next (effAccumAddEnd k s).settle
def execPlanActivate (p : Nat) (s : State) : Res := .next (effPlanActivate p s)
def execPlanDeactivate (p : Nat) (s : State) : Res := .next (effPlanDeactivate p s)
def execPlanArm (p : Nat) (s : State) : Res := .next (effPlanArm p s)
def execPlanDisarm (p : Nat) (s : State) : Res := .next (effPlanDisarm p s)
def execCatalogueReinitDone (p : Nat) (s : State) : Res := .next (effCatalogueReinitDone p s)
def execActionArm (n : Nat) (s : State) : Res := .next (effActionArm n s)
def execActionDisarm (n : Nat) (s : State) : Res := .next (effActionDisarm n s)

end Sys2Proof.Machine
end

