-- ==== Sys2Proof/Machine/Composer.lean ====
section
/-!
DEFINITION. The composer: pending changes, decay, pixels, surfaces, count copies and its frames (R205 to R212).
-/

namespace Sys2Proof.Machine

/-! ### Step 1: pending live changes and clears (R206, R211) -/

/-- A field of a plane takes a new value; the answer says whether it changed. -/
def State.take (s : State) (f : Fld) (v : Nat) : Bool × State := (s.fld f != v % 2 ^ f.width, s.setF f v)

/-- A pending write of register `r` of plane `p` takes effect; a change of SOURCE, XSTEP, XTRIG, YOFF or YGAIN zeroes the plane
(Table 08-8 step 1). DEDUCED (log entry 92): a change of SOURCE ends the imaging of the triggers on the old channel, and the next
trigger has no imaged one before it. -/
def State.applyPlane (s : State) (p r v : Nat) : State :=
  let zeroIf : Bool → State → State := fun b s => if b then s.zeroPlane p else s
  match r with
  | 0 =>
    let x := s.take (ACC.PLANE_CFG.SOURCE p) (v / 2 ^ 16)
    let s := if x.1 then x.2.setPlane p { x.2.plane p with jobs := [], lastExam := none } else x.2
    zeroIf x.1 s
  | 1 =>
    let x := s.take (ACC.PLANE_X.XSTEP p) v
    let y := x.2.take (ACC.PLANE_X.XTRIG p) (v / 2 ^ 20)
    zeroIf (x.1 || y.1) y.2
  | 2 =>
    let x := s.take (ACC.PLANE_Y.YOFF p) v
    let y := x.2.take (ACC.PLANE_Y.YGAIN p) (v / 2 ^ 16)
    zeroIf (x.1 || y.1) y.2
  | 3 =>
    let s := (s.setF (ACC.PLANE_LOOK.DS p) v).setF (ACC.PLANE_LOOK.DFRAMES p) (v / 2 ^ 8)
    (s.setF (ACC.PLANE_LOOK.HUE p) (v / 2 ^ 16)).setF (ACC.PLANE_LOOK.SAT p) (v / 2 ^ 24)
  | _ => s.setF (ACC.PLANE_SCALE.CSCALE p) v

/-- Pending changes and clears of every plane, and of the curve, take effect. -/
def State.applyPending (s : State) : State :=
  let s := (List.range 4).foldl (fun (s : State) p =>
    let x := s.plane p
    let s := x.pend.foldl (fun (s : State) (e : Nat × Nat) => (s.applyPlane p e.1 e.2).markChanged) s
    let s := s.setF (ACC.PLANE_STATUS.PEND p) 0
    let s := if x.clear then s.zeroPlane p else s
    s.setPlane p { s.plane p with pend := [], clear := false }) s
  let s := s.acc.curve.foldl (fun (s : State) (e : Nat × Nat) => (s.setF (ACC.CURVE.VALUE e.1) e.2).markChanged) s
  { s with acc := { s.acc with curve := [] } }.setF ACC.CMD.CLR_PLANE 0

/-! ### Step 2: decay (R205) -/

/-- A count after a decay with shift `ds`. -/
def decayed (ds n : Nat) : Nat := n - (n + 2 ^ ds - 1) / 2 ^ ds

/-- The decay of a plane at a boundary: every DFRAMES-th one, when DS is not 0. DESIGN CHOICE (log entry 122): a boundary dropped under R206
is not counted. -/
def State.decayPlane (s : State) (p : Nat) : State :=
  let x := s.plane p
  let ds := s.fld (ACC.PLANE_LOOK.DS p)
  if s.bit (ACC.PLANE_CFG.ENABLE p) = false then s
  else if x.frames + 1 < s.fld (ACC.PLANE_LOOK.DFRAMES p) then s.setPlane p { x with frames := x.frames + 1 }
  else if ds = 0 then s.setPlane p { x with frames := 0 }
  else
    let hits := (x.hits.map fun e => (e.1, decayed ds e.2)).filter fun e => e.2 != 0
    let s := if x.hits.isEmpty then s else s.markChanged
    s.setPlane p { x with frames := 0, hits := hits }

/-! ### Step 4: pixels, surfaces, copies (R207 to R209) -/

/-- Y, Cb and Cr of a point whose brightest plane so far is `w` (R207). -/
structure Pixel where
  y : Nat
  plane : Option Nat
  deriving DecidableEq, Repr

/-- Column and row of viewport pixel (i, j) (R207). -/
def State.pixelCell (s : State) (i j : Nat) : Nat × Nat :=
  (i * 2048 / s.fld ACC.COMP_VIEW_SIZE.VW, 1023 - j * 1024 / s.fld ACC.COMP_VIEW_SIZE.VH)

/-- The brightest plane at a viewport pixel and its luma, with the counts after step 2 (R207). -/
def State.pixel (s : State) (h : Tbl (Tbl Nat)) (i j : Nat) : Pixel :=
  let (col, row) := s.pixelCell i j
  (List.range 4).foldl (fun (px : Pixel) p =>
    if s.bit (ACC.PLANE_CFG.ENABLE p) then
      let n := Tbl.get 0 (Tbl.get [] h p) (2048 * row + col)
      let idx := min 255 (n * s.fld (ACC.PLANE_SCALE.CSCALE p) / 256)
      let c := s.fld (ACC.CURVE.VALUE idx)
      if 0 < idx ∧ (px.plane = none ∨ px.y < c) then ⟨c, some p⟩ else px
    else px) ⟨s.fld (ACC.CURVE.VALUE 0), none⟩

/-- CB0 of a plane: round (2 SAT cos (2 pi HUE / 256)) (R207). -/
def State.cb0 (s : State) (p : Nat) : Int :=
  roundAway (2 * s.fld (ACC.PLANE_LOOK.SAT p) * cosTurn (s.fld (ACC.PLANE_LOOK.HUE p))) (2 ^ 30)

/-- CR0 of a plane, with the sine in place of the cosine (R207). -/
def State.cr0 (s : State) (p : Nat) : Int :=
  roundAway (2 * s.fld (ACC.PLANE_LOOK.SAT p) * cosTurn (s.fld (ACC.PLANE_LOOK.HUE p) + 192)) (2 ^ 30)

/-- Cb and Cr of a pixel (R207). -/
def State.chroma (s : State) (px : Pixel) : Nat × Nat :=
  match px.plane with
  | none => (512, 512)
  | some p => ((512 + roundAway (s.cb0 p * px.y) 1023).toNat, (512 + roundAway (s.cr0 p * px.y) 1023).toNat)

/-- Bytes of an element: 1 for 8 bits, 2 for 10 (R208). -/
def State.elemBytes (s : State) : Nat := if s.bit ACC.COMP_CFG.L10 then 2 else 1

/-- An element as stored (R207, R208). -/
def State.elem (s : State) (v : Nat) : List Byte := if s.bit ACC.COMP_CFG.L10 then le 2 v else le 1 (v / 4)

/-- 1 for 4:2:0, 0 for 4:2:2 (R208). -/
def State.vsub (s : State) : Nat := if s.fld ACC.COMP_CFG.CHROMA = 0 then 1 else 0

/-- Device address of the luma (0) or chroma (1) plane of a surface. -/
def State.surfBase (s : State) (surf plane : Nat) : Nat := 4096 * s.fld (ACC.COMP_BASE.BASE (2 * surf + plane))

/-- The luma row `j` of the viewport. -/
def State.lumaRow (s : State) (h : Tbl (Tbl Nat)) (j : Nat) : List Byte :=
  (List.range (s.fld ACC.COMP_VIEW_SIZE.VW)).flatMap fun i => s.elem (s.pixel h i j).y

/-- The chroma row that belongs to viewport row `j`: the sample of a group is its top-left pixel's. -/
def State.chromaRow (s : State) (h : Tbl (Tbl Nat)) (j : Nat) : List Byte :=
  (List.range (s.fld ACC.COMP_VIEW_SIZE.VW / 2)).flatMap fun i =>
    let c := s.chroma (s.pixel h (2 * i) j)
    s.elem c.1 ++ s.elem c.2

/-- The composed viewport written into a surface (R208); nothing outside it is written. -/
def State.writeSurface (s : State) (h : Tbl (Tbl Nat)) (surf : Nat) : State :=
  let e := s.elemBytes
  let vx := s.fld ACC.COMP_VIEW_POS.VX
  let vy := s.fld ACC.COMP_VIEW_POS.VY
  let v := s.vsub
  (List.range (s.fld ACC.COMP_VIEW_SIZE.VH)).foldl (fun (x : State) j =>
    let luma := s.lumaRow h j
    let x := x.dramWrite reqComposer (s.surfBase surf 0 + (vy + j) * s.fld ACC.COMP_PITCH.LPITCH + vx * e) luma
    if j % (v + 1) = 0 then
      x.dramWrite reqComposer (s.surfBase surf 1 + (vy + j) / 2 ^ v * s.fld ACC.COMP_PITCH.CPITCH + vx / 2 * (2 * e)) (s.chromaRow h j)
    else x) s

/-- The head of a count copy (R209). DESIGN CHOICE (log entry 122): FRAMES is the count after step 5 of its frame. -/
def State.copyHead (s : State) (p : Nat) : List Byte :=
  le 4 ((s.fld ACC.COMP_COUNTS.FRAMES + 1) % 65536) ++ le 1 p ++ le 1 (s.fld (ACC.PLANE_CFG.SOURCE p)) ++ le 2 0 ++
    le 8 s.tick.toNat ++ le 8 s.tick.toNat ++ le 4 (s.fld (ACC.PLANE_COUNT.RECORDS p)) ++ List.replicate 36 0

/-- The counts of one row, as a count copy holds them. -/
def State.copyRow (s : State) (p row : Nat) : List Byte :=
  (List.range 2048).flatMap fun col => le 2 (Tbl.get 0 (s.plane p).hits (2048 * row + col))

/-- The count copy of a plane written at its base (R209). -/
def State.writeCopy (s : State) (p : Nat) : State :=
  let base := 4096 * s.fld (ACC.PLANE_COPY.BASE p)
  (List.range 1024).foldl (fun (x : State) row => x.dramWrite reqComposer (base + 64 + 4096 * row) (s.copyRow p row))
    (s.dramWrite reqComposer base (s.copyHead p))

/-- A plane writes count copies. -/
def State.copies (s : State) (p : Nat) : Bool := s.bit (ACC.PLANE_COPY.COPY_EN p)

/-- The composer begins to write surface `surf` and the copies: an item a queue is reading from them is torn (R277). -/
def State.tear (s : State) (surf : Nat) : State :=
  let hit : Nat × Queue → Bool := fun e =>
    let id := s.fld (RDO.Q_CFG.SRC_ID e.1)
    s.fld (RDO.Q_CFG.SRC_KIND e.1) == 2 && e.2.item.isSome &&
      (if bitOf id 2 then s.copies (id % 4) else e.2.taken.contains surf)
  let mark : Nat × Queue → Nat × Queue := fun e =>
    if hit e then (e.1, { e.2 with item := e.2.item.map fun i => { i with torn := true } }) else e
  { s with rdo := { s.rdo with q := s.rdo.q.map mark } }

/-! ### Frames (R206, R210) -/

/-- The composer runs: enabled, its reservation held, in READY or ACQUIRE. -/
def State.composing (s : State) : Bool := s.bit ACC.COMP_CFG.ENABLE && s.acc.compOn && s.running

/-- A frame boundary has been reached and not taken. -/
def State.boundaryDue (s : State) : Bool :=
  if s.bit ACC.COMP_CFG.SYNC then s.acc.syncDue
  else match s.acc.nextBoundary with
    | some t => decide (t ≤ s.now)
    | none => false

/-- The boundary is taken and the next one fixed. -/
def State.takeBoundary (s : State) : State :=
  { s with acc := { s.acc with
    syncDue := false
    nextBoundary := s.acc.nextBoundary.map fun t => t + cyclesPerTick * s.fld ACC.COMP_PERIOD.TICKS } }

/-- The counts of the planes. -/
def State.counts (s : State) : Tbl (Tbl Nat) := (List.range 4).map fun p => (p, (s.plane p).hits)

/-- Step 4 of a frame: the surface from the counts after step 2, the copies from the counts as they stand. -/
def State.composeStep4 (s : State) (h : Tbl (Tbl Nat)) (surf : Nat) : State :=
  let s := { s with acc := { s.acc with heldFrame := none } }
  let s := (s.tear surf).writeSurface h surf
  (List.range 4).foldl (fun (x : State) p => if s.copies p then x.writeCopy p else x) s

/-- The display scans a surface now, and the composer is not in step with it: a write of the surface waits (R314). -/
def State.scanned (s : State) (surf : Nat) : Bool :=
  s.bit DSP.CFG.ENABLE && !s.bit ACC.COMP_CFG.SYNC && s.dsp.latched && s.fld DSP.STATUS.SURF == surf

/-- Steps 1 to 4 of a frame; a frame that has not changed ends at step 3. -/
def State.composeFrame (s : State) : State :=
  let s := (List.range 4).foldl State.decayPlane s.applyPending
  if s.acc.changed then
    let surf := 1 - s.fld ACC.COMP_STATUS.LAST
    let s := { s with acc := { s.acc with changed := false, frame := some { boundary := s.now, surface := surf } } }
    let s := s.setF ACC.COMP_STATUS.BUSY 1
    if s.scanned surf then { s with acc := { s.acc with heldFrame := some s.counts } } else s.composeStep4 s.counts surf
  else s.bumpF ACC.COMP_COUNTS.UNCHANGED 1

/-- COMPOSER_FRAME: a frame boundary starts a frame, or is dropped while one is under way (R206). -/
def effComposerFrame (s : State) : State :=
  if s.composing && s.boundaryDue then
    let s := s.takeBoundary
    if s.acc.frame.isSome then (s.bumpF ACC.COMP_OVERRUN.OVERRUN 1).raise 221 0 0 0 0 else s.composeFrame
  else s

/-- COMPOSER_FRAME_DONE: every write of the frame is acknowledged, none waits (Table 08-8 step 5). -/
def effComposerFrameDone (s : State) : State :=
  match s.acc.frame, s.acc.heldFrame with
  | none, _ => s
  | some _, some _ => s
  | some f, none =>
    if s.mem.held.any fun h => h.req == reqComposer then s
    else
      let s := { s with acc := { s.acc with frame := none, composed := true } }
      ((s.setF ACC.COMP_STATUS.LAST f.surface).setF ACC.COMP_STATUS.BUSY 0).wrapF ACC.COMP_COUNTS.FRAMES 1

/-- The composer stops: its reservation, its boundaries and the frame under way end. -/
def State.stopComposer (s : State) : State :=
  let s := { s with acc := { s.acc with frame := none, heldFrame := none, compOn := false, nextBoundary := none, syncDue := false } }
  (s.setF ACC.COMP_STATUS.BUSY 0).setResv (Tbl.erase s.mem.resv 33)

/-- Bytes of one frame's writes (R210). -/
def State.frameBytes (s : State) : Nat :=
  let luma := s.fld ACC.COMP_VIEW_SIZE.VW * s.fld ACC.COMP_VIEW_SIZE.VH * s.elemBytes
  luma + luma / (1 + s.vsub) + 4194368 * ((List.range 4).filter s.copies).length

def execComposerFrame (s : State) : Res := .next (effComposerFrame s)
def execComposerFrameDone (s : State) : Res := .next (effComposerFrameDone s)

end Sys2Proof.Machine
end

