-- ==== Sys2Proof/Machine/Readout.lean ====
section
/-!
DEFINITION. The readout engine: sources and items, descriptors, bursts, completion, pacing, flush, halts, books, guarantees
(R274 to R301).
-/

namespace Sys2Proof.Machine

/-! ### Queues -/

/-- States of a queue, RDO.Q_STATE. -/
def queueIdle : Nat := 0
def queueWaiting : Nat := 1
def queueRunning : Nat := 2
def queueParked : Nat := 3
def queueHalted : Nat := 4

/-- Source kinds (R274). -/
def srcPlan : Nat := 0
def srcAccum : Nat := 1
def srcImage : Nat := 2
def srcRange : Nat := 3

/-- A queue. -/
def State.queue (s : State) (q : Nat) : Queue := Tbl.get {} s.rdo.q q

/-- A queue replaced. -/
def State.setQueue (s : State) (q : Nat) (x : Queue) : State := { s with rdo := { s.rdo with q := Tbl.set {} s.rdo.q q x } }

/-- STATE of a queue. -/
def State.queueState (s : State) (q : Nat) : Nat := s.fld (RDO.Q_STATE.STATE q)

/-- Source kind and source number a queue is bound to. -/
def State.queueKind (s : State) (q : Nat) : Nat := s.fld (RDO.Q_CFG.SRC_KIND q)
def State.queueSrc (s : State) (q : Nat) : Nat := s.fld (RDO.Q_CFG.SRC_ID q)

/-- WAITING or RUNNING. -/
def State.queueActive (s : State) (q : Nat) : Bool := s.queueState q == queueWaiting || s.queueState q == queueRunning

/-- The device can issue requests on the link (R294). -/
def State.canMaster (s : State) : Bool :=
  !s.dev.held && decide (s.fld DEV.HOST_STATUS.WIDTH ≠ 0) && s.bit DEV.HOST_STATUS.BME && !s.bit DEV.HOST_STATUS.D3HOT

/-- Flags of a descriptor (Table 11-1). -/
def Desc.irqFull (d : Desc) : Bool := bitOf d.flags 0
def Desc.irqHalf (d : Desc) : Bool := bitOf d.flags 1
def Desc.fixed (d : Desc) : Bool := bitOf d.flags 2
def Desc.dstDev (d : Desc) : Bool := bitOf d.flags 3
def Desc.pack (d : Desc) : Bool := bitOf d.flags 4
def Desc.keep (d : Desc) : Bool := bitOf d.flags 5
def Desc.last (d : Desc) : Bool := bitOf d.link 0

/-- A descriptor read from its 32 bytes (Table 11-1). -/
def parseDesc (b : List Byte) : Desc :=
  { src := num b 0 8, dst := num b 8 8, len := num b 16 4, flags := num b 20 2, tag := num b 22 2, link := num b 24 8 }

/-! ### Banks of a plan, wherever they are -/

/-- The state of a bank set. -/
def State.setBankState (s : State) (p b v : Nat) : State :=
  match s.slotOfPlan p with
  | some k => s.setF (bankFld k b) v
  | none => { s with acc := { s.acc with keptState := Tbl.set 0 s.acc.keptState (2 * p + b) v } }

/-- The accumulation of a plan: its slot's, or what it left. -/
def State.planAcc (s : State) (p : Nat) : Acc :=
  match s.slotOfPlan p with
  | some k => s.accOf k
  | none => Tbl.get {} s.acc.kept p

/-- A bank becomes FREE. -/
def State.releaseBank (s : State) (p b : Nat) : State :=
  match s.slotOfPlan p with
  | some k => s.freeBank k b
  | none =>
    let a := Tbl.get {} s.acc.kept p
    let s := { s with acc := { s.acc with kept := Tbl.set {} s.acc.kept p { a with banks := Tbl.set {} a.banks b {} } } }
    s.setBankState p b 0

/-! ### Items available (R275, R277, R289) -/

/-- Insertion before the first element with a larger key. -/
def insertBy (f : Nat → Nat) (x : Nat) : List Nat → List Nat
  | [] => [x]
  | y :: t => if f x ≤ f y then x :: y :: t else y :: insertBy f x t

/-- A list in rising order of a key. -/
def sortBy (f : Nat → Nat) (l : List Nat) : List Nat := l.foldr (insertBy f) []

/-- Taking order of a SEALED folio: those sealed when the queue started first, by number; then by seal (R275). -/
def State.folioOrder (s : State) (p startAt f : Nat) : Nat :=
  let t := Tbl.get 0 s.acq.sealAt (2 ^ 26 * p + f)
  if t ≤ startAt + 1 then f else 2 ^ 26 * t + f

/-- SEALED folios of a plan in the order a queue takes them. -/
def State.sealedFolios (s : State) (pl : Plan) (startAt : Nat) : List Nat :=
  sortBy (s.folioOrder pl.num startAt) ((List.range (pl.sets * pl.k)).filter fun f => s.folioState pl f == folioSealed)

/-- COMPLETE banks of a plan, the one completed first before the other. -/
def State.completeBanks (s : State) (pl : Plan) : List Nat :=
  let last := (s.planAcc pl.num).lastDone
  sortBy (fun b => if last = some b then 2 + b else b) ((List.range pl.banks).filter fun b => s.bankState pl.num b == 2)

/-- The items a queue could take now, in taking order. -/
def State.available (s : State) (q : Nat) : List Nat :=
  let kind := s.queueKind q
  if kind = srcPlan ∨ kind = srcAccum then
    match s.planOf (s.queueSrc q) with
    | none => []
    | some pl =>
      if s.bit (ACQ.LIB_CFG.STALE pl.num) then []
      else if kind = srcPlan then s.sealedFolios pl (s.queue q).startAt else s.completeBanks pl
  else if kind = srcImage then if s.acc.composed then [0] else []
  else []

/-- Q_LEVEL. -/
def State.level (s : State) (q : Nat) : Nat := (s.available q).length

/-! ### Items (R148, R200, R274) -/

/-- Bytes of a piece. -/
def Piece.len : Piece → Nat
  | .mem _ n => n
  | .imm b => b.length
  | .die _ n => 4 * n

/-- A piece cut to a length. -/
def Piece.cut : Piece → Nat → Piece
  | .mem a _, n => .mem a n
  | .imm b, n => .imm (b.take n)
  | .die a _, n => .die a (n / 4)

/-- Pieces fitted to a length: cut, or filled with zeros (log entry 30). -/
def fitPieces : Nat → List Piece → List Piece
  | n, [] => if n = 0 then [] else [.imm (List.replicate n 0)]
  | n, p :: t => if n = 0 then [] else if p.len ≤ n then p :: fitPieces (n - p.len) t else [p.cut n]

/-- The runs of a segment: its head and one or two runs of data (R147, R285). -/
def State.segPieces (s : State) (a area : Nat) : List Piece :=
  let used := min (ofLe (s.peekN a 4)) area
  let start := ofLe (s.peekN (a + 4) 4) % area
  let n := min used (area - start)
  [.mem a 8, .mem (a + 8 + start) n, .mem (a + 8) (used - n)]

/-- A folio as an item (R148): LENGTH from its catalogue entry. -/
def State.folioItem (s : State) (pl : Plan) (f at_ : Nat) : Item :=
  let base := pl.folioAddr f
  let entry := s.peekN (pl.entryAddr f) 32
  let c := pl.chans.getD (f % pl.k) ⟨0, 0, 0, 0, 0, 0, 0, 0, 0, 0, 0⟩
  let n := s.lanes c.ch
  let pitch := segPitch n c
  let len := num entry 24 4
  let segs := (List.range n).flatMap fun i => s.segPieces (base + 64 + i * pitch) (pitch - 8)
  { pieces := (fitPieces len (.mem base 64 :: segs)).filter fun p => p.len != 0
    len := len, first := num entry 0 8, flags := ofLe (s.peekN (base + 14) 2), at_ := at_ }

/-- A bank as an item (R200): result header, then bins. -/
def State.bankItem (s : State) (pl : Plan) (b at_ : Nat) : Item :=
  let r := Tbl.get {} (s.planAcc pl.num).banks b
  let n := pl.k * pl.accL
  { pieces := [.imm (resultHead pl r ++ padTo r.tag 16), if pl.accDram then .mem (pl.binAt b 0) (4 * n) else .die (pl.binAt b 0) n]
    len := 64 + 4 * n, first := r.first, flags := r.flags, at_ := at_ }

/-- A surface or a count copy as an item (R274, R277): its key and the item. -/
def State.imageItem (s : State) (id : Nat) : Nat × Item :=
  if bitOf id 2 then
    let base := 4096 * s.fld (ACC.PLANE_COPY.BASE (id % 4))
    (4 + id % 4, { pieces := [.mem base 4194368], len := 4194368, first := ofLe (s.peekN base 4), flags := 0, at_ := 0 })
  else
    let surf := s.fld ACC.COMP_STATUS.LAST
    let h := s.fld ACC.COMP_SURF.HEIGHT
    let luma := s.fld ACC.COMP_PITCH.LPITCH * h
    let chr := s.fld ACC.COMP_PITCH.CPITCH * h / (1 + s.vsub)
    (surf, { pieces := [.mem (s.surfBase surf 0) luma, .mem (s.surfBase surf 1) chr], len := luma + chr, first := 0, flags := 0
             at_ := 0 })

/-- The next place in the destination buffer (R280). -/
def Queue.place (x : Queue) (d : Desc) : Nat :=
  if x.taken.isEmpty then 0 else if d.fixed then x.fill else (x.fill + 63) / 64 * 64

/-- The item a queue would take next: its key and the item. -/
def State.nextItem (s : State) (q : Nat) : Option (Nat × Item) :=
  let x := s.queue q
  match x.desc with
  | none => none
  | some d =>
    let kind := s.queueKind q
    let av := s.available q
    let pick := match x.flush with
      | some l => l.find? fun i => av.contains i
      | none => if x.pacing || kind == srcImage then av.head? else none
    match pick, s.planOf (s.queueSrc q) with
    | some i, some pl =>
      if kind = srcPlan then some (i, s.folioItem pl i (x.place d))
      else if kind = srcAccum then some (i, s.bankItem pl i (x.place d))
      else if kind = srcImage then some (s.imageItem (s.queueSrc q)) else none
    | some _, none => if kind = srcImage then some (s.imageItem (s.queueSrc q)) else none
    | none, _ => none

/-! ### What the registers show (R291) -/

/-- STATE of an active queue: WAITING while pacing is off or no image has been composed and no item is in hand (R277, R289). -/
def State.activeState (s : State) (q : Nat) : Nat :=
  let x := s.queue q
  let kind := s.queueKind q
  if x.desc.isSome && x.item.isNone && !x.ended && x.flush.isNone &&
      (if kind = srcImage then !s.acc.composed else kind != srcRange && !x.pacing) then queueWaiting else queueRunning

/-- The registers of a queue follow it. -/
def State.showQueue (s : State) (q : Nat) : State :=
  let x := s.queue q
  let s := if s.queueActive q then s.setF (RDO.Q_STATE.STATE q) (s.activeState q) else s
  let s := (s.setB (RDO.Q_STATE.FLUSHING q) x.flush.isSome).setB (RDO.Q_CMD.FLUSH q) x.flush.isSome
  let s := (s.setB (RDO.Q_STATE.RING_FULL q) x.entry.isSome).setF (RDO.Q_LEVEL.LEVEL q) (s.level q)
  let s := ((s.setF (RDO.Q_CUR_LO.ADDR q) (x.cur / 32)).setB (RDO.Q_CUR_LO.DEV q) x.curDev)
  let show_ : Nat → Nat → State := fun pos total =>
    ((s.setF (RDO.Q_PROG_POS.POS q) pos).setF (RDO.Q_PROG_TOTAL.TOTAL q) total).setF (RDO.Q_STATE.PCT q)
      (if total = 0 then 0 else 100 * pos / total)
  if x.flush.isSome then show_ x.flushDone x.flushTotal
  else match x.desc with
    | some d => show_ x.bytes d.len
    | none => s

/-! ### Requests to the host (R282, R294) -/

/-- A request is issued: a host read leaves the device, or counts as issued and is lost where it cannot (R294); a request to device DRAM
stays inside. -/
def State.issue (s : State) (q kind addr len be : Nat) (dev : Bool) : State :=
  let x := s.queue q
  let lost := !dev && !s.canMaster
  let s := s.setQueue q { x with waits := x.waits ++ [{ kind := kind, addr := addr, len := len, be := be, again := s.now, lost := lost }] }
  if dev || lost then s else s.emit (.hostRead addr len be)

/-- The descriptor at the current address is fetched. -/
def State.fetchDesc (s : State) (q : Nat) : State :=
  let x := s.queue q
  s.issue q 0 x.cur 32 15 x.curDev

/-- The LINK of the descriptor a queue is parked on is read again (R292). -/
def State.reread (s : State) (q : Nat) : State :=
  let x := s.queue q
  s.issue q 1 (x.cur + 24) 8 15 x.curDev

/-- A read-back of the last dword written, with the byte enables of its last write, or the wait for memory's acknowledgements (R282
step 2). -/
def State.readBack (s : State) (q kind : Nat) (d : Desc) : State :=
  s.issue q kind ((s.queue q).lastAddr / 4 * 4) 4 (s.queue q).lastBe d.dstDev

/-- The descriptor takes nothing more: its read-back is issued. -/
def State.endDesc (s : State) (q : Nat) (d : Desc) : State := (s.setQueue q { s.queue q with ended := true }).readBack q 3 d

/-! ### Abandonment and halts (R276, R295, R297) -/

/-- A queue without a descriptor in hand; its counters, pacing and place in the chain stay. -/
def Queue.idle (x : Queue) : Queue :=
  { x with desc := none, taken := [], takenLen := 0, item := none, fill := 0, bytes := 0, items := 0, flags := 0, first := 0
           poisoned := 0, torn := false, flushed := false, paceEnd := false, ended := false, endFlush := false, done := false
           halfDone := false, waits := [], entry := none, entryNext := false, flushItems := 0 }

/-- An item that a descriptor gives up returns: a folio to SEALED, or HELD after a HOLD; a bank to COMPLETE. -/
def State.returnItem (s : State) (q i : Nat) : State :=
  match s.planOf (s.queueSrc q) with
  | none => s
  | some pl =>
    if s.queueKind q = srcPlan then
      let key := 2 ^ 26 * pl.num + i
      let held := Tbl.get false s.acq.holdAfter key
      let s := { s with acq := { s.acq with holdAfter := Tbl.set false s.acq.holdAfter key false } }
      s.moveFolio pl i (if held then folioHeld else folioSealed)
    else if s.queueKind q = srcAccum then s.setBankState pl.num i 2
    else s

/-- The descriptor in hand is abandoned: items return, its bytes are to leave the books, ABANDONED counts its items. -/
def State.abandon (s : State) (q : Nat) : State :=
  let x := s.queue q
  if x.desc.isSome ∧ x.done = false then
    let s := x.taken.foldl (fun (s : State) i => s.returnItem q i) s
    s.setQueue q { x.idle with haltBytes := x.haltBytes + x.takenLen, flush := none, flushDone := 0, flushTotal := 0
                               abandoned := min (2 ^ 32 - 1) (x.abandoned + x.taken.length) }
  else s.setQueue q { x.idle with flush := none, flushDone := 0, flushTotal := 0 }

/-- The bytes of an abandoned descriptor leave REQUESTED (R297). -/
def State.dropBytes (s : State) (q : Nat) : State :=
  let x := s.queue q
  s.setQueue q { x with requested := x.requested - x.haltBytes, haltBytes := 0 }

/-- STATE of a queue set; HALT_SUM follows. -/
def State.setQueueState (s : State) (q v : Nat) : State :=
  let h := RDO.HALT_SUM.HALTED (q / 32)
  let s := s.setF h (if v = queueHalted then withBit (s.fld h) (q % 32) else withoutBit (s.fld h) (q % 32))
  s.setF (RDO.Q_STATE.STATE q) v

/-- A queue halts (R295). -/
def State.haltQueue (s : State) (q cause : Nat) : State :=
  let s := ((s.abandon q).setQueueState q queueHalted).setF (RDO.Q_STATE.CAUSE q) cause
  let s := (s.setF (RDO.Q_CMD.STOP q) 0).bumpF (RDO.Q_ERR.HALTS q) 1
  (s.showQueue q).raise (184 + q / 32) cause (q % 32) 0 0

/-- A queue becomes IDLE, its descriptor abandoned (R293, R299). -/
def State.idleQueue (s : State) (q : Nat) : State :=
  let s := ((s.abandon q).dropBytes q).setQueueState q queueIdle
  let s := s.clearFs [RDO.Q_STATE.CAUSE q, RDO.Q_STATE.DB_PEND q, RDO.Q_CMD.STOP q]
  let x := s.queue q
  (s.setQueue q { x with pacing := false, since := none }).showQueue q

/-! ### Pacing and flush (R289, R290) -/

/-- The flush of a queue ends: pacing resumes in state off. -/
def State.endFlush (s : State) (q : Nat) : State :=
  let x := s.queue q
  s.setQueue q { x with flush := none, pacing := false, flushItems := 0 }

/-- The level has fallen to LO_MARK: pacing turns off, and a PACK descriptor with an item ends with PACE_END, at once or after the item
in hand (R289). -/
def State.paceOff (s : State) (q : Nat) (since : Option Nat) : State :=
  let x := s.queue q
  match x.desc with
  | some d =>
    let ends := d.pack && !x.taken.isEmpty && !x.ended
    let s := s.setQueue q { x with since := since, pacing := false, paceEnd := x.paceEnd || ends }
    (if ends && x.item.isNone then s.endDesc q d else s).showQueue q
  | none => (s.setQueue q { x with since := since, pacing := false }).showQueue q

/-- The level of an active or parked queue is looked at: since when it has been non-zero, whether pacing turns on, and which items
of its flush are still to be had. -/
def State.repaceQueue (s : State) (q : Nat) : State :=
  let x := s.queue q
  let st := s.queueState q
  if (s.queueKind q = srcPlan ∨ s.queueKind q = srcAccum) ∧ st ≠ queueIdle ∧ st ≠ queueHalted then
    let av := s.available q
    let since := if av.isEmpty then none else some (x.since.getD s.now)
    match x.flush with
    | some l =>
      let l := l.filter fun i => av.contains i
      let s := s.setQueue q { x with since := since, flush := some l }
      if l.isEmpty && x.item.isNone && !x.ended then
        match x.desc with
        | some d =>
          if x.taken.isEmpty then (s.endFlush q).showQueue q
          else ((s.setQueue q { s.queue q with flushed := true }).endDesc q d).showQueue q
        | none => (s.endFlush q).showQueue q
      else s.showQueue q
    | none =>
      if x.pacing && decide (av.length < s.fld (RDO.Q_LEVEL.LEVEL q) ∧ av.length ≤ s.fld (RDO.Q_PACE.LO_MARK q)) then
        s.paceOff q since
      else
        let on := x.pacing || (x.desc.isSome && decide (s.fld (RDO.Q_PACE.HI_MARK q) ≤ av.length))
        (s.setQueue q { x with since := since, pacing := on }).showQueue q
  else if s.queueKind q = srcImage ∧ s.queueActive q = true then s.showQueue q
  else s

/-- Every queue's level is looked at. -/
def State.repace (s : State) : State := (s.rdo.q.map Prod.fst).foldl State.repaceQueue s

/-! ### Source reads (R285, R296) -/

/-- Bytes `off` to `off + n - 1` of a piece, each with whether its burst is poisoned or unmapped. -/
def State.readPiece (s : State) (p : Piece) (off n : Nat) : List (Byte × Bool) :=
  match p with
  | .mem a _ => (List.range n).map fun i => match s.phys (a + off + i) with
    | some (c, b) => (s.dramByte c b, s.poisoned c b)
    | none => (0, true)
  | .imm bs => (slice bs off n).map fun b => (b, false)
  | .die base _ => (List.range n).map fun i =>
    ((le 4 (toTwos 32 (Tbl.get 0 s.acc.bins (base + (off + i) / 4)))).getD ((off + i) % 4) 0, false)

/-- Source bursts of the piece first touched by bytes `off` to `off + n - 1` that are poisoned or unmapped. -/
def State.poisonedBursts (s : State) (p : Piece) (off n : Nat) : Nat :=
  match p with
  | .mem a _ =>
    if n = 0 then 0
    else
      let b0 := (a + off) / 64
      ((List.range ((a + off + n - 1) / 64 + 1 - b0)).filter fun i =>
        (off == 0 || decide (a + off ≤ 64 * (b0 + i))) && (match s.phys (64 * (b0 + i)) with
          | some (c, b) => s.poisoned c b
          | none => true)).length
  | _ => 0

/-- Bytes of an item from `off`: the bytes, the poisoned bursts among them, the state after any unmapped-access notice. -/
def State.readItem (req : Nat) : List Piece → Nat → Nat → State → List (Byte × Bool) × Nat × State
  | [], _, _, s => ([], 0, s)
  | p :: t, off, n, s =>
    if n = 0 then ([], 0, s)
    else if p.len ≤ off then State.readItem req t (off - p.len) n s
    else
      let m := min n (p.len - off)
      let s' := match p with
        | .mem a _ => s.readAccess req (a + off) m
        | _ => s
      let (bs, k, s'') := State.readItem req t 0 (n - m) s'
      (s.readPiece p off m ++ bs, s.poisonedBursts p off m + k, s'')

/-- The device ranges in DRAM that bytes `off` to `off + n - 1` of an item come from, rounded outward to bursts (R285). -/
def sourceRuns : List Piece → Nat → Nat → List (Nat × Nat)
  | [], _, _ => []
  | p :: t, off, n =>
    if n = 0 then []
    else if p.len ≤ off then sourceRuns t (off - p.len) n
    else
      let m := min n (p.len - off)
      let rest := sourceRuns t 0 (n - m)
      match p with
      | .mem a _ => (((a + off) / 64 * 64, (a + off + m + 63) / 64 * 64 - (a + off) / 64 * 64)) :: rest
      | _ => rest

/-- The byte enables of the last dword of a request of `len` bytes at `a`. -/
def lastEnables (a len : Nat) : Nat :=
  let dw := (a + len - 1) / 4 * 4
  ((List.range 4).map fun i => if a ≤ dw + i ∧ dw + i < a + len then 2 ^ i else 0).sum

/-! ### Destination writes (R286, R296) -/

/-- A list cut at the multiples of `size` of an address. -/
def splitAt_ (size : Nat) : Nat → Nat → List (Byte × Bool) → List (Nat × List (Byte × Bool))
  | 0, _, _ => []
  | fuel + 1, a, l =>
    if l.isEmpty then []
    else
      let n := size - a % size
      (a, l.take n) :: splitAt_ size fuel (a + n) (l.drop n)

/-- The requests of a burst that starts at byte `pos` of the destination buffer: with FIXED all at DST. -/
def State.requests (s : State) (q : Nat) (d : Desc) (pos : Nat) (l : List (Byte × Bool)) : List (Nat × List (Byte × Bool)) :=
  if d.fixed then
    let size := min (2 ^ s.fld (RDO.Q_CTL.FIXED_WIN q)) s.host.mps
    (splitAt_ size (l.length + 1) 0 l).map fun x => (d.dst, x.2)
  else splitAt_ s.host.mps (l.length + 1) (d.dst + pos) l

/-- A burst in device DRAM at `a` takes the poison pattern. -/
def State.poisonAt (s : State) (a : Nat) : State :=
  match s.phys a with
  | some (c, b) => s.setPoison c b true
  | none => s

/-- One request is written. -/
def State.writeRequest (s : State) (q : Nat) (d : Desc) (r : Nat × List (Byte × Bool)) : State :=
  let bad := r.2.any fun x => x.2
  if d.dstDev then
    let s := s.dramWrite (reqQueue q) r.1 (r.2.map Prod.fst)
    if bad then (List.range r.2.length).foldl (fun (s : State) i =>
      if (r.2.getD i (0, false)).2 then s.poisonAt (r.1 + i) else s) s else s
  else if s.canMaster then
    let ep := s.bit (RDO.Q_CTL.EP q)
    s.emit (.hostWrite r.1 (r.2.map fun x => if x.2 && !ep then 0 else x.1) (ep && bad))
  else s

/-! ### Guarantees (R287, R288) -/

/-- LINK_CEIL for a width and a rate code of DEV.HOST_STATUS. -/
def linkCeil (width speed : Nat) : Nat :=
  let gt := if speed = 1 then 25 else if speed = 2 then 50 else if speed = 3 then 80 else if speed = 4 then 160
    else if speed = 5 then 320 else 0
  if speed ≤ 2 then width * gt * 100 * 8 * 3 / (10 * 32 * 250) * 250 else width * gt * 100 * 128 * 3 / (130 * 32 * 250) * 250

/-- Queues that hold a guarantee. -/
def State.guaranteed (s : State) : List Nat := (List.range 512).filter fun q => s.fld (RDO.Q_STATE.GUAR_STATE q) == 1

/-- Sum of held guarantees in MB/s. -/
def State.heldGuarantees (s : State) : Nat := (s.guaranteed.map fun q => s.fld (RDO.Q_GUAR.GUAR q)).sum

/-- RDO.LINK_CEIL follows the link and the guarantees. -/
def State.showLinkCeil (s : State) : State :=
  let w := s.fld DEV.HOST_STATUS.WIDTH
  let s := if w = 0 then s else s.setF RDO.LINK_CEIL.CEIL (linkCeil w (s.fld DEV.HOST_STATUS.SPEED))
  s.setF RDO.LINK_CEIL.HELD ((s.heldGuarantees + 999) / 1000)

/-- A queue's guarantee is withdrawn: the queue goes on as class 2 (R258, R288). -/
def State.withdrawQueue (s : State) (q : Nat) : State :=
  let s := (s.setResv (Tbl.erase s.mem.resv (64 + q))).setF (RDO.Q_STATE.GUAR_STATE q) 3
  let s := s.setQueue q { s.queue q with asked := false }
  s.showLinkCeil.raise 3 0 0 q 0

/-- The guarantees are judged against the link: withdrawn from the highest queue down until the rest fit (R288). -/
def State.judgeGuarantees (s : State) : State :=
  let s := s.showLinkCeil
  s.guaranteed.reverse.foldl (fun (s : State) q =>
    if s.fld RDO.LINK_CEIL.CEIL < s.heldGuarantees then s.withdrawQueue q else s) s

/-- PCIE_LINK_RETRAIN: the link runs at a new width and rate (R288). -/
def effPcieLinkRetrain (width speed : Nat) (s : State) : State :=
  if !s.dev.held && decide (width = 4 ∨ width = 8 ∨ width = 16) && decide (1 ≤ speed ∧ speed ≤ 5) && !s.host.perst then
    ((s.setF DEV.HOST_STATUS.WIDTH width).setF DEV.HOST_STATUS.SPEED speed).judgeGuarantees
  else s

/-- The guarantee meter of a queue in 1/1000 byte, 4 KiB deep (log entry 31). -/
def State.meter (s : State) (q : Nat) : Nat :=
  let x := s.queue q
  min 4096000 (x.credit + s.fld (RDO.Q_GUAR.GUAR q) * (s.now - x.creditAt))

/-! ### Bursts (R280, R286, R287) -/

/-- Bytes of the next burst of an item. -/
def burstLen (d : Desc) (it : Item) : Nat :=
  let pos := it.at_ + it.off
  min (it.len - it.off) (4096 - (if d.fixed then pos else d.dst + pos) % 4096)

/-- What a queue would do at a burst boundary: the item in hand, or the one it would take. -/
def State.burstItem (s : State) (q : Nat) : Option (Option Nat × Item) :=
  let x := s.queue q
  match x.item with
  | some it => some (none, it)
  | none => if x.ended then none else (s.nextItem q).map fun y => (some y.1, y.2)

/-- The next burst of an item cannot be made now: a source granule or, in device DRAM, its destination has to wait (R262, R268, R287). -/
def State.burstWaits (s : State) (q : Nat) (d : Desc) (it : Item) : Bool :=
  let n := burstLen d it
  ((sourceRuns it.pieces it.off n).any fun r => s.rangeWaits (reqQueue q) r.1 r.2) ||
    (d.dstDev && s.rangeWaits (reqQueue q) (if d.fixed then d.dst else d.dst + it.at_ + it.off) n)

/-- What the engine reads to take a folio: its catalogue entry and its segment heads (R148, R274). -/
def State.headRuns (s : State) (q key : Nat) : List (Nat × Nat) :=
  match s.planOf (s.queueSrc q) with
  | some pl =>
    if s.queueKind q = srcPlan then
      let c := pl.chans.getD (key % pl.k) ⟨0, 0, 0, 0, 0, 0, 0, 0, 0, 0, 0⟩
      let n := s.lanes c.ch
      (pl.entryAddr key, 32) :: (List.range n).map fun i => (pl.folioAddr key + 64 + i * segPitch n c, 8)
    else []
  | none => []

/-- These reads are made. -/
def State.readHead (s : State) (q key : Nat) : State :=
  (s.headRuns q key).foldl (fun (s : State) r => s.readAccess (reqQueue q) r.1 r.2) s

/-- One of these reads has to wait (R268). -/
def State.headWaits (s : State) (q : Nat) (key : Option Nat) : Bool :=
  match key with
  | some i => (s.headRuns q i).any fun r => s.rangeWaits (reqQueue q) r.1 r.2
  | none => false

/-- A queue may issue a burst: RUNNING, waiting on no ring, and its next burst not waiting on memory (R287). -/
def State.eligible (s : State) (q : Nat) : Bool :=
  let x := s.queue q
  s.queueActive q && x.entry.isNone && !x.ended && (match x.desc, s.burstItem q with
    | some d, some (key, it) => !s.burstWaits q d it && !s.headWaits q key
    | _, _ => false)

/-- A queue is within its guarantee meter (R287). -/
def State.guaranteedNow (s : State) (q : Nat) : Bool :=
  s.fld (RDO.Q_STATE.GUAR_STATE q) == 1 && (match (s.queue q).desc, s.burstItem q with
    | some d, some (_, it) => decide (1000 * burstLen d it ≤ s.meter q)
    | _, _ => false)

/-- Rank of a queue among the eligible: guaranteed first, then priority, then the one served longest ago. -/
def State.burstRank (s : State) (q : Nat) : Nat :=
  (if s.guaranteedNow q then 0 else 8) + (7 - s.fld (RDO.Q_CFG.PRIO q))

/-- The queue that issues the next burst (R287). -/
def State.chooseQueue (s : State) : Option Nat :=
  ((s.rdo.q.map Prod.fst).filter s.eligible).foldl (fun (b : Option Nat) q =>
    match b with
    | none => some q
    | some p =>
      let rp := s.burstRank p
      let rq := s.burstRank q
      if rq < rp ∨ (rq = rp ∧ (s.queue q).turn < (s.queue p).turn) then some q else some p) none

/-- An item is taken: a folio or bank becomes IN_READOUT (R276), REQUESTED grows (R297). -/
def State.takeItem (s : State) (q key : Nat) (it : Item) : State :=
  let x := s.queue q
  let s := match s.planOf (s.queueSrc q) with
    | some pl =>
      if s.queueKind q = srcPlan then s.moveFolio pl key folioReadout
      else if s.queueKind q = srcAccum then s.setBankState pl.num key 3 else s
    | none => s
  s.setQueue q { x with item := some it, taken := x.taken ++ [key], takenLen := x.takenLen + it.len
                        requested := x.requested + it.len
                        flush := x.flush.map fun l => l.filter fun i => i != key
                        flushItems := if x.flush.isSome then x.flushItems + 1 else x.flushItems }

/-- The next item would not fit behind the items delivered (R280). -/
def State.nextTooLong (s : State) (q : Nat) (d : Desc) : Bool :=
  match s.nextItem q with
  | some (_, it) => decide (d.len < it.at_ + it.len)
  | none => false

/-- The item in hand has been delivered whole: the descriptor ends, or goes on with the next one (R280, R289, R290). -/
def State.itemDone (s : State) (q : Nat) (d : Desc) (it : Item) : State :=
  let x := s.queue q
  let x := { x with item := none, items := x.items + 1, flags := orFlags x.flags it.flags
                    first := if x.items = 0 then it.first else x.first, fill := it.at_ + it.len, torn := x.torn || it.torn }
  let s := s.setQueue q x
  if s.queueKind q = srcImage ∨ s.queueKind q = srcRange then s.endDesc q d
  else if x.endFlush then (s.setQueue q { x with flushed := true }).endDesc q d
  else if x.paceEnd then s.endDesc q d
  else
    let av := s.available q
    match x.flush with
    | some l =>
      if (l.filter fun i => av.contains i).isEmpty then (s.setQueue q { x with flushed := true, flush := some [] }).endDesc q d
      else if !d.pack || s.nextTooLong q d then s.endDesc q d else s
    | none =>
      if av.length ≤ s.fld (RDO.Q_PACE.LO_MARK q) then
        (s.setQueue q { x with pacing := false, paceEnd := d.pack }).endDesc q d
      else if !d.pack || s.nextTooLong q d then s.endDesc q d else s

/-- One burst of the item in hand (R285, R286, R296). -/
def State.burst (s : State) (q : Nat) (d : Desc) (it : Item) : State :=
  let n := burstLen d it
  let pos := it.at_ + it.off
  let (bs, bad, s) := State.readItem (reqQueue q) it.pieces it.off n s
  let reqs := s.requests q d pos bs
  let s := reqs.foldl (fun (s : State) r => s.writeRequest q d r) s
  let (lastAddr, lastBe) := match reqs.getLast? with
    | some r => (r.1 + r.2.length - 1, lastEnables r.1 r.2.length)
    | none => (d.dst, 15)
  let x := s.queue q
  let notice := x.poisoned == 0 && decide (0 < bad)
  let it := { it with off := it.off + n }
  let x := { x with item := some it, bytes := x.bytes + n, poisoned := x.poisoned + bad, lastAddr := lastAddr, lastBe := lastBe
                    turn := s.rdo.bursts + 1, credit := s.meter q - 1000 * n, creditAt := s.now }
  let s := s.setQueue q x
  let s := { s with rdo := { s.rdo with bursts := s.rdo.bursts + 1 } }
  let s := if notice then s.raise 201 0 0 q 0 else s
  let s := if d.irqHalf && !x.halfDone && decide ((d.len + 1) / 2 ≤ x.bytes) then
      (s.setQueue q { x with halfDone := true }).readBack q 2 d
    else s
  if it.len ≤ it.off then s.itemDone q d it else s

/-- READOUT_BURST: at a burst boundary the engine chooses a queue and issues its next burst; an item longer than the buffer halts
the queue (R280), one that no longer fits ends the descriptor. -/
def effReadoutBurst (s : State) : State :=
  if s.running then
    let s := s.repace
    match s.chooseQueue with
    | none => s
    | some q =>
      match (s.queue q).desc, s.burstItem q with
      | some d, some (none, it) => (s.burst q d it).repace.showQueue q
      | some d, some (some key, it) =>
        if d.len < it.at_ + it.len then
          if (s.queue q).taken.isEmpty then s.haltQueue q 7 else (s.endDesc q d).showQueue q
        else (((s.readHead q key).takeItem q key it).burst q d it).repace.showQueue q
      | _, _ => s
  else s

/-! ### Completion (R281 to R284) -/

/-- The entry ring is full (R284). -/
def State.ringFull (s : State) (q : Nat) : Bool :=
  (s.fld (RDO.Q_COMP_WR.WR q) + 2 ^ 32 - s.fld (RDO.Q_COMP_RD.RD q)) % 2 ^ 32 == 2 ^ s.fld (RDO.Q_CTL.SIZE q)

/-- Base of the completion ring. -/
def State.ringBase (s : State) (q : Nat) : Nat :=
  s.fld (RDO.Q_COMP_BASE_HI.ADDR q) * 2 ^ 32 + s.fld (RDO.Q_COMP_BASE_LO.ADDR q) * 4096

/-- A completion entry (Table 11-2). FIRST is the first item's, which a HALF entry may find still in hand. -/
def State.compEntry (s : State) (q : Nat) (half : Bool) : List Byte :=
  let x := s.queue q
  let n := s.fld (RDO.Q_COMP_WR.WR q)
  let phase := 1 - n / 2 ^ s.fld (RDO.Q_CTL.SIZE q) % 2
  let status := (if x.poisoned = 0 then 0 else 1) + (if x.torn then 2 else 0) + (if x.flushed then 4 else 0) +
    (if x.paceEnd && x.ended then 8 else 0)
  le 8 (x.cur / 32 * 32 + phase + (if half then 2 else 0) + (if x.curDev then 4 else 0)) ++ le 4 x.bytes ++ le 2 x.items ++
    le 2 x.flags ++ le 8 (match x.items, x.item with
      | 0, some it => it.first
      | _, _ => x.first) ++ le 2 (match x.desc with
      | some d => d.tag
      | none => 0) ++ le 1 status ++ le 1 (min 255 x.poisoned) ++ le 4 n

/-- An item delivered by a completed descriptor leaves IN_READOUT (R276). -/
def State.deliverItem (s : State) (q i : Nat) (keep : Bool) : State :=
  match s.planOf (s.queueSrc q) with
  | none => s
  | some pl =>
    if s.queueKind q = srcPlan then
      let key := 2 ^ 26 * pl.num + i
      let held := keep || Tbl.get false s.acq.holdAfter key
      let s := { s with acq := { s.acq with holdAfter := Tbl.set false s.acq.holdAfter key false } }
      s.moveFolio pl i (if held then folioHeld else folioFree)
    else if s.queueKind q = srcAccum then s.releaseBank pl.num i
    else s

/-- Step 3 of R282: items change state, the books follow. -/
def State.completeItems (s : State) (q : Nat) (d : Desc) : State :=
  let x := s.queue q
  let s := x.taken.foldl (fun (s : State) i => s.deliverItem q i d.keep) s
  let s := s.setQueue q { x with done := true, written := x.written + x.bytes
                                 done_ := min (2 ^ 32 - 1) (x.done_ + x.items)
                                 flushDone := x.flushDone + x.flushItems, flushItems := 0 }
  if x.poisoned = 0 then s else s.bumpF (RDO.Q_ERR.POISONED q) 1

/-- A queue parks; a pending doorbell reads the LINK again at once (R281, R292). -/
def State.park (s : State) (q : Nat) : State :=
  let s := s.setQueueState q queueParked
  if s.bit (RDO.Q_STATE.DB_PEND q) then (s.setF (RDO.Q_STATE.DB_PEND q) 0).reread q else s

/-- A LINK is followed. -/
def State.follow (s : State) (q link : Nat) : State :=
  let x := s.queue q
  let s := s.setQueue q { x with cur := link / 32 * 32, curDev := bitOf link 1 }
  (s.setQueueState q queueRunning).fetchDesc q

/-- After the FULL entry the queue leaves the descriptor: the flush may end, the chain goes on or parks. -/
def State.leaveDesc (s : State) (q : Nat) (d : Desc) : State :=
  let x := s.queue q
  let s := s.setQueue q x.idle
  let s := if x.flushed && x.flush.isSome then s.endFlush q else s
  (if d.last then s.park q else s.follow q d.link).showQueue q

/-- An entry is written, with its message (R283, R282 steps 4 and 5); an unmapped ring address halts the queue (R294). -/
def State.putEntry (s : State) (q : Nat) (d : Desc) (half : Bool) : State :=
  let a := s.ringBase q + 32 * (s.fld (RDO.Q_COMP_WR.WR q) % 2 ^ s.fld (RDO.Q_CTL.SIZE q))
  let dev := s.bit (RDO.Q_COMP_BASE_LO.DEV q)
  if dev && !s.mappedRange a 32 then s.haltQueue q 9
  else
    let b := s.compEntry q half
    let s := if dev then s.dramWrite (reqQueue q) a b else if s.canMaster then s.emit (.hostWrite a b false) else s
    let s := (s.wrapF (RDO.Q_COMP_WR.WR q) 1).setQueue q { s.queue q with entry := none }
    let s := if (if half then d.irqHalf else d.irqFull) then s.message (s.fld (RDO.Q_CFG.VECTOR q)) else s
    if half then s.showQueue q else s.leaveDesc q d

/-- An entry is due: written, or kept while the ring is full (R284). -/
def State.dueEntry (s : State) (q : Nat) (d : Desc) (half : Bool) : State :=
  let x := s.queue q
  if s.ringFull q then (s.setQueue q { x with entry := some half }).showQueue q
  else s.putEntry q d half

/-- The first outstanding request of a queue leaves the list. -/
def State.popWait (s : State) (q : Nat) : State :=
  let x := s.queue q
  s.setQueue q { x with waits := x.waits.tail }

/-- The first outstanding request of queue `q` can be answered now: it has been issued, and over the link when it is the host's. -/
def State.answerable (s : State) (q : Nat) (dev : Bool) : Option HostReq :=
  match (s.queue q).waits with
  | w :: _ => if w.due = false ∧ (dev || (!w.lost && s.canMaster)) = true then some w else none
  | [] => none

/-- Memory has yet to acknowledge a write of queue `q` (R282). -/
def State.unacknowledged (s : State) (q : Nat) : Bool := s.mem.held.any fun h => h.req == reqQueue q && h.data.isSome

/-- The FULL read-back has returned: items and books, then the entry. While a HALF entry waits for ring space everything stays as it is
(R282, R284). -/
def State.fullBack (s : State) (q : Nat) (d : Desc) : State :=
  if (s.queue q).entry.isSome then s.setQueue q { s.queue q with entryNext := true }
  else (s.completeItems q d).repace.dueEntry q d false

/-- READBACK_COMPLETE: the oldest read-back of queue `q` returns, or memory has acknowledged every write (R282). -/
def effReadbackComplete (q : Nat) (s : State) : State :=
  match (s.queue q).desc with
  | none => s
  | some d =>
    match s.answerable q d.dstDev with
    | some w =>
      if s.running = false ∨ w.kind < 2 ∨ (d.dstDev && s.unacknowledged q) = true then s
      else
        let s := s.popWait q
        if w.kind = 2 then s.dueEntry q d true else s.fullBack q d
    | none => s

/-- COMP_RD_WRITE: consumed entries are recorded, and a waiting entry is written once there is space (R284). -/
def effCompRdWrite (q v : Nat) (s : State) : State :=
  if s.served (0xBC00C + 16 * q) && decide (q < 512) then
    let v := v % 2 ^ 32
    if 2 ^ s.fld (RDO.Q_CTL.SIZE q) < (s.fld (RDO.Q_COMP_WR.WR q) + 2 ^ 32 - v) % 2 ^ 32 then
      (s.setF RDO.RESULT.QUEUE q).setF RDO.RESULT.RESULT 5
    else
      let s := (s.setF (RDO.Q_COMP_RD.RD q) v).setF RDO.RESULT.RESULT 0
      match (s.queue q).desc, (s.queue q).entry with
      | some d, some half =>
        if s.ringFull q then s
        else
          let next := (s.queue q).entryNext
          let s := (s.setQueue q { s.queue q with entryNext := false }).putEntry q d half
          if next && (s.queue q).desc.isSome then s.fullBack q d else s
      | _, _ => s
  else s

/-! ### Descriptors (R278, R279, R292, R294) -/

/-- A descriptor is bad (R279); LENGTH 0 lies outside its range (log entry 30). -/
def State.badDesc (s : State) (q : Nat) (d : Desc) : Bool :=
  decide (2 ^ 6 ≤ d.flags) || decide (d.link / 4 % 8 ≠ 0) || d.len == 0 ||
    (d.fixed && (d.dst % 4 != 0 || d.len % 4 != 0)) ||
    (s.queueKind q == srcRange && decide (2 ^ 40 < d.src + d.len)) ||
    (d.dstDev && (decide (2 ^ 40 ≤ d.dst) || !s.mappedRange d.dst d.len))

/-- A descriptor starts. -/
def State.startDesc (s : State) (q : Nat) (d : Desc) : State :=
  let x := { (s.queue q).idle with desc := some d }
  if s.queueKind q = srcRange then
    let it : Item := { pieces := [.mem d.src d.len], len := d.len, first := 0, flags := 0, at_ := 0 }
    s.setQueue q { x with item := some it, taken := [0], takenLen := d.len, requested := x.requested + d.len }
  else s.setQueue q x

/-- DESCRIPTOR_FETCHED: the 32 bytes of the descriptor arrive, from the host as given or from device DRAM as read; it is started, or
halts the queue. -/
def effDescriptorFetched (q : Nat) (data : List Byte) (s : State) : State :=
  let x := s.queue q
  match s.answerable q x.curDev with
  | some w =>
    if s.running = false ∨ w.kind ≠ 0 ∨ (x.curDev && s.rangeWaits (reqQueue q) x.cur 32) = true then s
    else
      let s := s.popWait q
      let r : List Byte × Bool × State := if x.curDev then s.dramRead (reqQueue q) x.cur 32 else (padTo data 32, false, s)
      if r.2.1 then r.2.2.haltQueue q 5
      else
        let d := parseDesc r.1
        if r.2.2.badDesc q d then r.2.2.haltQueue q 6 else (r.2.2.startDesc q d).repace.showQueue q
  | none => s

/-- LINK_REREAD_COMPLETE: the LINK of a parked queue returns (R292). -/
def effLinkRereadComplete (q link : Nat) (s : State) : State :=
  let x := s.queue q
  match s.answerable q x.curDev with
  | some w =>
    if s.running = false ∨ w.kind ≠ 1 ∨ (x.curDev && s.rangeWaits (reqQueue q) (x.cur + 24) 8) = true then s
    else
      let s := s.popWait q
      let r : List Byte × Bool × State := if x.curDev then s.dramRead (reqQueue q) (x.cur + 24) 8 else (le 8 link, false, s)
      if r.2.1 then r.2.2.haltQueue q 5
      else
        let link := ofLe r.1
        if bitOf link 0 then
          (if r.2.2.bit (RDO.Q_STATE.DB_PEND q) then (r.2.2.setF (RDO.Q_STATE.DB_PEND q) 0).reread q else r.2.2).showQueue q
        else (r.2.2.follow q link).showQueue q
  | none => s

/-- The request a queue repeats is issued again once its time has come: the same request, or lost where the link cannot carry it (R294). -/
def State.reissue (s : State) (q : Nat) : State :=
  match (s.queue q).waits with
  | [] => s
  | w :: rest =>
    if w.due && decide (w.again ≤ s.now) then
      let s := s.setQueue q { s.queue q with waits := { w with due := false, lost := !s.canMaster } :: rest }
      if s.canMaster then s.emit (.hostRead w.addr w.len w.be) else s
    else s

/-- The requests that are due again are issued. -/
def State.reissueAll (s : State) : State := (s.rdo.q.map Prod.fst).foldl State.reissue s

/-- The AER or Status register bit that a failed completion sets: Received Target Abort, Completion Timeout, Received Master Abort,
Poisoned TLP Received (R431, Table 19-5). -/
def State.noteCompletion (s : State) (cause : Nat) : State :=
  if cause = 1 then { s with host := { s.host with status := withBit s.host.status 12 } }
  else if cause = 2 then s.aer 14
  else if cause = 3 then { s with host := { s.host with status := withBit s.host.status 13 } }
  else s.aer 12

/-- A completion may be given up now: the completion timeout is enabled and the shortest of its range has passed since the request was
issued (R294, R424). -/
def State.timedOut (s : State) (w : HostReq) : Bool :=
  !w.due && !s.host.cplOff && decide (w.again + completionTimeout s.host.cplCode ≤ s.now)

/-- HOST_REQUEST_FAILED: the oldest request of queue `q` to the host fails with a cause of Q_STATE.CAUSE, 1 to 4; it is issued again
after 1 us, or halts the queue (R294). A request the device could not issue fails with CPL_TIMEOUT. -/
def effHostRequestFailed (q cause : Nat) (s : State) : State :=
  let x := s.queue q
  match x.waits with
  | [] => s
  | w :: rest =>
    let toHost := if w.kind < 2 then !x.curDev else match x.desc with
      | some d => !d.dstDev
      | none => false
    if s.running && toHost && !w.due && decide (1 ≤ cause ∧ cause ≤ 4) && ((s.canMaster && !w.lost) || cause == 2) &&
        (cause != 2 || s.timedOut w) then
      let s := s.noteCompletion cause
      if w.tries < s.fld (RDO.Q_CTL.RETRY_MAX q) then
        let w := { w with tries := w.tries + 1, again := s.now + cyclesPerUs, due := true }
        (s.setQueue q { x with waits := w :: rest }).bumpF (RDO.Q_ERR.RETRIES q) 1
      else s.haltQueue q cause
    else s

/-! ### Commands (R290, R292, R293) -/

/-- RDO.RESULT of a write or command that is accepted. -/
def State.rdoAccept (s : State) : State := s.setF RDO.RESULT.RESULT 0

/-- A refused command. -/
def State.rdoRefuse (s : State) (q code : Nat) : State := (s.setF RDO.RESULT.QUEUE q).setF RDO.RESULT.RESULT code

/-- Addresses of Q_CMD and Q_DOORBELL. -/
def queueCmdAddr (q : Nat) : Nat := 0xB0024 + 64 * q
def queueDoorbellAddr (q : Nat) : Nat := 0xB0028 + 64 * q

/-- The guarantee is requested at the first START after LOAD or after a withdrawal (R288). -/
def State.askGuarantee (s : State) (q : Nat) : State :=
  let x := s.queue q
  if s.fld (RDO.Q_GUAR.GUAR q) ≠ 0 ∧ x.asked = false then
    (s.setQueue q { x with asked := true }).submit { kind := 4, id := q, origin := 0, entry := 0, val := 0 }
  else s

/-- START of an IDLE queue (R293). -/
def State.startQueue (s : State) (q : Nat) : State :=
  let x := (s.queue q).idle
  let head := s.fld (RDO.Q_HEAD_HI.ADDR q) * 2 ^ 32 + s.fld (RDO.Q_HEAD_LO.ADDR q) * 32
  let s := s.setQueue q { x with
    cur := head, curDev := s.bit (RDO.Q_HEAD_LO.DEV q), pacing := false, since := none, flush := none, flushTotal := 0, flushDone := 0
    requested := 0, written := 0, done_ := 0, abandoned := 0, haltBytes := 0, startAt := s.now }
  let s := s.clearFs [RDO.Q_COMP_WR.WR q, RDO.Q_COMP_RD.RD q, RDO.Q_STATE.CAUSE q, RDO.Q_STATE.DB_PEND q]
  (((s.askGuarantee q).setQueueState q queueRunning).fetchDesc q).repace.showQueue q

/-- RESUME of a HALTED queue: its current descriptor again from the beginning (R293). -/
def State.resumeQueue (s : State) (q : Nat) : State :=
  let s := ((s.dropBytes q).setQueueState q queueRunning).setF (RDO.Q_STATE.CAUSE q) 0
  (s.fetchDesc q).showQueue q

/-- A doorbell (R292). -/
def State.ringDoorbell (s : State) (q : Nat) : State :=
  if s.queueState q = queueParked ∧ (s.queue q).waits.isEmpty = true then (s.reread q).showQueue q
  else if s.queueActive q || s.queueState q == queueParked then s.setF (RDO.Q_STATE.DB_PEND q) 1
  else s

/-- QUEUE_START: Q_CMD.START; with the readout partition failed no queue starts (Table 16-4). DEDUCED (log entry 124): out of READY and
ACQUIRE, where no queue executes (R299), and once an entry to DORMANT has begun, it is refused as a command not allowed. -/
def effQueueStart (q : Nat) (s : State) : State :=
  if s.served (queueCmdAddr q) && decide (q < 512) then
    if s.queueState q = queueIdle ∧ s.dev.outOk = true ∧ s.active = true then (s.startQueue q).rdoAccept else s.rdoRefuse q 4
  else s

/-- QUEUE_STOP: Q_CMD.STOP; no burst is in flight between commands, so the queue is IDLE at once (R293). -/
def effQueueStop (q : Nat) (s : State) : State :=
  if s.served (queueCmdAddr q) && decide (q < 512) then
    let s := if s.queueState q = queueIdle then s else s.idleQueue q
    (s.setQueue q { s.queue q with stopAt := s.now + 1 }).rdoAccept
  else s

/-- QUEUE_RESUME: Q_CMD.RESUME, in READY and ACQUIRE (R299; log entry 124). -/
def effQueueResume (q : Nat) (s : State) : State :=
  if s.served (queueCmdAddr q) && decide (q < 512) then
    if s.queueState q = queueHalted ∧ s.active = true then (s.resumeQueue q).rdoAccept else s.rdoRefuse q 4
  else s

/-- A flush takes effect: its items are those available now (R290). -/
def State.startFlush (s : State) (q : Nat) : State :=
  let x := s.queue q
  let av := s.available q
  if av.isEmpty then
    let s := s.setQueue q { x with flush := none, pacing := false, paceEnd := x.paceEnd && x.ended, flushTotal := 0, flushDone := 0 }
    match x.desc with
    | none => s
    | some d =>
      if x.ended || x.taken.isEmpty then s
      else if x.item.isSome then s.setQueue q { s.queue q with endFlush := true }
      else (s.setQueue q { s.queue q with flushed := true }).endDesc q d
  else s.setQueue q { x with flush := some av, paceEnd := x.paceEnd && x.ended, flushTotal := av.length, flushDone := 0, flushItems := 0 }

/-- QUEUE_FLUSH: Q_CMD.FLUSH (R290); in the cycle of a STOP it acts as the STOP (R293). -/
def effQueueFlush (q : Nat) (s : State) : State :=
  if s.served (queueCmdAddr q) && decide (q < 512) then
    if (s.queue q).stopAt = s.now + 1 then s.rdoAccept
    else if !(s.queueActive q || s.queueState q == queueParked) then s.rdoRefuse q 4
    else if s.queueKind q = srcImage ∨ s.queueKind q = srcRange then s.rdoAccept
    else ((s.startFlush q).showQueue q).rdoAccept
  else s

/-- QUEUE_DOORBELL: a write of Q_DOORBELL. -/
def effQueueDoorbell (q : Nat) (s : State) : State :=
  if s.served (queueDoorbellAddr q) && decide (q < 512) then s.ringDoorbell q else s

/-- PACE_TIMEOUT: the level has been non-zero for PACE_TO ticks, and pacing turns on (R289). -/
def effPaceTimeout (q : Nat) (s : State) : State :=
  let s := s.repaceQueue q
  let x := s.queue q
  let to_ := s.fld (RDO.Q_PACE_TO.TICKS q)
  match x.since with
  | some t =>
    if s.running && s.queueActive q && x.desc.isSome && !x.pacing && x.flush.isNone && decide (to_ ≠ 0) &&
        decide (t + cyclesPerTick * to_ ≤ s.now) then
      (s.setQueue q { x with pacing := true }).showQueue q
    else s
  | none => s

/-- ACTION_RDO_START: a START, a RESUME after MODE, or a doorbell; without effect otherwise, which is refusal code 4 (R48, R293). -/
def effActionRdoStart (n : Nat) (s : State) : State :=
  s.runAction n 9 (fun _ => true) fun o s =>
    let q := o.arg % 512
    let st := s.queueState q
    if st = queueIdle then if s.dev.outOk then (none, s.startQueue q) else (some 4, s)
    else if st = queueHalted then if s.fld (RDO.Q_STATE.CAUSE q) = 8 then (none, s.resumeQueue q) else (some 4, s)
    else (none, s.ringDoorbell q)

/-! ### Bindings (R25, R289, R301) -/

/-- A binding write of queue `q` at a BAR0 offset: refused unless the queue is IDLE, unlocked and the value in range. -/
def State.bind_ (s : State) (q off : Nat) (ok : Bool) (act : State → State) : State :=
  if s.served off && decide (q < 512) then
    let refuse : Nat → State := fun r => (s.rdoRefuse q r).raise 200 r 0 q 0
    if s.queueState q ≠ queueIdle then refuse 1
    else if s.bit (RDO.Q_GUAR.LOCKED q) then refuse 2
    else if ok = false then refuse 3
    else ((act s).showQueue q).rdoAccept
  else s

/-- Q_CFG_WRITE. -/
def effQCfgWrite (q v : Nat) (s : State) : State :=
  s.bind_ q (0xB0000 + 64 * q) true fun s =>
    let s := (s.setF (RDO.Q_CFG.SRC_KIND q) v).setF (RDO.Q_CFG.SRC_ID q) (v / 4)
    (s.setF (RDO.Q_CFG.PRIO q) (v / 2 ^ 8)).setF (RDO.Q_CFG.VECTOR q) (v / 2 ^ 16)

/-- Q_PACE_WRITE: 1 ≤ HI_MARK and LO_MARK < HI_MARK (R289). -/
def effQPaceWrite (q v : Nat) (s : State) : State :=
  s.bind_ q (0xB0004 + 64 * q) (decide (v / 2 ^ 16 % 2 ^ 16 < v % 2 ^ 16)) fun s =>
    (s.setF (RDO.Q_PACE.HI_MARK q) v).setF (RDO.Q_PACE.LO_MARK q) (v / 2 ^ 16)

/-- Q_PACE_TO_WRITE. -/
def effQPaceToWrite (q v : Nat) (s : State) : State :=
  s.bind_ q (0xB0008 + 64 * q) true fun s => s.setF (RDO.Q_PACE_TO.TICKS q) v

/-- Q_CTL_WRITE: FIXED_WIN 6 to 12, SIZE 4 to 16. -/
def effQCtlWrite (q v : Nat) (s : State) : State :=
  let win := v / 2 ^ 4 % 2 ^ 4
  let size := v / 2 ^ 8 % 2 ^ 5
  s.bind_ q (0xB000C + 64 * q) (decide (6 ≤ win ∧ win ≤ 12 ∧ 4 ≤ size ∧ size ≤ 16)) fun s =>
    let s := (s.setF (RDO.Q_CTL.RETRY_MAX q) v).setF (RDO.Q_CTL.FIXED_WIN q) win
    (s.setF (RDO.Q_CTL.SIZE q) size).setF (RDO.Q_CTL.EP q) (v / 2 ^ 13)

/-- Q_HEAD_WRITE of the low (false) or the high register. -/
def effQHeadWrite (q : Nat) (hi : Bool) (v : Nat) (s : State) : State :=
  s.bind_ q (0xB0010 + 64 * q + (if hi then 4 else 0)) true fun s =>
    if hi then s.setF (RDO.Q_HEAD_HI.ADDR q) v else (s.setF (RDO.Q_HEAD_LO.DEV q) v).setF (RDO.Q_HEAD_LO.ADDR q) (v / 32)

/-- Q_COMP_BASE_WRITE of the low (false) or the high register. -/
def effQCompBaseWrite (q : Nat) (hi : Bool) (v : Nat) (s : State) : State :=
  s.bind_ q (0xB0018 + 64 * q + (if hi then 4 else 0)) true fun s =>
    if hi then s.setF (RDO.Q_COMP_BASE_HI.ADDR q) v
    else (s.setF (RDO.Q_COMP_BASE_LO.DEV q) v).setF (RDO.Q_COMP_BASE_LO.ADDR q) (v / 4096)

/-! ### Books, modes (R298, R299) -/

/-- The books of a queue as eight dwords. -/
def Queue.books (x : Queue) : List Nat :=
  let pend := x.requested - x.written
  [x.requested, x.requested / 2 ^ 32, x.written, x.written / 2 ^ 32, pend, pend / 2 ^ 32, x.done_, x.abandoned]

/-- RDO_SNAP: the books of all queues in one cycle (R298). -/
def effRdoSnap (s : State) : State :=
  if s.served 0xA0000 then
    let s := (List.range 512).foldl (fun (s : State) q =>
      let b := (s.queue q).books
      (List.range 8).foldl (fun (s : State) i => s.setF (RDO.Q_BOOK.COUNT q i) (b.getD i 0)) s) s
    (s.setF RDO.SNAP_TICK_LO.TICK s.tick.toNat).setF RDO.SNAP_TICK_HI.TICK (s.tick.toNat / 2 ^ 32)
  else s

/-- The counters that RDO.CMD.CLR_COUNTS clears (R301). -/
def rdoCounters : List Fld :=
  (List.range 512).flatMap fun q => [RDO.Q_ERR.RETRIES q, RDO.Q_ERR.HALTS q, RDO.Q_ERR.POISONED q]

/-- RDO_CLR_COUNTS. -/
def effRdoClrCounts (s : State) : State :=
  if s.served 0xA0000 then s.clearCounts rdoCounters else s

/-- The device leaves READY and ACQUIRE: every running, waiting or parked queue halts with cause MODE (R299). -/
def State.haltQueues (s : State) : State :=
  (s.rdo.q.map Prod.fst).foldl (fun (s : State) q =>
    if s.queueActive q || s.queueState q == queueParked then s.haltQueue q 8 else s) s

/-- A function-level reset sets every queue IDLE (R299). -/
def State.idleQueues (s : State) : State :=
  (s.rdo.q.map Prod.fst).foldl (fun (s : State) q => if s.queueState q = queueIdle then s else s.idleQueue q) s

/-! ### Sealing and completion as the readout levels see them (R289) -/

/-- RECORD_SEAL, with the levels of the queues looked at before and after. -/
def sealAndPace (k ch : Nat) (s : State) : State := (effRecordSeal k ch s.repace).repace

/-- BANK_COMPLETE, with the levels of the queues looked at before and after. -/
def completeAndPace (k : Nat) (s : State) : State := (effBankComplete k s.repace).repace

/-- COMMIT, DISCARD and an overflow end in the same way: the levels of the queues follow. -/
def execCommit (k : Nat) (s : State) : Res := .next (effCommit k s).repace
def execAccDiscard (k b : Nat) (s : State) : Res := .next (effAccDiscard k b s).repace
def execElasticOvf (lane n : Nat) (s : State) : Res := .next (effElasticOvf lane n s).repace

def execRecordSeal (k ch : Nat) (s : State) : Res := .next (sealAndPace k ch s)
def execBankComplete (k : Nat) (s : State) : Res := .next (completeAndPace k s)
def execPcieLinkRetrain (width speed : Nat) (s : State) : Res := .next (effPcieLinkRetrain width speed s)
def execReadoutBurst (s : State) : Res := .next (effReadoutBurst s)
def execReadbackComplete (q : Nat) (s : State) : Res := .next (effReadbackComplete q s)
def execCompRdWrite (q v : Nat) (s : State) : Res := .next (effCompRdWrite q v s)
def execDescriptorFetched (q : Nat) (data : List Byte) (s : State) : Res := .next (effDescriptorFetched q data s)
def execLinkRereadComplete (q link : Nat) (s : State) : Res := .next (effLinkRereadComplete q link s)
def execHostRequestFailed (q cause : Nat) (s : State) : Res := .next (effHostRequestFailed q cause s)
def execQueueStart (q : Nat) (s : State) : Res := .next (effQueueStart q s)
def execQueueStop (q : Nat) (s : State) : Res := .next (effQueueStop q s)
def execQueueResume (q : Nat) (s : State) : Res := .next (effQueueResume q s)
def execQueueFlush (q : Nat) (s : State) : Res := .next (effQueueFlush q s)
def execQueueDoorbell (q : Nat) (s : State) : Res := .next (effQueueDoorbell q s)
def execPaceTimeout (q : Nat) (s : State) : Res := .next (effPaceTimeout q s)
def execActionRdoStart (n : Nat) (s : State) : Res := .next (effActionRdoStart n s)
def execQCfgWrite (q v : Nat) (s : State) : Res := .next (effQCfgWrite q v s)
def execQPaceWrite (q v : Nat) (s : State) : Res := .next (effQPaceWrite q v s)
def execQPaceToWrite (q v : Nat) (s : State) : Res := .next (effQPaceToWrite q v s)
def execQCtlWrite (q v : Nat) (s : State) : Res := .next (effQCtlWrite q v s)
def execQHeadWrite (q : Nat) (hi : Bool) (v : Nat) (s : State) : Res := .next (effQHeadWrite q hi v s)
def execQCompBaseWrite (q : Nat) (hi : Bool) (v : Nat) (s : State) : Res := .next (effQCompBaseWrite q hi v s)
def execRdoSnap (s : State) : Res := .next (effRdoSnap s)
def execRdoClrCounts (s : State) : Res := .next (effRdoClrCounts s)

end Sys2Proof.Machine
end

