-- ==== Sys2Proof/Machine/Display.lean ====
section
/-!
DEFINITION. Display scan-out: planes and conversion, frames, Panel Self Refresh, link training, underrun (R302 to R316).
-/

namespace Sys2Proof.Machine

/-! ### States and timing (R303, R309) -/

/-- STATE codes of DSP.STATUS. -/
def dspOff : Nat := 0
def dspTraining : Nat := 1
def dspActive : Nat := 2
def dspPsrEntry : Nat := 3
def dspPsr : Nat := 4
def dspPsrExit : Nat := 5
def dspRefused : Nat := 6
def dspLinkFail : Nat := 7

/-- STATE of the display. -/
def State.dspState (s : State) : Nat := s.fld DSP.STATUS.STATE

/-- STATE set. -/
def State.setDspState (s : State) (v : Nat) : State := s.setF DSP.STATUS.STATE v

/-- Pixel periods of a line and lines of a frame. -/
def State.hTotal (s : State) : Nat :=
  s.fld DSP.H_ACT_FP.ACTIVE + s.fld DSP.H_ACT_FP.FP + s.fld DSP.H_SYNC_BP.SYNC + s.fld DSP.H_SYNC_BP.BP
def State.vTotal (s : State) : Nat :=
  s.fld DSP.V_ACT_FP.ACTIVE + s.fld DSP.V_ACT_FP.FP + s.fld DSP.V_SYNC_BP.SYNC + s.fld DSP.V_SYNC_BP.BP

/-- Bytes the display fetches for a frame (R309). -/
def State.fetchBytes (s : State) : Nat :=
  let area := s.fld DSP.H_ACT_FP.ACTIVE * s.fld DSP.V_ACT_FP.ACTIVE
  (if s.bit DSP.CFG.SURF_EN then area * s.elemBytes + area * s.elemBytes / (1 + s.vsub) else 0) +
    (if s.bit DSP.CFG.OVL_EN then area else 0)

/-- The display's reservation in MB/s: 1.25 times its fetch rate (R309, Table 10-4). -/
def State.displayResv (s : State) : Resv :=
  let n := s.fetchBytes * s.fld DSP.PCLK.KHZ * 5
  if n = 0 then [] else [(n, 4 * 1000 * (s.hTotal * s.vTotal))]

/-- The composer's reservation in MB/s: twice its bytes per frame times its frame rate (R210). -/
def State.composerResv (s : State) : Resv :=
  if s.bit ACC.COMP_CFG.SYNC then
    let n := 2 * s.frameBytes * s.fld DSP.PCLK.KHZ
    if n = 0 then [] else [(n, 1000 * (s.hTotal * s.vTotal))]
  else [(200 * s.frameBytes, s.fld ACC.COMP_PERIOD.TICKS)]

/-- Lanes of a LANES code. -/
def laneCount (c : Nat) : Nat := if c = 0 then 1 else if c = 1 then 2 else 4

/-- Rate of a RATE code in units of 10 Mb/s per lane. -/
def linkRate (c : Nat) : Nat := [162, 216, 243, 270, 324, 432, 540, 810].getD c 0

/-- Bits per component of a BPC code. -/
def bitsPerComp (c : Nat) : Nat := if c = 0 then 6 else if c = 1 then 8 else 10

/-- Pixel clock × 3 × bits per component does not exceed 0.97 × lanes × rate × 8/10 (R303). -/
def linkCarries (khz bpc lanes rate : Nat) : Bool :=
  decide (khz * 3 * bitsPerComp bpc * 1000 ≤ 97 * laneCount lanes * linkRate rate * 80 * 1000)

/-! ### Pixels (R305 to R308) -/

/-- The byte shown for a device address: of poisoned data a free value (R249, R265; log entry 103). -/
def State.shownByte (s : State) (a : Nat) : Byte := if s.rangePoisoned a 1 then Config.poisonShown a else s.peek a

/-- A byte or word element read as a 10-bit value (R305). -/
def State.elemAt (s : State) (a : Nat) : Nat :=
  if s.bit ACC.COMP_CFG.L10 then ofLe [s.shownByte a, s.shownByte (a + 1)] % 1024 else (s.shownByte a).toNat * 4

/-- Y, Cb and Cr of surface pixel (x, y) of the latched surface (R305, R208). -/
def State.surfacePixel (s : State) (x y : Nat) : Int × Int × Int :=
  if s.bit DSP.CFG.SURF_EN then
    let e := s.elemBytes
    let surf := s.fld DSP.STATUS.SURF
    let c := s.surfBase surf 1 + y / 2 ^ s.vsub * s.fld ACC.COMP_PITCH.CPITCH + x / 2 * (2 * e)
    (s.elemAt (s.surfBase surf 0 + y * s.fld ACC.COMP_PITCH.LPITCH + x * e), s.elemAt c, s.elemAt (c + e))
  else (0, 512, 512)

/-- Clamp to 0 to 1023. -/
def clamp10 (v : Int) : Nat := (satI v 0 1023).toNat

/-- The full-range BT.709 matrix in fixed point (R306). -/
def toRgb (y cb cr : Int) : Nat × Nat × Nat :=
  let cb := cb - 512
  let cr := cr - 512
  (clamp10 (y + (6450 * cr + 2048) / 4096), clamp10 (y - (767 * cb + 1917 * cr + 2048) / 4096),
    clamp10 (y + (7601 * cb + 2048) / 4096))

/-- An overlay component over a surface component with alpha `a` (R307). -/
def blend (a o v : Nat) : Nat := (a * (o * 4 + o / 64) + (255 - a) * v + 127) / 255

/-- A component reduced to the link depth (R308). -/
def toDepth (bpc v : Nat) : Nat := if bpc = 0 then min 63 ((v + 8) / 16) else if bpc = 1 then min 255 ((v + 2) / 4) else v

/-- The pixel sent for (x, y) (R305 to R308). -/
def State.sentPixel (s : State) (x y : Nat) : Nat × Nat × Nat :=
  let (py, pcb, pcr) := s.surfacePixel x y
  let (r, g, b) := toRgb py pcb pcr
  let bpc := s.fld DSP.CFG.BPC
  if s.bit DSP.CFG.OVL_EN then
    let i := (s.shownByte (4096 * s.fld (DSP.OVL_BASE.BASE (s.fld DSP.STATUS.OVL)) + y * s.fld DSP.OVL_PITCH.PITCH + x)).toNat
    let p := Tbl.get 0 s.dsp.pal i
    let a := p / 2 ^ 24
    (toDepth bpc (blend a (p / 2 ^ 16 % 256) r), toDepth bpc (blend a (p / 2 ^ 8 % 256) g), toDepth bpc (blend a (p % 256) b))
  else (toDepth bpc r, toDepth bpc g, toDepth bpc b)

/-- One line as sent: from the first pixel missing on, the last pixel sent is repeated (R310). `before` is the last pixel of the
line above. -/
def State.sentLine (s : State) (before : Nat × Nat × Nat) (y : Nat) : List (Nat × Nat × Nat) :=
  let w := s.fld DSP.H_ACT_FP.ACTIVE
  let n := match s.dsp.under.find? fun u => u.1 == y with
    | some u => min u.2 w
    | none => w
  let l := (List.range n).map fun x => s.sentPixel x y
  l ++ List.replicate (w - n) (l.getLast?.getD before)

/-- The frame under way as sent, in scan order; a first pixel that is missing repeats the last pixel of the frame before (R310). -/
def State.sentFrame (s : State) : List (Nat × Nat × Nat) :=
  ((List.range (s.fld DSP.V_ACT_FP.ACTIVE)).foldl (fun (acc : List (Nat × Nat × Nat) × (Nat × Nat × Nat)) y =>
    let l := s.sentLine acc.2 y
    (acc.1 ++ l, l.getLast?.getD acc.2)) ([], s.dsp.last.getD Config.noPixel)).1

/-! ### Frame start (R304, R311 to R314) -/

/-- The device ranges of a frame's fetches: luma, chroma and overlay of what is latched, each when its plane is enabled (R309). -/
def State.fetchRanges (s : State) : List (Nat × Nat) :=
  let surf := s.fld DSP.STATUS.SURF
  let h := s.fld DSP.V_ACT_FP.ACTIVE
  (if s.bit DSP.CFG.SURF_EN then [(s.surfBase surf 0, s.fld ACC.COMP_PITCH.LPITCH * h),
    (s.surfBase surf 1, s.fld ACC.COMP_PITCH.CPITCH * ((h + s.vsub) / (1 + s.vsub)))] else []) ++
    (if s.bit DSP.CFG.OVL_EN then
      [(4096 * s.fld (DSP.OVL_BASE.BASE (s.fld DSP.STATUS.OVL)), s.fld DSP.OVL_PITCH.PITCH * h)] else [])

/-- The display's fetch stops: its requests that wait are dropped, and its buffer is empty (R310, R312, R315). -/
def State.stopFetch (s : State) : State :=
  { s with mem := { s.mem with held := s.mem.held.filter fun h => h.req != reqDisplay } }.setF DSP.FETCH.LEVEL 0

/-- The fetches of a frame that is to be sent, one read of each plane, with the unmapped-access notice where a granule of it is not mapped
(R249); those that memory does not serve wait among its requests (R253, R263, R268). DESIGN CHOICE (log entry 103): they are asked for at
the frame start, and those of an earlier frame still waiting then are dropped; the fetch buffer covers a wait on memory, or an UNDERRUN
command says that it does not. -/
def State.fetchFrame (s : State) : State :=
  let s := s.stopFetch
  if s.dsp.sent = 0 then s else s.fetchRanges.foldl (fun (s : State) r => s.unitRead reqDisplay r.1 r.2) s

/-- The frame under way ends: what was sent of it leaves the device. -/
def State.emitFrame (s : State) : State :=
  if s.dsp.sent = 0 then { s with dsp := { s.dsp with under := [] } }
  else
    let px := s.sentFrame
    { s with dsp := { s.dsp with sent := 0, under := [], last := px.getLast? } }.emit (.panelFrame (s.dsp.sent - 1) px)

/-- The fill of the fetch buffer shows: below the panic level while panic is raised, at it or above while it is not, empty while nothing is
fetched. DESIGN CHOICE (log entry 113): within that it is a free value. -/
def State.showFetch (s : State) : State :=
  let p := s.fld DSP.FETCH.PANIC
  let f := Config.fetchFill s.now
  if s.fetching && s.running && s.dsp.sent != 0 then
    s.setF DSP.FETCH.LEVEL (if s.bit MEM.STATUS.PANIC then f % p else min 128 (p + f % (129 - p)))
  else s

/-- The committed palette is the shadow copy (R307). -/
def State.commitPalette (s : State) : State :=
  let word : Nat → Nat := fun i => s.fld (DSP.PALETTE.B i) + 2 ^ 8 * s.fld (DSP.PALETTE.G i) + 2 ^ 16 * s.fld (DSP.PALETTE.R i) +
    2 ^ 24 * s.fld (DSP.PALETTE.A i)
  let pal := (List.range 256).foldl (fun (t : Tbl Nat) i => Tbl.set 0 t i (word i)) []
  { s with dsp := { s.dsp with pal := pal } }.setF DSP.CMD.PAL_COMMIT 0

/-- Surface, overlay buffer and palette are latched; the answer says whether the frame before was changed (R304, R311). -/
def State.latchFrame (s : State) : Bool × State :=
  let surf := s.fld ACC.COMP_STATUS.LAST
  let ovl := s.fld DSP.OVL_SEL.SEL
  let before := s.dsp.pal
  let s := if s.bit DSP.CMD.PAL_COMMIT then s.commitPalette else s
  let changed := s.dsp.dirty || s.fld DSP.STATUS.SURF != surf || s.fld DSP.STATUS.OVL != ovl || decide (s.dsp.pal ≠ before)
  let s := (s.setF DSP.STATUS.SURF surf).setF DSP.STATUS.OVL ovl
  let s := { s with dsp := { s.dsp with dirty := false, latched := true } }
  (changed, if changed then s.setF DSP.UNCHANGED.COUNT 0 else s.bumpF DSP.UNCHANGED.COUNT 1)

/-- What the frame that starts is sent as. -/
def State.sendAs (s : State) (v : Nat) : State := { s with dsp := { s.dsp with sent := v } }

/-- Pending requests for entry and exit are settled. -/
def State.clearPsr (s : State) (exit_ : Bool) : State :=
  let s := { s with dsp := { s.dsp with enterReq := false, exitReq := if exit_ then false else s.dsp.exitReq } }
  let s := s.setF DSP.CMD.PSR_ENTER 0
  if exit_ then s.setF DSP.CMD.PSR_EXIT 0 else s

/-- A pending entry request at a frame start out of the display's use: a change discards it (Table 12-3). -/
def State.waitPsr (s : State) (changed : Bool) : State :=
  if changed && s.dsp.enterReq then { s with dsp := { s.dsp with enterReq := false } }.setF DSP.CMD.PSR_ENTER 0 else s

/-- Panel Self Refresh at a frame start (Table 12-2, Table 12-3). During DORMANT entry the display runs PSR entry whatever changes
(R316). DEDUCED (log entry 123): an entry request pending at the end of PSR exit waits for the next frame start. -/
def State.stepPsr (s : State) (changed : Bool) : State :=
  let st := s.dspState
  let entering := s.dev.entering
  let leave := (changed || s.dsp.exitReq) && !entering
  if st = dspActive then
    let n := s.fld DSP.CFG.PSR_FRAMES
    let want := s.bit DSP.STATUS.PSR_CAP &&
      (entering || (!leave && (s.dsp.enterReq || (n != 0 && decide (n ≤ s.fld DSP.UNCHANGED.COUNT)))))
    let s := s.clearPsr true
    if want then (s.setDspState dspPsrEntry).sendAs 2 else s.sendAs 1
  else if st = dspPsrEntry then
    let s := (s.clearPsr false).bumpF DSP.COUNTS.PSR_ENTRIES 1
    let s := ((s.setF MEM.STATUS.PANIC 0).setF DSP.STATUS.PANIC 0)
    if leave then s.setDspState dspPsrExit else s.setDspState dspPsr
  else if st = dspPsr then if leave then s.setDspState dspPsrExit else s
  else if st = dspPsrExit then
    let s := { s.waitPsr changed with dsp := { (s.waitPsr changed).dsp with exitReq := false } }.setF DSP.CMD.PSR_EXIT 0
    ((s.bumpF DSP.COUNTS.PSR_EXITS 1).setDspState dspActive).sendAs 3
  else s.waitPsr changed

/-- FRAME_START: a display frame starts (R304). -/
def effFrameStart (s : State) : State :=
  if s.bit DSP.CFG.ENABLE && s.running then
    let panic := s.bit MEM.STATUS.PANIC
    let (changed, s) := s.emitFrame.latchFrame
    let s := s.wrapF DSP.FRAME.COUNT 1
    let s := (s.stepPsr changed).fetchFrame
    let s := { s with acc := { s.acc with syncDue := s.bit ACC.COMP_CFG.SYNC && s.composing } }.afterPanic panic
    match s.acc.heldFrame, s.acc.frame with
    | some h, some f => s.composeStep4 h f.surface
    | _, _ => s
  else s

/-- UNDERRUN: pixel `x` of active line `y` of the frame under way is due without data (R310); its buffer is empty, below the panic level
(R309). -/
def effUnderrun (x y : Nat) (s : State) : State :=
  if s.fetching && s.running && s.dsp.sent != 0 && decide (x < s.fld DSP.H_ACT_FP.ACTIVE) && decide (y < s.fld DSP.V_ACT_FP.ACTIVE) &&
      !(s.dsp.under.any fun u => u.1 == y) then
    let first := s.dsp.under.isEmpty
    let s := { s with dsp := { s.dsp with under := s.dsp.under ++ [(y, x)] } }.bumpF DSP.COUNTS.UNDERRUN 1
    let s := s.panicUp.setF DSP.FETCH.LEVEL 0
    if first then s.raise 216 0 0 0 (s.fld DSP.FRAME.COUNT) else s
  else s

/-! ### Panel Self Refresh requests (R311, R312) -/

/-- An entry request that is pending is discarded. -/
def State.dropPsrEntry (s : State) : State := { s with dsp := { s.dsp with enterReq := false } }.setF DSP.CMD.PSR_ENTER 0

/-- Exit is requested: by command, or by what else asks for it. An entry request of the same cycle is discarded; while the display is in
neither PSR_ENTRY nor PSR there is no other effect, but that the command's bit reads 1 to the end of an exit under way (R313, Table 12-3). -/
def State.requestExit (s : State) (cmd : Bool) : State :=
  let s := { s with dsp := { s.dsp with exitAt := s.now + 1 } }
  if s.dspState = dspPsrEntry ∨ s.dspState = dspPsr then
    let s := { s.dropPsrEntry with dsp := { s.dropPsrEntry.dsp with exitReq := true } }
    if cmd then s.setF DSP.CMD.PSR_EXIT 1 else s
  else
    let s := if s.dsp.enterAt = s.now + 1 then s.dropPsrEntry else s
    if cmd && s.dspState == dspPsrExit then s.setF DSP.CMD.PSR_EXIT 1 else s

/-- Entry is requested; without effect while in PSR, and in the cycle of an exit request (Table 12-3). In every other state it is pending
until a frame start takes or discards it (R312). -/
def State.requestEntry (s : State) (cmd : Bool) : State :=
  if s.dspState ≠ dspPsr ∧ s.dsp.exitAt ≠ s.now + 1 then
    let s := { s with dsp := { s.dsp with enterReq := true, enterAt := s.now + 1 } }
    if cmd then s.setF DSP.CMD.PSR_ENTER 1 else s
  else s

/-- DSP.CMD. -/
def dspCmdAddr : Nat := 0xC0004

/-- DSP_PSR_ENTER: refused with a display-parameter notice when the panel has no PSR (R312). -/
def effDspPsrEnter (s : State) : State :=
  if s.served dspCmdAddr then
    if s.bit DSP.STATUS.PSR_CAP then s.requestEntry true else s.raise 218 0 0 0 0
  else s

/-- DSP_PSR_EXIT. -/
def effDspPsrExit (s : State) : State := if s.served dspCmdAddr then s.requestExit true else s

/-- The outcome of a refused PSR_ENTER: REFUSED with CODE 0, the schedule-refused notice with K 2 (R48, R312; log entry 32). -/
def State.endPsrRefused (s : State) (o : Occ) : State :=
  let s := (s.dropOcc o).setF (TIME.SCHED_STATUS.LATE_BY o.entry) (min o.lateBy 65535)
  ((s.outcome o.entry 6 0).schedRefused o.entry 2 0).raise 218 0 0 0 0

/-- ACTION_PSR_ENTER: the scheduled PSR_ENTER. -/
def effActionPsrEnter (n : Nat) (s : State) : State :=
  match s.findOcc n 7 with
  | none => s
  | some o =>
    if s.active && s.inWindow o && s.firstInLine o then
      if s.bit DSP.STATUS.PSR_CAP then (s.requestEntry false).endOcc o none else s.endPsrRefused o
    else s

/-- ACTION_PSR_EXIT: the scheduled PSR_EXIT. -/
def effActionPsrExit (n : Nat) (s : State) : State :=
  s.runAction n 8 (fun _ => true) fun _ s => (none, s.requestExit false)

/-- IRQ_HPD: a pulse is read; one that reports a PSR error requests exit (R312). -/
def effIrqHpd (psrError : Bool) (s : State) : State :=
  if s.bit DSP.CFG.ENABLE && s.running && s.dsp.hpd then
    let s := s.bumpF DSP.LINK_ERR.HPD_IRQ 1
    if psrError then ((s.bumpF DSP.LINK_ERR.PSR_ERRORS 1).requestExit false).raise 217 0 0 0 0 else s
  else s

/-- What is written during PSR requests exit (Table 12-3); a change of the picture in another state is found at the frame start (R311). -/
def State.exitFromPsr (s : State) : State := if s.dspState = dspPsr then s.requestExit false else s

/-- PAL_COMMIT: the shadow palette is copied at the next frame start; during PSR exit follows (R307, Table 12-3). -/
def effPalCommit (s : State) : State :=
  if s.served dspCmdAddr then (s.setF DSP.CMD.PAL_COMMIT 1).exitFromPsr else s

/-- OVL_SEL_WRITE: the buffer for the next frame start; during PSR exit follows (Table 12-3). -/
def effOvlSelWrite (v : Nat) (s : State) : State :=
  if s.served 0xC0030 then (s.setF DSP.OVL_SEL.SEL v).exitFromPsr else s

/-- The counters that DSP.CMD.CLR_COUNTS clears. -/
def dspCounters : List Fld :=
  [DSP.COUNTS.UNDERRUN, DSP.COUNTS.PSR_ENTRIES, DSP.COUNTS.PSR_EXITS, DSP.LINK_ERR.TRAIN_FAILS, DSP.LINK_ERR.HPD_IRQ,
    DSP.LINK_ERR.LOSSES, DSP.LINK_ERR.PSR_ERRORS]

/-- DSP_CLR_COUNTS: a clear takes precedence over an increment of the same cycle. -/
def effDspClrCounts (s : State) : State := if s.served dspCmdAddr then s.clearCounts dspCounters else s

/-! ### Link (R315) -/

/-- The link starts training at the image's rate; fetch stops, and an exit from Panel Self Refresh is over with it. -/
def State.trainDisplay (s : State) : State :=
  let s := { s.stopFetch with dsp := { s.dsp with tries := 0, rate := s.fld DSP.CFG.RATE, sent := 0, under := [], exitReq := false } }
  let s := s.clearFs [DSP.CMD.PSR_EXIT, MEM.STATUS.PANIC, DSP.STATUS.PANIC]
  s.setDspState dspTraining

/-- The display can train: enabled, its reservation held, the panel there. DEDUCED (log entry 123): once an entry to DORMANT has begun, for
which the display rests or is off, no link trains (R316). -/
def State.displayUsable (s : State) : Bool :=
  s.bit DSP.CFG.ENABLE && s.dsp.admitted && s.dsp.hpd && s.running && !s.dev.entering

/-- The link is lost: fetch stops, with the link-loss fault; STATE reads LINK_FAIL (R315; log entry 33). -/
def State.loseLink (s : State) : State :=
  let panic := s.bit MEM.STATUS.PANIC
  let s := ((s.trainDisplay.setDspState dspLinkFail).setF DSP.CMD.RETRAIN 0).bumpF DSP.LINK_ERR.LOSSES 1
  (s.raise 220 0 0 0 0).afterPanic panic

/-- DSP_RETRAIN: the link trains again at once; nothing to train is done at once. -/
def effDspRetrain (s : State) : State :=
  if s.served dspCmdAddr && s.displayUsable then (s.trainDisplay.setF DSP.CMD.RETRAIN 1).afterPanic (s.bit MEM.STATUS.PANIC)
  else s

/-- The next lower rate that carries the picture (R303, R315). -/
def State.lowerRate (s : State) : Option Nat :=
  let r := s.dsp.rate
  if r = 0 then none
  else if linkCarries (s.fld DSP.PCLK.KHZ) (s.fld DSP.CFG.BPC) (s.fld DSP.CFG.LANES) (r - 1) then some (r - 1) else none

/-- LINK_TRAINING_DONE: an attempt ends; after three failures at the image's rate each lower rate is tried once (R315; log entry
33). `psr` is what the panel's DPCD says of PSR. -/
def effLinkTrainingDone (ok psr : Bool) (s : State) : State :=
  if s.dspState = dspTraining ∧ s.displayUsable = true then
    let s := s.setB DSP.STATUS.PSR_CAP psr
    if ok then
      let s := (s.setF DSP.STATUS.LANES_TRAINED (s.fld DSP.CFG.LANES)).setF DSP.STATUS.RATE_TRAINED s.dsp.rate
      (s.setDspState dspActive).setF DSP.CMD.RETRAIN 0
    else
      let s := s.bumpF DSP.LINK_ERR.TRAIN_FAILS 1
      let n := s.dsp.tries + 1
      let s := { s with dsp := { s.dsp with tries := n } }
      if s.dsp.rate = s.fld DSP.CFG.RATE ∧ n < 3 then s
      else match s.lowerRate with
        | some r => { s with dsp := { s.dsp with rate := r } }
        | none => ((s.setDspState dspLinkFail).setF DSP.CMD.RETRAIN 0).raise 219 0 0 0 0
  else s

/-- HPD_LOSS: EDP_HPD low for more than 2 ms; a display in use loses its link (R315). A display kept in Panel Self Refresh through DORMANT
then trains its link on return to READY, or loses it there (R316; log entry 123). -/
def effHpdLoss (s : State) : State :=
  if s.dsp.hpd then
    let s := { s with dsp := { s.dsp with hpd := false } }
    if s.bit DSP.CFG.ENABLE && s.dsp.admitted && s.running then s.loseLink
    else if s.dspState = dspPsr then s.setDspState dspLinkFail else s
  else s

/-- HPD_RETURN: EDP_HPD is high again and training restarts. -/
def effHpdReturn (s : State) : State :=
  if !s.dsp.hpd then
    let s := { s with dsp := { s.dsp with hpd := true } }
    if s.displayUsable then s.trainDisplay.afterPanic (s.bit MEM.STATUS.PANIC) else s
  else s

/-- The display is off, its lanes powered down (R316). -/
def State.displayOff (s : State) : State :=
  let panic := s.bit MEM.STATUS.PANIC
  let s := { s.stopFetch with dsp := { s.dsp with admitted := false, enterReq := false, exitReq := false, sent := 0, under := [] } }
  let s := s.clearFs [DSP.CMD.PSR_ENTER, DSP.CMD.PSR_EXIT, DSP.CMD.RETRAIN, MEM.STATUS.PANIC, DSP.STATUS.PANIC]
  ((s.setDspState dspOff).setResv (Tbl.erase s.mem.resv 32)).afterPanic panic

def execFrameStart (s : State) : Res := .next (effFrameStart s)
def execUnderrun (x y : Nat) (s : State) : Res := .next (effUnderrun x y s)
def execDspPsrEnter (s : State) : Res := .next (effDspPsrEnter s)
def execDspPsrExit (s : State) : Res := .next (effDspPsrExit s)
def execActionPsrEnter (n : Nat) (s : State) : Res := .next (effActionPsrEnter n s)
def execActionPsrExit (n : Nat) (s : State) : Res := .next (effActionPsrExit n s)
def execIrqHpd (psrError : Bool) (s : State) : Res := .next (effIrqHpd psrError s)
def execPalCommit (s : State) : Res := .next (effPalCommit s)
def execOvlSelWrite (v : Nat) (s : State) : Res := .next (effOvlSelWrite v s)
def execDspClrCounts (s : State) : Res := .next (effDspClrCounts s)
def execDspRetrain (s : State) : Res := .next (effDspRetrain s)
def execLinkTrainingDone (ok psr : Bool) (s : State) : Res := .next (effLinkTrainingDone ok psr s)
def execHpdLoss (s : State) : Res := .next (effHpdLoss s)
def execHpdReturn (s : State) : Res := .next (effHpdReturn s)

end Sys2Proof.Machine
end

