-- ==== Sys2Proof/Machine/Calls.lean ====
section
/-!
DEFINITION. Timestamps (R34, R35, R172, R229), the transmit queues of the Quoda ports (R218), and the sending of calls (R220, R222,
R231, R237, R239).
-/

namespace Sys2Proof.Machine

/-! ### Timestamps -/

/-- Tick boundaries passed since the model's start. -/
def State.tickIndex (s : State) : Nat := s.now / cyclesPerTick

/-- The REFCLK path delay that an ensemble unit removes, in 2^-24 tick (R229). -/
def State.refDelay (s : State) : Int :=
  if s.fld ENS.CFG.ROLE = 0 then 0 else (s.fldS ENS.REF_DELAY.DELAY * 2 ^ 24 + 5000) / 10000

/-- The tick count that tick boundary `m` of the model had: jumps made after it are taken out (R172). -/
def State.countAt (s : State) (m : Nat) : Tick :=
  let later := s.time.jumpLog.filter fun x => decide (m < x.1 / cyclesPerTick)
  let jumps := later.foldl (fun (a : Int) x => a + x.2) 0
  tickAdd s.tick ((m : Int) - s.tickIndex - jumps)

/-- The timestamp of a time in 2^-23 ns since the model's start: tick and fraction in 2^-24 tick, the fraction rounded to the nearest
step with halves up (R35, R229). -/
def State.stamp (s : State) (t : Nat) : Tick × Nat :=
  let u : Int := (2 * (t : Int) + 5) / 10 - s.refDelay
  let i := t / finePerTick
  (tickAdd (s.countAt i) (u / 2 ^ 24 - i), (u % 2 ^ 24).toNat)

/-- The time, in 2^-23 ns since the model's start, of a timestamp on the present count (R229). -/
def State.timeOf (s : State) (tick : Tick) (frac : Nat) : Nat :=
  let m : Int := s.tickIndex + tickDiff tick s.tick
  (5 * (m * 2 ^ 24 + frac + s.refDelay)).toNat

/-! ### Ordinary messages (R221) -/

/-- An ordinary message (R221). -/
structure Msg where
  typ : Nat
  dst : Nat
  src : Nat
  hops : Nat
  seq : Nat
  copy : Nat
  nblk : Nat
  data : List Byte
  deriving DecidableEq, Repr

/-- The bytes of a message: the MSG block and its data blocks with the CRC-32 (R221). -/
def Msg.bytes (m : Msg) : List Byte :=
  let head := le 1 m.typ ++ le 1 m.dst ++ le 1 m.src ++ le 1 m.hops ++ le 2 (m.seq % 2 ^ 15 + 2 ^ 15 * m.copy) ++ le 1 m.nblk
  let body := padTo m.data (8 * m.nblk - 4)
  [0x66] ++ head ++ body ++ le 4 (crc32 (head ++ body))

/-- A timestamp in a TOKEN: tick bits 31:0 and a 24-bit fraction (Table 09-4). -/
def stampValue (x : Tick × Nat) : Nat := x.1.toNat % 2 ^ 32 * 2 ^ 24 + x.2

/-- The 7 bytes of a TOKEN timestamp, each tick followed by its fraction. -/
def stampBytes (v : Nat) : List Byte := le 4 (v / 2 ^ 24) ++ le 3 v

/-- A TOKEN of port `p` (Table 09-4). -/
def tokenMsg (src p op seq t1 t2 t3 : Nat) : Msg :=
  { typ := 5, dst := 0, src := src, hops := 0, seq := seq, copy := 0, nblk := 4
    data := le 1 op ++ le 1 p ++ le 2 0 ++ stampBytes t1 ++ stampBytes t2 ++ stampBytes t3 }

/-! ### Ports and queues (R218, R225) -/

/-- Port `p` is UP. -/
def State.portUp (s : State) (p : Nat) : Bool := decide (p < 2) && s.fld (ENS.PORT_STATUS.STATE p) == 2

/-- The Quoda ports run: from the end of DRAM training in LOAD, in CALIBRATE, READY and ACQUIRE, on a unit with a role
(R227). -/
def State.portsRun (s : State) : Bool :=
  decide (s.fld ENS.CFG.ROLE ≠ 0) && (s.serving || (s.mode == modeLoad && s.dev.trained))

/-- One 64b/66b block in 0.2 ns (R214). -/
def blockTime : Nat := 32

/-- The present time in 0.2 ns. -/
def State.fifths (s : State) : Nat := 5 * s.now

/-- What waits at a port, and when what it sends ends: call pair, message, both. -/
def State.txWaits (s : State) (p : Nat) : List TxItem := Tbl.get [] s.ens.tx p
def State.callEnds (s : State) (p : Nat) : Nat := Tbl.get 0 s.ens.callEnd p
def State.msgEnds (s : State) (p : Nat) : Nat := Tbl.get 0 s.ens.msgEnd p
def State.txEnds (s : State) (p : Nat) : Nat := max (s.callEnds p) (s.msgEnds p)

/-- Of the items of a class the port could start at `t`, forwarded before local, then the oldest (R218). -/
def firstOf (call : Bool) (t : Nat) (l : List TxItem) : Option TxItem :=
  let can := l.filter fun x => x.call == call && decide (x.at_ ≤ t)
  match can.find? TxItem.forwarded with
  | some x => some x
  | none => can.head?

/-- The earliest start of an item of a class, once the port is free for the class. -/
def startOf (call : Bool) (free : Nat) (l : List TxItem) : Option Nat :=
  (l.find? fun x => x.call == call).map fun x => max free x.at_

/-- What a port starts next, and when: a call pair, between any two blocks of a message, before a message (R218). -/
def State.nextTx (s : State) (p : Nat) : Option (TxItem × Nat) :=
  let l := s.txWaits p
  let c := startOf true (s.callEnds p) l
  let m := startOf false (s.txEnds p) l
  let pick : Bool → Nat → Option (TxItem × Nat) := fun k t => if t ≤ s.fifths then (firstOf k t l).map fun x => (x, t) else none
  match c, m with
  | some a, some b => if a ≤ b then pick true a else pick false b
  | some a, none => pick true a
  | none, some b => pick false b
  | none, none => none

/-- A TOKEN leaves at `t`, in 0.2 ns: a REQUEST takes T1 there and waits for its reply, a REPLY takes T3 (R228). -/
def State.leaveToken (s : State) (p t : Nat) (k : Nat × Nat × Nat × Nat) : State :=
  let (op, seq, t1, t2) := k
  let v := stampValue (s.stamp (t * finePerNs / 5))
  let m := if op = 0 then tokenMsg (s.fld ENS.STATUS.ADDR) p 0 seq v 0 0 else tokenMsg (s.fld ENS.STATUS.ADDR) p op seq t1 t2 v
  let s := if op = 0 then { s with ens := { s.ens with asked := Tbl.set none s.ens.asked p (some v) } } else s
  s.emit (.quoda p m.bytes)

/-- An item starts: an IDLE goes before it when 31 blocks have passed without one, in which the rest of a message it breaks into counts
(R219); a call pair puts off the rest of a message in progress; what it carries leaves the device (log entry 106). -/
def State.startTx (s : State) (p : Nat) (x : TxItem) (t : Nat) : State :=
  let run := if t ≤ s.txEnds p then Tbl.get 0 s.ens.runLen p else 0
  let full := decide (31 < run + x.len)
  let start := if full then t + blockTime else t
  let stop := start + x.len * blockTime
  let rest := if x.call then (s.msgEnds p - t + blockTime - 1) / blockTime else 0
  let msg := if !x.call then stop else if t < s.msgEnds p then s.msgEnds p + (stop - t) else s.msgEnds p
  let ens := { s.ens with tx := Tbl.set [] s.ens.tx p ((s.txWaits p).erase x)
                          callEnd := if x.call then Tbl.set 0 s.ens.callEnd p stop else s.ens.callEnd
                          msgEnd := Tbl.set 0 s.ens.msgEnd p msg
                          runLen := Tbl.set 0 s.ens.runLen p ((if full then rest else run) + x.len) }
  let s := x.outs.foldl State.emit { s with ens := ens }
  match x.token with
  | some k => s.leaveToken p start k
  | none => s

/-- A port starts what it can by now. `fuel` is at least what waits. -/
def State.pumpTx : Nat → State → Nat → State
  | 0, s, _ => s
  | fuel + 1, s, p => match s.nextTx p with
    | some (x, t) => State.pumpTx fuel (s.startTx p x t) p
    | none => s

/-- A port sends. -/
def State.pumpPort (s : State) (p : Nat) : State := s.pumpTx ((s.txWaits p).length) p

/-- The queue-overflow notice (R218). -/
def State.overflow (s : State) (p k : Nat) : State := s.raise 116 k p 0 0

/-- An item joins a port's queue, when fewer than `room` of its class wait. -/
def State.joinTx (s : State) (p room : Nat) (x : TxItem) : Bool × State :=
  let s := s.pumpPort p
  let l := s.txWaits p
  if room ≤ (l.filter fun y => y.call == x.call).length then (false, s)
  else (true, State.pumpPort { s with ens := { s.ens with tx := Tbl.set [] s.ens.tx p (l ++ [x]) } } p)

/-- No pair that waits at a port has a copy to come. -/
def State.closePairs (s : State) (p : Nat) : State :=
  { s with ens := { s.ens with tx := Tbl.set [] s.ens.tx p ((s.txWaits p).map fun x => { x with more := false }) } }

/-- A call pair joins a port's queue of 8, or is dropped; `more` says that its second copy has yet to come (R218, R222). -/
def State.queueCall (s : State) (p : Nat) (forwarded more : Bool) (outs : List Out) : Bool × State :=
  let r := s.joinTx p 8 { call := true, forwarded := forwarded, at_ := s.fifths, len := 8, more := more, outs := outs }
  if r.1 then r else (false, (r.2.bumpF ENS.CALL_LOSS.DROPPED 1).overflow p 0)

/-- The second copy of a forwarded pair follows the first: it waits with it, or leaves as it passes (R218). -/
def State.addCopy (s : State) (p : Nat) (outs : List Out) : State :=
  let s := s.pumpPort p
  let l := s.txWaits p
  if l.any TxItem.more then
    let l := l.map fun x => if x.more then { x with more := false, outs := x.outs ++ outs } else x
    { s with ens := { s.ens with tx := Tbl.set [] s.ens.tx p l } }
  else outs.foldl State.emit s

/-- An ordinary message of `blocks` blocks joins a port's queue of 4, or is dropped (R218). -/
def State.queueMsg (s : State) (p blocks : Nat) (forwarded : Bool) (outs : List Out) : Bool × State :=
  let r := s.joinTx p 4 { call := false, forwarded := forwarded, at_ := s.fifths, len := blocks, outs := outs }
  if r.1 then r else (false, (r.2.bumpF ENS.DEAL_COUNTS.MSG_DROPPED 1).overflow p 1)

/-- A cycle of clock compensation at the elastic buffer of port `p`: with the neighbour a block ahead or behind, an IDLE is deleted or
inserted, between messages of the repeat path (R219; log entry 106). -/
def State.compensate (s : State) (p : Nat) : State :=
  if s.portUp p then
    let block : Int := blockTime * 1000000
    let d := Tbl.get 0 s.ens.skew p + 5 * satI (Config.portDrift p) (-400) 400
    let quiet := decide (s.txEnds (1 - p) ≤ s.fifths)
    let put : Int → State → State := fun d s => { s with ens := { s.ens with skew := Tbl.set 0 s.ens.skew p d } }
    if quiet && decide (block ≤ d) then (put (d - block) s).bumpF (ENS.PORT_COMP.DELETED p) 1
    else if quiet && decide (d ≤ -block) then (put (d + block) s).bumpF (ENS.PORT_COMP.INSERTED p) 1
    else put d s
  else s

/-! ### Calls (R220, R222, R239) -/

/-- CRC-24 of RFC 4880 (R220). -/
def crc24 (bs : List Byte) : Nat := bs.foldl (crcByteMsb 24 0x864CFB) 0xB704CE

/-- The 18 bytes of a call from SRC to QUALITY (R220). -/
def Call.body (c : Call) (hops copy : Nat) : List Byte :=
  le 1 c.src ++ le 1 hops ++ le 2 (c.seq % 2 ^ 15 + 2 ^ 15 * copy) ++ le 4 c.trick ++ le 6 c.tick.toNat ++ le 3 c.frac ++ le 1 c.quality

/-- The three blocks of a call from its body and its CRC (Table 09-3). -/
def callBlocks (body : List Byte) (crc : Nat) : List Byte :=
  [0x55] ++ slice body 0 7 ++ [0x56] ++ slice body 7 7 ++ [0x57] ++ slice body 14 4 ++ le 3 crc

/-- One copy of a call. -/
def Call.bytes (c : Call) (hops copy : Nat) : List Byte := callBlocks (c.body hops copy) (crc24 (c.body hops copy))

/-- A call pair is sent out of every UP port (R217, R222). -/
def State.sendPair (s : State) (c : Call) : State :=
  (List.range 2).foldl (fun s p =>
    if s.portUp p then (s.queueCall p false false [.callOut p (c.bytes 0 0), .guards p, .callOut p (c.bytes 0 1)]).2 else s) s

/-- TRICK_NEXT of the ensemble counter, which ACQ.TRICK_NEXT reads too (R237). -/
def State.setTrickNext (s : State) (v : Nat) : State := (s.setF ENS.TRICK_NEXT.NEXT v).setF ACQ.TRICK_NEXT.TRICK v

/-- `a` is later than `b`, modulo 2^32 within half the range (R237). -/
def laterTrick (a b : Nat) : Bool := let d := (a + 2 ^ 32 - b % 2 ^ 32) % 2 ^ 32; decide (0 < d) && decide (d < 2 ^ 31)

/-- The trick number of a trigger accepted from a term or a force on a unit with a role (R237). -/
def State.localTrick (s : State) : Option Nat × State :=
  if s.fld ENS.CFG.ROLE = 0 then (none, s)
  else (some (s.fld ENS.TRICK_NEXT.NEXT), s.setTrickNext (s.fld ENS.TRICK_NEXT.NEXT + 1))

/-- An accepted trigger of a term or a force sends its call, when the unit has an address and an UP port and is past its RESTART
periods (R223, R231, R239). The answer is the call sent. -/
def State.sendCall (s : State) (trick : Nat) (tick : Tick) (frac quality : Nat) : Option Call × State :=
  let addr := s.fld ENS.STATUS.ADDR
  if addr = 0 then (none, s.bumpF ENS.CALL_LOSS.UNSENT 1)
  else if s.ens.restart || !(s.portUp 0 || s.portUp 1) || !s.portsRun then (none, s)
  else
    let c : Call := { src := addr, seq := s.fld ENS.GEN.CALL_SEQ, trick := trick, tick := tick, frac := frac, quality := quality }
    let s := (s.wrapF ENS.GEN.CALL_SEQ 1).bumpF ENS.CALL_TX.COUNT 1
    (some c, s.sendPair c)

end Sys2Proof.Machine
end

