-- ==== Sys2Proof/Machine/Detect.lean ====
section
/-!
DEFINITION. Event detectors, TRIG_IN pins, qualifier sources and trigger times (R108 to R115, R122 to R124, R136, R138).
-/

namespace Sys2Proof.Machine

/-! ### Detectors (R108 to R111) -/

/-- What the image and the live levels set of a detector. -/
structure DetCfg where
  typ : Nat
  sense : Nat
  wmode : Nat
  lh : Int
  ll : Int
  h : Int
  w1 : Nat
  w2 : Nat
  deriving DecidableEq, Repr

/-- The settings of detector `i` in force. -/
def State.detCfg (s : State) (i : Nat) : DetCfg :=
  { typ := s.fld (TRG.DET_MODE.TYPE i), sense := s.fld (TRG.DET_MODE.SENSE i), wmode := s.fld (TRG.DET_MODE.WMODE i)
    lh := s.fldS (TRG.DET_LEVEL.LH i), ll := s.fldS (TRG.DET_LEVEL.LL i), h := s.fld (TRG.DET_HYST.H i)
    w1 := s.fld (TRG.DET_WIDTH1.W1 i), w2 := s.fld (TRG.DET_WIDTH2.W2 i) }

/-- Level and window detectors are state-type (R108). -/
def stateType (typ : Nat) : Bool := typ == 2 || typ == 3

/-- What a sample does to a detector: an event, and whether a falling machine gave it. -/
abbrev DetOut := Option Bool

/-- An edge machine on level `l`, rising or falling: armed state, event. -/
def edgeRise (armed : Bool) (l h x : Int) : Bool × Bool :=
  if armed && decide (l ≤ x) then (false, true) else (armed || decide (x < l - h), false)

/-- The falling machine. -/
def edgeFall (armed : Bool) (l h x : Int) : Bool × Bool :=
  if armed && decide (x < l) then (false, true) else (armed || decide (l + h ≤ x), false)

/-- The width condition (R109). -/
def DetCfg.widthOk (c : DetCfg) (w : Nat) : Bool :=
  if c.wmode = 0 then decide (w < c.w1) else if c.wmode = 1 then decide (c.w1 < w) else decide (c.w1 ≤ w) && decide (w ≤ c.w2)

/-- One sample of a level or window detector: `active` of the detector is the *inside* or *level* state (R109). -/
def DetCfg.stepState (c : DetCfg) (d : Det) (x : Int) : Det :=
  let on : Bool :=
    if c.typ = 2 then if c.sense = 0 then decide (c.lh ≤ x) else decide (x < c.lh)
    else decide (c.ll ≤ x) && decide (x ≤ c.lh)
  let off : Bool :=
    if c.typ = 2 then if c.sense = 0 then decide (x < c.lh - c.h) else decide (c.lh + c.h ≤ x)
    else decide (x < c.ll - c.h) || decide (c.lh + c.h < x)
  { d with fresh := false, active := if d.fresh then on else if d.active then !off else on }

/-- One sample of an edge detector. -/
def DetCfg.stepEdge (c : DetCfg) (d : Det) (x : Int) : Det × DetOut :=
  let r := if c.sense = 1 then (false, false) else edgeRise (d.rise && !d.fresh) c.lh c.h x
  let f := if c.sense = 0 then (false, false) else edgeFall (d.fall && !d.fresh) c.lh c.h x
  ({ d with fresh := false, rise := r.1, fall := f.1 }, if r.2 then some false else if f.2 then some true else none)

/-- One sample of a width detector (R109, R110). -/
def DetCfg.stepWidth (c : DetCfg) (d : Det) (x : Int) : Det × DetOut :=
  let begins : Bool := if c.sense = 0 then decide (c.lh ≤ x) else decide (x < c.lh)
  let ends : Bool := if c.sense = 0 then decide (x < c.lh - c.h) else decide (c.lh + c.h ≤ x)
  if d.fresh then ({ d with fresh := false, width := none, wait := begins }, none)
  else if d.wait then ({ d with wait := !ends }, none)
  else match d.width with
    | none => (if begins then { d with width := some 1 } else d, none)
    | some w =>
      if ends then ({ d with width := none }, if c.widthOk w then some false else none)
      else ({ d with width := some (min (w + 1) 16777215) }, none)

/-- One sample of a runt detector: the candidate is judged before the machine that opens the next one (R109). -/
def DetCfg.stepRunt (c : DetCfg) (d : Det) (x : Int) : Det × DetOut :=
  let d := if d.fresh then { d with fresh := false, rise := false, fall := false, cand := false } else d
  if c.sense = 0 then
    let ends := d.cand && decide (x < c.ll - c.h) && decide (x < c.lh)
    let cand := d.cand && decide (x < c.lh) && !decide (x < c.ll - c.h)
    let m := edgeRise d.rise c.ll c.h x
    ({ d with rise := m.1, cand := cand || m.2 }, if ends then some false else none)
  else
    let ends := d.cand && decide (c.ll ≤ x) && decide (c.lh + c.h ≤ x)
    let cand := d.cand && decide (c.ll ≤ x) && !decide (c.lh + c.h ≤ x)
    let m := edgeFall d.fall c.lh c.h x
    ({ d with fall := m.1, cand := cand || m.2 }, if ends then some false else none)

/-- One sample of a detector. -/
def DetCfg.step (c : DetCfg) (d : Det) (x : Int) : Det × DetOut :=
  if stateType c.typ then (c.stepState d x, none)
  else if c.typ = 1 then c.stepEdge d x
  else if c.typ = 4 then c.stepWidth d x
  else if c.typ = 5 then c.stepRunt d x
  else (d, none)

/-- The state-type output of a detector: *outside* is inactive exactly where *inside* would be active (R109). -/
def DetCfg.output (c : DetCfg) (d : Det) : Bool := if c.typ = 3 ∧ c.sense = 1 then !d.active else d.active

/-- DET_STATUS.STATE: active; or armed, a pulse in progress or a candidate open. -/
def DetCfg.shows (c : DetCfg) (d : Det) : Bool :=
  if c.typ = 0 then false
  else if stateType c.typ then c.output d
  else d.rise || d.fall || d.cand || d.width.isSome

/-- The output and the arming state, whose change ends a stuck interval (R111). -/
def Det.key (d : Det) : Bool × Bool × Bool × Bool × Bool × Bool := (d.rise, d.fall, d.active, d.cand, d.width.isSome, d.wait)

/-- A detector. -/
def State.det (s : State) (i : Nat) : Det := Tbl.get {} s.trg.det i

/-- A detector replaced. -/
def State.setDet (s : State) (i : Nat) (d : Det) : State := { s with trg := { s.trg with det := Tbl.set {} s.trg.det i d } }

/-- What a detector saw of the samples of an evaluation instant: its first event and the number of events, and whether its source
was active, and inactive, at some sample. -/
structure DetSeen where
  first : Option DetEvent := none
  count : Nat := 0
  on : Bool := false
  off : Bool := false
  deriving DecidableEq, Repr

/-- One sample through a detector. -/
def detSample (c : DetCfg) (i n : Nat) (x : Int) (now : Nat) (y : Det × DetSeen) : Det × DetSeen :=
  let r := c.step y.1 x
  let changed := r.2.isSome || r.1.key != y.1.before.getD y.1.key
  let d := if changed then { r.1 with changeAt := now, before := none } else { r.1 with before := none }
  let v := y.2
  let v := match r.2 with
    | some f => { v with count := v.count + 1
                         first := some (v.first.getD { src := i, sample := n, falling := f, lh := c.lh }) }
    | none => v
  let v := if stateType c.typ then (if c.output d then { v with on := true } else { v with off := true }) else v
  (d, v)

/-- Samples from number `n` on through detector `i` (R108). -/
def State.runDet (s : State) (i n : Nat) (xs : List Int) : DetSeen × State :=
  let c := s.detCfg i
  if c.typ = 0 then ({ off := true }, s)
  else
    let old := s.det i
    let r := (List.range xs.length).foldl (fun y j => detSample c i (n + j) (xs.getD j 0) s.now y) (old, ({} : DetSeen))
    let s := (s.setDet i r.1).setB (TRG.DET_STATUS.STATE i) (c.shows r.1)
    (r.2, if r.1.changeAt = old.changeAt then s else s.setF (TRG.DET_STATUS.STUCK i) 0)

/-- The slot whose active plan holds the channel of a detector, and the source of its notices: kind 0 stuck, 1 parameter of the
slot; the device source has kinds 1 and 2 for the same (sources 8 and 76 + 5k). -/
def State.detNotice (s : State) (i kind : Nat) : State :=
  match s.slotHolding (i / 2) with
  | some k => s.raise (76 + 5 * k) kind i 0 0
  | none => s.raise 8 (kind + 1) i 0 0

/-- A detector whose output and arming state have not changed for TIME ticks becomes stuck (R111). -/
def effDetectorStuck (i : Nat) (s : State) : State :=
  let time := s.fld (TRG.DET_STUCK.TIME i)
  if decide (i < 128) && s.running && s.chanExists (i / 2) && decide (s.fld (TRG.DET_MODE.TYPE i) ≠ 0) && decide (time ≠ 0) &&
      !s.bit (TRG.DET_STATUS.STUCK i) && decide ((s.det i).changeAt + 10 * time ≤ s.now) then
    (s.setF (TRG.DET_STATUS.STUCK i) 1).detNotice i 0
  else s

/-- Every detector restarts at the next sample (R110), and what a detector or a pin keeps without a change counts from here (R111, R138):
at entry to READY. -/
def State.restartDetectors (s : State) : State :=
  let s := { s with trg := { s.trg with pins := (List.range 4).map fun i => (i, { Tbl.get {} s.trg.pins i with changeAt := s.now }) } }
  (List.range 128).foldl (fun s i => s.setDet i { pend := (s.det i).pend, fresh := true, changeAt := s.now }) s

/-! ### TRIG_IN pins (R138) -/

/-- A pin. -/
def State.pin (s : State) (i : Nat) : Pin := Tbl.get {} s.trg.pins i

/-- A pin replaced. -/
def State.setPin (s : State) (i : Nat) (p : Pin) : State := { s with trg := { s.trg with pins := Tbl.set {} s.trg.pins i p } }

/-- Samples of a pin, at 16 GS/s, since the model's start. -/
def State.pinNow (s : State) : Nat := 16 * s.now

/-- An active run of at least 4 samples whose first sample lies `ago` samples back is confirmed; `glitches` shorter runs came
before it. With `ago` 0 no run is confirmed and only the glitches are counted (R138). -/
def effTrigInActivation (i ago glitches : Nat) (s : State) : State :=
  let p := s.pin i
  if decide (i < 4) && s.running && s.bit (TRG.PIN_CFG.IN_USE i) && !p.level && decide (ago = 0) then
    s.bumpF (TRG.PIN_FILTER.GLITCH i) glitches
  else if decide (i < 4) && s.running && s.bit (TRG.PIN_CFG.IN_USE i) && !p.level && decide (4 ≤ ago) && decide (ago ≤ s.pinNow) then
    let s := s.setPin i { p with level := true, runs := ((s.pinNow - ago, none) :: p.runs).take 64, changeAt := s.now }
    let s := (s.setF (TRG.PIN_STATUS.LEVEL i) 1).setF (TRG.PIN_STATUS.STUCK i) 0
    (s.bumpF (TRG.PIN_COUNT.EDGES i) 1).bumpF (TRG.PIN_FILTER.GLITCH i) glitches
  else s

/-- An inactive gap of at least 4 samples whose first sample lies `ago` samples back ends the run; `gaps` shorter gaps were bridged
in it. With `ago` 0 the run goes on and only the bridged gaps are counted (R138). -/
def effTrigInDeactivation (i ago gaps : Nat) (s : State) : State :=
  let p := s.pin i
  if decide (i < 4) && s.running && s.bit (TRG.PIN_CFG.IN_USE i) && p.level && decide (ago = 0) then
    s.bumpF (TRG.PIN_FILTER.COALESCED i) gaps
  else if decide (i < 4) && s.running && s.bit (TRG.PIN_CFG.IN_USE i) && p.level && decide (4 ≤ ago) && decide (ago ≤ s.pinNow) then
    let runs := match p.runs with
      | (a, none) :: rest => (a, some (max a (s.pinNow - ago))) :: rest
      | l => l
    let s := s.setPin i { p with level := false, runs := runs, changeAt := s.now }
    (((s.setF (TRG.PIN_STATUS.LEVEL i) 0).setF (TRG.PIN_STATUS.STUCK i) 0)).bumpF (TRG.PIN_FILTER.COALESCED i) gaps
  else s

/-- A pin that has kept its filtered level for TIME ticks becomes stuck (R138). -/
def effPinStuck (i : Nat) (s : State) : State :=
  let time := s.fld (TRG.PIN_STUCK.TIME i)
  if decide (i < 4) && s.running && s.bit (TRG.PIN_CFG.IN_USE i) && decide (time ≠ 0) && !s.bit (TRG.PIN_STATUS.STUCK i) &&
      decide ((s.pin i).changeAt + 10 * time ≤ s.now) then
    (s.setF (TRG.PIN_STATUS.STUCK i) 1).raise 8 0 i 0 0
  else s

/-- The pin samples of evaluation instant `n` at `per` instants a tick: from the first, to before the last. -/
def pinSpan (per n : Nat) : Nat × Nat := ((n * 160 + per - 1) / per, ((n + 1) * 160 + per - 1) / per)

/-- First samples of the runs of a pin that begin in evaluation instant `n` (edge mode). -/
def Pin.starts (p : Pin) (per n : Nat) : List Nat :=
  let (a, b) := pinSpan per n
  ((p.runs.filter fun r => decide (a ≤ r.1) && decide (r.1 < b)).map Prod.fst).reverse

/-- The pin is active at sample `m`. -/
def Pin.activeAt (p : Pin) (m : Nat) : Bool :=
  p.runs.any fun r => decide (r.1 ≤ m) && (match r.2 with
    | some e => decide (m < e)
    | none => true)

/-! ### Qualifier sources (R112, R114, R115) -/

/-- What a source gave in an evaluation instant. -/
structure SrcSeen where
  event : Bool := false        -- event-type: some event
  on : Bool := false           -- state-type: active at some sample
  off : Bool := false          -- state-type: inactive at some sample
  deriving DecidableEq, Repr

/-- A time mark was asserted in a tick that instant `n` lies in (Table 05-2): the cycle of its boundary. -/
def State.markIn (s : State) (m per n : Nat) : Option Nat :=
  (s.trg.marks.find? fun x => x.1 == m && x.2 / cyclesPerTick == n / per).map Prod.snd

/-- A source is event-type (Table 05-2). -/
def State.eventSource (s : State) (src : Nat) : Bool :=
  if src < 128 then !stateType (s.fld (TRG.DET_MODE.TYPE src))
  else if src < 132 then !s.bit (TRG.PIN_CFG.MODE (src - 128))
  else decide (src < 136)

/-- What a source gave in instant `n`; `seen` holds what the detectors saw. -/
def State.srcSeen (s : State) (per n src : Nat) (seen : Tbl DetSeen) : SrcSeen :=
  if src < 128 then
    let d := Tbl.get { off := true } seen src
    { event := decide (d.count ≠ 0), on := d.on, off := d.off }
  else if src < 132 then
    let p := s.pin (src - 128)
    let (a, b) := pinSpan per n
    let samples := if a < b then (List.range (b - a)).map fun i => a + i else [a - 1]
    { event := !(p.starts per n).isEmpty, on := samples.any p.activeAt, off := samples.any fun m => !p.activeAt m }
  else if src < 136 then { event := (s.markIn (src - 132) per n).isSome }
  else { off := true }

/-- Qualifier bit `q` in an instant (R112, R114). -/
def State.qualBit (s : State) (per n q : Nat) (seen : Tbl DetSeen) : Bool :=
  let src := s.fld (TRG.QMAP.SRC q)
  let v := s.srcSeen per n src seen
  if s.eventSource src then v.event else if s.bit (TRG.QMAP.INV q) then v.off else v.on

/-- The qualifier vector in an instant. -/
def State.qualVector (s : State) (per n : Nat) (seen : Tbl DetSeen) : Nat :=
  (List.range 64).foldl (fun a q => if s.qualBit per n q seen then a + 2 ^ q else a) 0

/-- The sources that take part in the terms selected (R114). -/
def State.sources (s : State) (sel : Nat) : List Nat :=
  (List.range 64).foldl (fun l t =>
    if bitOf sel t then (List.range 64).foldl (fun l q =>
      if bitOf (s.termCare t) q && !l.contains (s.fld (TRG.QMAP.SRC q)) then l ++ [s.fld (TRG.QMAP.SRC q)] else l) l
    else l) []

/-- Events merged away in an instant over the participating sources (R115). -/
def State.merged (s : State) (per n sel : Nat) (seen : Tbl DetSeen) : Nat :=
  ((s.sources sel).map fun src =>
    if src < 128 then (Tbl.get {} seen src).count - 1
    else if src < 132 ∧ s.eventSource src = true then ((s.pin (src - 128)).starts per n).length - 1
    else 0).sum

/-! ### Trigger time (R122 to R124) -/

/-- A clip code (R69). -/
def clip (x : Int) : Bool := x == 2047 || x == -2048

/-- q of a CUBIC crossing after sample n - 1 (R123). -/
def cubicQ (a b c d thr : Int) (rising : Bool) : Nat :=
  let c1 := -2 * a - 3 * b + 6 * c - d
  let c2 := 3 * a - 6 * b + 3 * c
  let c3 := -a + 3 * b - 3 * c + d
  let t := 6 * 2 ^ 33 * thr
  ((List.range 1024).find? fun (k : Nat) =>
    let v : Int := 2 * k + 1
    let p := 6 * 2 ^ 33 * b + v * 2 ^ 22 * c1 + v * v * 2 ^ 11 * c2 + v * v * v * c3
    if rising then decide (t ≤ p) else decide (t < p)).getD 1024

/-- q of a LINEAR crossing (R123). -/
def linearQ (b c l : Int) : Nat := ((2048 * (l - b) + (c - b)) / (2 * (c - b))).toNat

/-- The time of sample `n` plus q/1024 on a grid of `spt` samples a tick, of which the first is on the tick boundary (R40), in 2^-23 ns,
rounded to 2^-24 tick (R35, R124). -/
def sampleTime (spt : Nat) (n : Int) (q : Nat) : Nat :=
  (5 * (((n * 1024 + q) * 2 ^ 24 + spt * 512) / (spt * 1024 : Nat))).toNat

/-- The time and quality of a detector event (Table 05-4, R123): negated first for a falling edge. -/
def State.detEventTime (s : State) (e : DetEvent) : SrcEvent :=
  let ch := e.src / 2
  let spt := s.spt ch
  let n : Int := e.sample
  if s.fld (TRG.DET_MODE.TYPE e.src) ≠ 1 then (sampleTime spt n 0, 3)
  else
    let sg : Int := if e.falling then -1 else 1
    let x : Int → Int := fun i => s.sampleAt ch i
    let a := x (n - 2)
    let b := x (n - 1)
    let c := x n
    let d := x (n + 1)
    if clip b || clip c then (sampleTime spt n 0, 2)
    else if clip a || clip d then (sampleTime spt (n - 1) (linearQ (sg * b) (sg * c) (sg * e.lh)), 1)
    else (sampleTime spt (n - 1) (cubicQ (sg * a) (sg * b) (sg * c) (sg * d) (sg * e.lh) (!e.falling)), 0)

/-- The events of an instant, by source: detectors', pins' and marks' (R122). -/
def State.instEvents (s : State) (per n sel : Nat) (dets : List DetEvent) : Tbl SrcEvent :=
  (s.sources sel).foldl (fun t src =>
    if src < 128 then match dets.find? fun e => e.src == src with
      | some e => Tbl.insert src (s.detEventTime e) t
      | none => t
    else if src < 132 then match (s.pin (src - 128)).starts per n with
      | m :: _ => if s.eventSource src then Tbl.insert src (sampleTime 160 m 0, 5) t else t
      | [] => t
    else if src < 136 then match s.markIn (src - 132) per n with
      | some c => Tbl.insert src (c * finePerNs, 6) t
      | none => t
    else t) []

/-! ### Live writes (R136) -/

/-- A level lies within its bound. -/
def State.inBound (s : State) (i : Nat) (v : Int) : Bool :=
  decide (s.fldS (TRG.DET_BOUND.MIN i) ≤ v) && decide (v ≤ s.fldS (TRG.DET_BOUND.MAX i))

/-- Window and runt detectors use LL. -/
def usesLL (typ : Nat) : Bool := typ == 3 || typ == 5

/-- A pending change of detector `i` (R136). -/
def State.pendDet (s : State) (i : Nat) (lh ll h : Int) : State :=
  (s.setDet i { s.det i with pend := some (lh, ll, h) }).setF (TRG.DET_STATUS.PEND i) 1

/-- The values a detector's next change starts from: pending ones, else those in force. -/
def State.detNext (s : State) (i : Nat) : Int × Int × Int :=
  (s.det i).pend.getD (s.fldS (TRG.DET_LEVEL.LH i), s.fldS (TRG.DET_LEVEL.LL i), s.fld (TRG.DET_HYST.H i))

/-- A live write of DET_LEVEL[i] (R136). -/
def effDetLevelWrite (i lh ll : Nat) (s : State) : State :=
  if s.served (0x42004 + 32 * i) && decide (i < 128) then
    let l := ofTwos 12 lh
    let m := ofTwos 12 ll
    let t := s.fld (TRG.DET_MODE.TYPE i)
    if !s.inBound i l || (usesLL t && (!s.inBound i m || decide (l < m))) then s.detNotice i 1
    else s.pendDet i l m (s.detNext i).2.2
  else s

/-- A live write of DET_HYST[i] (R136). -/
def effDetHystWrite (i h : Nat) (s : State) : State :=
  if s.served (0x42008 + 32 * i) && decide (i < 128) then
    if s.fld (TRG.DET_STATUS.HYST_MAX i) < h % 256 then s.detNotice i 1
    else s.pendDet i (s.detNext i).1 (s.detNext i).2.1 ((h % 256 : Nat) : Int)
  else s

/-- A pending holdoff value of slot `k`: 0 ticks, 1 samples, 2 count. -/
def State.pendHold (s : State) (k j v : Nat) : State :=
  let l := ((Tbl.get [] s.trg.hold k).filter fun x => x.1 != j) ++ [(j, v)]
  State.setF { s with trg := { s.trg with hold := Tbl.set [] s.trg.hold k l } } (TRG.SLOT_STATUS.PEND k) 1

/-- A live write of HOLD_TICKS[k] (R136). -/
def effHoldTicksWrite (k v : Nat) (s : State) : State :=
  if s.served (0x4300C + 64 * k) && decide (k < 8) then
    if s.fld (TRG.HOLD_MAX_TICKS.MAX k) < v % 2 ^ 32 then s.raise (76 + 5 * k) 1 0 0 0 else s.pendHold k 0 (v % 2 ^ 32)
  else s

/-- A live write of HOLD_SAMPLES[k] (R136). -/
def effHoldSamplesWrite (k v : Nat) (s : State) : State :=
  if s.served (0x43010 + 64 * k) && decide (k < 8) then s.pendHold k 1 (v % 4096) else s

/-- A live write of HOLD_COUNT[k] (R136). -/
def effHoldCountWrite (k v : Nat) (s : State) : State :=
  if s.served (0x43014 + 64 * k) && decide (k < 8) then
    if v % 2 ^ 24 = 0 then s.raise (76 + 5 * k) 1 0 0 0 else s.pendHold k 2 (v % 2 ^ 24)
  else s

/-- A pending change of a detector takes effect: it restarts (R110, R136). Whether its output or its arming state changes is seen at
the next sample, against what they were before the restart (R111). -/
def State.applyDet (s : State) (i : Nat) : State :=
  match (s.det i).pend with
  | none => s
  | some (lh, ll, h) =>
    let s := ((s.setS (TRG.DET_LEVEL.LH i) lh).setS (TRG.DET_LEVEL.LL i) ll).setF (TRG.DET_HYST.H i) h.toNat
    (s.setDet i { fresh := true, changeAt := (s.det i).changeAt, before := some (s.det i).key }).setF (TRG.DET_STATUS.PEND i) 0

/-- The pending holdoff values of a slot take effect. -/
def State.applyHold (s : State) (k : Nat) : State :=
  let s1 := (Tbl.get [] s.trg.hold k).foldl (fun (s : State) x =>
    if x.1 = 0 then s.setF (TRG.HOLD_TICKS.TICKS k) x.2
    else if x.1 = 1 then s.setF (TRG.HOLD_SAMPLES.SAMPLES k) x.2
    else s.setF (TRG.HOLD_COUNT.COUNT k) x.2) s
  State.setF { s1 with trg := { s1.trg with hold := Tbl.set [] s1.trg.hold k [] } } (TRG.SLOT_STATUS.PEND k) 0

def execDetectorStuck (i : Nat) (s : State) : Res := .next (effDetectorStuck i s)
def execTrigInActivation (i ago glitches : Nat) (s : State) : Res := .next (effTrigInActivation i ago glitches s)
def execTrigInDeactivation (i ago gaps : Nat) (s : State) : Res := .next (effTrigInDeactivation i ago gaps s)
def execPinStuck (i : Nat) (s : State) : Res := .next (effPinStuck i s)
def execDetLevelWrite (i lh ll : Nat) (s : State) : Res := .next (effDetLevelWrite i lh ll s)
def execDetHystWrite (i h : Nat) (s : State) : Res := .next (effDetHystWrite i h s)
def execHoldTicksWrite (k v : Nat) (s : State) : Res := .next (effHoldTicksWrite k v s)
def execHoldSamplesWrite (k v : Nat) (s : State) : Res := .next (effHoldSamplesWrite k v s)
def execHoldCountWrite (k v : Nat) (s : State) : Res := .next (effHoldCountWrite k v s)

end Sys2Proof.Machine
end

