-- ==== Sys2Proof/Machine/Trigger.lean ====
section
/-!
DEFINITION. Terms, firing, the judging of qualified triggers, forces, the lost-trigger list, re-arm points and TRIG_OUT
(R116 to R139, R153, R154).
-/

namespace Sys2Proof.Machine

/-- The re-arm time, 64 ns, in 2^-23 ns (R129). -/
def rearmTime : Nat := 64 * finePerNs

/-! ### TRIG_OUT (R139, R140) -/

/-- A TRIG_OUT pin. -/
def State.outPin (s : State) (n : Nat) : OutPin := Tbl.get {} s.trg.outs n

/-- A TRIG_OUT pin replaced. -/
def State.setOutPin (s : State) (n : Nat) (p : OutPin) : State := { s with trg := { s.trg with outs := Tbl.set {} s.trg.outs n p } }

/-- The 62.5 ps grid point nearest a time in 2^-23 ns. DESIGN CHOICE (log entry 86): a time midway between two points goes to the
later, which the spec leaves open. -/
def outGrid (t : Nat) : Nat := (t + finePerNs / 32) / (finePerNs / 16)

/-- A pulse is to start at a grid point. -/
def State.addPulse (s : State) (n g : Nat) : State :=
  let p := s.outPin n
  s.setOutPin n { p with due := (p.due.filter fun x => decide (x ≤ g)) ++ [g] ++ (p.due.filter fun x => decide (g < x)) }

/-- An accepted trigger of slot `k` drives the TRIG_OUT pins that name the slot: 100 ns after its time, or, for calls and
out-of-order triggers under CALL_MODE, 8 ns after acceptance (R139). -/
def State.driveOut (s : State) (k t : Nat) (plain : Bool) : State :=
  (List.range 2).foldl (fun s n =>
    if bitOf (s.fld (TRG.OUT_CFG.SLOTS n)) k then
      if plain then s.addPulse n (outGrid (t + 100 * finePerNs))
      else if s.bit (TRG.OUT_CFG.CALL_MODE n) then s.addPulse n (16 * (s.now + 8)) else s
    else s) s

/-- The level that a pulse gives a TRIG_OUT pin. -/
def State.outLevel (s : State) (n : Nat) (active : Bool) : Bool := xor active (s.bit (TRG.OUT_CFG.POL n))

/-- TRIG_OUTn starts a pulse, or extends the active one (R139). -/
def effTrigOutPulse (n : Nat) (s : State) : State :=
  let p := s.outPin n
  match p.due with
  | g :: rest =>
    if s.running && s.trg.outOn && decide (n < 2) && decide (g ≤ 16 * s.now) then
      let stop := g + 16 * s.fld (TRG.OUT_CFG.WIDTH n)
      let extend := match p.endsAt with
        | some e => decide (g < e)
        | none => false
      if extend then (s.setOutPin n { due := rest, endsAt := some stop }).bumpF (TRG.OUT_COUNT.MERGED n) 1
      else
        let s := if p.endsAt.isSome then s.emit (.trigOut n (s.outLevel n false)) else s
        ((s.setOutPin n { due := rest, endsAt := some stop }).bumpF (TRG.OUT_COUNT.PULSES n) 1).emit (.trigOut n (s.outLevel n true))
    else s
  | [] => s

/-- A TRIG_OUT pulse ends after WIDTH ns (R139). -/
def effTrigOutPulseEnd (n : Nat) (s : State) : State :=
  let p := s.outPin n
  match p.endsAt with
  | some e =>
    if decide (e ≤ 16 * s.now) && !(p.due.any fun g => decide (g < e)) then
      (s.setOutPin n { p with endsAt := none }).emit (.trigOut n (s.outLevel n false))
    else s
  | none => s

/-- The TRIG_OUT pins go to high impedance (R140). -/
def State.outsOff (s : State) : State :=
  let s := { s with trg := { s.trg with outs := [] } }
  if s.trg.outOn then State.emit { s with trg := { s.trg with outOn := false } } .trigHiZ else s

/-- At entry to READY the TRIG_OUT pins drive their inactive level (R140). -/
def State.outsOn (s : State) : State :=
  if s.trg.outOn then s
  else
    let s := { s with trg := { s.trg with outOn := true } }
    (s.emit (.trigOut 0 (s.outLevel 0 false))).emit (.trigOut 1 (s.outLevel 1 false))

/-! ### Lost-trigger list (R137) -/

/-- A lost trigger is entered in the slot's list: cause 0 lost_rearm, 1 lost_queue (Table 05-7). -/
def State.listLost (s : State) (k : Nat) (t : Trig) (cause : Nat) : State :=
  let m := s.fld (TRG.LL_WR.WR k)
  let tick := t.tick.toNat
  let e := [tick % 2 ^ 32, tick / 2 ^ 32 + 2 ^ 16 * cause + 2 ^ 18 * t.origin + 2 ^ 24 * (if t.origin = 0 then t.term else 0),
    t.frac + 2 ^ 24 * t.quality, m]
  let l := Tbl.set [] (Tbl.get [] s.trg.list k) (m % 4096) e
  State.wrapF { s with trg := { s.trg with list := Tbl.set [] s.trg.list k l } } (TRG.LL_WR.WR k) 1

/-- A write of LL_SEL copies the entry it names into LL_DATA (R137). -/
def effLlSelWrite (v : Nat) (s : State) : State :=
  if s.served 0x40008 then
    let k := v % 8
    let i := v / 2 ^ 16 % 4096
    let s := (s.setF TRG.LL_SEL.SLOT k).setF TRG.LL_SEL.INDEX i
    let e := Tbl.get [] (Tbl.get [] s.trg.list k) i
    (List.range 4).foldl (fun s j => s.setF (TRG.LL_DATA.DATA j) (e.getD j 0)) s
  else s

/-! ### Judging a qualified trigger (R126 to R132, R153, R154) -/

/-- A pre-trigger shortfall of some channel at a trigger time: the arm, or the history, does not reach back far enough (R130, R242). -/
def State.someShort (s : State) (sl : Slot) (pl : Plan) (t : Nat) : Bool :=
  pl.chans.any fun c => match Tbl.get none sl.streams (64 * sl.gen + c.ch) with
    | some st => decide (triggerSample st (s.spt c.ch) t - max st.start (st.oldest c) < c.p)
    | none => true

/-- The FIFO can take a trigger (R153): it has room, and the slot can reserve the next set, or, under STOP_WHEN_FULL, holds a set
to give. -/
def State.canTake (s : State) (sl : Slot) (pl : Plan) : Bool :=
  decide (sl.fifo.length < 64) && decide (sl.queued sl.gen < (sl.setsOf sl.gen).length) && (!pl.ring || (s.reservable pl).isSome)

/-- The FIFO takes a trigger and the slot reserves the following set; under STOP_WHEN_FULL with none left it disarms (R153,
R154). -/
def State.takeTrig (s : State) (k : Nat) (pl : Plan) (t : Trig) : State :=
  match s.slotOf? k with
  | none => s
  | some sl =>
    let s := s.setSlot k (some { sl with fifo := sl.fifo ++ [t] })
    match s.reservable pl with
    | some j =>
      let s := s.reserveSet k pl j
      match s.slotOf? k with
      | some x => (s.setSlot k (some { x with unbound := x.unbound ++ [(j, x.gen)] })).showFifo k
      | none => s
    | none => ((s.showFifo k).setF (ACQ.SLOT_STATE.FULL k) 1).disarm k |>.raise (74 + 5 * k) 0 pl.num 0 0

/-- The time of the last post-trigger sample of a trigger's record, the latest over the channels (R128). -/
def State.recordEnd (s : State) (sl : Slot) (pl : Plan) (t : Nat) : Nat :=
  (pl.chans.map fun c => match Tbl.get none sl.streams (64 * sl.gen + c.ch) with
    | some st =>
      let spt := s.spt c.ch
      let e := (recSpan (64 * st.n) (triggerSample st spt t) c.p c.q st.sa).e
      ((((e - 1) * (st.dm1 + 1) + st.phi - st.base) * finePerTick) / (spt : Nat)).toNat
    | none => t).foldl max t

/-- A trigger placed in a slot before it is judged. -/
structure Asked where
  t : Nat
  tick : Tick
  frac : Nat
  quality : Nat
  origin : Nat
  term : Nat
  trick : Option Nat
  deriving DecidableEq, Repr

/-- The oldest stored sample of each channel that the history holds for the slot's arm (R130, R242). -/
def State.histories (s : State) (sl : Slot) (pl : Plan) : Tbl Int :=
  pl.chans.foldl (fun (t : Tbl Int) c => match Tbl.get none sl.streams (64 * sl.gen + c.ch) with
    | some st => Tbl.insert c.ch (max st.start (st.oldest c)) t
    | none => t) []

/-- The trigger of an asked one in arm `gen`, with the lost triggers it reports. -/
def Asked.trig (a : Asked) (trick : Option Nat) (lost gen : Nat) : Trig :=
  { t := a.t, tick := a.tick, frac := a.frac, quality := a.quality, origin := a.origin, term := a.term, trick := trick
    lostSince := lost, gen := gen }

/-- The slot's registers of its last accepted trigger. -/
def State.showLast (s : State) (k : Nat) (a : Asked) : State :=
  let s := (s.setF (TRG.SLOT_STATUS.LAST_ORIGIN k) a.origin).setF (TRG.SLOT_STATUS.LAST_TERM k) (if a.origin = 0 then a.term else 0)
  State.setF { s with trg := { s.trg with
    last := Tbl.set 0 s.trg.last k (2 ^ 32 * a.tick.toNat + 2 ^ 24 * a.quality + a.frac) } } (TRG.LAST_TICK_LO.TICK k) a.tick.toNat

/-- The holdoff that an in-order accepted trigger starts, and the ready instant it gives (R128): end, count left, ready. -/
def State.startHold (s : State) (k : Nat) (sl : Slot) (pl : Plan) (t : Nat) : Option Nat × Nat × Option Nat :=
  match s.fld (TRG.SLOT_CFG.HOLD k) with
  | 1 =>
    let h := t + s.fld (TRG.HOLD_TICKS.TICKS k) * finePerTick +
      s.fld (TRG.HOLD_SAMPLES.SAMPLES k) * finePerTick / instPerTick (s.fld (TRG.SLOT_CFG.TE k))
    (some h, 0, some (max (t + rearmTime) h))
  | 2 => (none, s.fld (TRG.HOLD_COUNT.COUNT k), none)
  | 3 =>
    let h := s.recordEnd sl pl t
    (some h, 0, some (max (t + rearmTime) h))
  | _ => (none, 0, some (t + rearmTime))

/-- The trigger is accepted (R127, R131, R132, R134): the FIFO takes it, and an in-order one becomes t_last and restarts the
holdoff. The answer is the call it sends. -/
def State.accept (s : State) (k : Nat) (sl : Slot) (pl : Plan) (a : Asked) (inOrder : Bool) : Option Call × State :=
  let s := s.countT k 1
  let (trick, s) := if a.origin = 1 then (a.trick, s) else s.localTrick
  let (end_, left, ready) := s.startHold k sl pl a.t
  let ea := match end_ with
    | some h => if inOrder then max h (a.t + rearmTime) else a.t + rearmTime
    | none => a.t + rearmTime
  let remembered := ((a.t, ea) :: sl.remembered).take 64
  let sl' := if inOrder then
      { sl with tLast := some a.t, holdEnd := end_, holdLeft := left, ready := ready, remembered := remembered, lostSince := 0 }
    else { sl with remembered := remembered, lostSince := 0 }
  let s := (s.setSlot k (some sl')).showLast k a
  let s := if inOrder && sl.armed then
      let s := s.setF (TRG.SLOT_STATUS.REARM k) 1
      s.setB (TRG.SLOT_STATUS.HOLDOFF k) (end_.isSome || decide (left ≠ 0))
    else s
  let s := s.takeTrig k pl { a.trig trick sl.lostSince sl.gen with oldest := s.histories sl pl }
  let s := s.driveOut k a.t (inOrder && decide (a.origin ≠ 1))
  if pl.callTx ∧ a.origin ≠ 1 then s.sendCall (trick.getD (s.fld ACQ.TRICK_NEXT.TRICK)) a.tick a.frac a.quality else (none, s)

/-- The arm that a slot stands for is one that a later arm has followed. -/
def Slot.isPast (sl : Slot) : Bool := sl.past.any fun p => p.gen == sl.gen

/-- A lost trigger: counted, listed, and owed to the next accepted one's LOST_SINCE (R127). The list holds only triggers of the present
arm (R135, R137). -/
def State.loseTrig (s : State) (k : Nat) (sl : Slot) (a : Asked) (cause : Nat) : State :=
  let s := (s.countT k (3 + cause)).setSlot k (some { sl with lostSince := sl.lostSince + 1 })
  if sl.isPast then s else s.listLost k (a.trig a.trick 0 sl.gen) cause

/-- Steps 3 to 5 of Table 05-6. -/
def State.judgeTail (s : State) (k : Nat) (sl : Slot) (pl : Plan) (a : Asked) (inOrder : Bool) : Option Call × State :=
  if pl.deficit && s.someShort sl pl a.t then (none, s.countT k 5)
  else if s.canTake sl pl then s.accept k sl pl a inOrder
  else (none, s.loseTrig k sl a 1)

/-- Step 1 of Table 05-6 holds: the holdoff is running for an in-order trigger that is not a force (R128). -/
def State.holding (s : State) (k : Nat) (sl : Slot) (a : Asked) : Bool :=
  if a.origin = 2 then false
  else match s.fld (TRG.SLOT_CFG.HOLD k) with
    | 1 | 3 => (match sl.holdEnd with
      | some h => decide (a.t < h)
      | none => false)
    | 2 => decide (0 < sl.holdLeft)
    | _ => false

/-- A trigger held off counts, and a COUNT holdoff counts it down; the one that exhausts it gives the ready instant (R128). -/
def State.holdOff (s : State) (k : Nat) (sl : Slot) (a : Asked) (inOrder : Bool) : State :=
  let s := s.countT k 2
  if inOrder && decide (s.fld (TRG.SLOT_CFG.HOLD k) = 2) then
    let left := sl.holdLeft - 1
    if left = 0 then
      let s := s.setSlot k (some { sl with holdLeft := 0, ready := some (max ((sl.tLast.getD 0) + rearmTime) a.t) })
      if sl.isPast then s else s.setF (TRG.SLOT_STATUS.HOLDOFF k) 0
    else s.setSlot k (some { sl with holdLeft := left })
  else s

/-- A qualified trigger of slot `k` is judged, counted as qualified now unless it is a call, which was at its delivery (R126, R127, R132,
R168). -/
def State.judgeTrig (s : State) (k : Nat) (a : Asked) : Option Call × State :=
  match s.slotOf? k, s.slotPlan k with
  | some sl, some pl =>
    let s := if a.origin = 1 then s else s.countT k 0
    let inOrder := match sl.tLast with
      | some l => decide (l ≤ a.t)
      | none => true
    if inOrder then
      if s.holding k sl a then (none, s.holdOff k sl a true)
      else if (match sl.tLast with
          | some l => decide (a.t < l + rearmTime)
          | none => false) then (none, s.loseTrig k sl a 0)
      else s.judgeTail k sl pl a true
    else if sl.remembered.any fun r => decide (r.1 ≤ a.t + rearmTime) && decide (a.t < r.2) then (none, s.holdOff k sl a false)
    else s.judgeTail k sl pl a false
  | _, _ => (none, s)

/-- The trigger of a call, on the present count. -/
def State.askCall (s : State) (c : Call) : Asked :=
  { t := s.timeOf c.tick c.frac, tick := c.tick, frac := c.frac, quality := c.quality, origin := 1, term := 0, trick := some c.trick }

/-- A call is delivered to the armed slots with CALL_RX set, but for the slot that sent it (R134, R239, R240). DEDUCED (log entry 87):
it qualifies now (R168), and waits for the local decision of the evaluation instant that contains its delivery, for it is judged after it
(R126). -/
def State.deliverCall (s : State) (c : Call) (but : Option Nat) : State :=
  (List.range 8).foldl (fun (s : State) k => match s.slotOf? k, s.slotPlan k with
    | some sl, some pl =>
      if sl.armed && pl.callRx && but != some k then
        let held : HeldCall := { slot := k, inst := s.now * instPerTick (s.fld (TRG.SLOT_CFG.TE k)) / 10, call := c, gen := sl.gen, at_ := s.now }
        State.countT { s with trg := { s.trg with calls := s.trg.calls ++ [held] } } k 0
      else s
    | _, _ => s) s

/-- A trigger placed at time `t` is qualified in the arm that the slot stands for: armed, or placed before the disarm instant (R126). -/
def Slot.liveAt (sl : Slot) (t : Nat) : Bool :=
  match sl.disarmAt with
  | some d => decide (t < d * finePerNs)
  | none => sl.armed

/-- The slot as the judging of its earlier arm `p` sees it. -/
def Slot.ofPast (sl : Slot) (p : PastArm) : Slot :=
  { sl with armed := false, gen := p.gen, firstInst := p.firstInst, disarmAt := some p.disarmAt, lateArm := p.lateArm
            matched := p.matched, tLast := p.tLast, remembered := p.remembered, holdEnd := p.holdEnd, holdLeft := p.holdLeft
            ready := p.ready, lostSince := p.lostSince }

/-- The slot with the present arm of `sl` again, and what the earlier arm has become. -/
def Slot.fromPast (x sl : Slot) (p : PastArm) : Slot :=
  { x with armed := sl.armed, gen := sl.gen, firstInst := sl.firstInst, disarmAt := sl.disarmAt, lateArm := sl.lateArm
           matched := sl.matched, tLast := sl.tLast, remembered := sl.remembered, holdEnd := sl.holdEnd, holdLeft := sl.holdLeft
           ready := sl.ready, lostSince := sl.lostSince
           past := x.past.map fun y => if y.gen = p.gen then x.endArm p.disarmAt else y }

/-- `f` done on slot `k` as its arm `gen` stands: an earlier arm is judged on its own history (R126, R159). A slot that a trigger of an
earlier arm leaves without a set to reserve disarms (R154). -/
def State.inArm (s : State) (k gen : Nat) (f : State → State) : State :=
  match s.slotOf? k with
  | none => s
  | some sl =>
    match sl.past.find? fun p => p.gen == gen with
    | none => if sl.gen = gen then f s else s
    | some p =>
      let s := f (s.setSlot k (some (sl.ofPast p)))
      match s.slotOf? k with
      | none => s
      | some x =>
        let s := s.setSlot k (some (x.fromPast sl p))
        if sl.armed && s.bit (ACQ.SLOT_STATE.FULL k) then s.disarm k else s

/-- The calls delivered to slot `k` up to instant `n` are judged, in order of delivery (R126, R134). -/
def State.judgeCalls (s : State) (k n : Nat) : State :=
  let due := s.trg.calls.filter fun c => c.slot == k && decide (c.inst ≤ n)
  let s := { s with trg := { s.trg with calls := s.trg.calls.filter fun c => !(c.slot == k && decide (c.inst ≤ n)) } }
  due.foldl (fun (s : State) c => (s.inArm k c.gen fun s => (s.judgeTrig k (s.askCall c.call)).2).alsoSnap s k c.at_) s

/-- A trigger of a term or a force is judged; the call it sends goes to the unit's own other slots too (R239). -/
def State.judgeLocal (s : State) (k : Nat) (a : Asked) : State :=
  let (c, s) := s.judgeTrig k a
  match c with
  | some c => s.deliverCall c (some k)
  | none => s

/-! ### Terms (R116 to R122) -/

/-- The qualifier bits of term `t` stretched over its window, at the newest instant seen (R117). -/
def stretched (seen : List Seen) (n win : Nat) : Nat :=
  (seen.filter fun x => decide (n < x.inst + win + 1)).foldl (fun a x => Nat.lor a x.q) 0

/-- Term `t` matches at instant `n` (R117). -/
def State.termMatches (s : State) (seen : List Seen) (n t : Nat) : Bool :=
  Nat.land (Nat.xor (stretched seen n (s.fld (TRG.TERM_CTRL.WIN t))) (s.termVal t)) (s.termCare t) == 0

/-- The source of a term's REF bit. -/
def State.refSource (s : State) (t : Nat) : Nat := s.fld (TRG.QMAP.SRC (s.fld (TRG.TERM_CTRL.REF t)))

/-- The selected terms that match at instant `n`, as a bit set. -/
def State.matching (s : State) (sel : Nat) (seen : List Seen) (n : Nat) : Nat :=
  (List.range 64).foldl (fun a t => if bitOf sel t && s.termMatches seen n t then a + 2 ^ t else a) 0

/-- The credited term: the lowest-numbered that fires, by onset or by retrigger (R118, R120). -/
def State.firing (s : State) (old new : Nat) (first retrigger : Bool) : Option Nat :=
  (List.range 64).find? fun t =>
    bitOf new t && (first || !bitOf old t || (retrigger && bitOf old t && !s.eventSource (s.refSource t)))

/-- The trigger time and quality of a firing of term `t` at instant `n` (R122). DEDUCED (log entry 88): the time of an event is its
timestamp's, rounded to 2^-24 tick (R35), also where the judging compares it; the start of an instant is exact. -/
def State.firingTime (s : State) (k : Nat) (seen : List Seen) (n t : Nat) : SrcEvent :=
  let src := s.refSource t
  if s.eventSource src then
    match (seen.filter fun x => decide (n < x.inst + s.fld (TRG.TERM_CTRL.WIN t) + 1)).findSome? fun x =>
        if (Tbl.get (0, 255) x.events src).2 = 255 then none else some (Tbl.get (0, 255) x.events src) with
    | some e => e
    | none => (s.instStart k n, 4)
  else (s.instStart k n, 4)

/-! ### Evaluation instants (R114, R118, R120, R121, R126, R133) -/

/-- A force of slot `k` is taken at instant `n`: it reached the fabric by the instant's start (R133). DEDUCED (log entry 89): an instant
that starts exactly when the force arrives begins after it. -/
def State.forceTaken (s : State) (k n : Nat) : Bool :=
  match Tbl.get 0 s.trg.forceAt k with
  | 0 => false
  | c + 1 => decide (c * finePerNs ≤ s.instStart k n)

/-- The decision for an instant in the arm that the slot stands for: terms, retriggers and force (R118, R126, R133). Triggers placed at or
after the disarm instant are not qualified; instants before the arm count as inactive (R117). -/
def State.decideIn (s : State) (k n : Nat) : State :=
  match s.slotOf? k, s.slotPlan k with
  | some sl, some pl =>
    let start := s.instStart k n
    let seen := sl.seen.filter fun x => decide (sl.firstInst ≤ x.inst)
    let new := s.matching pl.termSel seen n
    let ready := match sl.ready with
      | some t => decide (t ≤ start)
      | none => false
    let fired := s.firing sl.matched new (n == sl.firstInst) ready
    let s := s.setSlot k (some { sl with matched := new, ready := if ready then none else sl.ready })
    if !sl.liveAt start then s
    else
      let forced := s.forceTaken k n
      let s := if forced then s.clearForce k else s
      match fired with
      | some t =>
        let (time, quality) := s.firingTime k seen n t
        let (tick, frac) := s.stamp time
        s.judgeLocal k { t := time, tick := tick, frac := frac, quality := quality, origin := 0, term := t, trick := none }
      | none =>
        if forced then
          let (tick, frac) := s.stamp start
          s.judgeLocal k { t := start, tick := tick, frac := frac, quality := 7, origin := 2, term := 0, trick := none }
        else s
  | _, _ => s

/-- The arm of a slot that instant `n`, which starts at `t`, belongs to: an earlier one whose judging is not over, or the present one. -/
def Slot.armOf (sl : Slot) (n t : Nat) : Option Nat :=
  match sl.past.find? fun p => decide (p.firstInst ≤ n) && decide (t < p.disarmAt * finePerNs) with
  | some p => some p.gen
  | none => if (sl.armed || sl.disarmAt.isSome) && decide (sl.firstInst ≤ n) then some sl.gen else none

/-- The decision for an instant of a slot, and then the calls delivered in it (R126). -/
def State.decideInstant (s : State) (k : Nat) (r : Raw) : State :=
  match s.slotOf? k, s.slotPlan k with
  | some sl, some pl =>
    let per := instPerTick (s.fld (TRG.SLOT_CFG.TE k))
    let x : Seen := { inst := r.inst, q := r.q, events := s.instEvents per r.inst pl.termSel r.events }
    let s := s.setSlot k (some { sl with seen := (x :: sl.seen).take 64 })
    let s := match sl.armOf r.inst (s.instStart k r.inst) with
      | some gen => (s.inArm k gen fun s => s.decideIn k r.inst).alsoSnap s k (s.instStart k r.inst / finePerNs)
      | none => s
    s.judgeCalls k r.inst
  | _, _ => s

/-- The samples of a channel in instant `n`: the first, and how many. -/
def instSamples (spt per n : Nat) : Nat × Nat :=
  let a := (n * spt + per - 1) / per
  let b := ((n + 1) * spt + per - 1) / per
  (a, b - a)

/-- Corrected samples of one channel, from number `n` on: clip counts, detectors A and B, the tracking window and the history (R17, R70,
R101, R108). -/
def State.takeSamples (s : State) (c n : Nat) (xs : List Int) (seen : Tbl DetSeen) : Tbl DetSeen × State :=
  let s := s.bumpF (CNV.OVER_COUNT.COUNT c) (xs.filter fun x => x == 2047).length
  let s := s.bumpF (CNV.UNDER_COUNT.COUNT c) (xs.filter fun x => x == -2048).length
  let (a, s) := s.runDet (2 * c) n xs
  let (b, s) := s.runDet (2 * c + 1) n xs
  (Tbl.insert (2 * c + 1) b (Tbl.insert (2 * c) a seen), (s.trackSamples c n xs).deliver c n xs)

/-- The first raw conversion that instant `n` of a channel still needs, and the one after the last: the filters look past its samples on
both sides. -/
def State.convNeeds (s : State) (c per n : Nat) : Nat × Nat :=
  let x := instSamples (s.spt c) per n
  let stop := x.1 + x.2 + s.reach c
  (min (max (Tbl.get 0 s.cnv.convN c) (x.1 - s.reach c)) stop, stop)

/-- The raw conversions that an instant of a slot delivers name its channels in order with the right lengths, and have been made. -/
def State.samplesFit (s : State) (pl : Plan) (per n : Nat) (l : List (Nat × List Nat)) : Bool :=
  l.map Prod.fst == pl.chans.map Chan.ch &&
    l.all fun x => let r := s.convNeeds x.1 per n
      rawsOk x.2 && decide (x.2.length = r.2 - r.1) && decide (r.2 * 10 ≤ s.now * s.spt x.1)

/-- Samples of channel `c` before number `a` that its last conversions held back for the filters. -/
def State.flushHeld (s : State) (c a : Nat) : State :=
  let top := Tbl.get 0 s.acc.histN c
  if top < a ∧ a ≤ top + s.reach c then (s.takeSamples c top (s.corrected c top a) []).2 else s

/-- The conversions of an instant enter, and give its channels' corrected samples. -/
def State.convertInst (s : State) (per n : Nat) (l : List (Nat × List Nat)) : List (Nat × List Int) × State :=
  let s := l.foldl (fun (s : State) x => s.convert x.1 (s.convNeeds x.1 per n).1 x.2) s
  let s := l.foldl (fun (s : State) x => s.flushHeld x.1 (instSamples (s.spt x.1) per n).1) s
  (l.map fun x => let r := instSamples (s.spt x.1) per n
    (x.1, s.corrected x.1 r.1 (r.1 + r.2)), s)

/-- Instant `n` of slot `k` with its conversions (log entry 28): they are corrected, the detectors run, the coder and the imager take the
samples, and the instant before it is decided. -/
def State.runInstant (s : State) (k n : Nat) (pl : Plan) (raws : List (Nat × List Nat)) : State :=
  let per := instPerTick (s.fld (TRG.SLOT_CFG.TE k))
  let (l, s) := s.convertInst per n raws
  let (seen, s) := l.foldl (fun (y : Tbl DetSeen × State) x =>
    y.2.takeSamples x.1 (instSamples (s.spt x.1) per n).1 x.2 y.1) ([], s)
  let s := l.foldl (fun s x =>
    let a := (instSamples (s.spt x.1) per n).1
    (List.range x.2.length).foldl (fun s j => s.decimate k x.1 (a + j) (x.2.getD j 0)) s) s
  let s := s.pumpImages
  let s := s.bumpF (TRG.COALESCED.COUNT k) (s.merged per n pl.termSel seen)
  let raw : Raw := { inst := n, q := s.qualVector per n seen, events := seen.filterMap fun e => e.2.first }
  match s.slotOf? k with
  | none => s
  | some x =>
    let s := s.setSlot k (some { x with raw := some raw, inst := n + 1 })
    let s := match x.raw with
      | some r => s.decideInstant k r
      | none => s
    (s.releaseIfJudged k).settle

/-- The conversions of the last cycle of a channel that no slot holds: the first one's number. -/
def State.freeFrom (s : State) (c : Nat) : Nat := (s.now - 1) * s.spt c / 10

/-- The conversions of the last cycle of a channel that no slot holds fit. -/
def State.freeFits (s : State) (x : Nat × List Nat) : Bool :=
  s.chanExists x.1 && (s.slotHolding x.1).isNone && rawsOk x.2 && decide (x.2.length = 4 * s.lanes x.1) &&
    decide (Tbl.get 0 s.cnv.convN x.1 ≤ s.freeFrom x.1)

/-- A channel that no slot holds takes the conversions of the last cycle; its corrected samples follow at the filters' distance. -/
def State.runFree (s : State) (x : Nat × List Nat) : State :=
  let n := s.freeFrom x.1
  let a := if Tbl.get 0 s.cnv.convN x.1 = n then n - s.reach x.1 else n
  let s := s.convert x.1 n x.2
  (s.takeSamples x.1 a (s.corrected x.1 a (n + x.2.length - s.reach x.1)) []).2

/-- What the pins in use were in instant `n` is known: their glitch filters confirm a change 250 ps after it (R121, R138). -/
def State.pinsKnown (s : State) (per n : Nat) : Bool :=
  ((List.range 4).all fun i => !s.bit (TRG.PIN_CFG.IN_USE i)) || decide ((pinSpan per n).2 + 3 ≤ s.pinNow)

/-- EVALUATION_INSTANT: the next instant of slot `k`, over whole, with its pins' changes confirmed; or, with no slot, the conversions of the last cycle of channels that no
slot holds (R71, R108, R114, R118; log entries 25, 28). -/
def effEvaluationInstant (slot : Option Nat) (l : List (Nat × List Nat)) (s : State) : State :=
  if !s.running then s
  else match slot with
    | some k =>
      match s.slotOf? k, s.slotPlan k with
      | some sl, some pl =>
        let per := instPerTick (s.fld (TRG.SLOT_CFG.TE k))
        let n := sl.inst
        if decide ((n + 1) * 10 ≤ s.now * per) && s.pinsKnown per n && s.samplesFit pl per n l then s.runInstant k n pl l else s
      | _, _ => s
    | none => if decide (0 < s.now) && l.all s.freeFits then l.foldl State.runFree s else s

/-! ### Force, marks, re-arm points, counters -/

/-- A write of TRG.FORCE requests a force on slot `k`; it reaches the fabric after a time of 0 to 200 ns that the spec leaves open
(R133, log entry 2). On a slot that is not armed the bit is cleared. -/
def effForce (k : Nat) (s : State) : State :=
  if s.served 0x40004 && decide (k < 8) then
    match s.slotOf? k with
    | some sl =>
      if sl.armed && !bitOf (s.fld TRG.FORCE.FORCE) k then
        let (v, s) := s.free
        let s := { s with trg := { s.trg with forceAt := Tbl.set 0 s.trg.forceAt k (s.now + v % 201 + 1) } }
        s.setF TRG.FORCE.FORCE (withBit (s.fld TRG.FORCE.FORCE) k)
      else s
    | none => s
  else s

/-- ACTION_TIME_MARK asserts its mark's qualifier for the tick in which it executes (Table 05-2). -/
def effActionTimeMark (n : Nat) (s : State) : State :=
  s.runAction n 12 (fun _ => true) fun o s =>
    (none, { s with trg := { s.trg with marks := ((o.arg % 4, s.now / cyclesPerTick * cyclesPerTick) :: s.trg.marks).take 64 } })

/-- Slot `k` is within the re-arm time of an accepted trigger. -/
def State.inRearm (s : State) (k : Nat) : Bool :=
  match s.slotOf? k with
  | some sl => (match sl.tLast with
    | some t => sl.armed && decide (s.now * finePerNs < t + rearmTime)
    | none => false)
  | none => false

/-- A re-arm point: of slot `k`, the end of a re-arm time or a tick boundary outside one; or, with none, the tick boundary at which the
detectors of channels that no plan holds take their changes (R136). -/
def effRearmPoint (slot : Option Nat) (s : State) : State :=
  match slot with
  | some k =>
    if decide (k < 8) && !s.inRearm k && (s.bit (TRG.SLOT_STATUS.REARM k) || decide (s.cyc = 0)) then
      let s := (s.setF (TRG.SLOT_STATUS.REARM k) 0).applyHold k
      match s.slotPlan k with
      | some pl => pl.chans.foldl (fun (s : State) (c : Chan) => (s.applyDet (2 * c.ch)).applyDet (2 * c.ch + 1)) s
      | none => s
    else s
  | none =>
    if s.cyc = 0 then
      (List.range 128).foldl (fun s i => if (s.slotHolding (i / 2)).isNone then s.applyDet i else s) s
    else s

/-- A TIME or END_OF_RECORD holdoff ends (R128). -/
def effHoldoffEnd (k : Nat) (s : State) : State :=
  match s.slotOf? k with
  | some sl => (match sl.holdEnd with
    | some h => if h ≤ s.now * finePerNs then s.setF (TRG.SLOT_STATUS.HOLDOFF k) 0 else s
    | none => s)
  | none => s

/-- The counters that TRG.CMD.CLR_COUNTS clears (R142). -/
def trgCounters : List Fld :=
  ((List.range 4).flatMap fun i => [TRG.PIN_COUNT.EDGES i, TRG.PIN_FILTER.GLITCH i, TRG.PIN_FILTER.COALESCED i]) ++
    ((List.range 2).flatMap fun n => [TRG.OUT_COUNT.PULSES n, TRG.OUT_COUNT.MERGED n]) ++ (List.range 8).map TRG.COALESCED.COUNT

/-- TRG.CMD.CLR_COUNTS (R142). -/
def effTrgClrCounts (s : State) : State := if s.served 0x40000 then s.clearCounts trgCounters else s

def execEvaluationInstant (slot : Option Nat) (l : List (Nat × List Nat)) (s : State) : Res := .next (effEvaluationInstant slot l s)
def execTrigOutPulse (n : Nat) (s : State) : Res := .next (effTrigOutPulse n s)
def execTrigOutPulseEnd (n : Nat) (s : State) : Res := .next (effTrigOutPulseEnd n s)
def execLlSelWrite (v : Nat) (s : State) : Res := .next (effLlSelWrite v s)
def execForce (k : Nat) (s : State) : Res := .next (effForce k s)
def execActionTimeMark (n : Nat) (s : State) : Res := .next (effActionTimeMark n s)
def execRearmPoint (slot : Option Nat) (s : State) : Res := .next (effRearmPoint slot s)
def execHoldoffEnd (k : Nat) (s : State) : Res := .next (effHoldoffEnd k s)
def execTrgClrCounts (s : State) : Res := .next (effTrgClrCounts s)

end Sys2Proof.Machine
end

