-- ==== Sys2Proof/Machine/Stop.lean ====
section
/-!
DEFINITION. The stop of a plan's arm and what stops plans (R83, R160, R396).
-/

namespace Sys2Proof.Machine

/-! ### Stop (R160) -/

/-- An open record ends with the samples stored so far, TRUNCATED. -/
def State.truncateRec (s : State) (r : Rec) : Rec := { r with trunc := true, ended := some (r.ended.getD s.now) }

/-- Triggers still in the FIFO are committed; their records hold no samples (R160). -/
def State.commitEmpty : Nat → State → Nat → State
  | 0, s, _ => s
  | n + 1, s, k =>
    match s.slotOf? k with
    | some sl =>
      if sl.fifo.isEmpty then s
      else
        let had := s.acq.recs.map fun r => r.accession
        let s := s.commitOne k
        let empty : Rec → Rec := fun r =>
          if had.contains r.accession then r
          else { s.truncateRec r with segs := r.segs.map fun g => { g with blks := [], cut := some (r.s / (64 * r.n)) } }
        State.commitEmpty n { s with acq := { s.acq with recs := s.acq.recs.map empty } } k
    | none => s

/-- What qualified in slot `k` and is not yet judged is judged: the instant delivered last, and the calls delivered. DEDUCED (log entry
120): a stop ends the arm after the judging of what qualified before it, so that the books balance (R126, R160, R168). -/
def State.judgeRest (s : State) (k : Nat) : State :=
  match s.slotOf? k with
  | none => s
  | some sl =>
    let s := match sl.raw with
      | some r => (s.setSlot k (some { sl with raw := none })).decideInstant k r
      | none => s
    (s.trg.calls.filter fun c => c.slot == k).foldl (fun (s : State) c => s.judgeCalls k c.inst) s

/-- A stop ends the arm of slot `k` at once; the plan-stopped fault carries the cause (R160, source 72 + 5k). -/
def State.stopSlot (s : State) (k cause : Nat) (report : Bool) : State :=
  match s.slotOf? k, s.slotPlan k with
  | some x, some pl =>
    if x.armed || x.disarmAt.isSome || s.owes k then
      let was := x.armed
      let s := s.judgeRest k
      let s := match s.slotOf? k with
        | some sl => s.setSlot k (some { sl with armed := false, disarmAt := none, past := [] })
        | none => s
      let s := { s with trg := { s.trg with calls := s.trg.calls.filter fun c => c.slot != k } }
      let s := ((s.showArmed k false).clearForce k).setF (ACQ.SLOT_STATE.STOPPED k) 1
      let s := if was then s.disturb pl else s
      let s := { s with acq := { s.acq with recs := s.acq.recs.map fun (r : Rec) => if r.slot = k then s.truncateRec r else r } }
      let s := s.commitEmpty 65 k
      let spare := match s.slotOf? k with
        | some x => x.unbound.map Prod.fst
        | none => []
      let s := match s.slotOf? k with
        | some x => s.setSlot k (some { x with unbound := [], streams := [] })
        | none => s
      let s := spare.foldl (fun (s : State) j => s.releaseSet pl j) s
      let s := ((s.interruptAdds k).dropImages pl.num).showFifo k
      let s := s.clearFs [TRG.SLOT_STATUS.HOLDOFF k, TRG.SLOT_STATUS.REARM k]
      let s := pl.chans.foldl (fun (s : State) (c : Chan) => s.chanRequest 3 c.ch) s
      let s := if was then s.acceptWrites pl.num else s
      if report then s.raise (72 + 5 * k) 0 pl.num cause 0 else s
    else s
  | _, _ => s

/-- Every armed plan is stopped (R41, R396). -/
def State.stopAllPlans (s : State) (cause : Nat) (report : Bool) : State :=
  ((List.range 8).foldl (fun s k => match s.slotOf? k with
    | some sl => if sl.armed then s.stopSlot k cause report else s
    | none => s) s).settle

/-- Every slot that still owes something stops without a fault of its own: the plans it does not arm are drained (R396). -/
def State.drainSlots (s : State) : State := (List.range 8).foldl (fun s k => s.stopSlot k 4 false) s

/-- The plan that holds a channel is stopped, armed or with records of it still open (R83, R160, R332). -/
def State.stopChannel (s : State) (c cause : Nat) : State :=
  match s.slotHolding c with
  | none => s
  | some k => if s.owes k then (s.stopSlot k cause true).settle else s

end Sys2Proof.Machine
end

