-- ==== Sys2Proof/Machine/Admission.lean ====
section
/-!
DEFINITION. Admission: the requests waiting for it are decided one at a time, in the order received (R28, R257); the recomputation
after a capacity loss (R22, R258).
-/

namespace Sys2Proof.Machine

/-- The display's reservation is decided: the link trains, or the display stays off (R309, R315); with no panel there the link is lost. A
display that kept Panel Self Refresh through DORMANT leaves it (R316). -/
def State.decideDisplay (s : State) : State :=
  let (res, s) := s.popReq.judgeAdmission 2 0 [(32, s.displayResv)] true 0
  if res = 0 then
    let s := { s with dsp := { s.dsp with admitted := true } }
    if s.dspState = dspPsr then s.requestExit false
    else if s.dsp.hpd then s.trainDisplay else s.loseLink
  else s.setDspState dspRefused

/-- The composer's reservation is decided (R210). -/
def State.decideComposer (s : State) : State :=
  let (res, s) := s.popReq.judgeAdmission 3 0 [(33, s.composerResv)] true 0
  if res = 0 then { s with acc := { s.acc with compOn := true } }.setF ACC.COMP_STATUS.REFUSED 0
  else s.setF ACC.COMP_STATUS.REFUSED 1

/-- A queue's guarantee is decided against the channels and the link (R288). -/
def State.decideGuarantee (s : State) (r : AdmReq) : State :=
  let g := s.fld (RDO.Q_GUAR.GUAR r.id)
  let excess := s.heldGuarantees + g - s.fld RDO.LINK_CEIL.CEIL
  let (res, s) := s.popReq.judgeAdmission 4 r.id [(64 + r.id, [(g, 1)])] true excess
  if res = 0 then
    let x := s.queue r.id
    ((s.setQueue r.id { x with credit := 0, creditAt := s.now }).setF (RDO.Q_STATE.GUAR_STATE r.id) 1).showLinkCeil
  else s.setF (RDO.Q_STATE.GUAR_STATE r.id) 2

/-- The request at the head of the queue is decided (R28, R257). -/
def State.decideHead (s : State) : State :=
  if s.running then
    match s.mem.reqs with
    | [] => s
    | r :: _ =>
      match r.kind with
      | 0 => s.decideActivation r
      | 1 => s.decideGrant r
      | 2 => s.decideDisplay
      | 3 => s.decideComposer
      | 4 => s.decideGuarantee r
      | 6 => s.decideLeave r
      | _ => s.decideArm r
  else s

/-! ### Recomputation after a loss (R22, R258) -/

/-- The reservations fit every channel in service. -/
def State.fits (s : State) : Bool := decide (totalShare s.carriers s.mem.resv ≤ s.fld MEM.CEIL.CEIL)

/-- A plan is stopped for capacity: its fault, its deactivation, and its reservations at once (R22, R160). -/
def State.dropPlan (s : State) (k : Nat) : State :=
  match s.slotPlan k with
  | none => s
  | some pl =>
    let busy := match s.slotOf? k with
      | some sl => sl.armed || sl.disarmAt.isSome || s.owes k
      | none => false
    let s := if busy then s.stopSlot k 1 true else s.raise (72 + 5 * k) 0 pl.num 1 0
    let s := match s.slotOf? k with
      | some sl => s.setSlot k (some { sl with leaving := true })
      | none => s
    (s.setResv (Tbl.erase (Tbl.erase (Tbl.erase s.mem.resv (4 * k)) (4 * k + 1)) (4 * k + 2))).settle

/-- Active plans whose reservations are still held. -/
def State.payingSlots (s : State) : List Nat :=
  s.activeSlots.filter fun k => s.mem.resv.any fun e => decide (e.1 < 32) && e.1 / 4 == k

/-- The plan to stop next: lowest PRIORITY, then activated last. -/
def State.nextVictim (s : State) : Option Nat :=
  s.payingSlots.foldl (fun (b : Option Nat) k =>
    match b, s.slotPlan k, s.slotOf? k with
    | none, _, _ => some k
    | some j, some pk, some sk => match s.slotPlan j, s.slotOf? j with
      | some pj, some sj => if pk.prio < pj.prio ∨ (pk.prio = pj.prio ∧ sj.order < sk.order) then some k else some j
      | _, _ => some k
    | some j, _, _ => some j) none

/-- Plans are stopped one at a time until the rest fit. -/
def State.shedPlans : Nat → State → State
  | 0, s => s
  | n + 1, s => if s.fits then s else match s.nextVictim with
    | some k => State.shedPlans n (s.dropPlan k)
    | none => s

/-- Guarantees are withdrawn from the highest queue down until the rest fit. -/
def State.shedGuarantees (s : State) : State :=
  s.guaranteed.reverse.foldl (fun (s : State) q => if s.fits then s else s.withdrawQueue q) s

/-- The recomputation of R258 after the loss of channel `c`. -/
def State.recompute (s : State) (c : Nat) : State :=
  let s := s.setResv s.mem.resv
  let demand := totalShare s.carriers s.mem.resv
  let ceil := s.fld MEM.CEIL.CEIL
  let cut := s.activeSlots.filter fun k => match s.slotPlan k with
    | some pl => !s.planMapped pl
    | none => false
  let s := s.reportAdmit 5 c (if ceil < demand then 1 else if cut.isEmpty then 0 else 2) demand (demand - ceil)
  let s := cut.foldl State.dropPlan s
  let s := (State.shedPlans 8 s).shedGuarantees
  if s.fits || !s.acc.compOn then s else s.stopComposer.setF ACC.COMP_STATUS.REFUSED 1


end Sys2Proof.Machine
end

