-- ==== Sys2Proof/Machine/Ensemble.lean ====
section
/-!
DEFINITION. The ensemble: calls received, ordinary messages, links, enumeration, dealer and deals (R214 to R244). What the sender
of a command says is what arrives at a Quoda port; the model answers with what the port sends.
-/

namespace Sys2Proof.Machine

/-! ### Ordinary messages (R221, R222) -/

/-- NBLK of a message type (Table 09-4). -/
def nblkOf (typ : Nat) : Nat := if typ = 3 then 3 else 4

/-- A message read from the bytes of its blocks; none when its check fails (R221). -/
def readMsg (bs : List Byte) : Option Msg :=
  let nblk := num bs 7 1
  let typ := num bs 1 1
  let len := 8 + 8 * nblk
  if bs.length = len ∧ nblk = nblkOf typ ∧ 1 ≤ typ ∧ typ ≤ 5 ∧ num bs (len - 4) 4 = crc32 (slice bs 1 (len - 5)) then
    some { typ := typ, dst := num bs 2 1, src := num bs 3 1, hops := num bs 4 1, seq := num bs 5 2 % 2 ^ 15
           copy := num bs 5 2 / 2 ^ 15, nblk := nblk, data := slice bs 8 (8 * nblk - 4) }
  else none

/-- A block that is the start of an ordinary message (Table 09-2). -/
def wireStarts (b : WireBlock) : Bool := b.sync == 2 && num b.bytes 0 1 == 0x66

/-- The copy of an ordinary message among blocks that arrived: from its MSG block on. What came before it belongs to no message. -/
def msgBlocks (bl : List WireBlock) : List WireBlock := bl.dropWhile fun b => !wireStarts b

/-- The message a copy spells: data blocks follow its MSG block, and its check passes (R215, R221). -/
def readCopy (bl : List WireBlock) : Option Msg :=
  if (bl.drop 1).all fun b => b.sync == 1 then readMsg (bl.flatMap WireBlock.bytes) else none

/-- Serial number carried by an ENUM message (Table 09-4). -/
def Msg.serial (m : Msg) : List Byte := slice m.data 8 16

/-- A pair of copies of a message, two GUARD blocks between them, goes out of port `p`, as its queue allows (R218, R222). -/
def State.sendOn (s : State) (p : Nat) (forwarded : Bool) (m : Msg) : State :=
  (s.queueMsg p (2 * (1 + m.nblk) + 2) forwarded
    [.quoda p ({ m with copy := 0 } : Msg).bytes, .guards p, .quoda p ({ m with copy := 1 } : Msg).bytes]).2

/-- The next ordinary-message SEQ. -/
def State.takeSeq (s : State) : Nat × State :=
  (s.ens.msgSeq, { s with ens := { s.ens with msgSeq := (s.ens.msgSeq + 1) % 2 ^ 15 } })

/-- The originator sends a message with HOPS 0 out of the UP ports chosen (R217). -/
def State.originateOn (s : State) (ports : List Nat) (typ dst : Nat) (data : List Byte) : State :=
  let (q, s) := s.takeSeq
  let m : Msg := { typ := typ, dst := dst, src := s.fld ENS.STATUS.ADDR, hops := 0, seq := q, copy := 0, nblk := nblkOf typ, data := data }
  ports.foldl (fun (s : State) p => if s.portUp p then s.sendOn p false m else s) s

/-- A message sent out of every UP port (R217). -/
def State.originate (s : State) (typ dst : Nat) (data : List Byte) : State := s.originateOn [0, 1] typ dst data

/-! ### Acceptance windows (R223) -/

/-- SEQ `a` is later than `b`, modulo 2^15 within half the range (R223). -/
def laterSeq (a b : Nat) : Bool := let d := (a + 2 ^ 15 - b % 2 ^ 15) % 2 ^ 15; decide (0 < d) && decide (d < 2 ^ 14)

/-- A SEQ is accepted by a window: later than the oldest value held and not among them (R223). -/
def accepts (w : List Nat) (q : Nat) : Bool :=
  match w.getLast? with
  | none => true
  | some old => laterSeq q old && !w.contains q

/-- A window with a value accepted: the last 64. -/
def pushSeq (w : List Nat) (q : Nat) : List Nat := (q :: w).take 64

/-- The window of ENUM messages of a serial number (R223). -/
def State.enumWindow (s : State) (serial : List Byte) : List Nat :=
  ((s.ens.enumSeen.find? fun e => e.1 == serial).map Prod.snd).getD []

/-- A message is judged against its source's window: accepted or a duplicate (R223). -/
def State.acceptMsg (s : State) (m : Msg) : Bool × State :=
  if m.typ = 1 then
    let w := s.enumWindow m.serial
    if accepts w m.seq then
      let rest := s.ens.enumSeen.filter fun e => e.1 != m.serial
      (true, { s with ens := { s.ens with enumSeen := (m.serial, pushSeq w m.seq) :: rest } })
    else (false, s)
  else
    let w := Tbl.get [] s.ens.msgSeen m.src
    if accepts w m.seq then (true, { s with ens := { s.ens with msgSeen := Tbl.set [] s.ens.msgSeen m.src (pushSeq w m.seq) } })
    else (false, s)

/-! ### Forwarding (R217, R218) -/

/-- U of the hop limit: ENS.STATUS.UNITS, or 253 while it is 0 (R217). -/
def State.hopUnits (s : State) : Nat := if s.fld ENS.STATUS.UNITS = 0 then 253 else s.fld ENS.STATUS.UNITS

/-- A message of the unit's own: its address, and its serial number for the ENUM messages that units send (R217, R223; log
entry 34). Address 0 names no unit. -/
def State.ownMsg (s : State) (m : Msg) : Bool :=
  (m.src != 0 && m.src == s.fld ENS.STATUS.ADDR) ||
    (m.typ == 1 && (num m.data 0 1 == 1 || num m.data 0 1 == 3) && m.serial == padTo Config.serial 16)

/-- What two copies of one pair have in common. -/
def Msg.pairKey (m : Msg) : List Byte := ({ m with copy := 0 } : Msg).bytes

/-- A message is forwarded on the other port once per pair, at its first intact copy (R217, R218). -/
def State.forwardMsg (s : State) (p : Nat) (m : Msg) : State :=
  let again := m.copy == 1 && Tbl.get [] s.ens.fwdMsg p == m.pairKey
  let s := { s with ens := { s.ens with fwdMsg := Tbl.set [] s.ens.fwdMsg p (if again then [] else m.pairKey) } }
  if !again && s.portUp (1 - p) && !s.ownMsg m && decide (m.hops + 1 + 1 < s.hopUnits) then
    s.sendOn (1 - p) true { m with hops := m.hops + 1 }
  else s

/-- Block types of Table 09-2. -/
def blockTypes : List Nat := [0x33, 0x3C, 0x55, 0x56, 0x57, 0x66]

/-- An errored block: its sync header is invalid, or it is a control block of a type that is none of Table 09-2 (R215). -/
def wireErrored (b : WireBlock) : Bool :=
  !(b.sync == 1 || b.sync == 2) || (b.sync == 2 && !blockTypes.contains (num b.bytes 0 1))

/-- The errored blocks among those that arrived at a port are counted, in a message or outside one (R215). -/
def State.erroredBlocks (s : State) (p : Nat) (bl : List WireBlock) : State :=
  s.bumpF (ENS.PORT_ERR.BLOCK_ERR p) (bl.filter wireErrored).length

/-- An intact message is the one its command names: its TYPE and, where there are several, its OP. -/
def Msg.names (m : Msg) (typ : Nat) (op : Option Nat) : Bool :=
  m.typ == typ && (match op with
    | some o => num m.data 0 1 == o
    | none => true)

/-- A copy of an ordinary message arrives at an UP port, with what came before it since the last message: its blocks and its check, then
judged, acted on, forwarded (R215, R218, R221, R223). `act` gets whether the copy is accepted; it runs for messages to this unit that are
not its own. -/
def State.takeMsg (s : State) (p typ : Nat) (op : Option Nat) (bl : List WireBlock) (act : Msg → Bool → State → State) : State :=
  if s.portUp p && s.portsRun then
    let s := s.erroredBlocks p bl
    match msgBlocks bl, readCopy (msgBlocks bl) with
    | [], _ => s
    | _, none => s.bumpF (ENS.PORT_ERR.CRC_ERR p) 1
    | _, some m =>
      if m.names typ op = false then s
      else
      let s := s.forwardMsg p m
      if s.ownMsg m then act m false s
      else if m.dst ≠ 255 ∧ m.dst ≠ s.fld ENS.STATUS.ADDR then s
      else
        let (fresh, s) := s.acceptMsg m
        act m fresh s
  else s

/-! ### Trick counters (R237) -/

/-- TRICK_HIGH raised to a later trick number, and TRICK_NEXT past it (R237). -/
def State.seeTrick (s : State) (t : Nat) : State :=
  let s := if laterTrick t (s.fld ENS.TRICK_HIGH.HIGH) then s.setF ENS.TRICK_HIGH.HIGH t else s
  let n := (t + 1) % 2 ^ 32
  if laterTrick n (s.fld ENS.TRICK_NEXT.NEXT) then s.setTrickNext n else s

/-! ### Calls (R218, R220, R223, R224, R240) -/

/-- The 18 bytes SRC to QUALITY of a call's three blocks, and its CRC (Table 09-3). -/
def callBody (bs : List Byte) : List Byte := slice bs 1 7 ++ slice bs 9 7 ++ slice bs 17 4
def callCrc (bs : List Byte) : Nat := num bs 21 3

/-- The call a body spells. -/
def readCall (b : List Byte) : Call :=
  { src := num b 0 1, seq := num b 2 2 % 2 ^ 15, trick := num b 4 4, tick := BitVec.ofNat 48 (num b 8 6), frac := num b 14 3
    quality := num b 17 1 }

/-- A copy leaves on the other port as it passes, with HOPS increased and a CRC that fails at every later unit when the check failed
here (R217, R218, R220); one whose CALL_A is errored cannot leave. The pair takes its place in the queue at its first copy, or at its
second when the first was not forwarded; the second copy of a dropped pair is dropped with it. -/
def State.forwardCall (s : State) (p : Nat) (second starts : Bool) (bs : List Byte) (intact : Bool) : State :=
  let paired := second && decide (Tbl.get 0 s.ens.firstIn p ≠ 0)
  let b := callBody bs
  let hops := num b 1 1
  let out := (b.take 1) ++ le 1 (hops + 1) ++ b.drop 2
  let crc := crc24 out
  let blocks := callBlocks out (if intact then crc else 2 ^ 24 - 1 - crc)
  let q := 1 - p
  let before := if paired then Tbl.get 0 s.ens.fwd q else 0
  let put : Nat → State → State := fun v s => { s with ens := { s.ens with fwd := Tbl.set 0 s.ens.fwd q v } }
  let s := if paired then s else s.closePairs q
  if starts && s.portUp q && num b 0 1 != s.fld ENS.STATUS.ADDR && decide (hops + 1 + 1 < s.hopUnits) then
    if before = 1 then s.addCopy q [.guards q, .callOut q blocks]
    else if before = 2 then s
    else
      let (ok, s) := s.queueCall q true (!second) [.callOut q blocks]
      put (if ok then 1 else 2) s
  else put before s

/-- The copies of a call pair counted: one intact, or none (R224). -/
def State.countPair (s : State) (p : Nat) (first second : Bool) : State :=
  if first && second then s
  else if first || second then s.bumpF (ENS.PORT_COPY.SINGLE p) 1
  else s.bumpF (ENS.PORT_COPY.PAIR_LOST p) 1

/-- The pair in progress at a port has no second copy (R224). -/
def State.endPair (s : State) (p : Nat) : State :=
  match Tbl.get 0 s.ens.firstIn p with
  | 0 => s
  | n + 1 =>
    let s := { s with ens := { s.ens with firstIn := Tbl.set 0 s.ens.firstIn p 0, firstAt := Tbl.set 0 s.ens.firstAt p 0 } }
    s.countPair p (n == 0) false

/-- The copies of a pair judged at a port (R224): 1 the first copy was intact, 2 it failed. -/
def State.judgePair (s : State) (p : Nat) (second intact : Bool) : State :=
  if second then
    let first := Tbl.get 0 s.ens.firstIn p == 1
    let s := { s with ens := { s.ens with firstIn := Tbl.set 0 s.ens.firstIn p 0, firstAt := Tbl.set 0 s.ens.firstAt p 0 } }
    s.countPair p first intact
  else
    let s := s.endPair p
    { s with ens := { s.ens with firstIn := Tbl.set 0 s.ens.firstIn p (if intact then 1 else 2)
                                 firstAt := Tbl.set 0 s.ens.firstAt p (s.now + 1) } }

/-- The second copy follows the first by five blocks, 32 ns: one that has not come by then is missing (R222, R224). -/
def State.missPair (s : State) (p : Nat) : State :=
  if Tbl.get 0 s.ens.firstIn p ≠ 0 ∧ Tbl.get 0 s.ens.firstAt p + 32 ≤ s.now then s.endPair p else s

/-- The key of a call in the tables of pending and lost calls. -/
def callKey (src seq : Nat) : Nat := 2 ^ 15 * src + seq

/-- SEQ values up to `q` become known of a source; those passed over are pending from now on, and lost ones that are no longer earlier,
within half the range, than `q` are forgotten, since their values come round again (R223, R224). -/
def State.knowCalls (s : State) (src q : Nat) (including : Bool) : State :=
  match Tbl.get 0 s.ens.lastCall src with
  | 0 => { s with ens := { s.ens with lastCall := Tbl.set 0 s.ens.lastCall src (q + 1) } }
  | l + 1 =>
    if laterSeq q l then
      let d := (q + 2 ^ 15 - l) % 2 ^ 15
      let n := if including then d else d - 1
      let pend := (List.range n).foldl (fun (t : Tbl Nat) i => Tbl.set 0 t (callKey src ((l + 1 + i) % 2 ^ 15)) (s.now + 1)) s.ens.pend
      let lost := s.ens.lost.filter fun e => e.1 / 2 ^ 15 != src || laterSeq q (e.1 % 2 ^ 15)
      { s with ens := { s.ens with lastCall := Tbl.set 0 s.ens.lastCall src (q + 1), pend := pend, lost := lost } }
    else s

/-- An intact copy of a call is accepted unless it is a duplicate, the unit's own, or lost (R223, R224, R237). -/
def State.acceptCall (s : State) (c : Call) : State :=
  let w := Tbl.get [] s.ens.callSeen c.src
  let key := callKey c.src c.seq
  if c.src = s.fld ENS.STATUS.ADDR ∨ Tbl.get false s.ens.lost key = true ∨ accepts w c.seq = false then s
  else
    let s := s.knowCalls c.src c.seq false
    let s := { s with ens := { s.ens with callSeen := Tbl.set [] s.ens.callSeen c.src (pushSeq w c.seq)
                                          pend := Tbl.set 0 s.ens.pend key 0
                                          deliver := s.ens.deliver ++ [(c, s.now)] } }
    s.seeTrick c.trick

/-- Whether three blocks are the control blocks CALL_A, CALL_B and CALL_C, as far as each goes (Table 09-2). -/
def callTypes (bl : List WireBlock) : List Bool :=
  (bl.zip [0x55, 0x56, 0x57]).map fun x => x.1.sync == 2 && num x.1.bytes 0 1 == x.2

/-- CALL_RECEIVE: a copy of a call, the last three blocks given, arrives at port `p`, after blocks that belong to no message; `second` says
it is the second copy of its pair (R215, R218, R220, R222 to R224). DEDUCED (log entry 106): a copy with a block of another type fails its
check; once its CALL_A has left on the other port, the rest follows so that it fails at every later unit. -/
def effCallReceive (p : Nat) (second : Bool) (bl : List WireBlock) (s : State) : State :=
  if s.portUp p && s.portsRun && decide (3 ≤ bl.length) then
    let s := s.erroredBlocks p bl
    let three := bl.drop (bl.length - 3)
    let bs := three.flatMap WireBlock.bytes
    let intact := decide (callTypes three = [true, true, true]) && callCrc bs == crc24 (callBody bs)
    let s := s.forwardCall p second ((callTypes three).headD false) bs intact
    let s := s.judgePair p second intact
    if intact then s.acceptCall (readCall (callBody bs)) else s.bumpF (ENS.PORT_ERR.CRC_ERR p) 1
  else s

/-- CALL_DELIVER: 8 ns after its check the oldest accepted call goes to the slots with CALL_RX (R240). -/
def effCallDeliver (s : State) : State :=
  match s.ens.deliver with
  | [] => s
  | (c, t) :: rest =>
    if t + 8 ≤ s.now then
      let s := { s with ens := { s.ens with deliver := rest } }
      (s.bumpF ENS.CALL_RX.COUNT 1).deliverCall c none
    else s

/-- CALL_LOST: a pending call has not been accepted within LOST_WAIT (R224). -/
def effCallLost (src q : Nat) (s : State) : State :=
  match Tbl.get 0 s.ens.pend (callKey src q) with
  | 0 => s
  | t + 1 =>
    if t + 100 * s.fld ENS.TIMING.LOST_WAIT ≤ s.now ∧ src < 256 ∧ q < 2 ^ 15 then
      let s := { s with ens := { s.ens with pend := Tbl.set 0 s.ens.pend (callKey src q) 0
                                            lost := Tbl.set false s.ens.lost (callKey src q) true } }
      (s.bumpF ENS.CALL_LOSS.LOST 1).raise 117 0 src q 0
    else s

/-! ### STAT, unit table, dealer (R221, R226, R234, R238) -/

/-- STAT period in cycles. -/
def State.statPeriod (s : State) : Nat := 1000 * s.fld ENS.TIMING.STAT_PERIOD

/-- This unit is the acting dealer (R234). -/
def State.actsAsDealer (s : State) : Bool := s.fld ENS.STATUS.ACT_ROLE == 2

/-- FLAGS of a STAT (Table 09-4). -/
def State.statFlags (s : State) : Nat :=
  let b : Bool → Nat → Nat := fun x i => if x then 2 ^ i else 0
  b (s.bit TIME.STATUS.HOLDOVER) 0 + b (s.bit TIME.STATUS.PHASE_HIT) 1 + b (s.fld (ENS.PORT_STATUS.STATE 0) == 0) 2 +
    b (s.fld (ENS.PORT_STATUS.STATE 1) == 0) 3 + b ((List.range 256).any fun n => isFaultSource n && s.latched n) 4 + b s.ens.restart 5

/-- Armed slots, a bit each. -/
def State.armedSlots (s : State) : Nat :=
  (List.range 8).foldl (fun a k => match s.slotOf? k with
    | some sl => if sl.armed then a + 2 ^ k else a
    | none => a) 0

/-- ROLE of a STAT: 0 member, 1 dealer, 2 standby. -/
def State.statRole (s : State) : Nat :=
  if s.actsAsDealer then 1 else if s.fld ENS.STATUS.ACT_ROLE = 3 then 2 else 0

/-- Data bytes of the unit's STAT (Table 09-4). -/
def State.statData (s : State) : List Byte :=
  le 1 s.statRole ++ le 1 s.mode ++ le 1 s.statFlags ++ le 1 s.armedSlots ++
    le 2 ((s.fld ENS.GEN.CALL_SEQ + 2 ^ 15 - 1) % 2 ^ 15) ++ le 2 (if s.actsAsDealer then s.ens.own else s.fld ENS.GEN.GEN) ++
    le 4 (s.fld ENS.TRICK_NEXT.NEXT) ++ le 4 (s.fld ENS.TRICK_HIGH.HIGH) ++ le 6 s.tick.toNat ++ le 2 0 ++ le 4 (s.fld TIME.EPOCH_NUM.NUM)

/-- The port flags of a unit's STAT are noted; a change is what the dealer enumerates for (R233). -/
def State.notePorts (s : State) (a flags : Nat) : State :=
  let f := flags / 4 % 4
  let old := Tbl.get 0 s.ens.flagsOf a
  let changed := old != 0 && old != f + 1
  let s := { s with ens := { s.ens with flagsOf := Tbl.set 0 s.ens.flagsOf a (f + 1) } }
  if changed then { s with ens := { s.ens with portChange := some s.now } } else s

/-- A STAT goes out of the ports chosen. -/
def State.sendStat (s : State) (ports : List Nat) : State :=
  (s.notePorts (s.fld ENS.STATUS.ADDR) s.statFlags).originateOn ports 4 255 s.statData

/-- STAT_SEND: every STAT_PERIOD (R238). -/
def effStatSend (s : State) : State :=
  let due := match s.ens.sentAt with
    | none => true
    | some t => decide (t + s.statPeriod ≤ s.now)
  if s.portsRun && due then { s with ens := { s.ens with sentAt := some s.now } }.sendStat [0, 1] else s

/-- The unit table takes a STAT (R238). -/
def State.tabulate (s : State) (m : Msg) : State :=
  let a := m.src
  let d := m.data
  let s := (s.setF (ENS.UNIT_STATE.PRESENT a) 1).setF (ENS.UNIT_STATE.ROLE a) (num d 0 1)
  let s := (s.setF (ENS.UNIT_STATE.MODE a) (num d 1 1)).setF (ENS.UNIT_STATE.FLAGS a) (num d 2 1)
  let s := (s.setF (ENS.UNIT_STATE.ARMED a) (num d 3 1)).setF (ENS.UNIT_STATE.HOPS a) (m.hops + 1)
  let s := (s.setF (ENS.UNIT_TRICK.NEXT a) (num d 8 4)).setF (ENS.UNIT_SEEN.TICK a) s.tick.toNat
  let s := { s with ens := { s.ens with statAt := Tbl.set 0 s.ens.statAt a (s.now + 1)
                                        statSeq := Tbl.set 0 s.ens.statSeq a (m.seq + 1) } }
  s.notePorts a (num d 2 1)

/-- The highest dealer generation seen (ENS.GEN.GEN). -/
def State.seeGen (s : State) (g : Nat) : State := if s.fld ENS.GEN.GEN < g then s.setF ENS.GEN.GEN g else s

/-- This unit acts as a member until reset (R234, source 126). -/
def State.demote (s : State) (dealer : Nat) : State :=
  let s := s.setF ENS.STATUS.ACT_ROLE 1
  let s := { s with ens := { s.ens with demoted := true, acting := false } }
  s.raise 126 0 dealer 0 0

/-- Another unit is taken as the acting dealer (R234, R238). -/
def State.takeDealer (s : State) (a g : Nat) : State :=
  let s := s.setF ENS.STATUS.DEALER a
  { s with ens := { s.ens with dealerGen := g, dealerSeen := some s.now, dealerLost := none } }

/-- A STAT of an acting dealer: this unit gives way, stays, or follows it (R234). -/
def State.meetDealer (s : State) (a g : Nat) : State :=
  let s' := s.seeGen g
  if s.actsAsDealer then
    if s.ens.own < g ∨ (s.ens.own = g ∧ a < s.fld ENS.STATUS.ADDR) then (s'.demote a).takeDealer a g else s'
  else
    let waits := s.fld ENS.CFG.ROLE = 2 ∧ s.ens.demoted = false
    let s' := if waits ∧ s.ens.own < g then s'.demote a else s'
    let known := s.fld ENS.STATUS.DEALER
    if s.ens.dealerGen < g ∨ known = 0 ∨ (s.ens.dealerGen = g ∧ a ≤ known) then s'.takeDealer a g else s'

/-- A STAT with RESTART clears the windows of its source (R223). -/
def State.clearWindows (s : State) (m : Msg) : State :=
  if (Tbl.get [] s.ens.msgSeen m.src).head? = some m.seq then s
  else { s with ens := { s.ens with
    msgSeen := Tbl.set [] s.ens.msgSeen m.src [], callSeen := Tbl.set [] s.ens.callSeen m.src []
    lastCall := Tbl.set 0 s.ens.lastCall m.src 0
    pend := s.ens.pend.filter fun e => e.1 / 2 ^ 15 != m.src
    lost := s.ens.lost.filter fun e => e.1 / 2 ^ 15 != m.src } }

/-- What an accepted STAT of another unit does (R224, R234, R237, R238). -/
def State.useStat (s : State) (m : Msg) : State :=
  let d := m.data
  let s := if m.src = 0 ∨ 254 < m.src then s else s.tabulate m
  let s := s.knowCalls m.src (num d 4 2 % 2 ^ 15) true
  let s := s.seeTrick (num d 12 4)
  if num d 0 1 = 1 ∧ m.src ≠ 0 then s.meetDealer m.src (num d 6 2) else s

/-- A duplicate of the last STAT that crossed fewer links lowers HOPS (ENS.UNIT_STATE). -/
def State.fewerHops (s : State) (m : Msg) : State :=
  if Tbl.get 0 s.ens.statSeq m.src = m.seq + 1 ∧ m.hops + 1 < s.fld (ENS.UNIT_STATE.HOPS m.src) then
    s.setF (ENS.UNIT_STATE.HOPS m.src) (m.hops + 1)
  else s

/-- STAT_MESSAGE (R238). -/
def effStatMessage (p : Nat) (bl : List WireBlock) (s : State) : State :=
  let restart : State → State := fun s => match readCopy (msgBlocks bl) with
    | some m => if s.portUp p && s.portsRun && m.typ == 4 && bitOf (num m.data 2 1) 5 && !s.ownMsg m then s.clearWindows m else s
    | none => s
  (restart s).takeMsg p 4 none bl fun m fresh s =>
    if s.ownMsg m then s else if fresh then s.useStat m else s.fewerHops m

/-- UNIT_PRESENCE_TIMEOUT: no STAT of unit `a` for three periods (R238). -/
def effUnitPresenceTimeout (a : Nat) (s : State) : State :=
  match Tbl.get 0 s.ens.statAt a with
  | 0 => s
  | t + 1 => if 1 ≤ a ∧ a ≤ 254 ∧ t + 3 * s.statPeriod ≤ s.now then s.setF (ENS.UNIT_STATE.PRESENT a) 0 else s

/-- An enumeration under way is abandoned (Table 09-9). -/
def State.abandonEnum (s : State) : State :=
  let s := (s.setF ENS.STATUS.ENUM_BUSY 0).setF ENS.CMD.ENUM 0
  { s with ens := { s.ens with scanAt := none, reports := [], assigns := [], assignDue := [], assigned := false, reported := false } }

/-- DEALER_LOST: no STAT of the acting dealer for three periods (R238, Table 09-9). -/
def effDealerLost (s : State) : State :=
  match s.ens.dealerSeen with
  | some t =>
    let a := s.fld ENS.STATUS.DEALER
    if s.portsRun && !s.actsAsDealer && a != 0 && s.ens.dealerLost.isNone && decide (t + 3 * s.statPeriod ≤ s.now) then
      let s := (s.abandonEnum).setF ENS.STATUS.DEALER 0
      let s := { s with ens := { s.ens with dealerLost := some s.now, dealerSeen := none } }
      s.raise 124 0 a 0 0
    else s
  | none => s

/-- An expected epoch tick has been reached since a cycle. -/
def State.epochSince (s : State) (c : Nat) : Bool :=
  match s.time.previous with
  | some e => decide (c ≤ s.now - s.cyc - cyclesPerTick * (s.tick - e).toNat) && decide (c < s.now)
  | none => false

/-- The first occurrence of a periodic entry after the present tick (R238). -/
def firstAfter (now t : Tick) (period : Nat) : Tick :=
  if duePast now t then t + BitVec.ofNat 48 (((now - t).toNat / period + 1) * period) else t

/-- The DEAL entries of the image are committed at a takeover, whatever the host committed under their numbers, a periodic one at its first
occurrence after it (R238, R403); so are a configured dealer's when it comes to act in READY or ACQUIRE. DEDUCED (log entry 107): R44 commits
them on the acting dealer alone, and before READY they wait for the entry to READY, from which a relative tick counts (R234). -/
def State.commitDeals (s : State) : State :=
  if s.running then s.sched.image.foldl (fun (s : State) (e : SchedImage) =>
    if e.action = 3 then
      let t := BitVec.ofNat 48 e.tick + (if e.relative then s.dev.readyTick else 0)
      s.putEntry_ e (if e.period = 0 then t else firstAfter s.tick t e.period) s.active
    else s) s
  else s

/-- DEALER_TAKEOVER: the standby becomes the acting dealer (R238). -/
def effDealerTakeover (s : State) : State :=
  match s.ens.dealerLost with
  | some c =>
    let due := if s.bit TIME.CFG.EPOCH_EN then s.epochSince c else decide (c + 100000000 * cyclesPerTick ≤ s.now)
    if s.portsRun && s.fld ENS.STATUS.ACT_ROLE == 3 && due then
      let g := s.fld ENS.GEN.GEN + 1
      let s := (s.setF ENS.GEN.GEN g).setTrickNext (s.fld ENS.TRICK_HIGH.HIGH + 1024)
      let s := (s.setF ENS.STATUS.ACT_ROLE 2).setF ENS.STATUS.DEALER (s.fld ENS.STATUS.ADDR)
      let s := { s with ens := { s.ens with acting := true, own := g % 2 ^ 16, dealerGen := g % 2 ^ 16, dealerLost := none
                                            enumDue := true, timeSent := s.time.previous } }
      let s := (s.sendStat [0, 1]).commitDeals
      s.raise 125 0 0 g 0
    else s
  | none => s

/-- DEALER_WAIT_END: a configured dealer has waited two STAT periods after its first port came UP (R234). -/
def effDealerWaitEnd (s : State) : State :=
  match s.ens.firstUp with
  | some t =>
    if s.portsRun && s.fld ENS.CFG.ROLE == 2 && !s.ens.acting && !s.ens.demoted && decide (t + 2 * s.statPeriod ≤ s.now) then
      let s := (s.setF ENS.STATUS.ACT_ROLE 2).setF ENS.STATUS.DEALER (s.fld ENS.STATUS.ADDR)
      { s with ens := { s.ens with acting := true, dealerSeen := none, dealerLost := none } }.commitDeals
    else s
  | none => s

/-- RESTART_WINDOW_END: 10 STAT periods after the reset (R223). -/
def effRestartWindowEnd (s : State) : State :=
  if s.ens.restart && decide (s.ens.startAt + 10 * s.statPeriod ≤ s.now) && !s.dev.held then
    { s with ens := { s.ens with restart := false } }
  else s

/-! ### Enumeration (R231 to R233) -/

/-- Data bytes of an ENUM message (Table 09-4). -/
def enumData (op addr hopsB hopsA bits : Nat) (serial : List Byte) : List Byte :=
  le 1 op ++ le 1 addr ++ le 1 hopsB ++ le 1 hopsA ++ le 1 bits ++ le 3 0 ++ padTo serial 16

/-- An address as the persistent area stores it: with the image's ENSEMBLE_ID, 32 bits, and the unit's serial number (R231). -/
def addrRecord (a ensemble : Nat) : Nat := a + 2 ^ 8 * (ensemble + 2 ^ 32 * ofLe (padTo Config.serial 16))

/-- An address is stored with the unit's serial number and the image's ENSEMBLE_ID, and taken (R231). -/
def State.storeAddr (s : State) (a : Nat) : State :=
  (s.setF ENS.STATUS.ADDR a).writePersist 0 (addrRecord a (s.fld ENS.ID.ENSEMBLE_ID))

/-- The dealer broadcasts SCAN (Table 09-6 step 1). -/
def State.startEnum (s : State) : State :=
  let s := if s.fld ENS.STATUS.ADDR = 0 then (s.storeAddr 1).setF ENS.STATUS.DEALER 1 else s
  let s := s.setF ENS.STATUS.ENUM_BUSY 1
  let s := { s with ens := { s.ens with scanAt := some s.now, reports := [], assigns := [], assignDue := [], assigned := false, assignRound := 0
                                        closed := false, reported := true, enumDue := false, portChange := none } }
  s.originate 1 255 (enumData 0 0 0 0 0 Config.serial)

/-- ENUMERATION_START: at READY, after a takeover, or at the first epoch boundary (10 ms without epochs) after a port change
(R233). -/
def effEnumerationStart (s : State) : State :=
  let change := match s.ens.portChange with
    | some c => if s.bit TIME.CFG.EPOCH_EN then s.epochSince c else decide (c + 10000000 ≤ s.now)
    | none => false
  if s.portsRun && s.actsAsDealer && !s.bit ENS.STATUS.ENUM_BUSY && (s.ens.enumDue || change) then s.startEnum else s

/-- ENS.CMD.ENUM starts an enumeration on the acting dealer and reads 1 until DONE (R233, R244). -/
def effEnsEnum (s : State) : State :=
  if s.served 0x80018 && s.actsAsDealer && s.portsRun then
    let s := s.setF ENS.CMD.ENUM 1
    if s.bit ENS.STATUS.ENUM_BUSY then s else s.startEnum
  else s

/-- The links crossed by a SCAN copy received on a port are noted. -/
def State.noteScan (s : State) (p hops : Nat) : State :=
  if p = 0 then { s with ens := { s.ens with scanA := hops } } else { s with ens := { s.ens with scanB := hops } }

/-- ENUM_SCAN (Table 09-6 steps 1 and 2). The dealer's own SCAN coming back shows a closed ring. -/
def effEnumScan (p : Nat) (bl : List WireBlock) (s : State) : State :=
  s.takeMsg p 1 (some 0) bl fun m fresh s =>
    if s.ownMsg m then { s with ens := { s.ens with closed := true } }
    else if fresh then
      let s := s.setF ENS.STATUS.ENUM_BUSY 1
      let s := { s with ens := { s.ens with scanAt := some s.now, scanSrc := m.src, scanA := 0, scanB := 0, reported := false } }
      s.noteScan p (m.hops + 1)
    else if s.bit ENS.STATUS.ENUM_BUSY && m.src == s.ens.scanSrc then s.noteScan p (m.hops + 1)
    else s

/-- ENUM_REPORT_DUE: 100 us after SCAN was first received (Table 09-6 step 2). -/
def effEnumReportDue (s : State) : State :=
  match s.ens.scanAt with
  | some t =>
    if s.portsRun && !s.ens.reported && !s.actsAsDealer && decide (t + 100000 ≤ s.now) then
      let a := s.fld ENS.STATUS.ADDR
      let s := { s with ens := { s.ens with reported := true } }
      s.originate 1 s.ens.scanSrc (enumData 1 a s.ens.scanB s.ens.scanA (if a = 0 then 0 else 1) Config.serial)
    else s
  | none => s

/-- ENUM_REPORT: the dealer takes a unit's REPORT (Table 09-6 step 2). -/
def effEnumReport (p : Nat) (bl : List WireBlock) (s : State) : State :=
  s.takeMsg p 1 (some 1) bl fun m fresh s =>
    if fresh && s.actsAsDealer && s.bit ENS.STATUS.ENUM_BUSY && !s.ens.assigned && !s.ownMsg m then
      let r : Report := { serial := m.serial, addr := num m.data 1 1, stored := bitOf (num m.data 4 1) 0
                          hopsB := num m.data 2 1, hopsA := num m.data 3 1 }
      let rest := s.ens.reports.filter fun x => x.serial != r.serial
      { s with ens := { s.ens with reports := rest ++ [r] } }
    else s

/-- Insertion of a report in ring order: units with HOPS_B above 0 by ascending HOPS_B, then the others by descending HOPS_A
(R232). -/
def ringInsert (r : Report) : List Report → List Report
  | [] => [r]
  | x :: t =>
    let before := if r.hopsB = 0 then x.hopsB == 0 && decide (x.hopsA < r.hopsA)
      else x.hopsB == 0 || decide (r.hopsB < x.hopsB)
    if before then r :: x :: t else x :: ringInsert r t

/-- Reports in ring order. -/
def ringOrder (l : List Report) : List Report := l.foldl (fun (a : List Report) r => ringInsert r a) []

/-- The addresses kept (R232): the dealer's, and each stored one that no unit before it in ring order keeps. The answer is the
addresses in use, the reports with their kept address or 0, and the addresses in conflict. -/
def keepAddrs (dealer : Nat) (l : List Report) : List Nat × List (Report × Nat) × List Nat :=
  l.foldl (fun (x : List Nat × List (Report × Nat) × List Nat) (r : Report) =>
    if r.stored && decide (1 ≤ r.addr) && decide (r.addr ≤ 254) then
      if x.1.contains r.addr then (x.1, x.2.1 ++ [(r, 0)], x.2.2 ++ [r.addr])
      else (r.addr :: x.1, x.2.1 ++ [(r, r.addr)], x.2.2)
    else (x.1, x.2.1 ++ [(r, 0)], x.2.2)) ([dealer], [], [])

/-- The lowest free address, 0 when none is left. -/
def lowestFree (used : List Nat) : Nat := (((List.range 254).map (· + 1)).find? fun a => !used.contains a).getD 0

/-- New addresses in ring order for the units that keep none (R232): used addresses, assignments, units without an address. -/
def giveAddrs (used : List Nat) (l : List (Report × Nat)) : List Nat × List Assign × Bool :=
  l.foldl (fun (x : List Nat × List Assign × Bool) (r : Report × Nat) =>
    if r.2 ≠ 0 then x
    else
      let a := lowestFree x.1
      if a = 0 then (x.1, x.2.1, true) else (a :: x.1, x.2.1 ++ [⟨r.1.serial, a, false⟩], x.2.2)) (used, [], false)

/-- Some UP port's queue of ordinary messages is full. -/
def State.txFull (s : State) : Bool :=
  [0, 1].any fun p => s.portUp p && decide (4 ≤ ((s.pumpPort p).txWaits p).countP fun x => !x.call)

/-- The ASSIGNs of the round go out one after another, as far as the queues of the UP ports have room. DEDUCED (log entry 106): the dealer
does not drop its own ASSIGNs at a full queue (R218, R232). `fuel` is at least what waits. -/
def State.pumpAssigns : Nat → State → State
  | 0, s => s
  | fuel + 1, s => match s.ens.assignDue with
    | [] => s
    | a :: rest =>
      if s.txFull then s
      else State.pumpAssigns fuel (State.originate { s with ens := { s.ens with assignDue := rest } } 1 255 (enumData 2 a.addr 0 0 0 a.serial))

/-- What waits of the round goes out. -/
def State.flushAssigns (s : State) : State := s.pumpAssigns s.ens.assignDue.length

/-- The ASSIGNs not acknowledged are broadcast, a round (Table 09-6 step 4). -/
def State.sendAssigns (s : State) : State :=
  { s with ens := { s.ens with assignRound := s.ens.assignRound + 1, assignAt := s.now
                               assignDue := s.ens.assigns.filter fun a => !a.acked } }.flushAssigns

/-- ENUM_ASSIGN_DUE: 1.0 ms after SCAN the dealer assigns addresses (Table 09-6 steps 3 and 4). -/
def effEnumAssignDue (s : State) : State :=
  match s.ens.scanAt with
  | some t =>
    if s.portsRun && s.actsAsDealer && s.bit ENS.STATUS.ENUM_BUSY && !s.ens.assigned && decide (t + 1000000 ≤ s.now) then
      let order := ringOrder s.ens.reports
      let (used, kept, clash) := keepAddrs (s.fld ENS.STATUS.ADDR) order
      let (_, given, full) := giveAddrs used kept
      let s := clash.foldl (fun (s : State) a => s.raise 122 0 a 0 0) s
      let s := if full then s.raise 123 0 0 0 0 else s
      let s := { s with ens := { s.ens with
        assigned := true, assigns := given, units := min 254 (1 + order.length)
        closed := s.ens.closed || order.any fun r => decide (0 < r.hopsA) && decide (0 < r.hopsB) } }
      s.sendAssigns
    else s
  | none => s

/-- ENUM_ASSIGN: a unit stores the address assigned to its serial number and replies ACK (R231, Table 09-6 step 4). -/
def effEnumAssign (p : Nat) (bl : List WireBlock) (s : State) : State :=
  s.takeMsg p 1 (some 2) bl fun m fresh s =>
    let a := num m.data 1 1
    if fresh && m.serial == padTo Config.serial 16 && decide (1 ≤ a) && decide (a ≤ 254) && !s.actsAsDealer then
      let s := if s.fld ENS.STATUS.ADDR = a then s else s.storeAddr a
      s.originate 1 m.src (enumData 3 a 0 0 0 Config.serial)
    else s

/-- ENUM_ACK: the dealer notes an acknowledged address. -/
def effEnumAck (p : Nat) (bl : List WireBlock) (s : State) : State :=
  s.takeMsg p 1 (some 3) bl fun m fresh s =>
    if fresh && s.actsAsDealer && !s.ownMsg m then
      { s with ens := { s.ens with assigns := s.ens.assigns.map fun a =>
          if a.serial = m.serial ∧ a.addr = num m.data 1 1 then { a with acked := true } else a
                                   assignDue := s.ens.assignDue.filter fun a => a.serial != m.serial || a.addr != num m.data 1 1 } }
    else s

/-- Some ASSIGN is not acknowledged. -/
def State.unacked (s : State) : List Assign := s.ens.assigns.filter fun a => !a.acked

/-- ENUM_ACK_TIMEOUT: 200 us after a round, ASSIGNs without an ACK are repeated, three rounds in all; then each raises the enumeration
notice (Table 09-6 step 4). -/
def effEnumAckTimeout (s : State) : State :=
  if s.portsRun && s.actsAsDealer && s.ens.assigned && !s.unacked.isEmpty && decide (s.ens.assignAt + 200000 ≤ s.now) &&
      decide (s.ens.assignRound < 4) then
    if s.ens.assignRound < 3 then s.sendAssigns
    else
      let s' := { s with ens := { s.ens with assignRound := 4 } }
      s.unacked.foldl (fun (s : State) (a : Assign) => s.raise 120 0 0 0 (num a.serial 0 4)) s'
  else s

/-- UNITS and TOPO after DONE: alone, ring or line (R216, R232). -/
def State.showUnits (s : State) (u : Nat) (line : Bool) : State :=
  let alone := !(s.portUp 0 || s.portUp 1)
  let s := (s.setF ENS.STATUS.UNITS u).setF ENS.STATUS.TOPO (if alone then 0 else if line then 2 else 1)
  let s := (s.setF ENS.STATUS.ENUM_BUSY 0).setF ENS.CMD.ENUM 0
  { s with ens := { s.ens with scanAt := none } }

/-- ENUM_DONE_DUE: the dealer broadcasts DONE (Table 09-6 step 5). -/
def effEnumDoneDue (s : State) : State :=
  if s.portsRun && s.actsAsDealer && s.bit ENS.STATUS.ENUM_BUSY && s.ens.assigned && (s.unacked.isEmpty || s.ens.assignRound == 4) then
    let line := !s.ens.closed
    let s := s.originate 1 255 (enumData 4 s.ens.units 0 0 (if line then 2 else 0) Config.serial)
    let s := s.showUnits s.ens.units line
    s.raise 121 0 s.ens.units 0 0
  else s

/-- ENUM_DONE: a unit takes U and the topology (Table 09-6 step 5). -/
def effEnumDone (p : Nat) (bl : List WireBlock) (s : State) : State :=
  s.takeMsg p 1 (some 4) bl fun m fresh s =>
    if fresh && !s.ownMsg m && !s.actsAsDealer then s.showUnits (num m.data 1 1) (bitOf (num m.data 4 1) 1) else s

/-! ### Deals (R235, R236) -/

/-- PLAN_MASK of deal definition `n`. -/
def State.dealMask (s : State) (n : Nat) : Nat := s.fld (ENS.DEAL_MASK_LO.MASK n) + 2 ^ 32 * s.fld (ENS.DEAL_MASK_HI.MASK n)

/-- A deal accepted in READY or ACQUIRE: TRICK_NEXT follows TRICK_BASE, and an internal ARM or DISARM is committed for each plan of
the mask that the library holds (R236). -/
def State.acceptDeal (s : State) (op deal src mask base : Nat) (at_ : Tick) : State :=
  let s := if laterTrick base (s.fld ENS.TRICK_NEXT.NEXT) then s.setTrickNext base else s
  let s := ((s.setF ENS.LAST_DEAL.OP op).setF ENS.LAST_DEAL.DEAL deal).setF ENS.LAST_DEAL.SRC src
  let s := s.clearFs [ENS.LAST_DEAL.OUTCOME, ENS.LAST_DEAL.LATE_BY]
  let l := if duePast s.tick at_ then (s.tick - at_).toNat else 0
  ((List.range 64).filter fun p => bitOf mask p && (s.planOf p).isSome).foldl (fun (s : State) p =>
    let d : DealAct := { id := s.ens.dealIds, deal := deal, op := op, plan := p, tick := at_, lateBy := l }
    { s with ens := { s.ens with deals := s.ens.deals ++ [d], dealIds := s.ens.dealIds + 1 } }) s

/-- The acting dealer sends a deal definition at tick `t` and applies it to itself (R235). -/
def State.deal (s : State) (n : Nat) (t : Tick) : State :=
  let op := s.fld (ENS.DEAL_DEF.OP n)
  let at_ := t + BitVec.ofNat 48 (s.fld (ENS.DEAL_DEF.LEAD n))
  let mask := s.dealMask n
  let base := (s.fld ENS.TRICK_HIGH.HIGH + 1) % 2 ^ 32
  let data := le 1 op ++ le 1 n ++ le 2 s.ens.own ++ le 6 at_.toNat ++ le 2 0 ++ le 8 mask ++ le 4 base
  (s.originate 2 255 data).acceptDeal op n (s.fld ENS.STATUS.ADDR) mask base at_

/-- ACTION_DEAL: the scheduled DEAL (R235, R234). -/
def effActionDeal (n : Nat) (s : State) : State :=
  s.runAction n 3 (fun _ => true) fun o s =>
    if s.actsAsDealer && s.portsRun then (none, s.deal (o.arg % 16) o.at_) else (some 0, s)

/-- DEAL_CMD: a write of ENS.DEAL_CMD sends a definition at once (R235). DEDUCED (log entry 85): once an entry to DORMANT has begun no deal is
made or taken any more. -/
def effDealCmd (v : Nat) (s : State) : State :=
  if s.served 0x8001C then
    let n := v % 16
    if !s.actsAsDealer then s.setF ENS.DEAL_CMD.RESULT 1
    else if !s.bit (ENS.DEAL_DEF.VALID n) then s.setF ENS.DEAL_CMD.RESULT 2
    else if !s.active then s.setF ENS.DEAL_CMD.RESULT 3
    else (s.deal n s.tick).setF ENS.DEAL_CMD.RESULT 0
  else s

/-- A DEAL received (R236): ignored in another mode or from a lower GEN. -/
def State.takeDeal (s : State) (m : Msg) : State :=
  let d := m.data
  let g := num d 2 2
  if g < s.fld ENS.GEN.GEN ∨ s.active = false then
    let s := ((s.setF ENS.LAST_DEAL.OP (num d 0 1)).setF ENS.LAST_DEAL.DEAL (num d 1 1)).setF ENS.LAST_DEAL.SRC m.src
    ((s.setF ENS.LAST_DEAL.OUTCOME 3).setF ENS.LAST_DEAL.LATE_BY 0).bumpF ENS.DEAL_COUNTS.IGNORED 1
  else
    let s := (s.seeGen g).bumpF ENS.DEAL_COUNTS.RX 1
    s.acceptDeal (num d 0 1) (num d 1 1) m.src (num d 12 8) (num d 20 4) (BitVec.ofNat 48 (num d 4 6))

/-- DEAL_ARM: a DEAL with OP ARM arrives (R236). -/
def effDealArm (p : Nat) (bl : List WireBlock) (s : State) : State :=
  s.takeMsg p 2 (some 0) bl fun m fresh s => if fresh && !s.ownMsg m then s.takeDeal m else s

/-- DEAL_DISARM: a DEAL with OP DISARM arrives (R236). -/
def effDealDisarm (p : Nat) (bl : List WireBlock) (s : State) : State :=
  s.takeMsg p 2 (some 1) bl fun m fresh s => if fresh && !s.ownMsg m then s.takeDeal m else s

/-- An internal ARM or DISARM in time: an inactive plan is submitted for activation first, an armed or disarmed one is left as it is
(R236, Table 02-4). The tick of an ARM's dispatch is kept: a scheduler ARM of that tick has no effect (R243). -/
def State.runDeal (s : State) (d : DealAct) : State :=
  let done : Nat → State → State := fun c s => s.endDeal d.id (if c ≠ 0 then 4 else if d.lateBy = 0 then 0 else 1) d.lateBy
  let armed := s.planArmed d.plan
  let s := if d.op = 1 then s
    else { s with ens := { s.ens with dealTick := Tbl.set 0 s.ens.dealTick d.plan ((d.tick + BitVec.ofNat 48 d.lateBy).toNat + 1) } }
  if d.op = 1 then
    if !armed then done 0 s
    else match s.disarmBar d.plan with
      | some c => done c s
      | none => done 0 (s.disarmPlan d.plan)
  else if armed then done 0 s
  else
    let r : AdmReq := { kind := 7, id := d.plan, origin := 3, entry := d.id, val := d.lateBy }
    let s := { s with ens := { s.ens with deals := s.ens.deals.map fun (x : DealAct) => if x.id = d.id then { x with started := true } else x } }
    if s.slotOfPlan d.plan = none then s.submit { r with kind := 0 }
    else match s.askArm r (decide (d.lateBy ≠ 0)) with
      | (some c, s') => s'.answer r 3 c
      | (none, s') => s'

/-- Ticks since an internal action was dispatched: at its tick, or on acceptance when that had passed. -/
def State.dealWaited (s : State) (d : DealAct) : Nat := (s.tick - d.tick).toNat - d.lateBy

/-- An internal action that has not started within its start window of LATE_MAX ticks does not execute: the deadline fault (R47, R236).
DESIGN CHOICE (log entry 107): LAST_DEAL shows it as stale, and the fault's entry, of which there is none, is a free value. -/
def State.missDeal (s : State) (d : DealAct) : State :=
  let (n, s) := s.free
  ((s.endDeal d.id 2 d.lateBy).bumpF TIME.SCHED_COUNTS.DEADLINE 1).raise 24 0 (n % 256) 0 0

/-- Another action holds the plan of a deal's action `d` or was dispatched before it: a scheduled arm or disarm, or another deal's (Table
02-4, R47, R236, R243). -/
def State.dealWaits (s : State) (d : DealAct) : Bool :=
  let t := d.from_.getD s.now
  (s.sched.waiting.any fun o => resourceOf o.action o.arg == some (0, d.plan) && (o.started || decide (o.from_ ≤ t))) ||
    s.ens.deals.any fun x => x.id != d.id && x.plan == d.plan && (x.started || (match x.from_ with
      | some c => decide (c < t) || (c == t && decide (x.id < d.id))
      | none => false))

/-- Internal action `d` is dispatched: it starts, or waits for its plan (R47). -/
def State.dispatchDeal (s : State) (d : DealAct) : State :=
  if s.dealWaits d then
    { s with ens := { s.ens with deals := s.ens.deals.map fun (x : DealAct) => if x.id = d.id then { x with from_ := some (d.from_.getD s.now) } else x } }
  else s.runDeal d

/-- DEAL_ACTION_DUE: internal action `id` is judged at its ARM_TICK: RUN_LATE up to LATE_MAX, else stale with the deal-late notice; it starts
within LATE_MAX ticks or misses its window (R45, R47, R236). -/
def effDealActionDue (id : Nat) (s : State) : State :=
  match s.ens.deals.find? fun d => d.id == id && !d.started with
  | some d =>
    if s.active && duePast s.tick d.tick then
      if d.lateBy ≤ s.fld ENS.DEAL_CFG.LATE_MAX then
        if s.dealWaited d ≤ s.fld ENS.DEAL_CFG.LATE_MAX then s.dispatchDeal d else s.missDeal d
      else (s.endDeal d.id 2 d.lateBy).raise 118 0 d.deal (min d.lateBy 65535) 0
    else s
  | none => s

/-! ### TIME (R230) -/

/-- TIME_SEND: EPOCH_PERIOD / 2 ticks after each expected tick (R230). -/
def effTimeSend (s : State) : State :=
  match s.time.previous with
  | some e =>
    let p := s.fld TIME.EPOCH_PERIOD.PERIOD
    if s.portsRun && s.actsAsDealer && s.bit TIME.CFG.EPOCH_EN && s.ens.timeSent != some e && duePast s.tick (e + BitVec.ofNat 48 (p / 2)) then
      let s := { s with ens := { s.ens with timeSent := some e } }
      s.originate 3 255 (le 4 (s.fld TIME.EPOCH_NUM.NUM) ++ le 6 e.toNat ++ le 2 s.ens.own ++ le 4 p)
    else s
  | none => s

/-- What an accepted TIME does (R230, R37). -/
def State.takeTime (s : State) (m : Msg) : State :=
  let d := m.data
  let n := num d 0 4
  let t : Tick := BitVec.ofNat 48 (num d 4 6)
  let g := num d 10 2
  let p := num d 12 4
  if g < s.fld ENS.GEN.GEN then s
  else
    let s := s.seeGen g
    if s.bit TIME.STATUS.EPOCH_ALIGNED then
      if n ≠ s.fld TIME.EPOCH_NUM.NUM ∨ some t ≠ s.time.previous ∨ p ≠ s.fld TIME.EPOCH_PERIOD.PERIOD then s.raise 119 0 m.src 0 0 else s
    else if s.bit ENS.CFG.TIME_LOAD then
      if s.bit TIME.CFG.EPOCH_EN then
        let s := s.setF TIME.CMD.EPOCH_ARM 1
        { s with time := { s.time with armed := some ((n + 1) % 2 ^ 32, t + BitVec.ofNat 48 p) } }
      else s.raise 21 1 0 0 0
    else s

/-- TIME_MESSAGE (R230). -/
def effTimeMessage (p : Nat) (bl : List WireBlock) (s : State) : State :=
  s.takeMsg p 3 none bl fun m fresh s => if fresh && !s.ownMsg m then s.takeTime m else s

/-! ### Links (R225, R226, R228) -/

/-- BLOCK_LOCK_ACQUIRED: DOWN becomes TRAINING (Table 09-5). -/
def effBlockLockAcquired (p : Nat) (s : State) : State :=
  if decide (p < 2) && s.portsRun && s.fld (ENS.PORT_STATUS.STATE p) == 0 then
    let s := (s.setF (ENS.PORT_STATUS.STATE p) 1).setF (ENS.PORT_STATUS.LOCK p) 1
    { s with ens := { s.ens with lockAt := Tbl.set 0 s.ens.lockAt p (s.now + 1), exch := Tbl.set 0 s.ens.exch p 0
                                 asked := Tbl.set none s.ens.asked p none, tokAt := Tbl.set 0 s.ens.tokAt p 0
                                 means := Tbl.set [] s.ens.means p [] } }
  else s

/-- What a port forgets when it goes DOWN. -/
def State.forgetPort (s : State) (p : Nat) : State :=
  let s := ((s.endPair p).setF (ENS.PORT_STATUS.STATE p) 0).setF (ENS.PORT_STATUS.LOCK p) 0
  { s with ens := { s.ens with
    lockAt := Tbl.set 0 s.ens.lockAt p 0, exch := Tbl.set 0 s.ens.exch p 0, asked := Tbl.set none s.ens.asked p none
    means := Tbl.set [] s.ens.means p [], firstIn := Tbl.set 0 s.ens.firstIn p 0, fwd := Tbl.set 0 s.ens.fwd p 0
    fwdMsg := Tbl.set [] s.ens.fwdMsg p [], tx := Tbl.set [] s.ens.tx p [], callEnd := Tbl.set 0 s.ens.callEnd p 0
    msgEnd := Tbl.set 0 s.ens.msgEnd p 0, runLen := Tbl.set 0 s.ens.runLen p 0, skew := Tbl.set 0 s.ens.skew p 0 } }

/-- NEIGHBOUR_ABSENT: no valid block for 2 us (R226). -/
def effNeighbourAbsent (p : Nat) (s : State) : State :=
  if decide (p < 2) && s.portsRun && s.fld (ENS.PORT_STATUS.STATE p) != 0 then
    let n := s.fld (ENS.PORT_STATUS.NEIGH_ADDR p)
    let s := (s.forgetPort p).bumpF (ENS.PORT_STATUS.DOWNS p) 1
    let s := s.raise (112 + p) 0 n 0 0
    s.sendStat [1 - p]
  else s

/-- The ports stop sending on a mode change or a reset (R227). -/
def State.portsSilent (s : State) : State :=
  let s := (s.forgetPort 0).forgetPort 1
  { s with ens := { s.ens with deliver := [] } }

/-- A TOKEN timestamp read. -/
def readStamp (d : List Byte) (o : Nat) : Nat := num d o 4 * 2 ^ 24 + num d (o + 4) 3

/-- A TOKEN joins a port's queue: one message, one link, no pair (R217, R222); it is stamped as it leaves, from `at_` on (R228). -/
def State.sendToken (s : State) (p op t1 t2 at_ : Nat) : State :=
  let (q, s) := s.takeSeq
  let r := s.joinTx p 4 { call := false, forwarded := false, at_ := at_, len := 5, token := some (op, q, t1, t2), outs := [] }
  if r.1 then r.2 else (r.2.bumpF ENS.DEAL_COUNTS.MSG_DROPPED 1).overflow p 1

/-- TOKEN_SEND: a REQUEST every 10 us in TRAINING, every 1 ms in UP (R225). -/
def effTokenSend (p : Nat) (s : State) : State :=
  let st := s.fld (ENS.PORT_STATUS.STATE p)
  let gap := if st = 1 then 10000 else 1000000
  let due := match Tbl.get 0 s.ens.tokAt p with
    | 0 => true
    | t + 1 => decide (t + gap ≤ s.now)
  if decide (p < 2) && s.portsRun && (st == 1 || st == 2) && due then
    let missed := (Tbl.get none s.ens.asked p).isSome
    let s := { s with ens := { s.ens with asked := Tbl.set none s.ens.asked p none, tokAt := Tbl.set 0 s.ens.tokAt p (s.now + 1)
                                          exch := if missed then Tbl.set 0 s.ens.exch p 0 else s.ens.exch } }
    s.sendToken p 0 0 0 s.fifths
  else s

/-- TOKEN_REQUEST: a REQUEST whose first bit arrives `sub` units of 2^-23 ns after the present cycle began is answered with a REPLY
that leaves from the next cycle on, as its queue allows (R218, R228, log entry 35). -/
def effTokenRequest (p : Nat) (bl : List WireBlock) (sub : Nat) (s : State) : State :=
  if decide (p < 2) && s.portsRun && s.fld (ENS.PORT_STATUS.STATE p) != 0 then
    let s := s.erroredBlocks p bl
    match msgBlocks bl, readCopy (msgBlocks bl) with
    | [], _ => s
    | _, none => s.bumpF (ENS.PORT_ERR.CRC_ERR p) 1
    | _, some m =>
      if m.names 5 (some 0) = false then s
      else
      s.sendToken p 1 (readStamp m.data 4) (stampValue (s.stamp (s.now * finePerNs + sub % finePerNs))) (s.fifths + 5)
  else s

/-- The difference of two TOKEN timestamps, in 2^-24 tick. -/
def stampDiff (a b : Nat) : Int := ofTwos 56 ((a + 2 ^ 56 - b % 2 ^ 56) % 2 ^ 56)

/-- 2^-24 ticks in fs, to the nearest. -/
def fsOf (x : Int) : Int := (x * 10000000 + 2 ^ 23) / 2 ^ 24

/-- The mean of a list of integers, rounded to the nearest. -/
def meanOf (l : List Int) : Int := if l.isEmpty then 0 else (2 * l.foldl (· + ·) 0 + l.length) / (2 * l.length)

/-- An exchange completes with δ and θ in fs: means, registers and the alignment check (R228, R229). -/
def State.noteExchange (s : State) (p : Nat) (delta theta : Int) : State :=
  let limit : Int := 1000 * s.fld ENS.DEAL_CFG.ALIGN_MAX
  let old := Tbl.get [] s.ens.means p
  let was := decide (limit < (meanOf (old.map Prod.snd)).natAbs) && !old.isEmpty
  let l := ((delta, theta) :: old).take 16
  let th := meanOf (l.map Prod.snd)
  let s := { s with ens := { s.ens with means := Tbl.set [] s.ens.means p l, exch := Tbl.set 0 s.ens.exch p (Tbl.get 0 s.ens.exch p + 1) } }
  let s := s.setF (ENS.PORT_DELAY.DELAY p) (satI (meanOf (l.map Prod.fst)) 0 (2 ^ 32 - 1)).toNat
  let s := s.setS (ENS.PORT_OFFSET.OFFSET p) th
  if decide (limit < th.natAbs) && !was then s.raise 115 0 p 0 (toTwos 32 (satI th (-(2 ^ 31)) (2 ^ 31 - 1))) else s

/-- TRAINING becomes UP once block lock has held for 100 us and 16 exchanges in a row are intact (Table 09-5). -/
def State.portComesUp (s : State) (p addr port : Nat) : State :=
  let s := (s.setF (ENS.PORT_STATUS.NEIGH_ADDR p) addr).setF (ENS.PORT_STATUS.NEIGH_PORT p) port
  if s.fld (ENS.PORT_STATUS.STATE p) = 1 ∧ 16 ≤ Tbl.get 0 s.ens.exch p ∧ Tbl.get 0 s.ens.lockAt p + 99999 ≤ s.now then
    let s := s.setF (ENS.PORT_STATUS.STATE p) 2
    { s with ens := { s.ens with firstUp := some (s.ens.firstUp.getD s.now) } }
  else s

/-- TOKEN_REPLY: a REPLY whose first bit arrives `sub` units of 2^-23 ns after the present cycle began completes an exchange
(R225, R228). -/
def effTokenReply (p : Nat) (bl : List WireBlock) (sub : Nat) (s : State) : State :=
  let st := s.fld (ENS.PORT_STATUS.STATE p)
  if decide (p < 2) && s.portsRun && (st == 1 || st == 2) then
    let s := s.erroredBlocks p bl
    match msgBlocks bl, readCopy (msgBlocks bl), Tbl.get none s.ens.asked p with
    | [], _, _ => s
    | _, none, _ =>
      let s := s.bumpF (ENS.PORT_ERR.CRC_ERR p) 1
      { s with ens := { s.ens with exch := Tbl.set 0 s.ens.exch p 0 } }
    | _, some m, some t1 =>
      if m.names 5 (some 1) = true ∧ readStamp m.data 4 = t1 then
        let s := { s with ens := { s.ens with asked := Tbl.set none s.ens.asked p none } }
        let port := num m.data 1 1
        if st = 1 ∧ port = p then (s.setF (ENS.PORT_STATUS.STATE p) 3).raise 114 0 p 0 0
        else
          let t4 := stampValue (s.stamp (s.now * finePerNs + sub % finePerNs))
          let t2 := readStamp m.data 11
          let t3 := readStamp m.data 18
          let delta := fsOf (stampDiff t4 t1 - stampDiff t3 t2) / 2
          let theta := fsOf (stampDiff t2 t1 - stampDiff t4 t3) / 2
          (s.noteExchange p delta theta).portComesUp p m.src port
      else s
    | _, some _, none => s
  else s

/-! ### Counters (R244) -/

/-- The counters that ENS.CMD.CLR_COUNTS clears (R244). -/
def ensCounters : List Fld :=
  [ENS.CALL_TX.COUNT, ENS.CALL_RX.COUNT, ENS.CALL_LOSS.LOST, ENS.CALL_LOSS.DROPPED, ENS.CALL_LOSS.UNSENT, ENS.DEAL_COUNTS.RX,
    ENS.DEAL_COUNTS.IGNORED, ENS.DEAL_COUNTS.MSG_DROPPED] ++
    [0, 1].flatMap fun p => [ENS.PORT_STATUS.DOWNS p, ENS.PORT_ERR.BLOCK_ERR p, ENS.PORT_ERR.CRC_ERR p, ENS.PORT_COPY.SINGLE p,
      ENS.PORT_COPY.PAIR_LOST p, ENS.PORT_COMP.INSERTED p, ENS.PORT_COMP.DELETED p]

/-- ENS.CMD.CLR_COUNTS: a clear takes precedence over an increment of the same cycle (R244). -/
def effEnsClrCounts (s : State) : State := if s.served 0x80018 then s.clearCounts ensCounters else s

def execCallReceive (p : Nat) (second : Bool) (bl : List WireBlock) (s : State) : Res := .next (effCallReceive p second bl s)
def execCallDeliver (s : State) : Res := .next (effCallDeliver s)
def execCallLost (src q : Nat) (s : State) : Res := .next (effCallLost src q s)
def execStatSend (s : State) : Res := .next (effStatSend s)
def execStatMessage (p : Nat) (bl : List WireBlock) (s : State) : Res := .next (effStatMessage p bl s)
def execUnitPresenceTimeout (a : Nat) (s : State) : Res := .next (effUnitPresenceTimeout a s)
def execDealerLost (s : State) : Res := .next (effDealerLost s)
def execDealerTakeover (s : State) : Res := .next (effDealerTakeover s)
def execDealerWaitEnd (s : State) : Res := .next (effDealerWaitEnd s)
def execRestartWindowEnd (s : State) : Res := .next (effRestartWindowEnd s)
def execEnumerationStart (s : State) : Res := .next (effEnumerationStart s)
def execEnsEnum (s : State) : Res := .next (effEnsEnum s)
def execEnumScan (p : Nat) (bl : List WireBlock) (s : State) : Res := .next (effEnumScan p bl s)
def execEnumReportDue (s : State) : Res := .next (effEnumReportDue s)
def execEnumReport (p : Nat) (bl : List WireBlock) (s : State) : Res := .next (effEnumReport p bl s)
def execEnumAssignDue (s : State) : Res := .next (effEnumAssignDue s)
def execEnumAssign (p : Nat) (bl : List WireBlock) (s : State) : Res := .next (effEnumAssign p bl s)
def execEnumAck (p : Nat) (bl : List WireBlock) (s : State) : Res := .next (effEnumAck p bl s)
def execEnumAckTimeout (s : State) : Res := .next (effEnumAckTimeout s)
def execEnumDoneDue (s : State) : Res := .next (effEnumDoneDue s)
def execEnumDone (p : Nat) (bl : List WireBlock) (s : State) : Res := .next (effEnumDone p bl s)
def execActionDeal (n : Nat) (s : State) : Res := .next (effActionDeal n s)
def execDealCmd (v : Nat) (s : State) : Res := .next (effDealCmd v s)
def execDealArm (p : Nat) (bl : List WireBlock) (s : State) : Res := .next (effDealArm p bl s)
def execDealDisarm (p : Nat) (bl : List WireBlock) (s : State) : Res := .next (effDealDisarm p bl s)
def execDealActionDue (id : Nat) (s : State) : Res := .next (effDealActionDue id s)
def execTimeSend (s : State) : Res := .next (effTimeSend s)
def execTimeMessage (p : Nat) (bl : List WireBlock) (s : State) : Res := .next (effTimeMessage p bl s)
def execBlockLockAcquired (p : Nat) (s : State) : Res := .next (effBlockLockAcquired p s)
def execNeighbourAbsent (p : Nat) (s : State) : Res := .next (effNeighbourAbsent p s)
def execTokenSend (p : Nat) (s : State) : Res := .next (effTokenSend p s)
def execTokenRequest (p : Nat) (bl : List WireBlock) (sub : Nat) (s : State) : Res := .next (effTokenRequest p bl sub s)
def execTokenReply (p : Nat) (bl : List WireBlock) (sub : Nat) (s : State) : Res := .next (effTokenReply p bl sub s)
def execEnsClrCounts (s : State) : Res := .next (effEnsClrCounts s)

end Sys2Proof.Machine
end

