-- ==== Sys2Proof/Machine/Flash.lean ====
section
/-!
DEFINITION. The configuration flash, the slot control record, signed objects and their verification, and the reading of a
configuration image (R361 to R363, R397 to R403).
-/

namespace Sys2Proof.Machine

/-! ### Flash bytes (R397, Table 17-5) -/

/-- SLOT_SIZE in bytes: (capacity - 64 KiB) / 2, rounded down to a multiple of 64 KiB (Table 17-5). -/
def NvSt.slotSize (nv : NvSt) : Nat := (nv.flashMiB * 1048576 - 65536) / 2 / 65536 * 65536

/-- Flash address of a slot (Table 17-5). -/
def NvSt.slotBase (nv : NvSt) (slot : Nat) : Nat := 65536 + slot * nv.slotSize

/-- Flash bytes; an unlisted byte is erased. -/
def NvSt.read (nv : NvSt) (addr len : Nat) : List Byte :=
  (List.range len).map fun i => Tbl.get (0xFF : Byte) nv.flash (addr + i)

/-- The 4 KiB sector of an address erased. -/
def NvSt.erase (nv : NvSt) (addr : Nat) : NvSt := { nv with flash := nv.flash.filter fun e => e.1 / 4096 != addr / 4096 }

/-- Flash bytes programmed. -/
def NvSt.program (nv : NvSt) (addr : Nat) (bs : List Byte) : NvSt :=
  let r := bs.foldl (fun (p : Nat × Tbl Byte) b => (p.1 + 1, Tbl.set (0xFF : Byte) p.2 p.1 b)) (addr, nv.flash)
  { nv with flash := r.2 }

/-- Flash read, by the only read command the device uses (Table 17-4). -/
def State.reads (s : State) (addr len : Nat) : State := s.emit (.flash 0xEB addr len)

/-- Polling after an erase or a program, each begun by a write enable (Table 17-4). -/
def State.flashOp (s : State) (code addr len : Nat) : State :=
  ((s.emit (.flash 0x06 0 0)).emit (.flash code addr len)).emit (.flash 0x05 0 1)

/-- `n` pages of 256 bytes programmed from an address (Table 17-4). -/
def State.pages (s : State) (addr : Nat) : Nat → State
  | 0 => s
  | n + 1 => (s.flashOp 0x32 addr 256).pages (addr + 256) n

/-! ### Control records (R398) -/

/-- Bytes 0 to 59 of a control record (R398). -/
def CtlRec.head (r : CtlRec) : List Byte :=
  le 4 0x4C565343 ++ le 2 1 ++ le 2 0 ++ le 4 r.wseq ++ le 1 r.stateA ++ le 1 r.stateB ++
    le 1 ((if r.seenA then 1 else 0) + (if r.seenB then 2 else 0)) ++ le 1 r.wdog ++ List.replicate 44 0

/-- The 64 bytes of a control record (R398). -/
def CtlRec.bytes (r : CtlRec) : List Byte := r.head ++ le 4 (crc32 r.head)

/-- The control record that 64 bytes hold, when MAGIC, FORMAT and CRC are correct (R398). -/
def readCtl (b : List Byte) : Option CtlRec :=
  if num b 0 4 = 0x4C565343 ∧ num b 4 2 = 1 ∧ num b 60 4 = crc32 (b.take 60) then
    some { wseq := num b 8 4, stateA := num b 12 1, stateB := num b 13 1, seenA := bitOf (num b 14 1) 0, seenB := bitOf (num b 14 1) 1
           wdog := num b 15 1 }
  else none

/-- Copy `i` of the control record, when it is valid (Table 17-5). -/
def NvSt.copy (nv : NvSt) (i : Nat) : Option CtlRec := readCtl (nv.read (4096 * i) 64)

/-- Sequence number `a` is later than `b`, modulo 2^32 within half the range (R398). -/
def laterWrite (a b : Nat) : Bool := decide ((a + 2 ^ 32 - b) % 2 ^ 32 < 2 ^ 31)

/-- The prevailing record of two copies: the valid one with the later WSEQ (R398). -/
def prevailing : Option CtlRec → Option CtlRec → Option CtlRec
  | some a, some b => if laterWrite a.wseq b.wseq then some a else some b
  | some a, none => some a
  | none, b => b

/-- The control record in force: the one being written, else the prevailing copy. -/
def NvSt.ctl (nv : NvSt) : Option CtlRec :=
  match nv.ctlBusy with
  | some w => some w.2
  | none => prevailing (nv.copy 0) (nv.copy 1)

/-- The record while neither copy is valid: both slots unrecorded, to be tried as COMMITTED slots (R398). -/
def unrecorded : CtlRec := { wseq := 0, stateA := 5, stateB := 5, seenA := false, seenB := false, wdog := 0 }

/-- The record in force, or the unrecorded one. -/
def NvSt.ctlOr (nv : NvSt) : CtlRec := nv.ctl.getD unrecorded

/-- The slots are recorded: a valid record whose slots are not both COMMITTED, which is what the record of an unrecorded unit holds that
only counts watchdog resets (R395, R398; log entry 126). -/
def NvSt.recorded (nv : NvSt) : Bool := nv.ctl.isSome && !(nv.ctlOr.stateA == 5 && nv.ctlOr.stateB == 5)

/-- The control record being written is programmed. -/
def NvSt.finishCtl (nv : NvSt) : NvSt :=
  match nv.ctlBusy with
  | some (k, r) => { nv.program (4096 * k) r.bytes with ctlBusy := none }
  | none => nv

/-- A reset interrupts the write of a control record: its copy stays erased (R398, R408). -/
def NvSt.dropCtl (nv : NvSt) : NvSt := { nv with ctlBusy := none }

/-- The copy that a write of the record goes to: the one that does not prevail (R398). -/
def NvSt.nextCopy (nv : NvSt) : Nat :=
  match nv.copy 0, nv.copy 1 with
  | some a, some b => if laterWrite a.wseq b.wseq then 1 else 0
  | some _, none => 1
  | none, _ => 0

/-- A write of the record begins: the other copy is erased, to take the record with WSEQ + 1 (R398). -/
def NvSt.writeCtl (nv : NvSt) (r : CtlRec) : NvSt :=
  let nv := nv.finishCtl
  { nv.erase (4096 * nv.nextCopy) with ctlBusy := some (nv.nextCopy, { r with wseq := (nv.ctlOr.wseq + 1) % 2 ^ 32 }) }

/-- State of a slot in a record. -/
def CtlRec.state (r : CtlRec) (slot : Nat) : Nat := if slot = 0 then r.stateA else r.stateB

/-- A slot's state changed in a record. -/
def CtlRec.setState (r : CtlRec) (slot v : Nat) : CtlRec :=
  if slot = 0 then { r with stateA := v } else { r with stateB := v }

/-- READY_SEEN of a slot. -/
def CtlRec.seen (r : CtlRec) (slot : Nat) : Bool := if slot = 0 then r.seenA else r.seenB

/-- READY_SEEN of a slot changed. -/
def CtlRec.setSeen (r : CtlRec) (slot : Nat) (v : Bool) : CtlRec :=
  if slot = 0 then { r with seenA := v } else { r with seenB := v }

/-- The state of a slot that SEC.SLOT_STATE shows: EMPTY while it is unrecorded (log entry 37). -/
def NvSt.shown (nv : NvSt) (slot : Nat) : Nat := if nv.recorded then nv.ctlOr.state slot else 0

/-- A slot header (R399). -/
structure SlotHead where
  fwOff : Nat
  fwLen : Nat
  cfgOff : Nat
  cfgLen : Nat
  patchOff : Nat
  patchLen : Nat
  deriving DecidableEq, Repr

/-- A slot header read and checked: MAGIC, FORMAT, CRC, zero bytes, offsets and lengths multiples of 4096 within the slot
(R399). -/
def NvSt.slotHead (nv : NvSt) (slot : Nat) : Option SlotHead :=
  let b := nv.read (nv.slotBase slot) 64
  let h : SlotHead := { fwOff := num b 8 4, fwLen := num b 12 4, cfgOff := num b 16 4, cfgLen := num b 20 4
                        patchOff := num b 24 4, patchLen := num b 28 4 }
  let fits : Nat → Nat → Bool := fun o l => o % 4096 == 0 && l % 4096 == 0 && decide (o + l ≤ nv.slotSize)
  if num b 0 4 = 0x4C565331 ∧ num b 4 2 = 1 ∧ num b 6 2 = 0 ∧ num b 32 28 = 0 ∧ num b 60 4 = crc32 (b.take 60) ∧
      fits h.fwOff h.fwLen && fits h.cfgOff h.cfgLen && (h.patchLen == 0 || fits h.patchOff h.patchLen) then some h
  else none

/-! ### Signed objects (R360 to R362) -/

/-- The outcome of a verification: 0 verified, else LAST_FAIL: 1 signature, 2 key, 3 ROLLBACK, 4 format. -/
abbrev Verdict := Nat

/-- The owner key hash in force: the fuses, or during an enrolling LOAD the permit's (R361, R364). -/
def State.ownerKey (s : State) : List Byte := if s.nv.ownerValid then s.nv.ownerHash else s.sec.permit

/-- A signature block judged against its body: MAGIC, KIND, BODY_LENGTH and zero fields, KEY_HASH of PUBKEY, the signature, and
the key that Table 15-3 names (R360, R361). -/
def blockVerdict (body blk : List Byte) (kind role : Nat) (key : List Byte) : Verdict :=
  let pub := slice blk 64 97
  if num blk 0 4 ≠ 0x53474E31 ∨ num blk 4 1 ≠ kind ∨ num blk 6 1 ≠ role ∨ num blk 7 1 ≠ 0 ∨ num blk 8 4 ≠ body.length ∨
      num blk 12 4 ≠ 0 ∨ num blk 161 15 ≠ 0 ∨ blk.length ≠ 272 then 4
  else if slice blk 16 48 ≠ Config.sha384 pub then 2
  else if Config.sha384 pub ≠ key then 2
  else if Config.sigValid (body ++ blk.take 176) pub (slice blk 176 96) = false then 1
  else 0

/-- The SVN of a signature block. -/
def blockSvn (blk : List Byte) : Nat := num blk 5 1

/-- An owner block's SVN below RB_COUNT or above 64 is refused as ROLLBACK (R362). -/
def svnVerdict (rb : Nat) (blk : List Byte) : Verdict := if blockSvn blk < rb ∨ 64 < blockSvn blk then 3 else 0

/-- An object of bytes `obj` with a body of `len` bytes: a configuration image carries an owner block; firmware and a patch carry
Catraeno's, then the owner's, whose key hash is `key` (Table 15-3). -/
def State.objectVerdict (s : State) (obj : List Byte) (len kind : Nat) (key : List Byte) : Verdict :=
  let body := obj.take len
  let b1 := slice obj len 272
  let b2 := slice obj (len + 272) 272
  if obj.length < len then 4
  else if kind = 1 then
    match blockVerdict body b1 1 0 key with
    | 0 => svnVerdict s.nv.rbCount b1
    | v => v
  else
    match blockVerdict body b1 kind 1 Config.rootHash with
    | 0 => match blockVerdict body b2 kind 0 key with
      | 0 => svnVerdict s.nv.rbCount b2
      | v => v
    | v => v

/-- The owner SVN of an object. -/
def objectSvn (obj : List Byte) (len kind : Nat) : Nat :=
  if kind = 1 then blockSvn (slice obj len 272) else blockSvn (slice obj (len + 272) 272)

/-- A failed verification: LAST_FAIL, a TRUST log entry and the trust-verify fault (R361). Objects: 1 image, 2 firmware, 3 patch,
4 permit, 5 update object. The payload's layout is the model's (log entry 23). -/
def State.verifyFailed (s : State) (obj : Nat) (v : Verdict) : State :=
  let s := s.setF SEC.STATUS.LAST_FAIL v
  let s := (s.stageTrust (le 1 5 ++ le 1 obj ++ le 1 v ++ le 5 0)).2
  s.raise 241 obj 0 v 0

/-- The objects of a slot with the lengths of their bodies: firmware (32-byte header and code), image, patch when present. -/
def NvSt.objects (nv : NvSt) (slot : Nat) (h : SlotHead) : List (Nat × List Byte × Nat) :=
  let base := nv.slotBase slot
  let fw := nv.read (base + h.fwOff) h.fwLen
  let cfg := nv.read (base + h.cfgOff) h.cfgLen
  let patch := nv.read (base + h.patchOff) h.patchLen
  [(2, fw, 32 + num fw 18 4), (1, cfg, num cfg 12 4)] ++
    (if h.patchLen = 0 then [] else [(3, patch, num patch 12 4)])

/-- The smallest owner SVN among the objects of a slot (R366). -/
def NvSt.slotSvn (nv : NvSt) (slot : Nat) : Nat :=
  match nv.slotHead slot with
  | none => 0
  | some h => (nv.objects slot h).foldl (fun m o => min m (objectSvn o.2.1 o.2.2 o.1)) 127

/-- SEC.SLOT_STATE as the flash is: each slot's state and, unless it is EMPTY, its smallest owner SVN (R377). -/
def State.showSlots (s : State) : State :=
  [0, 1].foldl (fun (s : State) k =>
    (s.setF (SEC.SLOT_STATE.STATE k) (s.nv.shown k)).setF (SEC.SLOT_STATE.SVN k) (if s.nv.shown k = 0 then 0 else s.nv.slotSvn k)) s

/-- The control record being written is programmed (R398). -/
def State.finishCtl (s : State) : State :=
  match s.nv.ctlBusy with
  | some (k, _) => { s with nv := s.nv.finishCtl }.flashOp 0x32 (4096 * k) 64
  | none => s

/-- A control record written, SEC.SLOT_STATE following it: its copy is erased now and programmed in the next cycle in which no command
waits (R398; log entry 126). -/
def State.writeCtl (s : State) (r : CtlRec) : State :=
  let s := s.finishCtl
  State.showSlots ({ s with nv := s.nv.writeCtl r }.flashOp 0x20 (4096 * s.nv.nextCopy) 4096)

/-! ### Enrolment permit (R363, R364) -/

/-- A permit as a signed object: its format, then its Catraeno block (R361, R363). -/
def permitBlock (permit : List Byte) : Verdict :=
  let body := permit.take 80
  if num body 0 2 ≠ 1 ∨ num body 2 14 ≠ 0 then 4 else blockVerdict body (slice permit 80 272) 4 1 Config.rootHash

/-- ENROL_RESULT of the permit of an image body, its ANCHORS section, or 0 when it stands (R364, Table 17-9). -/
def permitVerdict (serial ownerFuses permit : List Byte) : Nat :=
  let body := permit.take 80
  if permit.isEmpty then 2
  else if permitBlock permit ≠ 0 then 3
  else if slice body 16 16 ≠ serial then 4
  else if (List.zipWith (fun (f o : Byte) => f &&& o == f) ownerFuses (slice body 32 48)).all id then 0
  else 5

/-! ### Configuration image (R400 to R403) -/

/-- A section of an image: type and content. -/
abbrev Section := Nat × List Byte

/-- The directory entry `i` read (R400). -/
def readSection (body : List Byte) (i : Nat) : Option Section :=
  let e := 64 + 16 * i
  let off := num body (e + 4) 4
  let len := num body (e + 8) 4
  if num body (e + 2) 2 = 1 ∧ off % 64 = 0 ∧ off + len ≤ body.length ∧ num body (e + 12) 4 = 0 then
    some (num body e 2, slice body off len)
  else none

/-- Where the sections lie, for the overlap test. -/
def sectionSpan (body : List Byte) (i : Nat) : Nat × Nat :=
  (num body (64 + 16 * i + 4) 4, num body (64 + 16 * i + 4) 4 + num body (64 + 16 * i + 8) 4)

/-- The sections of a well-formed image body: header, directory, no overlap, no type twice (R400). -/
def imageSections (body : List Byte) : Option (List Section) :=
  let n := num body 6 2
  let idx := List.range n
  let secs := idx.filterMap (readSection body)
  let spans := idx.map (sectionSpan body)
  let disjoint := idx.all fun i => idx.all fun j =>
    i == j || decide ((spans.getD i (0, 0)).2 ≤ (spans.getD j (0, 0)).1) || decide ((spans.getD j (0, 0)).2 ≤ (spans.getD i (0, 0)).1)
  let types := secs.map Prod.fst
  if num body 0 4 = 0x4C564331 ∧ num body 4 2 = 1 ∧ 1 ≤ n ∧ n ≤ 32 ∧ num body 40 24 = 0 ∧ secs.length = n ∧
      disjoint = true ∧ types.Nodup then some secs
  else none

/-- The content of a section, when present. -/
def sectionOf (secs : List Section) (type : Nat) : Option (List Byte) := (secs.find? fun x => x.1 == type).map Prod.snd

/-! ### The permit and the whole of a slot (R361, R364, R367) -/

/-- The bytes of the configuration image object of a slot. -/
def NvSt.cfgObject (nv : NvSt) (k : Nat) (h : SlotHead) : List Byte := nv.read (nv.slotBase k + h.cfgOff) h.cfgLen

/-- The ANCHORS section of the image of a slot, empty without one. -/
def NvSt.permitBytes (nv : NvSt) (k : Nat) (h : SlotHead) : List Byte :=
  let cfg := nv.cfgObject k h
  match imageSections (cfg.take (num cfg 12 4)) with
  | none => []
  | some secs => (sectionOf secs 3).getD []

/-- Steps 1 and 2 of enrolment: the permit of the slot's image, when OWNER_VALID is unblown. The answer is ENROL_RESULT, 0 when the
permit stands, and the permitted hash (R364). -/
def State.permitOf (s : State) (k : Nat) (h : SlotHead) : Nat × List Byte :=
  let p := s.nv.permitBytes k h
  (permitVerdict (padTo Config.serial 16) (padTo s.nv.ownerHash 48) p, slice p 32 48)

/-- LAST_FAIL of a permit refused with an ENROL_RESULT: what its signature block shows, and format where the block stands (R361, R364; log
entry 23). -/
def State.permitFail (s : State) (k : Nat) (h : SlotHead) (result : Nat) : Verdict :=
  if result = 3 then permitBlock (s.nv.permitBytes k h) else 4

/-- The owner key hash that the objects of a slot must carry, with the verdict on the slot's permit, which must verify wherever there is one
(R361, Table 15-3): the fuses, or before enrolment the permit's. -/
def State.slotKey (s : State) (k : Nat) (h : SlotHead) : Verdict × List Byte :=
  let p := s.nv.permitBytes k h
  if s.nv.ownerValid then (if p.isEmpty then 0 else permitBlock p, s.nv.ownerHash)
  else
    let r := s.permitOf k h
    (if r.1 = 0 then 0 else s.permitFail k h r.1, r.2)

/-- Every object of a slot verifies, the permit among them (R361, R362, R367): the first failure, or 0. -/
def State.slotVerdict (s : State) (slot : Nat) : Verdict :=
  match s.nv.slotHead slot with
  | none => 4
  | some h =>
    let key := s.slotKey slot h
    (s.nv.objects slot h).foldl (fun v o => if v ≠ 0 then v else s.objectVerdict o.2.1 o.2.2 o.1 key.2) key.1

/-- The channel record at an offset (Table 17-11). -/
def readChan (b : List Byte) (o : Nat) : Chan :=
  { ch := num b o 1, p := num b (o + 4) 4, q := num b (o + 8) 4, h := num b (o + 12) 4, dm1 := num b (o + 16) 2
    phi := num b (o + 18) 2, g := num b (o + 20) 2, gMin := num b (o + 22) 2, gMax := num b (o + 24) 2
    dMin := num b (o + 26) 2, dMax := num b (o + 28) 2 }

/-- The plan record at the start of the bytes (Table 17-11). -/
def readPlan (b : List Byte) : Plan :=
  let f := num b 1 1
  let a := num b 56 1
  { num := num b 0 1, autostart := bitOf f 0, ring := !bitOf f 1, callRx := bitOf f 2, callTx := bitOf f 3, deficit := bitOf f 4
    prio := num b 2 1, sets := num b 4 4, f := num b 8 4, deadline := num b 12 4, ringBase := num b 16 4, catBase := num b 20 4
    rmax := num b 24 4, hold := num b 28 1, termSel := num b 32 8, holdTicks := num b 40 4, holdSamples := num b 44 2
    holdCount := num b 48 4, holdMax := num b 52 4, accEn := bitOf a 0, accDram := bitOf a 1, accSplit := bitOf a 2
    accAlign := bitOf a 3, qmask := num b 57 1, accPre := num b 60 4, accL := num b 64 4, target := num b 68 4
    accBase := num b 72 4, chans := (List.range (num b 3 1)).map fun i => readChan b (128 + 32 * i) }

/-- Some bytes of a list, by offset and length, are all zero. -/
def zeroAt (b : List Byte) (l : List (Nat × Nat)) : Bool := l.all fun x => num b x.1 x.2 == 0

/-- A plan record's bits and bytes that Table 17-11 does not list are zero, so are those of its channel records, and its channels ascend
(R402). -/
def planFormOk (b : List Byte) : Bool :=
  let k := num b 3 1
  decide (num b 1 1 < 32) && decide (num b 56 1 < 16) && zeroAt b [(29, 3), (46, 2), (58, 2), (76, 52)] &&
    (List.range k).all fun i =>
      let o := 128 + 32 * i
      zeroAt b [(o + 1, 3), (o + 30, 2)] && (i == 0 || decide (num b (o - 32) 1 < num b o 1))

/-- A PLANS section is whole plan records, at most so many, each in form (R402; log entry 105). -/
def plansOk : Nat → List Byte → Bool
  | 0, b => b.isEmpty
  | n + 1, b => b.isEmpty ||
      (decide (128 ≤ b.length) && decide (128 + 32 * num b 3 1 ≤ b.length) && planFormOk b && plansOk n (b.drop (128 + 32 * num b 3 1)))

/-- The plans of a PLANS section: each a plan record and its channel records (R402). -/
def readPlans : Nat → List Byte → List Plan
  | 0, _ => []
  | n + 1, b => if b.length < 128 then [] else readPlan b :: readPlans n (b.drop (128 + 32 * num b 3 1))

/-- The entries of a SCHEDULE section, 32 bytes each (R403). -/
def readSchedule : Nat → List Byte → List SchedImage
  | 0, _ => []
  | n + 1, b =>
    if b.length < 32 then []
    else { entry := num b 0 1, action := num b 1 1, runLate := bitOf (num b 2 1) 0, relative := bitOf (num b 2 1) 1
           tick := num b 4 6, arg := num b 12 4, lateMax := num b 16 2, window := num b 18 2, period := num b 20 4 } ::
         readSchedule n (b.drop 32)

/-- The records of a REGISTERS section: BAR0 offset and value (R401). -/
def readRegRecords : Nat → List Byte → List (Nat × Nat)
  | 0, _ => []
  | n + 1, b => if b.length < 8 then [] else (num b 0 4, num b 4 4) :: readRegRecords n (b.drop 8)

/-- A manifest entry: stepping, ROM version, firmware major and minor, patch version (R401). -/
structure ManifestEntry where
  stepping : Nat
  rom : Nat
  major : Nat
  minor : Nat
  patch : Nat
  deriving DecidableEq, Repr

/-- A MANIFEST section is in form: NENT from 1 to 64, so many entries and no more, its zero bytes zero (R401). -/
def manifestOk (b : List Byte) : Bool :=
  let n := num b 0 2
  decide (1 ≤ n) && decide (n ≤ 64) && b.length == 8 + 16 * n && num b 2 6 == 0 &&
    (List.range n).all fun i => zeroAt b [(8 + 16 * i + 1, 1), (8 + 16 * i + 10, 6)]

/-- The entries of a MANIFEST section (R401). -/
def readManifest (b : List Byte) : List ManifestEntry :=
  (List.range (num b 0 2)).map fun i =>
    let o := 8 + 16 * i
    { stepping := num b o 1, rom := num b (o + 2) 2, major := num b (o + 4) 2, minor := num b (o + 6) 2, patch := num b (o + 8) 2 }

/-- The sections are those of Table 17-9, at the lengths it gives. -/
def sectionsOk (secs : List Section) : Bool :=
  secs.all fun x => let n := x.2.length
    if x.1 = 1 then manifestOk x.2
    else if x.1 = 2 then n == 56
    else if x.1 = 3 then n == 0 || n == 352
    else if x.1 = 4 then n == 1024
    else if x.1 = 5 then plansOk 64 x.2
    else if x.1 = 6 then n % 32 == 0 && decide (n ≤ 32 * 256)
    else decide (0x100 ≤ x.1) && decide (x.1 ≤ 0x111) && n % 8 == 0

/-! ### The identity certificate (R358) -/

/-- What the identity certificate is over: serial, public key, ordering code, stepping (Table 15-1; log entry 3). -/
def certBody : List Byte := padTo Config.serial 16 ++ Config.idKey ++ le 1 Config.orderCode ++ le 1 Config.stepping

/-- Bytes 0 to 175 of the identity certificate: Catraeno's signature block of KIND 5 (Table 15-2). -/
def certHead : List Byte :=
  le 4 0x53474E31 ++ le 1 5 ++ le 1 Config.certSvn ++ le 1 1 ++ le 1 0 ++ le 4 certBody.length ++ le 4 0 ++ Config.rootHash ++
    Config.rootKey ++ List.replicate 15 0

/-- The 272 bytes of the identity certificate (R358, R360). -/
def certificate : List Byte := certHead ++ Config.signRoot (certBody ++ certHead)

end Sys2Proof.Machine
end

