-- ==== Sys2Proof/Machine/ImageTable.lean ====
section
/-!
DEFINITION. The register fields that a register image may set (R401): those the register tables mark "from the image" or whose
Reset column reads "From image", the fields of one library plan excepted; TIME.CFG counts whole (log entry 36).
-/

namespace Sys2Proof.Machine

/-- The bits of the register at a BAR0 offset that a register image may set; 0 where it may set none (R401). -/
def imageMask (off : Nat) : Nat :=
  match off / 0x10000 with
  | 0 =>
    if off == 0x3C then 0x1
    else 0
  | 1 =>
    if off == 0x10000 then 0xF
    else if off == 0x10024 then 0xFFFFFFFF
    else 0
  | 2 =>
    if off == 0x20000 then 0x7F
    else if off == 0x20004 then 0xFFFFFFFF
    else if off == 0x20008 then 0xFFFFFFFF
    else 0
  | 3 =>
    if off == 0x30010 then 0x1FFF01
    else if (index1 0x30040 4 4 off).isSome then 0xFFFFFFFF
    else 0
  | 4 =>
    if (index1 0x40040 32 4 off).isSome then 0x7
    else if (index1 0x40044 32 4 off).isSome then 0xFFFFFFFF
    else if (index1 0x400C0 16 2 off).isSome then 0xFFFF03FF
    else if (index1 0x40100 4 64 off).isSome then 0x1FF
    else if (index1 0x41000 32 64 off).isSome then 0xFFFFFFFF
    else if (index1 0x41004 32 64 off).isSome then 0xFFFFFFFF
    else if (index1 0x41008 32 64 off).isSome then 0xFFFFFFFF
    else if (index1 0x4100C 32 64 off).isSome then 0xFFFFFFFF
    else if (index1 0x41010 32 64 off).isSome then 0x3F3F
    else if (index1 0x42000 32 128 off).isSome then 0x337
    else if (index1 0x42004 32 128 off).isSome then 0xFFF0FFF
    else if (index1 0x42008 32 128 off).isSome then 0xFF
    else if (index1 0x4200C 32 128 off).isSome then 0xFFFFFF
    else if (index1 0x42010 32 128 off).isSome then 0xFFFFFF
    else if (index1 0x42014 32 128 off).isSome then 0xFFF0FFF
    else if (index1 0x42018 32 128 off).isSome then 0xFFFFFFFF
    else if (index1 0x4201C 32 128 off).isSome then 0xFF00
    else 0
  | 7 =>
    if (index1 0x72000 32 4 off).isSome then 0x3F01FF
    else if (index1 0x72004 32 4 off).isSome then 0x7FFFFFFF
    else if (index1 0x72008 32 4 off).isSome then 0xFFFF0FFF
    else if (index1 0x7200C 32 4 off).isSome then 0xFFFFFF0F
    else if (index1 0x72010 32 4 off).isSome then 0xFFFF
    else if (index1 0x7201C 32 4 off).isSome then 0x8FFFFFFF
    else if off == 0x73000 then 0x1F
    else if off == 0x73004 then 0xFFFFFFFF
    else if off == 0x73008 then 0xFFF0FFF
    else if off == 0x7300C then 0xFFF0FFF
    else if off == 0x73010 then 0xFFF0FFF
    else if off == 0x73014 then 0xFFFFFFFF
    else if (index1 0x73020 4 4 off).isSome then 0xFFFFFFF
    else if (index1 0x73400 4 256 off).isSome then 0x3FF
    else 0
  | 8 =>
    if off == 0x80000 then 0xF
    else if off == 0x80004 then 0xFFFFFFFF
    else if off == 0x80008 then 0xFFFFFFFF
    else if off == 0x8000C then 0xFFFFFFFF
    else if off == 0x80010 then 0xFFFF
    else if (index1 0x80100 16 16 off).isSome then 0xFFFFFF03
    else if (index1 0x80104 16 16 off).isSome then 0xFFFFFFFF
    else if (index1 0x80108 16 16 off).isSome then 0xFFFFFFFF
    else 0
  | 9 =>
    if off == 0x90000 then 0x1FFFFF
    else if off == 0x9000C then 0xFFFF0000
    else if off == 0x90014 then 0x1FFFFFF
    else if off == 0x90018 then 0x3FFFFFFF
    else if off == 0x9001C then 0xFFFFFFF
    else 0
  | 11 =>
    if (index1 0xB0000 64 512 off).isSome then 0xFF07FF
    else if (index1 0xB0004 64 512 off).isSome then 0xFFFFFFFF
    else if (index1 0xB0008 64 512 off).isSome then 0xFFFFFFFF
    else if (index1 0xB000C 64 512 off).isSome then 0x3F0F
    else if (index1 0xBC000 16 512 off).isSome then 0x8000FFFF
    else 0
  | 12 =>
    if off == 0xC0000 then 0xFF1FFF
    else if off == 0xC000C then 0xFFFFF
    else if off == 0xC0010 then 0xFFF0FFF
    else if off == 0xC0014 then 0xFFF0FFF
    else if off == 0xC0018 then 0xFFF0FFF
    else if off == 0xC001C then 0xFFF0FFF
    else if off == 0xC0020 then 0xFF
    else if (index1 0xC0024 4 2 off).isSome then 0xFFFFFFF
    else if off == 0xC002C then 0xFFFF
    else if (index1 0xC0400 4 256 off).isSome then 0xFFFFFFFF
    else 0
  | 14 =>
    if off == 0xE0004 then 0x18
    else if off == 0xE0010 then 0x7FFFFF
    else if off == 0xE0014 then 0xFFFF
    else if (index1 0xE0500 4 40 off).isSome then 0xFFFF0FFF
    else if (index1 0xE0600 8 40 off).isSome then 0xFFF0FFF
    else if (index1 0xE0604 8 40 off).isSome then 0x3FFF
    else if (index1 0xE0800 4 16 off).isSome then 0xF3
    else if (index1 0xE0840 4 4 off).isSome then 0x33F
    else if (index2 0xE0C00 64 16 4 16 off).isSome then 0x33F
    else 0
  | 15 =>
    if off == 0xF0008 then 0x1F1F
    else 0
  | 16 =>
    if off == 0x100000 then 0xF
    else 0
  | 17 =>
    if (index1 0x110120 4 8 off).isSome then 0xFFFFFFFF
    else if (index1 0x111000 16 256 off).isSome then 0x3FF
    else 0
  | _ => 0

end Sys2Proof.Machine
end

