-- ==== Sys2Proof/Machine/Image.lean ====
section
/-!
DEFINITION. What a configuration image and a patch record do at LOAD: the rules an image must keep (R30, R36, R68, R113, R119,
R120, R143, R175, R192, R206, R208, R245, R249, R303, R307, R400 to R402), the register images and the plan library applied, the
patch loaded (R335 to R337). Reading the image's bytes is in Machine/Flash.lean.
-/

namespace Sys2Proof.Machine

/-! ### Register images (R401) -/

/-- A field whose value is fixed although its register is writable: ROUTE.LOG of a fault source (R414, R423). -/
def fixedField (f : Fld) : Bool := (List.range 256).any fun n => isFaultSource n && f.addr == (EVT.ROUTE.LOG n).addr

/-- The bits of its register that a field occupies. -/
def Fld.mask (f : Fld) : Nat := (2 ^ f.width - 1) * 2 ^ (f.addr % 32)

/-- Every bit of `m` is in `n`, over 32 bits. -/
def bitsWithin (m n : Nat) : Bool := (List.range 32).all fun i => !bitOf m i || bitOf n i

/-- The fields of a register at an offset. -/
def fieldsAt (off : Nat) : List Fld := ((findReg off).getD []).map Prod.snd

/-- The pacing marks that a record gives a queue, when it gives them: 1 ≤ HI_MARK and LO_MARK < HI_MARK (R289). -/
def paceOk (r : Nat × Nat) : Bool := (index1 0xB0004 64 512 r.1).isNone || decide (r.2 / 2 ^ 16 < r.2 % 2 ^ 16)

/-- A register-image record kept: its offset is a register's, the bits it sets are all the image's to set (R401). -/
def recordOk (r : Nat × Nat) : Bool := r.1 % 4 == 0 && imageMask r.1 != 0 && bitsWithin r.2 (imageMask r.1) && paceOk r

/-- A register-image record applied: the fields that the image may set take their bits (R401). -/
def State.applyRecord (s : State) (r : Nat × Nat) : State :=
  (fieldsAt r.1).foldl (fun (s : State) (f : Fld) =>
    if bitsWithin f.mask (imageMask r.1) && !fixedField f then s.setF f (r.2 / 2 ^ (f.addr % 32)) else s) s

/-- The records of the register images of an image, each with the block its section names (R401, Table 17-9). -/
def regRecords (secs : List Section) : List (Nat × (Nat × Nat)) :=
  (secs.filter fun x => decide (0x100 ≤ x.1) && decide (x.1 ≤ 0x111)).flatMap fun x =>
    (readRegRecords (x.2.length / 8) x.2).map fun r => (x.1 - 0x100, r)

/-- The block of a BAR0 offset as a section names it: RDO, 128 KiB, is block 10. -/
def blockOf (off : Nat) : Nat := if off / 0x10000 = 11 then 10 else off / 0x10000

/-- The register images are well formed: each record in its section's block, no offset twice (R401). -/
def regImagesOk (secs : List Section) : Bool :=
  let rs := regRecords secs
  (rs.all fun r => blockOf r.2.1 == r.1 && recordOk r.2) && decide ((rs.map fun r => r.2.1).Nodup)

/-! ### Plan library (R402) -/

/-- A plan of the image put into the library and shown; its catalogue is to be re-initialised (R144). -/
def State.loadPlan (s : State) (pl : Plan) : State :=
  let p := pl.num
  let s := s.putPlan pl
  let s := ((s.setF (ACQ.LIB_CFG.VALID p) 1).setB (ACQ.LIB_CFG.AUTOSTART p) pl.autostart).setB (ACQ.LIB_CFG.POLICY p) (!pl.ring)
  let s := ((s.setF (ACQ.LIB_CFG.PRIORITY p) pl.prio).setF (ACQ.LIB_CFG.K p) pl.k).setF (ACQ.LIB_CFG.STALE p) 1
  let s := ((s.setF (ACQ.LIB_SETS.SETS p) pl.sets).setF (ACQ.LIB_FOLIO.F p) pl.f).setF (ACQ.LIB_DEADLINE.TICKS p) pl.deadline
  (s.setF (ACQ.LIB_RING.BASE p) pl.ringBase).setF (ACQ.LIB_CAT.BASE p) pl.catBase

/-- The plans of an image loaded; the channel registers show their current plans (R189, ACQ.CH_GEOM). -/
def State.loadPlans (s : State) (l : List Plan) : State :=
  (List.range 64).foldl State.showChan (l.foldl State.loadPlan s)

/-! ### What an image must keep -/

/-- Channel `c` exists in the layout (R68), unused or not. -/
def State.inLayout (s : State) (c : Nat) : Bool := decide (c < 64) && s.chanOf c == c && (!s.trunk (c / 16) || c % 16 == 0)

/-- The channel of detector `i`. -/
def detChan (i : Nat) : Nat := i / 2

/-- Qualifier bit `q` keeps R113. -/
def State.qualOk (s : State) (q : Nat) : Bool :=
  let src := s.fld (TRG.QMAP.SRC q)
  (decide (src < 136) || src == 255) && (decide (128 ≤ src) || s.inLayout (detChan src)) &&
    (!s.bit (TRG.QMAP.INV q) || !s.eventSource src)

/-- Detector `i` keeps R109 and R113. -/
def State.detOk (s : State) (i : Nat) : Bool :=
  let t := s.fld (TRG.DET_MODE.TYPE i)
  let sense := s.fld (TRG.DET_MODE.SENSE i)
  let w := s.fld (TRG.DET_MODE.WMODE i)
  let w1 := s.fld (TRG.DET_WIDTH1.W1 i)
  let w2 := s.fld (TRG.DET_WIDTH2.W2 i)
  let levels := decide (s.fldS (TRG.DET_LEVEL.LL i) ≤ s.fldS (TRG.DET_LEVEL.LH i))
  if t = 0 then true
  else if t = 1 then decide (sense < 3)
  else if t = 2 then decide (sense < 2)
  else if t = 3 then decide (sense < 2) && levels
  else if t = 4 then decide (sense < 2) && decide (w < 3) && decide (1 ≤ w1) && decide (1 ≤ w2) &&
    !(w == 0 && w1 == 1) && !(w == 2 && decide (w2 < w1))
  else if t = 5 then decide (sense < 2) && levels
  else false

/-- Term `t`, selected by plan `pl`, keeps R119 and R120. -/
def State.termOk (s : State) (pl : Plan) (t : Nat) : Bool :=
  let r := s.fld (TRG.TERM_CTRL.REF t)
  let bitOk : Nat → Bool := fun q =>
    let src := s.fld (TRG.QMAP.SRC q)
    !bitOf (s.termCare t) q || decide (128 ≤ src) || (pl.chan? (detChan src)).isSome
  bitOf (s.termCare t) r && bitOf (s.termVal t) r && s.fld (TRG.QMAP.SRC r) != 255 && (List.range 64).all bitOk

/-- A channel record keeps R175, and the folio size holds its record (R146). -/
def State.chanOk (s : State) (pl : Plan) (c : Chan) : Bool :=
  let g : Nat → Bool := fun x => decide (2112 ≤ x) && decide (x ≤ 6208)
  s.inLayout c.ch && decide (1 ≤ c.q) && decide (c.phi ≤ c.dm1) && decide (c.dMin ≤ c.dMax) && decide (c.dMin ≤ c.dm1) &&
    decide (c.dm1 ≤ c.dMax) && g c.g && g c.gMin && g c.gMax && decide (c.gMin ≤ c.g) && decide (c.g ≤ c.gMax) &&
    decide (folioNeed (s.lanes c.ch) c ≤ 4096 * pl.f)

/-- A plan's accumulation keeps Table 08-1 (R192). -/
def State.accOk (s : State) (pl : Plan) : Bool :=
  let banks := if pl.accSplit then 2 else 1
  let bins := banks * pl.k * pl.accL
  let nmin := pl.chans.foldl (fun (m : Nat) (c : Chan) => min m (s.lanes c.ch)) 64
  decide (1 ≤ pl.accL) && decide (1 ≤ pl.target) && decide (pl.target ≤ 1048576) && decide (pl.accPre + 7 ≤ 8192 * nmin) &&
    (if pl.accDram then decide (pl.accL ≤ 2 ^ 26) && decide (4096 * pl.accBase + 4 * bins ≤ 2 ^ 40)
     else decide (4096 * pl.accBase + bins ≤ 12582912))

/-- A plan keeps the rules of its chapters (R119, R143, R175, R192, R402). -/
def State.planOk (s : State) (pl : Plan) : Bool :=
  decide (pl.num < 64) && decide (1 ≤ pl.k) && decide (pl.k ≤ 64) && decide (1 ≤ pl.sets) && decide (pl.sets * pl.k ≤ 2 ^ 26) &&
    decide (4096 * pl.f ≤ 2 ^ 32 - 4096) && decide ((pl.chans.map fun c => c.ch).Nodup) && pl.chans.all (s.chanOk pl) &&
    (!pl.accEn || s.accOk pl) && (List.range 64).all fun t => !bitOf pl.termSel t || s.termOk pl t

/-- The composer's settings keep R206 and R208, once it is in use. -/
def State.compOk (s : State) : Bool :=
  let e := if s.bit ACC.COMP_CFG.L10 then 2 else 1
  let w := s.fld ACC.COMP_SURF.WIDTH
  let h := s.fld ACC.COMP_SURF.HEIGHT
  let vx := s.fld ACC.COMP_VIEW_POS.VX
  let vy := s.fld ACC.COMP_VIEW_POS.VY
  let vw := s.fld ACC.COMP_VIEW_SIZE.VW
  let vh := s.fld ACC.COMP_VIEW_SIZE.VH
  let lp := s.fld ACC.COMP_PITCH.LPITCH
  let cp := s.fld ACC.COMP_PITCH.CPITCH
  let c420 := s.fld ACC.COMP_CFG.CHROMA == 0
  decide (w ≤ 3840) && decide (h ≤ 2160) && decide (vx + vw ≤ w) && decide (vy + vh ≤ h) && decide (256 ≤ vw) && decide (256 ≤ vh) &&
    vx % 2 == 0 && vw % 2 == 0 && (!c420 || (vy % 2 == 0 && vh % 2 == 0)) && lp % 64 == 0 && cp % 64 == 0 &&
    decide (w * e ≤ lp) && decide ((w + 1) / 2 * 2 * e ≤ cp) &&
    (if s.bit ACC.COMP_CFG.SYNC then s.bit DSP.CFG.ENABLE else decide (1 ≤ s.fld ACC.COMP_PERIOD.TICKS))

/-- The display's settings keep R303 and R307, once it is in use. -/
def State.dspOk (s : State) : Bool :=
  let porch : Nat → Bool := fun x => decide (1 ≤ x)
  let w := s.fld DSP.H_ACT_FP.ACTIVE
  let h := s.fld DSP.V_ACT_FP.ACTIVE
  let khz := s.fld DSP.PCLK.KHZ
  decide (w ≤ 3840) && decide (h ≤ 2160) && porch (s.fld DSP.H_ACT_FP.FP) && porch (s.fld DSP.H_SYNC_BP.SYNC) &&
    porch (s.fld DSP.H_SYNC_BP.BP) && porch (s.fld DSP.V_ACT_FP.FP) && porch (s.fld DSP.V_SYNC_BP.SYNC) &&
    porch (s.fld DSP.V_SYNC_BP.BP) && decide (25000 ≤ khz) && decide (khz ≤ 600000) &&
    decide (16 ≤ s.fld DSP.FETCH.PANIC) && decide (s.fld DSP.FETCH.PANIC ≤ 120) &&
    linkCarries khz (s.fld DSP.CFG.BPC) (s.fld DSP.CFG.LANES) (s.fld DSP.CFG.RATE) &&
    (!s.bit DSP.CFG.SURF_EN || (s.fld ACC.COMP_SURF.WIDTH == w && s.fld ACC.COMP_SURF.HEIGHT == h)) &&
    (!s.bit DSP.CFG.OVL_EN || (s.fld DSP.OVL_PITCH.PITCH % 64 == 0 && decide (w ≤ s.fld DSP.OVL_PITCH.PITCH)))

/-- The memory settings keep R245, R246 and R249. -/
def State.memOk (s : State) : Bool :=
  let rk := s.fld MEM.CFG.RANKS
  let ranks := if s.fld MEM.CFG.CONFIG = 2 then decide (2 ≤ rk) && decide (rk ≤ 4) else decide (1 ≤ rk) && decide (rk ≤ 2)
  decide (s.fld MEM.CFG.CONFIG < 3) && decide (s.fld MEM.CFG.DENSITY < 3) && ranks && !(s.bit MEM.CFG.SPARE && rk == 1) &&
    decide (s.fld MEM.RESG.RESG < s.capacity)

/-- The image sets an injected sequence: a record for one of its slots (R347, Table 17-8; log entry 105). -/
def setsInject (secs : List Section) : Bool :=
  (regRecords secs).any fun r => (fieldsAt r.2.1).any fun f => (List.range 4).any fun i => f.addr == (MGT.INJ_SLOT.INPUT i).addr

/-- The features an image uses (Table 17-8). -/
def State.featuresUsed (s : State) (plans : List Plan) (inject : Bool) : Nat :=
  let b : Bool → Nat → Nat := fun x i => if x then 2 ^ i else 0
  let accum := (plans.any fun p => p.accEn) || s.bit ACC.COMP_CFG.ENABLE || (List.range 4).any fun p => s.bit (ACC.PLANE_CFG.ENABLE p)
  b (s.fld ENS.CFG.ROLE != 0) 0 + b (s.bit DSP.CFG.ENABLE) 1 + b accum 2 +
    b ((List.range 512).any fun q => s.fld (RDO.Q_GUAR.GUAR q) != 0) 3 + b (s.fld SEC.CFG.ROLL != 0) 4 + b inject 5 + b (s.fld ENS.CFG.ROLE == 3) 6

/-- An image, applied, keeps every rule that refuses an image at LOAD. -/
def State.imageRules (s : State) (plans : List Plan) (inject : Bool) (features : Nat) : Bool :=
  s.fld TIME.CFG.REF_MODE != 3 && decide (1000 ≤ s.fld TIME.EPOCH_PERIOD.PERIOD) &&
    layoutOk (s.fld CNV.LAYOUT.MODE) (s.fld CNV.LAYOUT.JOIN) && (List.range 64).all s.qualOk && (List.range 128).all s.detOk &&
    decide ((plans.map fun p => p.num).Nodup) && plans.all s.planOk && (!s.bit ACC.COMP_CFG.ENABLE || s.compOk) &&
    (!s.bit ACC.COMP_CFG.SYNC || s.bit DSP.CFG.ENABLE) &&
    (!s.bit DSP.CFG.ENABLE || s.dspOk) && s.memOk && bitsWithin (s.featuresUsed plans inject) features

/-! ### An image read whole -/

/-- An image as Tsufen reads it. -/
structure Image where
  version : Nat
  features : Nat
  bytes : Nat
  serial : List Byte
  manifest : List ManifestEntry
  refs : List Byte
  permit : List Byte
  plans : List Plan
  schedule : List SchedImage
  spd : List Byte
  secs : List Section

/-- An image body read: its header, directory and sections are well formed (R400 to R403). -/
def readImage (body : List Byte) : Option Image :=
  match imageSections body with
  | none => none
  | some secs =>
    let plans := (sectionOf secs 5).getD []
    let sched := (sectionOf secs 6).getD []
    let man := (sectionOf secs 1).getD []
    let dram := (sectionOf secs 4).getD []
    if sectionsOk secs = true ∧ regImagesOk secs = true ∧ man ≠ [] then
      some { version := num body 8 4, features := num body 16 8, bytes := body.length, serial := slice body 24 16
             manifest := readManifest man, refs := (sectionOf secs 2).getD [], permit := (sectionOf secs 3).getD []
             plans := readPlans 64 plans, schedule := readSchedule 256 sched, spd := dram, secs := secs }
    else none

/-- The register images, the plan library and the schedule of an image applied (Table 17-12 step 5). -/
def State.applyImage (s : State) (im : Image) : State :=
  let s := (regRecords im.secs).foldl (fun (s : State) (r : Nat × (Nat × Nat)) => s.applyRecord r.2) s
  let s := (List.range 64).foldl (fun (s : State) q => s.setB (TRG.QMAP.KIND q) (!s.eventSource (s.fld (TRG.QMAP.SRC q)))) s
  let s := { s with sched := { s.sched with image := im.schedule }, mem := { s.mem with spd := im.spd } }
  let s := s.loadPlans im.plans
  let s := (s.setF DEV.IMAGE_VERSION.VERSION im.version).setF (DEV.FEATURES.BITS 0) im.features
  s.setF (DEV.FEATURES.BITS 1) (im.features / 2 ^ 32)

/-! ### Microcode patch (R335 to R337) -/

/-- Match register `i` of a patch record (Table 13-7). -/
def patchMatch (b : List Byte) (i : Nat) : Nat := num b (16 + 4 * i) 4

/-- Patch RAM word `j` of a patch record. -/
def patchWord (b : List Byte) (j : Nat) : Nat := num b (16 + 4 * num b 6 1 + 16 * j) 12

/-- A patch record's format keeps R336 and R337. -/
def patchFormatOk (b : List Byte) : Bool :=
  let nm := num b 6 1
  let nw := num b 8 2
  let ms := (List.range nm).map (patchMatch b)
  num b 0 2 == 1 && num b 7 1 == 0 && num b 10 2 == 0 && decide (nm ≤ 32) && decide (nw ≤ 512) && num b 12 4 == 16 + 4 * nm + 16 * nw &&
    decide (num b 12 4 ≤ b.length) && decide (1 ≤ num b 4 2) &&
    (ms.all fun m => m / 2 ^ 14 % 4 == 0 && m / 2 ^ 25 % 32 == 0 && decide (m / 2 ^ 16 % 512 < nw) && m / 2 ^ 30 != 0) &&
    decide ((ms.map fun m => m % 2 ^ 14).Nodup) &&
    (List.range nw).all fun j => num b (16 + 4 * nm + 16 * j + 12) 4 == 0

/-- A patch applied: words, match registers, version, digest, STATE ACTIVE (Table 13-8 steps 4 and 5). -/
def State.loadPatch (s : State) (b : List Byte) : State :=
  let nm := num b 6 1
  let nw := num b 8 2
  let words := (List.range nw).foldl (fun (t : Tbl Nat) j => Tbl.set 0 t j (patchWord b j)) []
  let s := { s with seq := { s.seq with words := words } }
  let s := (List.range nm).foldl (fun (s : State) i =>
    let m := patchMatch b i
    let s := (s.setF (SEQ.MATCH.ROM_ADDR i) m).setF (SEQ.MATCH.INDEX i) (m / 2 ^ 16)
    (s.setF (SEQ.MATCH.LANE i) (m / 2 ^ 30)).setF (SEQ.MATCH.TRAIN i) (m / 2 ^ 31)) s
  let d := Config.sha384 (b.take (num b 12 4))
  let s := ((s.setF SEQ.PATCH_STATE.STATE 2).setF SEQ.PATCH_STATE.NMATCH nm).setF SEQ.PATCH_STATE.NWORDS nw
  ((s.setF SEQ.VERSION.PATCH_VERSION (num b 4 2)).setF SEQ.DIGEST_LO.DIGEST (num d 0 4)).setF SEQ.DIGEST_HI.DIGEST (num d 4 4)

/-- A patch not applied: STATE says why, and the patch-refused notice is raised (R337). -/
def State.refusePatch (s : State) (state : Nat) : State := (s.setF SEQ.PATCH_STATE.STATE state).raise 232 state 0 0 0

end Sys2Proof.Machine
end

