-- ==== Sys2Proof/Machine/Shuffle.lean ====
section
/-!
DEFINITION. The shuffle: starting a step, the shadow frame, the switch and the release (R74 to R81, R388).
-/

namespace Sys2Proof.Machine

/-- The group's shuffle and resting slice are free: no step and no BIST slice runs in it (Table 02-4, R47). -/
def State.groupFree (s : State) (g : Nat) : Bool := (s.stepOf g).isNone && (Tbl.get none s.bst.run g).isNone

/-- The last BIST result of some part of the resting slice's partition is FAIL (R388). -/
def State.restFails (s : State) (g : Nat) : Bool :=
  let p := s.restSlice g
  s.fld (BST.PART_STATE.RES0 p) == 2 || s.fld (BST.PART_STATE.RES1 p) == 2 || s.fld (BST.PART_STATE.RES2 p) == 2

/-- A step is skipped with the shuffle-skipped notice; a slice whose background run failed starts a new one
(R76, R98). -/
def State.skipStep (s : State) (g : Nat) : State :=
  let sl := s.restSlice g
  let s := (s.bumpF (CNV.SHUFFLE_COUNT.SKIPS g) 1).raise (40 + g) 0 sl 0 0
  if s.fld (CAL.SLICE_STATE.BG_STATE sl) = 5 ∧ (Tbl.get none s.cal.bgRun sl).isNone then s.startBg sl else s

/-- The lane a step moves and the slice that leaves it: DOWN from `r` lane `r - 1`, UP from `r` lane `r`; the direction turns at
the ends (R74, R75). The answer is the lane, the outgoing slice and whether the step goes DOWN. -/
def stepMove (g r : Nat) (up : Bool) : Nat × Nat × Bool :=
  let down := if up then decide (r = 16) else decide (0 < r)
  if down then (16 * g + (r - 1), 17 * g + (r - 1), true) else (16 * g + r, 17 * g + r + 1, false)

/-- A step starts in group `g` (Table 03-4 step 1); for an unused lane the switch instant is fixed at once (R77). -/
def State.startStep (s : State) (g entry : Nat) : State :=
  let (lane, out, down) := stepMove g (s.restPos g) (s.bit (CNV.GROUP_STATUS.DIR g))
  let idle := s.unusedLane lane
  let st : Step := { entry := entry, lane := lane, incoming := s.restSlice g, outgoing := out, startAt := s.now
                     shadowAt := none, switchAt := if idle then some ((s.now + s.to64) * finePerNs) else none
                     switched := false, down := down }
  (s.setStep g (some st)).setF (CNV.GROUP_STATUS.STEP g) (if idle then 4 else 1)

/-- SHUFFLE in one group: skipped without a notice when FIXED, skipped under R76 or R388 when the resting slice is not ready,
else started (R76, R80, R388). -/
def State.shuffleGroup (s : State) (entry g : Nat) : State :=
  if s.fixed g then s.bumpF (CNV.SHUFFLE_COUNT.SKIPS g) 1
  else if s.restFails g || !s.sliceReady (s.restSlice g) then s.skipStep g
  else s.startStep g entry

/-- No earlier waiting occurrence still waits for group `g` (R47). -/
def State.groupFirst (s : State) (o : Occ) (g : Nat) : Bool := !((s.earlier o).any fun x => bitOf x.groups g)

/-- The groups of the occurrence that can start now. -/
def State.startable (s : State) (o : Occ) : List Nat :=
  (List.range 4).filter fun g => bitOf o.groups g && s.groupFree g && s.groupFirst o g

/-- The first waiting occurrence of entry `n` in its window that can start in some group, or whose mask names none: an occurrence never
waits for another one's group (R47). -/
def State.findMask (s : State) (n action : Nat) : Option Occ :=
  s.sched.waiting.find? fun o => o.entry == n && o.action == action && s.inWindow o &&
    (decide (o.groups = 0) || !(s.startable o).isEmpty)

/-- A SHUFFLE or BIST_SLICE starts in every group of its mask whose resources are free; once none is left, the occurrence ends
EXECUTED (R47). -/
def State.runMask (s : State) (n action : Nat) (act : State → Nat → State) : State :=
  match s.findMask n action with
  | none => s
  | some o =>
    if s.active then
      let gs := s.startable o
      let left := gs.foldl withoutBit o.groups
      let s := gs.foldl act s
      if left = 0 then s.endOcc o none
      else { s with sched := { s.sched with waiting := s.sched.waiting.map fun x => if x = o then { o with groups := left } else x } }
    else s

/-- A SHUFFLE dispatched by entry `n` starts (R47, R76). -/
def effActionShuffle (n : Nat) (s : State) : State := s.runMask n 4 fun s g => s.shuffleGroup n g

/-- The shadow frame starts at the first 64-sample boundary after 32 ns of settling (Table 03-4 step 2). -/
def effShadowFrameStart (g : Nat) (s : State) : State :=
  match s.stepOf g with
  | some st =>
    if st.shadowAt.isNone && st.switchAt.isNone && decide (st.startAt + 32 ≤ s.now) && s.at64 then
      (s.setStep g (some { st with shadowAt := some s.now })).setF (CNV.GROUP_STATUS.STEP g) 2
    else s
  | none => s

/-- The differences of a shadow frame, incoming minus outgoing after stage 3, in 2^-21 LSB, over the samples where neither is a clip
code (Table 03-4 step 2). -/
def State.frameDiffs (s : State) (st : Step) (incoming outgoing : List Nat) : List Int :=
  (incoming.zip outgoing).filterMap fun x =>
    if (clipCode x.1).isSome || (clipCode x.2).isSome then none else some (s.stage3 st.incoming x.1 - s.stage3 st.outgoing x.2)

/-- Their sum, in 2^-21 LSB. -/
def frameSum (ds : List Int) : Int := ds.sum

/-- The sum of their squares, in 2^-42 LSB². -/
def frameSumSq (ds : List Int) : Nat := (ds.map fun d => d.natAbs ^ 2).sum

/-- The mean difference in the unit of the offset, 1/64 LSB. DESIGN CHOICE (log entry 65): rounded toward 0, and 0 when no sample is
usable. -/
def frameMean (ds : List Int) : Int := Int.tdiv (frameSum ds) (32768 * ds.length)

/-- The means of a shadow frame for the registers: the mean difference and the rms difference in 1/64 LSB (R77). DESIGN CHOICE (log
entry 65): the rms is rounded down, and reads 0 when no sample is usable. -/
def State.noteShadow (s : State) (g : Nat) (ds : List Int) : State :=
  let s := s.setS (CNV.SHADOW_LAST.MEAN g) (frameMean ds)
  s.setF (CNV.SHADOW_LAST.RMS g) (min 65535 (Nat.sqrt (frameSumSq ds / (2 ^ 30 * ds.length))))

/-- The frame is within R78: the mean difference 4 LSB or less, the rms difference 12 LSB or less. -/
def frameAgrees (ds : List Int) : Bool :=
  decide ((frameSum ds).natAbs ≤ 4 * 2 ^ 21 * ds.length) && decide (frameSumSq ds ≤ 144 * 2 ^ 42 * ds.length)

/-- An aborted step leaves position and lanes as they were; the shadow-abort notice (R78). -/
def State.abortShadow (s : State) (g sl kind : Nat) : State :=
  let s := ((s.setStep g none).setF (CNV.GROUP_STATUS.STEP g) 0).bumpF (CNV.SHUFFLE_COUNT.ABORTS g) 1
  s.raise (44 + g) kind sl 0 0

/-- The shadow frame of group `g` is evaluated 64 ns after its end (R77 step 3, R78): `incoming` and `outgoing` are the two slices' raw
conversions of its samples, the first of them lane sample `first`, four to a nanosecond. DESIGN CHOICE (log entry 65): an offset that the
mean would take beyond its 16 bits saturates. -/
def effShadowFrameEnd (g first : Nat) (incoming outgoing : List Nat) (s : State) : State :=
  match s.stepOf g with
  | some st =>
    match st.shadowAt, st.switchAt with
    | some t, none =>
      if t + 1088 ≤ s.now ∧ first = 4 * t then
        let ds := s.frameDiffs st incoming outgoing
        let s := s.noteShadow g ds
        let sl := st.incoming
        if ds.length < 3072 then s.abortShadow g sl 0
        else if frameAgrees ds then
          let off := satI (Tbl.get 0 s.cal.offset sl - frameMean ds) (-32768) 32767
          let s := { s with cal := { s.cal with offset := Tbl.set 0 s.cal.offset sl off }
                            cnv := { s.cnv with shadowFail := Tbl.set 0 s.cnv.shadowFail sl 0 } }
          let s := s.setStep g (some { st with switchAt := some (s.switchInstant st.lane) })
          s.setF (CNV.GROUP_STATUS.STEP g) 4
        else
          let n := Tbl.get 0 s.cnv.shadowFail sl + 1
          let s := { s with cnv := { s.cnv with shadowFail := Tbl.set 0 s.cnv.shadowFail sl (min 3 n) } }
          let s := s.abortShadow g sl 1
          if 3 ≤ n then s.retire sl 0 else s
      else s
    | _, _ => s
  | none => s

/-- A CAL_SUSPECT interval of the moving lane starts or ends at its switch: one of the two slices is marked, and the channel is not
(R92, Table 13-4). -/
def State.flagTurns (s : State) (st : Step) : Bool :=
  !s.bit (CAL.CHAN_STATE.SUSPECT (s.chanOf st.lane)) &&
    s.bit (CAL.SLICE_STATE.SUSPECT st.incoming) != s.bit (CAL.SLICE_STATE.SUSPECT st.outgoing)

/-- In the cycle of the switch instant the incoming slice starts to serve the moving lane, from the sample at that instant on
(R77 step 4). -/
def effShuffleSwitch (g : Nat) (s : State) : State :=
  match s.stepOf g with
  | some st =>
    let at_ := st.switchAt.getD 0
    if st.switchAt.isSome ∧ at_ / finePerNs = s.now ∧ st.switched = false then
      let s := s.setStep g (some { st with switched := true })
      let s := (s.setF (CNV.GROUP_STATUS.STEP g) 5).laneRequest 5 st.lane
      let s := if s.flagTurns st then s.laneRequest 6 st.lane else s
      let s := s.setF (CAL.SLICE_STATE.BG_STATE st.incoming) 0
      { s with cnv := { s.cnv with switches := (st.lane, at_) :: s.cnv.switches
                                   served := (st.lane, st.outgoing, at_) :: s.cnv.served
                                   lastSwitch := Tbl.set 0 s.cnv.lastSwitch g s.tick.toNat } }
    else s
  | none => s

/-- At switch + 16 ns the outgoing slice becomes the resting slice, REST and DIR update, LAST_SWITCH and STEPS follow, and a
background run starts on it (R77 step 5, R97). -/
def effShuffleRelease (g : Nat) (s : State) : State :=
  match s.stepOf g with
  | some st =>
    match st.switchAt with
    | some t =>
      if st.switched = true ∧ t / finePerNs + 16 ≤ s.now then
        let s := s.setStep g none
        let s := (s.setF (CNV.GROUP_STATUS.STEP g) 0).setF (CNV.GROUP_STATUS.REST g) (st.outgoing % 17)
        let s := s.setB (CNV.GROUP_STATUS.DIR g) (!st.down)
        let s := s.setF (CNV.LAST_SWITCH_LO.TICK g) (Tbl.get 0 s.cnv.lastSwitch g)
        let s := { s with cnv := { s.cnv with lastSwitch := Tbl.set 0 s.cnv.lastSwitch (4 + g) (Tbl.get 0 s.cnv.lastSwitch g) } }
        let s := s.bumpF (CNV.SHUFFLE_COUNT.STEPS g) 1
        s.startBg st.outgoing
      else s
    | none => s
  | none => s

def execActionShuffle (n : Nat) (s : State) : Res := .next (effActionShuffle n s)
def execShadowFrameStart (g : Nat) (s : State) : Res := .next (effShadowFrameStart g s)
def execShadowFrameEnd (g first : Nat) (incoming outgoing : List Nat) (s : State) : Res :=
  .next (effShadowFrameEnd g first incoming outgoing s)
def execShuffleSwitch (g : Nat) (s : State) : Res := .next (effShuffleSwitch g s)
def execShuffleRelease (g : Nat) (s : State) : Res := .next (effShuffleRelease g s)

end Sys2Proof.Machine
end

