-- ==== Sys2Proof/Machine/SelfTest.lean ====
section
/-!
DEFINITION. Self-test: the LOAD run's results, BIST slices in operation, signatures (R378 to R391).
-/

namespace Sys2Proof.Machine

/-! ### Results -/

/-- RES field of part `q` of partition `p`. -/
def resField (p q : Nat) : Fld :=
  if q = 0 then BST.PART_STATE.RES0 p else if q = 1 then BST.PART_STATE.RES1 p else BST.PART_STATE.RES2 p

/-- The corrected code of a slot's raw results (R345): their mean, half up, less OFFSET, times GAIN, rounded and saturated. -/
def monCode (avg : Nat) (raws : List Nat) (offset : Int) (gain : Nat) : Nat :=
  let r : Int := (raws.sum + 2 ^ avg / 2) / 2 ^ avg
  let v : Int := (r - offset) * gain
  (satI ((v + 16384) / 32768) 0 4095).toNat

/-- The corrected code of one raw conversion of monitor input `n` (R345). -/
def State.monCorrected (s : State) (n raw : Nat) : Nat :=
  monCode 0 [min 4095 raw] (s.fldS (MGT.MON_CORR.OFFSET n)) (s.fld (MGT.MON_CORR.GAIN n))

/-- The levels of the analogue test, in LSB (R380). -/
def bistLevels : List Int := [-1800, -900, 0, 900, 1800]

/-- An analogue test passes at a level of group `g`: mean error within 2.0 LSB, rms deviation within 3.0 LSB, and, unless the group's
monitor test is removed, the monitor within 12 codes of 2048 + 5 L / 12 (R380, R381). -/
def State.anaLevelPasses (s : State) (g : Nat) (level : Int) (x : Int × Nat × Nat) : Bool :=
  levelWithin 2 3 (x.1, x.2.1) &&
    (Tbl.get false s.bst.monOff g || decide (((s.monCorrected (24 + g) x.2.2 : Int) - (2048 + 5 * level / 12)).natAbs ≤ 12))

/-- The kind of a test is its part's: analogue for part 1, logic for the others (Table 16-1). -/
def kindFits (r : Nat × Nat × PartTest) : Bool :=
  match r.2.2 with
  | .logic _ => r.2.1 != 1
  | .analogue levels => r.2.1 == 1 && levels.length == 5

/-- A part passes its test: a logic part when its MISR equals its golden signature, an analogue one at every level (R379, R380). -/
def State.partPasses (s : State) (p q : Nat) (test : PartTest) : Bool :=
  match test with
  | .logic misr => misr % 2 ^ 64 == Config.golden p q % 2 ^ 64
  | .analogue levels => (bistLevels.zip levels).all fun x => s.anaLevelPasses (p / 17) x.1 x.2

/-- A part's logic MISR kept for SIG_SEL (R379, R391). -/
def State.noteSig (s : State) (p q : Nat) (test : PartTest) : State :=
  match test with
  | .logic misr => { s with bst := { s.bst with sig := Tbl.set 0 s.bst.sig (4 * p + q) (misr % 2 ^ 64) } }
  | .analogue _ => s

/-- A unit is withdrawn from the group's binding after self-test (Table 16-4, R387). -/
def State.failUnit (s : State) (u : Nat) : State := (s.withdrawUnit u).setF (BST.PART_STATE.OUTCOME u) 2

/-! ### BIST slices (R385 to R389) -/

/-- BIST_SLICE in one group: skipped and counted when FIXED, else it tests the resting slice and, where the group has one, the
resting unit; a background-run attempt in progress is discarded and starts again after it (R385, R386). -/
def State.bistGroup (s : State) (g : Nat) : State :=
  if s.fixed g then s.bumpF (BST.GROUP_COUNTS.SKIPS g) 1
  else
    let unit := if s.bit (CNV.GROUP_STATUS.SPARE_UNIT g) then s.restUnit g else none
    { s with bst := { s.bst with run := Tbl.set none s.bst.run g (some { startAt := s.now, slice := s.restSlice g, unit := unit }) } }

/-- A BIST_SLICE dispatched by entry `n` starts (R47, R385). -/
def effActionBistSlice (n : Nat) (s : State) : State := s.runMask n 5 State.bistGroup

/-- One part judged in a BIST slice (R387): a pass ends the part's run of failures, which CONSEC shows for the last failing part; a failure
raises the BIST-fail notice and counts; the second in a row retires the slice or withdraws the unit. -/
def State.judgePart (s : State) (r : Nat × Nat × PartTest) : State :=
  let (p, q, test) := r
  let ok := s.partPasses p q test
  let s := (s.noteSig p q test).setF (resField p q) (if ok then 1 else 2)
  let s := s.setF (BST.PART_STATE.AT_LOAD p) 0
  if ok then
    let s := { s with bst := { s.bst with consec := Tbl.set 0 s.bst.consec (4 * p + q) 0 } }
    if Tbl.get 0 s.bst.lastFail p = q + 1 then s.setF (BST.PART_STATE.CONSEC p) 0 else s
  else
    let n := min 2 (Tbl.get 0 s.bst.consec (4 * p + q) + 1)
    let s := { s with bst := { s.bst with consec := Tbl.set 0 s.bst.consec (4 * p + q) n, lastFail := Tbl.set 0 s.bst.lastFail p (q + 1) } }
    let s := (s.setF (BST.PART_STATE.CONSEC p) n).raise 249 q p 0 0
    if n < 2 then s
    else if q = 2 then
      let s := (s.failUnit p).setF (CNV.GROUP_STATUS.SPARE_UNIT (p / 17)) 0
      s.raise 250 0 p 0 0
    else if s.isRetired p then s
    else (s.setF (BST.PART_STATE.OUTCOME p) 1).retire p 2

/-- The parts a BIST slice tests, as RUN_SEL selects: part 0 and 1 of the slice's partition, part 2 of the unit's (R382, R385). -/
def State.bistParts (s : State) (b : BistRun) : List (Nat × Nat) :=
  let logic := bitOf (s.fld BST.CFG.RUN_SEL) 0
  let analogue := bitOf (s.fld BST.CFG.RUN_SEL) 1
  (if logic then [(b.slice, 0)] else []) ++ (if analogue then [(b.slice, 1)] else []) ++
    (match b.unit with
     | some u => if logic then [(u, 2)] else []
     | none => [])

/-- BIST_SLICE_DONE: step 4 of a BIST slice: the results of its parts, in order, are compared (R385, R387). -/
def effBistSliceDone (g : Nat) (results : List PartTest) (s : State) : State :=
  match Tbl.get none s.bst.run g with
  | none => s
  | some b =>
    let parts := s.bistParts b
    let tests := List.zipWith (fun (pq : Nat × Nat) (r : PartTest) => (pq.1, pq.2, r)) parts results
    if results.length = parts.length ∧ tests.all kindFits = true then
      let pass := tests.all fun r => s.partPasses r.1 r.2.1 r.2.2
      let s := { s with bst := { s.bst with run := Tbl.set none s.bst.run g none } }
      let s := s.bumpF (BST.GROUP_COUNTS.SLICES g) 1
      let s := if pass then s else s.bumpF (BST.GROUP_COUNTS.FAILS g) 1
      let s := if (Tbl.get none s.cal.bgRun b.slice).isSome then s.setBg b.slice (some s.now) else s
      tests.foldl State.judgePart s
    else s

/-- A BIST slice is abandoned: the result neither passes nor fails (R389). -/
def State.abandonBist (s : State) (g : Nat) : State :=
  match Tbl.get none s.bst.run g with
  | none => s
  | some b =>
    let s := { s with bst := { s.bst with run := Tbl.set none s.bst.run g none } }
    let s := (s.bistParts b).foldl (fun s pq => (s.setF (resField pq.1 pq.2) 3).setF (BST.PART_STATE.AT_LOAD pq.1) 0) s
    s.bumpF (BST.GROUP_COUNTS.ABANDONED g) 1

/-! ### Signatures and counters -/

/-- A write of BST.SIG_SEL copies the selected part's signatures (R391). -/
def effSigSelWrite (v : Nat) (s : State) : State :=
  if s.served 0x100010 then
    let s := (s.setF BST.SIG_SEL.PART_NO v).setF BST.SIG_SEL.PART (v / 2 ^ 8)
    let p := s.fld BST.SIG_SEL.PART_NO
    let q := s.fld BST.SIG_SEL.PART
    let sig := Tbl.get 0 s.bst.sig (4 * p + q)
    let gold := Config.golden p q % 2 ^ 64
    let s := (s.setF (BST.SIG.SIG 0) sig).setF (BST.SIG.SIG 1) (sig / 2 ^ 32)
    (s.setF (BST.GOLD.GOLD 0) gold).setF (BST.GOLD.GOLD 1) (gold / 2 ^ 32)
  else s

/-- BST.CMD.CLR_COUNTS clears GROUP_COUNTS (R391). -/
def effBstClrCounts (s : State) : State :=
  if s.served 0x10000C then
    s.clearCounts ((List.range 4).flatMap fun g =>
      [BST.GROUP_COUNTS.SLICES g, BST.GROUP_COUNTS.FAILS g, BST.GROUP_COUNTS.SKIPS g, BST.GROUP_COUNTS.ABANDONED g])
  else s

def execActionBistSlice (n : Nat) (s : State) : Res := .next (effActionBistSlice n s)
def execBistSliceDone (g : Nat) (results : List PartTest) (s : State) : Res := .next (effBistSliceDone g results s)
def execSigSelWrite (v : Nat) (s : State) : Res := .next (effSigSelWrite v s)
def execBstClrCounts (s : State) : Res := .next (effBstClrCounts s)

end Sys2Proof.Machine
end

