-- ==== Sys2Proof/Machine/Modes.lean ====
section
/-!
DEFINITION. Modes: the reset and its causes, SAFE and the fatal fault, mode requests, DORMANT, entry to READY (R52, R53, R74, R95,
R392 to R398, R403, R406 to R408, R417, R418, R442, R446, R456, R458).
-/

namespace Sys2Proof.Machine

/-! ### Reset (R395, R446, R456, R458) -/

/-- The owner state of the fuses (R364): 0 UNENROLLED, 1 ENROLLED, 2 PARTIAL. -/
def NvSt.owner (nv : NvSt) : Nat := if nv.ownerValid then 1 else if nv.ownerHash.any (· != 0) then 2 else 0

/-- Dwords 0 to 11 of SEC.OWNER_HASH as the fuses are. -/
def State.showOwner (s : State) : State :=
  let h := padTo s.nv.ownerHash 48
  let s := (List.range 12).foldl (fun (s : State) i => s.setF (SEC.OWNER_HASH.HASH i) (num h (4 * i) 4)) s
  (s.setF SEC.STATUS.OWNER s.nv.owner).setF SEC.STATUS.RB_COUNT s.nv.rbCount

/-- The device held in reset: every register at its reset value, every activity gone. What stays is what the flash, the fuses and
the log memory hold, what the pins outside show, and the model's own running time with its place within a tick, free values, queue
and record of the outside: tick 0 begins at the tick boundary at or before the reset (log entry 7).
The lowest of several causes is recorded (R458). -/
def State.cold (s : State) (cause : Nat) : State :=
  let c := if s.dev.held then min s.dev.cause cause else cause
  let t : State :=
    { nv := s.nv.dropCtl, now := s.now, cyc := s.cyc, freeCount := s.freeCount, out := s.out, pending := s.pending
      time := { crystalOk := s.time.crystalOk, refOk := s.time.refOk, refFreq := s.time.refFreq }
      mgt := { creditAt := s.now }
      host := { perst := s.host.perst, perstAt := s.host.perstAt }
      dev := { held := true, vddAon := s.dev.vddAon, resetN := s.dev.resetN, trip := s.dev.trip, tripAt := s.dev.tripAt, cause := c }
      ens := {}
      dsp := { hpd := s.dsp.hpd } }
  let t := (t.setF DEV.RESET_CAUSE.CAUSE c).setF DEV.RESET_CAUSE.WDOG t.nv.ctlOr.wdog
  t.showOwner.showSlots.showLog

/-- LOAD begins once nothing holds the device in reset: its START entry is staged (R395, Table 17-12 step 1). -/
def State.beginLoad (s : State) : State :=
  if s.dev.held && s.dev.vddAon && !s.dev.resetN && !s.dev.trip then
    let s := { s with dev := { s.dev with held := false, startAt := s.now, stageAt := s.now }, ens := { s.ens with startAt := s.now } }
    (s.setF DEV.STARTUP.STAGE 1).stageRaw 0 0 0 (le 1 s.dev.cause)
  else s

/-- Entries still held are sealed at once, in commit order. -/
def State.sealAll (s : State) : State := s.acq.recs.foldl (fun (s : State) (r : Rec) => s.sealRec r) s

/-- Entry to LOAD stops the armed plans, with a plan-stopped fault unless the host ordered the reset, and halts the readout queues
(R160, R396); the device resets with nothing of it left but the log. -/
def State.stopForReset (s : State) (cause : Nat) : State :=
  if s.dev.held then s
  else
    let s := { s with dev := { s.dev with entering := true } }
    ((s.stopAllPlans 4 (decide (cause ≠ 3 ∧ cause ≠ 4))).drainSlots).sealAll.haltQueues

/-- A reset that Tsufen or the watchdog orders lets the write of a control record end; any other interrupts it (R398; log entry 126). -/
def State.endWrite (s : State) (cause : Nat) : State := if cause = 3 ∨ cause = 4 ∨ cause = 5 then s.finishCtl else s

/-- A device reset: the plans are stopped, the staged log entries are committed (R353), everything is reset, and LOAD begins when
nothing holds it. -/
def State.resetDevice (s : State) (cause : Nat) : State := (((s.stopForReset cause).commitAll.endWrite cause).cold cause).beginLoad

/-! ### SAFE (R396, R404, R417, R418) -/

/-- The booted slot, when it is a TRIAL slot. -/
def State.trialSlot (s : State) : Option Nat :=
  match s.dev.slot with
  | some k => if s.nv.ctlOr.state k = 4 then some k else none
  | none => none

/-- Background runs are abandoned, BIST slices are abandoned, shuffle steps before their switch are aborted (R81, R100, R389). -/
def State.quietFabric (s : State) : State :=
  let s := s.abortSteps
  let s := (List.range 4).foldl State.abandonBist s
  { s with cal := { s.cal with bgRun := [] } }

/-- The postponed refreshes of every powered rank of a channel are made up, in a make-up burst each (Table 10-7, R259). -/
def State.makeUp (s : State) (c : Nat) : State :=
  ((List.range 4).filter fun r => s.rankThere c r && decide (0 < Tbl.get 0 s.mem.postponed (rankKey c r))).foldl
    (fun (s : State) r => (s.bumpF (MEM.CH_REFRESH.MAKEUP c) 1).setPostponed c r 0) s

/-- The in-service DRAM channels enter or leave self-refresh: at the entry postponed refreshes are made up and every row is closed, and a
migration pauses at its row, or resumes at its POS (R271, Table 10-7, R254, R272). -/
def State.selfRefresh (s : State) (on : Bool) : State :=
  let s := s.channels.foldl (fun (s : State) c =>
    let s := s.setF (MEM.CH_STATE.STATE c) (if on then 5 else 2)
    let s := if on then s.makeUp c else s
    if s.fld (MEM.CH_STATE.MIG_STATE c) = (if on then 1 else 2) then s.setF (MEM.CH_STATE.MIG_STATE c) (if on then 2 else 1) else s) s
  { s with dev := { s.dev with sleepMem := on }, mem := { s.mem with open_ := if on then [] else s.mem.open_ } }

/-- A TRIAL slot from which LOAD or CALIBRATE enters SAFE is recorded FAILED; the UPDATE entry is logged and the device resets with
cause 4 (R365, R404). The entry's layout is the model's (log entry 23). -/
def State.failTrial (s : State) (k : Nat) : State :=
  let s := s.writeCtl (s.nv.ctlOr.setState k 6)
  s.logEntry 7 0 (s.logFlags false) (le 1 0 ++ le 1 k ++ le 1 6)

/-- Entry to SAFE (R396). -/
def State.enterSafe (s : State) (cause : Nat) (bootRom : Bool) : State :=
  if s.mode = modeSafe ∨ s.dev.held = true then s
  else
    let early := s.mode == modeLoad || s.mode == modeCalibrate
    let s := { s with dev := { s.dev with entering := true, leaving := false } }
    let s := ((s.stopAllPlans 4 true).drainSlots).sealAll
    let s := (List.range 8).foldl State.freeIfDone s
    let s := s.haltQueues.displayOff.stopComposer.outsOff.portsSilent.quietFabric.idleSchedule
    let s := s.selfRefresh true
    let s := { s with mem := { s.mem with reqs := [] }, ens := { s.ens with deals := [] }
                      cnv := { s.cnv with step := [] }
                      dev := { s.dev with entering := false, dormantDue := false, request := 0, domainOff := true }
                      sec := { s.sec with permit := [] } }
    let s := (s.setF TIME.STATUS.SPLL_LOCK 0).setF DEV.MODE_RESULT.BUSY 0
    let s := (s.setF DEV.SAFE_CAUSE.CAUSE cause).setB DEV.SAFE_CAUSE.BOOT_ROM bootRom
    let s := if bootRom then (s.setF MGT.STATUS.FW_STATE 2).clearFs [MGT.FW_VERSION.MAJOR, MGT.FW_VERSION.MINOR] else s
    let s := s.changeMode modeSafe cause
    match s.trialSlot with
    | some k => if early then (s.failTrial k).resetDevice 4 else s
    | none => s

/-- A fatal fault: source 1 with the kind and the missing elements, and SAFE with cause 15 from LOAD, CALIBRATE, READY and ACQUIRE
(R417, Table 17-2). -/
def State.fatal (s : State) (k a : Nat) : State :=
  if s.dev.held then s
  else
    let s := s.raise 1 k 0 a 0
    if s.mode = modeDormant then s else s.enterSafe 15 false

/-- A group is short (R419). -/
def State.short (s : State) (g : Nat) : Bool := Tbl.get false s.cnv.short g

/-- Some DRAM channel is in service with a rank that is not retired (R418). -/
def State.memoryServes (s : State) : Bool :=
  s.channels.any fun c => (List.range (s.fld MEM.CFG.RANKS)).any fun r => s.rankState c r == 0 || s.rankState c r == 1

/-- The elements of the acquisition service set that are missing, a bit each (R418). ACQUIRING counts as holdover, which it follows
(R43, log entry 38). -/
def State.missing (s : State) : Nat :=
  let spll := s.bit TIME.STATUS.SPLL_LOCK || (match s.time.spllLostAt with
    | some t => decide (s.now < t + 10000000)
    | none => false)
  (if (List.range 4).all s.short then 1 else 0) + (if s.dev.plan68 then 0 else 2) + (if spll then 0 else 4) +
    (if s.memoryServes then 0 else 8) + (if s.dev.outOk || (s.dev.dispOk && s.bit DSP.CFG.ENABLE) then 0 else 16)

/-- The acquisition service set is judged: not met, it raises the fatal fault with kind 0 (R418). -/
def State.judgeService (s : State) : State := if s.missing = 0 then s else s.fatal 0 s.missing

/-! ### Leaving DORMANT and entering READY (R52, R53, R74, R95, R403, R406) -/

/-- Every committed entry that is due or past is judged with its lateness at this moment, as though committed now; the dispatch
follows in the order of the ticks (R45, R52). -/
def State.judgeDue (s : State) : State :=
  (List.range 256).foldl (fun (s : State) n => match s.dueOf n with
    | some t => if duePast s.tick t then s.setLate n (s.tick - t).toNat else s
    | none => s) s

/-- The image's schedule committed at READY entry: DEAL entries only on the acting dealer, relative ticks counted from this entry (R234,
R403; log entry 107). -/
def State.commitImage (s : State) : State :=
  s.sched.image.foldl (fun (s : State) (e : SchedImage) =>
    if e.action = 3 ∧ s.actsAsDealer = false then s
    else s.putEntry_ e (BitVec.ofNat 48 e.tick + (if e.relative then s.dev.readyTick else 0)) false) s

/-- A group at the first entry to READY: position 16 and direction DOWN unless it is FIXED; its resting slice is ready when it is not
marked, and else runs a background calibration first (R74, R95). -/
def State.restGroup (s : State) (g : Nat) : State :=
  if s.fixed g then s
  else
    let s := (s.setF (CNV.GROUP_STATUS.REST g) 16).setF (CNV.GROUP_STATUS.DIR g) 0
    let sl := 17 * g + 16
    if s.bit (CAL.SLICE_STATE.SUSPECT sl) then s.startBg sl else s.setF (CAL.SLICE_STATE.BG_STATE sl) 4

/-- The control record at READY: the booted slot has reached READY, the watchdog count is cleared; an unrecorded slot becomes
COMMITTED and the other one EMPTY (R395, R398, R404). -/
def State.recordReady (s : State) : State :=
  match s.dev.slot with
  | none => s
  | some k =>
    let r := s.nv.ctlOr
    let r := if s.nv.recorded then r else (r.setState k 5).setState (1 - k) 0
    let r := { r.setSeen k true with wdog := 0 }
    let s := s.setF DEV.RESET_CAUSE.WDOG 0
    if s.nv.ctl = some r then s else s.writeCtl r

/-- What the first entry to READY after a reset does beside R406, autostart and schedule among it, with no host asked (R24). -/
def State.firstReady (s : State) : State :=
  let s := { s with dev := { s.dev with readyTick := s.tick }
                    ens := { s.ens with enumDue := s.bit ENS.CFG.AUTO_ENUM && s.fld ENS.CFG.ROLE == 2 } }
  let s := (List.range 4).foldl State.restGroup s
  let s := (s.library.filter fun pl => pl.autostart).foldl (fun (s : State) pl =>
    s.submit { kind := 0, id := pl.num, origin := 0, entry := 0, val := 0 }) s
  let s := s.commitImage.recordReady
  let s := s.setF DEV.TIMES.READY_MS (min 4095 ((s.now - s.dev.startAt) / 1000000))
  s.setF DEV.STARTUP.STAGE 0

/-- The composer's frame boundaries run from READY: with SYNC = 0 the first one is a period later (log entry 36). -/
def State.startBoundaries (s : State) : State :=
  { s with acc := { s.acc with composed := false
                               nextBoundary := if s.bit ACC.COMP_CFG.SYNC then none
                                               else some (s.now + cyclesPerTick * s.fld ACC.COMP_PERIOD.TICKS) } }

/-- Entry to READY, from CALIBRATE or from DORMANT (R406). -/
def State.readyEntry (s : State) (dormant : Bool) : State :=
  let s := if s.bit DSP.CFG.ENABLE && s.dev.dispOk then s.submit { kind := 2, id := 0, origin := 0, entry := 0, val := 0 } else s
  let s := if s.bit ACC.COMP_CFG.ENABLE && s.dev.dispOk then s.submit { kind := 3, id := 0, origin := 0, entry := 0, val := 0 } else s
  let s := (s.startBoundaries).setF DSP.FRAME.COUNT 0
  let s := { s with dsp := { s.dsp with latched := false } }
  let s := if dormant then s else s.firstReady
  let s := (List.range 8).foldl (fun (s : State) k => match s.slotPlan k with
    | some pl => s.startInstants k pl
    | none => s) s
  s.outsOn.judgeDue.restartDetectors.snapMap.seqSnap

/-! ### DORMANT (R316, R407, R408, Tables 10-7, 17-6) -/

/-- Requests that wait for admission are decided before DORMANT entry starts; the catalogue an activation waits for is written
(R407). -/
def State.drainRequests : Nat → State → State
  | 0, s => s
  | n + 1, s =>
    match s.mem.reqs with
    | [] => s
    | r :: _ =>
      let s := match s.planOf r.id with
        | some pl => if r.kind = 0 ∧ s.bit (ACQ.LIB_CFG.STALE r.id) = true then s.initCatalogue pl else s
        | none => s
      State.drainRequests n s.decideHead

/-- The display enters Panel Self Refresh at its next frame starts, or turns its link off (R316). -/
def State.restDisplay (s : State) : State :=
  let st := s.dspState
  let live := st == dspActive || st == dspPsrEntry || st == dspPsr || st == dspPsrExit
  if live && s.bit DSP.STATUS.PSR_CAP then s else s.displayOff

/-- DORMANT entry step 1 (Table 17-6, R396). -/
def State.beginDormant (s : State) : State :=
  let s := { s with dev := { s.dev with entering := true, dormantDue := false } }
  let s := s.abortSteps.stopAllPlans 4 false
  let s := s.haltQueues.stopComposer.restDisplay
  { s with ens := { s.ens with deals := [] } }

/-- The entry that a DORMANT request waits for begins once every earlier request has been decided (R407). -/
def State.dormantNext (s : State) : State := if s.dev.dormantDue && s.mem.reqs.isEmpty then s.beginDormant else s

/-- A DORMANT request is accepted: the requests before it complete first; a deactivation that still waits for its records holds them
up, and the entry with them (R28, R407). -/
def State.startDormant (s : State) : State :=
  let s := State.drainRequests 600 s
  State.dormantNext ({ s with dev := { s.dev with dormantDue := true, wake := [] } }.setF DEV.MODE.TRANSIT 1)

/-- ADMISSION: the request at the head of the queue is decided (R28, R257). -/
def effAdmission (s : State) : State := s.decideHead.dormantNext

/-- A wake cause starts the exit: 5 READY request, 6 WAKE_TICK, 7 pulse-width event. During the entry it is remembered; of two
together the lowest shows (R408). -/
def State.wakeCause (s : State) (n : Nat) : State :=
  if s.dev.held then s
  else if s.dev.entering || s.dev.dormantDue then { s with dev := { s.dev with wake := n :: s.dev.wake } }
  else if s.mode = modeDormant then
    if s.dev.leaving then
      if s.dev.leaveAt = s.now ∧ n < s.fld DEV.DORMANT.WAKE then s.setF DEV.DORMANT.WAKE n else s
    else
      let s := { s with dev := { s.dev with leaving := true, leaveAt := s.now, wake := [] } }
      (s.setF DEV.DORMANT.WAKE n).setF DEV.MODE.TRANSIT 1
  else s

/-- Steps 2 to 4 of DORMANT entry are over: the display fetches nothing, every record has sealed, no request of memory waits and no pause
or burst runs (Table 10-7), memory is in self-refresh, the domains are off and the staged log entries are committed (R353, Table 17-6). -/
def effDormantEntryDone (s : State) : State :=
  let s := s.dormantNext
  let still := !([dspTraining, dspActive, dspPsrEntry, dspPsrExit].contains s.dspState)
  let quiet := s.mem.held.isEmpty && !((List.range 12).any fun c => s.pausing c || s.bursting c)
  let steps := (List.range 4).any fun g => (s.stepOf g).isSome
  if s.dev.entering && s.acq.recs.isEmpty && still && quiet && !steps && !s.dev.held then
    let wake := s.dev.wake
    let s := (List.range 8).foldl State.freeIfDone s
    let s := { s.quietFabric with dsp := { s.dsp with admitted := false } }
    let s := (s.setResv (Tbl.erase s.mem.resv 32)).portsSilent.outsOff.selfRefresh true
    let s := (s.setF TIME.STATUS.SPLL_LOCK 0).bumpF DEV.DORMANT.ENTRIES 1
    let s := { s with dev := { s.dev with entering := false, domainOff := true, wake := [] }
                      time := { s.time with spllLostAt := none } }
    let s := (s.changeMode modeDormant 4).commitAll
    let s := s.requestDone 1
    wake.foldl State.wakeCause s
  else s

/-! ### Mode requests (R407) -/

/-- Why a request is refused, as MODE_RESULT.RESULT codes it; 0 when it is accepted. -/
def State.requestBar (s : State) (target key : Nat) : Nat :=
  let wake : Tick := BitVec.ofNat 48 (s.fld DEV.WAKE_TICK_LO.TICK + 2 ^ 32 * s.fld DEV.WAKE_TICK_HI.TICK)
  if target = 3 then (if key = 0x5AFE then 0 else 3)
  else if target = 0 ∨ 3 < target then 4
  else if s.bit DEV.MODE.TRANSIT then 2
  else if target = 1 then
    if !s.running then 1 else if s.mgt.upd.isSome then 5
    else if s.bit DEV.WAKE_CFG.TICK_EN && duePast s.tick wake then 6 else 0
  else if s.running || s.mode == modeDormant then 0 else 1

/-- A mode request is in progress. -/
def State.requestRuns (s : State) (target : Nat) : State :=
  { s.setF DEV.MODE_RESULT.BUSY 1 with dev := { s.dev with request := target } }

/-- A mode request through DEV.MODE_REQ or MODE_REQUEST: 1 DORMANT, 2 READY, 3 RESET. The answer is its RESULT; one that is refused leaves
a request in progress as it is. A reset accepted here takes effect in `finishReset`. -/
def State.requestMode (s : State) (target key : Nat) : Nat × State :=
  let res := s.requestBar target key
  let s := (s.setF DEV.MODE_RESULT.RESULT res).setF DEV.MODE_RESULT.TARGET target
  if res ≠ 0 then (res, s)
  else if target = 3 then (0, { s.requestRuns 3 with dev := { s.dev with request := 3, resetAt := some s.now } })
  else if target = 1 then (0, (s.requestRuns 1).startDormant)
  else if s.mode = modeReady then (0, s)
  else if s.mode = modeDormant then (0, (s.requestRuns 2).wakeCause 5)
  else (0, ((List.range 8).foldl State.disarm (s.requestRuns 2)).settle)

/-- A RESET request that has been accepted takes effect (R395). -/
def State.finishReset (s : State) : State := if s.dev.resetAt.isSome then s.resetDevice 3 else s

/-- DEV.MODE_REQ written with TARGET = DORMANT. -/
def effModeReqDormant (s : State) : State := if s.served 0x8 then (s.requestMode 1 0).2 else s

/-- DEV.MODE_REQ written with TARGET = READY. -/
def effModeReqReady (s : State) : State := if s.served 0x8 then (s.requestMode 2 0).2 else s

/-- DEV.MODE_REQ written with TARGET = RESET and a key. -/
def effModeReqReset (key : Nat) (s : State) : State := if s.served 0x8 then (s.requestMode 3 key).2.finishReset else s

/-- WAKE_TICK_REACHED: the always-on count has reached DEV.WAKE_TICK with TICK_EN set (R53, R407). -/
def effWakeTickReached (s : State) : State :=
  let t : Tick := BitVec.ofNat 48 (s.fld DEV.WAKE_TICK_LO.TICK + 2 ^ 32 * s.fld DEV.WAKE_TICK_HI.TICK)
  if s.bit DEV.WAKE_CFG.TICK_EN && duePast s.tick t then s.wakeCause 6 else s

/-! ### Pins, watchdog and trip (R395, R442, R446, R456) -/

/-- POWER_ON: VDD_AON comes into range (R395, cause 0). -/
def effPowerOn (s : State) : State :=
  if s.dev.vddAon then s
  else ({ s with dev := { s.dev with vddAon := true } }.cold 0).beginLoad

/-- VDD_AON_LOSS: the device resets, and the staged log entries are lost (R353, R442). -/
def effVddAonLoss (s : State) : State :=
  if s.dev.vddAon then { s with dev := { s.dev with vddAon := false } }.cold 0 else s

/-- RESET_N_ASSERT: low for at least 10 us (R456, cause 1). -/
def effResetNAssert (s : State) : State :=
  if s.dev.resetN then s
  else
    let s := { s with dev := { s.dev with resetN := true } }
    if s.dev.vddAon then s.resetDevice 1 else s

/-- RESET_N_RELEASE: the device leaves reset unless a trip or a missing VDD_AON holds it (R446, R456, R458). -/
def effResetNRelease (s : State) : State :=
  if s.dev.resetN then { s with dev := { s.dev with resetN := false } }.beginLoad else s

/-- THERMAL_TRIP: everything outside the always-on domain is reset and THERM_TRIP_N is driven low (R446, cause 6). -/
def effThermalTrip (s : State) : State :=
  if s.dev.vddAon then
    let s := { s with dev := { s.dev with tripAt := s.now } }
    if s.dev.trip then s else { s with dev := { s.dev with trip := true } }.resetDevice 6
  else s

/-- THERMAL_TRIP_RELEASE: every site has been 15 degrees below the trip level for 1 s; THERM_TRIP_N is released and LOAD begins
(R446). -/
def effThermalTripRelease (s : State) : State :=
  if s.dev.trip && decide (s.dev.tripAt + 1000000 * cyclesPerUs ≤ s.now) then { s with dev := { s.dev with trip := false } }.beginLoad else s

/-- WATCHDOG_EXPIRY: Tsufen has not serviced its watchdog; the boot ROM serving SAFE has none. A reset before READY is reached counts
in the control record (R395, cause 5; log entry 40). -/
def effWatchdogExpiry (s : State) : State :=
  if s.fld MGT.STATUS.FW_STATE = 1 ∧ s.dev.held = false then
    let r := s.nv.ctlOr
    let s := if s.fld DEV.STARTUP.STAGE = 0 then s else s.writeCtl { r with wdog := min 255 (r.wdog + 1) }
    s.resetDevice 5
  else s

def execAdmission (s : State) : Res := .next (effAdmission s)
def execModeReqDormant (s : State) : Res := .next (effModeReqDormant s)
def execModeReqReady (s : State) : Res := .next (effModeReqReady s)
def execModeReqReset (key : Nat) (s : State) : Res := .next (effModeReqReset key s)
def execDormantEntryDone (s : State) : Res := .next (effDormantEntryDone s)
def execWakeTickReached (s : State) : Res := .next (effWakeTickReached s)
def execPowerOn (s : State) : Res := .next (effPowerOn s)
def execVddAonLoss (s : State) : Res := .next (effVddAonLoss s)
def execResetNAssert (s : State) : Res := .next (effResetNAssert s)
def execResetNRelease (s : State) : Res := .next (effResetNRelease s)
def execThermalTrip (s : State) : Res := .next (effThermalTrip s)
def execThermalTripRelease (s : State) : Res := .next (effThermalTripRelease s)
def execWatchdogExpiry (s : State) : Res := .next (effWatchdogExpiry s)

end Sys2Proof.Machine
end

