-- ==== Sys2Proof/Machine/Monitor.lean ====
section
/-!
DEFINITION. The monitor ADC, pulse-width events, alarms, and the commands of the event log (R344 to R357).
-/

namespace Sys2Proof.Machine

/-! ### Conversions -/

/-- The slot converting: its input and AVG; the injected sequence first, else the regular one (R346, R347). -/
def State.monSlot (s : State) : Option (Nat × Nat) :=
  match s.mgt.injSlot with
  | some i => some (s.fld (MGT.INJ_SLOT.INPUT i), s.fld (MGT.INJ_SLOT.AVG i))
  | none =>
    if s.bit MGT.MON_CTL.REG_RUN then
      let d := s.fld MGT.MON_CTL.REG_DEF
      let k := s.fld MGT.MON_CTL.REG_SLOT
      some (s.fld (MGT.SEQ_SLOT.INPUT d k), s.fld (MGT.SEQ_SLOT.AVG d k))
    else none

/-- At cycle `b` the reference buffer was enabled, and had been for at least 400 us (R348). -/
def State.refSettledAt (s : State) (b : Nat) : Bool :=
  (s.bit MGT.MON_CTL.REF_EN && decide (s.mgt.refOnAt + 400000 ≤ b)) ||
    s.mgt.refWas.any fun x => decide (x.1 + 400000 ≤ b) && decide (b < x.2)

/-- A result is UNSETTLED when one of its conversions, 1 us each and ending now, began unsettled (R344, R348). -/
def State.unsettled (s : State) (avg : Nat) : Bool :=
  (List.range (2 ^ avg)).any fun i => !s.refSettledAt (s.now - (i + 1) * 1000)

/-- A regular definition is in force, at slot 0 (R346, R356). -/
def State.monSetDef (s : State) (d : Nat) : State :=
  ((s.setF MGT.MON_CTL.REG_DEF d).setF MGT.MON_CTL.REG_SLOT 0).setF MGT.MON_CTL.REG_RUN 1

/-- A regular definition starts at slot 0 (R346). -/
def State.monStartDef (s : State) (d : Nat) : State := State.monSetDef { s with mgt := { s.mgt with slotAt := s.now } } d

/-- After a slot, the next: the injected sequence to its end and then the regular one at its slot, which is slot 0 of a definition that took
its place meanwhile; a CONTINUOUS definition again from slot 0, a SINGLE one stops (R346, R347, R356). -/
def State.monNextSlot (s : State) : State :=
  let s := { s with mgt := { s.mgt with slotAt := s.now } }
  match s.mgt.injSlot with
  | some i =>
    if i < s.fld MGT.MON_PW.INJ_LEN then { s with mgt := { s.mgt with injSlot := some (i + 1) } }
    else
      State.setF { s with mgt := { s.mgt with injSlot := none, monNext := none } } MGT.MON_CTL.INJ_RUN 0
  | none =>
    let d := s.fld MGT.MON_CTL.REG_DEF
    let k := s.fld MGT.MON_CTL.REG_SLOT
    if k < s.fld (MGT.SEQ_CFG.LEN d) then s.setF MGT.MON_CTL.REG_SLOT (k + 1)
    else if s.bit (MGT.SEQ_CFG.MODE d) then s.setF MGT.MON_CTL.REG_RUN 0
    else s.setF MGT.MON_CTL.REG_SLOT 0

/-- An input's alarm judged on a settled result (R349): it enters after CONFIRM results beyond the limits and leaves after CONFIRM
results within them less the hysteresis. A fault-class alarm with SAFE_ON sends the device to SAFE. -/
def State.monAlarm (s : State) (n c : Nat) : State :=
  let lo := s.fld (MGT.MON_LIMIT.LO n)
  let hi := s.fld (MGT.MON_LIMIT.HI n)
  let hyst := s.fld (MGT.MON_ALARM.HYST n)
  let on := s.bit (MGT.MON_RESULT.ALARM n)
  let counts := if on then decide (lo + hyst ≤ c) && decide (c + hyst ≤ hi) else decide (hi < c) || decide (c < lo)
  let k := if counts then Tbl.get 0 s.mgt.alarmCnt n + 1 else 0
  if k < s.fld (MGT.MON_ALARM.CONFIRM n) ∨ k = 0 then
    { s with mgt := { s.mgt with alarmCnt := Tbl.set 0 s.mgt.alarmCnt n k } }
  else
    let s := { s with mgt := { s.mgt with alarmCnt := Tbl.set 0 s.mgt.alarmCnt n 0 } }
    if on then s.setF (MGT.MON_RESULT.ALARM n) 0
    else
      let s := s.setF (MGT.MON_RESULT.ALARM n) 1
      if s.bit (MGT.MON_ALARM.CLASS n) then
        let s := s.raise 239 0 n 0 0
        if s.bit (MGT.MON_ALARM.SAFE_ON n) && s.mode != modeSafe then s.enterSafe 14 false else s
      else s.raise 238 0 n 0 0

/-- A slot's last conversion ends, 2^AVG us after its first began or later: the raw results, 2^AVG of them, are corrected and written, the
alarm is judged, the next slot follows (R344 to R349; log entry 111). -/
def effMonConversionDone (raws : List Nat) (s : State) : State :=
  match s.monSlot with
  | some (n, avg) =>
    if raws.length = 2 ^ avg ∧ n < 40 ∧ s.mgt.slotAt + 1000 * 2 ^ avg ≤ s.now ∧ s.dev.held = false then
      let c := monCode avg (raws.map (min 4095)) (s.fldS (MGT.MON_CORR.OFFSET n)) (s.fld (MGT.MON_CORR.GAIN n))
      let un := s.unsettled avg
      let s := (s.setF (MGT.MON_RESULT.VALUE n) c).wrapF (MGT.MON_RESULT.UPDATES n) 1
      let s := s.setB (MGT.MON_RESULT.UNSETTLED n) un
      let s := s.monNextSlot
      if un then s.bumpF MGT.MON_COUNTS.UNSETTLED 1 else s.monAlarm n c
    else s
  | none => s

/-- A conversion is in progress: the sequence runs and has not just ended one, each lasting 1 us (R344). -/
def State.converting (s : State) : Bool := s.monSlot.isSome && decide ((s.now - s.mgt.slotAt) % 1000 ≠ 0)

/-- The delay of a MON_SEQ has expired: at the end of the conversion in progress definition n starts at slot 0; while an injected
sequence runs, or starts in the same cycle, it takes the regular definition's place and starts after it (R346, R356). -/
def effMonSeqStart (s : State) : State :=
  match s.mgt.monPend with
  | some (d, t) =>
    if t ≤ s.now ∧ (s.converting = false ∨ s.mgt.injSlot.isSome = true) then
      let inj := s.mgt.injSlot.isSome || (match s.mgt.injAt with
        | some a => decide (a ≤ s.now)
        | none => false)
      let s := { s with mgt := { s.mgt with monPend := none } }
      if inj then { s with mgt := { s.mgt with monNext := some d } }.monSetDef d else s.monStartDef d
    else s
  | none => s

/-- The monitor resource is held: from the dispatch of a MON_SEQ until its definition starts, and while a SINGLE pass runs (R346). -/
def State.monBusy (s : State) : Bool :=
  s.mgt.monPend.isSome || s.mgt.monNext.isSome ||
    (s.bit MGT.MON_CTL.REG_RUN && s.bit (MGT.SEQ_CFG.MODE (s.fld MGT.MON_CTL.REG_DEF)))

/-- The scheduler's MON_SEQ names definition and delay (R346). -/
def effActionMonSeq (n : Nat) (s : State) : State :=
  s.runAction n 6 (fun _ => !s.monBusy) fun o s =>
    (none, { s with mgt := { s.mgt with monPend := some (o.arg % 16, s.now + o.arg / 2 ^ 16 * cyclesPerTick) } })

/-! ### Pulse-width events -/

/-- The sources of pulse-width events that the image selects: bit 0 the pin, bits 4:1 the comparators (R347). -/
def State.pwSources (s : State) : Nat := s.fld MGT.MON_PW.PIN_EN + 2 * s.fld MGT.MON_PW.OC_SRC

/-- The bits two masks share, over `w` bits. -/
def bothBits (w a b : Nat) : Nat := (List.range w).foldl (fun m i => if bitOf a i && bitOf b i then m + 2 ^ i else m) 0

/-- The image uses an injected sequence (Table 17-8, bit 5). -/
def State.usesInject (s : State) : Bool := bitOf (s.fld (DEV.FEATURES.BITS 0)) 5

/-- The selected sources have been asserted for PW_WIDTH ticks (R347): the power-event notice, the injected sequence after INJ_DELAY
unless one is pending or running, and in DORMANT a wake when PW_EN is set (R394). PW_WIDTH counts from the start of Tsufen (R458). -/
def effPulseWidthEvent (sources : Nat) (s : State) : State :=
  let src := bothBits 5 sources s.pwSources
  if src ≠ 0 ∧ s.mgt.pwLow = false ∧ s.dev.held = false ∧ s.fld MGT.STATUS.FW_STATE ≠ 0 then
    let s := { s with mgt := { s.mgt with pwLow := true } }
    let s := (s.bumpF MGT.MON_COUNTS.PW_EVENTS 1).raise 237 src 0 0 0
    let s :=
      if s.mgt.injAt.isSome || s.mgt.injSlot.isSome then s.bumpF MGT.MON_COUNTS.INJ_OVERRUN 1
      else if s.usesInject then
        let s := s.setF MGT.MON_CTL.INJ_RUN 1
        { s with mgt := { s.mgt with injAt := some (s.now + s.fld MGT.MON_DELAY.INJ_DELAY * cyclesPerTick) } }
      else s
    if s.bit DEV.WAKE_CFG.PW_EN then s.wakeCause 7 else s
  else s

/-- Every pulse-width source is deasserted: the next event may form (R347). -/
def effPwrEvtDeassert (s : State) : State := { s with mgt := { s.mgt with pwLow := false } }

/-- INJ_DELAY ticks after the event the injected sequence starts; a regular conversion in progress is abandoned (R347). -/
def effInjectStart (s : State) : State :=
  match s.mgt.injAt with
  | some t =>
    if t ≤ s.now then
      let s := if s.converting then s.bumpF MGT.MON_COUNTS.INTERRUPTED 1 else s
      { s with mgt := { s.mgt with injAt := none, injSlot := some 0, slotAt := s.now } }
    else s
  | none => s

/-- REF_EN set or cleared (R348). -/
def State.setRefEn (s : State) (on : Bool) : State :=
  if on && !s.bit MGT.MON_CTL.REF_EN then
    let s := (s.setF MGT.MON_CTL.REF_EN 1).setF MGT.MON_CTL.REF_SETTLED 0
    { s with mgt := { s.mgt with refOnAt := s.now } }
  else if !on && s.bit MGT.MON_CTL.REF_EN then
    let s := (s.setF MGT.MON_CTL.REF_EN 0).setF MGT.MON_CTL.REF_SETTLED 0
    { s with mgt := { s.mgt with refWas := (s.mgt.refOnAt, s.now) :: s.mgt.refWas.filter fun x => decide (s.now < x.2 + 8000) } }
  else s

/-- A write of MGT.MON_CTL: only REF_EN is writable (R348). -/
def effMonCtlWrite (v : Nat) (s : State) : State := if s.served 0xE000C then s.setRefEn (bitOf v 0) else s

/-- 400 us have passed since REF_EN became 1 (R348). -/
def effRefSettled (s : State) : State :=
  if s.bit MGT.MON_CTL.REF_EN && decide (s.mgt.refOnAt + 400000 ≤ s.now) then s.setF MGT.MON_CTL.REF_SETTLED 1 else s

/-- MGT.CMD.CLR_COUNTS clears MON_COUNTS, LOG_STATUS.DROPPED and the MBX_STATUS counters (R357). -/
def effMgtClrCounts (s : State) : State :=
  if s.served 0xE0008 then
    s.clearCounts [MGT.MON_COUNTS.PW_EVENTS, MGT.MON_COUNTS.INTERRUPTED, MGT.MON_COUNTS.INJ_OVERRUN, MGT.MON_COUNTS.UNSETTLED,
      MGT.LOG_STATUS.DROPPED, MGT.MBX_STATUS.REFUSED, MGT.MBX_STATUS.UART_ERR]
  else s

/-! ### Event log commands -/

/-- Staged entries are committed: eight at a time, a record of several entries whole, or a partial group 10 ms after its oldest entry
was staged (R351, R353). -/
def effLogCommit (s : State) : State :=
  match s.mgt.staged with
  | [] => s
  | e :: _ =>
    if 8 ≤ s.mgt.staged.length then s.commitUnits 8
    else if e.stagedAt + 10000000 ≤ s.now then s.commitAll
    else s

/-- The oldest entry held (R353). -/
def State.logOldest (s : State) : Nat := s.nv.nextSeq - ringSize

/-- A multi-entry read of `c` entries from `f` (R354): the result (0 done, 1 reduced, 2 GONE), the entries, and the state with the
staged entries it needs committed. -/
def State.logRead (s : State) (f c : Nat) : Nat × List LogEntry × State :=
  if f < s.logOldest then (2, [], s)
  else
    let c' := min c (s.nextStaged - f)
    let s' := s.commitUnits (f + c' - s.nv.nextSeq)
    let es := (List.range c').filterMap fun i => Tbl.get none (s'.nv.ring.map fun e => (e.1, some e.2)) (f + i)
    (if c' < c then 1 else 0, es, s')

/-- Dwords of a byte list written into consecutive fields. -/
def State.writeDwords (s : State) (f : Nat → Fld) (bs : List Byte) : Nat → State
  | 0 => s
  | n + 1 => (State.writeDwords s f bs n).setF (f n) (num bs (4 * n) 4)

/-- A write of MGT.LOG_SEL_LO starts a read into the register window (R354). -/
def effLogSelWrite (v : Nat) (s : State) : State :=
  if s.served 0xE0048 then
    let s := (s.setF MGT.LOG_SEL_LO.FIRST v).setF MGT.LOG_SEL_LO.COUNT (v / 2 ^ 29)
    let f := s.fld MGT.LOG_SEL_LO.FIRST + 2 ^ 32 * s.fld MGT.LOG_SEL_HI.FIRST
    let (r, es, s) := s.logRead f (s.fld MGT.LOG_SEL_LO.COUNT + 1)
    let s := (s.setF MGT.LOG_STATUS.RD_RESULT r).setF MGT.LOG_STATUS.RD_COUNT es.length
    if r = 2 then s else s.writeDwords MGT.LOG_DATA.DATA (es.flatMap LogEntry.bytes) (8 * es.length)
  else s

def execMonConversionDone (raws : List Nat) (s : State) : Res := .next (effMonConversionDone raws s)
def execMonSeqStart (s : State) : Res := .next (effMonSeqStart s)
def execActionMonSeq (n : Nat) (s : State) : Res := .next (effActionMonSeq n s)
def execPulseWidthEvent (sources : Nat) (s : State) : Res := .next (effPulseWidthEvent sources s)
def execPwrEvtDeassert (s : State) : Res := .next (effPwrEvtDeassert s)
def execInjectStart (s : State) : Res := .next (effInjectStart s)
def execMonCtlWrite (v : Nat) (s : State) : Res := .next (effMonCtlWrite v s)
def execRefSettled (s : State) : Res := .next (effRefSettled s)
def execMgtClrCounts (s : State) : Res := .next (effMgtClrCounts s)
def execLogCommit (s : State) : Res := .next (effLogCommit s)
def execLogSelWrite (v : Nat) (s : State) : Res := .next (effLogSelWrite v s)

end Sys2Proof.Machine
end

