-- ==== Sys2Proof/Machine/Boot.lean ====
section
/-!
DEFINITION. Start-up, Table 17-12: the candidate slots, firmware, enrolment, the image and its versions, the patch, the clock, the
self-test run, DRAM training, the binding of lanes, the end of LOAD and of CALIBRATE (R43, R87, R91, R93, R248, R318, R319, R364,
R372, R383, R384, R401, R404, R405, R418, R419, R458).
-/

namespace Sys2Proof.Machine

/-! ### Steps 1 to 3: candidates and firmware (R404) -/

/-- The candidate slots not yet tried, in order; unrecorded slots are tried as COMMITTED ones (R398, R404). -/
def State.candidates (s : State) : List Nat :=
  let pick : (Nat → Bool) → List Nat := fun p => [0, 1].filter fun k => p (s.nv.ctlOr.state k)
  ((pick fun x => x == 3 || x == 4) ++ pick (· == 5) ++ pick (· == 2)).filter fun k => !s.dev.tried.contains k

/-- FAIL_A or FAIL_B. -/
def bootFail (k : Nat) : Fld := if k = 0 then DEV.BOOT.FAIL_A else DEV.BOOT.FAIL_B

/-- The control record as LOAD updates it in one write: WRITING becomes EMPTY, a TRIAL slot not seen READY becomes FAILED, the first
PENDING slot becomes TRIAL (R404). -/
def CtlRec.atLoad (r : CtlRec) : CtlRec :=
  let r := [0, 1].foldl (fun (r : CtlRec) k => if r.state k = 1 then r.setState k 0 else r) r
  let r := [0, 1].foldl (fun (r : CtlRec) k => if r.state k = 4 ∧ r.seen k = false then r.setState k 6 else r) r
  match [0, 1].find? fun k => r.state k == 3 with
  | some k => (r.setState k 4).setSeen k false
  | none => r

/-- The control record updated; a trial found failed is logged and shown as reason 6. -/
def State.updateCtl (s : State) : State :=
  match s.nv.ctl with
  | none => s
  | some r =>
    if r.atLoad = r then s
    else
      let s := s.writeCtl r.atLoad
      ([0, 1].filter fun k => r.state k == 4 && !r.seen k).foldl (fun (s : State) k =>
        (s.setF (bootFail k) 6).logEntry 7 0 (s.logFlags false) (le 1 0 ++ le 1 k ++ le 1 6)) s

/-- DEV.STARTUP.STAGE shows a step of Table 17-12 (R405). -/
def State.showStage (s : State) (n : Nat) : State := { s with dev := { s.dev with stageAt := s.now } }.setF DEV.STARTUP.STAGE n

/-- What the flash answers to Read JEDEC ID and Read SFDP, and the address mode that follows (R397, Table 17-4). -/
def State.identifyFlash (s : State) : State :=
  let s := (s.emit (.flash 0x9F 0 3)).emit (.flash 0x5A 0 256)
  let s := if 16 < s.nv.flashMiB then s.emit (.flash 0xB7 0 0) else s
  let s := (s.setF DEV.FLASH_ID.JEDEC_ID s.nv.jedecId).setF DEV.FLASH_CFG.SIZE s.nv.flashMiB
  (s.setB DEV.FLASH_CFG.ADDR4 (decide (16 < s.nv.flashMiB))).setF DEV.FLASH_CFG.DUMMY s.nv.flashDummy

/-- Steps 1 and 2 of Table 17-12: partition 83, whose MISR the boot ROM compares with its golden signature (R379), the flash identified, the
control record read and updated. -/
def State.bootStart (s : State) (misr : Nat) : State :=
  let pass := s.partPasses 83 0 (.logic misr)
  let s := (s.noteSig 83 0 (.logic misr)).setF (BST.PART_STATE.RES0 83) (if pass then 1 else 2)
  let s := State.setF { s with dev := { s.dev with booted := true } } (BST.PART_STATE.AT_LOAD 83) 1
  if pass = false then
    let s := { s with dev := { s.dev with mgtOk := false } }
    (((s.setF (BST.PART_STATE.OUTCOME 83) 3).setF BST.STATUS.LOAD_FAIL 1).raise 248 0 83 0 0).enterSafe 12 true
  else
    let s := (s.identifyFlash.reads 0 64).reads 4096 64
    if s.dev.cause = 5 ∧ 3 ≤ s.nv.ctlOr.wdog then s.enterSafe 13 true
    else s.updateCtl.showStage 3

/-- No candidate is left: SAFE, cause 8, served by Tsufen when the last firmware tried passed and was matched; a trial that has failed in this
LOAD resets the device once more (R365, R404). -/
def State.noCandidate (s : State) : State :=
  let t := s.enterSafe 8 (!(s.dev.fwOk && s.dev.fwMatched))
  if s.dev.trialFailed then t.resetDevice 4 else t

/-- A TRIAL slot fails as a candidate: it is recorded FAILED, with its UPDATE entry, since the trial cannot reach READY (R365). -/
def State.noteTrial (s : State) (k : Nat) : State :=
  if s.nv.ctlOr.state k = 4 then { s with dev := { s.dev with trialFailed := true } }.failTrial k else s

/-- A candidate fails with a reason; the boot ROM goes on to the next one, if there is one (R404). -/
def State.failSlot (s : State) (k reason : Nat) : State :=
  let s := State.setF { s with dev := { s.dev with slot := none }, sec := { s.sec with permit := [] } } (bootFail k) reason
  let s := s.noteTrial k
  if s.candidates.isEmpty then s.noCandidate
  else (s.clearFs [MGT.STATUS.FW_STATE, MGT.FW_VERSION.MAJOR, MGT.FW_VERSION.MINOR]).showStage 3

/-- The firmware header is well formed: MAGIC, FORMAT, zero bytes, body at most 768 KiB (R399). -/
def fwHeadOk (fw : List Byte) : Bool :=
  num fw 0 4 == 0x54534631 && num fw 4 2 == 1 && num fw 22 10 == 0 && decide (32 + num fw 18 4 ≤ 768 * 1024)

/-- Units of 4 KiB in so many bytes (Table 14-8). -/
def unitsOf (bytes : Nat) : Nat := (bytes + 4095) / 4096

/-- The configuration load stands at `pos` of `total` units (R355, Table 14-8). -/
def State.showLoad (s : State) (pos total : Nat) : State :=
  ((s.setF MGT.LOAD_PROG.POS pos).setF MGT.LOAD_PROG.TOTAL total).setF MGT.PROG_PCT.LOAD (100 * pos / total)

/-- The firmware of a candidate starts: slot, versions and features shown; its configuration load begins. -/
def State.startFirmware (s : State) (k : Nat) (fw : List Byte) (units : Nat) : State :=
  let feat := num fw 10 8
  let s := s.showLoad 0 units
  let s := { s with dev := { s.dev with slot := some k, fwOk := true, features := feat } }
  let s := ((s.setF MGT.STATUS.FW_STATE 1).setF MGT.STATUS.FW_SLOT k).setF MGT.FW_VERSION.MAJOR (num fw 6 2)
  let s := ((s.setF MGT.FW_VERSION.MINOR (num fw 8 2)).setF DEV.BOOT.SLOT k).setF SEC.STATUS.BOOT_SLOT k
  let s := (s.setF (DEV.FEATURES.BITS 2) feat).setF (DEV.FEATURES.BITS 3) (feat / 2 ^ 32)
  (s.setB DEV.MODE.TRIAL (s.nv.ctlOr.state k == 4)).showStage 4

/-- The next candidate is tried: slot header, permit, firmware. -/
def State.tryCandidate (s : State) : State :=
  match s.candidates with
  | [] => s.noCandidate
  | k :: _ =>
    let s := { s with dev := { s.dev with tried := k :: s.dev.tried, fwOk := false, fwMatched := false } }
    let s := s.setF DEV.BOOT.TRIES s.dev.tried.length
    let s := s.reads (s.nv.slotBase k) 64
    match s.nv.slotHead k with
    | none => s.failSlot k 1
    | some h =>
      let p := if s.nv.ownerValid then (0, []) else s.permitOf k h
      let s := if s.nv.ownerValid then s else s.reads (s.nv.slotBase k + h.cfgOff) h.cfgLen
      if p.1 ≠ 0 then ((s.setF SEC.STATUS.ENROL_RESULT p.1).verifyFailed 4 (s.permitFail k h p.1)).failSlot k 3
      else
        let s := State.reads { s with sec := { s.sec with permit := p.2 } } (s.nv.slotBase k + h.fwOff) h.fwLen
        let fw := s.nv.read (s.nv.slotBase k + h.fwOff) h.fwLen
        let v := s.objectVerdict fw (32 + num fw 18 4) 2 s.ownerKey
        let v := if v = 0 ∧ fwHeadOk fw = false then 4 else v
        if v ≠ 0 then (s.verifyFailed 2 v).failSlot k 2 else s.startFirmware k fw (unitsOf (num (s.nv.cfgObject k h) 12 4))

/-- FIRMWARE_VERIFIED: the boot ROM has judged one candidate; the first one follows its own test, which left `misr`, and the control
records. -/
def effFirmwareVerified (misr : Nat) (s : State) : State :=
  if s.mode == modeLoad && !s.dev.held && s.dev.slot.isNone && s.fld MGT.STATUS.FW_STATE == 0 then
    let s := if s.dev.booted then s else s.bootStart misr
    if s.mode = modeLoad then s.tryCandidate else s
  else s

/-! ### Step 4: the image (R401, R404) -/

/-- Every bit of `m` is in `n`, over 64 bits. -/
def bitsWithin64 (m n : Nat) : Bool := (List.range 64).all fun i => !bitOf m i || bitOf n i

/-- Indexes of the manifest entries that match this unit and the firmware running (R401). -/
def State.manifestHits (s : State) (m : List ManifestEntry) : List (Nat × ManifestEntry) :=
  (m.zipIdx.map fun x => (x.2, x.1)).filter fun x =>
    x.2.stepping == s.fld DEV.ID.STEPPING && x.2.rom == s.fld SEQ.VERSION.ROM_VERSION && x.2.major == s.fld MGT.FW_VERSION.MAJOR &&
      x.2.minor == s.fld MGT.FW_VERSION.MINOR

/-- REFS names other firmware than the one running; an image without a REFS section names none (Table 17-9). -/
def State.refsOther (s : State) (refs : List Byte) : Bool :=
  !refs.isEmpty && !(num refs 0 2 == s.fld MGT.FW_VERSION.MAJOR && num refs 2 2 == s.fld MGT.FW_VERSION.MINOR)

/-- Step 4 of enrolment: the hash fuses programmed and read back; a mismatch is FUSE_FAIL. Step 5 follows within 50 ms, in the next cycle in
which no command waits (R364, R376; log entry 127). `fuses` is what reads back. -/
def State.enrol (s : State) (fuses : List Byte) : State :=
  if s.nv.ownerValid then s
  else
    let blown := List.zipWith (fun (a b : Byte) => a ||| b) (padTo s.nv.ownerHash 48) (padTo fuses 48)
    let s := { s with nv := { s.nv with ownerHash := blown } }
    if blown ≠ padTo s.sec.permit 48 then (s.showOwner.setF SEC.STATUS.ENROL_RESULT 6).enterSafe 11 false
    else { s with dev := { s.dev with enrolDue := true } }.showOwner

/-- Step 5 of enrolment: OWNER_VALID is blown, the TRUST ENROL entry is logged, the enrolment notice raised (R364). -/
def State.finishEnrol (s : State) : State :=
  if s.dev.enrolDue then
    let s := ({ s with nv := { s.nv with ownerValid := true }, dev := { s.dev with enrolDue := false } }.showOwner).setF
      SEC.STATUS.ENROL_RESULT 1
    let s := (s.stageTrust (le 1 3 ++ le 7 0 ++ padTo s.nv.ownerHash 48)).2
    s.raise 242 0 0 0 0
  else s

/-! ### Step 5: the patch, versions, registers (R337, Table 17-10) -/

/-- How a patch object stands, as SEQ.PATCH_STATE.STATE codes it: 2 when it is to be applied (R337, Table 13-8). The second part is
its LAST_FAIL when it does not verify. -/
def State.patchJudge (s : State) (obj refs : List Byte) (hits : List (Nat × ManifestEntry)) (readBack : Bool) : Nat × Nat :=
  let len := num obj 12 4
  let v := s.objectVerdict obj len 3 s.ownerKey
  let ver := num obj 4 2
  let paired := num refs 4 2 == ver && slice refs 8 48 == Config.sha384 (obj.take len) && hits.any fun x => x.2.patch == ver
  if v ≠ 0 then (3, v)
  else if !paired then (4, 0)
  else if num obj 2 2 ≠ s.fld SEQ.VERSION.ROM_VERSION then (5, 0)
  else if patchFormatOk (obj.take len) = false then (6, 0)
  else if readBack = false then (7, 0)
  else (2, 0)

/-- Orders 3 to 5 of Table 17-10. -/
def State.judgePatch (s : State) (obj refs : List Byte) (hits : List (Nat × ManifestEntry)) (readBack : Bool) : State :=
  let none_ := obj.isEmpty
  let j := if none_ then (0, 0) else s.patchJudge obj refs hits readBack
  if j.1 = 2 then
    let i := ((hits.find? fun x => x.2.patch == num obj 4 2).map Prod.fst).getD 0xFF
    (s.loadPatch obj).setF DEV.MANIFEST.MATCH i
  else
    let s := if j.1 = 3 then s.verifyFailed 3 j.2 else s
    let s := if none_ then s else s.refusePatch j.1
    match hits.find? fun x => x.2.patch == 0 with
    | some x => (s.setF DEV.MANIFEST.MATCH x.1).setF DEV.MODE.ROM_ONLY 1
    | none => s.enterSafe 10 false

/-! ### Sessions left open, numbers and addresses (R156, R231, R372) -/

/-- First entries of TRUST records in the ring whose P0 is `p0` (R371). -/
def NvSt.trustRecs (nv : NvSt) (p0 : Nat) : List LogEntry :=
  (nv.ring.map Prod.snd).filter fun e => e.typ == 9 && num e.data 0 1 == p0

/-- DATA of the ring entry at a SEQ. -/
def NvSt.ringData (nv : NvSt) (seq : Nat) : List Byte :=
  match nv.ring.find? fun e => e.1 == seq with
  | some e => padTo e.2.data 8
  | none => List.replicate 8 0

/-- The session ID of a CHECKPOINT or CLOSE record at a SEQ (Table 15-7). -/
def NvSt.recSession (nv : NvSt) (seq : Nat) : Nat := num (nv.ringData (seq + 1)) 0 6

/-- n and TD of the last CHECKPOINT of a session, or 0 and zeros (R372). -/
def NvSt.lastCheckpoint (nv : NvSt) (id : Nat) : Nat × List Byte :=
  match (nv.trustRecs 1).reverse.find? fun e => nv.recSession e.seq == id with
  | some e => (num (nv.ringData (e.seq + 2)) 0 4, (List.range 6).flatMap fun i => nv.ringData (e.seq + 3 + i))
  | none => (0, zero48)

/-- Each session whose OPEN record is in the log without a CLOSE record is closed with INCOMPLETE set (R372). -/
def State.closeLeft (s : State) : State :=
  let s := s.commitAll
  let closed := (s.nv.trustRecs 2).map fun e => s.nv.recSession e.seq
  let open_ := (s.nv.trustRecs 0).filter fun e => !closed.contains e.seq
  open_.foldl (fun (t : State) e =>
    let ck := s.nv.lastCheckpoint e.seq
    let x : Session := { id := e.seq, key := sessionKey e.seq, plan := num e.data 2 1, n := ck.1, r := 0, chains := []
                         chainR := zero48, sealed := [], checked := ck.1, owed := 0, marks := [] }
    (t.logClose (num e.data 1 1) x true ck.1 ck.2).raise 244 0 (num e.data 1 1) 0 0) s

/-- The stored address becomes the candidate when its ENSEMBLE_ID is the image's (R231). -/
def State.recallAddr (s : State) : State :=
  match s.nv.persisted 0 with
  | some v => if v / 2 ^ 8 % 2 ^ 32 = s.fld ENS.ID.ENSEMBLE_ID then s.setF ENS.STATUS.ADDR v else s
  | none => s

/-- The role of the image in force: a member or a standby; a configured dealer acts only after its wait, a member until then (R234; log
entry 108). -/
def State.takeRole (s : State) : State :=
  let r := s.fld ENS.CFG.ROLE
  s.setF ENS.STATUS.ACT_ROLE (if r = 2 then 1 else r)

/-- Accession numbers go on at the next block not reserved (R156). -/
def State.nextBlock (s : State) : State :=
  let b := match s.nv.persisted 1 with
    | some b => b + 1
    | none => 0
  (State.showAccession { s with acq := { s.acq with accession := 2 ^ 32 * b } }).setF ACQ.ACCESSION_HI.NEXT b

/-! ### Step 6: the clock (R43, R458) -/

/-- DRAM channel `c` is populated. -/
def State.populated (s : State) (c : Nat) : Bool := bitOf (s.fld MEM.CFG.POPULATED) c

/-- Training of the populated channels is asked of the training sequencer; each shows training (R248, R273, Table 13-4). -/
def State.startTraining (s : State) : State :=
  ((List.range 12).foldl (fun (s : State) c => if s.populated c then s.setF (MEM.CH_STATE.STATE c) 1 else s) s).seqRequest 68 0

/-- The tick PLL takes its source and the sampling PLL locks; without a usable source LOAD waits (Table 17-12 step 6, R458). -/
def State.takeClock (s : State) : State :=
  let ref := s.fld TIME.CFG.REF_MODE ≠ 0
  if ref ∧ s.time.refOk = true then
    let s := { s with dev := { s.dev with clockWait := false } }
    (((s.setF TIME.STATUS.SOURCE 1).setF TIME.STATUS.SPLL_LOCK 1).showStage 7).startTraining
  else if s.time.crystalOk then
    let s := { s with dev := { s.dev with clockWait := false } }
    let s := if ref then
        let s := (s.setF TIME.STATUS.SOURCE 2).setF TIME.STATUS.HOLDOVER 1
        let s := { s with time := { s.time with holdover := ⟨s.now, none⟩ :: s.time.holdover } }
        (s.bumpF TIME.COUNTS.REF_LOSS 1).raise 16 (if s.time.refFreq then 1 else 0) 0 0 0
      else s.setF TIME.STATUS.SOURCE 0
    ((s.setF TIME.STATUS.SPLL_LOCK 1).showStage 7).startTraining
  else { s with dev := { s.dev with clockWait := true } }.showStage 6

/-- CRYSTAL_START: a clock source appears while LOAD waits at step 6, REFCLK or the crystal (R458). -/
def effCrystalStart (ref : Bool) (s : State) : State :=
  if s.mode == modeLoad && s.dev.clockWait && !s.dev.held then
    let t := if ref then { s.time with refOk := true } else { s.time with crystalOk := true }
    State.takeClock { s with time := t }
  else s

/-- Units of the LOAD self-test run (R383). -/
def State.bstTotal (s : State) : Nat :=
  if s.fld BST.CFG.LOAD_SEL = 1 then 83 else if s.fld BST.CFG.LOAD_SEL = 2 then 69 else 84

/-- The image has passed: registers, plans and schedule applied; sessions left open closed; monitor and window defaults; the clock
(Table 17-12 steps 4 to 6). -/
def State.takeImage (s : State) (im : Image) (monStart : Option Nat) (refAuto : Bool) (bar2 : Nat) : State :=
  let s := s.applyImage im
  let s := s.closeLeft.recallAddr.takeRole.nextBlock
  let log2 := if 30 ≤ bar2 ∧ bar2 ≤ 40 then bar2 else 36
  let s := { s with dev := { s.dev with imageOk := true }
                    mgt := { s.mgt with monStart := monStart, refAuto := refAuto }
                    host := { s.host with bar2Def := log2, bar2Log := log2 } }
  let s := if refAuto then s.setRefEn true else s
  let s := match monStart with
    | some d => if d < 16 then s.monStartDef d else s
    | none => s
  let s := (s.setF BST.STATUS.STATE 1).setF BST.PROGRESS.TOTAL s.bstTotal
  s.takeClock

/-- LOAD still runs from its slot: a trial that fails has reset the device instead (R365, R404). -/
def State.loading (s : State) : Bool := s.mode == modeLoad && s.dev.slot.isSome

/-- IMAGE_VERIFIED: Tsufen has read the image of the slot it runs from and judges it (R401, R404, Table 17-10). `monStart`,
`refAuto` and `bar2` are the image's MON_START, REF_AUTO and BAR2 default, which the spec gives no place in it; `patchReadBack` says
that the patch words read back as written, `fuses` what the hash fuses read back when an enrolment programs them. -/
def effImageVerified (monStart : Option Nat) (refAuto : Bool) (bar2 : Nat) (patchReadBack : Bool) (fuses : List Byte) (s : State) :
    State :=
  match s.dev.slot with
  | none => s
  | some k =>
    if s.mode != modeLoad || s.dev.held || s.dev.imageOk then s
    else match s.nv.slotHead k with
    | none => s.failSlot k 1
    | some h =>
      let cfg := s.nv.cfgObject k h
      let body := cfg.take (num cfg 12 4)
      let s := s.reads (s.nv.slotBase k + h.cfgOff) h.cfgLen
      let v := s.objectVerdict cfg (num cfg 12 4) 1 s.ownerKey
      if v ≠ 0 then (s.verifyFailed 1 v).failSlot k 3
      else match readImage body with
      | none => (s.verifyFailed 1 4).failSlot k 3
      | some im =>
        if (s.applyImage im).imageRules im.plans (setsInject im.secs) im.features = false then (s.verifyFailed 1 4).failSlot k 3
        else
        let s := s.showLoad (unitsOf (num cfg 12 4)) (unitsOf (num cfg 12 4))
        if im.serial ≠ List.replicate 16 0 ∧ im.serial ≠ padTo Config.serial 16 then s.failSlot k 4
        else
          let hits := s.manifestHits im.manifest
          let s := { s with dev := { s.dev with fwMatched := !hits.isEmpty } }
          if hits.isEmpty || s.refsOther im.refs then s.failSlot k 5
          else
            let s := s.setF DEV.MANIFEST.NENT im.manifest.length
            if bitsWithin64 im.features s.dev.features = false then s.enterSafe 9 false
            else
              let s := s.enrol fuses
              if s.loading = false then s
              else
                let obj := s.nv.read (s.nv.slotBase k + h.patchOff) h.patchLen
                let s := if h.patchLen = 0 then s else s.reads (s.nv.slotBase k + h.patchOff) h.patchLen
                let s := s.judgePatch obj im.refs hits patchReadBack
                if s.loading = false then s else s.takeImage im monStart refAuto bar2

/-! ### Steps 7 to 9: self-test and training (R248, R383, R384) -/

/-- LOAD waits for the self-test run and the training. -/
def State.testing (s : State) : Bool := s.mode == modeLoad && !s.dev.held && s.dev.imageOk && !s.dev.clockWait

/-- A channel is excluded (R248). -/
def State.excludeChan (s : State) (c : Nat) : State :=
  if s.fld (MEM.CH_STATE.STATE c) = 3 then s else (s.setF (MEM.CH_STATE.STATE c) 3).raise (139 + 4 * c) 3 0 0 0

/-- Partition `69 + c`, or 69 with the training sequencer, failed at LOAD: the channel is excluded (Table 16-4). -/
def State.partExcluded (s : State) (c : Nat) : Bool :=
  s.fld (BST.PART_STATE.OUTCOME (69 + c)) == 3 || s.fld (BST.PART_STATE.OUTCOME 69) == 3

/-- A channel's installed capacity passes 64 GiB (R247). -/
def State.truncated (s : State) : Bool := decide (68719476736 < s.liveRanks * s.rankBytes)

/-- The populated channels whose partition failed at LOAD are excluded, before they are trained (R248, Table 16-4). -/
def State.excludeFailed (s : State) : State :=
  ((List.range 12).filter fun c => s.populated c && s.partExcluded c).foldl State.excludeChan s

/-- Once both the training and the self-test run are over, the address map is fixed: the channels in service, n0, MAPG, the ceiling
(R247 to R251, R256). -/
def State.fixMap (s : State) : State :=
  if s.dev.trained && s.dev.tested then
    let ways := (List.range 12).filter fun c => s.fld (MEM.CH_STATE.STATE c) == 2
    let cap := s.capacity
    let mapg := cap - s.fld MEM.RESG.RESG
    let s := { s with mem := { s.mem with ways := ways, capg := cap } }
    let s := (s.setF MEM.STATUS.IN_SERVICE (ways.map fun c => 2 ^ c).sum).setF MEM.STATUS.N0 ways.length
    let s := (s.setF MEM.MAPG.MAPG mapg).setF MEM.CEIL.CEIL s.ceiling
    let s := s.setB MEM.RESG.SUFFICIENT (decide (mapg ≤ s.fld MEM.RESG.RESG * (ways.length - 1)) && decide (2 ≤ ways.length))
    let s := if s.truncated then ways.foldl (fun (s : State) c => s.raise 6 0 c 0 0) s else s
    s.showStage 9
  else s

/-- One populated channel after its training: in service, its failing rank replaced by the spare, or excluded (R248). -/
def State.trainChan (s : State) (rankFails : List (Nat × Nat)) (subFails : List Nat) (c : Nat) : State :=
  let bad := (List.range s.liveRanks).filter fun r => rankFails.contains (c, r)
  let spare := s.bit MEM.CFG.SPARE
  let spareBad := spare && rankFails.contains (c, s.spareRank)
  let useSpare : State → State := fun s => { s with mem := { s.mem with spareUsed := Tbl.set false s.mem.spareUsed c true } }
  let s := if spare then s.setRank c s.spareRank (if spareBad then 2 else 3) else s
  let s := if spareBad then useSpare s else s
  if s.fld (MEM.CH_STATE.STATE c) = 3 then s
  else if subFails.contains c || (s.sunit 68).st == 3 then s.excludeChan c
  else match bad with
  | [] => s.setF (MEM.CH_STATE.STATE c) 2
  | [r] =>
    if spare && !spareBad then
      let s := (s.setRank c r 2).setRank c s.spareRank 0
      let s := useSpare { s with mem := { s.mem with repl := Tbl.set 0 s.mem.repl (rankKey c r) (s.spareRank + 1) } }
      s.setF (MEM.CH_STATE.STATE c) 2
    else s.excludeChan c
  | _ => s.excludeChan c

/-- The LOAD run shows `pos` units finished (R383). -/
def State.showBst (s : State) (pos : Nat) : State :=
  (s.setF BST.PROGRESS.POS pos).setF BST.STATUS.PCT (100 * pos / s.fld BST.PROGRESS.TOTAL)

/-- The training has ended with its findings: every populated channel is judged (R248). -/
def State.takeTraining (s : State) (rankFails : List (Nat × Nat)) (subFails : List Nat) : State :=
  let s := ((List.range 12).filter s.populated).foldl (fun (s : State) c => s.trainChan rankFails subFails c) s
  let x := s.sunit 68
  let s := if x.st = 3 then s else s.setUnit 68 { x with st := 4 }
  { s with dev := { s.dev with trained := true, training := none } }

/-- DRAM_TRAINING_DONE: full training of every populated channel ends; `rankFails` are the ranks that failed, by channel and rank,
`subFails` the channels of which a subchannel failed (R248). The twelve partitions of step 2 of the LOAD run come before it (R383): where
their results are not in yet, what it found waits for them (log entry 113). -/
def effDramTrainingDone (rankFails : List (Nat × Nat)) (subFails : List Nat) (s : State) : State :=
  if s.testing && !s.dev.trained && s.dev.training.isNone then
    if s.dev.tested then (s.takeTraining rankFails subFails).fixMap
    else
      let s := if bitOf (s.fld BST.CFG.LOAD_SEL) 0 then s.showBst 12 else s
      { s with dev := { s.dev with training := some (rankFails, subFails) } }
  else s

/-- The parts of the LOAD run that follow the image, in order, as LOAD_SEL selects (R382). -/
def State.loadParts (s : State) : List (Nat × Nat) :=
  let logic := bitOf (s.fld BST.CFG.LOAD_SEL) 0
  let analogue := bitOf (s.fld BST.CFG.LOAD_SEL) 1
  (List.range 68).flatMap (fun p => (if logic then [(p, 0)] else []) ++ (if analogue then [(p, 1)] else []) ++
    (if logic then [(p, 2)] else [])) ++ (if logic then (List.range 15).map fun i => (68 + i, 0) else [])

/-- What a failing part removes until the next reset (Table 16-4). -/
def State.failPart (s : State) (p q : Nat) : State :=
  let out : State → State := fun s => s.setF (BST.PART_STATE.OUTCOME p) 3
  if p < 68 then
    if q = 2 then s.failUnit p
    else if s.isRetired p then s
    else
      let g := p / 17
      let rest := s.restPos g
      let was := s.fixed g
      let s := (s.setF (BST.PART_STATE.OUTCOME p) 1).retire p 2
      if was then s.setF (CNV.GROUP_STATUS.REST g) rest else s
  else if p = 68 then { out s with dev := { s.dev with plan68 := false } }
  else if p = 69 then (out s).withdrawUnit 68
  else if p < 81 then out s
  else if p = 81 then { out s with dev := { s.dev with outOk := false } }
  else { out s with dev := { s.dev with dispOk := false } }

/-- A part's result of the LOAD run: shown, and when it failed reported with a fault (R384). -/
def State.loadPart (s : State) (r : Nat × Nat × PartTest) : State :=
  let (p, q, test) := r
  let ok := s.partPasses p q test
  let s := ((s.noteSig p q test).setF (resField p q) (if ok then 1 else 2)).setF (BST.PART_STATE.AT_LOAD p) 1
  if ok then s else ((s.setF BST.STATUS.LOAD_FAIL 1).raise 248 q p 0 0).failPart p q

/-- A failing reference check: of inputs 24 to 27 it removes the group's monitor test; of 28, 29 and 31 it is reported by a
self-test fault, whose K and I the spec does not give (R381; log entry 2). -/
def State.failRef (s : State) (i : Nat) : State :=
  let s := s.setF BST.STATUS.REFCHK (withBit (s.fld BST.STATUS.REFCHK) i)
  if i < 4 then { s with bst := { s.bst with monOff := Tbl.set false s.bst.monOff i true } }
  else if i = 6 then s
  else
    let (k, s) := s.free
    let (n, s) := s.free
    s.raise 248 (k % 256) (n % 256) 0 0

/-- Lowest and highest corrected code that pass of the reference check of input 24 + i (Table 16-2). -/
def refRange (i : Nat) : Nat × Nat :=
  if i < 4 then (2036, 2060) else if i = 4 then (2007, 2089) else if i = 5 then (2040, 2056) else if i = 6 then (0, 8) else (1024, 3072)

/-- The reference check of input 24 + i passes with a raw conversion (R381). -/
def State.refPasses (s : State) (i raw : Nat) : Bool :=
  let c := s.monCorrected (24 + i) raw
  decide ((refRange i).1 ≤ c ∧ c ≤ (refRange i).2)

/-- A partition of a DRAM channel, which step 2 of the LOAD run tests before the training (Table 16-3). -/
def dramPart (r : Nat × Nat × PartTest) : Bool := decide (69 ≤ r.1) && decide (r.1 ≤ 80)

/-- The monitor test of the groups whose reference check fails is removed, so that the loop-back test alone decides theirs (R381). -/
def State.dropMonitor (s : State) (bad : List Nat) : State :=
  { s with bst := { s.bst with monOff := (bad.filter (· < 4)).foldl (fun t g => Tbl.set false t g true) s.bst.monOff } }

/-- LOAD_SELF_TEST_DONE: the LOAD run ends; `results` are what the tests of the parts selected gave, in order, `refs` the raw conversions
of the eight reference checks when ANALOGUE is selected (R379 to R384). Results are fixed after the checks, the DRAM partitions' before the
training; the run shows DONE when the lanes are bound (Table 16-3). -/
def effLoadSelfTestDone (results : List PartTest) (refs : List Nat) (s : State) : State :=
  let parts := s.loadParts
  let analogue := bitOf (s.fld BST.CFG.LOAD_SEL) 1
  let tests := List.zipWith (fun (pq : Nat × Nat) (r : PartTest) => (pq.1, pq.2, r)) parts results
  if s.testing && !s.dev.tested && results.length == parts.length && tests.all kindFits && (!analogue || refs.length == 8) then
    let bad := if analogue then (List.range 8).filter fun i => !s.refPasses i (refs.getD i 0) else []
    let s := s.dropMonitor bad
    let s := ((tests.filter dramPart).foldl State.loadPart s).excludeFailed
    let s := match s.dev.training with
      | some t => s.takeTraining t.1 t.2
      | none => s
    let s := bad.foldl State.failRef ((tests.filter fun r => !dramPart r).foldl State.loadPart s)
    let s := s.showBst (s.fld BST.PROGRESS.TOTAL - 1)
    State.fixMap { s with dev := { s.dev with tested := true } }
  else s

/-! ### Step 10: binding, short groups, the end of LOAD (R93, R318, R319, R418, R419) -/

/-- The lanes of a group are bound to its good units in ascending position; the first unit left over rests (R318). -/
def State.bindGroup (s : State) (g : Nat) : State :=
  let good := ((List.range 17).map fun m => 17 * g + m).filter fun u => (s.sunit u).st != 3
  let s := (List.zipWith (fun (l u : Nat) => (l, u)) ((List.range 16).map fun m => 16 * g + m) good).foldl
    (fun (s : State) (x : Nat × Nat) => s.bindLane x.1 x.2) s
  s.setB (CNV.GROUP_STATUS.SPARE_UNIT g) (decide (16 < good.length))

/-- The lead lane of a channel: of its bound lanes the one of the lowest slot (R319). -/
def State.setLead (s : State) (c : Nat) : State :=
  match (s.lanesOf c).find? fun l => (s.unitOf l).isSome with
  | some l => s.setF (SEQ.LANE_UNIT.LEAD l) 1
  | none => s

/-- A channel stops until the next reset, with the channel-stopped fault (R83, R419). -/
def State.stopAtLoad (s : State) (c kind : Nat) : State :=
  if s.chanStopped c then s
  else
    let s := { s with cnv := { s.cnv with stopped := Tbl.set false s.cnv.stopped c true } }
    s.raise 60 kind c 0 0

/-- A group is short: fewer than 16 unretired slices or bound lanes (R419). -/
def State.isShort (s : State) (g : Nat) : Bool :=
  decide (((List.range 17).filter fun m => !s.isRetired (17 * g + m)).length < 16) ||
    ((List.range 16).any fun m => (s.unitOf (16 * g + m)).isNone)

/-- The narrow inputs of a short group take their slices in ascending m; one left with none stops (R419). -/
def State.assignNarrow (s : State) (g : Nat) : State :=
  ((List.range 16).foldl (fun (x : List Nat × State) m =>
    let l := 16 * g + m
    let bound := (x.2.unitOf l).isSome
    match (if bound then [17 * g + m, 17 * g + m + 1].find? fun sl => !x.2.isRetired sl && !x.1.contains sl else none) with
    | some sl =>
      let cnv := { x.2.cnv with shortSlice := Tbl.set 0 x.2.cnv.shortSlice l (sl + 1) }
      (sl :: x.1, { x.2 with cnv := cnv })
    | none => if x.2.chanExists l then (x.1, x.2.stopAtLoad l (if bound then 1 else 2)) else x) ([], s)).2

/-- A short group is FIXED; in trunk mode its wide channel stops, in narrow mode its inputs take the slices left (R419). -/
def State.shorten (s : State) (g : Nat) : State :=
  if s.isShort g then
    let s := { s with cnv := { s.cnv with short := Tbl.set false s.cnv.short g true } }.setF (CNV.GROUP_STATUS.FIXED g) 1
    if s.trunk g then
      let unbound := (List.range 16).any fun m => (s.unitOf (16 * g + m)).isNone
      s.stopAtLoad (s.chanOf (16 * g)) (if unbound then 2 else 1)
    else s.assignNarrow g
  else s

/-- A live input at the pre-check: a trunk marks its wide channel, a narrow input only shows; the live-input notice (R93). -/
def State.markLive (s : State) (g : Nat) (narrow : Bool) : State :=
  let s := if narrow then s.setF (CAL.GROUP_RESULT.LIVE_NARROW g) 1
    else
      let c := s.chanOf (16 * g)
      ((s.setF (CAL.GROUP_RESULT.LIVE_TRUNK g) 1).setF (CAL.CHAN_STATE.LIVE c) 1).setF (CAL.CHAN_STATE.SUSPECT c) 1
  s.raise 61 (if narrow then 1 else 0) g 0 0

/-- Some input of group `g`, of the kind its mode uses, is above -30 dBFS (R93). -/
def State.groupLive (s : State) (inputs : List InputLevel) (g : Nat) : Bool :=
  inputs.any fun x => inputLive x && (if x.narrow then !s.trunk g && x.input / 16 == g else s.trunk g && x.input == g)

/-- CALIBRATE begins: the progress total is fixed, the inputs are checked (R87, R88, R93). -/
def State.startCalibrate (s : State) (inputs : List InputLevel) : State :=
  let s := { s with cal := { s.cal with calAt := s.now, results := [] } }
  let s := (s.setF CAL.STATUS.STATE 1).setF CAL.STATUS.STEP 1
  let s := (s.setF CAL.STATUS.ATTEMPT 1).setF CAL.PROGRESS.TOTAL s.calTotal
  ((List.range 4).filter (s.groupLive inputs)).foldl (fun (s : State) g => s.markLive g (!s.trunk g)) s

/-- LOAD_COMPLETE: lanes bound, the self-test run DONE, the service set judged, CALIBRATE entered (Table 17-12 step 10, R405). `inputs` is what the pre-check
that opens CALIBRATE measured of each input (R93). -/
def effLoadComplete (inputs : List InputLevel) (s : State) : State :=
  let ready := s.testing && s.dev.trained && s.dev.tested && s.library.all fun pl => !s.bit (ACQ.LIB_CFG.STALE pl.num)
  if ready then
    let s := (List.range 4).foldl State.bindGroup s
    let s := (s.setF BST.STATUS.STATE 2).showBst (s.fld BST.PROGRESS.TOTAL)
    let s := ((List.range 64).filter s.inLayout).foldl State.setLead s
    let s := (List.range 4).foldl State.shorten s
    let s := s.judgeService
    if s.testing = false then s
    else
      let s := s.setF DEV.TIMES.LOAD_MS (min 4095 ((s.now - s.dev.startAt) / 1000000))
      ((s.changeMode modeCalibrate 0).startCalibrate inputs).showStage 11
  else s

/-! ### Steps 11 and 12: the end of CALIBRATE (R87 to R96, R105) -/

/-- The items of power-up calibration that this layout runs, by step and item, in order (Table 04-2). -/
def State.calItems (s : State) : List (Nat × Nat) :=
  let trunks := (List.range 4).filter s.trunk
  let refs := trunks.filter fun g => s.chanOf (16 * g) != 16 * g
  (List.range 68).map (fun i => (2, i)) ++ (List.range 256).map (fun i => (3, i)) ++
    trunks.flatMap (fun g => (List.range 17).map fun m => (4, 17 * g + m)) ++ refs.map (fun g => (5, g)) ++
    trunks.flatMap fun g => (List.range 16).map fun m => (6, 16 * g + m)

/-- A slice that fails its loop-back check is marked (R91). -/
def State.markLoopback (s : State) (sl : Nat) : State := s.setF (CAL.SLICE_STATE.LB_FAIL sl) 1

/-- The results of a group (CAL.GROUP_RESULT). -/
def State.groupResult (s : State) (g : Nat) : State :=
  let good := ((List.range 17).filter fun m => !s.bit (CAL.SLICE_STATE.SUSPECT (17 * g + m))).length
  let susp := ((List.range 64).filter fun p => Tbl.get false s.cal.phaseSusp (64 * g + p)).length
  (s.setF (CAL.GROUP_RESULT.GOOD g) good).setF (CAL.GROUP_RESULT.PHASE_SUSP g) susp

/-- The items adopted and finished, with how many of them needed a further attempt and how many were marked. -/
def State.adoptAll (s : State) (items : List CalMeasure) : Nat × Nat × State :=
  items.foldl (fun (x : Nat × Nat × State) (m : CalMeasure) =>
    let r := x.2.2.adoptItem m
    (x.1 + (if retried m.1 m.2.2 then 1 else 0), x.2.1 + (if r.1 then 1 else 0), r.2.finishItem)) (0, 0, s)

/-- The progress units of step 1, of step 7 and of step 8 finish. -/
def State.finishUnits (s : State) (n : Nat) : State := (List.range n).foldl (fun (s : State) _ => s.finishItem) s

/-- The measurements are those of every item in order, each one decided, and the loop-back checks those of every slice. -/
def State.calComplete (s : State) (items : List CalMeasure) (loopback : List (List LoopBack)) : Bool :=
  (items.map fun m => (m.1, m.2.1)) == s.calItems && items.all s.settled && loopback.length == 68 &&
    loopback.all fun l => (loopOutcome l).isSome

/-- CALIBRATE_COMPLETE: step 8 ends; `items` are the measurements of every item in order, `loopback` the attempts at each slice's
loop-back check (R87 to R96). -/
def effCalibrateComplete (items : List CalMeasure) (loopback : List (List LoopBack)) (s : State) : State :=
  if s.mode == modeCalibrate && !s.dev.held && s.calComplete items loopback then
    let (again, marked, s) := ((s.setF CAL.PROGRESS.POS 0).finishItem.noteItem 1 0 0 true []).adoptAll items
    let failed := (List.range 68).filter fun sl => (loopback[sl]?).bind loopOutcome == some false
    let s := (List.range 68).foldl (fun (s : State) sl => s.noteItem 7 sl 0 (!failed.contains sl) []) (s.finishUnits 68)
    let s := failed.foldl State.markLoopback s
    let s := (List.range 64).foldl State.markChan ((List.range 68).foldl State.markSlice s)
    let s := (List.range 4).foldl State.groupResult s
    let suspects := min 255 (marked + failed.length)
    let outcome := if suspects = 0 then 1 else 2
    let s := (s.setF CAL.RUN_RESULT.DURATION (min 4095 ((s.now - s.cal.calAt) / 1000000))).setF CAL.RUN_RESULT.RETRIES (min 255 again)
    let s := (s.setF CAL.RUN_RESULT.SUSPECT suspects).setF CAL.RUN_RESULT.OUTCOME outcome
    let s := (s.finishItem.setF CAL.STATUS.STATE 2).clearFs [CAL.STATUS.STEP, CAL.STATUS.ATTEMPT]
    let s := (s.calSnap.noteItem 8 0 0 true []).storePowerUp
    let s := if outcome = 2 then s.raise 63 0 0 suspects 0 else s
    ((s.showStage 12).changeMode modeReady 1).readyEntry false
  else s

def execFirmwareVerified (misr : Nat) (s : State) : Res := .next (effFirmwareVerified misr s)
def execImageVerified (monStart : Option Nat) (refAuto : Bool) (bar2 : Nat) (patchReadBack : Bool) (fuses : List Byte) (s : State) :
    Res := .next (effImageVerified monStart refAuto bar2 patchReadBack fuses s)
def execCrystalStart (ref : Bool) (s : State) : Res := .next (effCrystalStart ref s)
def execDramTrainingDone (rankFails : List (Nat × Nat)) (subFails : List Nat) (s : State) : Res :=
  .next (effDramTrainingDone rankFails subFails s)
def execLoadSelfTestDone (results : List PartTest) (refs : List Nat) (s : State) : Res :=
  .next (effLoadSelfTestDone results refs s)
def execLoadComplete (inputs : List InputLevel) (s : State) : Res := .next (effLoadComplete inputs s)
def execCalibrateComplete (items : List CalMeasure) (loopback : List (List LoopBack)) (s : State) : Res :=
  .next (effCalibrateComplete items loopback s)

end Sys2Proof.Machine
end

