-- ==== Sys2Proof/Machine/Mailbox.lean ====
section
/-!
DEFINITION. The mailbox: channels, requests and responses, the commands of Table 14-2, the update path and the trust queries
(R341 to R343, R354, R365 to R367, R371, R374, R375). Payload layouts the spec does not give are log entry 18.
-/

namespace Sys2Proof.Machine

/-! ### Channels -/

/-- Opcode, tag and payload of a message (R341). -/
def MbxReq.op (r : MbxReq) : Nat := num r.msg 0 2
def MbxReq.tag (r : MbxReq) : Nat := num r.msg 2 2
def MbxReq.len (r : MbxReq) : Nat := num r.msg 4 2
def MbxReq.body (r : MbxReq) : List Byte := slice r.msg 8 r.len

/-- The opcodes of Tables 14-2, 15-6 and 15-8. -/
def knownOps : List Nat :=
  [0x01, 0x02, 0x03, 0x10, 0x11, 0x12, 0x13, 0x20, 0x30, 0x31, 0x32, 0x33, 0x34, 0x35, 0x36, 0x37, 0x60, 0x61, 0x62, 0x63, 0x64]

/-- A response message: the request's opcode and tag, LENGTH, STATUS, payload (R341). -/
def MbxReq.answer (r : MbxReq) (status : Nat) (payload : List Byte) : List Byte :=
  le 2 r.op ++ le 2 r.tag ++ le 2 payload.length ++ le 2 status ++ payload

/-- A UART frame (R342). -/
def uartFrame (msg : List Byte) : List Byte := le 1 0xA5 ++ le 1 0x5A ++ msg ++ le 2 (crc16 msg)

/-- A response delivered: over PCIe into MBX_RSP with DONE and the mailbox-complete notice, unless a function-level reset
discards it; over the UART as a frame (R342, R432). -/
def State.respond (s : State) (r : MbxReq) (status : Nat) (payload : List Byte) : State :=
  let msg := r.answer status payload
  if r.chan = 0 then
    if r.void then s
    else
      let s := s.writeDwords MGT.MBX_RSP.DATA (padTo msg 256) 64
      let s := (s.setF MGT.MBX_STATUS.BUSY 0).setF MGT.MBX_STATUS.DONE 1
      s.raise 236 0 0 0 0
  else s.emit (.uart (uartFrame msg))

/-- A request can be served: one over the UART not in the cycle of its arrival, in which one over PCIe may still go before it (R356). -/
def State.ripe (s : State) (r : MbxReq) : Bool := r.chan == 0 || decide (r.at_ < s.now)

/-- Requests with an opcode not listed, or a LENGTH beyond 248, at the head of the queue are answered UNKNOWN_OP or BAD_LENGTH
(R341, R343). -/
def State.flushBad (s : State) : Nat → State
  | 0 => s
  | n + 1 =>
    match s.mgt.reqs with
    | [] => s
    | r :: rest =>
      if s.ripe r = false then s
      else if 248 < r.len then State.flushBad ({ s with mgt := { s.mgt with reqs := rest } }.respond r 2 []) n
      else if knownOps.contains r.op then s
      else State.flushBad ({ s with mgt := { s.mgt with reqs := rest } }.respond r 1 []) n

/-- The mailbox is served: the boot ROM or Tsufen runs (R339, R342). -/
def State.mbxServed (s : State) : Bool := !s.dev.held && decide (s.fld MGT.STATUS.FW_STATE ≠ 0)

/-- The requests at the head of the queue that need no command are answered. -/
def State.flushReqs (s : State) : State := if s.mbxServed then s.flushBad s.mgt.reqs.length else s

/-- A request joins the queue in order of arrival; one over PCIe goes before a UART request of the same cycle (R342, R356). -/
def State.submitMbx (s : State) (r : MbxReq) : State :=
  let r := { r with at_ := s.now }
  let later : MbxReq → Bool := fun x => decide (r.chan = 0 ∧ x.chan = 1 ∧ x.at_ = s.now)
  let reqs := s.mgt.reqs.filter (fun x => !later x) ++ r :: s.mgt.reqs.filter later
  State.flushReqs { s with mgt := { s.mgt with reqs := reqs } }

/-- Dwords of MBX_REQ as bytes. -/
def State.mbxBytes (s : State) : List Byte := (List.range 64).flatMap fun i => le 4 (s.fld (MGT.MBX_REQ.DATA i))

/-- A write of MBX_DOORBELL submits the PCIe request, or is refused while BUSY (R342). -/
def effMbxDoorbell (s : State) : State :=
  if s.served 0xE0084 then
    if s.bit MGT.MBX_STATUS.BUSY then s.bumpF MGT.MBX_STATUS.REFUSED 1
    else (s.setF MGT.MBX_STATUS.BUSY 1).submitMbx { chan := 0, msg := s.mbxBytes }
  else s

/-- A whole UART frame is received: a bad CRC or LENGTH discards it; while a UART request is outstanding it is answered BUSY
(R342). -/
def effUartFrame (bs : List Byte) (s : State) : State :=
  let msg := slice bs 2 (8 + num bs 6 2)
  let good := num bs 0 1 == 0xA5 && num bs 1 1 == 0x5A && decide (num bs 6 2 ≤ 248) &&
    decide (bs.length = 12 + num bs 6 2) && num bs (10 + num bs 6 2) 2 == crc16 msg
  if s.dev.held then s
  else if !good then s.bumpF MGT.MBX_STATUS.UART_ERR 1
  else
    let r : MbxReq := { chan := 1, msg := msg }
    if s.mgt.reqs.any fun x => x.chan == 1 then s.emit (.uart (uartFrame (r.answer 4 []))) else s.submitMbx r

/-- A gap of more than 10 ms discards a partial frame (R342). -/
def effUartGapTimeout (s : State) : State := if s.dev.held then s else s.bumpF MGT.MBX_STATUS.UART_ERR 1

/-- What a command answers: STATUS, payload and the state after it. -/
abbrev Answer := Nat × List Byte × State

/-- The oldest request is served when it carries the opcode: its payload must have the length, its mode must allow it (R342,
R343). -/
def State.serve (s : State) (op : Nat) (lenOk : Nat → Bool) (allowed : Bool) (f : MbxReq → State → Answer) : State :=
  let s := s.flushReqs
  match s.mgt.reqs with
  | [] => s
  | r :: rest =>
    if r.op = op ∧ s.mbxServed = true ∧ s.ripe r = true then
      let s := { s with mgt := { s.mgt with reqs := rest } }
      let a : Answer := if !lenOk r.len then (2, [], s) else if !allowed then (3, [], s) else f r s
      (a.2.2.respond r a.1 a.2.1).flushReqs
    else s

/-! ### Identity, state, log, monitor -/

/-- GET_IDENTITY (Table 14-2). -/
def effGetIdentity (s : State) : State :=
  s.serve 0x01 (· == 0) true fun _ s =>
    (0, padTo Config.serial 16 ++ le 1 (s.fld DEV.ID.ORDER) ++ le 1 (s.fld DEV.ID.STEPPING) ++ le 2 (s.fld SEQ.VERSION.ROM_VERSION) ++
      le 2 Config.bootRomVersion ++ le 2 (s.fld MGT.FW_VERSION.MINOR) ++ le 2 (s.fld MGT.FW_VERSION.MAJOR) ++
      le 1 (s.fld MGT.STATUS.FW_SLOT), s)

/-- GET_STATE: mode, FW_STATE, the latched sources as 32 bytes (Table 14-2, R392). -/
def effGetState (s : State) : State :=
  s.serve 0x02 (· == 0) true fun _ s =>
    (0, le 1 s.mode ++ le 1 (s.fld MGT.STATUS.FW_STATE) ++ (List.range 8).flatMap (fun i => le 4 (s.fld (EVT.STATUS.STATUS i))), s)

/-- The STATUS of a mode request's RESULT: accepted, not in mode, BUSY, bad key, invalid target, update session open, wake tick
past (log entry 18). -/
def modeStatus (result : Nat) : Nat :=
  if result = 0 then 0 else if result = 1 then 3 else if result = 2 then 4 else if result = 5 then 4 else 5

/-- MODE_REQUEST acts as the same request through the DEV block (R343, R407); a reset follows its response. -/
def effModeRequest (s : State) : State :=
  State.finishReset (s.serve 0x03 (· == 1) true fun r s =>
    let target := num r.body 0 1
    if s.mode = modeSafe ∧ target ≠ 3 then (3, [], s)
    else
      let (res, s) := s.requestMode target 0x5AFE
      (modeStatus res, [], s))

/-- LOG_INFO: OLDEST, NEWEST, DROPPED, newest seal number (Table 14-2). A seal number while there is no seal is a free value. -/
def effLogInfo (s : State) : State :=
  s.serve 0x10 (· == 0) true fun _ s =>
    let n := s.nv.nextSeq / 256
    let (fv, s) := if n = 0 then s.free else (n - 1, s)
    (0, le 6 s.logOldest ++ le 6 (s.nv.nextSeq - 1) ++ le 4 (s.fld MGT.LOG_STATUS.DROPPED) ++ le 4 fv, s)

/-- LOG_READ: a multi-entry read of 1 to 7 entries (R354); GONE reports the oldest entry held. -/
def effLogRead (s : State) : State :=
  s.serve 0x11 (· == 7) true fun r s =>
    let c := num r.body 6 1
    if c = 0 ∨ 7 < c then (5, [], s)
    else
      let (res, es, s) := s.logRead (num r.body 0 6) c
      if res = 2 then (6, le 6 s.logOldest, s) else (0, es.flatMap LogEntry.bytes, s)

/-- LOG_SEAL: a seal record; one not yet written is out of RANGE, one overwritten is GONE (R352). -/
def effLogSeal (s : State) : State :=
  s.serve 0x12 (· == 4) true fun r s =>
    let k := num r.body 0 4
    match s.nv.seals.find? fun e => e.1 == k with
    | some e => (0, e.2.bytes, s)
    | none => (if s.nv.nextSeq / 256 ≤ k then 5 else 6, [], s)

/-- The calibration history, 2.5 MiB written circularly, still holds record `n`: it and those after it fit (R350, Table 14-5). -/
def NvSt.calHeld (nv : NvSt) (n : Nat) : Bool :=
  decide (((List.range (nv.calRecords - n)).map fun i => (Config.calRecord (n + i)).length).sum ≤ 2621440)

/-- CAL_READ: up to 240 bytes of a calibration history record (Table 14-2); one not yet written is out of RANGE, one overwritten is GONE
(log entry 19); not in SAFE. -/
def effCalRead (s : State) : State :=
  s.serve 0x13 (· == 8) (s.mode != modeSafe) fun r s =>
    let n := num r.body 0 4
    if s.nv.calRecords ≤ n then (5, [], s)
    else if s.nv.calHeld n then (0, slice (Config.calRecord n) (num r.body 4 4) 240, s) else (6, [], s)

/-- A register word made of fields. -/
def State.word (s : State) (fs : FoundReg) : Nat :=
  (fs.map fun e => s.fld e.2 * 2 ^ (e.2.addr % 32)).sum

/-- MON_READ: monitor result words (Table 14-2); not in SAFE. -/
def effMonRead (s : State) : State :=
  s.serve 0x20 (· == 2) (s.mode != modeSafe) fun r s =>
    let n := num r.body 0 1
    let c := num r.body 1 1
    if c = 0 ∨ 40 < n + c then (5, [], s)
    else (0, (List.range c).flatMap (fun i => le 4 (s.word ((findReg (0xE0400 + 4 * (n + i))).getD []))), s)

/-! ### Update path (R365 to R367) -/

/-- The last update result is kept for UPD_STATUS. -/
def Answer.note (a : Answer) : Answer :=
  (a.1, a.2.1, { a.2.2 with mgt := { a.2.2.mgt with updResult := a.1 } })

/-- An update command: FAILED without a configuration flash (Table 18-4); BUSY from the channel that does not own the open session
(R342). -/
def State.serveUpd (s : State) (op : Nat) (lenOk : Nat → Bool) (allowed : Bool) (f : MbxReq → State → Answer) : State :=
  s.serve op lenOk allowed fun r s =>
    if s.nv.flashMiB = 0 then (8, [], s)
    else match s.mgt.upd with
    | some u => if u.chan ≠ r.chan then (4, [], s) else (f r s).note
    | none => (f r s).note

/-- UPD_BEGIN opens a session on a slot, which becomes WRITING; DENIED on a PENDING, TRIAL or COMMITTED slot, and on an unrecorded
slot that has been booted; TOTAL is fixed (R365, R367). -/
def effUpdBegin (s : State) : State :=
  s.serveUpd 0x30 (· == 5) true fun r s =>
    let slot := num r.body 0 1
    let total := num r.body 1 4
    let st := s.nv.shown slot
    if s.mgt.upd.isSome then (4, [], s)
    else if 1 < slot ∨ total = 0 ∨ total % 4096 ≠ 0 ∨ s.nv.slotSize < total then (5, [], s)
    else if st = 3 ∨ st = 4 ∨ st = 5 ∨ (s.nv.recorded = false ∧ s.dev.slot = some slot) then (7, [], s)
    else
      let s := s.writeCtl (s.nv.ctlOr.setState slot 1)
      let s := { s with mgt := { s.mgt with upd := some { chan := r.chan, slot := slot, total := total, pos := 0, filling := [], owed := false, fromDram := none } } }
      let s := (s.setF MGT.UPD_PROG.POS 0).setF MGT.UPD_PROG.TOTAL (total / 4096)
      (0, [], s.setF MGT.PROG_PCT.UPD 0)

/-- The bytes of unit `u.pos` received so far, by their offset in the slot. -/
def UpdSt.inUnit (u : UpdSt) : Tbl Byte := u.filling.filter fun e => e.1 / 4096 == u.pos

/-- Every byte of the unit has been received. -/
def UpdSt.full (u : UpdSt) : Bool := u.inUnit.length == 4096

/-- Bytes received from an offset of the slot, over any received before. -/
def UpdSt.take (u : UpdSt) (off : Nat) (bs : List Byte) : UpdSt :=
  { u with filling := (bs.zipIdx off).foldl (fun t x => Tbl.insert x.2 x.1 (Tbl.erase t x.2)) u.filling }

/-- Bytes `off` to `off + n - 1` of an UPD_WRITE skip no unit and return to none: they lie in the unit in progress, or reach into the next
one where they complete it (R367). -/
def UpdSt.accepts (u : UpdSt) (off : Nat) (bs : List Byte) : Bool :=
  off / 4096 == u.pos && decide (off + bs.length ≤ u.total) && (off + bs.length ≤ 4096 * (u.pos + 1) || (u.take off bs).full)

/-- The UPD_WRITE at the head of the queue completes its unit: the session with the unit filled, its answer owed (Table 15-6). -/
def State.completing (s : State) : Option UpdSt :=
  match s.mgt.reqs, s.mgt.upd with
  | r :: _, some u =>
    let off := num r.body 0 4
    let bs := r.body.drop 4
    if r.op = 0x31 ∧ s.mbxServed = true ∧ s.ripe r = true ∧ 20 ≤ r.len ∧ r.len ≤ 244 ∧ s.nv.flashMiB ≠ 0 ∧ r.chan = u.chan ∧
        u.fromDram = none ∧ u.accepts off bs = true ∧ (u.take off bs).full = true then
      some { u.take off bs with owed := true }
    else none
  | _, _ => none

/-- The answer of an UPD_WRITE is owed. -/
def State.owing (s : State) : Bool :=
  match s.mgt.upd with
  | some u => u.owed
  | none => false

/-- UPD_WRITE: 16 to 240 bytes at an offset of the slot; RANGE where they skip a unit or return to an earlier one (R367). One that
completes a 4 KiB unit stays at the head of the queue until UPD_UNIT_WRITTEN answers it (Table 15-6). -/
def effUpdWrite (s : State) : State :=
  let s := s.flushReqs
  if s.owing then s
  else match s.completing with
  | some u => { s with mgt := { s.mgt with upd := some u } }
  | none => s.serveUpd 0x31 (fun l => decide (20 ≤ l) && decide (l ≤ 244)) true fun r s =>
    match s.mgt.upd with
    | none => (7, [], s)
    | some u =>
      if u.fromDram.isSome then (4, [], s)
      else if u.accepts (num r.body 0 4) (r.body.drop 4) then
        (0, [], { s with mgt := { s.mgt with upd := some (u.take (num r.body 0 4) (r.body.drop 4)) } })
      else (5, [], s)

/-- UPD_WRITE_DRAM starts writing units from device DRAM; in READY and ACQUIRE only (R367). -/
def effUpdWriteDram (s : State) : State :=
  s.serveUpd 0x32 (· == 16) s.running fun r s =>
    match s.mgt.upd with
    | none => (7, [], s)
    | some u =>
      let off := num r.body 8 4
      let len := num r.body 12 4
      if u.fromDram.isSome then (4, [], s)
      else if len = 0 ∨ len % 4096 ≠ 0 ∨ off ≠ 4096 * u.pos ∨ u.filling ≠ [] ∨ u.total < off + len then (5, [], s)
      else (0, [], { s with mgt := { s.mgt with upd := some { u with fromDram := some (num r.body 0 8, len / 4096) } } })

/-- The update request at the head of the queue, whose answer was owed, is answered. -/
def State.answerHead (s : State) (status : Nat) : State :=
  match s.mgt.reqs with
  | r :: rest => (State.respond { s with mgt := { s.mgt with reqs := rest, updResult := status } } r status []).flushReqs
  | [] => s

/-- A unit of the slot erased and programmed (R367, Table 17-4). -/
def State.programUnit (s : State) (addr : Nat) (bs : List Byte) : State :=
  ({ s with nv := (s.nv.erase addr).program addr bs }.flashOp 0x20 addr 4096).pages addr 16

/-- A 4 KiB unit has been erased, programmed and read back (R367): UPD_PROG advances; a unit that does not read back ends with FAILED.
The UPD_WRITE that completed it is answered so. -/
def effUpdUnitWritten (readBack : Bool) (s : State) : State :=
  match s.mgt.upd with
  | none => s
  | some u =>
    let src : Option (List Byte × Option (Nat × Nat) × State) :=
      match u.fromDram with
      | some (a, n + 1) =>
        let x := s.dramRead reqMgt a 4096
        if s.rangeWaits reqMgt a 4096 then none else some (x.1, if n = 0 then none else some (a + 4096, n), x.2.2)
      | some (_, 0) => none
      | none => if u.owed then some (u.inUnit.map Prod.snd, none, s) else none
    match src with
    | none => s
    | some (bs, rest, s) =>
      let addr := s.nv.slotBase u.slot + 4096 * u.pos
      let s := (s.programUnit addr bs).reads addr 4096
      let kept := u.filling.filter fun e => e.1 / 4096 != u.pos
      let s := if readBack then
          let s := { s with mgt := { s.mgt with upd := some { u with pos := u.pos + 1, filling := kept, owed := false, fromDram := rest } } }
          (s.setF MGT.UPD_PROG.POS (u.pos + 1)).setF MGT.PROG_PCT.UPD (100 * (u.pos + 1) / (u.total / 4096))
        else { s with mgt := { s.mgt with upd := some { u with filling := kept, owed := false, fromDram := none }, updResult := 8 } }
      if u.owed then s.answerHead (if readBack then 0 else 8) else s

/-- UPD_VERIFY reads the slot back and applies R361 and R362: VERIFIED, or EMPTY with FAILED; the session ends (R365). -/
def effUpdVerify (s : State) : State :=
  s.serveUpd 0x33 (· == 0) true fun _ s =>
    match s.mgt.upd with
    | none => (7, [], s)
    | some u =>
      let v := if 4096 * u.pos = u.total then s.slotVerdict u.slot else 4
      let s := State.reads { s with mgt := { s.mgt with upd := none } } (s.nv.slotBase u.slot) (4096 * u.pos)
      let s := s.writeCtl (s.nv.ctlOr.setState u.slot (if v = 0 then 2 else 0))
      if v = 0 then (0, [], s) else (8, [], s.verifyFailed 5 v)

/-- UPD_ACTIVATE makes a VERIFIED slot PENDING; not in SAFE or DORMANT (R365, R367). -/
def effUpdActivate (s : State) : State :=
  s.serveUpd 0x34 (· == 1) (s.mode != modeSafe && s.mode != modeDormant) fun r s =>
    let slot := num r.body 0 1
    if 1 < slot then (5, [], s)
    else if s.nv.ctlOr.state slot ≠ 2 then (7, [], s)
    else (0, [], s.writeCtl (s.nv.ctlOr.setState slot 3))

/-- The TRIAL slot of a record. -/
def CtlRec.trial (r : CtlRec) : Option Nat := if r.stateA = 4 then some 0 else if r.stateB = 4 then some 1 else none

/-- The TRIAL slot is COMMITTED and a COMMITTED other one becomes VERIFIED (R365). -/
def State.commitTrial (s : State) (slot : Nat) : State :=
  let c := s.nv.ctlOr.setState slot 5
  s.writeCtl (if s.nv.ctlOr.state (1 - slot) = 5 then c.setState (1 - slot) 2 else c)

/-- The count that committing a slot advances the anti-rollback counter to: its smallest owner SVN, at most 64 (R366). -/
def NvSt.newCount (nv : NvSt) (slot : Nat) : Nat := min 64 (nv.slotSvn slot)

/-- One anti-rollback fuse is blown (R366). -/
def State.blowFuse (s : State) : State :=
  State.setF { s with nv := { s.nv with rbCount := s.nv.rbCount + 1 } } SEC.STATUS.RB_COUNT (s.nv.rbCount + 1)

/-- The anti-rollback counter has advanced from `old`: the TRUST ROLLBACK entry and the rollback-advance notice (R366). -/
def State.reportRollback (s : State) (old : Nat) : State :=
  ((s.stageTrust (le 1 4 ++ le 1 old ++ le 1 s.nv.rbCount ++ le 5 0)).2).raise 243 0 s.nv.rbCount 0 0

/-- Cycles that one anti-rollback fuse takes (Table 15-6). -/
def fuseTime : Nat := 2000 * cyclesPerUs

/-- The fuses of an UPD_COMMIT in progress: one each 2 ms; after the last the slot is COMMITTED, the advance reported and the request, still at
the head of the queue, answered (R365, R366, Table 15-6). -/
def State.burnFuses (s : State) : State :=
  match s.mgt.burn, s.nv.ctlOr.trial with
  | some (old, new, t), some slot =>
    if s.now < t then s
    else
      let s := s.blowFuse
      if s.nv.rbCount < new then { s with mgt := { s.mgt with burn := some (old, new, t + fuseTime) } }
      else ((State.commitTrial { s with mgt := { s.mgt with burn := none } } slot).reportRollback old).answerHead 0
  | _, _ => s

/-- An UPD_COMMIT in the mailbox can commit: the oldest request, in a mode and from a channel that may. -/
def State.mayCommit (s : State) (r : MbxReq) : Bool :=
  r.op == 0x35 && s.mbxServed && s.ripe r && r.len == 0 && s.nv.flashMiB != 0 && s.mode != modeSafe && s.mode != modeDormant &&
    match s.mgt.upd with
    | some u => u.chan == r.chan
    | none => true

/-- UPD_COMMIT commits the TRIAL slot, makes the other one VERIFIED and advances the counter (R365, R366); with fuses to blow it does so after
the last of them and stays at the head of the queue until then (R376). -/
def effUpdCommit (s : State) : State :=
  let s := s.flushReqs
  match s.mgt.reqs, s.nv.ctlOr.trial with
  | r :: _, some slot =>
    if s.mayCommit r && decide (s.nv.rbCount < s.nv.newCount slot) then
      if s.mgt.burn.isSome then s
      else { s with mgt := { s.mgt with burn := some (s.nv.rbCount, s.nv.newCount slot, s.now + fuseTime) } }
    else s.serveUpd 0x35 (· == 0) (s.mode != modeSafe && s.mode != modeDormant) fun _ s => (0, [], s.commitTrial slot)
  | _, _ => s.serveUpd 0x35 (· == 0) (s.mode != modeSafe && s.mode != modeDormant) fun _ s => (7, [], s)

/-- UPD_ABORT ends the session and leaves the slot EMPTY (R365). -/
def effUpdAbort (s : State) : State :=
  s.serveUpd 0x36 (· == 0) true fun _ s =>
    match s.mgt.upd with
    | none => (7, [], s)
    | some u =>
      let s := { s with mgt := { s.mgt with upd := none } }
      (0, [], s.writeCtl (s.nv.ctlOr.setState u.slot 0))

/-- UPD_STATUS: slot states, POS, TOTAL, last result (Table 15-6). -/
def effUpdStatus (s : State) : State :=
  s.serve 0x37 (· == 0) true fun r s =>
    if s.nv.flashMiB = 0 then (8, [], s)
    else if (match s.mgt.upd with
        | some u => u.chan != r.chan
        | none => false) then (4, [], s)
    else (0, le 1 (s.nv.shown 0) ++ le 1 (s.nv.shown 1) ++ le 4 (s.fld MGT.UPD_PROG.POS) ++ le 4 (s.fld MGT.UPD_PROG.TOTAL) ++
      le 1 s.mgt.updResult, s)

/-! ### Trust queries (R375) -/

/-- GET_CERT: up to 240 bytes of the identity certificate from an offset. -/
def effGetCert (s : State) : State :=
  s.serve 0x60 (· == 2) true fun r s =>
    if 272 ≤ num r.body 0 2 then (5, [], s) else (0, slice certificate (num r.body 0 2) 240, s)

/-- The owner hash as 48 bytes, zero while no fuse is blown. -/
def NvSt.ownerBytes (nv : NvSt) : List Byte := padTo nv.ownerHash 48

/-- GET_ANCHORS: OWNER state, OWNER_HASH, RB_COUNT, Catraeno root hash. -/
def effGetAnchors (s : State) : State :=
  s.serve 0x61 (· == 0) true fun _ s =>
    (0, le 1 (s.fld SEC.STATUS.OWNER) ++ s.nv.ownerBytes ++ le 1 s.nv.rbCount ++ Config.rootHash, s)

/-- SESSION_INFO: session ID, state, n, r, last checkpoint n of a slot. -/
def effSessionInfo (s : State) : State :=
  s.serve 0x62 (· == 1) true fun r s =>
    let k := num r.body 0 1
    if 7 < k then (5, [], s)
    else match Tbl.get [] s.sec.current k with
      | [] => (0, le 6 0 ++ le 1 0 ++ le 4 0 ++ le 4 0 ++ le 4 0, s)
      | x :: _ => (0, le 6 x.id ++ le 1 (s.fld (SEC.SESS_STATE.STATE k)) ++ le 4 x.n ++ le 4 x.r ++ le 4 x.checked, s)

/-- The log padded with filler DROPPED entries to the next seal boundary, and committed, so that the seal is written at once
(R371). -/
def State.sealNow (s : State) : State :=
  let into := s.nextStaged % 256
  (if into = 0 then s else s.stageFiller (256 - into)).commitAll

/-- SEAL_NOW: the answer is the seal number that covers the newest entry. -/
def effSealNow (s : State) : State :=
  s.serve 0x63 (· == 0) true fun _ s =>
    let k := (s.nextStaged - 1) / 256
    (0, le 4 k, s.sealNow)

/-- SEC.CMD.SEAL_NOW (R371). -/
def effSecCmdSealNow (s : State) : State := if s.served 0xF0004 then s.sealNow else s

/-- The unit's state that an attestation signs (R374). -/
def State.attestBody (s : State) : List Byte :=
  padTo Config.serial 16 ++ le 1 s.nv.rbCount ++ s.nv.ownerBytes ++ le 2 (s.fld MGT.FW_VERSION.MINOR) ++ le 2 (s.fld MGT.FW_VERSION.MAJOR) ++
    le 2 (s.fld SEQ.VERSION.ROM_VERSION) ++ le 2 (s.fld SEQ.VERSION.PATCH_VERSION) ++ le 4 (s.fld SEQ.DIGEST_LO.DIGEST) ++
    le 4 (s.fld SEQ.DIGEST_HI.DIGEST)

/-- ATTEST: a signature over the 48-byte nonce and the unit's state, with those values (R374). -/
def effAttest (s : State) : State :=
  s.serve 0x64 (· == 48) true fun r s => (0, Config.signId (r.body ++ s.attestBody) ++ s.attestBody, s)

def execMbxDoorbell (s : State) : Res := .next (effMbxDoorbell s)
def execUartFrame (bs : List Byte) (s : State) : Res := .next (effUartFrame bs s)
def execUartGapTimeout (s : State) : Res := .next (effUartGapTimeout s)
def execGetIdentity (s : State) : Res := .next (effGetIdentity s)
def execGetState (s : State) : Res := .next (effGetState s)
def execModeRequest (s : State) : Res := .next (effModeRequest s)
def execLogInfo (s : State) : Res := .next (effLogInfo s)
def execLogRead (s : State) : Res := .next (effLogRead s)
def execLogSeal (s : State) : Res := .next (effLogSeal s)
def execCalRead (s : State) : Res := .next (effCalRead s)
def execMonRead (s : State) : Res := .next (effMonRead s)
def execUpdBegin (s : State) : Res := .next (effUpdBegin s)
def execUpdWrite (s : State) : Res := .next (effUpdWrite s)
def execUpdWriteDram (s : State) : Res := .next (effUpdWriteDram s)
def execUpdUnitWritten (readBack : Bool) (s : State) : Res := .next (effUpdUnitWritten readBack s)
def execUpdVerify (s : State) : Res := .next (effUpdVerify s)
def execUpdActivate (s : State) : Res := .next (effUpdActivate s)
def execUpdCommit (s : State) : Res := .next (effUpdCommit s)
def execUpdAbort (s : State) : Res := .next (effUpdAbort s)
def execUpdStatus (s : State) : Res := .next (effUpdStatus s)
def execGetCert (s : State) : Res := .next (effGetCert s)
def execGetAnchors (s : State) : Res := .next (effGetAnchors s)
def execSessionInfo (s : State) : Res := .next (effSessionInfo s)
def execSealNow (s : State) : Res := .next (effSealNow s)
def execSecCmdSealNow (s : State) : Res := .next (effSecCmdSealNow s)
def execAttest (s : State) : Res := .next (effAttest s)

end Sys2Proof.Machine
end

