-- ==== Sys2Proof/Machine/Loss.lean ====
section
/-!
DEFINITION. Losses in the memory system: a channel lost, a retraining pause ended, parity and uncorrectable errors (R22, R251, R258,
R260, R265 to R268, R272).
-/

namespace Sys2Proof.Machine

/-! ### Records and DRAM -/

/-- Device ranges that a block of a segment's area lies in. -/
def blkRanges (base area : Nat) (b : Blk) : List (Nat × Nat) :=
  let n := min b.bytes.length (area - b.off)
  [(base + b.off, n), (base, b.bytes.length - n)].filter fun y => decide (0 < y.2)

/-- Device ranges that a record not yet sealed has written: the blocks of its segments (R147). -/
def State.recRanges (s : State) (r : Rec) : List (Nat × Nat) :=
  match s.planOf r.plan with
  | none => []
  | some pl =>
    let area := s.areaSize pl r.ch
    r.segs.zipIdx.flatMap fun x => x.1.blks.flatMap (blkRanges (s.areaAddr pl r.set r.pos r.ch x.2) area)

/-- Some granule of a range lies on channel `c`. -/
def State.rangeOn (s : State) (c : Nat) (x : Nat × Nat) : Bool :=
  (List.range ((x.1 + x.2 + 4095) / 4096 - x.1 / 4096)).any fun i => match s.phys ((x.1 / 4096 + i) * 4096) with
    | some p => p.1 == c
    | none => false

/-- The blocks that a slot's sets have gathered before a trigger and that a test picks are bad: a record that takes one carries POISON
(R163). -/
def State.spoilGathered (s : State) (hit : Nat × Nat → Bool) : State :=
  (List.range 8).foldl (fun (s : State) k => match s.slotOf? k, s.slotPlan k with
    | some sl, some pl =>
      let streams := sl.streams.map fun e => (e.1, e.2.map fun (st : Stored) =>
        match sl.setsOf (e.1 / 64) with
        | [] => st
        | set :: _ =>
          let ch := e.1 % 64
          { st with gather := st.gather.zipIdx.map fun x =>
              let base := s.areaAddr pl set (pl.posOf ch) ch x.2
              let area := s.areaSize pl ch
              { x.1 with blks := x.1.blks.map fun b => if (blkRanges base area b).any hit then { b with bad := true } else b } })
      s.setSlot k (some { sl with streams := streams })
    | _, _ => s) s

/-- The open records that a test picks take POISON, and the FLAG source of their lanes is requested (R265, R268, Table 13-4). -/
def State.poisonRecs (s : State) (hit : Rec → Bool) : State :=
  let chans := ((s.acq.recs.filter hit).map fun r => r.ch).dedup
  let s := { s with acq := { s.acq with recs := s.acq.recs.map fun (r : Rec) => if hit r then { r with poison := true } else r } }
  chans.foldl (fun (s : State) c => s.chanRequest 6 c) s

/-! ### Channel loss (R251, R268) -/

/-- The lost channel's way is re-homed when the reserve suffices and no way has been re-homed, else it becomes unmapped (R251). -/
def State.rehome (s : State) (c : Nat) : State :=
  let n0 := s.mem.ways.length
  let w := s.mem.ways.findIdx fun x => x == c
  let enough := decide (2 ≤ n0) && decide (s.fld MEM.MAPG.MAPG ≤ s.fld MEM.RESG.RESG * (n0 - 1))
  if enough && !s.bit MEM.STATUS.REHOMED then (s.setF MEM.STATUS.REHOMED 1).setF MEM.STATUS.REHOMED_WAY w
  else s.setF MEM.STATUS.UNMAPPED 1

/-- A channel is lost: `kind` 0 PHY lock, 1 retraining, 2 parity (R268, R272). -/
def State.loseChannel (s : State) (c kind : Nat) : State :=
  let s := ((s.poisonRecs fun r => (s.recRanges r).any (s.rangeOn c)).spoilGathered (s.rangeOn c)).dropWaiting c
  let s := (s.setF MEM.STATUS.IN_SERVICE (withoutBit (s.fld MEM.STATUS.IN_SERVICE) c)).setF (MEM.CH_STATE.STATE c) 4
  let s := s.rehome c
  let moving := s.fld (MEM.CH_STATE.MIG_STATE c) == 1 || s.fld (MEM.CH_STATE.MIG_STATE c) == 2
  let s := (if moving then s.setF (MEM.CH_STATE.MIG_STATE c) 0 else s).showMigrating
  let s := { s with mem := { s.mem with pause := Tbl.set false s.mem.pause c false
                                        burst := s.mem.burst.filter (fun e => e.1 / 4 != c)
                                        open_ := s.mem.open_.filter (fun e => e.1 / 256 != c)
                                        stuck := Tbl.set false s.mem.stuck c false }
                    seq := { s.seq with training := withoutBit s.seq.training c } }
  let s := s.raise (139 + 4 * c) kind 0 0 0
  (s.recompute c).settle.judgeService

/-- CHANNEL_LOST: the PHY has not regained lock within 10 us (R268). -/
def effChannelLost (c : Nat) (s : State) : State :=
  match Tbl.get none s.mem.phyLost c with
  | some t => if s.inService c ∧ t + 10 * cyclesPerUs < s.now then s.loseChannel c 0 else s
  | none => s

/-- A retraining pause of channel `c` is over: counted; a failure keeps the previous values, the fourth in a row loses the channel;
make-up bursts that waited start (R260). -/
def State.endPause (s : State) (c ns : Nat) (ok : Bool) : State :=
  let s := { s with mem := { s.mem with pause := Tbl.set false s.mem.pause c false }
                    seq := { s.seq with training := withoutBit s.seq.training c } }
  let s := (s.bumpF (MEM.CH_RETRAIN.COUNT c) 1).setF (MEM.CH_RETRAIN.LAST_NS c) (min 2047 ns)
  if ok then ((s.setF (MEM.CH_CAPAR.CONSEC c) 0).startWaiting c).resumeChan c
  else
    let s := (s.bumpF (MEM.CH_CAPAR.RETRAIN_FAIL c) 1).bumpF (MEM.CH_CAPAR.CONSEC c) 1
    if 4 ≤ s.fld (MEM.CH_CAPAR.CONSEC c) then s.loseChannel c 1 else (s.startWaiting c).resumeChan c

/-- RETRAIN_PAUSE_DONE: a pause of at most 1.5 us ends (R260). -/
def effRetrainPauseDone (c : Nat) (ok : Bool) (ns : Nat) (s : State) : State :=
  if s.inService c && s.pausing c && decide (ns ≤ 1500) then s.endPause c ns ok else s

/-- The retraining pause of a channel on the way out of DORMANT: its duration, at most 1500 ns, and its outcome are free values (log
entry 39); none with the training sequencer withdrawn (R260, R333, Table 10-7). -/
def State.exitPause (s : State) (c : Nat) : State :=
  if (s.sunit 68).st = 3 then s
  else
    let (ns, s) := s.restartTraining.free
    let (failed, s) := s.free
    s.endPause c (ns % 1501) (failed % 2 == 0)

/-- DORMANT exit is over: domains, PLLs, memory and converters are back, background runs have begun on the resting slices, and the
device enters READY (R53, R97, R407). In a REFCLK mode the tick clock leaves in HOLDOVER. DEDUCED (log entry 104): a service set found unmet in DORMANT leads to SAFE from the READY entered. -/
def effDormantExitDone (s : State) : State :=
  if s.dev.leaving && s.mode == modeDormant && !s.dev.held then
    let s := { s with dev := { s.dev with leaving := false, domainOff := false } }.selfRefresh false
    let s := s.channels.foldl State.exitPause s
    let s := s.setF TIME.STATUS.SPLL_LOCK 1
    let s := if s.fld TIME.CFG.REF_MODE = 0 then s.setF TIME.STATUS.SOURCE 0
      else
        let s := (s.setF TIME.STATUS.SOURCE 2).setF TIME.STATUS.HOLDOVER 1
        let l := if s.time.holdover.any fun x => x.stop.isNone then s.time.holdover else ⟨s.now, none⟩ :: s.time.holdover
        { s with time := { s.time with holdover := l, holdWaits := false } }
    let s := s.changeMode modeReady (s.fld DEV.DORMANT.WAKE)
    let s := (List.range 4).foldl (fun (s : State) g => s.startBg (s.restSlice g)) s
    let s := (s.readyEntry true).requestDone 2
    if s.missing = 0 then s else s.enterSafe 15 false
  else s

/-! ### Errors (R265 to R267) -/

/-- Every powered rank of the channel is failing, the spare and a migration's target included (R266). -/
def State.allFailing (s : State) (c : Nat) : Bool :=
  (List.range 4).all fun r => !s.rankThere c r || Tbl.get false s.mem.failing (rankKey c r)

/-- CA_PARITY_ERROR of physical rank `r`, the spare and a migration's target included: the commands are repeated; more than 8 errors in a
second make the rank failing; with every rank failing, more than 64 in a second lose the channel (R266, R267). -/
def effCaParityError (c r : Nat) (s : State) : State :=
  if s.rankThere c r then
    let p := r
    let l := s.now :: lastSecond s.now (Tbl.get [] s.mem.paTimes (rankKey c p))
    let s := { s with mem := { s.mem with paTimes := Tbl.set [] s.mem.paTimes (rankKey c p) l } }
    let s := s.bumpF (MEM.CH_CAPAR.PARITY c) 1
    let s := if 8 < l.length ∧ Tbl.get false s.mem.failing (rankKey c p) = false then
        State.rankFails { s with mem := { s.mem with failing := Tbl.set false s.mem.failing (rankKey c p) true } } c p
      else s
    let total := ((List.range 4).map fun i => (lastSecond s.now (Tbl.get [] s.mem.paTimes (rankKey c i))).length).sum
    if s.allFailing c && decide (64 < total) then s.loseChannel c 2 else s
  else s

/-- UNCORRECTABLE_ERROR: a read of device address `a` meets an uncorrectable error: its granule is poisoned and counted, the open
records that wrote into it take POISON, the fault is raised and the rank fails (R265, R267). -/
def effUncorrectableError (a : Nat) (s : State) : State :=
  match s.phys a with
  | none => s
  | some (c, b) =>
    if s.dev.sleepMem then s
    else
      let p := s.rankAt c (s.locate b)
      let s := (s.access c (b / 4096 * 4096) 4096 reqPoison true).poisonGranule c b
      let g : Nat × Nat := (a / 4096 * 4096, 4096)
      let hit : Rec → Bool := fun r => rangesMeet (s.recRanges r) [g]
      let s := (s.poisonRecs hit).spoilGathered fun y => rangesMeet [y] [g]
      let s := { s with mem := { s.mem with ue := Tbl.set 0 s.mem.ue (rankKey c p) (Tbl.get 0 s.mem.ue (rankKey c p) + 1)
                                            errAddr := Tbl.set 0 s.mem.errAddr c a } }
      let s := (s.bumpF (MEM.CH_ECC.UE c) 1).bumpF (MEM.CH_POISON.GRANULES c) 1
      let s := (s.setF (MEM.CH_ERR_LO.ADDR c) a).setF (MEM.CH_ERR_HI.RANK c) p
      let s := s.raise (137 + 4 * c) 0 p 0 (a / 256)
      s.rankFails c p

def execDormantExitDone (s : State) : Res := .next (effDormantExitDone s)
def execChannelLost (c : Nat) (s : State) : Res := .next (effChannelLost c s)
def execRetrainPauseDone (c : Nat) (ok : Bool) (ns : Nat) (s : State) : Res := .next (effRetrainPauseDone c ok ns s)
def execCaParityError (c r : Nat) (s : State) : Res := .next (effCaParityError c r s)
def execUncorrectableError (a : Nat) (s : State) : Res := .next (effUncorrectableError a s)

end Sys2Proof.Machine
end

