-- ==== Sys2Proof/Machine/Sequencer.lean ====
section
/-!
DEFINITION. The lane sequencers: microinstructions, interrupts, traps, machine checks and the emergency takeover (R82, R83,
R320 to R334, R338).
-/

namespace Sys2Proof.Machine

/-! ### Fetch (R320 to R323) -/

/-- The sequencers run: out of reset, powered, the patch load over (R337). -/
def State.seqsRun (s : State) : Bool := !s.dev.held && !s.dev.domainOff && s.dev.imageOk

/-- A match register replaces the ROM word at `a` for sequencer `u` (R335). -/
def State.matchHit (s : State) (u a i : Nat) : Bool :=
  s.fld (SEQ.MATCH.ROM_ADDR i) == a && (if u = 68 then s.bit (SEQ.MATCH.TRAIN i) else s.bit (SEQ.MATCH.LANE i))

/-- The micro-address sequencer `u` executes at `a`: a matched ROM address stands for its patch RAM word (R320, R335). -/
def State.microAddr (s : State) (u a : Nat) : Nat :=
  if a < 0x4000 then match (List.range 32).find? (s.matchHit u a) with
    | some i => 0x4000 + s.fld (SEQ.MATCH.INDEX i)
    | none => a
  else a

/-- The patch RAM word a fetch reads, when it reads one. -/
def patchIndex (a : Nat) : Option Nat := if 0x4000 ≤ a ∧ a < 0x4200 then some (a - 0x4000) else none

/-- Fields of a microword (Table 13-2). -/
def wordNa (w : Nat) : Nat := w / 2 ^ 93 % 8
def wordCond (w : Nat) : Nat := w / 2 ^ 87 % 64
def wordCpol (w : Nat) : Bool := w / 2 ^ 86 % 2 == 1
def wordAddr (w : Nat) : Nat := w / 2 ^ 71 % 2 ^ 15
def wordDp (w : Nat) : Nat := w % 2 ^ 71

/-- Parity bit `i` of a ROM word: it makes the number of ones of data bits 24i + 23 to 24i with it even (R321). -/
def romParity (w i : Nat) : Nat := ((List.range 24).map fun b => w / 2 ^ (24 * i + b) % 2).sum % 2

/-- A ROM word as stored: 96 data bits, and parity bit i at bit 96 + i (R320, R321). -/
def romStored (w : Nat) : Nat := w % 2 ^ 96 + 2 ^ 96 * ((List.range 4).map fun i => 2 ^ i * romParity w i).sum

/-- A patch RAM word as stored: 96 data bits and 8 SECDED check bits, whose code the spec does not give (R320; log entry 121). -/
def patchStored (w : Nat) : Nat := w % 2 ^ 96 + 2 ^ 96 * (Config.secded (BitVec.ofNat 96 w)).toNat

/-- The data bits of the word at a micro-address that sequencer `u` fetches: of its ROM, of which each has a copy, or of the shared patch
RAM (R320). -/
def State.wordAt (s : State) (a : Nat) : Nat :=
  match patchIndex a with
  | some i => Tbl.get 0 s.seq.words i
  | none => (Config.romWord a).toNat

/-- What a microinstruction command says of its word: NA, the condition where one is used, ADDR where it is used. -/
structure Micro where
  na : Nat
  cond : Option Bool
  addr : Option Nat
  deriving DecidableEq, Repr

/-- The word fetched is the microinstruction: it has its NA and ADDR, and COND 0 is always true before CPOL. The ROM's contents are the
stepping's own (log entry 3). -/
def State.microFits (s : State) (a : Nat) (m : Micro) : Bool :=
  let w := s.wordAt a
  wordNa w == m.na && (match m.addr with
    | some t => t == wordAddr w
    | none => true) && (match m.cond with
    | some c => wordCond w != 0 || c == !wordCpol w
    | none => true)

/-- An address a fetch can read (R320). -/
def fetchable (a : Nat) : Bool := decide (a < 0x4200)

/-- `a + 1` leaves the ROM or the patch RAM (R324). -/
def incFails (a : Nat) : Bool := a == 0x3FFF || a == 0x41FF

/-! ### Machine check (R82, R83, R330 to R334) -/

/-- CAUSE, ADDR and DEPTH of a unit's first machine check (R338). -/
def State.noteCheck (s : State) (u cause : Nat) : State :=
  if s.fld (SEQ.UNIT_MC.CAUSE u) ≠ 0 then s
  else
    let x := s.sunit u
    ((s.setF (SEQ.UNIT_MC.CAUSE u) cause).setF (SEQ.UNIT_MC.ADDR u) (s.microAddr u x.pc)).setF (SEQ.UNIT_MC.DEPTH u) x.stack.length

/-- An uncorrectable patch word is met for the first time: it is counted and waits for its rewrite (R323). -/
def State.noteBadWord (s : State) (u : Nat) : State :=
  match patchIndex (s.microAddr u (s.sunit u).pc) with
  | none => s
  | some i =>
    if Tbl.get 0 s.seq.badWords i ≠ 0 then s
    else { s with seq := { s.seq with badWords := Tbl.set 0 s.seq.badWords i (s.now + 1) } }.bumpF SEQ.PATCH_ECC.UE 1

/-- A unit stops: STOPPED, its stack, IRA and context frozen, its pending traps and interrupts discarded; it parks in the handler
at 0x3F00 (R326, R330). -/
def State.stopUnit (s : State) (u : Nat) : State :=
  s.setUnit u { s.sunit u with st := 2, lane := 0, pc := 0x3F00, handler := 1, bounds := 0, pend := 0, traps := 0
                               mcAt := some s.now }

/-- The retraining pauses the training sequencer runs fail; how long each took is free (R260, R333). -/
def State.failPauses (s : State) : State :=
  ((List.range 12).filter fun c => bitOf s.seq.training c).foldl (fun (s : State) c =>
    let (v, s) := s.free
    s.endPause c (v % 1501) false) s

/-- A machine check of the training sequencer: it stops in the handler at 0x3F00 with its stack as it is, until its next request; the
training that it ran in LOAD is that request, once (R330, R333). -/
def State.trainingCheck (s : State) : State :=
  let n := (s.sunit 68).checks + 1
  let s := s.stopUnit 68
  let s := s.setUnit 68 { s.sunit 68 with checks := n }
  let s := (s.raise 229 0 0 0 0).failPauses
  let s := if s.testing && !s.dev.trained then
      if n = 1 then s.restartTraining.seqRequest 68 0
      else if n = 2 then ((List.range 12).filter s.populated).foldl State.excludeChan s else s
    else s
  if 3 ≤ n then (s.setUnit 68 { s.sunit 68 with st := 3 }).raise 229 1 0 0 0 else s

/-- The takeover that a lane waits for or is in. -/
def State.gapOf (s : State) (lane : Nat) : Option Takeover := Tbl.get none s.seq.gaps lane

/-- The takeover of a lane set or cleared. -/
def State.setGap (s : State) (lane : Nat) (g : Option Takeover) : State :=
  { s with seq := { s.seq with gaps := Tbl.set none s.seq.gaps lane g } }

/-- Lanes of a group whose units stopped and that wait for the resting unit. -/
def State.gapLanes (s : State) (g : Nat) : List Nat :=
  ((List.range 16).map fun m => 16 * g + m).filter fun l => match s.gapOf l with
    | some t => t.bound.isNone
    | none => false

/-- The streams of a lane's channel: slot and stream key. -/
def State.laneStreams (s : State) (lane : Nat) : List (Nat × Nat) :=
  let ch := s.chanOf lane
  match s.slotHolding ch with
  | none => []
  | some k => match s.slotOf? k with
    | some sl => (sl.streams.filter fun e => e.1 % 64 == ch).map fun e => (k, e.1)
    | none => []

/-- The stream of a slot under a key. -/
def State.streamOf (s : State) (k key : Nat) : Option Stored :=
  match s.slotOf? k with
  | some sl => Tbl.get none sl.streams key
  | none => none

/-- A segment of a stream takes no more samples until its lane is bound again; the block in progress is lost (R82). -/
def State.muteStream (s : State) (seg : Nat) (x : Nat × Nat) : State :=
  match s.streamOf x.1 x.2 with
  | some st => s.putStored x.1 x.2 (some { st with buf := st.buf.set seg [], skipTo := st.skipTo.set seg (2 ^ 64) })
  | none => s

/-- The takeover of a lane begins: what its unit served is written down, samples are discarded from here, and the imaging of its channel's
triggers ends (R82, R331, Table 08-9). -/
def State.openGap (s : State) (lane u : Nat) : State :=
  let seg := s.slotOf lane
  let l := s.laneStreams lane
  let streams := l.map fun x => (x.1, x.2, match s.streamOf x.1 x.2 with
    | some st => st.u.getD seg 0
    | none => 0)
  let t : Takeover := { unit := u, at_ := s.now, streams := streams }
  l.foldl (fun (s : State) x => s.muteStream seg x) ((s.setGap lane (some t)).dropChannelImages (s.chanOf lane))

/-- The proxy of a group: its lowest-numbered bound unit that is not stopped (R332). -/
def State.proxyOf (s : State) (g : Nat) : Option Nat :=
  ((List.range 17).map fun m => 17 * g + m).find? fun u => (s.sunit u).st == 1

/-- Lead duties of a channel pass to the lane of the lowest slot still served (R319). -/
def State.passLead (s : State) (c lane : Nat) : State :=
  if s.bit (SEQ.LANE_UNIT.LEAD lane) then
    let s := s.setF (SEQ.LANE_UNIT.LEAD lane) 0
    match (s.lanesOf c).find? fun l => (s.unitOf l).isSome with
    | some l => s.setF (SEQ.LANE_UNIT.LEAD l) 1
    | none => s
  else s

/-- The lane's segments of the open records keep nothing: no unit of the group can seal them (R332). -/
def State.emptySegs (s : State) (c seg : Nat) : State :=
  let cut : Rec → Rec := fun r =>
    if r.ch = c then { r with trunc := true, segs := r.segs.set seg { (r.segs.getD seg {}) with blks := [], cut := some (r.s / (64 * r.n)) } }
    else r
  { s with acq := { s.acq with recs := s.acq.recs.map cut } }

/-- The records a takeover cut short: those of the lane's channel whose span holds a sample lost between detection and binding, in
commit order (R331). -/
def State.gapRecs (s : State) (lane : Nat) : List Rec :=
  match s.gapOf lane with
  | none => []
  | some t => s.acq.recs.filter fun r => t.lost.any fun x =>
      let a : Int := 64 * r.n
      x.1 == r.slot && x.2.1 == 64 * r.gen + r.ch && decide (a * x.2.2.1 < r.e) && decide (r.s < a * (x.2.2.2 + 1))

/-- A lane stops with no unit to take it: its channel stops until the next reset, and the proxy seals the lane's segments, which are two
of a record that a takeover under way cut (R83, R332, R334). -/
def State.stopLane (s : State) (lane : Nat) : State :=
  let c := s.chanOf lane
  let both := s.gapRecs lane
  let s := (s.setGap lane none).passLead c lane
  let s := { s with cnv := { s.cnv with stopped := Tbl.set false s.cnv.stopped c true } }
  let s := (s.raise 60 0 c 0 0).stopChannel c 3
  let n := (s.acq.recs.filter fun r => r.ch == c).length
  match s.proxyOf (lane / 16) with
  | some u => (s.seqRequest u 7).bumpF (SEQ.UNIT_COUNTS.PROXY u) (n + both.length)
  | none => s.emptySegs c (s.slotOf lane)

/-- Of the lanes that wait for the resting unit, one detected in this cycle gives way to a lower one (R334). -/
def State.rivalOf (s : State) (lane : Nat) : Option Nat :=
  (s.gapLanes (lane / 16)).find? fun l => match s.gapOf l with
    | some t => t.at_ == s.now && decide (lane < l)
    | none => false

/-- A machine check of a bound unit (R82, R83, R330, R331, R334). -/
def State.boundCheck (s : State) (u cause : Nat) : State :=
  let lane := (s.sunit u).lane
  let g := u / 17
  let s := (s.stopUnit u).setF (SEQ.LANE_UNIT.VALID lane) 0
  let s := s.raise (224 + g) cause u 0 0
  let s := match s.stepOf g with
    | some st => if st.lane = lane ∧ st.switchAt = none then s.abortStep g else s
    | none => s
  if (s.restUnit g).isSome && (s.gapLanes g).isEmpty && (s.gapOf lane).isNone then s.openGap lane u
  else match s.rivalOf lane with
    | some l => (s.openGap lane u).stopLane l
    | none => s.stopLane lane

/-- A machine check of a resting unit: it enters its handler and is withdrawn; a lane that waits for it falls under R83 (R330, R333). -/
def State.restCheck (s : State) (u cause : Nat) : State :=
  let g := u / 17
  let was := s.bit (CNV.GROUP_STATUS.SPARE_UNIT g)
  let s := (((s.stopUnit u).withdrawUnit u).setF (CNV.GROUP_STATUS.SPARE_UNIT g) 0).raise (224 + g) cause u 0 0
  let s := match Tbl.get none s.bst.run g with
    | some b => if b.unit = some u then s.abandonBist g else s
    | none => s
  if was then (s.gapLanes g).foldl State.stopLane s else s

/-- A machine check of sequencer `u` with a cause (R330, R333). -/
def State.machineCheck (s : State) (u cause : Nat) : State :=
  let x := s.sunit u
  if x.st = 2 ∨ x.st = 3 then s
  else
    let s := s.noteCheck u cause
    let s := if cause = 2 then s.noteBadWord u else s
    if u = 68 then s.trainingCheck
    else if x.st = 1 then s.boundCheck u cause
    else s.restCheck u cause

/-! ### Microinstructions (R324 to R326, R328, R329) -/

/-- A boundary passes in a handler; the ninth of an interrupt handler, or the 33rd of a trap handler, is a machine check
HANDLER_LONG (R328, R329). -/
def State.countBoundary (s : State) (u : Nat) : State :=
  let x := s.sunit u
  if x.handler = 0 then s
  else
    let s := s.setUnit u { x with bounds := x.bounds + 1 }
    if (x.handler = 3 ∧ 9 ≤ x.bounds + 1) ∨ (x.handler = 2 ∧ 33 ≤ x.bounds + 1) then s.machineCheck u 6 else s

/-- Sequencer `u` goes on at `a`. -/
def State.goto (s : State) (u a : Nat) : State := (s.setUnit u { s.sunit u with pc := a }).countBoundary u

/-- Sequencer `u` goes on at `a + 1`, a machine check ADDR_RANGE at the end of the ROM or the patch RAM (R324). -/
def State.gotoNext (s : State) (u a : Nat) : State := if incFails a then s.machineCheck u 8 else s.goto u (a + 1)

/-- Sequencer `u` goes on at a target, a machine check ADDR_RANGE where nothing can be fetched (R324). -/
def State.gotoAddr (s : State) (u a : Nat) : State := if fetchable a then s.goto u a else s.machineCheck u 8

/-- Sequencer `u` fetches the word of a microinstruction and executes it: the fetch is checked, a corrected patch word counted
(`ce`), an uncorrectable one a machine check (R322, R323). `body` gets the micro-address. -/
def State.micro (s : State) (u : Nat) (m : Micro) (ce : Bool) (body : State → Nat → State) : State :=
  let x := s.sunit u
  let a := s.microAddr u x.pc
  if !s.seqsRun || decide (68 < u) || x.st == 2 || x.st == 3 then s
  else match patchIndex a with
  | some i =>
    if Tbl.get 0 s.seq.badWords i ≠ 0 then s.machineCheck u 2
    else if s.microFits a m then body (if ce then s.bumpF SEQ.PATCH_ECC.CE 1 else s) a
    else s
  | none => if s.microFits a m then body s a else s

/-- NEXT (Table 13-3). -/
def effNext (u : Nat) (ce : Bool) (s : State) : State := s.micro u ⟨0, none, none⟩ ce fun s a => s.gotoNext u a

/-- JUMP to ADDR when the condition holds. -/
def effJump (u : Nat) (c : Bool) (addr : Nat) (ce : Bool) (s : State) : State :=
  s.micro u ⟨1, some c, some addr⟩ ce fun s a => if c then s.gotoAddr u addr else s.gotoNext u a

/-- CALL: pushes a + 1 and goes to ADDR when the condition holds; machine checks in a handler, and with a full stack (R325). -/
def effCall (u : Nat) (c : Bool) (addr : Nat) (ce : Bool) (s : State) : State :=
  s.micro u ⟨2, some c, some addr⟩ ce fun s a =>
    let x := s.sunit u
    if x.handler ≠ 0 then s.machineCheck u 5
    else if c = false then s.gotoNext u a
    else if 8 ≤ x.stack.length then s.machineCheck u 3
    else if incFails a || !fetchable addr then s.machineCheck u 8
    else (s.setUnit u { x with stack := (a + 1) :: x.stack }).goto u addr

/-- RET: pops the return address when the condition holds; machine checks in a handler, and with an empty stack (R325). -/
def effRet (u : Nat) (c : Bool) (ce : Bool) (s : State) : State :=
  s.micro u ⟨3, some c, none⟩ ce fun s a =>
    let x := s.sunit u
    if x.handler ≠ 0 then s.machineCheck u 5
    else if c = false then s.gotoNext u a
    else match x.stack with
      | [] => s.machineCheck u 4
      | t :: rest => (s.setUnit u { x with stack := rest }).goto u t

/-- WAIT: repeats until the condition holds; each repeat ends at a boundary (R324, R326). -/
def effWait (u : Nat) (c : Bool) (ce : Bool) (s : State) : State :=
  s.micro u ⟨4, some c, none⟩ ce fun s a => if c then s.gotoNext u a else s.countBoundary u

/-- DISPATCH: ADDR with bits 3:0 replaced by the dispatch value. -/
def effDispatch (u addr d : Nat) (ce : Bool) (s : State) : State :=
  s.micro u ⟨5, none, some addr⟩ ce fun s _ => s.gotoAddr u (addr / 16 * 16 + d % 16)

/-- The lane's segment of every open record of its channel keeps nothing: USED = 0 and START = 0 (R329). -/
def State.dropContext (s : State) (lane : Nat) : State := s.emptySegs (s.chanOf lane) (s.slotOf lane)

/-- A stream's context is made anew after block `u1`: nothing before is held for the set that gathers, and a record that begins before
has nothing on the lane (R329). -/
def State.renewFrom (s : State) (lane : Nat) (x : Nat × Nat) (u1 : Int) : State :=
  match s.streamOf x.1 x.2 with
  | none => s
  | some st =>
    let seg := s.slotOf lane
    let g := st.gather.getD seg {}
    let u0 := st.start / (64 * st.n)
    let s := s.putStored x.1 x.2 (some { st with gather := st.gather.set seg { g with blks := g.blks.filter fun b => decide (u1 < b.u) } })
    if u1 < u0 then s else s.dropBlocks x.1 x.2 seg u0 u1

/-- A stream's context is made anew at its next block boundary (R329). -/
def State.renewContext (s : State) (lane : Nat) (x : Nat × Nat) : State :=
  match s.streamOf x.1 x.2 with
  | none => s
  | some st =>
    let seg := s.slotOf lane
    s.renewFrom lane x (st.u.getD seg 0 - (if (st.buf.getD seg []).isEmpty then 1 else 0))

/-- Trap `t` of a unit, and, when it is taken, what the handler of trap 1 does: the records in progress of its lane keep nothing there, the
context begins anew, and the notice is raised (R329). A resting unit has no record in progress. -/
def State.trap (s : State) (u t : Nat) : State :=
  let x := s.sunit u
  let s := s.takeTrap u t
  if x.st = 2 ∨ x.st = 3 ∨ x.handler ≠ 0 ∨ t ≠ 1 then s
  else
    let s := if x.st = 1 then
        (s.laneStreams x.lane).foldl (fun (s : State) y => s.renewContext x.lane y) (s.dropContext x.lane)
      else s
    s.raise 230 0 u 0 0

/-- The lowest pending trap of a unit is taken (R326). -/
def State.nextTrap (s : State) (u : Nat) : State :=
  let x := s.sunit u
  match (List.range 2).find? (bitOf x.traps) with
  | some t => (s.setUnit u { x with traps := withoutBit x.traps t }).trap u t
  | none => s

/-- RETI: returns to IRA from an interrupt or trap handler; a machine check ILLEGAL_NA elsewhere (R325, R329). -/
def effReti (u : Nat) (ce : Bool) (s : State) : State :=
  s.micro u ⟨6, none, none⟩ ce fun s _ =>
    let x := s.sunit u
    if x.handler = 2 ∨ x.handler = 3 then
      let s := if x.handler = 3 ∧ s.fld (SEQ.UNIT_LAT.MAX_LEN u) < x.bounds then s.setF (SEQ.UNIT_LAT.MAX_LEN u) x.bounds else s
      (s.setUnit u { x with pc := x.ira, handler := 0, bounds := 0 }).nextTrap u
    else s.machineCheck u 7

/-- NA = 7: machine check ILLEGAL_NA. -/
def effIllegalNa (u : Nat) (ce : Bool) (s : State) : State := s.micro u ⟨7, none, none⟩ ce fun s _ => s.machineCheck u 7

/-! ### Interrupts (R326 to R328) -/

/-- The source served next: the first pending one after the one served last, cyclically (R328). -/
def SeqUnit.nextSource (x : SeqUnit) : Option Nat :=
  let from_ := match x.last with
    | some l => l + 1
    | none => 0
  ((List.range 8).map fun i => (from_ + i) % 8).find? (bitOf x.pend)

/-- SEQ_INTERRUPT: at a boundary with no handler running, the next source's handler is entered (R326, R328). -/
def effSeqInterrupt (u : Nat) (s : State) : State :=
  let x := s.sunit u
  if !s.seqsRun || decide (68 < u) || x.st == 2 || x.st == 3 || x.handler != 0 then s
  else match x.nextSource with
  | none => s
  | some i =>
    let t := Tbl.get 0 s.seq.reqAt (8 * u + i)
    let lat := s.now + 2 - (t - 1)
    let s := if s.fld (SEQ.UNIT_LAT.MAX_LAT u) < lat then s.setF (SEQ.UNIT_LAT.MAX_LAT u) (min 16383 lat) else s
    let s := { s with seq := { s.seq with reqAt := Tbl.set 0 s.seq.reqAt (8 * u + i) 0 } }
    s.setUnit u { x with ira := x.pc, pc := 0x3F40 + 8 * i, handler := 3, src := i, bounds := 0
                         pend := withoutBit x.pend i, last := some i }

/-! ### Machine checks and the takeover as events -/

/-- MACHINE_CHECK: ROM_PARITY on a ROM fetch and PATCH_UE on a patch fetch, or another cause of R330. -/
def effMachineCheck (u cause : Nat) (s : State) : State :=
  let patch := (patchIndex (s.microAddr u (s.sunit u).pc)).isSome
  let fits := if cause = 1 then !patch else if cause = 2 then patch else decide (3 ≤ cause ∧ cause ≤ 8)
  if s.seqsRun && decide (u ≤ 68) && fits then s.machineCheck u cause else s

/-- DOUBLE_MACHINE_CHECK: in the handler, or not parked within its 32 boundaries: the unit is stopped at once, DOUBLE (R330). -/
def effDoubleMachineCheck (u : Nat) (s : State) : State :=
  let x := s.sunit u
  match x.mcAt with
  | some t =>
    if (x.st == 2 || x.st == 3) && x.handler == 1 && decide (s.now ≤ t + 2050) && decide (u ≤ 68) then
      (s.setUnit u { x with handler := 0 }).setF (SEQ.UNIT_MC.DOUBLE u) 1
    else s
  | none => s

/-- The last block of a segment lost when its lane is bound now: the block of the current stored sample, or the one before at a
block boundary (R82). -/
def State.lastLost (s : State) (lane : Nat) (st : Stored) : Int :=
  let n : Int := (s.nextSample (s.spt (s.chanOf lane)) : Nat) + st.base
  let i := ceilDivI (n - st.phi) (st.dm1 + 1)
  ceilDivI i (64 * st.n) - 1

/-- The blocks of a stream that a takeover loses: the first and the last (R82, R331). -/
def State.gapBlocks (s : State) (lane : Nat) (t : Takeover) (x : Nat × Nat) : Option (Int × Int) :=
  (s.streamOf x.1 x.2).map fun st =>
    let u0 := match t.streams.find? fun y => y.1 == x.1 && y.2.1 == x.2 with
      | some y => y.2.2
      | none => st.start / (64 * st.n)
    (u0, max (s.lastLost lane st) (u0 - 1))

/-- One stream of a lane goes on after its binding: the blocks of the gap are lost (R82, R331). -/
def State.resumeStream (s : State) (lane : Nat) (t : Takeover) (x : Nat × Nat) : State :=
  match s.gapBlocks lane t x with
  | none => s
  | some b => s.loseBlocks x.1 x.2 (s.slotOf lane) b.1 b.2

/-- The samples of the lane's channel between detection and binding are lost to its accumulation too (R82, R199). -/
def State.noteGap (s : State) (lane : Nat) (t : Takeover) : State :=
  let c := s.chanOf lane
  let x := (t.at_ * s.spt c / 10, s.nextSample (s.spt c))
  { s with seq := { s.seq with lostSpans := Tbl.set [] s.seq.lostSpans c (x :: Tbl.get [] s.seq.lostSpans c) } }

/-- The adds of the lane's channel whose input spans meet the gap are interrupted (R199). -/
def State.gapAdds (s : State) (lane : Nat) (_ : Takeover) : State :=
  match s.slotHolding (s.chanOf lane) with
  | none => s
  | some k => s.cutAdds k

/-- EMERGENCY_SHUFFLE: at a 64-sample boundary the lane of a stopped unit is bound to the resting unit; a BIST slice on that unit is
abandoned; the samples in between are lost (R82, R331). -/
def effEmergencyShuffle (lane : Nat) (s : State) : State :=
  let g := lane / 16
  match s.gapOf lane, s.restUnit g with
  | some t, some u =>
    let moving := match s.stepOf g with
      | some st => st.lane == lane && !st.switched
      | none => false
    if t.bound.isNone && s.at64 && !moving && decide (t.at_ < s.now) then
      let s := match Tbl.get none s.bst.run g with
        | some b => if b.unit = some u then s.abandonBist g else s
        | none => s
      let s := ((s.bindLane lane u).setF (CNV.GROUP_STATUS.SPARE_UNIT g) 0).seqRequest u 7
      let s0 := s
      let l := s.laneStreams lane
      let s := l.foldl (fun (s : State) x => s.resumeStream lane t x) s
      let lost := l.filterMap fun x => (s0.gapBlocks lane t x).map fun b => (x.1, x.2, b.1, b.2)
      ((s.noteGap lane t).gapAdds lane t).setGap lane (some { t with bound := some s.now, lost := lost })
    else s
  | _, _ => s

/-- The records of a channel that can seal now, oldest first: those ended and drained, and those a takeover cut whose other lanes have
delivered them and whose data memory has (R158, R161, R331). -/
def State.sealReady (s : State) (cut : List Nat) : List Rec → List Rec
  | [] => []
  | r :: rest =>
    if (r.ended.isSome || (cut.contains r.accession && s.delivered r)) && s.drained r then r :: s.sealReady cut rest else []

/-- TAKEOVER_SEAL: the stopped unit's buffer has drained; each record that spans the gap ends TRUNCATED on the lane, and is sealed by the
incoming unit once its other lanes complete, in commit order; the emergency-shuffle fault is raised (R82, R158, R161, R331). -/
def effTakeoverSeal (lane : Nat) (s : State) : State :=
  match s.gapOf lane with
  | none => s
  | some t =>
    let hit := s.gapRecs lane
    if t.bound.isSome && hit.all s.drained then
      let due := s.sealReady (hit.map Rec.accession) (s.acq.recs.filter fun r => r.ch == s.chanOf lane)
      let s := due.foldl (fun (s : State) (r : Rec) => (s.sealRec r).dropStreams r.slot) s
      let s := match s.unitOf lane with
        | some u => s.bumpF (SEQ.UNIT_COUNTS.PROXY u) hit.length
        | none => s
      ((s.raise (52 + lane / 16) 0 lane t.unit 0).setGap lane none).settle
    else s

/-- The stopped unit's context is read with a parity error: of the records it had in progress nothing is left on the lane, and nothing
that it had gathered (R329, R331). -/
def State.dropStopped (s : State) (lane : Nat) (t : Takeover) : State :=
  t.lost.foldl (fun (s : State) x =>
    let seg := s.slotOf lane
    let empty : Rec → Rec := fun r =>
      if r.slot = x.1 ∧ 64 * r.gen + r.ch = x.2.1 ∧ r.s < 64 * r.n * (x.2.2.2 + 1) then
        { r with trunc := true, segs := r.segs.set seg { (r.segs.getD seg {}) with blks := [], cut := some (r.s / (64 * r.n)) } }
      else r
    State.renewFrom { s with acq := { s.acq with recs := s.acq.recs.map empty } } lane (x.1, x.2.1) x.2.2.2) s

/-- CTX_PARITY: a parity error in the lane context of a unit is its trap 1 (R329); one met in the stopped unit's context of a takeover
leaves the lane's segments empty (R331). -/
def effCtxParity (u : Nat) (s : State) : State :=
  if s.seqsRun && decide (u < 68) then
    if (s.sunit u).st = 2 then
      match (List.range 64).find? fun l => (s.gapOf l).any fun t => t.unit == u && t.bound.isSome with
      | some lane => match s.gapOf lane with
        | some t => s.dropStopped lane t
        | none => s
      | none => s
    else s.trap u 1
  else s

/-! ### Patch RAM, snapshot, counters -/

/-- PATCH_WORD_REWRITE: the word is rewritten from the retained patch record; the patch-memory notice (R323). -/
def effPatchWordRewrite (w : Nat) (s : State) : State :=
  if Tbl.get 0 s.seq.badWords w ≠ 0 then
    { s with seq := { s.seq with badWords := Tbl.set 0 s.seq.badWords w 0 } }.raise 231 0 0 w 0
  else s

/-- SEQ.CMD.SNAP (R338). -/
def effSeqSnap (s : State) : State := if s.served 0xD0010 then s.seqSnap else s

/-- SEQ.CMD.CLR_COUNTS (R338). -/
def effSeqClrCounts (s : State) : State :=
  if s.served 0xD0010 then
    s.clearCounts ([SEQ.PATCH_ECC.CE, SEQ.PATCH_ECC.UE] ++ (List.range 69).flatMap fun u => [SEQ.UNIT_COUNTS.ELASTIC_OVF u,
      SEQ.UNIT_COUNTS.CTX_PARITY u, SEQ.UNIT_COUNTS.PROXY u, SEQ.UNIT_LAT.MAX_LAT u, SEQ.UNIT_LAT.MAX_LEN u])
  else s

def execSeqInterrupt (u : Nat) (s : State) : Res := .next (effSeqInterrupt u s)
def execNext (u : Nat) (ce : Bool) (s : State) : Res := .next (effNext u ce s)
def execJump (u : Nat) (c : Bool) (addr : Nat) (ce : Bool) (s : State) : Res := .next (effJump u c addr ce s)
def execCall (u : Nat) (c : Bool) (addr : Nat) (ce : Bool) (s : State) : Res := .next (effCall u c addr ce s)
def execRet (u : Nat) (c : Bool) (ce : Bool) (s : State) : Res := .next (effRet u c ce s)
def execWait (u : Nat) (c : Bool) (ce : Bool) (s : State) : Res := .next (effWait u c ce s)
def execDispatch (u addr d : Nat) (ce : Bool) (s : State) : Res := .next (effDispatch u addr d ce s)
def execReti (u : Nat) (ce : Bool) (s : State) : Res := .next (effReti u ce s)
def execIllegalNa (u : Nat) (ce : Bool) (s : State) : Res := .next (effIllegalNa u ce s)
def execCtxParity (u : Nat) (s : State) : Res := .next (effCtxParity u s)
def execMachineCheck (u cause : Nat) (s : State) : Res := .next (effMachineCheck u cause s)
def execDoubleMachineCheck (u : Nat) (s : State) : Res := .next (effDoubleMachineCheck u s)
def execEmergencyShuffle (lane : Nat) (s : State) : Res := .next (effEmergencyShuffle lane s)
def execTakeoverSeal (lane : Nat) (s : State) : Res := .next (effTakeoverSeal lane s).repace
def execPatchWordRewrite (w : Nat) (s : State) : Res := .next (effPatchWordRewrite w s)
def execSeqSnap (s : State) : Res := .next (effSeqSnap s)
def execSeqClrCounts (s : State) : Res := .next (effSeqClrCounts s)

end Sys2Proof.Machine
end

