-- ==== Sys2Proof/Machine/Timeline.lean ====
section
/-!
DEFINITION. The timeline: sources, epochs, jumps, the sampling PLL, snapshots (R30 to R43, R53).
-/

namespace Sys2Proof.Machine

/-! ### Jumps and expected ticks -/

/-- The entries passed over by a change of the count are judged with L measured from the new count (R45, R50): each entry due
at the new count and not at the old one takes its lateness, and one that lies in the future again after a backward jump loses the
lateness it had, for it runs when the count reaches its tick. -/
def State.rejudge (s : State) (old new : Tick) : State :=
  let late := (List.range 256).foldl (fun t n =>
    match Tbl.get 0 s.sched.due n with
    | 0 => t
    | d + 1 =>
      let due := BitVec.ofNat 48 d
      if !duePast new due then Tbl.set 0 t n 0
      else if !duePast old due then Tbl.set 0 t n (new - due).toNat else t) s.sched.late
  let deals := s.ens.deals.map fun (d : DealAct) =>
    if d.started then d
    else if !duePast new d.tick then { d with lateBy := 0 }
    else if !duePast old d.tick then { d with lateBy := (new - d.tick).toNat } else d
  { s with sched := { s.sched with late := late }, ens := { s.ens with deals := deals } }

/-- The count is set to `t` at a tick boundary: a jump, unless it leaves the count unchanged (R37, R38, R50). Records whose
window contains it carry PHASE_HIT (R42). -/
def State.jumpTo (s : State) (t : Tick) : State :=
  let d := tickDiff t s.tick
  if d = 0 then s
  else
    let s' := s.rejudge s.tick t
    State.flagRequest { s' with tick := t
                                time := { s'.time with jumpLog := (s.now, d) :: s'.time.jumpLog
                                                       phaseHit := ⟨s.now, some s.now⟩ :: s'.time.phaseHit } }

/-- The epoch-missing notice and its count (R39). -/
def State.raiseMissing (s : State) : State := (s.bumpF TIME.COUNTS.EPOCH_MISSING 1).raise 20 0 0 0 0

/-- The expected tick is reached: EPOCH_NUM increments and the expected tick advances by EPOCH_PERIOD (R36). -/
def State.reachExpected (s : State) (e : Tick) : State :=
  let s := s.wrapF TIME.EPOCH_NUM.NUM 1
  { s with time := { s.time with previous := some e
                                 expected := some (e + BitVec.ofNat 48 (s.fld TIME.EPOCH_PERIOD.PERIOD))
                                 seenPrev := s.time.seenNext, seenNext := false
                                 judged := s.time.seenNext || s.mode == modeDormant } }

/-- Expected ticks passed by a jump count as reached at the jump, each without a pulse raising the missing notice (R39). -/
def State.passExpected : Nat → State → State
  | 0, s => s
  | n + 1, s =>
    match s.time.expected with
    | none => s
    | some e =>
      if duePast s.tick e then
        let seen := s.time.seenNext
        let s := s.reachExpected e
        let s := if seen then s else { s.raiseMissing with time := { s.raiseMissing.time with judged := true } }
        State.passExpected n s
      else s

/-- Bytes of a TIME log entry: kind, and the signed offset in ticks (Table 14-7). -/
def timeData (kind : Nat) (d : Int) : List Byte := le 1 kind ++ le 6 (toTwos 48 d)

/-- The open interval of a list is closed at a cycle. -/
def closeSpan (l : List Span) (now : Nat) : List Span :=
  l.map fun x => match x.stop with
    | none => { x with stop := some now }
    | some _ => x

/-- An interval is opened unless one is open. -/
def openSpan (l : List Span) (from_ : Nat) : List Span :=
  if l.any fun x => x.stop.isNone then l else ⟨from_, none⟩ :: l

/-- HOLDOVER on records ends (R43). -/
def State.endHoldover (s : State) : State :=
  let s := s.setF TIME.STATUS.HOLDOVER 0
  State.flagRequest { s with time := { s.time with holdWaits := false, holdover := closeSpan s.time.holdover s.now } }

/-- PHASE_HIT on records ends (R42). -/
def State.endPhaseHit (s : State) : State :=
  let s := s.setF TIME.STATUS.PHASE_HIT 0
  State.flagRequest { s with time := { s.time with phaseWaits := false, phaseHit := closeSpan s.time.phaseHit s.now } }

/-- An armed epoch load applies at the pulse (R37): count, EPOCH_NUM and expected tick are set, the load is logged with its
offset, EPOCH_ARM clears. DESIGN CHOICE (log entry 116): the TIME entry is staged after the jump, so its TICK is the loaded one and the
previous count is TICK less the offset. -/
def State.epochLoad (s : State) (num : Nat) (t : Tick) : State :=
  let d := tickDiff t s.tick
  let s := s.jumpTo t
  let s := s.setF TIME.EPOCH_NUM.NUM num
  let s := { s with time := { s.time with
    expected := some (t + BitVec.ofNat 48 (s.fld TIME.EPOCH_PERIOD.PERIOD)), previous := some t
    seenNext := false, seenPrev := true, judged := true, armed := none, loaded := true } }
  let s := (s.setF TIME.CMD.EPOCH_ARM 0).setF TIME.STATUS.EPOCH_ALIGNED 1
  let s := s.logEntry 8 0 (s.logFlags false) (timeData 0 d)
  s.raise 21 0 0 0 num

/-- The offset of a pulse from its expected tick, and whether that is the next expected tick rather than the previous one: the
nearest, and the later of two as near (R38). -/
def State.pulseOffset (s : State) (e : Tick) : Int × Bool :=
  let dE := tickDiff s.tick e
  match s.time.previous with
  | none => (dE, true)
  | some p =>
    let dP := tickDiff s.tick p
    if dE.natAbs ≤ dP.natAbs then (dE, true) else (dP, false)

/-- An epoch-slip event: event 19, SLIP_LAST, COUNTS.SLIP (R38). -/
def State.slipEvent (s : State) (kind : Nat) (d : Int) : State :=
  let s := s.setS TIME.SLIP_LAST.OFFSET d
  let s := (s.bumpF TIME.COUNTS.SLIP 1).setF TIME.STATUS.EPOCH_ALIGNED 0
  s.raise 19 kind 0 0 (toTwos 32 (satI d (-(2 ^ 31)) (2 ^ 31 - 1)))

/-- A pulse is assigned to an expected tick and judged (R38). -/
def State.judgePulse (s : State) (e : Tick) : State :=
  let (d, next) := s.pulseOffset e
  let seen := if next then s.time.seenNext else s.time.seenPrev
  let s := if next then { s with time := { s.time with seenNext := true } }
           else { s with time := { s.time with seenPrev := true, judged := true } }
  if seen then s.slipEvent 1 d
  else if d.natAbs ≤ 1 then
    let s := if s.time.loaded then s.setF TIME.STATUS.EPOCH_ALIGNED 1 else s
    if s.time.phaseWaits then s.endPhaseHit else s
  else
    let s := s.slipEvent 0 d
    if s.bit TIME.CFG.SLIP_POLICY then { s with time := { s.time with realign := some (d, s.now) } } else s

/-- EPOCH_IN is watched: EPOCH_EN set, not in reset, not in DORMANT (R37, R53). -/
def State.epochWatched (s : State) : Bool :=
  s.bit TIME.CFG.EPOCH_EN && !s.dev.held && s.mode != modeDormant

/-- An EPOCH_IN pulse at the present tick boundary (R36, R37, R38, R43). DESIGN CHOICE (log entry 116): a pulse that applies an epoch load,
or that only sets the expected tick, ends no PHASE_HIT that waits for an on-time pulse. -/
def effEpochPulse (s : State) : State :=
  if s.epochWatched then
    let s := if s.time.holdWaits then s.endHoldover else s
    match s.time.armed, s.time.expected with
    | some (num, t), _ => s.epochLoad num t
    | none, none =>
      let s := s.setF TIME.EPOCH_NUM.NUM 0
      { s with time := { s.time with
        expected := some (s.tick + BitVec.ofNat 48 (s.fld TIME.EPOCH_PERIOD.PERIOD))
        previous := some s.tick, seenNext := false, seenPrev := true, judged := true } }
    | none, some e => s.judgePulse e
  else s

/-- The REALIGN jump owed takes effect at the next tick boundary: the count moves by minus d, the jump is logged with d
(R38, R50). -/
def effRealignJump (s : State) : State :=
  match s.time.realign with
  | some (d, c) =>
    if s.cyc = 0 ∧ c < s.now then
      let s := s.jumpTo (tickAdd s.tick (-d))
      let s := { s with time := { s.time with realign := none } }
      let s := State.passExpected 4 s
      s.logEntry 8 0 (s.logFlags false) (timeData 1 d)
    else s
  | none => s

/-- The count reaches the expected tick (R36); in DORMANT too (R53). -/
def effExpectedTick (s : State) : State :=
  match s.time.expected with
  | some e => if s.bit TIME.CFG.EPOCH_EN && duePast s.tick e then s.reachExpected e else s
  | none => s

/-- No pulse has arrived by e + 1 (R39). -/
def effEpochMissing (s : State) : State :=
  match s.time.previous with
  | some p =>
    if s.epochWatched && !s.time.judged && !s.time.seenPrev && duePast s.tick (p + 1) then
      { s.raiseMissing with time := { s.raiseMissing.time with judged := true } }
    else s
  | none => s

/-! ### Reference and crystal -/

/-- A REFCLK mode is selected (R30). -/
def State.refMode (s : State) : Bool := s.fld TIME.CFG.REF_MODE != 0

/-- Step 6 of Table 17-12 has not been passed: no clock has been chosen yet. -/
def State.preClock (s : State) : Bool := s.dev.held || (s.mode == modeLoad && decide (s.fld DEV.STARTUP.STAGE ≤ 6))

/-- REFCLK lost: holdover on the crystal, the reference-loss fault, HOLDOVER from the last edge onward (Table 02-2). `freq`
says that the frequency test failed rather than the edges. Before step 6 of the start-up the loss is found at that step (R43). The sampling
PLL keeps its lock through this and every change of the tick clock (R40). -/
def effRefclkLost (freq : Bool) (s : State) : State :=
  if s.preClock then { s with time := { s.time with refOk := false, refFreq := freq } }
  else if s.refMode && s.fld TIME.STATUS.SOURCE != 2 && s.mode != modeDormant && !s.dev.held then
    let s := ((s.setF TIME.STATUS.SOURCE 2).setF TIME.STATUS.HOLDOVER 1).bumpF TIME.COUNTS.REF_LOSS 1
    let from_ := if freq then s.now else s.now - 200
    let s := { s with time := { s.time with refOk := false, refFreq := freq, holdWaits := false
                                            holdover := openSpan s.time.holdover from_ } }
    s.flagRequest.raise 16 (if freq then 1 else 0) 0 0 0
  else s

/-- A REFCLK phase step over 1 ns (Table 02-2); the sampling clock follows it in lock (R40). -/
def effRefclkPhaseStep (s : State) : State :=
  if s.refMode && s.fld TIME.STATUS.SOURCE != 2 && s.mode != modeDormant && !s.dev.held then
    let s := (s.setF TIME.STATUS.PHASE_HIT 1).bumpF TIME.COUNTS.PHASE_HIT 1
    let s := { s with time := { s.time with phaseWaits := false, phaseHit := openSpan s.time.phaseHit s.now } }
    s.flagRequest.raise 18 0 0 0 0
  else s

/-- The residual phase error has reached 100 ps: PHASE_HIT ends, or waits for the next on-time pulse (Table 02-2). -/
def effPhaseStepSettled (s : State) : State :=
  if s.bit TIME.STATUS.PHASE_HIT then
    if s.bit TIME.CFG.EPOCH_EN then { s with time := { s.time with phaseWaits := true } } else s.endPhaseHit
  else s

/-- REFCLK has met the frequency test for 1 ms: ACQUIRING (R43 step 1). Before step 6 of the start-up REFCLK is there again when that
step looks at it (R43). -/
def effRefclkValid1ms (s : State) : State :=
  if s.preClock then { s with time := { s.time with refOk := true, refFreq := false } }
  else if s.refMode && s.fld TIME.STATUS.SOURCE == 2 && s.mode != modeDormant && !s.dev.held then
    let s := s.setF TIME.STATUS.SOURCE 3
    { s with time := { s.time with refOk := true } }
  else s

/-- The residual is 100 ps or less: LOCKED; HOLDOVER ends here or, with EPOCH_EN, at the next pulse (R43 steps 3 and 4). -/
def effSourceLocked (s : State) : State :=
  if s.fld TIME.STATUS.SOURCE == 3 && s.mode != modeDormant && !s.dev.held then
    let s := s.setF TIME.STATUS.SOURCE 1
    let s := if s.bit TIME.CFG.EPOCH_EN then { s with time := { s.time with holdWaits := true } } else s.endHoldover
    s.raise 17 0 0 0 0
  else s

/-- The crystal is the tick source: crystal-only mode or holdover (Table 18-3). -/
def State.crystalTicks (s : State) : Bool := !s.refMode || s.fld TIME.STATUS.SOURCE == 2

/-- The crystal gives no edge for 1 us while it is the tick source: fatal kind 2 (R417). Before step 6 of the start-up LOAD waits for
a clock source instead (R458). -/
def effCrystalLost (s : State) : State :=
  let was := s.crystalTicks
  let s := { s with time := { s.time with crystalOk := false } }
  if was && !s.preClock then s.fatal 2 (withBit s.missing 2) else s

/-! ### Sampling PLL -/

/-- Loss of lock: a fault, and every armed plan stops with cause 2 (R41); shuffle steps before their switch abort (R81). -/
def effSpllLockLost (s : State) : State :=
  if s.bit TIME.STATUS.SPLL_LOCK && s.running then
    let s := s.setF TIME.STATUS.SPLL_LOCK 0
    let s := { s with time := { s.time with spllLostAt := some s.now } }
    let s := s.raise 22 0 0 0 0
    (s.abortSteps).stopAllPlans 2 true
  else if s.bit TIME.STATUS.SPLL_LOCK then
    let s := s.setF TIME.STATUS.SPLL_LOCK 0
    let s := { s with time := { s.time with spllLostAt := some s.now } }
    s.raise 22 0 0 0 0
  else s

/-- The PLL relocks; plans are not armed again by themselves (R41). -/
def effSpllRelocked (s : State) : State :=
  if s.bit TIME.STATUS.SPLL_LOCK || s.time.spllLostAt.isNone || s.dev.domainOff || s.dev.held then s
  else
    let s := s.setF TIME.STATUS.SPLL_LOCK 1
    let s := { s with time := { s.time with spllLostAt := none } }
    s.raise 22 1 0 0 0

/-- Not relocked 10 ms after the loss: fatal kind 1 (R41, R417). -/
def effSpllRelockTimeout (s : State) : State :=
  match s.time.spllLostAt with
  | some t => if t + 10000000 ≤ s.now ∧ s.bit TIME.STATUS.SPLL_LOCK = false then s.fatal 1 (withBit s.missing 2) else s
  | none => s

/-! ### TIME.CMD -/

/-- TIME.CMD.SNAP captures the timestamp of the current fabric cycle (R32): its tick and its sub-tick fraction, rounded to the nearest
step, halves up (R35), less REF_DELAY on a unit with an ensemble role (R229). -/
def effTimeSnap (s : State) : State :=
  if s.served 0x10008 then
    let t := s.stamp (s.now * finePerNs)
    let s := s.setF TIME.SNAP_TICK_LO.TICK t.1.toNat
    let s := s.setF TIME.SNAP_TICK_HI.TICK (t.1.toNat / 2 ^ 32)
    s.setF TIME.SNAP_FRAC.FRAC t.2
  else s

/-- TIME.CMD.EPOCH_ARM arms an epoch load, or is ignored with the epoch-load notice, K = 1, when EPOCH_EN is 0 (R37). DESIGN CHOICE (log
entry 84): EPOCH_LOAD_NUM and EPOCH_LOAD_TICK are taken when EPOCH_ARM is written, so a later write of them leaves the armed load as
it is. -/
def effEpochArm (s : State) : State :=
  if s.served 0x10008 then
    if s.bit TIME.CFG.EPOCH_EN then
      let t := s.fld TIME.EPOCH_LOAD_TICK_LO.TICK + 2 ^ 32 * s.fld TIME.EPOCH_LOAD_TICK_HI.TICK
      let s := s.setF TIME.CMD.EPOCH_ARM 1
      { s with time := { s.time with armed := some (s.fld TIME.EPOCH_LOAD_NUM.NUM, BitVec.ofNat 48 t) } }
    else s.raise 21 1 0 0 0
  else s

/-- TIME.CMD.CLR_COUNTS clears TIME.COUNTS and TIME.SCHED_COUNTS. -/
def effTimeClrCounts (s : State) : State :=
  if s.served 0x10008 then
    s.clearFs [TIME.COUNTS.REF_LOSS, TIME.COUNTS.PHASE_HIT, TIME.COUNTS.SLIP, TIME.COUNTS.EPOCH_MISSING,
      TIME.SCHED_COUNTS.STALE, TIME.SCHED_COUNTS.DEADLINE]
  else s

def execEpochPulse (s : State) : Res := .next (effEpochPulse s)
def execRealignJump (s : State) : Res := .next (effRealignJump s)
def execExpectedTick (s : State) : Res := .next (effExpectedTick s)
def execEpochMissing (s : State) : Res := .next (effEpochMissing s)
def execRefclkLost (freq : Bool) (s : State) : Res := .next (effRefclkLost freq s)
def execRefclkPhaseStep (s : State) : Res := .next (effRefclkPhaseStep s)
def execPhaseStepSettled (s : State) : Res := .next (effPhaseStepSettled s)
def execRefclkValid1ms (s : State) : Res := .next (effRefclkValid1ms s)
def execSourceLocked (s : State) : Res := .next (effSourceLocked s)
def execCrystalLost (s : State) : Res := .next (effCrystalLost s)
def execSpllLockLost (s : State) : Res := .next (effSpllLockLost s)
def execSpllRelocked (s : State) : Res := .next (effSpllRelocked s)
def execSpllRelockTimeout (s : State) : Res := .next (effSpllRelockTimeout s)
def execTimeSnap (s : State) : Res := .next (effTimeSnap s)
def execEpochArm (s : State) : Res := .next (effEpochArm s)
def execTimeClrCounts (s : State) : Res := .next (effTimeClrCounts s)

end Sys2Proof.Machine
end

