-- ==== Sys2Proof/Machine/Host.lean ====
section
/-!
DEFINITION. The host interface: register writes and reads through BAR0, the BAR2 window, MSI-X, resets and power states of the
function (R6, R7, R32, R412, R424 to R434).
-/

namespace Sys2Proof.Machine

/-! ### Register writes (R6, R7, R428) -/

/-- The effects of the bits a write of `v` sets, in order. -/
def onBits (v : Nat) (l : List (Nat × (State → State))) (s : State) : State :=
  l.foldl (fun (s : State) x => if bitOf v x.1 then x.2 s else s) s

/-- Writes in TIME that have an effect of their own. -/
def writeTime (off v : Nat) : Option (State → State) :=
  if off = 0x10008 then some (onBits v [(0, effTimeSnap), (1, effEpochArm), (2, effTimeClrCounts)]) else
  if 0x11000 ≤ off ∧ off < 0x13000 then
    let n := (off - 0x11000) / 32
    let r := (off - 0x11000) % 32 / 4
    if r < 6 then some (effSchedFieldWrite n r v)
    else if r = 6 then some (onBits v [(0, effSchedCommit n), (1, effSchedCancel n)])
    else none
  else none

/-- Writes in CNV, CAL and COD. -/
def writeConverter (off v : Nat) : Option (State → State) :=
  if off = 0x2000C then some (onBits v [(0, effCnvSnapMap), (1, effCnvClrCounts)]) else
  if off = 0x30008 then some (onBits v [(0, effCalSnap), (1, effCalClrCounts)]) else
  if off = 0x60000 then some (onBits v [(0, effCodClrCounts)]) else
  if let some c := index1 0x61000 64 64 off then some (effChDecimWrite c (v % 2 ^ 16) (v / 2 ^ 16)) else
  if let some c := index1 0x61004 64 64 off then some (effChGrantWrite c v) else
  none

/-- Writes in TRG. -/
def writeTrigger (off v : Nat) : Option (State → State) :=
  if off = 0x40000 then some (onBits v [(0, effTrgClrCounts)]) else
  if off = 0x40004 then some (onBits v ((List.range 8).map fun k => (k, effForce k))) else
  if off = 0x40008 then some (effLlSelWrite v) else
  if let some i := index1 0x42004 32 128 off then some (effDetLevelWrite i v (v / 2 ^ 16)) else
  if let some i := index1 0x42008 32 128 off then some (effDetHystWrite i v) else
  if let some k := index1 0x4300C 64 8 off then some (effHoldTicksWrite k v) else
  if let some k := index1 0x43010 64 8 off then some (effHoldSamplesWrite k v) else
  if let some k := index1 0x43014 64 8 off then some (effHoldCountWrite k v) else
  none

/-- A write of ACQ.PLAN_CMD: 1 ACTIVATE, 2 DEACTIVATE, 3 ARM, 4 DISARM; other values are ignored. -/
def writePlanCmd (v : Nat) (s : State) : State :=
  let p := v % 64
  let op := v / 2 ^ 8 % 8
  if op = 1 then effPlanActivate p s
  else if op = 2 then effPlanDeactivate p s
  else if op = 3 then effPlanArm p s
  else if op = 4 then effPlanDisarm p s
  else s

/-- A write of ACQ.FOLIO_OP: 1 HOLD, 2 RELEASE; 0 and 3 are ignored. -/
def writeFolioOp (v : Nat) (s : State) : State :=
  if v % 4 = 1 then effFolioHold s else if v % 4 = 2 then effFolioRelease s else s

/-- Writes in ACQ. -/
def writeAcquisition (off v : Nat) : Option (State → State) :=
  if off = 0x50000 then some (onBits v [(0, effBookSnap)]) else
  if off = 0x5000C then some (writePlanCmd v) else
  if off = 0x50024 then some (writeFolioOp v) else
  none

/-- Writes in ACC. -/
def writeAccumulation (off v : Nat) : Option (State → State) :=
  if off = 0x70000 then some (fun s => onBits v [(4, effAccClrCounts)] (effAccClrPlane v s)) else
  if let some k := index1 0x71014 32 8 off then some (onBits v [(0, effAccFinish k), (1, effAccDiscard k 0), (2, effAccDiscard k 1)]) else
  if let some p := index1 0x72000 32 4 off then some (effPlaneSourceWrite p v) else
  if let some p := index1 0x72004 32 4 off then some (effPlaneXWrite p v) else
  if let some p := index1 0x72008 32 4 off then some (effPlaneYWrite p v) else
  if let some p := index1 0x7200C 32 4 off then some (effPlaneLookWrite p v) else
  if let some p := index1 0x72010 32 4 off then some (effPlaneScaleWrite p v) else
  if let some i := index1 0x73400 4 256 off then some (effCurveWrite i v) else
  none

/-- Writes in ENS and MEM. -/
def writeEnsemble (off v : Nat) : Option (State → State) :=
  if off = 0x80018 then some (onBits v [(0, effEnsEnum), (1, effEnsClrCounts)]) else
  if off = 0x8001C then some (effDealCmd v) else
  if off = 0x90008 then some (onBits v [(0, effMemClrCounts)]) else
  none

/-- Writes in RDO; STOP and FLUSH together act as STOP (R293). -/
def writeReadout (off v : Nat) : Option (State → State) :=
  if off = 0xA0000 then some (onBits v [(0, effRdoSnap), (1, effRdoClrCounts)]) else
  if let some q := index1 0xB0000 64 512 off then some (effQCfgWrite q v) else
  if let some q := index1 0xB0004 64 512 off then some (effQPaceWrite q v) else
  if let some q := index1 0xB0008 64 512 off then some (effQPaceToWrite q v) else
  if let some q := index1 0xB000C 64 512 off then some (effQCtlWrite q v) else
  if let some q := index1 0xB0010 64 512 off then some (effQHeadWrite q false v) else
  if let some q := index1 0xB0014 64 512 off then some (effQHeadWrite q true v) else
  if let some q := index1 0xB0018 64 512 off then some (effQCompBaseWrite q false v) else
  if let some q := index1 0xB001C 64 512 off then some (effQCompBaseWrite q true v) else
  if let some q := index1 0xB0024 64 512 off then
    some (onBits (if bitOf v 1 then withoutBit v 2 else v)
      [(0, effQueueStart q), (1, effQueueStop q), (2, effQueueFlush q), (3, effQueueResume q)]) else
  if let some q := index1 0xB0028 64 512 off then some (effQueueDoorbell q) else
  if let some q := index1 0xBC00C 16 512 off then some (effCompRdWrite q v) else
  none

/-- Writes in DSP and SEQ; PSR_EXIT goes before PSR_ENTER (R312). -/
def writeDisplay (off v : Nat) : Option (State → State) :=
  if off = 0xC0004 then
    some (onBits (if bitOf v 1 then withoutBit v 0 else v)
      [(0, effDspPsrEnter), (1, effDspPsrExit), (2, effPalCommit), (3, effDspRetrain), (4, effDspClrCounts)]) else
  if off = 0xC0030 then some (effOvlSelWrite v) else
  if off = 0xD0010 then some (onBits v [(0, effSeqSnap), (1, effSeqClrCounts)]) else
  none

/-- A write of one dword of MBX_REQ, ignored while BUSY (R342). -/
def writeMbxReq (i v : Nat) (s : State) : State :=
  if s.bit MGT.MBX_STATUS.BUSY then s else s.setF (MGT.MBX_REQ.DATA i) v

/-- Writes in MGT, SEC and BST. -/
def writeManagement (off v : Nat) : Option (State → State) :=
  if off = 0xE0008 then some (onBits v [(0, effMgtClrCounts)]) else
  if off = 0xE000C then some (effMonCtlWrite v) else
  if off = 0xE0048 then some (effLogSelWrite v) else
  if off = 0xE0084 then some effMbxDoorbell else
  if let some i := index1 0xE0100 4 64 off then some (writeMbxReq i v) else
  if off = 0xF0004 then some (onBits v [(0, effSecCmdSealNow)]) else
  if off = 0x10000C then some (onBits v [(0, effBstClrCounts)]) else
  if off = 0x100010 then some (effSigSelWrite v) else
  none

/-- A write of DEV.MODE_REQ: TARGET 1 DORMANT, 2 READY, 3 RESET with KEY. -/
def writeModeReq (v : Nat) (s : State) : State :=
  let t := v % 4
  if t = 1 then effModeReqDormant s
  else if t = 2 then effModeReqReady s
  else if t = 3 then effModeReqReset (v / 2 ^ 16) s
  else (s.requestMode 0 (v / 2 ^ 16)).2

/-- Writes in EVT. -/
def writeEvents (off v : Nat) : Option (State → State) :=
  if off = 0x110004 then some (onBits v [(0, effEvtClrCounts), (1, effEvtClrStatus)]) else
  if let some i := index1 0x110100 4 8 off then some (effEvtStatusClear i v) else
  if let some i := index1 0x110120 4 8 off then some (effEvtMaskWrite i v) else
  none

/-- The effect of its own that a write of a register has, when it has one. -/
def writeSpecial (off v : Nat) : Option (State → State) :=
  match off / 0x10000 with
  | 0 => if off = 0x8 then some (writeModeReq v) else none
  | 1 => writeTime off v
  | 2 => writeConverter off v
  | 3 => writeConverter off v
  | 4 => writeTrigger off v
  | 5 => writeAcquisition off v
  | 6 => writeConverter off v
  | 7 => writeAccumulation off v
  | 8 => writeEnsemble off v
  | 9 => writeEnsemble off v
  | 10 => writeReadout off v
  | 11 => writeReadout off v
  | 12 => writeDisplay off v
  | 13 => writeDisplay off v
  | 14 => writeManagement off v
  | 15 => writeManagement off v
  | 16 => writeManagement off v
  | 17 => writeEvents off v
  | _ => none

/-- One field of a register takes a write of the register, as its type defines (R6): an RW field the value, a W1C field loses the
bits written 1; a fault source's ROUTE.LOG is fixed (R414). -/
def writeField (v : Nat) (s : State) (x : FieldType × Fld) : State :=
  let part := v / 2 ^ (x.2.addr % 32)
  match x.1 with
  | .rw => if fixedField x.2 then s else s.setF x.2 part
  | .w1c => s.setF x.2 (clearBits x.2.width (s.fld x.2) part)
  | .ro => s
  | .wo => s
  | .w1s => s

/-- A dword written at a BAR0 offset: the register's own effect, else its fields as their types define; a reserved offset ignores
it (R6, R7, R428). -/
def State.writeReg (s : State) (off v : Nat) : State :=
  if s.served off && decide (off % 4 = 0) then
    match writeSpecial off v with
    | some f => f s
    | none => ((findReg off).getD []).foldl (writeField v) s
  else s

/-! ### MSI-X (R412, R430) -/

/-- Configuration requests are answered: out of reset, link up; in LOAD from 100 ms after the later of PERST_N deassertion and reset
release (Table 19-3). -/
def State.cfgUp (s : State) : Bool :=
  !s.dev.held && decide (s.fld DEV.HOST_STATUS.WIDTH ≠ 0) &&
    (s.mode != modeLoad || decide (max s.dev.startAt s.host.perstAt + 100000 * cyclesPerUs ≤ s.now))

/-- MSIX_EN shows MSI-X Enable set and Function Mask clear. -/
def State.showMsix (s : State) : State := s.setB DEV.HOST_STATUS.MSIX_EN (s.host.msixEn && !s.host.fmask)

/-- The pending messages whose masks are now clear are sent (R430). -/
def State.sendPending (s : State) : State :=
  if !s.host.msixEn || s.host.fmask then s
  else (s.host.pba.map Prod.fst).foldl (fun (s : State) n =>
    if Tbl.get false s.host.unmasked n then
      State.message { s with host := { s.host with pba := Tbl.set false s.host.pba n false } } n
    else s) s

/-- The mask of a vector set or cleared. -/
def State.maskVector (s : State) (n : Nat) (masked : Bool) : State :=
  State.sendPending { s with host := { s.host with unmasked := Tbl.set false s.host.unmasked n (!masked) } }

/-- The MSI-X Message Control register takes MSI-X Enable and the Function Mask. -/
def State.writeMsixControl (s : State) (enable mask : Bool) : State :=
  (State.showMsix { s with host := { s.host with msixEn := enable, fmask := mask } }).sendPending

/-- A dword of the MSI-X table written: vector control holds the mask bit; the others are kept. -/
def State.writeTable (s : State) (d v : Nat) : State :=
  if d % 4 = 3 then s.maskVector (d / 4) (bitOf v 0)
  else { s with host := { s.host with table_ := Tbl.set 0 s.host.table_ d (v % 2 ^ 32) } }

/-- MSIX_VECTOR_UNMASK: the mask of a vector, or with none the function mask, is cleared (R430). -/
def effMsixVectorUnmask (vector : Option Nat) (s : State) : State :=
  match vector with
  | some n => if s.hostUp && decide (n < 256) then s.maskVector n false else s
  | none => if s.cfgUp then s.writeMsixControl s.host.msixEn false else s

/-! ### Configuration space (R424, R425; log entry 41) -/

/-- The Command register: bit 1 Memory Space Enable, bit 2 Bus Master Enable. -/
def State.writeCommand (s : State) (v : Nat) : State :=
  State.setB { s with host := { s.host with mse := bitOf v 1 } } DEV.HOST_STATUS.BME (bitOf v 2)

/-- Device Control: Max_Payload_Size in bits 7:5; 128, 256 and 512 bytes are supported (Table 19-1). -/
def State.writeDeviceControl (s : State) (v : Nat) : State :=
  let m := v / 2 ^ 5 % 8
  if m ≤ 2 then { s with host := { s.host with mps := 128 * 2 ^ m } } else s

/-- Device Control 2: Completion Timeout Value in bits 3:0, ranges A to D, and Completion Timeout Disable in bit 4. -/
def State.writeDeviceControl2 (s : State) (v : Nat) : State :=
  let s := { s with host := { s.host with cplOff := bitOf v 4 } }
  if [0, 1, 2, 5, 6, 9, 10, 13, 14].contains (v % 16) then { s with host := { s.host with cplCode := v % 16 } } else s

/-- REGISTER_WRITE: a host write of a register takes effect as its field types define (R6). -/
def effRegisterWrite (r : HostReg) (v : Nat) (s : State) : State :=
  match r with
  | .bar0 off => s.writeReg off (v % 2 ^ 32)
  | .command => if s.cfgUp then s.writeCommand v else s
  | .msixControl => if s.cfgUp then s.writeMsixControl (bitOf v 15) (bitOf v 14) else s
  | .deviceControl => if s.cfgUp then s.writeDeviceControl v else s
  | .deviceControl2 => if s.cfgUp then s.writeDeviceControl2 v else s
  | .aerStatus => if s.cfgUp then { s with host := { s.host with aer := clearBits 32 s.host.aer v } } else s
  | .status => if s.cfgUp then { s with host := { s.host with status := clearBits 16 s.host.status v } } else s
  | .msixTable d => if s.hostUp && decide (d < 1024) then s.writeTable d v else s

/-- RESIZABLE_BAR_WRITE: a new BAR2 size, a power of two from 1 GiB to 1 TiB, with Memory Space Enable clear (R425). -/
def effResizableBarWrite (log2 : Nat) (s : State) : State :=
  if s.cfgUp && !s.host.mse && decide (30 ≤ log2 ∧ log2 ≤ 40) then { s with host := { s.host with bar2Log := log2 } } else s

/-! ### Register reads (R6, R7, R32) -/

/-- The value a read of one field shows: a WO field zero, else its current state (R6). -/
def State.fieldValue (s : State) (x : FieldType × Fld) : Nat :=
  match x.1 with
  | .wo => 0
  | _ => s.fld x.2 * 2 ^ (x.2.addr % 32)

/-- The accepted live write of a register that has not taken effect, as the dword written: levels, hysteresis and holdoff (R136), plane
registers and the density curve (R211). -/
def State.pendingWrite (s : State) (off : Nat) : Option Nat :=
  let hold : Nat → Nat → Option Nat := fun k j => ((Tbl.get [] s.trg.hold k).find? fun x => x.1 == j).map Prod.snd
  let plane : Nat → Nat → Option Nat := fun p r => ((s.plane p).pend.find? fun x => x.1 == r).map Prod.snd
  if let some i := index1 0x42004 32 128 off then (s.det i).pend.map fun x => toTwos 12 x.1 + 2 ^ 16 * toTwos 12 x.2.1 else
  if let some i := index1 0x42008 32 128 off then (s.det i).pend.map fun x => x.2.2.toNat else
  if let some k := index1 0x4300C 64 8 off then hold k 0 else
  if let some k := index1 0x43010 64 8 off then hold k 1 else
  if let some k := index1 0x43014 64 8 off then hold k 2 else
  if let some p := index1 0x72000 32 4 off then plane p 0 else
  if let some p := index1 0x72004 32 4 off then plane p 1 else
  if let some p := index1 0x72008 32 4 off then plane p 2 else
  if let some p := index1 0x7200C 32 4 off then plane p 3 else
  if let some p := index1 0x72010 32 4 off then plane p 4 else
  if let some i := index1 0x73400 4 256 off then (s.acc.curve.find? fun x => x.1 == i).map Prod.snd
  else none

/-- What a read of a field shows, with the accepted write of its register that waits to take effect: an RW field reads as it was last
written (R6, Table 00-5). -/
def State.fieldShown (s : State) (w : Option Nat) (x : FieldType × Fld) : Nat :=
  match x.1, w with
  | .rw, some v => v / 2 ^ (x.2.addr % 32) % 2 ^ x.2.width * 2 ^ (x.2.addr % 32)
  | _, _ => s.fieldValue x

/-- EVT.SUMMARY: the words of EVT.STATUS that are not zero, a fault latched, ALERT_N low. -/
def State.summary (s : State) : Nat :=
  ((List.range 8).map fun i => if s.fld (EVT.STATUS.STATUS i) = 0 then 0 else 2 ^ i).sum +
    (if (List.range 256).any (fun n => isFaultSource n && s.latched n) then 2 ^ 8 else 0) + (if s.alertLow then 2 ^ 9 else 0)

/-- The dword a BAR0 offset shows; a reserved offset reads zero (R7). -/
def State.regValue (s : State) (off : Nat) : Nat :=
  if off = 0x10010 then s.tick.toNat % 2 ^ 32
  else if off = 0x110000 then s.summary
  else (((findReg off).getD []).map (s.fieldShown (s.pendingWrite off))).sum

/-- What a read of a *_LO register latches (R32). -/
def State.latchHigh (s : State) (off : Nat) : State :=
  if off = 0x10010 then s.setF TIME.TICK_HI.TICK (s.tick.toNat / 2 ^ 32) else
  if let some g := index1 0x20040 8 4 off then
    s.setF (CNV.LAST_SWITCH_HI.TICK g) (Tbl.get 0 s.cnv.lastSwitch (4 + g) / 2 ^ 32) else
  if let some k := index1 0x43020 64 8 off then
    let x := Tbl.get 0 s.trg.last k
    ((s.setF (TRG.LAST_TICK_HI.TICK k) (x / 2 ^ 64)).setF (TRG.LAST_FRAC.FRAC k) x).setF (TRG.LAST_FRAC.QUALITY k) (x / 2 ^ 24) else
  if off = 0x50014 then s.setF ACQ.ACCESSION_HI.NEXT (s.acq.accession / 2 ^ 32) else
  if let some c := index1 0x9102C 64 12 off then s.setF (MEM.CH_ERR_HI.ADDR c) (Tbl.get 0 s.mem.errAddr c / 2 ^ 32) else
  if let some q := index1 0xB0038 64 512 off then s.setF (RDO.Q_CUR_HI.ADDR q) ((s.queue q).cur / 2 ^ 32) else
  if off = 0xE0034 then s.setF MGT.LOG_NEWEST_HI.SEQ ((s.nv.nextSeq - 1) / 2 ^ 32) else
  if off = 0xE003C then s.setF MGT.LOG_OLDEST_HI.SEQ (s.logOldest / 2 ^ 32) else
  if let some k := index1 0xF0200 16 8 off then
    s.setF (SEC.SESS_ID_HI.ID k) (match Tbl.get [] s.sec.current k with
      | x :: _ => x.id / 2 ^ 32
      | [] => 0) else
  if off = 0x11000C then s.setF EVT.FIRST_TICK_HI.TICK (s.evt.firstTick.toNat / 2 ^ 32)
  else s

/-- A read completes with a dword. -/
def State.answerRead (s : State) (v : Nat) : State :=
  State.emit { s with host := { s.host with readData := some v } } (.completion false (le 4 v))

/-- LO_REGISTER_READ: a read of a BAR0 register; of a *_LO register it latches the matching *_HI register. A block that the mode does
not serve reads zero (R32, R429). -/
def effLoRegisterRead (off : Nat) (s : State) : State :=
  if s.hostUp && decide (off % 4 = 0) then
    if s.served off then (s.latchHigh off).answerRead (s.regValue off) else s.answerRead 0
  else s

/-- BAR0_BAD_ACCESS: a request that is not an aligned dword with every byte enabled: all-ones in every byte read, a write ignored, a
count and the host access size notice (R428). -/
def effBar0BadAccess (read : Bool) (off len : Nat) (s : State) : State :=
  if s.hostUp then
    let s := (s.bumpF DEV.HOST_ERR.BAD_SIZE 1).raise 9 (if read then 0 else 1) 0 0 off
    if read then s.emit (.completion false (List.replicate len 0xFF)) else s
  else s

/-! ### BAR2 (R426, R427) -/

/-- The device address of a BAR2 offset: bits of BASE below the window's size are taken as zero (R426). -/
def State.bar2Addr (s : State) (off : Nat) : Nat :=
  let n := 2 ^ s.host.bar2Log
  s.fld DEV.BAR2_BASE.BASE * 2 ^ 30 / n * n + off

/-- BAR2 is served: CALIBRATE, READY and ACQUIRE, memory not in self-refresh (Table 19-3, R434). -/
def State.bar2Served (s : State) : Bool := s.serving && !s.dev.sleepMem

/-- A BAR2 request is refused with Unsupported Request, logged by AER and counted (R427, R431). -/
def State.bar2Refuse (s : State) : State := ((s.bumpF DEV.HOST_ERR.BAR2_UR 1).aer 20).emit .unsupported

/-- BAR2_READ (R427): it completes, or waits as its channels require (R253, R263, R268). -/
def effBar2Read (off len : Nat) (s : State) : State :=
  if s.hostUp && decide (1 ≤ len ∧ len ≤ 4096 ∧ off + len ≤ 2 ^ s.host.bar2Log) then
    if s.bar2Served then s.bar2Read (s.bar2Addr off) len s.now else s.bar2Refuse
  else s

/-- The runs of enabled bytes of a write: offset and bytes. -/
def enabledRuns : Nat → List (Option Byte) → List (Nat × List Byte)
  | _, [] => []
  | i, none :: t => enabledRuns (i + 1) t
  | i, some b :: t => match enabledRuns (i + 1) t with
    | (j, bs) :: rest => if j = i + 1 then (i, b :: bs) :: rest else (i, [b]) :: (j, bs) :: rest
    | [] => [(i, [b])]

/-- BAR2_WRITE: bytes with their enables; with EP set the poison pattern is stored (R427). -/
def effBar2Write (off : Nat) (data : List (Option Byte)) (ep : Bool) (s : State) : State :=
  if s.hostUp && decide (1 ≤ data.length ∧ data.length ≤ s.host.mps ∧ off + data.length ≤ 2 ^ s.host.bar2Log) then
    if s.bar2Served then
      let a := s.bar2Addr off
      if ep then (s.aer 12).poisonWrite reqBar2 a data.length
      else (enabledRuns 0 data).foldl (fun (s : State) x => s.dramWrite reqBar2 (a + x.1) x.2) s
    else s.bar2Refuse
  else s

/-! ### Resets and power states (R432, R433) -/

/-- What a function-level reset does to the function: configuration space and BAR4, BAR2_BASE, the queues and the mailbox of
Table 19-6. -/
def State.resetFunction (s : State) : State :=
  let host : HostSt := { s.host with mse := false, msixEn := false, fmask := false, unmasked := [], table_ := [], pba := []
                                     bar2Log := s.host.bar2Def, mps := 128, cplCode := 0, cplOff := false, status := 0 }
  let reqs := s.mgt.reqs.map fun r => if r.chan = 0 then { r with void := true } else r
  let s := { s with host := host, mgt := { s.mgt with reqs := reqs } }
  let s := s.clearFs [DEV.HOST_STATUS.BME, DEV.HOST_STATUS.MSIX_EN, DEV.HOST_STATUS.D3HOT, DEV.BAR2_BASE.BASE,
    MGT.MBX_STATUS.BUSY, MGT.MBX_STATUS.DONE]
  let s := s.clearFs ((List.range 64).map MGT.MBX_REQ.DATA ++ (List.range 64).map MGT.MBX_RSP.DATA)
  s.idleQueues

/-- FUNCTION_LEVEL_RESET (R432). -/
def effFunctionLevelReset (s : State) : State :=
  if s.cfgUp then s.resetFunction.bumpF DEV.HOST_STATUS.FLRS 1 else s

/-- The link goes down: WIDTH and SPEED read 0, and the BAR2 size returns to its default (R425, R433). -/
def State.linkDown (s : State) : State :=
  if s.fld DEV.HOST_STATUS.WIDTH = 0 then s
  else
    let s := (s.clearFs [DEV.HOST_STATUS.WIDTH, DEV.HOST_STATUS.SPEED]).bumpF DEV.HOST_STATUS.LINK_DOWNS 1
    { s with host := { s.host with bar2Log := s.host.bar2Def } }

/-- PCIE_LINK_DOWN: the link goes down without PERST_N; nothing else changes (R433). -/
def effPcieLinkDown (s : State) : State := if s.dev.held then s else s.linkDown

/-- D3HOT_ENTRY: the function decodes no BAR and issues no request (R433). -/
def effD3hotEntry (s : State) : State := if s.cfgUp then s.setF DEV.HOST_STATUS.D3HOT 1 else s

/-- D3HOT_EXIT: back in D0 without a reset (R433). -/
def effD3hotExit (s : State) : State := if s.cfgUp then s.setF DEV.HOST_STATUS.D3HOT 0 else s

/-- PERST_N_ASSERT: PERST_N is asserted or released. With PERST_POLICY = 1 its assertion resets the device; with 0 the link is down
while it is asserted, and its release acts as a function-level reset (R395, R433). -/
def effPerstNAssert (asserted : Bool) (s : State) : State :=
  let was := s.host.perst
  let s := { s with host := { s.host with perst := asserted, perstAt := if was && !asserted then s.now else s.host.perstAt } }
  if s.dev.held then s
  else if asserted && !was then
    if s.bit DEV.CFG.PERST_POLICY then s.resetDevice 2 else s.linkDown
  else if !asserted && was then
    if s.bit DEV.CFG.PERST_POLICY then s else s.resetFunction
  else s

def execRegisterWrite (r : HostReg) (v : Nat) (s : State) : Res := .next (effRegisterWrite r v s)
def execLoRegisterRead (off : Nat) (s : State) : Res := .next (effLoRegisterRead off s)
def execBar0BadAccess (read : Bool) (off len : Nat) (s : State) : Res := .next (effBar0BadAccess read off len s)
def execBar2Read (off len : Nat) (s : State) : Res := .next (effBar2Read off len s)
def execBar2Write (off : Nat) (data : List (Option Byte)) (ep : Bool) (s : State) : Res := .next (effBar2Write off data ep s)
def execFunctionLevelReset (s : State) : Res := .next (effFunctionLevelReset s)
def execPcieLinkDown (s : State) : Res := .next (effPcieLinkDown s)
def execD3hotEntry (s : State) : Res := .next (effD3hotEntry s)
def execD3hotExit (s : State) : Res := .next (effD3hotExit s)
def execPerstNAssert (asserted : Bool) (s : State) : Res := .next (effPerstNAssert asserted s)
def execMsixVectorUnmask (vector : Option Nat) (s : State) : Res := .next (effMsixVectorUnmask vector s)
def execResizableBarWrite (log2 : Nat) (s : State) : Res := .next (effResizableBarWrite log2 s)

end Sys2Proof.Machine
end

