-- ==== Sys2Proof/Machine/Tracking.lean ====
section
/-!
DEFINITION. Tracking of the slots of wide channels: what a window shows, its judging, the changes it makes (R101 to R104).
-/

namespace Sys2Proof.Machine

/-! ### What a window shows (R101) -/

/-- Samples of a window: 2^WINDOW. -/
def State.winLen (s : State) : Nat := 2 ^ s.fld CAL.BG_CFG.WINDOW

/-- Sample `n` of a window's channel: from the window, else a free value. -/
def winAt (c : Nat) (w : TrackWin) (n : Int) : Int :=
  if n < w.top then (w.xs[((w.top : Int) - 1 - n).toNat]?).getD (Config.unseen c n).toInt else (Config.unseen c n).toInt

/-- The local slope d[n], in 2^-30 LSB a sample. -/
def slopeAt (c : Nat) (w : TrackWin) (n : Int) : Int := slopeOf (winAt c w) n

/-- e[n]: the sample less its estimate from the channel's other slots, in 2^-21 LSB. -/
def State.errorAt (s : State) (c : Nat) (w : TrackWin) (n : Int) : Int :=
  2 ^ 21 * winAt c w n - Config.interpolated (s.lanes c) ((List.range 4).map fun (k : Nat) => winAt c w (n - 1 - k))
    ((List.range 4).map fun (k : Nat) => winAt c w (n + 1 + k))

/-- The samples of slot `j` among `len` samples from number `a`. -/
def State.slotNums (s : State) (c j a len : Nat) : List Int :=
  ((List.range len).map fun i => a + i).filterMap fun n => if n % s.lanes c = j then some (n : Int) else none

/-- What part of a window shows of a slot: its sample count, Σ x, Σ x², E and F. -/
structure SlotSums where
  count : Nat
  sum : Int
  power : Nat
  e : Int
  f : Nat
  deriving DecidableEq, Repr

/-- The sums of slot `j` over `len` samples from number `a`. -/
def State.slotSums (s : State) (c : Nat) (w : TrackWin) (j a len : Nat) : SlotSums :=
  let ns := s.slotNums c j a len
  { count := ns.length
    sum := (ns.map fun n => winAt c w n).sum
    power := ((ns.map fun n => winAt c w n * winAt c w n).sum).toNat
    e := (ns.map fun n => s.errorAt c w n * slopeAt c w n).sum
    f := ((ns.map fun n => slopeAt c w n * slopeAt c w n).sum).toNat }

/-- The sums of every slot over part of a window. -/
def State.allSums (s : State) (c : Nat) (w : TrackWin) (a len : Nat) : List SlotSums :=
  (List.range (s.lanes c)).map fun j => s.slotSums c w j a len

/-- The estimates of a slot: offset in 2^-16 LSB, gain in 2^-30, skew in 2^-8 fs. The skew is -E / F samples at the channel rate. DESIGN
CHOICE (log entry 97): the offset estimate is the slot's mean less the mean over all slots, so that subtracting it evens them; the formula
of the gain estimate and the skew without slope are not given. -/
def State.estimate (s : State) (c j : Nat) (all : List SlotSums) (x : SlotSums) : Int × Int × Int :=
  let n := all.length
  let total : Int := (all.map SlotSums.sum).sum
  let power := (all.map SlotSums.power).sum
  (roundDiv ((n * x.sum - total) * 65536) (n * x.count), Config.gainEstimate (n * x.power) power,
    if x.f = 0 then Config.noSlope j else roundDiv (-x.e * (512 * 10000000 * 256)) (x.f * s.spt c))

/-- The estimates of every slot from part of a window. -/
def State.estimates (s : State) (c : Nat) (w : TrackWin) (a len : Nat) : List (Int × Int × Int) :=
  let all := s.allSums c w a len
  (all.zipIdx).map fun x => s.estimate c x.2 all x.1

/-! ### Sufficiency (R102, Table 04-7) -/

/-- Clip codes are at most 1 % of the window's samples. -/
def State.clipOk (s : State) (c : Nat) (w : TrackWin) : Bool :=
  let codes := (List.range s.winLen).filter fun i => let x := winAt c w ((w.from_ + i : Nat) : Int); x == 2047 || x == -2048
  decide (100 * codes.length ≤ s.winLen)

/-- For every slot F / count is at least SLOPE_MIN LSB². -/
def State.slopeOk (s : State) (all : List SlotSums) : Bool :=
  all.all fun x => decide (s.fld CAL.BG_CFG.SLOPE_MIN * x.count * 2 ^ 60 ≤ x.f)

/-- Σ (x[n] - x[n-P])² is at least 1/16 of Σ 2 x[n]², P = 16 N. DEDUCED (log entry 97): over the samples whose n - P lies in the window. -/
def State.aperiodicOk (s : State) (c : Nat) (w : TrackWin) : Bool :=
  let p := 16 * s.lanes c
  let ns := (List.range (s.winLen - p)).map fun i => ((w.from_ + p + i : Nat) : Int)
  let diff := (ns.map fun n => (winAt c w n - winAt c w (n - p)) ^ 2).sum
  let pow := (ns.map fun n => 2 * (winAt c w n) ^ 2).sum
  decide (pow ≤ 16 * diff)

/-- The estimates from each half of the window agree within ±50 fs and ±0.05 %, for every slot. DESIGN CHOICE (log entry 98): the
percentage is of unity gain. -/
def halvesAgree (a b : List (Int × Int × Int)) : Bool :=
  (List.zipWith (fun (x y : Int × Int × Int) =>
    decide ((x.2.2 - y.2.2).natAbs ≤ 50 * 256) && decide (2000 * (x.2.1 - y.2.1).natAbs ≤ 2 ^ 30)) a b).all id

/-- Condition 4 on the halves of a window. -/
def State.halvesOk (s : State) (c : Nat) (w : TrackWin) : Bool :=
  let h := s.winLen / 2
  halvesAgree (s.estimates c w w.from_ h) (s.estimates c w (w.from_ + h) h)

/-- The conditions of Table 04-7 that a window fails, as REASON shows them (R102). -/
def State.trackReason (s : State) (c : Nat) (w : TrackWin) : Nat :=
  (if s.clipOk c w then 0 else 1) + (if s.slopeOk (s.allSums c w w.from_ s.winLen) then 0 else 2) +
    (if s.aperiodicOk c w then 0 else 4) + (if s.halvesOk c w then 0 else 8)

/-! ### The changes (R103) -/

/-- One eighth of an estimate, clamped (R103). DESIGN CHOICE (log entry 99): the eighth is rounded toward minus infinity in the fine unit of
the quantity, and a limit that is no multiple of it is cut down to one. -/
def eighth (est lim : Int) : Int := satI (est / 8) (-lim) lim

/-- The changes of a slot: offset within 0.05 LSB; gain within 0.002 % and skew within 10 fs, only after a sufficient window
(R102, R103). DESIGN CHOICE (log entry 98): the gain's limit is taken of unity gain, and the change is added to the gain. -/
def trackChange (full : Bool) (e : Int × Int × Int) : Int × Int × Int :=
  (eighth e.1 3276, if full then eighth e.2.1 21474 else 0, if full then eighth e.2.2 2560 else 0)

/-- The window contains the switch instant of a lane of the channel, or an arm or disarm of the plan that holds it (R104). -/
def State.trackDisturbed (s : State) (c : Nat) (w : TrackWin) : Bool :=
  let a := fineOf (s.spt c) w.from_
  let b := fineOf (s.spt c) ((w.from_ + s.winLen - 1 : Nat) : Int)
  let inside : Nat → Bool := fun t => decide (a ≤ t) && decide (t ≤ b)
  (s.cnv.switches.any fun x => inside x.2 && s.chanOf x.1 == c) ||
    (Tbl.get [] s.cal.disturb c).any fun cyc => inside (cyc * finePerNs)

/-- Tracking changes due at the next 64-sample boundary. -/
def State.setTrack (s : State) (c : Nat) (ch : List (Int × Int × Int)) (full : Bool) : State :=
  { s with cal := { s.cal with track := Tbl.set [] s.cal.track c ch, trackFull := Tbl.set false s.cal.trackFull c full } }

/-- The window after one that has ended: it keeps the four samples before its first. -/
def State.nextWin (s : State) (w : TrackWin) : TrackWin :=
  { w with from_ := w.from_ + s.winLen, xs := w.xs.take (w.top - (w.from_ + s.winLen) + 4) }

/-- A window of channel `c` is judged (R102 to R104). -/
def State.judgeWin (s : State) (c : Nat) (w : TrackWin) : State :=
  if s.trackDisturbed c w then (s.setTrack c [] false).bumpF CAL.COUNTS.DISCARDS 1
  else
    let r := s.trackReason c w
    let ests := s.estimates c w w.from_ s.winLen
    if r = 0 then s.setTrack c (ests.map (trackChange true)) true
    else
      let s := (s.bumpF (CAL.TRACK_STATUS.INSUFF c) 1).setF (CAL.TRACK_STATUS.REASON c) r
      s.setTrack c (if r % 2 = 0 then ests.map (trackChange false) else []) false

/-- TRACK_WINDOW_END: the window of wide channel `c` that begins at sample `first` is complete, with the samples its slopes need, and is
judged; the next one follows it (R101, R102, R104). -/
def effTrackWindowEnd (c first : Nat) (s : State) : State :=
  match Tbl.get none s.cal.win c with
  | some w =>
    if s.tracked c && w.from_ == first && decide (w.from_ + s.winLen + 4 ≤ w.top) then (s.judgeWin c w).setWin c (some (s.nextWin w)) else s
  | none => s

/-- One slot's change applied, stopping at the limits (R103); the answer says whether its gain and whether its skew was stopped now. -/
def State.applySlot (s : State) (l : Nat) (e : Int × Int × Int) : (Bool × Bool) × State :=
  let off := satI (Tbl.get 0 s.cal.slotOffset l + e.1) (-(32768 * 1024)) (32767 * 1024)
  let g := Tbl.get 1073741824 s.cal.slotGain l + e.2.1
  let k := Tbl.get 0 s.cal.slotSkew l + e.2.2
  let g' := satI g 0 (65535 * 32768)
  let k' := satI k (-512000) 512000
  ((decide (g ≠ g'), decide (k ≠ k')),
   { s with cal := { s.cal with slotOffset := Tbl.set 0 s.cal.slotOffset l off
                                slotGain := Tbl.set 1073741824 s.cal.slotGain l g'
                                slotSkew := Tbl.set 0 s.cal.slotSkew l k' } })

/-- The slot gain (0) or the slot skew (1) of a lane lies at an end of its range. -/
def State.atLimit (s : State) (l q : Nat) : Bool :=
  let g := Tbl.get 1073741824 s.cal.slotGain l
  if q = 0 then decide (g = 0) || decide (g = 65535 * 32768) else decide ((Tbl.get 0 s.cal.slotSkew l).natAbs = 512000)

/-- Quantity `q` of a lane, 0 gain or 1 skew, after a change: stopped now, it is held at its limit, with the tracking-limit notice when it
was not held before; held before, it stays so until a change brings it back (R103). -/
def State.holdLimit (s : State) (c j l q : Nat) (stopped : Bool) : State :=
  let held := Tbl.get false s.cal.limits (2 * l + q)
  let s := { s with cal := { s.cal with limits := Tbl.set false s.cal.limits (2 * l + q) (stopped || (held && s.atLimit l q)) } }
  if stopped && !held then s.raise 62 0 c j 0 else s

/-- Slot `j` of channel `c` applies its change; a gain or a skew stopped at its limit is held there (R103). -/
def State.trackSlot (s : State) (c j : Nat) (e : Int × Int × Int) : State :=
  let l := s.slotLane c j
  let r := s.applySlot l e
  (r.2.holdLimit c j l 0 r.1.1).holdLimit c j l 1 r.1.2

/-- At the next 64-sample boundary every slot of the channel applies its changes (R103). -/
def effTrackUpdateApply (c : Nat) (s : State) : State :=
  let ch := Tbl.get [] s.cal.track c
  if !ch.isEmpty && s.at64 && decide (c < 64) then
    let full := Tbl.get false s.cal.trackFull c
    let s := (ch.zipIdx).foldl (fun (s : State) x => s.trackSlot c x.2 x.1) s
    let s := s.setB (CAL.TRACK_STATUS.LIMIT c) ((s.lanesOf c).any fun l => Tbl.get false s.cal.limits (2 * l) || Tbl.get false s.cal.limits (2 * l + 1))
    let s := if full then s.bumpF (CAL.TRACK_STATUS.UPDATES c) 1 else s
    s.setTrack c [] false
  else s

def execTrackWindowEnd (c first : Nat) (s : State) : Res := .next (effTrackWindowEnd c first s)
def execTrackUpdateApply (c : Nat) (s : State) : Res := .next (effTrackUpdateApply c s)

end Sys2Proof.Machine
end

