-- ==== Sys2Proof/Machine/Dispatch.lean ====
section
/-!
DEFINITION. The meaning of each command: one call each.
-/

namespace Sys2Proof.Machine

/-- The effect of a command on everything but the queue. -/
def exec (i : Instr) (s : State) : Host.Outcome State Fault Refusal :=
  match i with
  | .registerWrite r v => Sys2Proof.Machine.execRegisterWrite r v s
  | .loRegisterRead off => Sys2Proof.Machine.execLoRegisterRead off s
  | .bar0BadAccess read off len => Sys2Proof.Machine.execBar0BadAccess read off len s
  | .bar2Read off len => Sys2Proof.Machine.execBar2Read off len s
  | .bar2Write off data ep => Sys2Proof.Machine.execBar2Write off data ep s
  | .functionLevelReset => Sys2Proof.Machine.execFunctionLevelReset s
  | .pcieLinkDown => Sys2Proof.Machine.execPcieLinkDown s
  | .pcieLinkRetrain width speed => Sys2Proof.Machine.execPcieLinkRetrain width speed s
  | .d3hotEntry => Sys2Proof.Machine.execD3hotEntry s
  | .perstNAssert asserted => Sys2Proof.Machine.execPerstNAssert asserted s
  | .powerOn => Sys2Proof.Machine.execPowerOn s
  | .vddAonLoss => Sys2Proof.Machine.execVddAonLoss s
  | .resetNAssert => Sys2Proof.Machine.execResetNAssert s
  | .thermalTrip => Sys2Proof.Machine.execThermalTrip s
  | .thermalTripRelease => Sys2Proof.Machine.execThermalTripRelease s
  | .watchdogExpiry => Sys2Proof.Machine.execWatchdogExpiry s
  | .firmwareVerified misr => Sys2Proof.Machine.execFirmwareVerified misr s
  | .imageVerified monStart refAuto bar2 patchReadBack fuses => Sys2Proof.Machine.execImageVerified monStart refAuto bar2 patchReadBack fuses s
  | .dramTrainingDone rankFails subFails => Sys2Proof.Machine.execDramTrainingDone rankFails subFails s
  | .loadSelfTestDone results refs => Sys2Proof.Machine.execLoadSelfTestDone results refs s
  | .catalogueReinitDone p => Sys2Proof.Machine.execCatalogueReinitDone p s
  | .loadComplete inputs => Sys2Proof.Machine.execLoadComplete inputs s
  | .calibrateComplete items loopback => Sys2Proof.Machine.execCalibrateComplete items loopback s
  | .modeReqDormant => Sys2Proof.Machine.execModeReqDormant s
  | .modeReqReady => Sys2Proof.Machine.execModeReqReady s
  | .modeReqReset key => Sys2Proof.Machine.execModeReqReset key s
  | .dormantEntryDone => Sys2Proof.Machine.execDormantEntryDone s
  | .wakeTickReached => Sys2Proof.Machine.execWakeTickReached s
  | .dormantExitDone => Sys2Proof.Machine.execDormantExitDone s
  | .refclkLost freq => Sys2Proof.Machine.execRefclkLost freq s
  | .refclkPhaseStep => Sys2Proof.Machine.execRefclkPhaseStep s
  | .refclkValid1ms => Sys2Proof.Machine.execRefclkValid1ms s
  | .sourceLocked => Sys2Proof.Machine.execSourceLocked s
  | .crystalLost => Sys2Proof.Machine.execCrystalLost s
  | .epochPulse => Sys2Proof.Machine.execEpochPulse s
  | .realignJump => Sys2Proof.Machine.execRealignJump s
  | .expectedTick => Sys2Proof.Machine.execExpectedTick s
  | .epochMissing => Sys2Proof.Machine.execEpochMissing s
  | .spllLockLost => Sys2Proof.Machine.execSpllLockLost s
  | .spllRelocked => Sys2Proof.Machine.execSpllRelocked s
  | .spllRelockTimeout => Sys2Proof.Machine.execSpllRelockTimeout s
  | .timeSnap => Sys2Proof.Machine.execTimeSnap s
  | .epochArm => Sys2Proof.Machine.execEpochArm s
  | .timeClrCounts => Sys2Proof.Machine.execTimeClrCounts s
  | .schedCommit n => Sys2Proof.Machine.execSchedCommit n s
  | .schedCancel n => Sys2Proof.Machine.execSchedCancel n s
  | .schedFieldWrite n r v => Sys2Proof.Machine.execSchedFieldWrite n r v s
  | .schedDispatch n => Sys2Proof.Machine.execSchedDispatch n s
  | .schedWindowClose n => Sys2Proof.Machine.execSchedWindowClose n s
  | .actionArm n => Sys2Proof.Machine.execActionArm n s
  | .actionDisarm n => Sys2Proof.Machine.execActionDisarm n s
  | .actionDeal n => Sys2Proof.Machine.execActionDeal n s
  | .actionShuffle n => Sys2Proof.Machine.execActionShuffle n s
  | .actionBistSlice n => Sys2Proof.Machine.execActionBistSlice n s
  | .actionMonSeq n => Sys2Proof.Machine.execActionMonSeq n s
  | .actionPsrEnter n => Sys2Proof.Machine.execActionPsrEnter n s
  | .actionPsrExit n => Sys2Proof.Machine.execActionPsrExit n s
  | .actionRdoStart n => Sys2Proof.Machine.execActionRdoStart n s
  | .actionDramRetrain n => Sys2Proof.Machine.execActionDramRetrain n s
  | .actionRefreshMakeup n => Sys2Proof.Machine.execActionRefreshMakeup n s
  | .actionTimeMark n => Sys2Proof.Machine.execActionTimeMark n s
  | .shadowFrameStart g => Sys2Proof.Machine.execShadowFrameStart g s
  | .shadowFrameEnd g first incoming outgoing => Sys2Proof.Machine.execShadowFrameEnd g first incoming outgoing s
  | .shuffleSwitch g => Sys2Proof.Machine.execShuffleSwitch g s
  | .shuffleRelease g => Sys2Proof.Machine.execShuffleRelease g s
  | .bgRunComplete sl attempts loopBack => Sys2Proof.Machine.execBgRunComplete sl attempts loopBack s
  | .cnvSnapMap => Sys2Proof.Machine.execCnvSnapMap s
  | .cnvClrCounts => Sys2Proof.Machine.execCnvClrCounts s
  | .trackWindowEnd c first => Sys2Proof.Machine.execTrackWindowEnd c first s
  | .trackUpdateApply c => Sys2Proof.Machine.execTrackUpdateApply c s
  | .calSnap => Sys2Proof.Machine.execCalSnap s
  | .calClrCounts => Sys2Proof.Machine.execCalClrCounts s
  | .evaluationInstant slot l => Sys2Proof.Machine.execEvaluationInstant slot l s
  | .detectorStuck j => Sys2Proof.Machine.execDetectorStuck j s
  | .trigInActivation j ago glitches => Sys2Proof.Machine.execTrigInActivation j ago glitches s
  | .pinStuck j => Sys2Proof.Machine.execPinStuck j s
  | .force k => Sys2Proof.Machine.execForce k s
  | .detLevelWrite j lh ll => Sys2Proof.Machine.execDetLevelWrite j lh ll s
  | .detHystWrite j h => Sys2Proof.Machine.execDetHystWrite j h s
  | .holdTicksWrite k v => Sys2Proof.Machine.execHoldTicksWrite k v s
  | .holdSamplesWrite k v => Sys2Proof.Machine.execHoldSamplesWrite k v s
  | .holdCountWrite k v => Sys2Proof.Machine.execHoldCountWrite k v s
  | .rearmPoint slot => Sys2Proof.Machine.execRearmPoint slot s
  | .holdoffEnd k => Sys2Proof.Machine.execHoldoffEnd k s
  | .llSelWrite v => Sys2Proof.Machine.execLlSelWrite v s
  | .trgClrCounts => Sys2Proof.Machine.execTrgClrCounts s
  | .trigOutPulse n => Sys2Proof.Machine.execTrigOutPulse n s
  | .trigOutPulseEnd n => Sys2Proof.Machine.execTrigOutPulseEnd n s
  | .planActivate p => Sys2Proof.Machine.execPlanActivate p s
  | .planDeactivate p => Sys2Proof.Machine.execPlanDeactivate p s
  | .planArm p => Sys2Proof.Machine.execPlanArm p s
  | .planDisarm p => Sys2Proof.Machine.execPlanDisarm p s
  | .admission => Sys2Proof.Machine.execAdmission s
  | .commit k => Sys2Proof.Machine.execCommit k s
  | .recordEnd k ch => Sys2Proof.Machine.execRecordEnd k ch s
  | .recordSeal k ch => Sys2Proof.Machine.execRecordSeal k ch s
  | .folioDeadline p f => Sys2Proof.Machine.execFolioDeadline p f s
  | .folioHold => Sys2Proof.Machine.execFolioHold s
  | .folioRelease => Sys2Proof.Machine.execFolioRelease s
  | .bookSnap => Sys2Proof.Machine.execBookSnap s
  | .elasticOvf lane n => Sys2Proof.Machine.execElasticOvf lane n s
  | .chDecimWrite c dm1 phi => Sys2Proof.Machine.execChDecimWrite c dm1 phi s
  | .chGrantWrite c g => Sys2Proof.Machine.execChGrantWrite c g s
  | .codClrCounts => Sys2Proof.Machine.execCodClrCounts s
  | .accumAddEnd k => Sys2Proof.Machine.execAccumAddEnd k s
  | .bankComplete k => Sys2Proof.Machine.execBankComplete k s
  | .accFinish k => Sys2Proof.Machine.execAccFinish k s
  | .accDiscard k b => Sys2Proof.Machine.execAccDiscard k b s
  | .accClrPlane mask => Sys2Proof.Machine.execAccClrPlane mask s
  | .accClrCounts => Sys2Proof.Machine.execAccClrCounts s
  | .planeSourceWrite p v => Sys2Proof.Machine.execPlaneSourceWrite p v s
  | .planeXWrite p v => Sys2Proof.Machine.execPlaneXWrite p v s
  | .planeYWrite p v => Sys2Proof.Machine.execPlaneYWrite p v s
  | .planeLookWrite p v => Sys2Proof.Machine.execPlaneLookWrite p v s
  | .planeScaleWrite p v => Sys2Proof.Machine.execPlaneScaleWrite p v s
  | .curveWrite j v => Sys2Proof.Machine.execCurveWrite j v s
  | .composerFrame => Sys2Proof.Machine.execComposerFrame s
  | .composerFrameDone => Sys2Proof.Machine.execComposerFrameDone s
  | .callReceive p second bs => Sys2Proof.Machine.execCallReceive p second bs s
  | .callDeliver => Sys2Proof.Machine.execCallDeliver s
  | .callLost src q => Sys2Proof.Machine.execCallLost src q s
  | .enumScan p bs => Sys2Proof.Machine.execEnumScan p bs s
  | .enumReport p bs => Sys2Proof.Machine.execEnumReport p bs s
  | .enumAssign p bs => Sys2Proof.Machine.execEnumAssign p bs s
  | .enumAck p bs => Sys2Proof.Machine.execEnumAck p bs s
  | .enumDone p bs => Sys2Proof.Machine.execEnumDone p bs s
  | .enumReportDue => Sys2Proof.Machine.execEnumReportDue s
  | .enumAssignDue => Sys2Proof.Machine.execEnumAssignDue s
  | .enumAckTimeout => Sys2Proof.Machine.execEnumAckTimeout s
  | .enumDoneDue => Sys2Proof.Machine.execEnumDoneDue s
  | .enumerationStart => Sys2Proof.Machine.execEnumerationStart s
  | .ensEnum => Sys2Proof.Machine.execEnsEnum s
  | .dealArm p bs => Sys2Proof.Machine.execDealArm p bs s
  | .dealDisarm p bs => Sys2Proof.Machine.execDealDisarm p bs s
  | .dealActionDue id => Sys2Proof.Machine.execDealActionDue id s
  | .dealCmd v => Sys2Proof.Machine.execDealCmd v s
  | .timeMessage p bs => Sys2Proof.Machine.execTimeMessage p bs s
  | .timeSend => Sys2Proof.Machine.execTimeSend s
  | .statMessage p bs => Sys2Proof.Machine.execStatMessage p bs s
  | .statSend => Sys2Proof.Machine.execStatSend s
  | .unitPresenceTimeout a => Sys2Proof.Machine.execUnitPresenceTimeout a s
  | .dealerLost => Sys2Proof.Machine.execDealerLost s
  | .dealerTakeover => Sys2Proof.Machine.execDealerTakeover s
  | .dealerWaitEnd => Sys2Proof.Machine.execDealerWaitEnd s
  | .restartWindowEnd => Sys2Proof.Machine.execRestartWindowEnd s
  | .tokenRequest p bs sub => Sys2Proof.Machine.execTokenRequest p bs sub s
  | .tokenReply p bs sub => Sys2Proof.Machine.execTokenReply p bs sub s
  | .tokenSend p => Sys2Proof.Machine.execTokenSend p s
  | .blockLockAcquired p => Sys2Proof.Machine.execBlockLockAcquired p s
  | .neighbourAbsent p => Sys2Proof.Machine.execNeighbourAbsent p s
  | .ensClrCounts => Sys2Proof.Machine.execEnsClrCounts s
  | .phyLockLost c => Sys2Proof.Machine.execPhyLockLost c s
  | .phyLockRegained c => Sys2Proof.Machine.execPhyLockRegained c s
  | .channelLost c => Sys2Proof.Machine.execChannelLost c s
  | .refreshDue c r busy => Sys2Proof.Machine.execRefreshDue c r busy s
  | .makeupBurst c r => Sys2Proof.Machine.execMakeupBurst c r s
  | .retrainPauseDone c ok ns => Sys2Proof.Machine.execRetrainPauseDone c ok ns s
  | .correctedError c r => Sys2Proof.Machine.execCorrectedError c r s
  | .uncorrectableError a => Sys2Proof.Machine.execUncorrectableError a s
  | .caParityError c r => Sys2Proof.Machine.execCaParityError c r s
  | .rowThrottle c bank req row => Sys2Proof.Machine.execRowThrottle c bank req row s
  | .throttleEnd => Sys2Proof.Machine.execThrottleEnd s
  | .migrationRowDone c => Sys2Proof.Machine.execMigrationRowDone c s
  | .displayPanicRaise => Sys2Proof.Machine.execDisplayPanicRaise s
  | .displayPanicRelease => Sys2Proof.Machine.execDisplayPanicRelease s
  | .memClrCounts => Sys2Proof.Machine.execMemClrCounts s
  | .queueStart q => Sys2Proof.Machine.execQueueStart q s
  | .queueStop q => Sys2Proof.Machine.execQueueStop q s
  | .queueFlush q => Sys2Proof.Machine.execQueueFlush q s
  | .queueResume q => Sys2Proof.Machine.execQueueResume q s
  | .queueDoorbell q => Sys2Proof.Machine.execQueueDoorbell q s
  | .compRdWrite q v => Sys2Proof.Machine.execCompRdWrite q v s
  | .qCfgWrite q v => Sys2Proof.Machine.execQCfgWrite q v s
  | .qPaceWrite q v => Sys2Proof.Machine.execQPaceWrite q v s
  | .qPaceToWrite q v => Sys2Proof.Machine.execQPaceToWrite q v s
  | .qCtlWrite q v => Sys2Proof.Machine.execQCtlWrite q v s
  | .qHeadWrite q hi v => Sys2Proof.Machine.execQHeadWrite q hi v s
  | .qCompBaseWrite q hi v => Sys2Proof.Machine.execQCompBaseWrite q hi v s
  | .descriptorFetched q data => Sys2Proof.Machine.execDescriptorFetched q data s
  | .readoutBurst => Sys2Proof.Machine.execReadoutBurst s
  | .readbackComplete q => Sys2Proof.Machine.execReadbackComplete q s
  | .hostRequestFailed q cause => Sys2Proof.Machine.execHostRequestFailed q cause s
  | .paceTimeout q => Sys2Proof.Machine.execPaceTimeout q s
  | .rdoSnap => Sys2Proof.Machine.execRdoSnap s
  | .rdoClrCounts => Sys2Proof.Machine.execRdoClrCounts s
  | .frameStart => Sys2Proof.Machine.execFrameStart s
  | .underrun x y => Sys2Proof.Machine.execUnderrun x y s
  | .dspPsrEnter => Sys2Proof.Machine.execDspPsrEnter s
  | .dspPsrExit => Sys2Proof.Machine.execDspPsrExit s
  | .palCommit => Sys2Proof.Machine.execPalCommit s
  | .dspRetrain => Sys2Proof.Machine.execDspRetrain s
  | .dspClrCounts => Sys2Proof.Machine.execDspClrCounts s
  | .ovlSelWrite v => Sys2Proof.Machine.execOvlSelWrite v s
  | .linkTrainingDone ok psr => Sys2Proof.Machine.execLinkTrainingDone ok psr s
  | .hpdLoss => Sys2Proof.Machine.execHpdLoss s
  | .hpdReturn => Sys2Proof.Machine.execHpdReturn s
  | .irqHpd psrError => Sys2Proof.Machine.execIrqHpd psrError s
  | .seqInterrupt u => Sys2Proof.Machine.execSeqInterrupt u s
  | .next u ce => Sys2Proof.Machine.execNext u ce s
  | .jump u c addr ce => Sys2Proof.Machine.execJump u c addr ce s
  | .call u c addr ce => Sys2Proof.Machine.execCall u c addr ce s
  | .ret u c ce => Sys2Proof.Machine.execRet u c ce s
  | .wait u c ce => Sys2Proof.Machine.execWait u c ce s
  | .dispatch u addr d ce => Sys2Proof.Machine.execDispatch u addr d ce s
  | .reti u ce => Sys2Proof.Machine.execReti u ce s
  | .illegalNa u ce => Sys2Proof.Machine.execIllegalNa u ce s
  | .ctxParity u => Sys2Proof.Machine.execCtxParity u s
  | .machineCheck u cause => Sys2Proof.Machine.execMachineCheck u cause s
  | .doubleMachineCheck u => Sys2Proof.Machine.execDoubleMachineCheck u s
  | .emergencyShuffle lane => Sys2Proof.Machine.execEmergencyShuffle lane s
  | .takeoverSeal lane => Sys2Proof.Machine.execTakeoverSeal lane s
  | .patchWordRewrite w => Sys2Proof.Machine.execPatchWordRewrite w s
  | .seqSnap => Sys2Proof.Machine.execSeqSnap s
  | .seqClrCounts => Sys2Proof.Machine.execSeqClrCounts s
  | .mbxDoorbell => Sys2Proof.Machine.execMbxDoorbell s
  | .uartFrame bs => Sys2Proof.Machine.execUartFrame bs s
  | .uartGapTimeout => Sys2Proof.Machine.execUartGapTimeout s
  | .getIdentity => Sys2Proof.Machine.execGetIdentity s
  | .getState => Sys2Proof.Machine.execGetState s
  | .modeRequest => Sys2Proof.Machine.execModeRequest s
  | .logInfo => Sys2Proof.Machine.execLogInfo s
  | .logRead => Sys2Proof.Machine.execLogRead s
  | .logSeal => Sys2Proof.Machine.execLogSeal s
  | .calRead => Sys2Proof.Machine.execCalRead s
  | .monRead => Sys2Proof.Machine.execMonRead s
  | .updBegin => Sys2Proof.Machine.execUpdBegin s
  | .updWrite => Sys2Proof.Machine.execUpdWrite s
  | .updWriteDram => Sys2Proof.Machine.execUpdWriteDram s
  | .updUnitWritten readBack => Sys2Proof.Machine.execUpdUnitWritten readBack s
  | .updVerify => Sys2Proof.Machine.execUpdVerify s
  | .updActivate => Sys2Proof.Machine.execUpdActivate s
  | .updCommit => Sys2Proof.Machine.execUpdCommit s
  | .updAbort => Sys2Proof.Machine.execUpdAbort s
  | .updStatus => Sys2Proof.Machine.execUpdStatus s
  | .getCert => Sys2Proof.Machine.execGetCert s
  | .getAnchors => Sys2Proof.Machine.execGetAnchors s
  | .sessionInfo => Sys2Proof.Machine.execSessionInfo s
  | .sealNow => Sys2Proof.Machine.execSealNow s
  | .attest => Sys2Proof.Machine.execAttest s
  | .secCmdSealNow => Sys2Proof.Machine.execSecCmdSealNow s
  | .monConversionDone raws => Sys2Proof.Machine.execMonConversionDone raws s
  | .monSeqStart => Sys2Proof.Machine.execMonSeqStart s
  | .pulseWidthEvent sources => Sys2Proof.Machine.execPulseWidthEvent sources s
  | .injectStart => Sys2Proof.Machine.execInjectStart s
  | .monCtlWrite v => Sys2Proof.Machine.execMonCtlWrite v s
  | .refSettled => Sys2Proof.Machine.execRefSettled s
  | .logCommit => Sys2Proof.Machine.execLogCommit s
  | .logSelWrite v => Sys2Proof.Machine.execLogSelWrite v s
  | .mgtClrCounts => Sys2Proof.Machine.execMgtClrCounts s
  | .bistSliceDone g results => Sys2Proof.Machine.execBistSliceDone g results s
  | .sigSelWrite v => Sys2Proof.Machine.execSigSelWrite v s
  | .bstClrCounts => Sys2Proof.Machine.execBstClrCounts s
  | .evtStatusClear j v => Sys2Proof.Machine.execEvtStatusClear j v s
  | .evtMaskWrite j v => Sys2Proof.Machine.execEvtMaskWrite j v s
  | .evtClrCounts => Sys2Proof.Machine.execEvtClrCounts s
  | .evtClrStatus => Sys2Proof.Machine.execEvtClrStatus s
  | .resetNRelease => Sys2Proof.Machine.execResetNRelease s
  | .pwrEvtDeassert => Sys2Proof.Machine.execPwrEvtDeassert s
  | .trigInDeactivation j ago gaps => Sys2Proof.Machine.execTrigInDeactivation j ago gaps s
  | .phaseStepSettled => Sys2Proof.Machine.execPhaseStepSettled s
  | .makeupBurstEnd c r => Sys2Proof.Machine.execMakeupBurstEnd c r s
  | .linkRereadComplete q link => Sys2Proof.Machine.execLinkRereadComplete q link s
  | .msixVectorUnmask vector => Sys2Proof.Machine.execMsixVectorUnmask vector s
  | .resizableBarWrite log2 => Sys2Proof.Machine.execResizableBarWrite log2 s
  | .d3hotExit => Sys2Proof.Machine.execD3hotExit s
  | .crystalStart ref => Sys2Proof.Machine.execCrystalStart ref s

end Sys2Proof.Machine
end

