-- ==== Sys2Proof/Machine/Idle.lean ====
section
/-!
DEFINITION. What passes with time while no command waits: one fabric cycle, and the registers that show how far an activity of a known
nominal duration has come (Tables 03-4, 04-2, 04-5; log entries 6, 100).
-/

namespace Sys2Proof.Machine

/-- A step of Table 04-2 that runs: its number, progress units, nominal duration in ms, ms added per retry round, and how many rounds it
may have. -/
structure CalStep where
  num : Nat
  units : Nat
  ms : Nat
  added : Nat
  rounds : Nat
  deriving DecidableEq, Repr

/-- The steps of Table 04-2 that run (R87). -/
def State.calSteps (s : State) : List CalStep :=
  let trunks := ((List.range 4).filter s.trunk).length
  let refs := ((List.range 4).filter fun g => s.trunk g && s.chanOf (16 * g) != 16 * g).length
  [⟨1, 1, 60, 0, 0⟩, ⟨2, 68, 420, 100, 2⟩, ⟨3, 256, 180, 40, 2⟩] ++ (if trunks = 0 then [] else [⟨4, 17 * trunks, 120, 30, 2⟩]) ++
    (if refs = 0 then [] else [⟨5, refs, 140, 40, 2⟩]) ++ (if trunks = 0 then [] else [⟨6, 16 * trunks, 700, 130, 2⟩]) ++
    [⟨7, 68, 100, 20, 1⟩, ⟨8, 1, 80, 0, 0⟩]

/-- The items of a step that are still in hand after its attempt `a`, before its last: some, and no more than after the attempt before. -/
def calLeft (seed : Nat) (st : CalStep) : Nat → Nat
  | 0 => st.units
  | a + 1 => max 1 (min (Config.calLeft seed st.num (a + 1)) (calLeft seed st a))

/-- The step in progress at `ms`, its attempt, and the units finished: an attempt ends for all its items at once, and a retry round follows
for those that failed (R87, R88). How many rounds a step has is a free value. The last step ends with its command. -/
def calPlace (seed : Nat) : List CalStep → Nat → Nat × Nat × Nat
  | [], _ => (8, 1, 0)
  | st :: t, ms =>
    let rounds := min st.rounds (Config.calRounds seed st.num)
    if ms < st.ms + rounds * st.added ∨ t = [] then
      let a := if rounds = 0 ∨ ms < st.ms then 0 else 1 + (ms - st.ms) / st.added
      (st.num, a + 1, st.units - calLeft seed st a)
    else
      let r := calPlace seed t (ms - st.ms - rounds * st.added)
      (r.1, r.2.1, r.2.2 + st.units)

/-- Power-up calibration shows its step, the attempt and the progress of Table 04-2 (R88, R107). DESIGN CHOICE (log entry 100): the retry
rounds and what they leave are free values of the calibration; CALIBRATE_COMPLETE then counts the items themselves. -/
def State.showCal (s : State) : State :=
  if s.mode = modeCalibrate ∧ s.dev.held = false then
    let (n, a, pos) := calPlace s.cal.calAt s.calSteps ((s.now - s.cal.calAt) / 1000000)
    let s := ((s.setF CAL.STATUS.STEP n).setF CAL.STATUS.ATTEMPT a).setF CAL.PROGRESS.POS pos
    s.setF CAL.STATUS.PCT (100 * pos / s.fld CAL.PROGRESS.TOTAL)
  else s

/-- What a background run shows, `d` cycles after its start, with so many further attempts: settling to 10 us, calibrating to 12 ms and 12 ms
more for each further attempt, then its loop-back check (Table 04-5). -/
def bgShown (rounds d : Nat) : Nat := if d < 10000 then 1 else if d < 12000000 * (1 + min 2 rounds) then 2 else 3

/-- Background runs show where they are (Table 04-5). DESIGN CHOICE (log entry 100): how many further attempts a run makes is a free value
of its slice and start. -/
def State.showBg (s : State) : State :=
  s.cal.bgRun.foldl (fun (s : State) x => match x.2 with
    | some t => s.setF (CAL.SLICE_STATE.BG_STATE x.1) (bgShown (Config.bgRounds x.1 t) (s.now - t))
    | none => s) s

/-- A shuffle step shows evaluate from the end of its shadow frame (Table 03-4). -/
def State.showShadow (s : State) (g : Nat) : State :=
  match s.stepOf g with
  | some st => match st.shadowAt, st.switchAt with
    | some t, none => if t + 1024 ≤ s.now then s.setF (CNV.GROUP_STATUS.STEP g) 3 else s
    | _, _ => s
  | none => s

/-- The most a step of Table 17-12 lasts of those whose end no command tells, in cycles. -/
def stepMax (n : Nat) : Nat :=
  (if n = 1 then 20000 else if n = 2 then 60000 else if n = 4 then 120000 else 15000) * cyclesPerUs

/-- DEV.STARTUP.STAGE moves on to the next step of Table 17-12 where no command tells the end of one: step 1, 2, 4 or 7 after a time within its
maximum, which is a free value (DESIGN CHOICE, log entry 125), step 9 when every catalogue is re-initialised (R405). -/
def State.showSteps (s : State) : State :=
  let n := s.fld DEV.STARTUP.STAGE
  let past := decide (s.dev.stageAt + min (stepMax n) (Config.stepTime n s.dev.stageAt) ≤ s.now)
  if s.mode = modeLoad ∧ s.dev.held = false ∧ (([1, 2, 4, 7].contains n && past) ||
      (n == 9 && s.library.all fun pl => !s.bit (ACQ.LIB_CFG.STALE pl.num))) = true then s.showStage (n + 1)
  else s

/-- A make-up burst lasts 4.0 us at the most: it ends then, unless MAKEUP_BURST_END came before (R259). -/
def State.boundBursts (s : State) : State :=
  s.mem.burst.foldl (fun (s : State) (x : Nat × Nat) =>
    if x.2 = 2 ∧ Tbl.get 0 s.mem.burstAt x.1 + 3999 ≤ s.now then s.endBurst (x.1 / 4) (x.1 % 4) else s) s

/-- A cycle of the Quoda ports: what can be sent is sent, a second copy that has not come is missed, clocks are compensated (R218, R219,
R224). -/
def State.runPort (s : State) (p : Nat) : State := ((s.pumpPort p).missPair p).compensate p

/-- One fabric cycle passes while no command waits. -/
def State.pass (s : State) : State :=
  let s := ((s.doFolioOps.repace.finishCtl.finishEnrol.advance.reissueAll.runPort 0).runPort 1).flushAssigns.boundBursts
  let s := s.showBg.showCal.showFetch.showSteps.flushReqs.burnFuses.stageDropped.closeSnap.dormantNext
  (List.range 4).foldl State.showShadow s

end Sys2Proof.Machine
end

