-- ==== Sys2Proof/Machine/Step.lean ====
section
/-!
DEFINITION. One step: the command at the front of the queue, or one fabric cycle when none waits.
-/

namespace Sys2Proof.Machine

/-- One step of the block: the front command runs with the rest of the queue; on an empty queue one fabric cycle passes (log
entry 6). -/
def step (s : State) : Host.Outcome State Fault Refusal :=
  match s.pending with
  | [] => .next s.pass
  | c :: rest => exec c { s with pending := rest }

/-- The state with the command a table word spells at the front of the queue; the table spells none. -/
def State.withFetchWord (s : State) (nbits w : Nat) : State :=
  match decodeTableWord nbits w with
  | some c => { s with pending := c :: s.pending }
  | none => s

end Sys2Proof.Machine
end

