-- ==== Sys2Proof/WellFormed.lean ====
section
/-!
DEFINITION. Which commands the hardware has: indices within the units the spec gives it, values within the widths of the registers
they go to. The meanings are total: they say what they do with every command.
-/

namespace Sys2Proof

/-- A register a host write can address: an aligned BAR0 offset within 4 MiB, a configuration register, a dword of the MSI-X table
(R425, R428). -/
def HostReg.wf : HostReg → Bool
  | .bar0 off => decide (off < 2 ^ 22) && decide (off % 4 = 0)
  | .command => true
  | .msixControl => true
  | .deviceControl => true
  | .deviceControl2 => true
  | .aerStatus => true
  | .status => true
  | .msixTable d => decide (d < 1024)

/-- A MISR of 64 bits, or five levels with a conversion of 12 bits each (R344, R379, R380). -/
def PartTest.wf : PartTest → Bool
  | .logic misr => decide (misr < 2 ^ 64)
  | .analogue levels => decide (levels.length = 5) && levels.all fun x => decide (x.2.2 < 4096)

/-- The 4096 raw conversions of a slice in a shadow frame, 14 decisions each (Table 03-4). -/
def convs (xs : List Nat) : Bool := xs.length == 4096 && xs.all fun x => decide (x < 2 ^ 14)

/-- A command the hardware has. -/
def Instr.wf : Instr → Bool
  | .registerWrite r v => r.wf && decide (v < 2 ^ 32)
  | .loRegisterRead off => decide (off < 2 ^ 22) && decide (off % 4 = 0)
  | .bar0BadAccess _ off len => decide (off < 2 ^ 22) && decide (len ≤ 4096)
  | .bar2Read off len => decide (off < 2 ^ 40) && decide (1 ≤ len) && decide (len ≤ 4096)
  | .bar2Write off data _ => decide (off < 2 ^ 40) && decide (1 ≤ data.length) && decide (data.length ≤ 512)
  | .functionLevelReset => true
  | .pcieLinkDown => true
  | .pcieLinkRetrain width speed => (width == 4 || width == 8 || width == 16) && decide (1 ≤ speed) && decide (speed ≤ 5)
  | .d3hotEntry => true
  | .perstNAssert _ => true
  | .powerOn => true
  | .vddAonLoss => true
  | .resetNAssert => true
  | .thermalTrip => true
  | .thermalTripRelease => true
  | .watchdogExpiry => true
  | .firmwareVerified _ => true
  | .imageVerified _ _ _ _ fuses => decide (fuses.length ≤ 48)
  | .dramTrainingDone rankFails subFails => (rankFails.all fun x => decide (x.1 < 12) && decide (x.2 < 4)) && (subFails.all fun c => decide (c < 12))
  | .loadSelfTestDone results refs => results.all PartTest.wf && decide (refs.length ≤ 8)
  | .catalogueReinitDone p => decide (p < 64)
  | .loadComplete inputs => (inputs.all fun x => decide (x.input < 64))
  | .calibrateComplete _ loopback => decide (loopback.length ≤ 68)
  | .modeReqDormant => true
  | .modeReqReady => true
  | .modeReqReset key => decide (key < 2 ^ 16)
  | .dormantEntryDone => true
  | .wakeTickReached => true
  | .dormantExitDone => true
  | .refclkLost _ => true
  | .refclkPhaseStep => true
  | .refclkValid1ms => true
  | .sourceLocked => true
  | .crystalLost => true
  | .epochPulse => true
  | .realignJump => true
  | .expectedTick => true
  | .epochMissing => true
  | .spllLockLost => true
  | .spllRelocked => true
  | .spllRelockTimeout => true
  | .timeSnap => true
  | .epochArm => true
  | .timeClrCounts => true
  | .schedCommit n => decide (n < 256)
  | .schedCancel n => decide (n < 256)
  | .schedFieldWrite n r v => decide (n < 256) && decide (r < 6) && decide (v < 2 ^ 32)
  | .schedDispatch n => decide (n < 256)
  | .schedWindowClose n => decide (n < 256)
  | .actionArm n => decide (n < 256)
  | .actionDisarm n => decide (n < 256)
  | .actionDeal n => decide (n < 256)
  | .actionShuffle n => decide (n < 256)
  | .actionBistSlice n => decide (n < 256)
  | .actionMonSeq n => decide (n < 256)
  | .actionPsrEnter n => decide (n < 256)
  | .actionPsrExit n => decide (n < 256)
  | .actionRdoStart n => decide (n < 256)
  | .actionDramRetrain n => decide (n < 256)
  | .actionRefreshMakeup n => decide (n < 256)
  | .actionTimeMark n => decide (n < 256)
  | .shadowFrameStart g => decide (g < 4)
  | .shadowFrameEnd g _ a b => decide (g < 4) && convs a && convs b
  | .shuffleSwitch g => decide (g < 4)
  | .shuffleRelease g => decide (g < 4)
  | .bgRunComplete sl _ _ => decide (sl < 68)
  | .cnvSnapMap => true
  | .cnvClrCounts => true
  | .trackWindowEnd c _ => decide (c < 64)
  | .trackUpdateApply c => decide (c < 64)
  | .calSnap => true
  | .calClrCounts => true
  | .evaluationInstant slot l => (slot.all fun k => decide (k < 8)) && (l.all fun x => decide (x.1 < 64) && x.2.all fun r => decide (r < 2 ^ 14))
  | .detectorStuck i => decide (i < 128)
  | .trigInActivation i _ _ => decide (i < 4)
  | .pinStuck i => decide (i < 4)
  | .force k => decide (k < 8)
  | .detLevelWrite i lh ll => decide (i < 128) && decide (lh < 2 ^ 12) && decide (ll < 2 ^ 12)
  | .detHystWrite i h => decide (i < 128) && decide (h < 2 ^ 8)
  | .holdTicksWrite k v => decide (k < 8) && decide (v < 2 ^ 32)
  | .holdSamplesWrite k v => decide (k < 8) && decide (v < 2 ^ 32)
  | .holdCountWrite k v => decide (k < 8) && decide (v < 2 ^ 32)
  | .rearmPoint slot => slot.all fun k => decide (k < 8)
  | .holdoffEnd k => decide (k < 8)
  | .llSelWrite v => decide (v < 2 ^ 32)
  | .trgClrCounts => true
  | .trigOutPulse n => decide (n < 2)
  | .trigOutPulseEnd n => decide (n < 2)
  | .planActivate p => decide (p < 64)
  | .planDeactivate p => decide (p < 64)
  | .planArm p => decide (p < 64)
  | .planDisarm p => decide (p < 64)
  | .admission => true
  | .commit k => decide (k < 8)
  | .recordEnd k ch => decide (k < 8) && decide (ch < 64)
  | .recordSeal k ch => decide (k < 8) && decide (ch < 64)
  | .folioDeadline p _ => decide (p < 64)
  | .folioHold => true
  | .folioRelease => true
  | .bookSnap => true
  | .elasticOvf lane _ => decide (lane < 64)
  | .chDecimWrite c dm1 phi => decide (c < 64) && decide (dm1 < 2 ^ 16) && decide (phi < 2 ^ 16)
  | .chGrantWrite c g => decide (c < 64) && decide (g < 2 ^ 13)
  | .codClrCounts => true
  | .accumAddEnd k => decide (k < 8)
  | .bankComplete k => decide (k < 8)
  | .accFinish k => decide (k < 8)
  | .accDiscard k b => decide (k < 8) && decide (b < 2)
  | .accClrPlane mask => decide (mask < 16)
  | .accClrCounts => true
  | .planeSourceWrite p v => decide (p < 4) && decide (v < 2 ^ 32)
  | .planeXWrite p v => decide (p < 4) && decide (v < 2 ^ 32)
  | .planeYWrite p v => decide (p < 4) && decide (v < 2 ^ 32)
  | .planeLookWrite p v => decide (p < 4) && decide (v < 2 ^ 32)
  | .planeScaleWrite p v => decide (p < 4) && decide (v < 2 ^ 32)
  | .curveWrite i v => decide (i < 256) && decide (v < 2 ^ 32)
  | .composerFrame => true
  | .composerFrameDone => true
  | .callReceive p _ _ => decide (p < 2)
  | .callDeliver => true
  | .callLost src q => decide (src < 256) && decide (q < 2 ^ 15)
  | .enumScan p _ => decide (p < 2)
  | .enumReport p _ => decide (p < 2)
  | .enumAssign p _ => decide (p < 2)
  | .enumAck p _ => decide (p < 2)
  | .enumDone p _ => decide (p < 2)
  | .enumReportDue => true
  | .enumAssignDue => true
  | .enumAckTimeout => true
  | .enumDoneDue => true
  | .enumerationStart => true
  | .ensEnum => true
  | .dealArm p _ => decide (p < 2)
  | .dealDisarm p _ => decide (p < 2)
  | .dealActionDue _ => true
  | .dealCmd v => decide (v < 2 ^ 32)
  | .timeMessage p _ => decide (p < 2)
  | .timeSend => true
  | .statMessage p _ => decide (p < 2)
  | .statSend => true
  | .unitPresenceTimeout a => decide (1 ≤ a) && decide (a ≤ 254)
  | .dealerLost => true
  | .dealerTakeover => true
  | .dealerWaitEnd => true
  | .restartWindowEnd => true
  | .tokenRequest p _ _ => decide (p < 2)
  | .tokenReply p _ _ => decide (p < 2)
  | .tokenSend p => decide (p < 2)
  | .blockLockAcquired p => decide (p < 2)
  | .neighbourAbsent p => decide (p < 2)
  | .ensClrCounts => true
  | .phyLockLost c => decide (c < 12)
  | .phyLockRegained c => decide (c < 12)
  | .channelLost c => decide (c < 12)
  | .refreshDue c r _ => decide (c < 12) && decide (r < 4)
  | .makeupBurst c r => decide (c < 12) && decide (r < 4)
  | .retrainPauseDone c _ ns => decide (c < 12) && decide (ns ≤ 1500)
  | .correctedError c r => decide (c < 12) && decide (r < 4)
  | .uncorrectableError a => decide (a < 2 ^ 40)
  | .caParityError c r => decide (c < 12) && decide (r < 4)
  | .rowThrottle c bank req row => decide (c < 12) && decide (bank < 256) && decide (req < 1536) && decide (row < 131072)
  | .throttleEnd => true
  | .migrationRowDone c => decide (c < 12)
  | .displayPanicRaise => true
  | .displayPanicRelease => true
  | .memClrCounts => true
  | .queueStart q => decide (q < 512)
  | .queueStop q => decide (q < 512)
  | .queueFlush q => decide (q < 512)
  | .queueResume q => decide (q < 512)
  | .queueDoorbell q => decide (q < 512)
  | .compRdWrite q v => decide (q < 512) && decide (v < 2 ^ 32)
  | .qCfgWrite q v => decide (q < 512) && decide (v < 2 ^ 32)
  | .qPaceWrite q v => decide (q < 512) && decide (v < 2 ^ 32)
  | .qPaceToWrite q v => decide (q < 512) && decide (v < 2 ^ 32)
  | .qCtlWrite q v => decide (q < 512) && decide (v < 2 ^ 32)
  | .qHeadWrite q _ v => decide (q < 512) && decide (v < 2 ^ 32)
  | .qCompBaseWrite q _ v => decide (q < 512) && decide (v < 2 ^ 32)
  | .descriptorFetched q data => decide (q < 512) && decide (data.length = 32)
  | .readoutBurst => true
  | .readbackComplete q => decide (q < 512)
  | .hostRequestFailed q cause => decide (q < 512) && decide (cause < 16)
  | .paceTimeout q => decide (q < 512)
  | .rdoSnap => true
  | .rdoClrCounts => true
  | .frameStart => true
  | .underrun x y => decide (x < 2 ^ 16) && decide (y < 2 ^ 16)
  | .dspPsrEnter => true
  | .dspPsrExit => true
  | .palCommit => true
  | .dspRetrain => true
  | .dspClrCounts => true
  | .ovlSelWrite v => decide (v < 2 ^ 32)
  | .linkTrainingDone _ _ => true
  | .hpdLoss => true
  | .hpdReturn => true
  | .irqHpd _ => true
  | .seqInterrupt u => decide (u < 69)
  | .next u _ => decide (u < 69)
  | .jump u _ addr _ => decide (u < 69) && decide (addr < 2 ^ 15)
  | .call u _ addr _ => decide (u < 69) && decide (addr < 2 ^ 15)
  | .ret u _ _ => decide (u < 69)
  | .wait u _ _ => decide (u < 69)
  | .dispatch u addr d _ => decide (u < 69) && decide (addr < 2 ^ 15) && decide (d < 16)
  | .reti u _ => decide (u < 69)
  | .illegalNa u _ => decide (u < 69)
  | .ctxParity u => decide (u < 68)
  | .machineCheck u cause => decide (u < 69) && decide (1 ≤ cause) && decide (cause ≤ 8)
  | .doubleMachineCheck u => decide (u < 68)
  | .emergencyShuffle lane => decide (lane < 64)
  | .takeoverSeal lane => decide (lane < 64)
  | .patchWordRewrite w => decide (w < 512)
  | .seqSnap => true
  | .seqClrCounts => true
  | .mbxDoorbell => true
  | .uartFrame bs => decide (bs.length ≤ 260)
  | .uartGapTimeout => true
  | .getIdentity => true
  | .getState => true
  | .modeRequest => true
  | .logInfo => true
  | .logRead => true
  | .logSeal => true
  | .calRead => true
  | .monRead => true
  | .updBegin => true
  | .updWrite => true
  | .updWriteDram => true
  | .updUnitWritten _ => true
  | .updVerify => true
  | .updActivate => true
  | .updCommit => true
  | .updAbort => true
  | .updStatus => true
  | .getCert => true
  | .getAnchors => true
  | .sessionInfo => true
  | .sealNow => true
  | .attest => true
  | .secCmdSealNow => true
  | .monConversionDone raws => (raws.all fun x => decide (x < 4096))
  | .monSeqStart => true
  | .pulseWidthEvent sources => decide (sources < 32)
  | .injectStart => true
  | .monCtlWrite v => decide (v < 2 ^ 32)
  | .refSettled => true
  | .logCommit => true
  | .logSelWrite v => decide (v < 2 ^ 32)
  | .mgtClrCounts => true
  | .bistSliceDone g results => decide (g < 4) && results.all PartTest.wf
  | .sigSelWrite v => decide (v < 2 ^ 32)
  | .bstClrCounts => true
  | .evtStatusClear i v => decide (i < 8) && decide (v < 2 ^ 32)
  | .evtMaskWrite i v => decide (i < 8) && decide (v < 2 ^ 32)
  | .evtClrCounts => true
  | .evtClrStatus => true
  | .resetNRelease => true
  | .pwrEvtDeassert => true
  | .trigInDeactivation i _ _ => decide (i < 4)
  | .phaseStepSettled => true
  | .makeupBurstEnd c r => decide (c < 12) && decide (r < 4)
  | .linkRereadComplete q link => decide (q < 512) && decide (link < 2 ^ 64)
  | .msixVectorUnmask vector => vector.all fun n => decide (n < 256)
  | .resizableBarWrite log2 => decide (30 ≤ log2) && decide (log2 ≤ 40)
  | .d3hotExit => true
  | .crystalStart _ => true

end Sys2Proof
end

