-- ==== Sys2Proof/Safety.lean ====
section
/-!
DEFINITION. What counts as a safe run: every command is one the hardware has, and every step answers a next state. The terms in which
claims are stated: which register fields a command may change, what reporting an event changes, when a state is sound.
-/

namespace Sys2Proof

/-- A step goes on. -/
def goesOn (s : Machine.State) : Prop := ∃ t, Machine.step s = .next t

/-- The queue holds only commands the hardware has. -/
def queueWf (s : Machine.State) : Bool := s.pending.all Instr.wf

/-- A run of `k` steps goes on throughout. -/
def safeRun (k : Nat) (s : Machine.State) : Prop := ∃ t, Host.Core.run core k s = .next t

namespace Machine

/-- `t` is `s` but for the register fields that start at the bits `A`. -/
def onlyRegs (A : List Nat) (s t : State) : Prop :=
  (∀ g : Fld, g.addr ∉ A → t.fld g = s.fld g) ∧ { t with regs := s.regs } = s

/-- The field belongs to the event block, or is the log's drop counter: what the raising of an event may change. -/
def isReport (g : Fld) : Bool := g.addr / 524288 == 17 || g.addr == MGT.LOG_STATUS.DROPPED.addr

/-- `t` is `s` but for the register fields at the bits `A` and for what the raising of an event changes: the event registers, the
log staged, the MSI-X messages pending and sent. -/
def onlyReports (A : List Nat) (s t : State) : Prop :=
  (∀ g : Fld, g.addr ∉ A → isReport g = false → t.fld g = s.fld g) ∧
  { t with regs := s.regs, mgt := s.mgt, host := s.host, evt := s.evt, out := s.out } = s

/-- Event source `n` occurred with KIND, INDEX and ARG in the present fabric cycle: latched and its detail shown, unless an occurrence
of the same cycle with a higher-numbered raising unit keeps it (R411, R415). -/
def reported (n k i a : Nat) (t : State) : Prop :=
  t.latched n = true ∧ t.justSeen n = true ∧
    if Tbl.get 0 t.evt.kept n = t.now + 1 then
      raisingUnit n i a < raisingUnit n (t.fld (EVT.DETAIL.INDEX n)) (t.fld (EVT.DETAIL.ARG n))
    else t.fld (EVT.DETAIL.KIND n) = k ∧ t.fld (EVT.DETAIL.INDEX n) = i ∧ t.fld (EVT.DETAIL.ARG n) = a

/-- `t` is `s` but for register fields of the block whose window starts at 65536 times `b` (Table 19-3). -/
def onlyBlock (b : Nat) (s t : State) : Prop :=
  (∀ g : Fld, g.addr / 524288 ≠ b → t.fld g = s.fld g) ∧ { t with regs := s.regs } = s

/-- A counter field stands one higher, or at its limit; where a CLR_COUNTS has cleared it in the same fabric cycle, which takes
precedence (R85), it stands as it stood. -/
def counted (f : Fld) (s t : State) : Prop :=
  t.fld f = if s.justCleared f then s.fld f else min (s.fld f + 1) (2 ^ f.width - 1)

/-- The register file is in key order, device DRAM is in its canonical form, and the cycle lies within its tick. -/
def State.sound (s : State) : Prop := Tbl.sorted s.regs = true ∧ Tbl.wf 0 s.mem.bytes = true ∧ s.cyc < cyclesPerTick

end Machine

end Sys2Proof
end

