-- ==== Sys2Proof/Certificates/Slice0/Obligations.lean ====
section
/-!
DEFINITION. The statements for the provers. The vocabulary they share (which register fields a command may change, what reporting an
event may change beside them) is in Sys2Proof/Safety.lean.
-/

open Sys2Proof Sys2Proof.Machine

/-! ### The machine -/

/-- A step runs the command at the front of the queue on the state with the queue's rest. -/
def Obligations.StepRunsTheFrontCommand : Prop :=
  ∀ (s : State) (c : Instr) (rest : List Instr), s.pending = c :: rest → step s = exec c { s with pending := rest }

/-- After reset every register field holds its reset value, but for DEV.STARTUP.STAGE, whose first step is in progress; the mode is
LOAD, the tick count 0, no event latched, nothing waits and nothing is stored (R8, R394, R395; the values that log entries 1, 3
and 7 name are the model's). The reset state is sound. -/
def Obligations.ResetHoldsTheResetValues : Prop :=
  ((∀ f : Fld, f.addr ≠ DEV.STARTUP.STAGE.addr → State.reset.fld f = f.reset) ∧ State.reset.fld DEV.STARTUP.STAGE = 1 ∧
  State.reset.mode = modeLoad ∧ State.reset.tick = 0 ∧ (∀ n, State.reset.latched n = false) ∧
  State.reset.pending = [] ∧ State.reset.out = [] ∧ State.reset.acq = {} ∧ State.reset.mem = {} ∧
  ∀ c a, State.reset.dramByte c a = 0) ∧
  (State.reset.sound)

/-- Every step from a sound state that answers a next state answers a sound one: the register file stays in key order, device DRAM
canonical, the cycle within its tick. -/
def Obligations.StepKeepsTheStateSound : Prop :=
  ∀ s t : State, s.sound → step s = .next t → t.sound

/-- On an empty queue a step passes one fabric cycle, ten of which make a tick (R32; the model's choice, log entry 6); where nothing
waits (on a Quoda port, a readout queue, the mailbox, the log or the flash; a folio command, a snapshot, a DORMANT request) and
nothing that takes time is under way (a make-up burst, background run, shuffle step, display frame, UPD_COMMIT or enrolment, LOAD
or CALIBRATE), nothing else changes. Every step of a state goes on: no command of the table faults or is refused. -/
def Obligations.TimePassesOnAnEmptyQueue : Prop :=
  (∀ s : State, s.pending = [] → s.cyc < 10 → ∃ t, step s = .next t ∧ t.now = s.now + 1 ∧
    (s.cyc < 9 → t.tick = s.tick ∧ t.cyc = s.cyc + 1) ∧ (s.cyc = 9 → t.tick = s.tick + 1 ∧ t.cyc = 0) ∧
    ((∀ p < 2, s.advance.runPort p = s.advance) → s.mem.burst = [] → s.cal.bgRun = [] → s.cnv.step = [] → s.mode ≠ modeCalibrate →
      s.mode ≠ modeLoad → s.mgt.reqs = [] → s.mgt.burn = none → s.mgt.dropPend = 0 → s.nv.ctlBusy = none → s.dev.enrolDue = false →
      s.dev.dormantDue = false → s.acq.folioOps = [] → s.acq.snapAt = none → s.rdo.q = [] → s.ens.assignDue = [] → s.fetching = false →
      { t with tick := s.tick, cyc := s.cyc, now := s.now } = s)) ∧
  (∀ s : State, goesOn s)

/-! ### Host interface (chapter 19) -/

/-- A write of a register without an effect of its own (R6, R7): each of its fields that is RW takes its part of the value, a W1C one
loses the bits written 1, the others and every other field stay; a reserved offset and a block that the mode does not serve take
nothing; a register with an effect of its own has that effect (its own statements say which). The configuration space (R424, R430,
R431; log entries 41, 109): Memory Space Enable and Bus Master Enable, MSI-X Enable and Function Mask, Max_Payload_Size, the
completion timeout, the error bits cleared by a 1; a dword of the MSI-X table. A read of a register answers the dword it shows and
latches what R32 lets it latch; a read of TIME.TICK_LO answers the low half of the tick count and latches the high half (R32); a
read in a block that the mode does not serve answers zero and latches nothing (R429). A BAR0 request that is not one aligned whole
dword counts in HOST_ERR.BAD_SIZE and raises the host access size notice; a read answers all-ones in every byte, a write changes
nothing else (R428). -/
def Obligations.Bar0AccessesFollowTheirRules : Prop :=
  ((∀ (s : State) (off v : Nat) (fs : FoundReg), s.served off = true → off % 4 = 0 → writeSpecial off (v % 2 ^ 32) = none →
    findReg off = some fs → (fs.map fun x => x.2.addr).Nodup →
    ∃ t, exec (.registerWrite (.bar0 off) v) s = .next t ∧ onlyRegs (fs.map fun x => x.2.addr) s t ∧ ∀ x ∈ fs,
      t.fld x.2 = if x.1 = .rw ∧ fixedField x.2 = false then v % 2 ^ 32 / 2 ^ (x.2.addr % 32) % 2 ^ x.2.width
        else if x.1 = .w1c then clearBits x.2.width (s.fld x.2) (v % 2 ^ 32 / 2 ^ (x.2.addr % 32)) % 2 ^ x.2.width
        else s.fld x.2) ∧
  (∀ (s : State) (off v : Nat) (f : State → State), s.served off = true → off % 4 = 0 → writeSpecial off (v % 2 ^ 32) = some f →
    exec (.registerWrite (.bar0 off) v) s = .next (f s)) ∧
  (∀ (s : State) (v : Nat), s.cfgUp = true →
    (∃ t, exec (.registerWrite .command v) s = .next t ∧ t.host = { s.host with mse := bitOf v 1 } ∧
      t.fld DEV.HOST_STATUS.BME = (if bitOf v 2 then 1 else 0) ∧ onlyRegs [DEV.HOST_STATUS.BME.addr] s { t with host := s.host }) ∧
    (s.host.pba = [] → ∃ t, exec (.registerWrite .msixControl v) s = .next t ∧
      t.host = { s.host with msixEn := bitOf v 15, fmask := bitOf v 14 } ∧
      t.fld DEV.HOST_STATUS.MSIX_EN = (if bitOf v 15 && !bitOf v 14 then 1 else 0) ∧
      onlyRegs [DEV.HOST_STATUS.MSIX_EN.addr] s { t with host := s.host }) ∧
    exec (.registerWrite .deviceControl v) s = .next { s with host := { s.host with
      mps := if v / 2 ^ 5 % 8 ≤ 2 then 128 * 2 ^ (v / 2 ^ 5 % 8) else s.host.mps } } ∧
    exec (.registerWrite .deviceControl2 v) s = .next { s with host := { s.host with
      cplOff := bitOf v 4
      cplCode := if [0, 1, 2, 5, 6, 9, 10, 13, 14].contains (v % 16) then v % 16 else s.host.cplCode } } ∧
    exec (.registerWrite .aerStatus v) s = .next { s with host := { s.host with aer := clearBits 32 s.host.aer v } } ∧
    exec (.registerWrite .status v) s = .next { s with host := { s.host with status := clearBits 16 s.host.status v } }) ∧
  (∀ (s : State) (d v : Nat), s.hostUp = true → d < 1024 → d % 4 ≠ 3 →
    exec (.registerWrite (.msixTable d) v) s = .next { s with host := { s.host with
      table_ := Tbl.set 0 s.host.table_ d (v % 2 ^ 32) } }) ∧
  ∀ (s : State) (off v : Nat),
    (s.served off = true → off % 4 = 0 → writeSpecial off (v % 2 ^ 32) = none →
      (∀ f, findReg off = some [(.rw, f)] → fixedField f = false →
        ∃ t, exec (.registerWrite (.bar0 off) v) s = .next t ∧
          t.fld f = v % 2 ^ 32 / 2 ^ (f.addr % 32) % 2 ^ f.width ∧ onlyRegs [f.addr] s t) ∧
      (∀ f, findReg off = some [(.ro, f)] → exec (.registerWrite (.bar0 off) v) s = .next s) ∧
      (findReg off = none → exec (.registerWrite (.bar0 off) v) s = .next s)) ∧
    (s.served off = false → exec (.registerWrite (.bar0 off) v) s = .next s)) ∧
  (∀ s : State,
    (s.served 0x10010 = true → ∃ t, exec (.loRegisterRead 0x10010) s = .next t ∧
      t.fld TIME.TICK_HI.TICK = s.tick.toNat / 2 ^ 32 ∧ t.host.readData = some (s.tick.toNat % 2 ^ 32) ∧
      t.out = .completion false (le 4 (s.tick.toNat % 2 ^ 32)) :: s.out ∧
      (∀ g : Fld, g.addr ≠ TIME.TICK_HI.TICK.addr → t.fld g = s.fld g) ∧ t.tick = s.tick ∧ t.mem = s.mem ∧ t.pending = s.pending) ∧
    (∀ off, s.served off = true → off % 4 = 0 → exec (.loRegisterRead off) s = .next ((s.latchHigh off).answerRead (s.regValue off)) ∧
      ((s.latchHigh off).answerRead (s.regValue off)).host.readData = some (s.regValue off) ∧
      ((s.latchHigh off).answerRead (s.regValue off)).out = .completion false (le 4 (s.regValue off)) :: s.out) ∧
    (∀ off, s.hostUp = true → off % 4 = 0 → s.served off = false → ∃ t, exec (.loRegisterRead off) s = .next t ∧
      t.host.readData = some 0 ∧ t.regs = s.regs ∧ t.out = .completion false (le 4 0) :: s.out)) ∧
  (∀ (s : State) (off len : Nat), s.hostUp = true →
    (∃ t, exec (.bar0BadAccess true off len) s = .next t ∧
      counted DEV.HOST_ERR.BAD_SIZE s t ∧
      reported 9 0 0 0 t ∧ t.out.head? = some (.completion false (List.replicate len 0xFF)) ∧
      onlyReports [DEV.HOST_ERR.BAD_SIZE.addr] s t) ∧
    (∃ t, exec (.bar0BadAccess false off len) s = .next t ∧
      counted DEV.HOST_ERR.BAD_SIZE s t ∧
      reported 9 1 0 0 t ∧ onlyReports [DEV.HOST_ERR.BAD_SIZE.addr] s t))

/-- A BAR2 offset addresses device address BASE × 2^30 with the bits below the window's size taken as zero, plus the offset: the
window starts on a multiple of its size; a granule beyond the mapped space is unmapped (R426, R249). A BAR2 read that nothing
holds back completes with the bytes of device DRAM, all-ones where unmapped, with EP set when a burst of them is poisoned or
unmapped; where all is mapped no byte, no poison and no register but the count of RFM commands changes. One that has to wait joins
the requests that wait. Where the mode does not serve BAR2 it answers Unsupported Request, which AER logs, and counts it (R427,
R431). A BAR2 write with every byte enabled, within one mapped granule that nothing holds back, stores its bytes there and leaves
every byte at another place of the DRAM; with EP set it stores the poison pattern in the bursts it covers; where the mode does not
serve BAR2 it is discarded with Unsupported Request and counted (R427). -/
def Obligations.Bar2AccessesReachDeviceMemory : Prop :=
  (∀ (s : State) (off : Nat), off < 2 ^ s.host.bar2Log →
    s.bar2Addr off % 2 ^ s.host.bar2Log = off ∧ s.bar2Addr off ≤ s.fld DEV.BAR2_BASE.BASE * 2 ^ 30 + off ∧
    s.fld DEV.BAR2_BASE.BASE * 2 ^ 30 < s.bar2Addr off + 2 ^ s.host.bar2Log ∧
    (s.mem.ways.length * s.fld MEM.MAPG.MAPG ≤ s.bar2Addr off / 4096 → s.phys (s.bar2Addr off) = none)) ∧
  (∀ (s : State) (off len : Nat), s.hostUp = true → 1 ≤ len → len ≤ 4096 → off + len ≤ 2 ^ s.host.bar2Log →
    (s.bar2Served = true → s.rangeWaits reqBar2 (s.bar2Addr off) len = false →
      ∃ t, exec (.bar2Read off len) s = .next t ∧ t.out.head? = some (.completion (s.rangePoisoned (s.bar2Addr off) len)
          (s.bar2Bytes (s.bar2Addr off) len)) ∧ t.mem.bytes = s.mem.bytes ∧ t.mem.poison = s.mem.poison ∧
        (s.mappedRange (s.bar2Addr off) len = true → (∀ g : Fld, (∀ c, g.addr ≠ (MEM.CH_RH.RFM c).addr) → t.fld g = s.fld g) ∧
          { t with regs := s.regs, mem := s.mem, out := s.out } = s)) ∧
    (s.bar2Served = true → s.rangeWaits reqBar2 (s.bar2Addr off) len = true →
      ∃ h : Waiting, exec (.bar2Read off len) s = .next { s with mem := { s.mem with held := s.mem.held ++ [h] } } ∧
        h.addr = s.bar2Addr off ∧ h.len = len ∧ h.req = reqBar2 ∧ h.data = none ∧ h.at_ = s.now) ∧
    (s.bar2Served = false → ∃ t, exec (.bar2Read off len) s = .next t ∧ counted DEV.HOST_ERR.BAR2_UR s t ∧
      t.out = .unsupported :: s.out ∧ bitOf t.host.aer 20 = true ∧ onlyRegs [DEV.HOST_ERR.BAR2_UR.addr] s
        { t with out := s.out, host := s.host })) ∧
  (∀ (s : State) (off : Nat) (bs : List Byte) (ep : Bool), s.hostUp = true → 1 ≤ bs.length → bs.length ≤ s.host.mps →
    off + bs.length ≤ 2 ^ s.host.bar2Log →
    (s.bar2Served = true → s.bar2Addr off % 4096 + bs.length ≤ 4096 → (s.phys (s.bar2Addr off)).isSome = true →
      s.waitsAt reqBar2 (s.bar2Addr off) bs.length = none →
      (∃ t, exec (.bar2Write off (bs.map some) false) s = .next t ∧
        (∀ i < bs.length, t.peek (s.bar2Addr off + i) = bs.getD i 0) ∧
        (∀ a, (∀ i < bs.length, s.phys (s.bar2Addr off + i) ≠ s.phys a) → t.peek a = s.peek a)) ∧
      (∃ t, exec (.bar2Write off (bs.map some) true) s = .next t ∧ bitOf t.host.aer 12 = true ∧ t.mem.bytes = s.mem.bytes ∧
        ∀ i < bs.length, ∀ c b, s.phys (s.bar2Addr off + i) = some (c, b) → t.poisoned c b = true)) ∧
    (s.bar2Served = false → ∃ t, exec (.bar2Write off (bs.map some) ep) s = .next t ∧ counted DEV.HOST_ERR.BAR2_UR s t ∧
      t.out = .unsupported :: s.out ∧ t.mem = s.mem))

/-- The register fields that a function-level reset clears (R432). -/
def Sys2Proof.Machine.functionResetFields : List Fld :=
  [DEV.HOST_STATUS.BME, DEV.HOST_STATUS.MSIX_EN, DEV.HOST_STATUS.D3HOT, DEV.BAR2_BASE.BASE, MGT.MBX_STATUS.BUSY,
    MGT.MBX_STATUS.DONE] ++ (List.range 64).map MGT.MBX_REQ.DATA ++ (List.range 64).map MGT.MBX_RSP.DATA

/-- The link and power states of the function (R288, R425, R433): a link that goes down reads WIDTH and SPEED 0 and counts, once; a
retrained link reads its width and speed and the readout guarantees are judged again; D3hot is entered and left by its flag alone;
a new BAR2 size takes effect at once, with Memory Space Enable clear. -/
def Obligations.LinkAndPowerStates : Prop :=
  (∀ s : State, s.dev.held = false → s.fld DEV.HOST_STATUS.WIDTH ≠ 0 → ∃ t, exec .pcieLinkDown s = .next t ∧
    t.fld DEV.HOST_STATUS.WIDTH = 0 ∧ t.fld DEV.HOST_STATUS.SPEED = 0 ∧ t.host.bar2Log = s.host.bar2Def ∧
    counted DEV.HOST_STATUS.LINK_DOWNS s t ∧
    onlyRegs [DEV.HOST_STATUS.WIDTH.addr, DEV.HOST_STATUS.SPEED.addr, DEV.HOST_STATUS.LINK_DOWNS.addr] s { t with host := s.host } ∧
    exec .pcieLinkDown t = .next t) ∧
  (∀ (s : State) (w sp : Nat), s.dev.held = false → w = 4 ∨ w = 8 ∨ w = 16 → 1 ≤ sp → sp ≤ 5 → s.host.perst = false →
    exec (.pcieLinkRetrain w sp) s =
      .next ((s.setF DEV.HOST_STATUS.WIDTH w).setF DEV.HOST_STATUS.SPEED sp).judgeGuarantees) ∧
  (∀ s : State, s.cfgUp = true → ∃ t, exec .d3hotEntry s = .next t ∧ t.fld DEV.HOST_STATUS.D3HOT = 1 ∧
    onlyRegs [DEV.HOST_STATUS.D3HOT.addr] s t ∧ t.hostUp = false) ∧
  (∀ s : State, s.cfgUp = true → ∃ t, exec .d3hotExit s = .next t ∧ t.fld DEV.HOST_STATUS.D3HOT = 0 ∧
    onlyRegs [DEV.HOST_STATUS.D3HOT.addr] s t) ∧
  (∀ (s : State) (n : Nat), s.cfgUp = true → s.host.mse = false → 30 ≤ n → n ≤ 40 →
    exec (.resizableBarWrite n) s = .next { s with host := { s.host with bar2Log := n } }) ∧
  (∀ (s : State) (n : Nat), s.host.mse = true → exec (.resizableBarWrite n) s = .next s)

/-- A function-level reset clears Memory Space Enable, Bus Master Enable, MSI-X, BAR2_BASE and the mailbox, returns BAR2 to its
default size, discards the responses of the mailbox requests outstanding, sets every readout queue IDLE and counts; no other
register changes, and acquisition, trigger and memory are left as they are but for what the queues give back (R299, R432). PERST_N
(R395, R433): with PERST_POLICY = 0 its assertion takes the link down and its release acts as a function-level reset; with
PERST_POLICY = 1 its assertion resets the device with cause 2. -/
def Obligations.FunctionResetAndPerstActByTheirRules : Prop :=
  (∀ s : State, s.cfgUp = true → ∃ u : State, exec .functionLevelReset s = .next (u.idleQueues.bumpF DEV.HOST_STATUS.FLRS 1) ∧
    u.host.mse = false ∧ u.host.msixEn = false ∧ u.host.fmask = false ∧ u.host.unmasked = [] ∧ u.host.pba = [] ∧
    u.host.table_ = [] ∧ u.host.bar2Log = s.host.bar2Def ∧ u.host.mps = 128 ∧ u.host.cplCode = 0 ∧ u.host.cplOff = false ∧
    u.host.status = 0 ∧ (∀ r ∈ u.mgt.reqs, r.chan = 0 → r.void = true) ∧ u.mgt.reqs.length = s.mgt.reqs.length ∧ (∀ f ∈ functionResetFields, u.fld f = 0) ∧
    onlyRegs (functionResetFields.map Fld.addr) s { u with host := s.host, mgt := s.mgt } ∧
    ((∀ e ∈ s.rdo.q, e.1 < 512 ∧ s.queueState e.1 = queueIdle) → u.idleQueues = u)) ∧
  (∀ s : State, s.dev.held = false →
    (s.bit DEV.CFG.PERST_POLICY = false → s.host.perst = false →
      exec (.perstNAssert true) s = .next (State.linkDown { s with host := { s.host with perst := true } })) ∧
    (s.bit DEV.CFG.PERST_POLICY = false → s.host.perst = true →
      exec (.perstNAssert false) s = .next (State.resetFunction { s with host := { s.host with perst := false, perstAt := s.now } })) ∧
    (s.bit DEV.CFG.PERST_POLICY = true → s.host.perst = true →
      exec (.perstNAssert false) s = .next { s with host := { s.host with perst := false, perstAt := s.now } }) ∧
    (s.bit DEV.CFG.PERST_POLICY = true → s.host.perst = false →
      exec (.perstNAssert true) s = .next (State.resetDevice { s with host := { s.host with perst := true } } 2)))

/-! ### Reset, modes and start-up (chapters 17, 20) -/

/-- The register fields that a device reset shows by other values than their reset values: the cause, the watchdog count, the
start-up step, and what the fuses, the flash and the log memory hold. -/
def Sys2Proof.Machine.resetShown : List Fld :=
  [DEV.RESET_CAUSE.CAUSE, DEV.RESET_CAUSE.WDOG, DEV.STARTUP.STAGE, SEC.STATUS.OWNER, SEC.STATUS.RB_COUNT, SEC.SLOT_STATE.STATE 0,
    SEC.SLOT_STATE.SVN 0, SEC.SLOT_STATE.STATE 1, SEC.SLOT_STATE.SVN 1, MGT.LOG_NEWEST_LO.SEQ, MGT.LOG_OLDEST_LO.SEQ] ++ (List.range 12).map SEC.OWNER_HASH.HASH

/-- `t` is the device after a reset of `u` for a cause: held in reset or at the first step of LOAD, the lowest of the causes shown
(R458), every other register field at its reset value, every activity gone, the log and the queue as they were; a control record still being
written is lost (R398). -/
def Sys2Proof.Machine.resetTo (cause : Nat) (held : Bool) (u t : State) : Prop :=
  t.fld DEV.RESET_CAUSE.CAUSE = (if u.dev.held then min u.dev.cause cause else cause) % 2 ^ DEV.RESET_CAUSE.CAUSE.width ∧
  t.dev.held = held ∧ t.fld DEV.STARTUP.STAGE = (if held then 0 else 1) ∧ t.mode = modeLoad ∧
  (∀ f : Fld, (∀ g ∈ resetShown, f.addr ≠ g.addr) → t.fld f = f.reset) ∧ t.tick = 0 ∧ t.mem = {} ∧ t.acq = {} ∧ t.trg = {} ∧
  t.sched = {} ∧ t.rdo = {} ∧ t.seq = {} ∧ t.pending = u.pending ∧ t.out = u.out ∧ t.nv = u.nv.dropCtl

/-- The device before it resets for a cause: its plans stopped as entry to LOAD stops them (R160), its staged log entries committed
(R353), the control record it writes itself written (R398). -/
def Sys2Proof.Machine.beforeReset (cause : Nat) (v : State) : State := (v.stopForReset cause).commitAll.endWrite cause

/-- What holds the device in reset. -/
def Sys2Proof.Machine.heldDown (u : State) : Bool := !u.dev.vddAon || u.dev.resetN || u.dev.trip

/-- The reset commands (R353, R395, R446, R456, R458): power-on, loss of VDD_AON, RESET_N, the thermal trip, the watchdog and a RESET
request with its key each reset the device with their cause; what still holds it keeps it held; the staged log entries are
committed first, but for a loss of VDD_AON, which loses them; a reset in reset stops nothing. -/
def Obligations.ResetCommandsResetTheDevice : Prop :=
  (∀ s : State,
    (s.dev.vddAon = false → ∃ t, exec .powerOn s = .next t ∧
      resetTo 0 (s.dev.resetN || s.dev.trip) { s with dev := { s.dev with vddAon := true } } t) ∧
    (s.dev.vddAon = true → ∃ t, exec .vddAonLoss s = .next t ∧ resetTo 0 true { s with dev := { s.dev with vddAon := false } } t ∧
      t.mgt.staged = []) ∧
    (∀ u, u = beforeReset 1 { s with dev := { s.dev with resetN := true } } → s.dev.vddAon = true → s.dev.resetN = false →
      ∃ t, exec .resetNAssert s = .next t ∧ resetTo 1 (heldDown u) u t) ∧
    (∀ u, u = beforeReset 6 { s with dev := { s.dev with tripAt := s.now, trip := true } } → s.dev.vddAon = true →
      s.dev.trip = false → ∃ t, exec .thermalTrip s = .next t ∧ resetTo 6 (heldDown u) u t) ∧
    (s.dev.vddAon = true → s.dev.trip = true → exec .thermalTrip s = .next { s with dev := { s.dev with tripAt := s.now } }) ∧
    (∀ u, u = beforeReset 5 (if s.fld DEV.STARTUP.STAGE = 0 then s
          else s.writeCtl { s.nv.ctlOr with wdog := min 255 (s.nv.ctlOr.wdog + 1) }) →
      s.fld MGT.STATUS.FW_STATE = 1 → s.dev.held = false → ∃ t, exec .watchdogExpiry s = .next t ∧ resetTo 5 (heldDown u) u t) ∧
    (∀ u, u = beforeReset 3 { ((s.setF DEV.MODE_RESULT.RESULT 0).setF DEV.MODE_RESULT.TARGET 3).setF DEV.MODE_RESULT.BUSY 1 with
          dev := { s.dev with request := 3, resetAt := some s.now } } →
      s.served 0x8 = true → ∃ t, exec (.modeReqReset 0x5AFE) s = .next t ∧ resetTo 3 (heldDown u) u t)) ∧
  (∀ (v : State) (c : Nat), (beforeReset c v).mgt.staged = [] ∧ (v.dev.held = true → v.stopForReset c = v) ∧
    ∀ e, (v.stopForReset c).mgt.staged.getLast? = some e → (beforeReset c v).nv.nextSeq = e.seq + 1)

/-- A mode request has been answered with a RESULT for a TARGET, and nothing else has changed. -/
def Sys2Proof.Machine.modeAnswered (s t : State) (result target : Nat) : Prop :=
  t.fld DEV.MODE_RESULT.RESULT = result ∧ t.fld DEV.MODE_RESULT.TARGET = target ∧
    onlyRegs [DEV.MODE_RESULT.RESULT.addr, DEV.MODE_RESULT.TARGET.addr] s t

/-- Mode requests (R407, R409): each shows its RESULT and its TARGET. A DORMANT request accepted shows RESULT 0 with BUSY and begins
the entry; READY is answered in READY at once, wakes the device in DORMANT, and ends every arming in ACQUIRE; in LOAD, CALIBRATE
and SAFE both are refused with 1, an open update refuses DORMANT with 5, a wake tick that is past with 6, during a transition both
are refused with 2, a RESET request without its key with 3. A refusal changes RESULT and TARGET only. DORMANT (R260, R316, R407,
R408): its entry ends when no record is held, the display fetches nothing, no request of memory waits, no pause, burst or shuffle
step runs: memory in self-refresh, the sampling PLL out of lock, the staged entries committed, and then a wake cause seen
meanwhile starts the exit; the wake tick starts the exit with WAKE 6, and is remembered during an entry; the exit ends with memory
out of self-refresh, the pauses of its channels, lock, the clock in HOLDOVER in a REFCLK mode, and READY, or SAFE where the
service set is not met. -/
def Obligations.ModeRequestsAndDormantFollowTheirRules : Prop :=
  (∀ s : State, s.served 0x8 = true →
    (∀ key, key ≠ 0x5AFE → s.dev.resetAt = none → ∃ t, exec (.modeReqReset key) s = .next t ∧ modeAnswered s t 3 3) ∧
    (s.bit DEV.MODE.TRANSIT = true → (∃ t, exec .modeReqDormant s = .next t ∧ modeAnswered s t 2 1) ∧ ∃ t, exec .modeReqReady s = .next t ∧ modeAnswered s t 2 2) ∧
    (s.bit DEV.MODE.TRANSIT = false →
      (∀ w, w = (s.fld DEV.WAKE_TICK_LO.TICK + 2 ^ 32 * s.fld DEV.WAKE_TICK_HI.TICK : Nat) → s.running = true → s.mgt.upd = none →
        (s.bit DEV.WAKE_CFG.TICK_EN && duePast s.tick (BitVec.ofNat 48 w)) = false →
        exec .modeReqDormant s = .next (((s.setF DEV.MODE_RESULT.RESULT 0).setF DEV.MODE_RESULT.TARGET 1).requestRuns 1).startDormant) ∧
      (∀ w, w = (s.fld DEV.WAKE_TICK_LO.TICK + 2 ^ 32 * s.fld DEV.WAKE_TICK_HI.TICK : Nat) → s.running = true → s.mgt.upd = none →
        s.bit DEV.WAKE_CFG.TICK_EN = true → duePast s.tick (BitVec.ofNat 48 w) = true →
        ∃ t, exec .modeReqDormant s = .next t ∧ modeAnswered s t 6 1) ∧
      (s.running = false → s.mode ≠ modeDormant → ∃ t, exec .modeReqReady s = .next t ∧ modeAnswered s t 1 2) ∧
      (s.running = false → ∃ t, exec .modeReqDormant s = .next t ∧ modeAnswered s t 1 1) ∧
      (s.running = true → s.mgt.upd ≠ none → ∃ t, exec .modeReqDormant s = .next t ∧ modeAnswered s t 5 1) ∧
      (s.mode = modeReady → ∃ t, exec .modeReqReady s = .next t ∧ modeAnswered s t 0 2) ∧
      (s.mode = modeDormant → s.dev.entering = false → s.dev.dormantDue = false → s.dev.leaving = false →
        ∃ t, exec .modeReqReady s = .next t ∧ t.fld DEV.MODE_RESULT.RESULT = 0 ∧ t.fld DEV.MODE_RESULT.TARGET = 2 ∧
        t.fld DEV.MODE_RESULT.BUSY = 1 ∧ t.fld DEV.DORMANT.WAKE = 5 ∧ t.fld DEV.MODE.TRANSIT = 1 ∧ t.dev.leaving = true ∧
        onlyRegs [DEV.MODE_RESULT.RESULT.addr, DEV.MODE_RESULT.TARGET.addr, DEV.MODE_RESULT.BUSY.addr, DEV.DORMANT.WAKE.addr,
          DEV.MODE.TRANSIT.addr] s { t with dev := s.dev }) ∧
      (s.mode = modeAcquire →
        exec .modeReqReady s = .next ((List.range 8).foldl State.disarm (((s.setF DEV.MODE_RESULT.RESULT 0).setF
          DEV.MODE_RESULT.TARGET 2).requestRuns 2)).settle))) ∧
  ((∀ s : State, s.dev.held = false →
    (s.dev.entering = true → s.dev.dormantDue = false → s.acq.recs = [] →
      s.dspState ∉ [dspTraining, dspActive, dspPsrEntry, dspPsrExit] → s.mem.held = [] →
      (∀ c < 12, s.pausing c = false ∧ s.bursting c = false) → (∀ g < 4, s.stepOf g = none) →
      ∃ u : State, exec .dormantEntryDone s = .next (s.dev.wake.foldl State.wakeCause (((u.changeMode modeDormant 4).commitAll).requestDone 1)) ∧
        u.dev.entering = false ∧ u.dev.wake = [] ∧ u.dev.domainOff = true ∧ u.dev.sleepMem = true ∧ u.fld TIME.STATUS.SPLL_LOCK = 0 ∧
        u.time.spllLostAt = none) ∧
    (∀ w, w = (s.fld DEV.WAKE_TICK_LO.TICK + 2 ^ 32 * s.fld DEV.WAKE_TICK_HI.TICK : Nat) →
      s.bit DEV.WAKE_CFG.TICK_EN = true → duePast s.tick (BitVec.ofNat 48 w) = true →
      (s.mode = modeDormant → s.dev.entering = false → s.dev.dormantDue = false → s.dev.leaving = false → ∃ t, exec .wakeTickReached s = .next t ∧
        t.fld DEV.DORMANT.WAKE = 6 ∧ t.fld DEV.MODE.TRANSIT = 1 ∧ t.dev.leaving = true ∧
        onlyRegs [DEV.DORMANT.WAKE.addr, DEV.MODE.TRANSIT.addr] s { t with dev := s.dev }) ∧
      (s.dev.entering = true ∨ s.dev.dormantDue = true → exec .wakeTickReached s = .next { s with dev := { s.dev with wake := 6 :: s.dev.wake } }))) ∧
  ∀ s : State, s.dev.leaving = true → s.mode = modeDormant → s.dev.held = false →
    ∃ y z x t : State, y = State.selfRefresh { s with dev := { s.dev with leaving := false, domainOff := false } } false ∧
      y.dev.sleepMem = false ∧ y.dev.leaving = false ∧ y.dev.domainOff = false ∧ z = y.channels.foldl (State.exitPause) y ∧
      { x with regs := z.regs, time := z.time } = z ∧ x.fld TIME.STATUS.SPLL_LOCK = 1 ∧
      (z.fld TIME.CFG.REF_MODE = 0 → x.fld TIME.STATUS.SOURCE = 0) ∧
      (z.fld TIME.CFG.REF_MODE ≠ 0 → x.fld TIME.STATUS.SOURCE = 2 ∧ x.fld TIME.STATUS.HOLDOVER = 1) ∧
      t = (((List.range 4).foldl (fun (s : State) g => s.startBg (s.restSlice g))
        (x.changeMode modeReady (x.fld DEV.DORMANT.WAKE))).readyEntry true).requestDone 2 ∧
      exec .dormantExitDone s = .next (if t.missing = 0 then t else t.enterSafe 15 false))

/-- LOAD begins when the last thing that held the device in reset is gone: the release of RESET_N (R456) and of a trip, a second after
the last site was at its trip level (R446), stage the START entry with the cause and begin step 1, from which the ports count
(R223); no other register changes. Start-up to the clock (R379, R404, R458, Table 17-12): a partition 83 whose MISR is not its
golden signature enters SAFE with cause 12 and its fault; a candidate whose slot header, firmware and blocks stand starts its
firmware and shows its slot and version, and that nothing of its image is loaded yet, step 4; with no candidate left the device
enters SAFE with cause 8, and resets once more where a trial has failed (R365); a clock source that appears while LOAD waits at
step 6 gives the sampling PLL its lock and step 7, asks for the training of the populated channels, and in a REFCLK mode without
REFCLK starts in HOLDOVER with the loss reported (R43). -/
def Obligations.LoadBeginsAndTriesTheCandidates : Prop :=
  (∀ s : State, s.dev.held = true → s.dev.vddAon = true →
    (s.dev.resetN = true → s.dev.trip = false → ∃ t, exec .resetNRelease s = .next t ∧ t.dev.held = false ∧
      t.dev.startAt = s.now ∧ t.fld DEV.STARTUP.STAGE = 1 ∧ t.mgt.staged.length = s.mgt.staged.length + 1 ∧
      t.ens.startAt = s.now ∧ onlyRegs [DEV.STARTUP.STAGE.addr] s { t with dev := s.dev, mgt := s.mgt, ens := s.ens }) ∧
    (s.dev.trip = true → s.dev.tripAt + 1000000 * cyclesPerUs ≤ s.now → s.dev.resetN = false →
      ∃ t, exec .thermalTripRelease s = .next t ∧ t.dev.held = false ∧ t.dev.trip = false ∧
      t.dev.startAt = s.now ∧ t.fld DEV.STARTUP.STAGE = 1 ∧ t.mgt.staged.length = s.mgt.staged.length + 1 ∧
      t.ens.startAt = s.now ∧ onlyRegs [DEV.STARTUP.STAGE.addr] s { t with dev := s.dev, mgt := s.mgt, ens := s.ens }) ∧
    (s.dev.trip = true → s.now < s.dev.tripAt + 1000000 * cyclesPerUs → exec .thermalTripRelease s = .next s) ∧
    (s.dev.trip = true → s.dev.tripAt + 1000000 * cyclesPerUs ≤ s.now → s.dev.resetN = true →
      exec .thermalTripRelease s = .next { s with dev := { s.dev with trip := false } }) ∧
    (s.dev.resetN = true → s.dev.trip = true →
      exec .resetNRelease s = .next { s with dev := { s.dev with resetN := false } })) ∧
  ((∀ (s : State) (misr : Nat), s.mode = modeLoad → s.dev.held = false → s.dev.slot = none → s.fld MGT.STATUS.FW_STATE = 0 →
    s.dev.booted = false → misr % 2 ^ 64 ≠ Config.golden 83 0 % 2 ^ 64 →
    ∃ u, exec (.firmwareVerified misr) s = .next (u.enterSafe 12 true) ∧ reported 248 0 83 0 u ∧ u.mode = modeLoad ∧
      u.fld (BST.PART_STATE.RES0 83) = 2 ∧ u.fld (BST.PART_STATE.OUTCOME 83) = 3 ∧ u.fld BST.STATUS.LOAD_FAIL = 1) ∧
  (∀ (s : State) (misr k : Nat) (rest : List Nat) (h : SlotHead) (fw : List Byte), s.mode = modeLoad → s.dev.held = false →
    s.dev.slot = none → s.fld MGT.STATUS.FW_STATE = 0 → s.dev.booted = true → s.candidates = k :: rest → k < 2 →
    s.nv.slotHead k = some h → s.nv.ownerValid = true → fw = s.nv.read (s.nv.slotBase k + h.fwOff) h.fwLen →
    s.objectVerdict fw (32 + num fw 18 4) 2 s.nv.ownerHash = 0 → fwHeadOk fw = true →
    ∃ t, exec (.firmwareVerified misr) s = .next t ∧ t.dev.slot = some k ∧ t.fld MGT.STATUS.FW_STATE = 1 ∧
      t.fld MGT.STATUS.FW_SLOT = k ∧ t.fld DEV.BOOT.SLOT = k ∧ t.fld SEC.STATUS.BOOT_SLOT = k ∧ t.fld DEV.STARTUP.STAGE = 4 ∧
      t.fld MGT.FW_VERSION.MAJOR = num fw 6 2 % 2 ^ MGT.FW_VERSION.MAJOR.width ∧
      t.fld MGT.FW_VERSION.MINOR = num fw 8 2 % 2 ^ MGT.FW_VERSION.MINOR.width ∧ t.dev.tried = k :: s.dev.tried ∧
      t.fld MGT.LOAD_PROG.POS = 0 ∧
      t.fld MGT.LOAD_PROG.TOTAL = unitsOf (num (s.nv.cfgObject k h) 12 4) % 2 ^ MGT.LOAD_PROG.TOTAL.width ∧
      t.mode = modeLoad ∧ t.nv = s.nv) ∧
  (∀ (s t : State) (misr : Nat), s.mode = modeLoad → s.dev.held = false → s.dev.slot = none → s.fld MGT.STATUS.FW_STATE = 0 →
    s.dev.booted = true → s.candidates = [] → t = s.enterSafe 8 (!(s.dev.fwOk && s.dev.fwMatched)) →
    (s.dev.trialFailed = false → exec (.firmwareVerified misr) s = .next t) ∧
    (s.dev.trialFailed = true → exec (.firmwareVerified misr) s = .next (t.resetDevice 4))) ∧
  ∀ s : State, s.mode = modeLoad → s.dev.clockWait = true → s.dev.held = false →
    (s.fld TIME.CFG.REF_MODE ≠ 0 → ∃ t, exec (.crystalStart true) s = .next t ∧ t.dev.clockWait = false ∧
      t.fld TIME.STATUS.SOURCE = 1 ∧ t.fld TIME.STATUS.SPLL_LOCK = 1 ∧ t.fld DEV.STARTUP.STAGE = 7 ∧
      (∀ c < 12, s.populated c = true → t.fld (MEM.CH_STATE.STATE c) = 1) ∧
      onlyRegs ([TIME.STATUS.SOURCE.addr, TIME.STATUS.SPLL_LOCK.addr, DEV.STARTUP.STAGE.addr] ++
        (List.range 12).map fun c => (MEM.CH_STATE.STATE c).addr) s { t with time := s.time, dev := s.dev, seq := s.seq }) ∧
    (s.fld TIME.CFG.REF_MODE = 0 → ∃ t, exec (.crystalStart false) s = .next t ∧ t.dev.clockWait = false ∧
      t.fld TIME.STATUS.SOURCE = 0 ∧ t.fld TIME.STATUS.SPLL_LOCK = 1 ∧ t.fld DEV.STARTUP.STAGE = 7 ∧
      (∀ c < 12, s.populated c = true → t.fld (MEM.CH_STATE.STATE c) = 1) ∧
      onlyRegs ([TIME.STATUS.SOURCE.addr, TIME.STATUS.SPLL_LOCK.addr, DEV.STARTUP.STAGE.addr] ++
        (List.range 12).map fun c => (MEM.CH_STATE.STATE c).addr) s { t with time := s.time, dev := s.dev, seq := s.seq }) ∧
    (s.fld TIME.CFG.REF_MODE ≠ 0 → s.time.refOk = false → ∃ t, exec (.crystalStart false) s = .next t ∧ t.dev.clockWait = false ∧
      t.fld TIME.STATUS.SOURCE = 2 ∧ t.fld TIME.STATUS.HOLDOVER = 1 ∧ t.fld TIME.STATUS.SPLL_LOCK = 1 ∧ t.fld DEV.STARTUP.STAGE = 7 ∧
      counted TIME.COUNTS.REF_LOSS s t ∧ reported 16 (if s.time.refFreq then 1 else 0) 0 0 t))

/-- The image (R355, R361, R364, R401, R404): an image that does not verify, is for another unit, or names no firmware that runs,
fails its slot with reason 3, 4 or 5; one that needs features the firmware lacks enters SAFE with cause 9; one that passes every
rule, with its enrolment made and its patch applied or done without, is applied; an enrolment or a patch that fails leaves the
device in SAFE. The catalogue of a plan whose layout changed is initialised at LOAD once memory serves (R144, R405), and is
current after it; in operation, while its activation waits for it (R144). -/
def Obligations.ImagesAreJudgedAndCataloguesInitialised : Prop :=
  (∀ (s : State) (ms : Option Nat) (ra : Bool) (b2 : Nat) (rb : Bool) (fuses : List Byte) (k : Nat) (h : SlotHead) (cfg : List Byte),
    s.dev.slot = some k → s.mode = modeLoad → s.dev.held = false → s.dev.imageOk = false → s.nv.slotHead k = some h →
    cfg = s.nv.cfgObject k h → ∀ r v : State, r = s.reads (s.nv.slotBase k + h.cfgOff) h.cfgLen → ∀ code,
    code = s.objectVerdict cfg (num cfg 12 4) 1 s.ownerKey →
    (code ≠ 0 → exec (.imageVerified ms ra b2 rb fuses) s = .next ((r.verifyFailed 1 code).failSlot k 3)) ∧
    (code = 0 → readImage (cfg.take (num cfg 12 4)) = none →
      exec (.imageVerified ms ra b2 rb fuses) s = .next ((r.verifyFailed 1 4).failSlot k 3)) ∧
    (code = 0 → ∀ im : Image, readImage (cfg.take (num cfg 12 4)) = some im →
      ((r.applyImage im).imageRules im.plans (setsInject im.secs) im.features = false →
        exec (.imageVerified ms ra b2 rb fuses) s = .next ((r.verifyFailed 1 4).failSlot k 3)) ∧
      ((r.applyImage im).imageRules im.plans (setsInject im.secs) im.features = true →
        ∀ y, y = r.showLoad (unitsOf (num cfg 12 4)) (unitsOf (num cfg 12 4)) →
        (im.serial ≠ List.replicate 16 0 → im.serial ≠ padTo Config.serial 16 →
          exec (.imageVerified ms ra b2 rb fuses) s = .next (y.failSlot k 4)) ∧
        (im.serial = List.replicate 16 0 ∨ im.serial = padTo Config.serial 16 →
          ∀ hits, hits = y.manifestHits im.manifest → v = { y with dev := { y.dev with fwMatched := !hits.isEmpty } } →
          (hits = [] ∨ y.refsOther im.refs = true → exec (.imageVerified ms ra b2 rb fuses) s = .next (v.failSlot k 5)) ∧
          (hits ≠ [] → y.refsOther im.refs = false →
            ∃ u : State, u = v.setF DEV.MANIFEST.NENT im.manifest.length ∧
              (bitsWithin64 im.features s.dev.features = false →
                exec (.imageVerified ms ra b2 rb fuses) s = .next (u.enterSafe 9 false)) ∧
              (bitsWithin64 im.features s.dev.features = true →
                ((u.enrol fuses).loading = false → exec (.imageVerified ms ra b2 rb fuses) s = .next (u.enrol fuses)) ∧
                ((u.enrol fuses).loading = true → ∀ w z x, w = u.enrol fuses →
                  z = (if h.patchLen = 0 then w else w.reads (w.nv.slotBase k + h.patchOff) h.patchLen) →
                  x = z.judgePatch (w.nv.read (w.nv.slotBase k + h.patchOff) h.patchLen) im.refs hits rb →
                  (x.loading = true → exec (.imageVerified ms ra b2 rb fuses) s = .next (x.takeImage im ms ra b2)) ∧
                  (x.loading = false → exec (.imageVerified ms ra b2 rb fuses) s = .next x)))))))) ∧
  ((∀ (s : State) (p : Nat) (pl : Plan), s.planOf p = some pl → pl.num = p → s.bit (ACQ.LIB_CFG.STALE p) = true → s.mode = modeLoad →
    s.dev.trained = true → s.dev.tested = true → exec (.catalogueReinitDone p) s = .next (s.initCatalogue pl) ∧
      (s.initCatalogue pl).bit (ACQ.LIB_CFG.STALE p) = false) ∧
  ∀ (s : State) (p : Nat) (pl : Plan) (r : AdmReq), s.planOf p = some pl → pl.num = p → s.bit (ACQ.LIB_CFG.STALE p) = true →
    s.running = true → s.mem.reqs.head? = some r → r.kind = 0 → r.id = p → s.activationBar p = none →
    exec (.catalogueReinitDone p) s = .next (s.initCatalogue pl))

/-- Training and self-test (R248, R249, R381, R383, R384): training ends with each populated channel in service, its failing rank
replaced by the spare where it has one, or excluded, once the partitions of the DRAM channels have been judged; the LOAD run
judges its parts, those partitions first, with the monitor test of a group whose reference check fails removed, a part that passes
showing its result and no more; once both are over the address map is fixed to the channels in service, step 9. LOAD ends when
lanes are bound, with the self-test run DONE, and the acquisition service set is met (R93, R383, R405, R418): CALIBRATE with the
progress shown and the live inputs of each group marked, step 11; CALIBRATE ends with every item decided and every slice's
loop-back check (R87, R91, R96): its result shown and kept, a slice that failed its check marked, then READY. -/
def Obligations.LoadStepsEnd : Prop :=
  ((∀ (s : State) (rf : List (Nat × Nat)) (sf : List Nat), s.testing = true → s.dev.trained = false → s.dev.training = none →
    (s.dev.tested = true → exec (.dramTrainingDone rf sf) s = .next (s.takeTraining rf sf).fixMap) ∧
    (s.dev.tested = false → ∃ t, exec (.dramTrainingDone rf sf) s = .next t ∧ t.dev.training = some (rf, sf) ∧
      onlyRegs [BST.STATUS.PCT.addr, BST.PROGRESS.POS.addr] s { t with dev := s.dev })) ∧
  (∀ (s u : State) (rf : List (Nat × Nat)) (sf : List Nat), u = s.takeTraining rf sf → u.dev.trained = true ∧
      (u.sunit 68).st = (if (s.sunit 68).st = 3 then 3 else 4) ∧
      ∀ c < 12, s.populated c = true → s.fld (MEM.CH_STATE.STATE c) ≠ 3 → ∀ bad, bad = (List.range s.liveRanks).filter (fun r => rf.contains (c, r)) →
        u.fld (MEM.CH_STATE.STATE c) = if sf.contains c = false ∧ (s.sunit 68).st ≠ 3 ∧
          (bad = [] ∨ bad.length = 1 ∧ s.bit MEM.CFG.SPARE = true ∧ rf.contains (c, s.spareRank) = false) then 2 else 3) ∧
  (∀ (s : State) (results : List PartTest) (refs bad : List Nat) (tests : List (Nat × Nat × PartTest)), s.testing = true →
    s.dev.tested = false → results.length = s.loadParts.length →
    tests = List.zipWith (fun (pq : Nat × Nat) (r : PartTest) => (pq.1, pq.2, r)) s.loadParts results → tests.all kindFits = true →
    (bitOf (s.fld BST.CFG.LOAD_SEL) 1 = true → refs.length = 8 ∧ bad = (List.range 8).filter fun i => !s.refPasses i (refs.getD i 0)) →
    (bitOf (s.fld BST.CFG.LOAD_SEL) 1 = false → bad = []) →
    ∀ a b c : State, a = ((tests.filter dramPart).foldl State.loadPart (s.dropMonitor bad)).excludeFailed →
    (a.dev.training = none → b = a) → (∀ t, a.dev.training = some t → b = a.takeTraining t.1 t.2) →
    c = bad.foldl State.failRef ((tests.filter fun r => !dramPart r).foldl State.loadPart b) →
    ∃ v, exec (.loadSelfTestDone results refs) s = .next (State.fixMap { v with dev := { v.dev with tested := true } }) ∧
      onlyRegs [BST.STATUS.PCT.addr, BST.PROGRESS.POS.addr] c v ∧
      v.fld BST.PROGRESS.POS = (c.fld BST.PROGRESS.TOTAL - 1) % 2 ^ BST.PROGRESS.POS.width) ∧
  (∀ (s : State) (bad : List Nat) (g : Nat), g < 4 → g ∈ bad → Tbl.get false (s.dropMonitor bad).bst.monOff g = true) ∧
  (∀ (s : State) (p q : Nat) (test : PartTest), p < 84 → q < 3 → s.partPasses p q test = true →
    (s.loadPart (p, q, test)).fld (resField p q) = 1 ∧ (s.loadPart (p, q, test)).fld (BST.PART_STATE.AT_LOAD p) = 1 ∧
    onlyRegs [(resField p q).addr, (BST.PART_STATE.AT_LOAD p).addr] s { s.loadPart (p, q, test) with bst := s.bst }) ∧
  ∀ s : State, s.dev.trained = true → s.dev.tested = true →
    s.truncated = false → s.fixMap.mem.ways = (List.range 12).filter (fun c => s.fld (MEM.CH_STATE.STATE c) == 2) ∧
      s.fixMap.mem.capg = s.capacity ∧ s.fixMap.fld MEM.STATUS.N0 = s.fixMap.mem.ways.length ∧
      s.fixMap.fld MEM.MAPG.MAPG = (s.capacity - s.fld MEM.RESG.RESG) % 2 ^ MEM.MAPG.MAPG.width ∧
      (∀ c < 12, s.fixMap.inService c = (s.fld (MEM.CH_STATE.STATE c) == 2)) ∧ s.fixMap.fld DEV.STARTUP.STAGE = 9) ∧
  ((∀ (s b d u : State) (inputs : List InputLevel), s.testing = true → s.dev.trained = true → s.dev.tested = true →
    (∀ pl ∈ s.library, s.bit (ACQ.LIB_CFG.STALE pl.num) = false) →
    b = (List.range 4).foldl State.bindGroup s → d = (b.setF BST.STATUS.STATE 2).showBst (b.fld BST.PROGRESS.TOTAL) →
    u = (List.range 4).foldl State.shorten (((List.range 64).filter d.inLayout).foldl State.setLead d) →
    (u.missing ≠ 0 → exec (.loadComplete inputs) s = .next (u.fatal 0 u.missing)) ∧
    (u.missing = 0 → ∃ t, exec (.loadComplete inputs) s = .next t ∧ t.mode = modeCalibrate ∧ t.fld DEV.STARTUP.STAGE = 11 ∧
      t.fld CAL.STATUS.STATE = 1 ∧ t.fld CAL.STATUS.STEP = 1 ∧ t.fld CAL.STATUS.ATTEMPT = 1 ∧ t.cal.calAt = s.now ∧
      t.cal.results = [] ∧ reported 0 0 1 0 t ∧ t.fld BST.STATUS.STATE = 2 ∧ t.fld BST.PROGRESS.POS = s.fld BST.PROGRESS.TOTAL % 2 ^ BST.PROGRESS.POS.width ∧
      ∀ g < 4, u.groupLive inputs g = true →
        (u.trunk g = true → t.fld (CAL.GROUP_RESULT.LIVE_TRUNK g) = 1 ∧ t.fld (CAL.CHAN_STATE.LIVE (u.chanOf (16 * g))) = 1) ∧
        (u.trunk g = false → t.fld (CAL.GROUP_RESULT.LIVE_NARROW g) = 1))) ∧
  (∀ (s : State) (items : List CalMeasure) (lb : List (List LoopBack)), s.mode = modeCalibrate → s.dev.held = false →
    s.calComplete items lb = true →
    ∃ u v w : State, exec (.calibrateComplete items lb) s = .next (((v.showStage 12).changeMode modeReady 1).readyEntry false) ∧
      w = (u.calSnap.noteItem 8 0 0 true []).storePowerUp ∧
      v = (if u.fld CAL.RUN_RESULT.OUTCOME = 2 then w.raise 63 0 0 (u.fld CAL.RUN_RESULT.SUSPECT) 0 else w) ∧
      u.fld CAL.STATUS.STATE = 2 ∧ u.fld CAL.STATUS.STEP = 0 ∧ u.fld CAL.STATUS.ATTEMPT = 0 ∧
      u.fld CAL.RUN_RESULT.OUTCOME = (if u.fld CAL.RUN_RESULT.SUSPECT = 0 then 1 else 2) ∧
      ∀ sl < 68, (lb[sl]?).bind loopOutcome = some false →
        u.fld (CAL.SLICE_STATE.LB_FAIL sl) = 1 ∧ u.fld (CAL.SLICE_STATE.SUSPECT sl) = 1))

/-! ### Time (chapter 2) -/

/-- The reference and the crystal (R43, Table 02-2): REFCLK lost goes over to the crystal with HOLDOVER and its fault; REFCLK good for
1 ms gives ACQUIRING; the residual settled gives LOCKED, ending HOLDOVER or waiting for the next pulse; a phase step opens
PHASE_HIT, which ends when it has settled; the crystal lost while it gives the ticks is fatal kind 2, the Timeline among the
missing elements (R410, R418). Before step 6 of the start-up, and while the crystal does not give the ticks, what is there is only
noted (R43, R458). The sampling PLL (R41): a loss of lock raises its fault and stops every armed plan with cause 2; a lock that
comes back raises source 22 with kind 1; a lock still missing 10 ms after the loss is fatal kind 1, the Timeline among the missing
elements (R410, R418). -/
def Obligations.ClocksFollowTheirRules : Prop :=
  ((∀ s : State,
    (s.preClock = true → (∀ freq, exec (.refclkLost freq) s = .next { s with time := { s.time with refOk := false, refFreq := freq } }) ∧
      exec .refclkValid1ms s = .next { s with time := { s.time with refOk := true, refFreq := false } }) ∧
    (s.preClock = true ∨ s.crystalTicks = false → exec .crystalLost s = .next { s with time := { s.time with crystalOk := false } }) ∧
    (s.preClock = false → s.refMode = false →
      ∀ u, u = { s with time := { s.time with crystalOk := false } } → exec .crystalLost s = .next (u.fatal 2 (withBit u.missing 2)))) ∧
  ∀ s : State, s.preClock = false → s.mode ≠ modeDormant → s.refMode = true →
    (∀ freq, s.fld TIME.STATUS.SOURCE ≠ 2 → ∃ t, exec (.refclkLost freq) s = .next t ∧ t.fld TIME.STATUS.SOURCE = 2 ∧
      t.bit TIME.STATUS.HOLDOVER = true ∧ counted TIME.COUNTS.REF_LOSS s t ∧ reported 16 (if freq then 1 else 0) 0 0 t ∧
      t.time.refOk = false ∧
      onlyReports [TIME.STATUS.SOURCE.addr, TIME.STATUS.HOLDOVER.addr, TIME.COUNTS.REF_LOSS.addr] s
        { t with time := s.time, seq := s.seq }) ∧
    (s.fld TIME.STATUS.SOURCE ≠ 2 → ∃ t, exec .refclkPhaseStep s = .next t ∧ t.bit TIME.STATUS.PHASE_HIT = true ∧
      counted TIME.COUNTS.PHASE_HIT s t ∧ reported 18 0 0 0 t ∧
      onlyReports [TIME.STATUS.PHASE_HIT.addr, TIME.COUNTS.PHASE_HIT.addr] s { t with time := s.time, seq := s.seq }) ∧
    (s.fld TIME.STATUS.SOURCE = 2 → ∃ t, exec .refclkValid1ms s = .next t ∧ t.fld TIME.STATUS.SOURCE = 3 ∧
      onlyRegs [TIME.STATUS.SOURCE.addr] s { t with time := s.time }) ∧
    (s.fld TIME.STATUS.SOURCE = 3 → s.bit TIME.CFG.EPOCH_EN = false → ∃ t, exec .sourceLocked s = .next t ∧
      t.fld TIME.STATUS.SOURCE = 1 ∧ t.fld TIME.STATUS.HOLDOVER = 0 ∧ reported 17 0 0 0 t ∧
      (∀ x ∈ t.time.holdover, x.stop ≠ none) ∧
      onlyReports [TIME.STATUS.SOURCE.addr, TIME.STATUS.HOLDOVER.addr] s { t with time := s.time, seq := s.seq }) ∧
    (s.fld TIME.STATUS.SOURCE = 3 → s.bit TIME.CFG.EPOCH_EN = true → ∃ t, exec .sourceLocked s = .next t ∧
      t.fld TIME.STATUS.SOURCE = 1 ∧ t.fld TIME.STATUS.HOLDOVER = s.fld TIME.STATUS.HOLDOVER ∧ reported 17 0 0 0 t ∧
      t.time.holdWaits = true) ∧
    (s.bit TIME.STATUS.PHASE_HIT = true → s.bit TIME.CFG.EPOCH_EN = false → ∃ t, exec .phaseStepSettled s = .next t ∧
      t.fld TIME.STATUS.PHASE_HIT = 0 ∧ onlyRegs [TIME.STATUS.PHASE_HIT.addr] s { t with time := s.time, seq := s.seq }) ∧
    (s.bit TIME.STATUS.PHASE_HIT = true → s.bit TIME.CFG.EPOCH_EN = true →
      exec .phaseStepSettled s = .next { s with time := { s.time with phaseWaits := true } }) ∧
    (s.crystalTicks = true → ∀ u, u = { s with time := { s.time with crystalOk := false } } →
      exec .crystalLost s = .next (u.fatal 2 (withBit u.missing 2)))) ∧
  (∀ s : State,
    (s.bit TIME.STATUS.SPLL_LOCK = true → s.running = true → ∃ u : State,
      exec .spllLockLost s = .next ((u.abortSteps).stopAllPlans 2 true) ∧ u.fld TIME.STATUS.SPLL_LOCK = 0 ∧
      u.time.spllLostAt = some s.now ∧ reported 22 0 0 0 u ∧ onlyReports [TIME.STATUS.SPLL_LOCK.addr] s { u with time := s.time }) ∧
    (s.bit TIME.STATUS.SPLL_LOCK = true → s.running = false → ∃ t : State, exec .spllLockLost s = .next t ∧
      t.fld TIME.STATUS.SPLL_LOCK = 0 ∧ t.time.spllLostAt = some s.now ∧ reported 22 0 0 0 t ∧
      onlyReports [TIME.STATUS.SPLL_LOCK.addr] s { t with time := s.time }) ∧
    (s.bit TIME.STATUS.SPLL_LOCK = false → s.time.spllLostAt ≠ none → s.dev.domainOff = false → s.dev.held = false →
      ∃ t, exec .spllRelocked s = .next t ∧ t.fld TIME.STATUS.SPLL_LOCK = 1 ∧ t.time.spllLostAt = none ∧ reported 22 1 0 0 t ∧
        onlyReports [TIME.STATUS.SPLL_LOCK.addr] s { t with time := s.time }) ∧
    (∀ c, s.time.spllLostAt = some c → s.bit TIME.STATUS.SPLL_LOCK = false →
      (c + 10000000 ≤ s.now → exec .spllRelockTimeout s = .next (s.fatal 1 (withBit s.missing 2))) ∧
      (s.now < c + 10000000 → exec .spllRelockTimeout s = .next s)))

/-- Epoch pulses (R36, R37, R38): the first pulse sets EPOCH_NUM 0 and the next expected tick one period on; the expected tick reached
increments EPOCH_NUM and moves on by a period; a pulse within one tick of the nearest is on time, ending a PHASE_HIT that waits
for it (R42), and one further off is a slip, counted and reported with its signed offset, which REALIGN owes as a jump; a second
pulse for one tick is a slip of kind 1. An epoch load (R37): EPOCH_ARM with EPOCH_EN set arms it with the tick and number written;
with EPOCH_EN clear it is ignored with the epoch-load notice, K = 1; the next pulse applies it: the count is the tick written,
EPOCH_NUM the number, EPOCH_ARM reads 0. An expected tick at which no pulse arrives by e + 1 raises the epoch-missing notice,
once, and increments COUNTS.EPOCH_MISSING (R39). A REALIGN jump (R38, R50): at the first tick boundary after the pulse the count
moves by minus the offset, once, and the jump is kept with its cycle. -/
def Obligations.EpochPulsesSetAndMoveTheCount : Prop :=
  (∀ s : State, s.bit TIME.CFG.EPOCH_EN = true →
    (s.epochWatched = true → s.time.holdWaits = false → s.time.armed = none → s.time.expected = none →
      ∃ t, exec .epochPulse s = .next t ∧ t.fld TIME.EPOCH_NUM.NUM = 0 ∧ t.time.previous = some s.tick ∧
        t.time.expected = some (s.tick + BitVec.ofNat 48 (s.fld TIME.EPOCH_PERIOD.PERIOD)) ∧
        onlyRegs [TIME.EPOCH_NUM.NUM.addr] s { t with time := s.time }) ∧
    (∀ e d nx, s.epochWatched = true → s.time.holdWaits = false → s.time.armed = none → s.time.expected = some e →
      (d, nx) = s.pulseOffset e →
      ((if nx then s.time.seenNext else s.time.seenPrev) = false → d.natAbs ≤ 1 → s.time.phaseWaits = false →
        ∃ t, exec .epochPulse s = .next t ∧ (if nx then t.time.seenNext else t.time.seenPrev) = true ∧
        t.fld TIME.STATUS.EPOCH_ALIGNED = (if s.time.loaded then 1 else s.fld TIME.STATUS.EPOCH_ALIGNED) ∧
        onlyRegs [TIME.STATUS.EPOCH_ALIGNED.addr] s { t with time := s.time }) ∧
      ((if nx then s.time.seenNext else s.time.seenPrev) = false → d.natAbs ≤ 1 → s.time.phaseWaits = true →
        ∃ t, exec .epochPulse s = .next t ∧ t.fld TIME.STATUS.PHASE_HIT = 0 ∧ t.time.phaseWaits = false ∧
        onlyRegs [TIME.STATUS.EPOCH_ALIGNED.addr, TIME.STATUS.PHASE_HIT.addr] s { t with time := s.time, seq := s.seq }) ∧
      ((if nx then s.time.seenNext else s.time.seenPrev) = false → 1 < d.natAbs →
        ∃ t, exec .epochPulse s = .next t ∧ (if nx then t.time.seenNext else t.time.seenPrev) = true ∧
        t.fld TIME.STATUS.EPOCH_ALIGNED = 0 ∧ counted TIME.COUNTS.SLIP s t ∧ reported 19 0 0 0 t ∧
        t.fld TIME.SLIP_LAST.OFFSET = toTwos 32 (satI d (-(2 ^ 31)) (2 ^ 31 - 1)) ∧
        t.time.realign = (if s.bit TIME.CFG.SLIP_POLICY then some (d, s.now) else s.time.realign) ∧
        onlyReports [TIME.SLIP_LAST.OFFSET.addr, TIME.COUNTS.SLIP.addr, TIME.STATUS.EPOCH_ALIGNED.addr] s { t with time := s.time }) ∧
      ((if nx then s.time.seenNext else s.time.seenPrev) = true →
        ∃ t, exec .epochPulse s = .next t ∧ t.fld TIME.STATUS.EPOCH_ALIGNED = 0 ∧ counted TIME.COUNTS.SLIP s t ∧ reported 19 1 0 0 t ∧
        t.time.realign = s.time.realign)) ∧
    (∀ e, s.time.expected = some e → duePast s.tick e = true → ∃ t, exec .expectedTick s = .next t ∧
      t.fld TIME.EPOCH_NUM.NUM = (s.fld TIME.EPOCH_NUM.NUM + 1) % 2 ^ TIME.EPOCH_NUM.NUM.width ∧ t.time.previous = some e ∧
      t.time.expected = some (e + BitVec.ofNat 48 (s.fld TIME.EPOCH_PERIOD.PERIOD)) ∧ t.time.seenNext = false ∧
      t.time.seenPrev = s.time.seenNext ∧ onlyRegs [TIME.EPOCH_NUM.NUM.addr] s { t with time := s.time })) ∧
  (∀ s : State,
    (s.served 0x10008 = true → s.bit TIME.CFG.EPOCH_EN = true → ∃ t, exec .epochArm s = .next t ∧ t.fld TIME.CMD.EPOCH_ARM = 1 ∧
      t.time.armed = some (s.fld TIME.EPOCH_LOAD_NUM.NUM,
        BitVec.ofNat 48 (s.fld TIME.EPOCH_LOAD_TICK_LO.TICK + 2 ^ 32 * s.fld TIME.EPOCH_LOAD_TICK_HI.TICK)) ∧
      onlyRegs [TIME.CMD.EPOCH_ARM.addr] s { t with time := s.time }) ∧
    (s.served 0x10008 = true → s.bit TIME.CFG.EPOCH_EN = false → ∃ t, exec .epochArm s = .next t ∧ reported 21 1 0 0 t ∧
      onlyReports [] s t) ∧
    (∀ (num : Nat) (c : Tick), s.epochWatched = true → s.time.armed = some (num, c) →
      ∃ t, exec .epochPulse s = .next t ∧ t.tick = c ∧ t.fld TIME.EPOCH_NUM.NUM = num % 2 ^ TIME.EPOCH_NUM.NUM.width ∧
        t.fld TIME.CMD.EPOCH_ARM = 0 ∧ t.fld TIME.STATUS.EPOCH_ALIGNED = 1 ∧ reported 21 0 0 0 t ∧ t.time.armed = none ∧
        t.time.expected = some (c + BitVec.ofNat 48 (s.fld TIME.EPOCH_PERIOD.PERIOD)))) ∧
  (∀ (s : State) (e : Tick), s.epochWatched = true → s.time.previous = some e → s.time.judged = false → s.time.seenPrev = false →
    (duePast s.tick (e + 1) = true → ∃ t, exec .epochMissing s = .next t ∧ reported 20 0 0 0 t ∧ counted TIME.COUNTS.EPOCH_MISSING s t ∧
      onlyReports [TIME.COUNTS.EPOCH_MISSING.addr] s { t with time := s.time } ∧ exec .epochMissing t = .next t) ∧
    (duePast s.tick (e + 1) = false → exec .epochMissing s = .next s)) ∧
  (∀ (s : State) (d : Int) (c : Nat), s.time.realign = some (d, c) →
    (s.cyc = 0 → c < s.now → ∃ t, exec .realignJump s = .next t ∧ t.tick = tickAdd s.tick (-d) ∧
      t.time.realign = none ∧ exec .realignJump t = .next t ∧
      (t.tick ≠ s.tick → t.time.jumpLog.head? = some (s.now, tickDiff t.tick s.tick)) ∧
      (s.time.expected = none →
        onlyReports [] s { t with time := s.time, sched := s.sched, ens := s.ens, seq := s.seq, tick := s.tick })) ∧
    (s.cyc ≠ 0 ∨ s.now ≤ c → exec .realignJump s = .next s))

/-! ### The scheduler (chapter 2) -/

/-- A commit (R44, R45, R49, R52): a code or argument out of range is refused, STATE IDLE with the schedule-refused notice; otherwise
the entry is COMMITTED with SKIPPED, LATE_BY and CODE clear and its tick to come, and one due or past in READY or ACQUIRE, before
an entry to DORMANT, is judged at once with L its lateness modulo 2^48. While an entry is COMMITTED writes to its tick, action,
argument, limit and period registers are ignored and the notice is raised; CANCEL ends the entry, and no later occurrence is
dispatched (R51). While it is not, the write is stored. -/
def Obligations.EntriesAreCommittedAndCancelled : Prop :=
  (∀ (s : State) (n : Nat), s.served (0x11018 + 32 * n) = true → n < 256 → s.committed n = false →
    (s.actionOk (s.fld (TIME.SCHED_ACT.ACTION n)) (s.fld (TIME.SCHED_ARG.ARG n)) = false → ∃ t, exec (.schedCommit n) s = .next t ∧
      t.fld (TIME.SCHED_STATUS.STATE n) = 0 ∧ reported 25 0 n 0 t ∧ onlyReports [(TIME.SCHED_STATUS.STATE n).addr] s t) ∧
    (s.actionOk (s.fld (TIME.SCHED_ACT.ACTION n)) (s.fld (TIME.SCHED_ARG.ARG n)) = true →
      ∃ u : State, u.committed n = true ∧ u.fld (TIME.SCHED_STATUS.STATE n) = 1 ∧ u.fld (TIME.SCHED_STATUS.SKIPPED n) = 0 ∧
        u.fld (TIME.SCHED_STATUS.LATE_BY n) = 0 ∧ u.fld (TIME.SCHED_STATUS.CODE n) = 0 ∧ u.dueOf n = some (s.entryTick n) ∧
        onlyRegs [(TIME.SCHED_CMD.COMMIT n).addr, (TIME.SCHED_STATUS.STATE n).addr, (TIME.SCHED_STATUS.SKIPPED n).addr,
          (TIME.SCHED_STATUS.LATE_BY n).addr, (TIME.SCHED_STATUS.CODE n).addr] s { u with sched := s.sched } ∧
        (s.active = false ∨ duePast s.tick (s.entryTick n) = false → exec (.schedCommit n) s = .next u) ∧
        (s.active = true → duePast s.tick (s.entryTick n) = true →
          exec (.schedCommit n) s = .next (u.judge n (s.entryTick n) (s.tick - s.entryTick n).toNat)))) ∧
  (∀ (s : State) (n : Nat), n < 256 →
    (∀ r v, s.served (0x11000 + 32 * n) = true → r < 6 →
      (s.committed n = true → ∃ t, exec (.schedFieldWrite n r v) s = .next t ∧ reported 25 1 n 0 t ∧ onlyReports [] s t) ∧
      (s.committed n = false → exec (.schedFieldWrite n r v) s = .next (s.writeEntry n r v))) ∧
    (s.served (0x11018 + 32 * n) = true → s.committed n = true → ∃ t, exec (.schedCancel n) s = .next t ∧ t.dueOf n = none ∧
      exec (.schedDispatch n) t = .next t ∧
      ((∀ o ∈ s.sched.waiting, o.entry ≠ n) → t.fld (TIME.SCHED_STATUS.STATE n) = 5 ∧ t.committed n = false ∧
        onlyRegs [(TIME.SCHED_STATUS.STATE n).addr, (TIME.SCHED_CMD.COMMIT n).addr] s { t with sched := s.sched })))

/-- Dispatch (R45, R46, R47, R49): the count having reached its tick and no entry before it, an entry on time, or late within LATE_MAX
with policy RUN_LATE, joins the waiting occurrences with its action, argument, window and lateness; one too late is STALE, counted
and reported. A single entry has no further occurrence; a periodic one is due a PERIOD later. Nothing is dispatched outside READY
and ACQUIRE, nor once an entry to DORMANT has begun (R52). An occurrence ends (R45, R47, R48): executed, STATE 2 with its lateness
up to 65535 and CODE 0; refused by the function, STATE 6 with its code and the notice of kind 3; its window closed before it
started, STATE 4, counted, with the deadline fault. It waits no more. -/
def Obligations.DispatchedOccurrencesEndOnce : Prop :=
  (∀ (s : State) (n : Nat) (d : Tick), s.dueOf n = some d → n < 256 →
    (s.active = true → duePast s.tick d = true → s.sched.lastDispatch ≠ some s.now → (∀ m < 256, s.precedes m n d = false) →
      (∀ l, l = Tbl.get 0 s.sched.late n → l = 0 ∨ (s.bit (TIME.SCHED_ACT.POLICY n) = true ∧ l ≤ s.fld (TIME.SCHED_LIMIT.LATE_MAX n)) →
        ∃ (t : State) (o : Occ), exec (.schedDispatch n) s = .next t ∧ t.sched.waiting = s.sched.waiting ++ [o] ∧ o.entry = n ∧
          o.action = s.fld (TIME.SCHED_ACT.ACTION n) ∧ o.arg = s.fld (TIME.SCHED_ARG.ARG n) ∧ o.at_ = s.tick ∧ o.from_ = s.now ∧
          o.window = s.fld (TIME.SCHED_LIMIT.WINDOW n) ∧ o.lateBy = l ∧ o.started = false ∧ t.sched.lastDispatch = some s.now ∧
          t.dueOf n = (if s.fld (TIME.SCHED_PERIOD.PERIOD n) = 0 then none
            else some (d + BitVec.ofNat 48 (s.fld (TIME.SCHED_PERIOD.PERIOD n)))) ∧
          t.regs = s.regs ∧ { t with sched := s.sched } = s) ∧
      (∀ l, l = Tbl.get 0 s.sched.late n → l ≠ 0 → s.bit (TIME.SCHED_ACT.POLICY n) = false ∨ s.fld (TIME.SCHED_LIMIT.LATE_MAX n) < l →
        Tbl.get false s.sched.cancel n = false → s.fld (TIME.SCHED_ACT.ACTION n) < 256 →
        ∃ t : State, exec (.schedDispatch n) s = .next t ∧ t.fld (TIME.SCHED_STATUS.STATE n) = 3 ∧ counted TIME.SCHED_COUNTS.STALE s t ∧
          reported 23 0 n (s.fld (TIME.SCHED_ACT.ACTION n)) t ∧ t.sched.waiting = s.sched.waiting ∧
          (s.fld (TIME.SCHED_PERIOD.PERIOD n) = 0 → t.committed n = false ∧ t.dueOf n = none) ∧
          (s.fld (TIME.SCHED_PERIOD.PERIOD n) ≠ 0 → counted (TIME.SCHED_STATUS.SKIPPED n) s t ∧
            t.dueOf n = some (d + BitVec.ofNat 48 (s.fld (TIME.SCHED_PERIOD.PERIOD n)))))) ∧
    (s.active = false → exec (.schedDispatch n) s = .next s)) ∧
  (∀ (s : State) (o : Occ), o.entry < 256 → Tbl.get false s.sched.cancel o.entry = false →
    ((s.endOcc o none).fld (TIME.SCHED_STATUS.STATE o.entry) = 2 ∧ (s.endOcc o none).fld (TIME.SCHED_STATUS.CODE o.entry) = 0 ∧
      (s.endOcc o none).fld (TIME.SCHED_STATUS.LATE_BY o.entry) = min o.lateBy 65535 ∧
      (s.endOcc o none).sched.waiting = s.sched.waiting.erase o) ∧
    (∀ c, c < 16 → (s.endOcc o (some c)).fld (TIME.SCHED_STATUS.STATE o.entry) = 6 ∧
      (s.endOcc o (some c)).fld (TIME.SCHED_STATUS.CODE o.entry) = c ∧ reported 25 3 o.entry c (s.endOcc o (some c)) ∧
      (s.endOcc o (some c)).sched.waiting = s.sched.waiting.erase o) ∧
    (∀ n, n = o.entry → s.sched.waiting.find? (fun x => x.entry == n && !x.started && !s.inWindow x) = some o →
      ∃ t, exec (.schedWindowClose n) s = .next t ∧ t.fld (TIME.SCHED_STATUS.STATE n) = 4 ∧ counted TIME.SCHED_COUNTS.DEADLINE s t ∧
        t.sched.waiting = s.sched.waiting.erase o ∧ (o.action = 10 → reported 24 1 (o.arg % 16) 0 t) ∧
        (o.action ≠ 10 → (o.action = 4 ∨ o.action = 5 → ∃ g < 4, bitOf o.groups g = true) → reported 24 0 n 0 t)))

/-- A dispatched action of one resource starts when its window is open, it is first in line and its resource is free (R47, R48, Table
02-4): it acts as its code says and its occurrence ends executed, or is refused by what it acts on. A SHUFFLE, a BIST_SLICE and an
ARM (R47, R243, Table 02-4): a mask starts in every group whose resources are free, in its window, and ends executed once none of
it is left, else waits with the groups left; an ARM of an inactive plan of the library submits its activation first; one of an
active plan is asked at once, and refused with 5 where the plan is armed; an ARM after a deal's of the same plan and tick ends
executed without effect. -/
def Obligations.ActionsStartOnTheirResources : Prop :=
  (∀ (s : State) (n : Nat) (o : Occ), s.active = true → s.inWindow o = true → s.firstInLine o = true →
    (s.findOcc n 12 = some o → exec (.actionTimeMark n) s = .next (State.endOcc { s with trg := { s.trg with
      marks := ((o.arg % 4, s.now / 10 * 10) :: s.trg.marks).take 64 } } o none)) ∧
    (s.findOcc n 6 = some o → s.monBusy = false → exec (.actionMonSeq n) s = .next (State.endOcc
      { s with mgt := { s.mgt with monPend := some (o.arg % 16, s.now + o.arg / 2 ^ 16 * 10) } } o none)) ∧
    (s.findOcc n 7 = some o → s.bit DSP.STATUS.PSR_CAP = true →
      exec (.actionPsrEnter n) s = .next ((s.requestEntry false).endOcc o none)) ∧
    (s.findOcc n 7 = some o → s.bit DSP.STATUS.PSR_CAP = false → exec (.actionPsrEnter n) s = .next (s.endPsrRefused o)) ∧
    (s.findOcc n 8 = some o → exec (.actionPsrExit n) s = .next ((s.requestExit false).endOcc o none)) ∧
    (s.findOcc n 9 = some o →
      (s.queueState (o.arg % 512) = queueIdle →
        exec (.actionRdoStart n) s = .next (if s.dev.outOk then (s.startQueue (o.arg % 512)).endOcc o none else s.endOcc o (some 4))) ∧
      (s.queueState (o.arg % 512) = queueHalted → exec (.actionRdoStart n) s = .next (if s.fld (RDO.Q_STATE.CAUSE (o.arg % 512)) = 8
        then (s.resumeQueue (o.arg % 512)).endOcc o none else s.endOcc o (some 4))) ∧
      (s.queueState (o.arg % 512) ≠ queueIdle → s.queueState (o.arg % 512) ≠ queueHalted →
        exec (.actionRdoStart n) s = .next ((s.ringDoorbell (o.arg % 512)).endOcc o none))) ∧
    (s.findOcc n 3 = some o → exec (.actionDeal n) s = .next (if s.actsAsDealer && s.portsRun
      then (s.deal (o.arg % 16) o.at_).endOcc o none else s.endOcc o (some 0))) ∧
    (s.findOcc n 10 = some o → s.chanIdle o = true →
      (s.inService (o.arg % 16) = true → (s.sunit 68).st ≠ 3 → exec (.actionDramRetrain n) s = .next (((State.restartTraining { s with
        mem := { s.mem with pause := Tbl.set false s.mem.pause (o.arg % 16) true }
        seq := { s.seq with training := withBit s.seq.training (o.arg % 16) } }).seqRequest 68 1).endOcc o none)) ∧
      (s.inService (o.arg % 16) = true → (s.sunit 68).st = 3 → exec (.actionDramRetrain n) s = .next (s.endOcc o none)) ∧
      (s.inService (o.arg % 16) = false → exec (.actionDramRetrain n) s = .next (s.endOcc o (some 0)))) ∧
    (s.findOcc n 11 = some o → s.chanIdle o = true →
      (s.inService (o.arg % 16) = true → exec (.actionRefreshMakeup n) s = .next
        ((((List.range 4).filter (s.rankThere (o.arg % 16))).foldl (fun s r => s.startBurst (o.arg % 16) r) s).endOcc o none)) ∧
      (s.inService (o.arg % 16) = false → exec (.actionRefreshMakeup n) s = .next (s.endOcc o (some 0)))) ∧
    (s.findOcc n 2 = some o → s.disarmBar (o.arg % 64) = none →
      exec (.actionDisarm n) s = .next ((s.disarmPlan (o.arg % 64)).endOcc o none)) ∧
    (∀ c, s.findOcc n 2 = some o → s.disarmBar (o.arg % 64) = some c →
      exec (.actionDisarm n) s = .next (s.endOcc o (some c)))) ∧
  (∀ (s : State) (n : Nat) (o : Occ), s.active = true →
    (s.findMask n 4 = some o → (s.startable o).foldl withoutBit o.groups = 0 →
      exec (.actionShuffle n) s = .next (((s.startable o).foldl (fun s g => s.shuffleGroup n g) s).endOcc o none)) ∧
    (s.findMask n 5 = some o → (s.startable o).foldl withoutBit o.groups = 0 →
      exec (.actionBistSlice n) s = .next (((s.startable o).foldl State.bistGroup s).endOcc o none)) ∧
    (∀ u left, u = (s.startable o).foldl (fun s g => s.shuffleGroup n g) s → left = (s.startable o).foldl withoutBit o.groups →
      s.findMask n 4 = some o → left ≠ 0 → exec (.actionShuffle n) s = .next { u with sched := { u.sched with
        waiting := u.sched.waiting.map fun x => if x = o then { o with groups := left } else x } }) ∧
    (∀ u left, u = (s.startable o).foldl State.bistGroup s → left = (s.startable o).foldl withoutBit o.groups →
      s.findMask n 5 = some o → left ≠ 0 → exec (.actionBistSlice n) s = .next { u with sched := { u.sched with
        waiting := u.sched.waiting.map fun x => if x = o then { o with groups := left } else x } }) ∧
    (s.findOcc n 1 = some o → s.inWindow o = true → s.firstInLine o = true →
      (Tbl.get 0 s.ens.dealTick (o.arg % 64) = o.at_.toNat + 1 → exec (.actionArm n) s = .next (s.endOcc o none)) ∧
      (Tbl.get 0 s.ens.dealTick (o.arg % 64) ≠ o.at_.toNat + 1 → ∀ b : State,
        b = { s with sched := { s.sched with waiting := s.sched.waiting.map (fun x => if x = o then { o with started := true } else x) } } →
        (s.planOf (o.arg % 64) ≠ none → s.slotOfPlan (o.arg % 64) = none → exec (.actionArm n) s = .next { b with mem := { b.mem with
          reqs := s.mem.reqs ++ [{ kind := 0, id := o.arg % 64, origin := 2, entry := n, val := o.lateBy }] } }) ∧
        (s.planOf (o.arg % 64) = none → exec (.actionArm n) s =
          .next (b.answer { kind := 7, id := o.arg % 64, origin := 2, entry := n, val := o.lateBy } 3 6)) ∧
        (∀ c, s.planOf (o.arg % 64) ≠ none → s.slotOfPlan (o.arg % 64) ≠ none → s.armBar (o.arg % 64) = some c →
          exec (.actionArm n) s = .next (b.answer { kind := 7, id := o.arg % 64, origin := 2, entry := n, val := o.lateBy } 3 c)) ∧
        (∀ k sl, s.planOf (o.arg % 64) ≠ none → s.slotOfPlan (o.arg % 64) = some k → s.slotOf? k = some sl → sl.armed = true →
          s.armBar (o.arg % 64) = some 5) ∧
        (∀ k pl, s.planOf (o.arg % 64) = some pl → s.slotOfPlan (o.arg % 64) = some k → s.armBar (o.arg % 64) = none →
          b.armGrows k pl = true → exec (.actionArm n) s =
            .next (b.submit { kind := 7, id := o.arg % 64, origin := 2, entry := n, val := o.lateBy })) ∧
        (∀ k pl, s.planOf (o.arg % 64) = some pl → s.slotOfPlan (o.arg % 64) = some k → s.armBar (o.arg % 64) = none →
          b.armGrows k pl = false → exec (.actionArm n) s = .next ((b.doArm k pl (decide (o.lateBy ≠ 0))).2.answer
            { kind := 7, id := o.arg % 64, origin := 2, entry := n, val := o.lateBy } 3 (b.doArm k pl (decide (o.lateBy ≠ 0))).1)))))

/-! ### Snapshots and counters (all chapters) -/

/-- What a CLR_COUNTS command of the register at `off` answers: each of the counters `fs` at 0 and held there for the rest of the cycle
where its block says that the clear takes precedence, nothing else changed; in a mode that does not serve the block, nothing. -/
def Sys2Proof.Machine.clears (s : State) (off : Nat) (fs : List Fld) (r : Host.Outcome State Fault Refusal) : Prop :=
  (s.served off = true → ∃ t, r = .next t ∧ (∀ f ∈ fs, t.fld f = 0) ∧
    (off ≠ 0x10008 → ∀ f ∈ fs, t.justCleared f = true) ∧
    onlyRegs (fs.map Fld.addr) s { t with cleared := s.cleared, clearedAt := s.clearedAt }) ∧
  (s.served off = false → r = .next s)

/-- Every CLR_COUNTS command sets each of its counters to 0 and changes nothing else; an increment of the same cycle is discarded
where the spec says so; in a mode that does not serve its block it does nothing (R85, R107, R142, R213, R244, R273, R301, R338,
R357, R391, R423). A snapshot copies live values into its registers and changes nothing else: the timestamp, on a unit without a
role the count and the cycle's fraction (R32, R35), the fabric's map (R85), the calibration values (R107), the books of triggers
and folios (R170; SNAP reads 1 while what is in transit is still added), the books of the queues (R298), the sequencers (R338). -/
def Obligations.ClearsAndSnapshotsActOnTheirRegisters : Prop :=
  (∀ s : State,
    clears s 0x10008 [TIME.COUNTS.REF_LOSS, TIME.COUNTS.PHASE_HIT, TIME.COUNTS.SLIP, TIME.COUNTS.EPOCH_MISSING,
      TIME.SCHED_COUNTS.STALE, TIME.SCHED_COUNTS.DEADLINE] (exec .timeClrCounts s) ∧
    clears s 0x2000C (((List.range 4).flatMap fun g => [CNV.SHUFFLE_COUNT.STEPS g, CNV.SHUFFLE_COUNT.ABORTS g,
      CNV.SHUFFLE_COUNT.SKIPS g]) ++ (List.range 64).flatMap fun c => [CNV.OVER_COUNT.COUNT c, CNV.UNDER_COUNT.COUNT c])
      (exec .cnvClrCounts s) ∧
    clears s 0x30008 ([CAL.COUNTS.BG_RUNS, CAL.COUNTS.BG_FAILED, CAL.COUNTS.DISCARDS] ++
      (List.range 64).flatMap fun c => [CAL.TRACK_STATUS.INSUFF c, CAL.TRACK_STATUS.UPDATES c]) (exec .calClrCounts s) ∧
    clears s 0x40000 (((List.range 4).flatMap fun i => [TRG.PIN_COUNT.EDGES i, TRG.PIN_FILTER.GLITCH i,
      TRG.PIN_FILTER.COALESCED i]) ++ ((List.range 2).flatMap fun n => [TRG.OUT_COUNT.PULSES n, TRG.OUT_COUNT.MERGED n]) ++
      (List.range 8).map TRG.COALESCED.COUNT) (exec .trgClrCounts s) ∧
    clears s 0x60000 ((List.range 64).flatMap fun c => [COD.CNT_FULL.COUNT c, COD.CNT_BOUNDED.COUNT c,
      COD.CNT_HALVED.COUNT c, COD.CNT_RFRAMES.COUNT c, COD.CH_MAXK.MAXK c]) (exec .codClrCounts s) ∧
    clears s 0x70000 (((List.range 8).flatMap fun k => [ACC.SLOT_SKIPS.BUSY k, ACC.SLOT_SKIPS.QUALITY k,
      ACC.SLOT_SKIPS.HISTORY k, ACC.SLOT_SKIPS.OVERLAP k]) ++ ((List.range 4).flatMap fun p => [ACC.PLANE_COUNT.RECORDS p,
      ACC.PLANE_STATUS.SKIPS p]) ++ [ACC.COMP_COUNTS.FRAMES, ACC.COMP_COUNTS.UNCHANGED, ACC.COMP_OVERRUN.OVERRUN])
      (exec .accClrCounts s) ∧
    clears s 0x80018 ([ENS.CALL_TX.COUNT, ENS.CALL_RX.COUNT, ENS.CALL_LOSS.LOST, ENS.CALL_LOSS.DROPPED, ENS.CALL_LOSS.UNSENT,
      ENS.DEAL_COUNTS.RX, ENS.DEAL_COUNTS.IGNORED, ENS.DEAL_COUNTS.MSG_DROPPED] ++ (List.range 2).flatMap fun p =>
      [ENS.PORT_STATUS.DOWNS p, ENS.PORT_ERR.BLOCK_ERR p, ENS.PORT_ERR.CRC_ERR p, ENS.PORT_COPY.SINGLE p, ENS.PORT_COPY.PAIR_LOST p,
        ENS.PORT_COMP.INSERTED p, ENS.PORT_COMP.DELETED p]) (exec .ensClrCounts s) ∧
    clears s 0x90008 (MEM.PANIC.COUNT :: (List.range 12).flatMap fun c => [MEM.CH_ECC.CE c, MEM.CH_ECC.UE c,
      MEM.CH_CAPAR.PARITY c, MEM.CH_CAPAR.RETRAIN_FAIL c, MEM.CH_CAPAR.CONSEC c, MEM.CH_REFRESH.MAKEUP c, MEM.CH_RETRAIN.COUNT c,
      MEM.CH_RH.THROTTLES c, MEM.CH_RH.RFM c]) (exec .memClrCounts s) ∧
    clears s 0xA0000 ((List.range 512).flatMap fun q => [RDO.Q_ERR.RETRIES q, RDO.Q_ERR.HALTS q, RDO.Q_ERR.POISONED q])
      (exec .rdoClrCounts s) ∧
    clears s 0xC0004 [DSP.COUNTS.UNDERRUN, DSP.COUNTS.PSR_ENTRIES, DSP.COUNTS.PSR_EXITS, DSP.LINK_ERR.TRAIN_FAILS,
      DSP.LINK_ERR.HPD_IRQ, DSP.LINK_ERR.LOSSES, DSP.LINK_ERR.PSR_ERRORS] (exec .dspClrCounts s) ∧
    clears s 0xD0010 ([SEQ.PATCH_ECC.CE, SEQ.PATCH_ECC.UE] ++ (List.range 69).flatMap fun u => [SEQ.UNIT_COUNTS.ELASTIC_OVF u,
      SEQ.UNIT_COUNTS.CTX_PARITY u, SEQ.UNIT_COUNTS.PROXY u, SEQ.UNIT_LAT.MAX_LAT u, SEQ.UNIT_LAT.MAX_LEN u])
      (exec .seqClrCounts s) ∧
    clears s 0xE0008 [MGT.MON_COUNTS.PW_EVENTS, MGT.MON_COUNTS.INTERRUPTED, MGT.MON_COUNTS.INJ_OVERRUN,
      MGT.MON_COUNTS.UNSETTLED, MGT.LOG_STATUS.DROPPED, MGT.MBX_STATUS.REFUSED, MGT.MBX_STATUS.UART_ERR] (exec .mgtClrCounts s) ∧
    clears s 0x10000C ((List.range 4).flatMap fun g => [BST.GROUP_COUNTS.SLICES g, BST.GROUP_COUNTS.FAILS g,
      BST.GROUP_COUNTS.SKIPS g, BST.GROUP_COUNTS.ABANDONED g]) (exec .bstClrCounts s) ∧
    clears s 0x110004 ((List.range 256).map EVT.COUNT.COUNT) (exec .evtClrCounts s)) ∧
  (∀ s : State,
    (s.served 0x10008 = true → ∃ t, exec .timeSnap s = .next t ∧
      t.fld TIME.SNAP_TICK_LO.TICK = (s.stamp (s.now * finePerNs)).1.toNat % 2 ^ 32 ∧
      t.fld TIME.SNAP_TICK_HI.TICK = (s.stamp (s.now * finePerNs)).1.toNat / 2 ^ 32 ∧
      t.fld TIME.SNAP_FRAC.FRAC = (s.stamp (s.now * finePerNs)).2 ∧
      onlyRegs [TIME.SNAP_TICK_LO.TICK.addr, TIME.SNAP_TICK_HI.TICK.addr, TIME.SNAP_FRAC.FRAC.addr] s t) ∧
    (s.fld ENS.CFG.ROLE = 0 → (∀ x ∈ s.time.jumpLog, x.1 ≤ s.now) →
      s.stamp (s.now * finePerNs) = (s.tick, (s.now % 10 * 2 ^ 24 + 5) / 10)) ∧
    (s.served 0x2000C = true → ∃ t, exec .cnvSnapMap s = .next t ∧ onlyBlock 2 s t ∧
      (∀ sl < 68, t.fld (CNV.SLICE_STATUS.ROLE sl) = s.roleOf sl) ∧
      (∀ l < 64, t.fld (CNV.LANE_MAP.SLICE l) = s.sliceOf l % 2 ^ (CNV.LANE_MAP.SLICE l).width)) ∧
    (s.served 0x30008 = true → ∃ t, exec .calSnap s = .next t ∧ onlyBlock 3 s t ∧
      ∀ l < 64, t.fldS (CAL.SLOT_SKEW.SKEW l) = satI (s.skewFs l) (-2048) 2047) ∧
    (s.served 0x50000 = true → ∃ t, exec .bookSnap s = .next t ∧ onlyBlock 5 s { t with acq := s.acq } ∧
      (t.bit ACQ.CMD.SNAP = true ↔ t.acq.snapAt = some s.now) ∧ { t.acq with snapAt := s.acq.snapAt } = s.acq ∧
      t.fld ACQ.SNAP_TICK_LO.TICK = s.tick.toNat % 2 ^ 32 ∧ t.fld ACQ.SNAP_TICK_HI.TICK = s.tick.toNat / 2 ^ 32) ∧
    (s.served 0xA0000 = true → ∃ t, exec .rdoSnap s = .next t ∧
      (∀ g : Fld, g.addr / 524288 ≠ 10 → g.addr / 524288 ≠ 11 → t.fld g = s.fld g) ∧ { t with regs := s.regs } = s ∧
      t.fld RDO.SNAP_TICK_LO.TICK = s.tick.toNat % 2 ^ 32 ∧
      ∀ q < 512, ∀ i < 8, t.fld (RDO.Q_BOOK.COUNT q i) = (s.queue q).books.getD i 0 % 2 ^ (RDO.Q_BOOK.COUNT q i).width) ∧
    (s.served 0xD0010 = true → ∃ t, exec .seqSnap s = .next t ∧ onlyBlock 13 s t ∧
      ∀ u < 69, t.fld (SEQ.UNIT_STATE.STATE u) = (s.sunit u).st % 2 ^ (SEQ.UNIT_STATE.STATE u).width ∧
        t.fld (SEQ.UNIT_STATE.DEPTH u) = (s.sunit u).stack.length % 2 ^ (SEQ.UNIT_STATE.DEPTH u).width))

/-! ### The converter fabric and calibration (chapters 3, 4) -/

/-- A shuffle step (R74, R75, R76): going DOWN from resting position r > 0 it moves lane 16g + r - 1 and slice 17g + r - 1 leaves it,
going UP lane 16g + r and slice 17g + r + 1; the direction turns at the ends; the incoming slice is always 17g + r. A FIXED group
counts a skip; a resting slice that is not ready counts one with the shuffle-skipped notice, and no step starts. -/
def Obligations.ShuffleStepMovesItsLane : Prop :=
  ∀ (s : State) (n g : Nat), g < 4 → s.restPos g ≤ 16 →
    (s.fixed g = false → s.restFails g = false → s.sliceReady (s.restSlice g) = true → s.bit (CNV.GROUP_STATUS.DIR g) = false →
      0 < s.restPos g → ∃ st, (s.shuffleGroup n g).stepOf g = some st ∧ st.incoming = 17 * g + s.restPos g ∧
        st.outgoing + 1 = 17 * g + s.restPos g ∧ st.lane + 1 = 16 * g + s.restPos g ∧ st.down = true ∧ st.startAt = s.now) ∧
    (s.fixed g = false → s.restFails g = false → s.sliceReady (s.restSlice g) = true → s.bit (CNV.GROUP_STATUS.DIR g) = true →
      s.restPos g < 16 → ∃ st, (s.shuffleGroup n g).stepOf g = some st ∧ st.incoming = 17 * g + s.restPos g ∧
        st.outgoing = 17 * g + s.restPos g + 1 ∧ st.lane = 16 * g + s.restPos g ∧ st.down = false ∧ st.startAt = s.now) ∧
    (s.fixed g = false → s.restFails g = false → s.sliceReady (s.restSlice g) = true → s.restPos g = 16 →
      ∃ st, (s.shuffleGroup n g).stepOf g = some st ∧ st.outgoing = 17 * g + 15 ∧ st.lane = 16 * g + 15 ∧ st.down = true) ∧
    (s.fixed g = false → s.restFails g = false → s.sliceReady (s.restSlice g) = true → s.restPos g = 0 →
      ∃ st, (s.shuffleGroup n g).stepOf g = some st ∧ st.outgoing = 17 * g + 1 ∧ st.lane = 16 * g ∧ st.down = false) ∧
    (s.fixed g = true → counted (CNV.SHUFFLE_COUNT.SKIPS g) s (s.shuffleGroup n g) ∧
      onlyRegs [(CNV.SHUFFLE_COUNT.SKIPS g).addr] s (s.shuffleGroup n g)) ∧
    (s.fixed g = false → s.sliceReady (s.restSlice g) = false → s.fld (CAL.SLICE_STATE.BG_STATE (s.restSlice g)) ≠ 5 →
      counted (CNV.SHUFFLE_COUNT.SKIPS g) s (s.shuffleGroup n g) ∧ reported (40 + g) 0 (s.restSlice g) 0 (s.shuffleGroup n g) ∧
      (s.shuffleGroup n g).stepOf g = s.stepOf g)

/-- The rest of a step (R77, R78, R80, R97, Table 03-4): the shadow frame starts on a 64-sample boundary at least 32 ns in; a frame of
fewer than 3072 usable samples, or whose differences are too large, aborts the step, counted, with its notice, and the third
failure in a row retires the slice; an accepted one corrects the incoming slice's offset by the mean difference and fixes the
switch; at the switch the incoming slice serves; 16 ns after it the outgoing slice rests, the step counts and its background run
begins. A background run (R96, R98, R99): one whose every quantity agreed in an attempt and whose loop-back passes takes its
values, clears the slice's marks and makes it ready; one that fails is counted and reported and keeps the values, and the third in
a row retires the slice (R80); while a quantity that disagreed has attempts left the run goes on. Tracking (R101 to R104): a
window in which the channel was disturbed is discarded and counted; a sufficient one gives every slot an eighth of each estimate,
clamped; an insufficient one is counted with its reason and gives offsets alone, or nothing when samples clipped; the next window
follows it; the changes are applied at the next 64-sample boundary, within the limits, a slot stopped at one being shown. -/
def Obligations.StepsBackgroundRunsAndTrackingFollowTheirTables : Prop :=
  (∀ (s : State) (g : Nat) (st : Step), g < 4 → s.stepOf g = some st →
    (st.shadowAt = none → st.switchAt = none → st.startAt + 32 ≤ s.now → s.at64 = true → ∃ t, exec (.shadowFrameStart g) s = .next t ∧
      t.stepOf g = some { st with shadowAt := some s.now } ∧ t.fld (CNV.GROUP_STATUS.STEP g) = 2 ∧
      onlyRegs [(CNV.GROUP_STATUS.STEP g).addr] s { t with cnv := s.cnv }) ∧
    (∀ c as bs ds, st.shadowAt = some c → st.switchAt = none → c + 1088 ≤ s.now → s.frameDiffs st as bs = ds →
      (ds.length < 3072 → st.incoming < 68 → ∃ t, exec (.shadowFrameEnd g (4 * c) as bs) s = .next t ∧ t.stepOf g = none ∧
        t.fld (CNV.GROUP_STATUS.STEP g) = 0 ∧ counted (CNV.SHUFFLE_COUNT.ABORTS g) s t ∧ reported (44 + g) 0 st.incoming 0 t ∧
        t.cal = s.cal) ∧
      (3072 ≤ ds.length → ds.sum.natAbs ≤ 2 ^ 23 * ds.length → (ds.map fun d => d.natAbs ^ 2).sum ≤ 144 * 2 ^ 42 * ds.length →
        ∃ t, exec (.shadowFrameEnd g (4 * c) as bs) s = .next t ∧ t.fld (CNV.GROUP_STATUS.STEP g) = 4 ∧
          Tbl.get 0 t.cal.offset st.incoming =
            satI (Tbl.get 0 s.cal.offset st.incoming - Int.tdiv ds.sum (2 ^ 15 * ds.length)) (-32768) 32767 ∧
          Tbl.get 0 t.cnv.shadowFail st.incoming = 0 ∧
          t.stepOf g = some { st with switchAt := some (s.switchInstant st.lane) }) ∧
      (3072 ≤ ds.length → 2 ^ 23 * ds.length < ds.sum.natAbs ∨ 144 * 2 ^ 42 * ds.length < (ds.map fun d => d.natAbs ^ 2).sum →
        st.incoming < 68 → ∃ t, exec (.shadowFrameEnd g (4 * c) as bs) s = .next t ∧ t.stepOf g = none ∧ t.fld (CNV.GROUP_STATUS.STEP g) = 0 ∧
          counted (CNV.SHUFFLE_COUNT.ABORTS g) s t ∧ reported (44 + g) 1 st.incoming 0 t ∧ t.cal.offset = s.cal.offset ∧
          Tbl.get 0 t.cnv.shadowFail st.incoming = min 3 (Tbl.get 0 s.cnv.shadowFail st.incoming + 1) ∧
          (2 ≤ Tbl.get 0 s.cnv.shadowFail st.incoming → t.isRetired st.incoming = true))) ∧
    (∀ c, st.switchAt = some c → c / finePerNs = s.now → st.switched = false → ∃ t, exec (.shuffleSwitch g) s = .next t ∧
      t.stepOf g = some { st with switched := true } ∧ t.fld (CNV.GROUP_STATUS.STEP g) = 5 ∧
      t.cnv.switches = (st.lane, c) :: s.cnv.switches ∧ (∀ x, c ≤ x → t.sliceWhen st.lane x = t.sliceOf st.lane) ∧
      onlyRegs [(CNV.GROUP_STATUS.STEP g).addr, (CAL.SLICE_STATE.BG_STATE st.incoming).addr] s { t with cnv := s.cnv, seq := s.seq }) ∧
    (∀ c, st.switchAt = some c → st.switched = true → c / finePerNs + 16 ≤ s.now → st.outgoing / 17 = g →
      ∃ t, exec (.shuffleRelease g) s = .next t ∧ t.stepOf g = none ∧ t.restSlice g = st.outgoing ∧
        t.bit (CNV.GROUP_STATUS.DIR g) = !st.down ∧ counted (CNV.SHUFFLE_COUNT.STEPS g) s t ∧
        (s.fixed g = false → Tbl.get none t.cal.bgRun st.outgoing = some s.now ∧ t.fld (CAL.SLICE_STATE.BG_STATE st.outgoing) = 1) ∧
        (s.fixed g = true → t.cal = s.cal))) ∧
  (∀ (s : State) (sl : Nat) (att : List (List (Int × Int))) (lb : LoopBack), sl < 68 → Tbl.get none s.cal.bgRun sl ≠ none →
    s.running = true → Tbl.get none s.bst.run (sl / 17) = none →
    (decideRun att = none → exec (.bgRunComplete sl att lb) s = .next s) ∧
    (∀ v0 v1 v2, decideRun att = some [some v0, some v1, some v2] → loopPasses lb = true →
      ∃ t, exec (.bgRunComplete sl att lb) s = .next t ∧
        t.fld (CAL.SLICE_STATE.BG_STATE sl) = 4 ∧ t.fld (CAL.SLICE_STATE.BG_FAILS sl) = 0 ∧ t.fld (CAL.SLICE_STATE.SUSPECT sl) = 0 ∧
        counted CAL.COUNTS.BG_RUNS s t ∧ Tbl.get none t.cal.bgRun sl = none ∧ Tbl.get 0 t.cal.offset sl = v1.headD 0 ∧
        Tbl.get 0x8000 t.cal.gain sl = v2.headD 0x8000 ∧ (∀ b < 14, Tbl.get none t.cal.weight (16 * sl + b) = v0[b]?)) ∧
    (∀ js, decideRun att = some js → js.all Option.isSome = false ∨ loopPasses lb = false →
      (s.fld (CAL.SLICE_STATE.BG_FAILS sl) < 2 →
        ∃ t, exec (.bgRunComplete sl att lb) s = .next t ∧ t.fld (CAL.SLICE_STATE.BG_STATE sl) = 5 ∧
          t.fld (CAL.SLICE_STATE.BG_FAILS sl) = s.fld (CAL.SLICE_STATE.BG_FAILS sl) + 1 ∧ counted CAL.COUNTS.BG_FAILED s t ∧
          counted CAL.COUNTS.BG_RUNS s t ∧ reported (56 + sl / 17) 0 sl 0 t ∧ t.cal.offset = s.cal.offset ∧ t.cal.gain = s.cal.gain ∧
          t.cal.weight = s.cal.weight) ∧
      (2 ≤ s.fld (CAL.SLICE_STATE.BG_FAILS sl) →
        ∃ t, exec (.bgRunComplete sl att lb) s = .next t ∧ t.isRetired sl = true ∧ t.fixed (sl / 17) = true ∧
          t.restPos (sl / 17) = sl % 17 ∧ reported (48 + sl / 17) 1 sl 0 t ∧ t.cal.offset = s.cal.offset ∧ t.cal.gain = s.cal.gain ∧
          t.cal.weight = s.cal.weight))) ∧
  (∀ (s : State) (c : Nat), c < 64 →
    (∀ w es, Tbl.get none s.cal.win c = some w → s.tracked c = true → w.from_ + s.winLen + 4 ≤ w.top →
      es = s.estimates c w w.from_ s.winLen →
      ∃ t, exec (.trackWindowEnd c w.from_) s = .next t ∧ Tbl.get none t.cal.win c = some (s.nextWin w) ∧
        (s.trackDisturbed c w = true → counted CAL.COUNTS.DISCARDS s t ∧ Tbl.get [] t.cal.track c = [] ∧
          onlyRegs [CAL.COUNTS.DISCARDS.addr] s { t with cal := s.cal }) ∧
        (s.trackDisturbed c w = false → s.trackReason c w = 0 → Tbl.get [] t.cal.track c = es.map (fun e =>
            (satI (e.1 / 8) (-3276) 3276, satI (e.2.1 / 8) (-21474) 21474, satI (e.2.2 / 8) (-2560) 2560)) ∧
          Tbl.get false t.cal.trackFull c = true ∧ onlyRegs [] s { t with cal := s.cal }) ∧
        (s.trackDisturbed c w = false → s.trackReason c w ≠ 0 → counted (CAL.TRACK_STATUS.INSUFF c) s t ∧
          t.fld (CAL.TRACK_STATUS.REASON c) = s.trackReason c w ∧ Tbl.get [] t.cal.track c =
            (if s.trackReason c w % 2 = 0 then es.map (fun e => (satI (e.1 / 8) (-3276) 3276, 0, 0)) else []) ∧
          onlyRegs [(CAL.TRACK_STATUS.INSUFF c).addr, (CAL.TRACK_STATUS.REASON c).addr] s { t with cal := s.cal })) ∧
    (∀ ch, Tbl.get [] s.cal.track c = ch → ch ≠ [] → s.at64 = true →
      ∃ t, exec (.trackUpdateApply c) s = .next t ∧ Tbl.get [] t.cal.track c = [] ∧
        (Tbl.get false s.cal.trackFull c = true → counted (CAL.TRACK_STATUS.UPDATES c) s t) ∧
        t.bit (CAL.TRACK_STATUS.LIMIT c) = (s.lanesOf c).any (fun l => Tbl.get false t.cal.limits (2 * l) ||
          Tbl.get false t.cal.limits (2 * l + 1)) ∧
        ∀ j e l, ch[j]? = some e → l = s.slotLane c j → (∀ i < ch.length, i ≠ j → s.slotLane c i ≠ l) →
          Tbl.get 0 t.cal.slotOffset l = satI (Tbl.get 0 s.cal.slotOffset l + e.1) (-33554432) 33553408 ∧
          Tbl.get 1073741824 t.cal.slotGain l = satI (Tbl.get 1073741824 s.cal.slotGain l + e.2.1) 0 2147450880 ∧
          Tbl.get 0 t.cal.slotSkew l = satI (Tbl.get 0 s.cal.slotSkew l + e.2.2) (-512000) 512000))

/-! ### The trigger fabric (chapter 5) -/

/-- Slot `k` books trigger `a` with outcome `i` (1 accepted, 2 held_off, 3 lost_rearm, 4 lost_queue, 5 early), and as qualified unless it
is a call, which was booked so at its delivery (R126, R168), and no other trigger book changes. -/
def Sys2Proof.Machine.booked (k i : Nat) (a : Asked) (s t : State) : Prop :=
  t.tbook k 0 = (if a.origin = 1 then s.tbook k 0 else (s.tbook k 0 + 1) % 2 ^ 64) ∧ t.tbook k i = (s.tbook k i + 1) % 2 ^ 64 ∧
  ∀ m j, j < 8 → m ≠ k ∨ (j ≠ 0 ∧ j ≠ i) → t.tbook m j = s.tbook m j

/-- Every qualified trigger is booked once, with exactly one outcome, the first step of Table 05-6 that applies: held off, lost to the
re-arm time of 64 ns, early under FULL_ONLY, lost to the queue, or accepted (R127); out of order, held off when it lies within a
remembered trigger's span, else judged by steps 3 to 5 (R132). -/
def Obligations.TriggerTakesTheFirstStepThatApplies : Prop :=
  ∀ (s : State) (k : Nat) (sl : Slot) (pl : Plan) (a : Asked), s.slotOf? k = some sl → s.slotPlan k = some pl →
    ((∀ l, sl.tLast = some l → l ≤ a.t) →
      (s.holding k sl a = true → booked k 2 a s (s.judgeTrig k a).2) ∧
      (s.holding k sl a = false → (∃ l, sl.tLast = some l ∧ a.t < l + rearmTime) → booked k 3 a s (s.judgeTrig k a).2) ∧
      (s.holding k sl a = false → (∀ l, sl.tLast = some l → l + rearmTime ≤ a.t) →
        ((pl.deficit && s.someShort sl pl a.t) = true → booked k 5 a s (s.judgeTrig k a).2) ∧
        ((pl.deficit && s.someShort sl pl a.t) = false → s.canTake sl pl = false → booked k 4 a s (s.judgeTrig k a).2) ∧
        ((pl.deficit && s.someShort sl pl a.t) = false → s.canTake sl pl = true → booked k 1 a s (s.judgeTrig k a).2))) ∧
    (∀ l, sl.tLast = some l → a.t < l →
      ((sl.remembered.any fun r => decide (r.1 ≤ a.t + rearmTime) && decide (a.t < r.2)) = true → booked k 2 a s (s.judgeTrig k a).2) ∧
      ((sl.remembered.any fun r => decide (r.1 ≤ a.t + rearmTime) && decide (a.t < r.2)) = false →
        ((pl.deficit && s.someShort sl pl a.t) = true → booked k 5 a s (s.judgeTrig k a).2) ∧
        ((pl.deficit && s.someShort sl pl a.t) = false → s.canTake sl pl = false → booked k 4 a s (s.judgeTrig k a).2) ∧
        ((pl.deficit && s.someShort sl pl a.t) = false → s.canTake sl pl = true → booked k 1 a s (s.judgeTrig k a).2)))

/-- The source and kind of a notice about detector `i`: the slot whose active plan holds its channel, else the device (sources 76 + 5k
and 8; kind 0 stuck, 1 parameter, one higher at the device). -/
def Sys2Proof.Machine.detTold (s : State) (i kind : Nat) (t : State) : Prop :=
  match s.slotHolding (i / 2) with
  | some k => reported (76 + 5 * k) kind i 0 t
  | none => reported 8 (kind + 1) i 0 t

/-- The last value listed under the keys that `p` picks replaces a field's, cut to its width. -/
def Sys2Proof.Machine.lastFor (p : Nat → Bool) (l : List (Nat × Nat)) (f : Fld) (s t : State) : Prop :=
  match (l.filter fun x => p x.1).getLast? with
  | some x => t.fld f = x.2 % 2 ^ f.width
  | none => t.fld f = s.fld f

/-- An evaluation instant (R69, R71, R108, R114, R118): the next instant of an active slot, over whole and with the raw conversions
that its channels need and the changes of the pins in use confirmed, is run, armed or not; the conversions of channels that no
slot holds are corrected and go through their detectors; outside READY and ACQUIRE nothing is evaluated. Live writes (R110, R136):
a level outside its bound, LL above LH of a window or runt detector, H above HYST_MAX, HOLD_TICKS above its maximum and a
HOLD_COUNT of 0 are refused with the parameter notice; an accepted value is pending and the value in force stays until the re-arm
point, the end of a re-arm time or a tick boundary outside one, at which the slot's holdoff values and its channels' detectors
take theirs and a detector restarts; a detector whose channel no plan holds takes its own at the tick boundary. -/
def Obligations.LiveWritesAndEvaluationsKeepTheirOrder : Prop :=
  (∀ (s : State) (l : List (Nat × List Nat)),
    (∀ k sl pl, s.running = true → s.slotOf? k = some sl → s.slotPlan k = some pl →
      (sl.inst + 1) * 10 ≤ s.now * instPerTick (s.fld (TRG.SLOT_CFG.TE k)) →
      s.pinsKnown (instPerTick (s.fld (TRG.SLOT_CFG.TE k))) sl.inst = true → s.samplesFit pl (instPerTick (s.fld (TRG.SLOT_CFG.TE k))) sl.inst l = true →
      exec (.evaluationInstant (some k) l) s = .next (s.runInstant k sl.inst pl l)) ∧
    (s.running = true → 0 < s.now → l.all s.freeFits = true →
      exec (.evaluationInstant none l) s = .next (l.foldl State.runFree s)) ∧
    (∀ k, s.running = false → exec (.evaluationInstant k l) s = .next s)) ∧
  (∀ s : State,
    (∀ i lh ll, s.served (0x42004 + 32 * i) = true → i < 128 →
      ((s.inBound i (ofTwos 12 lh) = true ∧ (usesLL (s.fld (TRG.DET_MODE.TYPE i)) = true →
          s.inBound i (ofTwos 12 ll) = true ∧ ofTwos 12 ll ≤ ofTwos 12 lh)) →
        ∃ t, exec (.detLevelWrite i lh ll) s = .next t ∧
          (t.det i).pend = some (ofTwos 12 lh, ofTwos 12 ll, (s.detNext i).2.2) ∧ t.fld (TRG.DET_STATUS.PEND i) = 1 ∧
          onlyRegs [(TRG.DET_STATUS.PEND i).addr] s { t with trg := s.trg }) ∧
      ((s.inBound i (ofTwos 12 lh) = false ∨ (usesLL (s.fld (TRG.DET_MODE.TYPE i)) = true ∧
          (s.inBound i (ofTwos 12 ll) = false ∨ ofTwos 12 lh < ofTwos 12 ll))) →
        ∃ t, exec (.detLevelWrite i lh ll) s = .next t ∧ detTold s i 1 t ∧ onlyReports [] s t)) ∧
    (∀ i h, s.served (0x42008 + 32 * i) = true → i < 128 → h < 256 →
      (h ≤ s.fld (TRG.DET_STATUS.HYST_MAX i) → ∃ t, exec (.detHystWrite i h) s = .next t ∧
        (t.det i).pend = some ((s.detNext i).1, (s.detNext i).2.1, (h : Int)) ∧ t.fld (TRG.DET_STATUS.PEND i) = 1 ∧
        onlyRegs [(TRG.DET_STATUS.PEND i).addr] s { t with trg := s.trg }) ∧
      (s.fld (TRG.DET_STATUS.HYST_MAX i) < h → ∃ t, exec (.detHystWrite i h) s = .next t ∧ detTold s i 1 t ∧ onlyReports [] s t)) ∧
    (∀ k v, k < 8 →
      (s.served (0x4300C + 64 * k) = true → v < 2 ^ 32 → s.fld (TRG.HOLD_MAX_TICKS.MAX k) < v →
        ∃ t, exec (.holdTicksWrite k v) s = .next t ∧ reported (76 + 5 * k) 1 0 0 t ∧ onlyReports [] s t) ∧
      (s.served (0x4300C + 64 * k) = true → v < 2 ^ 32 → v ≤ s.fld (TRG.HOLD_MAX_TICKS.MAX k) →
        ∃ t, exec (.holdTicksWrite k v) s = .next t ∧ (0, v) ∈ Tbl.get [] t.trg.hold k ∧ t.fld (TRG.SLOT_STATUS.PEND k) = 1 ∧
          onlyRegs [(TRG.SLOT_STATUS.PEND k).addr] s { t with trg := s.trg }) ∧
      (s.served (0x43010 + 64 * k) = true → v < 4096 → ∃ t, exec (.holdSamplesWrite k v) s = .next t ∧
        (1, v) ∈ Tbl.get [] t.trg.hold k ∧ t.fld (TRG.SLOT_STATUS.PEND k) = 1 ∧
        onlyRegs [(TRG.SLOT_STATUS.PEND k).addr] s { t with trg := s.trg }) ∧
      (s.served (0x43014 + 64 * k) = true → 0 < v → v < 2 ^ 24 → ∃ t, exec (.holdCountWrite k v) s = .next t ∧
        (2, v) ∈ Tbl.get [] t.trg.hold k ∧ t.fld (TRG.SLOT_STATUS.PEND k) = 1 ∧
        onlyRegs [(TRG.SLOT_STATUS.PEND k).addr] s { t with trg := s.trg }) ∧
      (s.served (0x43014 + 64 * k) = true → v = 0 → ∃ t, exec (.holdCountWrite k v) s = .next t ∧
        reported (76 + 5 * k) 1 0 0 t ∧ onlyReports [] s t) ∧
      (s.inRearm k = false → s.bit (TRG.SLOT_STATUS.REARM k) = true ∨ s.cyc = 0 →
        exec (.rearmPoint (some k)) s = .next (match s.slotPlan k with
          | some pl => pl.chans.foldl (fun (t : State) (c : Chan) => (t.applyDet (2 * c.ch)).applyDet (2 * c.ch + 1))
              ((s.setF (TRG.SLOT_STATUS.REARM k) 0).applyHold k)
          | none => (s.setF (TRG.SLOT_STATUS.REARM k) 0).applyHold k)) ∧
      (s.inRearm k = true → exec (.rearmPoint (some k)) s = .next s) ∧
      (∃ t, s.applyHold k = t ∧ lastFor (fun j => j == 0) (Tbl.get [] s.trg.hold k) (TRG.HOLD_TICKS.TICKS k) s t ∧
        lastFor (fun j => j == 1) (Tbl.get [] s.trg.hold k) (TRG.HOLD_SAMPLES.SAMPLES k) s t ∧
        lastFor (fun j => j != 0 && j != 1) (Tbl.get [] s.trg.hold k) (TRG.HOLD_COUNT.COUNT k) s t ∧
        t.fld (TRG.SLOT_STATUS.PEND k) = 0 ∧ Tbl.get [] t.trg.hold k = [] ∧
        onlyRegs [(TRG.HOLD_TICKS.TICKS k).addr, (TRG.HOLD_SAMPLES.SAMPLES k).addr, (TRG.HOLD_COUNT.COUNT k).addr,
          (TRG.SLOT_STATUS.PEND k).addr] s { t with trg := s.trg })) ∧
    (s.cyc = 0 → exec (.rearmPoint none) s =
      .next ((List.range 128).foldl (fun t i => if (t.slotHolding (i / 2)).isNone then t.applyDet i else t) s)) ∧
    (∀ i, (s.det i).pend = none → s.applyDet i = s) ∧
    (∀ i lh ll h, (s.det i).pend = some (lh, ll, h) → ∃ t, s.applyDet i = t ∧ (t.det i).pend = none ∧ (t.det i).fresh = true ∧
      t.fld (TRG.DET_LEVEL.LH i) = toTwos 12 (satI lh (-2048) 2047) ∧ t.fld (TRG.DET_LEVEL.LL i) = toTwos 12 (satI ll (-2048) 2047) ∧
      t.fld (TRG.DET_HYST.H i) = h.toNat % 256 ∧ t.fld (TRG.DET_STATUS.PEND i) = 0 ∧
      onlyRegs [(TRG.DET_LEVEL.LH i).addr, (TRG.DET_LEVEL.LL i).addr, (TRG.DET_HYST.H i).addr, (TRG.DET_STATUS.PEND i).addr] s
        { t with trg := s.trg }))

/-- A counter field raised by `n` up to its limit, unless a CLR_COUNTS cleared it in the same fabric cycle. -/
def Sys2Proof.Machine.countedBy (n : Nat) (f : Fld) (s t : State) : Prop :=
  t.fld f = if s.justCleared f then s.fld f else min (s.fld f + n) (2 ^ f.width - 1)

/-- Pins and stuck sources (R111, R138): a confirmed activation counts an edge and raises the level; the end of a run lowers it; the
glitches and the bridged gaps seen count with it, or as they come; a pin or a detector unchanged for TIME ticks becomes stuck,
with its notice, once. TRIG_OUT, the holdoff's end, the lost-trigger list and the force (R128, R133, R137, R139, R140): where the
pins are driven a pulse due starts and counts, after the inactive level where the one before it is over; one that falls within an
active pulse extends it and counts as merged; a pulse ends after its width unless one due extends it; LL_SEL copies the entry it
names; a force on an armed slot sets its bit and reaches the fabric 0 to 200 ns later, and on a slot that is not armed, or with
one pending, does nothing. -/
def Obligations.PinsListsAndForcesAct : Prop :=
  (∀ s : State, s.running = true →
    (∀ i ago n, i < 4 → s.bit (TRG.PIN_CFG.IN_USE i) = true →
      ((s.pin i).level = false → 4 ≤ ago → ago ≤ 16 * s.now → ∃ t, exec (.trigInActivation i ago n) s = .next t ∧
        (t.pin i).level = true ∧ (t.pin i).runs.head? = some (16 * s.now - ago, none) ∧ t.fld (TRG.PIN_STATUS.LEVEL i) = 1 ∧
        t.fld (TRG.PIN_STATUS.STUCK i) = 0 ∧ counted (TRG.PIN_COUNT.EDGES i) s t ∧ countedBy n (TRG.PIN_FILTER.GLITCH i) s t ∧
        onlyRegs [(TRG.PIN_STATUS.LEVEL i).addr, (TRG.PIN_STATUS.STUCK i).addr, (TRG.PIN_COUNT.EDGES i).addr,
          (TRG.PIN_FILTER.GLITCH i).addr] s { t with trg := s.trg }) ∧
      ((s.pin i).level = false → ago = 0 → ∃ t, exec (.trigInActivation i ago n) s = .next t ∧
        countedBy n (TRG.PIN_FILTER.GLITCH i) s t ∧ onlyRegs [(TRG.PIN_FILTER.GLITCH i).addr] s t) ∧
      ((s.pin i).level = true → 4 ≤ ago → ago ≤ 16 * s.now → ∃ t, exec (.trigInDeactivation i ago n) s = .next t ∧
        (t.pin i).level = false ∧ t.fld (TRG.PIN_STATUS.LEVEL i) = 0 ∧ t.fld (TRG.PIN_STATUS.STUCK i) = 0 ∧
        countedBy n (TRG.PIN_FILTER.COALESCED i) s t ∧
        onlyRegs [(TRG.PIN_STATUS.LEVEL i).addr, (TRG.PIN_STATUS.STUCK i).addr, (TRG.PIN_FILTER.COALESCED i).addr] s
          { t with trg := s.trg }) ∧
      ((s.pin i).level = true → ago = 0 → ∃ t, exec (.trigInDeactivation i ago n) s = .next t ∧
        countedBy n (TRG.PIN_FILTER.COALESCED i) s t ∧ onlyRegs [(TRG.PIN_FILTER.COALESCED i).addr] s t)) ∧
    (∀ i, i < 4 → s.bit (TRG.PIN_CFG.IN_USE i) = true → s.fld (TRG.PIN_STUCK.TIME i) ≠ 0 → s.bit (TRG.PIN_STATUS.STUCK i) = false →
      (s.pin i).changeAt + 10 * s.fld (TRG.PIN_STUCK.TIME i) ≤ s.now → ∃ t, exec (.pinStuck i) s = .next t ∧
        t.bit (TRG.PIN_STATUS.STUCK i) = true ∧ reported 8 0 i 0 t ∧ onlyReports [(TRG.PIN_STATUS.STUCK i).addr] s t ∧
        exec (.pinStuck i) t = .next t) ∧
    (∀ i, i < 128 → s.chanExists (i / 2) = true → s.fld (TRG.DET_MODE.TYPE i) ≠ 0 → s.fld (TRG.DET_STUCK.TIME i) ≠ 0 →
      s.bit (TRG.DET_STATUS.STUCK i) = false → (s.det i).changeAt + 10 * s.fld (TRG.DET_STUCK.TIME i) ≤ s.now →
      ∃ t, exec (.detectorStuck i) s = .next t ∧ t.bit (TRG.DET_STATUS.STUCK i) = true ∧
        detTold s i 0 t ∧ onlyReports [(TRG.DET_STATUS.STUCK i).addr] s t ∧ exec (.detectorStuck i) t = .next t)) ∧
  (∀ s : State,
    (∀ n g rest, n < 2 → s.running = true → s.trg.outOn = true → (s.outPin n).due = g :: rest → g ≤ 16 * s.now →
      ((∀ e, (s.outPin n).endsAt = some e → e ≤ g) → ∃ t, exec (.trigOutPulse n) s = .next t ∧
        t.outPin n = { due := rest, endsAt := some (g + 16 * s.fld (TRG.OUT_CFG.WIDTH n)) } ∧ counted (TRG.OUT_COUNT.PULSES n) s t ∧
        t.out = .trigOut n (!s.bit (TRG.OUT_CFG.POL n)) ::
          (if (s.outPin n).endsAt.isSome then [.trigOut n (s.bit (TRG.OUT_CFG.POL n))] else []) ++ s.out ∧
        onlyRegs [(TRG.OUT_COUNT.PULSES n).addr] s { t with trg := s.trg, out := s.out }) ∧
      (∀ e, (s.outPin n).endsAt = some e → g < e → ∃ t, exec (.trigOutPulse n) s = .next t ∧
        t.outPin n = { due := rest, endsAt := some (g + 16 * s.fld (TRG.OUT_CFG.WIDTH n)) } ∧ counted (TRG.OUT_COUNT.MERGED n) s t ∧
        onlyRegs [(TRG.OUT_COUNT.MERGED n).addr] s { t with trg := s.trg })) ∧
    (∀ n e, (s.outPin n).endsAt = some e → e ≤ 16 * s.now → (∀ g ∈ (s.outPin n).due, e ≤ g) →
      ∃ t, exec (.trigOutPulseEnd n) s = .next t ∧ (t.outPin n).endsAt = none ∧ (t.outPin n).due = (s.outPin n).due ∧
        t.out = .trigOut n (s.bit (TRG.OUT_CFG.POL n)) :: s.out ∧ { t with trg := s.trg, out := s.out } = s) ∧
    (∀ k sl h, s.slotOf? k = some sl → sl.holdEnd = some h → h ≤ s.now * finePerNs → ∃ t, exec (.holdoffEnd k) s = .next t ∧
      t.fld (TRG.SLOT_STATUS.HOLDOFF k) = 0 ∧ onlyRegs [(TRG.SLOT_STATUS.HOLDOFF k).addr] s t) ∧
    (∀ v e, s.served 0x40008 = true → e = Tbl.get [] (Tbl.get [] s.trg.list (v % 8)) (v / 2 ^ 16 % 4096) →
      ∃ t, exec (.llSelWrite v) s = .next t ∧ t.fld TRG.LL_SEL.SLOT = v % 8 ∧ t.fld TRG.LL_SEL.INDEX = v / 2 ^ 16 % 4096 ∧
        (∀ j < 4, t.fld (TRG.LL_DATA.DATA j) = e.getD j 0 % 2 ^ 32) ∧
        onlyRegs ([TRG.LL_SEL.SLOT.addr, TRG.LL_SEL.INDEX.addr] ++ (List.range 4).map fun j => (TRG.LL_DATA.DATA j).addr) s t) ∧
    (∀ k, k < 8 → s.served 0x40004 = true →
      (∀ sl, s.slotOf? k = some sl → sl.armed = true → bitOf (s.fld TRG.FORCE.FORCE) k = false → ∃ t, exec (.force k) s = .next t ∧
        bitOf (t.fld TRG.FORCE.FORCE) k = true ∧ (∃ d ≤ 200, Tbl.get 0 t.trg.forceAt k = s.now + d + 1) ∧
        t.freeCount = s.freeCount + 1 ∧ onlyRegs [TRG.FORCE.FORCE.addr] s { t with trg := s.trg, freeCount := s.freeCount }) ∧
      (s.slotOf? k = none → exec (.force k) s = .next s) ∧
      (∀ sl, s.slotOf? k = some sl → sl.armed = false ∨ bitOf (s.fld TRG.FORCE.FORCE) k = true → exec (.force k) s = .next s)))

/-! ### Plans, records and folios (chapters 1, 6), the coder's parameters (chapter 7) -/

/-- Admission (R22, R257): a request is accepted only when every region is mapped, the shares held with those it asks for fit under
CEIL on every in-service channel, and a guarantee fits the link; then its reservations stand, and MEM.ADMIT shows 0. Refused,
every reservation is unchanged, MEM.ADMIT shows why, and the admission-refused notice is raised. -/
def Obligations.AdmissionFitsUnderTheCeiling : Prop :=
  ∀ (s : State) (kind id : Nat) (asks : List (Nat × Resv)) (mapped : Bool) (ex : Nat), kind < 8 → id < 256 →
    ((s.judgeAdmission kind id asks mapped ex).1 = 0 ↔
      mapped = true ∧ totalShare s.carriers (putResv s.mem.resv asks) ≤ s.fld MEM.CEIL.CEIL ∧ ex = 0) ∧
    ((s.judgeAdmission kind id asks mapped ex).1 = 0 → (s.judgeAdmission kind id asks mapped ex).2.mem.resv = putResv s.mem.resv asks) ∧
    ((s.judgeAdmission kind id asks mapped ex).1 ≠ 0 → (s.judgeAdmission kind id asks mapped ex).2.mem = s.mem ∧
      reported 2 kind id 0 (s.judgeAdmission kind id asks mapped ex).2) ∧
    (s.judgeAdmission kind id asks mapped ex).2.fld MEM.ADMIT.RESULT = (s.judgeAdmission kind id asks mapped ex).1 ∧
    (s.judgeAdmission kind id asks mapped ex).2.fld MEM.ADMIT.KIND = kind

/-- Plan commands (R16, R26, R28, R29, R48, R152, R159): each shows its plan and OP; outside READY and ACQUIRE, and once an entry to
DORMANT has begun, it is answered 9; an activation waits with BUSY for its turn, and so does a deactivation behind earlier
requests, which else starts at once; of a plan the library lacks the answer is 6, of an inactive plan 5; an arm that asks for no
larger reservation, and a disarm, is made at once, an arm that asks for one waits. The requests waiting are decided one at a time
in the order received (R28): the head by its kind, none outside READY and ACQUIRE; an activation refused before admission is
answered with its code and leaves the queue; the entry to DORMANT that a request waits for begins once none is left. -/
def Obligations.PlansAreAnsweredAndAdmittedInOrder : Prop :=
  (∀ (s : State) (p : Nat), s.served 0x5000C = true → p < 64 →
    (s.active = false → ∀ e ∈ [(1, Instr.planActivate p), (2, .planDeactivate p), (3, .planArm p), (4, .planDisarm p)],
      ∃ t, exec e.2 s = .next t ∧ t.fld ACQ.PLAN_RESULT.RESULT = 9 ∧ t.fld ACQ.PLAN_RESULT.PLAN = p ∧ t.fld ACQ.PLAN_RESULT.OP = e.1 ∧
        t.fld ACQ.PLAN_RESULT.BUSY = 0 ∧ onlyRegs [ACQ.PLAN_RESULT.RESULT.addr, ACQ.PLAN_RESULT.PLAN.addr, ACQ.PLAN_RESULT.OP.addr,
          ACQ.PLAN_RESULT.BUSY.addr] s t) ∧
    (s.active = true →
      (∃ t, exec (.planActivate p) s = .next t ∧ t.fld ACQ.PLAN_RESULT.BUSY = 1 ∧ t.fld ACQ.PLAN_RESULT.PLAN = p ∧
        t.fld ACQ.PLAN_RESULT.OP = 1 ∧ t.mem.reqs = s.mem.reqs ++ [{ kind := 0, id := p, origin := 1, entry := 0, val := 0 }] ∧
        onlyRegs [ACQ.PLAN_RESULT.PLAN.addr, ACQ.PLAN_RESULT.OP.addr, ACQ.PLAN_RESULT.BUSY.addr] s { t with mem := s.mem }) ∧
      (s.planOf p = none → s.armBar p = some 6 ∧ s.disarmBar p = some 6) ∧
      (s.planOf p ≠ none → s.slotOfPlan p = none → s.armBar p = some 5 ∧ s.disarmBar p = some 5) ∧
      (∀ c, s.armBar p = some c → ∃ t, exec (.planArm p) s = .next t ∧ t.fld ACQ.PLAN_RESULT.RESULT = c ∧
        t.fld ACQ.PLAN_RESULT.BUSY = 0 ∧ onlyRegs [ACQ.PLAN_RESULT.RESULT.addr, ACQ.PLAN_RESULT.PLAN.addr, ACQ.PLAN_RESULT.OP.addr,
          ACQ.PLAN_RESULT.BUSY.addr] s t) ∧
      (∀ c, s.disarmBar p = some c → ∃ t, exec (.planDisarm p) s = .next t ∧ t.fld ACQ.PLAN_RESULT.RESULT = c ∧
        t.fld ACQ.PLAN_RESULT.BUSY = 0 ∧ onlyRegs [ACQ.PLAN_RESULT.RESULT.addr, ACQ.PLAN_RESULT.PLAN.addr, ACQ.PLAN_RESULT.OP.addr,
          ACQ.PLAN_RESULT.BUSY.addr] s t) ∧
      (∀ u pl k, u = ((s.setF ACQ.PLAN_RESULT.PLAN p).setF ACQ.PLAN_RESULT.OP 3).setF ACQ.PLAN_RESULT.BUSY 0 →
        s.planOf p = some pl → s.slotOfPlan p = some k → s.armBar p = none →
        (s.armGrows k pl = false → exec (.planArm p) s = .next ((u.doArm k pl false).2.answerHost p 3 (u.doArm k pl false).1)) ∧
        (s.armGrows k pl = true → exec (.planArm p) s =
          .next ((u.submit { kind := 7, id := p, origin := 1, entry := 0, val := 0 }).setF ACQ.PLAN_RESULT.BUSY 1))) ∧
      (∀ u, u = ((s.setF ACQ.PLAN_RESULT.PLAN p).setF ACQ.PLAN_RESULT.OP 4).setF ACQ.PLAN_RESULT.BUSY 0 → s.disarmBar p = none →
        exec (.planDisarm p) s = .next ((u.disarmPlan p).answerHost p 4 0)) ∧
      (s.planOf p = none → ∃ t, exec (.planDeactivate p) s = .next t ∧ t.fld ACQ.PLAN_RESULT.RESULT = 6 ∧
        t.fld ACQ.PLAN_RESULT.BUSY = 0) ∧
      (s.planOf p ≠ none → s.slotOfPlan p = none → s.mem.reqs = [] → ∃ t, exec (.planDeactivate p) s = .next t ∧
        t.fld ACQ.PLAN_RESULT.RESULT = 5 ∧ t.fld ACQ.PLAN_RESULT.BUSY = 0) ∧
      (∀ u, u = ((((s.setF ACQ.PLAN_RESULT.PLAN p).setF ACQ.PLAN_RESULT.OP 2).setF ACQ.PLAN_RESULT.BUSY 0).setF
          ACQ.PLAN_RESULT.BUSY 1).submit { kind := 6, id := p, origin := 1, entry := 0, val := 0 } → s.planOf p ≠ none →
        (s.mem.reqs ≠ [] → exec (.planDeactivate p) s = .next u) ∧
        (s.mem.reqs = [] → s.slotOfPlan p ≠ none → exec (.planDeactivate p) s = .next (u.startLeaving p))))) ∧
  (∀ s : State, (s.running = false ∨ s.mem.reqs = [] → s.dev.dormantDue = false → exec .admission s = .next s) ∧
    (s.mem.reqs = [] → s.dev.dormantDue = true → exec .admission s = .next s.beginDormant) ∧
    (s.mem.reqs ≠ [] → exec .admission s = .next (if s.decideHead.dev.dormantDue = true ∧ s.decideHead.mem.reqs = []
      then s.decideHead.beginDormant else s.decideHead)) ∧
    ∀ (r : AdmReq) (rest : List AdmReq), s.mem.reqs = r :: rest → s.running = true → s.decideHead.dev.dormantDue = false →
      (r.kind = 0 → exec .admission s = .next (s.decideActivation r)) ∧ (r.kind = 1 → exec .admission s = .next (s.decideGrant r)) ∧
      (r.kind = 2 → exec .admission s = .next s.decideDisplay) ∧ (r.kind = 3 → exec .admission s = .next s.decideComposer) ∧
      (r.kind = 4 → exec .admission s = .next (s.decideGuarantee r)) ∧ (r.kind = 6 → exec .admission s = .next (s.decideLeave r)) ∧
      (r.kind = 7 → exec .admission s = .next (s.decideArm r)) ∧
      (∀ c, r.kind = 0 → r.origin = 1 → s.activationBar r.id = some c → c ≠ 2 → s.fld ACQ.PLAN_RESULT.PLAN = r.id →
        s.fld ACQ.PLAN_RESULT.OP = 1 → ∃ t, exec .admission s = .next t ∧ t.mem.reqs = rest ∧ t.fld ACQ.PLAN_RESULT.RESULT = c ∧
          t.fld ACQ.PLAN_RESULT.BUSY = 0 ∧ onlyRegs [ACQ.PLAN_RESULT.RESULT.addr, ACQ.PLAN_RESULT.BUSY.addr] s
            { t with mem := s.mem }) ∧
      (r.kind = 0 → s.activationBar r.id = some 2 → r.id < 256 → r.origin = 0 →
        ∃ t, exec .admission s = .next t ∧ t.mem.reqs = rest ∧ reported 2 0 r.id 0 t ∧ onlyReports [] s { t with mem := s.mem }))

/-- Folio operations (R165, R166, R169): a command on a folio in range waits with BUSY to the end of its fabric cycle, behind what the
device does in it; then HOLD turns a SEALED folio HELD and RELEASE a HELD one FREE, written to its catalogue entry, and when
memory takes that write at once one folio moves between the books; a folio being read out is HELD after its readout; any other
state is answered 1, a folio out of range 2 at once. A folio SEALED for DEADLINE ticks raises its fault once and is counted.
Records (R23, R155, R158, R161): a commit takes the oldest trigger of the slot's FIFO and the oldest gathering set of its arm; a
record whose last block has been delivered ends; the oldest record of a channel, once ended and drained, is sealed and held no
more; a lane's elastic buffer that overflows in ACQUIRE loses its blocks in every stream of its channel that is open, and traps
its unit, whose handler raises the lane-deadline fault. Live writes of the coder's parameters (R26, R189, R190): judged in order,
with no plan to write to 5, a plan armed 3, a value outside its bounds 1, a phase not below the divisor 2, each with the parameter
notice and nothing changed; an accepted one is pending in the plan, and a grant raised for an active plan asks for admission
first. Every such write but one with a bad value is remembered for its cycle, in which an arm or a disarm comes first. -/
def Obligations.FoliosAndRecordsMoveOneStep : Prop :=
  (∀ s : State, s.served 0x50024 = true →
    (s.selected = none → ∃ t, exec .folioHold s = .next t ∧ exec .folioRelease s = .next t ∧ t.fld ACQ.FOLIO_OP.RESULT = 2 ∧
      onlyRegs [ACQ.FOLIO_OP.RESULT.addr] s t) ∧
    (∀ pl f, s.selected = some (pl, f) →
      (∀ i op, (i, op) = (Instr.folioHold, 1) ∨ (i, op) = (Instr.folioRelease, 2) → ∃ t, exec i s = .next t ∧
        t.fld ACQ.FOLIO_OP.BUSY = 1 ∧ t.acq.folioOps = s.acq.folioOps ++ [(op, pl.num, f)] ∧
        onlyRegs [ACQ.FOLIO_OP.BUSY.addr] s { t with acq := s.acq })) ∧
    (∀ x op rest, s.acq.folioOps = x :: rest → s.doFolioOps.acq.folioOps = [] ∧ s.doFolioOps.fld ACQ.FOLIO_OP.BUSY = 0 ∧
      (rest = [] → op = State.doFolioOp { s with acq := { s.acq with folioOps := [] } } x →
        s.doFolioOps = op.setF ACQ.FOLIO_OP.BUSY 0)) ∧
    (∀ pl f, s.planOf pl.num = some pl →
      (s.folioState pl f = folioSealed → ∃ t, s.doFolioOp (1, pl.num, f) = t ∧ t.fld ACQ.FOLIO_OP.RESULT = 0 ∧
        t.mem = (s.writeCtrl pl f (s.ctrl pl f - folioSealed + folioHeld) (some (pl.num, folioSealed, folioHeld))).mem ∧
        (s.waitsAt (s.overheadReq pl) (pl.entryAddr f + 12) 2 = none →
          t.book pl.num folioSealed = s.book pl.num folioSealed - 1 ∧ t.book pl.num folioHeld = s.book pl.num folioHeld + 1)) ∧
      (s.folioState pl f = folioHeld → ∃ t, s.doFolioOp (2, pl.num, f) = t ∧ t.fld ACQ.FOLIO_OP.RESULT = 0 ∧
        t.mem = (s.writeCtrl pl f (s.ctrl pl f - folioHeld + folioFree) (some (pl.num, folioHeld, folioFree))).mem ∧
        (s.waitsAt (s.overheadReq pl) (pl.entryAddr f + 12) 2 = none →
          t.book pl.num folioHeld = s.book pl.num folioHeld - 1 ∧ t.book pl.num folioFree = s.book pl.num folioFree + 1)) ∧
      (s.folioState pl f = folioReadout → ∃ t, s.doFolioOp (1, pl.num, f) = t ∧ t.fld ACQ.FOLIO_OP.RESULT = 0 ∧
        Tbl.get false t.acq.holdAfter (2 ^ 26 * pl.num + f) = true ∧
        onlyRegs [ACQ.FOLIO_OP.RESULT.addr] s { t with acq := s.acq }) ∧
      (s.folioState pl f ≠ folioSealed → s.folioState pl f ≠ folioReadout → ∃ t, s.doFolioOp (1, pl.num, f) = t ∧
        t.fld ACQ.FOLIO_OP.RESULT = 1 ∧ onlyRegs [ACQ.FOLIO_OP.RESULT.addr] s t) ∧
      (s.folioState pl f ≠ folioHeld → ∃ t, s.doFolioOp (2, pl.num, f) = t ∧ t.fld ACQ.FOLIO_OP.RESULT = 1 ∧
        onlyRegs [ACQ.FOLIO_OP.RESULT.addr] s t)) ∧
    (∀ p f pl t0 k, s.planOf p = some pl → p < 64 → Tbl.get 0 s.acq.sealTick (2 ^ 26 * p + f) = t0 + 1 → pl.deadline ≠ 0 →
      s.folioState pl f = folioSealed → Tbl.get false s.acq.missed (2 ^ 26 * p + f) = false →
      pl.deadline ≤ (s.tick - BitVec.ofNat 48 t0).toNat → Tbl.get 0 s.acq.lastSlot p = k + 1 → k < 8 →
      ∃ t, exec (.folioDeadline p f) s = .next t ∧ reported (73 + 5 * k) 1 p 0 t ∧
        t.book p 7 = min (2 ^ 32 - 1) (s.book p 7 + 1) ∧ Tbl.get false t.acq.missed (2 ^ 26 * p + f) = true ∧
        exec (.folioDeadline p f) t = .next t)) ∧
  (∀ s : State,
    (∀ k sl pl t0 fifo set rest, s.slotOf? k = some sl → s.planOf sl.plan = some pl → sl.fifo = t0 :: fifo →
      sl.setsOf t0.gen = set :: rest → ∃ t sl', exec (.commit k) s = .next t ∧ t.slotOf? k = some sl' ∧ sl'.fifo = fifo ∧
        sl'.unbound = sl.unbound.erase (set, t0.gen)) ∧
    (∀ k sl, s.slotOf? k = some sl → sl.fifo = [] → exec (.commit k) s = .next s.repace) ∧
    (∀ k ch r, (s.openRecs k ch).find? (fun r => r.ended.isNone) = some r → s.delivered r = true → ∃ t,
      exec (.recordEnd k ch) s = .next t ∧ { r with ended := some s.now } ∈ t.acq.recs ∧ t.acq.recs.length = s.acq.recs.length ∧
      onlyRegs [] s { t with acq := s.acq, seq := s.seq }) ∧
    (∀ k ch r, s.repace.sealable k ch = some r →
      exec (.recordSeal k ch) s = .next (((s.repace.sealRec r).dropStreams k).settle).repace) ∧
    (∀ k ch, s.repace.sealable k ch = none → exec (.recordSeal k ch) s = .next s.repace.repace) ∧
    (∀ r pl, s.planOf r.plan = some pl → ∀ x ∈ (s.sealRec r).acq.recs, x.accession ≠ r.accession) ∧
    (∀ lane n, lane < 64 → s.mode = modeAcquire →
      ∃ t : State, exec (.elasticOvf lane n) s = .next t.repace ∧
        (s.unitOf lane = none → reported 228 0 lane 0 t ∧ (s.slotHolding (s.chanOf lane) = none → onlyReports [] s t)) ∧
        (∀ u, s.unitOf lane = some u → (s.sunit u).st ≠ 2 → (s.sunit u).st ≠ 3 → u < 68 →
          ((s.sunit u).handler = 0 → reported 228 0 (s.sunit u).lane 0 t ∧ (t.sunit u).pc = 0x3F10 ∧
            (t.sunit u).ira = (s.sunit u).pc ∧ (t.sunit u).handler = 2) ∧
          ((s.sunit u).handler ≠ 0 → bitOf (t.sunit u).traps 0 = true)) ∧
        (∀ k sl key st, s.slotHolding (s.chanOf lane) = some k → s.slotOf? k = some sl →
          Tbl.get none sl.streams key = some st → key % 64 = s.chanOf lane → 0 < n →
          ∃ sl' st', t.slotOf? k = some sl' ∧ Tbl.get none sl'.streams key = some st' ∧
            (s.slotOf lane, st.u.getD (s.slotOf lane) 0, st.u.getD (s.slotOf lane) 0 + n - 1) ∈ st'.lost)) ∧
    (∀ lane n, s.mode ≠ modeAcquire → exec (.elasticOvf lane n) s = .next s.repace)) ∧
  (∀ (s : State) (c v f : Nat), c < 64 → v < 8192 → f < 8192 → s.chanExists c = true →
    (s.currentPlan c = none →
      (s.served (0x61000 + 64 * c) = true → ∃ t, exec (.chDecimWrite c v f) s = .next t ∧ t.fld COD.RESULT.RESULT = 5 ∧
        reported 7 5 c 0 t ∧ onlyReports [COD.RESULT.CHANNEL.addr, COD.RESULT.FIELD.addr, COD.RESULT.RESULT.addr] s t) ∧
      (s.served (0x61004 + 64 * c) = true → ∃ t, exec (.chGrantWrite c v) s = .next t ∧ t.fld COD.RESULT.RESULT = 5 ∧
        reported 7 5 c 0 t ∧ onlyReports [COD.RESULT.CHANNEL.addr, COD.RESULT.FIELD.addr, COD.RESULT.RESULT.addr] s t)) ∧
    ∀ (pl : Plan) (ch : Chan), s.currentPlan c = some pl → pl.chan? c = some ch →
      (s.served (0x61000 + 64 * c) = true →
        (s.planArmed pl.num = true → ∃ t, exec (.chDecimWrite c v f) s = .next t ∧ t.fld COD.RESULT.RESULT = 3 ∧ reported 7 3 c 0 t ∧
          onlyReports [COD.RESULT.CHANNEL.addr, COD.RESULT.FIELD.addr, COD.RESULT.RESULT.addr] s { t with acq := s.acq } ∧
          t.acq = { s.acq with writes := t.acq.writes }) ∧
        (s.planArmed pl.num = false → v < ch.dMin ∨ ch.dMax < v → ∃ t, exec (.chDecimWrite c v f) s = .next t ∧
          t.fld COD.RESULT.RESULT = 1 ∧ reported 7 1 c 0 t ∧
          onlyReports [COD.RESULT.CHANNEL.addr, COD.RESULT.FIELD.addr, COD.RESULT.RESULT.addr] s t) ∧
        (s.planArmed pl.num = false → ch.dMin ≤ v → v ≤ ch.dMax → v < f → ∃ t, exec (.chDecimWrite c v f) s = .next t ∧
          t.fld COD.RESULT.RESULT = 2 ∧ reported 7 2 c 0 t ∧
          onlyReports [COD.RESULT.CHANNEL.addr, COD.RESULT.FIELD.addr, COD.RESULT.RESULT.addr] s t) ∧
        (s.planArmed pl.num = false → ch.dMin ≤ v → v ≤ ch.dMax → f ≤ v → ∃ t, exec (.chDecimWrite c v f) s = .next t ∧
          t.fld COD.RESULT.RESULT = 0 ∧ t.fld COD.RESULT.CHANNEL = c ∧
          t.planOf pl.num = some { pl with chans := pl.chans.map fun x => if x.ch = ch.ch then { ch with dm1 := v, phi := f } else x } ∧
          Tbl.get false t.acq.pending (64 * pl.num + ch.ch) = true)) ∧
      (s.served (0x61004 + 64 * c) = true →
        (s.planArmed pl.num = true → ∃ t, exec (.chGrantWrite c v) s = .next t ∧ t.fld COD.RESULT.RESULT = 3 ∧ reported 7 3 c 0 t ∧
          onlyReports [COD.RESULT.CHANNEL.addr, COD.RESULT.FIELD.addr, COD.RESULT.RESULT.addr] s { t with acq := s.acq } ∧
          t.acq = { s.acq with writes := t.acq.writes }) ∧
        (s.planArmed pl.num = false → v < ch.gMin ∨ ch.gMax < v → ∃ t, exec (.chGrantWrite c v) s = .next t ∧
          t.fld COD.RESULT.RESULT = 1 ∧ reported 7 1 c 0 t ∧
          onlyReports [COD.RESULT.CHANNEL.addr, COD.RESULT.FIELD.addr, COD.RESULT.RESULT.addr] s t) ∧
        (s.planArmed pl.num = false → ch.gMin ≤ v → v ≤ ch.gMax →
          (ch.g < v → s.slotOfPlan pl.num ≠ none → ∃ t, exec (.chGrantWrite c v) s = .next t ∧ t.fld COD.RESULT.BUSY = 1 ∧
            t.mem.reqs = s.mem.reqs ++ [{ kind := 1, id := c, origin := 1, entry := pl.num, val := v }] ∧
            t.acq = { s.acq with writes := t.acq.writes }) ∧
          (v ≤ ch.g ∨ s.slotOfPlan pl.num = none → ∃ t, exec (.chGrantWrite c v) s = .next t ∧ t.fld COD.RESULT.RESULT = 0 ∧
            t.planOf pl.num = some { pl with chans := pl.chans.map fun x => if x.ch = ch.ch then { ch with g := v } else x } ∧
            Tbl.get false t.acq.pending (64 * pl.num + ch.ch) = true))))

/-! ### The accumulator, the planes and the composer (chapter 8) -/

/-- Bank `b` of slot `k` can complete: it accumulates, its adds have ended, at least one, and TARGET of them or FINISH set on it. -/
def Sys2Proof.Machine.bankEnds (s : State) (k : Nat) (pl : Plan) (b : Nat) : Prop :=
  s.fld (bankFld k b) = 1 ∧ s.addsDone k b = true ∧ 0 < (Tbl.get {} (s.accOf k).banks b).count ∧
    ((Tbl.get {} (s.accOf k).banks b).count = pl.target ∨ b ∈ (s.accOf k).finish)

/-- What a live write of register `r` of plane `p` answers: refused with 3 when the plane is not enabled, or with `cause`, with the
image-parameter notice; else pending, RESULT 0 and PEND set, an earlier write of the register replaced. -/
def Sys2Proof.Machine.planeTaken (s : State) (p r v cause : Nat) (res : Host.Outcome State Fault Refusal) : Prop :=
  s.served (0x72000 + 32 * p + 4 * r) = true →
    (s.bit (ACC.PLANE_CFG.ENABLE p) = false → ∃ t, res = .next t ∧ t.fld ACC.RESULT.RESULT = 3 ∧ t.fld ACC.RESULT.PLANE = p ∧
      reported 222 3 p 0 t ∧ onlyReports [ACC.RESULT.RESULT.addr, ACC.RESULT.PLANE.addr] s t) ∧
    (s.bit (ACC.PLANE_CFG.ENABLE p) = true → cause ≠ 0 → ∃ t, res = .next t ∧ t.fld ACC.RESULT.RESULT = cause ∧
      t.fld ACC.RESULT.PLANE = p ∧ reported 222 cause p 0 t ∧ onlyReports [ACC.RESULT.RESULT.addr, ACC.RESULT.PLANE.addr] s t) ∧
    (s.bit (ACC.PLANE_CFG.ENABLE p) = true → cause = 0 → ∃ t, res = .next t ∧ t.fld ACC.RESULT.RESULT = 0 ∧
      t.fld ACC.RESULT.PLANE = p ∧ t.fld (ACC.PLANE_STATUS.PEND p) = 1 ∧ (t.plane p).pend.getLast? = some (r, v) ∧
      ((t.plane p).pend.filter fun x => x.1 == r).length = 1 ∧
      onlyRegs [ACC.RESULT.RESULT.addr, ACC.RESULT.PLANE.addr, (ACC.PLANE_STATUS.PEND p).addr] s { t with acc := s.acc })

/-- An add (R196, R197, R199): the first add of a bank writes its bins directly, every later one adds saturating in 32 bits, and a bin
that has saturated keeps its limit; only the bin added to changes. When every input sample of the oldest selected trigger's add
has come and its bins can be accessed, the add ends, its bank counts one more and keeps the accession numbers of its first and
last records; one that has lost samples is interrupted, which completes its bank, or frees it when no add had ended, with the
damage fault. Live writes of the imager (R206, R211): of a plane that is not enabled refused with 3, SOURCE of a channel its plan
does not hold with 2, XSTEP, YGAIN or DFRAMES of 0 with 1, each with the image-parameter notice; an accepted write is pending with
PEND set and RESULT 0, the latest last, and so is a write of the curve; CLR_PLANE marks the planes it names. Hits and decay (R204,
R205): a hit adds one to its cell and to no other, a cell at 65535 stays and sets SAT; at a decay each count n becomes n minus n /
2^DS rounded up, so that a non-zero count always falls by at least 1 and never below 0. -/
def Obligations.AccumulatorsSaturateAndPlaneWritesWait : Prop :=
  ((∀ (s : State) (k : Nat) (pl : Plan) (b i : Nat) (a : Int), pl.accDram = false →
    (s.addBin k pl b i true a).bin pl b i = a ∧
    (b * pl.k * pl.accL + i ∉ (s.accOf k).satBins →
      (s.addBin k pl b i false a).bin pl b i = max (-2147483648) (min (s.bin pl b i + a) 2147483647) ∧
      (b * pl.k * pl.accL + i ∈ ((s.addBin k pl b i false a).accOf k).satBins ↔
        2147483647 < s.bin pl b i + a ∨ s.bin pl b i + a < -2147483648)) ∧
    (b * pl.k * pl.accL + i ∈ (s.accOf k).satBins → s.addBin k pl b i false a = s) ∧
    ∀ first c j, pl.binAt c j ≠ pl.binAt b i → (s.addBin k pl b i first a).bin pl c j = s.bin pl c j) ∧
  (∀ (s : State) (k : Nat) (sl : Slot) (pl : Plan) (d : Add) (rest : List Add), s.slotOf? k = some sl → s.planOf sl.plan = some pl →
    (s.accOf k).adds = d :: rest →
    (s.addLost pl d = true → pl.num < 256 → k < 8 → ∃ u : State, exec (.accumAddEnd k) s = .next u.settle ∧
      reported (72 + 5 * k) 1 pl.num 0 u ∧ u.addsDone k d.bank = true ∧
      ((Tbl.get {} (s.accOf k).banks d.bank).count = 0 → u.fld (bankFld k d.bank) = 0 ∧ Tbl.get {} (u.accOf k).banks d.bank = {}) ∧
      ((Tbl.get {} (s.accOf k).banks d.bank).count ≠ 0 → u.fld (bankFld k d.bank) = 2 ∧
        bitOf (Tbl.get {} (u.accOf k).banks d.bank).flags 8 = true)) ∧
    (s.addLost pl d = false → s.addReady pl d = true → s.binsWait k pl d.bank = false → ∃ u : State, exec (.accumAddEnd k) s = .next u.settle ∧
      (u.accOf k).adds = rest ∧
      (Tbl.get {} (u.accOf k).banks d.bank).count = (Tbl.get {} (s.accOf k).banks d.bank).count + 1 ∧
      (Tbl.get {} (u.accOf k).banks d.bank).last = d.accession ∧
      ((Tbl.get {} (s.accOf k).banks d.bank).count = 0 → (Tbl.get {} (u.accOf k).banks d.bank).first = d.accession) ∧
      ((Tbl.get {} (s.accOf k).banks d.bank).count ≠ 0 →
        (Tbl.get {} (u.accOf k).banks d.bank).first = (Tbl.get {} (s.accOf k).banks d.bank).first) ∧
      ∀ c ≠ d.bank, Tbl.get {} (u.accOf k).banks c = Tbl.get {} (s.accOf k).banks c) ∧
    (s.addLost pl d = false → s.addReady pl d = false ∨ s.binsWait k pl d.bank = true → exec (.accumAddEnd k) s = .next s.settle))) ∧
  (∀ (s : State) (p v : Nat), p < 4 →
    planeTaken s p 0 v (if s.planeHolds p (v / 2 ^ 16 % 64) then 0 else 2) (exec (.planeSourceWrite p v) s) ∧
    planeTaken s p 1 v (if v % 2 ^ 20 = 0 then 1 else 0) (exec (.planeXWrite p v) s) ∧
    planeTaken s p 2 v (if v / 2 ^ 16 % 2 ^ 16 = 0 then 1 else 0) (exec (.planeYWrite p v) s) ∧
    planeTaken s p 3 v (if v / 2 ^ 8 % 2 ^ 8 = 0 then 1 else 0) (exec (.planeLookWrite p v) s) ∧
    planeTaken s p 4 v 0 (exec (.planeScaleWrite p v) s) ∧
    (∀ i, i < 256 → s.served (0x73400 + 4 * i) = true → ∃ t, exec (.curveWrite i v) s = .next t ∧ t.regs = s.regs ∧
      t.acc.curve.getLast? = some (i, v % 1024) ∧ (t.acc.curve.filter fun x => x.1 == i).length = 1 ∧ { t with acc := s.acc } = s) ∧
    (s.served 0x70000 = true → ∃ t, exec (.accClrPlane v) s = .next t ∧
      (∀ q < 4, (t.plane q).clear = (bitOf v q || (s.plane q).clear) ∧
        (bitOf v q = true → bitOf (t.fld ACC.CMD.CLR_PLANE) q = true)) ∧
      onlyRegs [ACC.CMD.CLR_PLANE.addr] s { t with acc := s.acc })) ∧
  ((∀ (s : State) (p col row : Nat), p < 4 → col < 2048 →
    (Tbl.get 0 (s.plane p).hits (2048 * row + col) ≠ 65535 →
      Tbl.get 0 ((s.hitCell p col row).plane p).hits (2048 * row + col) = Tbl.get 0 (s.plane p).hits (2048 * row + col) + 1 ∧
      (s.hitCell p col row).regs = s.regs) ∧
    (Tbl.get 0 (s.plane p).hits (2048 * row + col) = 65535 →
      (s.hitCell p col row).plane p = s.plane p ∧ (s.hitCell p col row).fld (ACC.PLANE_STATUS.SAT p) = 1) ∧
    (∀ c r, c < 2048 → (c, r) ≠ (col, row) →
      Tbl.get 0 ((s.hitCell p col row).plane p).hits (2048 * r + c) = Tbl.get 0 (s.plane p).hits (2048 * r + c)) ∧
    (s.hitCell p col row).acc.changed = true) ∧
  (∀ ds n, decayed ds n + (n + 2 ^ ds - 1) / 2 ^ ds = n ∧ (0 < n → decayed ds n < n) ∧ decayed 0 n = 0))

/-- Bank transitions (R198, Table 08-4): the accumulating bank completes when TARGET adds have ended, or on FINISH, with its notice,
CUR and COUNT following to the next bank; DISCARD frees a COMPLETE bank, and a FINISH of it is forgotten; FINISH is noted for the
accumulating one, beside one noted for the other bank; on a bank in another state both are ignored. The composer (R206, R314,
Table 08-8): a boundary that falls in a frame under way is dropped, counted and reported; a frame that has not changed counts as
unchanged and writes nothing; one that has writes the surface that is not LAST and the copies, or waits while the display scans
that surface; a frame whose writes are all acknowledged makes its surface LAST and counts. -/
def Obligations.BanksAndComposerFollowTheirTables : Prop :=
  (∀ (s : State) (k : Nat), k < 8 →
    (∀ u sl pl b, u = s.repace → u.slotOf? k = some sl → u.planOf sl.plan = some pl → pl.num < 256 → b < pl.banks →
      bankEnds u k pl b → (∀ c < b, ¬ bankEnds u k pl c) →
      ∃ t : State, exec (.bankComplete k) s = .next t.repace ∧ t.fld (bankFld k b) = 2 ∧
        t.fld (ACC.SLOT_STATE.CUR k) = (if pl.accSplit then 1 - b else 0) ∧
        (pl.accSplit = false → t.fld (ACC.SLOT_STATE.COUNT k) = 0) ∧
        (t.accOf k).finish = (u.accOf k).finish.filter (· != b) ∧
        t.fld (ACC.SLOT_CMD.FINISH k) = (if ∃ c ∈ (u.accOf k).finish, c ≠ b then 1 else 0) ∧
        (t.accOf k).lastDone = some b ∧ reported (75 + 5 * k) 0 pl.num b t) ∧
    (∀ u sl pl, u = s.repace → u.slotOf? k = some sl → u.planOf sl.plan = some pl → (∀ b < pl.banks, ¬ bankEnds u k pl b) →
      exec (.bankComplete k) s = .next u.repace) ∧
    (s.served (0x71014 + 32 * k) = true →
      (s.fld (ACC.SLOT_STATE.BANK0 k) = 1 ∨ s.fld (ACC.SLOT_STATE.BANK1 k) = 1 → ∃ b, s.accumulating k = some b) ∧
      (∀ b, s.accumulating k = some b → ∃ t, exec (.accFinish k) s = .next t ∧ t.fld (ACC.SLOT_CMD.FINISH k) = 1 ∧
        b ∈ (t.accOf k).finish ∧ (∀ c ∈ (s.accOf k).finish, c ∈ (t.accOf k).finish) ∧ onlyRegs [(ACC.SLOT_CMD.FINISH k).addr] s { t with acc := s.acc }) ∧
      (s.fld (ACC.SLOT_STATE.BANK0 k) ≠ 1 → s.fld (ACC.SLOT_STATE.BANK1 k) ≠ 1 → exec (.accFinish k) s = .next s) ∧
      ∀ b < 2,
        (s.fld (bankFld k b) = 2 → ∃ t : State, exec (.accDiscard k b) s = .next t.repace ∧ t.fld (bankFld k b) = 0 ∧
          Tbl.get {} (t.accOf k).banks b = {} ∧ b ∉ (t.accOf k).finish ∧ onlyRegs [(bankFld k b).addr,
            (ACC.SLOT_STATE.COUNT k).addr, (ACC.SLOT_CMD.FINISH k).addr] s { t with acc := s.acc }) ∧
        (s.fld (bankFld k b) ≠ 2 → exec (.accDiscard k b) s = .next s.repace))) ∧
  (∀ s : State,
    (s.composing = true → s.boundaryDue = true → s.acc.frame ≠ none → ∃ t, exec .composerFrame s = .next t ∧
      counted ACC.COMP_OVERRUN.OVERRUN s t ∧ reported 221 0 0 0 t ∧ t.acc.frame = s.acc.frame ∧
      onlyReports [ACC.COMP_OVERRUN.OVERRUN.addr] s { t with acc := s.acc }) ∧
    (s.composing = true → s.boundaryDue = true → s.acc.frame = none →
      ∃ u : State, u = (List.range 4).foldl State.decayPlane s.takeBoundary.applyPending ∧
        (u.acc.changed = false → exec .composerFrame s = .next (u.bumpF ACC.COMP_COUNTS.UNCHANGED 1)) ∧
        (u.acc.changed = true → ∃ v : State, v.acc.changed = false ∧
          v.acc.frame = some { boundary := s.now, surface := 1 - u.fld ACC.COMP_STATUS.LAST } ∧ v.bit ACC.COMP_STATUS.BUSY = true ∧
          v.counts = u.counts ∧ v.mem = u.mem ∧
          (u.scanned (1 - u.fld ACC.COMP_STATUS.LAST) = false →
            exec .composerFrame s = .next (v.composeStep4 v.counts (1 - u.fld ACC.COMP_STATUS.LAST))) ∧
          (u.scanned (1 - u.fld ACC.COMP_STATUS.LAST) = true → ∃ t, exec .composerFrame s = .next t ∧
            t.acc.heldFrame = some u.counts ∧ { t with acc := v.acc } = v))) ∧
    (s.composing = false ∨ s.boundaryDue = false → exec .composerFrame s = .next s) ∧
    (∀ f, s.acc.frame = some f → s.acc.heldFrame = none → f.surface < 2 → (∀ h ∈ s.mem.held, h.req ≠ reqComposer) →
      ∃ t, exec .composerFrameDone s = .next t ∧ t.fld ACC.COMP_STATUS.LAST = f.surface ∧ t.fld ACC.COMP_STATUS.BUSY = 0 ∧
      t.acc.frame = none ∧ t.acc.composed = true ∧
      t.fld ACC.COMP_COUNTS.FRAMES = (if s.justCleared ACC.COMP_COUNTS.FRAMES then s.fld ACC.COMP_COUNTS.FRAMES
        else (s.fld ACC.COMP_COUNTS.FRAMES + 1) % 2 ^ ACC.COMP_COUNTS.FRAMES.width) ∧
      onlyRegs [ACC.COMP_STATUS.LAST.addr, ACC.COMP_STATUS.BUSY.addr, ACC.COMP_COUNTS.FRAMES.addr] s { t with acc := s.acc }) ∧
    (s.acc.frame = none ∨ s.acc.heldFrame ≠ none ∨ (∃ h ∈ s.mem.held, h.req = reqComposer) → exec .composerFrameDone s = .next s))

/-! ### The ensemble (chapter 9) -/

/-- Message `m`, spelt by the blocks `bl`, has arrived at the UP port `p`: a copy intact, for this unit and not its own, accepted; `u` is
the state once its blocks have been looked at and it has been forwarded and entered in its source's window (R215, R217, R218, R221,
R223). -/
def Sys2Proof.Machine.arrives (s : State) (p typ : Nat) (bl : List WireBlock) (m : Msg) (u : State) : Prop :=
  s.portUp p = true ∧ s.portsRun = true ∧ readCopy (msgBlocks bl) = some m ∧ m.typ = typ ∧
  ∃ v, v = (s.erroredBlocks p bl).forwardMsg p m ∧ v.ownMsg m = false ∧ (m.dst = 255 ∨ m.dst = v.fld ENS.STATUS.ADDR) ∧
    v.acceptMsg m = (true, u)

/-- A call (R215, R218, R220, R223, R224, R237, R240): the errored blocks of a copy that arrives are counted; it is forwarded, when
its first block is intact, and its pair counted; one whose check fails counts, one intact is taken unless it is a duplicate, a
lost call or the unit's own, once, and raises the trick counters; a pair of which one copy or both were damaged counts; the call
is delivered 8 ns after its check, and qualifies in each armed slot with CALL_RX; a call pending for LOST_WAIT is lost, counted
and reported. Ordinary messages (R215, R217, R218, R221, R222): one sent by the unit leaves an UP port that is free with HOPS 0 as
a pair of copies with the guard between them, waits while the port is busy, and is dropped, counted and reported when four wait; a
received copy whose check fails counts at its port and does nothing else, and errored blocks count, in a message or outside one. -/
def Obligations.CallsAndMessagesAreTakenAndChecked : Prop :=
  (∀ s : State,
    (∀ (p : Nat) (second : Bool) (bl three : List WireBlock) (bs : List Byte) (u : State), s.portUp p = true → s.portsRun = true →
      3 ≤ bl.length → three = bl.drop (bl.length - 3) → bs = three.flatMap WireBlock.bytes → u = s.erroredBlocks p bl →
      countedBy (bl.filter wireErrored).length (ENS.PORT_ERR.BLOCK_ERR p) s u ∧ onlyRegs [(ENS.PORT_ERR.BLOCK_ERR p).addr] s u ∧
      (callTypes three = [true, true, true] → callCrc bs = crc24 (callBody bs) →
        exec (.callReceive p second bl) s = .next
          (((u.forwardCall p second true bs true).judgePair p second true).acceptCall (readCall (callBody bs)))) ∧
      (callTypes three ≠ [true, true, true] ∨ callCrc bs ≠ crc24 (callBody bs) →
        exec (.callReceive p second bl) s = .next (((u.forwardCall p second ((callTypes three).headD false) bs false).judgePair p second
          false).bumpF (ENS.PORT_ERR.CRC_ERR p) 1))) ∧
    (∀ c : Call, c.trick < 2 ^ 32 →
      (c.src = s.fld ENS.STATUS.ADDR ∨ Tbl.get false s.ens.lost (callKey c.src c.seq) = true ∨
        accepts (Tbl.get [] s.ens.callSeen c.src) c.seq = false → s.acceptCall c = s) ∧
      (c.src ≠ s.fld ENS.STATUS.ADDR → Tbl.get false s.ens.lost (callKey c.src c.seq) = false →
        accepts (Tbl.get [] s.ens.callSeen c.src) c.seq = true → ∃ t, s.acceptCall c = t ∧
          t.ens.deliver = s.ens.deliver ++ [(c, s.now)] ∧ Tbl.get 0 t.ens.pend (callKey c.src c.seq) = 0 ∧
          t.fld ENS.TRICK_HIGH.HIGH =
            (if laterTrick c.trick (s.fld ENS.TRICK_HIGH.HIGH) then c.trick else s.fld ENS.TRICK_HIGH.HIGH) ∧
          onlyRegs [ENS.TRICK_HIGH.HIGH.addr, ENS.TRICK_NEXT.NEXT.addr, ACQ.TRICK_NEXT.TRICK.addr] s { t with ens := s.ens } ∧
          t.acceptCall c = t)) ∧
    (∀ (p : Nat) (first intact : Bool), Tbl.get 0 s.ens.firstIn p = (if first then 1 else 2) → ∃ t, s.judgePair p true intact = t ∧
      Tbl.get 0 t.ens.firstIn p = 0 ∧ (first = true → intact = true → t.regs = s.regs) ∧
      (first ≠ intact → counted (ENS.PORT_COPY.SINGLE p) s t ∧
        onlyRegs [(ENS.PORT_COPY.SINGLE p).addr] s { t with ens := s.ens }) ∧
      (first = false → intact = false → counted (ENS.PORT_COPY.PAIR_LOST p) s t ∧
        onlyRegs [(ENS.PORT_COPY.PAIR_LOST p).addr] s { t with ens := s.ens })) ∧
    (∀ c t0 rest, s.ens.deliver = (c, t0) :: rest →
      (t0 + 8 ≤ s.now → exec .callDeliver s = .next ((({ s with ens := { s.ens with deliver := rest } } : State).bumpF
        ENS.CALL_RX.COUNT 1).deliverCall c none)) ∧
      (∀ k sl pl, k < 8 → s.slotOf? k = some sl → s.slotPlan k = some pl → sl.armed = true → pl.callRx = true →
        (s.deliverCall c none).tbook k 0 = (s.tbook k 0 + 1) % 2 ^ 64) ∧
      (s.now < t0 + 8 → exec .callDeliver s = .next s)) ∧
    (∀ src q t0, src < 256 → q < 2 ^ 15 → Tbl.get 0 s.ens.pend (callKey src q) = t0 + 1 →
      t0 + 100 * s.fld ENS.TIMING.LOST_WAIT ≤ s.now → ∃ t, exec (.callLost src q) s = .next t ∧ counted ENS.CALL_LOSS.LOST s t ∧
        reported 117 0 src q t ∧ Tbl.get false t.ens.lost (callKey src q) = true ∧ Tbl.get 0 t.ens.pend (callKey src q) = 0 ∧
        onlyReports [ENS.CALL_LOSS.LOST.addr] s { t with ens := s.ens })) ∧
  ((∀ (s : State) (typ dst : Nat) (data : List Byte) (m : Msg), s.portUp 0 = true → s.portUp 1 = false →
    m = { typ := typ, dst := dst, src := s.fld ENS.STATUS.ADDR, hops := 0, seq := s.ens.msgSeq, copy := 0, nblk := nblkOf typ,
          data := data } →
    (s.txWaits 0 = [] → s.txEnds 0 ≤ s.fifths →
      (s.originate typ dst data).out = .quoda 0 ({ m with copy := 1 } : Msg).bytes :: .guards 0 :: .quoda 0 m.bytes :: s.out ∧
      (s.originate typ dst data).ens.msgSeq = (s.ens.msgSeq + 1) % 2 ^ 15 ∧ (s.originate typ dst data).regs = s.regs) ∧
    (s.txWaits 0 = [] → s.fifths < s.txEnds 0 → (s.originate typ dst data).out = s.out ∧
      ((s.originate typ dst data).txWaits 0).map TxItem.outs =
        [[.quoda 0 m.bytes, .guards 0, .quoda 0 ({ m with copy := 1 } : Msg).bytes]]) ∧
    (s.nextTx 0 = none → 4 ≤ ((s.txWaits 0).filter fun x => x.call == false).length →
      counted ENS.DEAL_COUNTS.MSG_DROPPED s (s.originate typ dst data) ∧ reported 116 1 0 0 (s.originate typ dst data) ∧
      (s.originate typ dst data).ens.tx = s.ens.tx)) ∧
  (∀ (s : State) (p sub : Nat) (bl : List WireBlock), s.portUp p = true → s.portsRun = true →
    (∀ c ∈ [Instr.enumScan p bl, .enumReport p bl, .enumAssign p bl, .enumAck p bl, .enumDone p bl, .dealArm p bl, .dealDisarm p bl,
        .timeMessage p bl, .statMessage p bl, .tokenRequest p bl sub],
      (msgBlocks bl ≠ [] → readCopy (msgBlocks bl) = none → ∃ t, exec c s = .next t ∧ counted (ENS.PORT_ERR.CRC_ERR p) s t ∧
        countedBy (bl.filter wireErrored).length (ENS.PORT_ERR.BLOCK_ERR p) s t ∧
        onlyRegs [(ENS.PORT_ERR.CRC_ERR p).addr, (ENS.PORT_ERR.BLOCK_ERR p).addr] s t)) ∧
    (∀ c ∈ [Instr.enumScan p bl, .enumReport p bl, .enumAssign p bl, .enumAck p bl, .enumDone p bl, .dealArm p bl, .dealDisarm p bl,
        .timeMessage p bl, .statMessage p bl, .tokenRequest p bl sub, .tokenReply p bl sub],
      (msgBlocks bl = [] → ∃ t, exec c s = .next t ∧ countedBy (bl.filter wireErrored).length (ENS.PORT_ERR.BLOCK_ERR p) s t ∧
        onlyRegs [(ENS.PORT_ERR.BLOCK_ERR p).addr] s t))))

/-- Links (R222, R225, R226, R228): block lock takes a DOWN port to TRAINING; its loss takes it DOWN, counted and reported, and the
other port sends a STAT; a TOKEN REQUEST goes out when due and one received is answered with its first timestamp and two of this
unit's; a REPLY to the last REQUEST completes an exchange, one from a port of the same letter in TRAINING shows a miswired link. A
TOKEN leaves a free port once, with the timestamp of its leaving, a REPLY a cycle after the REQUEST at the earliest. -/
def Obligations.LinksTrainAndFall : Prop :=
  ∀ (s : State) (p : Nat), p < 2 → s.portsRun = true →
    (s.fld (ENS.PORT_STATUS.STATE p) = 0 → ∃ t, exec (.blockLockAcquired p) s = .next t ∧ t.fld (ENS.PORT_STATUS.STATE p) = 1 ∧
      t.fld (ENS.PORT_STATUS.LOCK p) = 1 ∧ Tbl.get 0 t.ens.lockAt p = s.now + 1 ∧ Tbl.get 0 t.ens.exch p = 0 ∧
      onlyRegs [(ENS.PORT_STATUS.STATE p).addr, (ENS.PORT_STATUS.LOCK p).addr] s { t with ens := s.ens }) ∧
    (s.fld (ENS.PORT_STATUS.STATE p) ≠ 0 → s.fld (ENS.PORT_STATUS.NEIGH_ADDR p) < 256 →
      ∃ u : State, exec (.neighbourAbsent p) s = .next (u.sendStat [1 - p]) ∧ u.fld (ENS.PORT_STATUS.STATE p) = 0 ∧
        u.fld (ENS.PORT_STATUS.LOCK p) = 0 ∧ counted (ENS.PORT_STATUS.DOWNS p) s u ∧
        reported (112 + p) 0 (s.fld (ENS.PORT_STATUS.NEIGH_ADDR p)) 0 u ∧ u.txWaits p = [] ∧
        onlyReports [(ENS.PORT_STATUS.STATE p).addr, (ENS.PORT_STATUS.LOCK p).addr, (ENS.PORT_STATUS.DOWNS p).addr,
          (ENS.PORT_COPY.SINGLE p).addr, (ENS.PORT_COPY.PAIR_LOST p).addr] s { u with ens := s.ens }) ∧
    (∀ (t1 t2 at_ v : Nat), s.txWaits p = [] → s.txEnds p < s.fifths → v = stampValue (s.stamp (s.now * finePerNs)) →
      (at_ = s.fifths → ∃ a b : State,
        s.sendToken p 0 t1 t2 at_ = a ∧ a.out = .quoda p (tokenMsg (s.fld ENS.STATUS.ADDR) p 0 s.ens.msgSeq v 0 0).bytes :: s.out ∧
        Tbl.get none a.ens.asked p = some v ∧ { a with ens := s.ens, out := s.out } = s ∧
        s.sendToken p 1 t1 t2 at_ = b ∧ b.out = .quoda p (tokenMsg (s.fld ENS.STATUS.ADDR) p 1 s.ens.msgSeq t1 t2 v).bytes :: s.out ∧
        b.ens.asked = s.ens.asked ∧ { b with ens := s.ens, out := s.out } = s) ∧
      (s.fifths < at_ → ∀ op, ∃ t : State, s.sendToken p op t1 t2 at_ = t ∧
        (t.txWaits p).map (fun x => (x.at_, x.token)) = [(at_, some (op, s.ens.msgSeq, t1, t2))] ∧ { t with ens := s.ens } = s)) ∧
    ((s.fld (ENS.PORT_STATUS.STATE p) = 1 ∧ (∀ c, Tbl.get 0 s.ens.tokAt p = c + 1 → c + 10000 ≤ s.now)) ∨
      (s.fld (ENS.PORT_STATUS.STATE p) = 2 ∧ (∀ c, Tbl.get 0 s.ens.tokAt p = c + 1 → c + 1000000 ≤ s.now)) →
      ∃ u : State, exec (.tokenSend p) s = .next (u.sendToken p 0 0 0 s.fifths) ∧ Tbl.get none u.ens.asked p = none ∧
        Tbl.get 0 u.ens.tokAt p = s.now + 1 ∧ u.ens.tx = s.ens.tx ∧ { u with ens := s.ens } = s) ∧
    (∀ (bl : List WireBlock) (sub : Nat) (m : Msg) (u : State), s.fld (ENS.PORT_STATUS.STATE p) ≠ 0 →
      readCopy (msgBlocks bl) = some m → m.names 5 (some 0) = true → u = s.erroredBlocks p bl →
      exec (.tokenRequest p bl sub) s = .next (u.sendToken p 1 (readStamp m.data 4)
        (stampValue (u.stamp (s.now * finePerNs + sub % finePerNs))) (s.fifths + 5))) ∧
    (∀ (bl : List WireBlock) (sub : Nat) (m : Msg) (t1 : Nat) (u v : State), readCopy (msgBlocks bl) = some m →
      m.names 5 (some 1) = true → Tbl.get none s.ens.asked p = some t1 → readStamp m.data 4 = t1 → v = s.erroredBlocks p bl →
      u = { v with ens := { v.ens with asked := Tbl.set none v.ens.asked p none } } →
      (s.fld (ENS.PORT_STATUS.STATE p) = 1 → num m.data 1 1 = p → ∃ t, exec (.tokenReply p bl sub) s = .next t ∧
        t.fld (ENS.PORT_STATUS.STATE p) = 3 ∧ reported 114 0 p 0 t ∧ onlyReports [(ENS.PORT_STATUS.STATE p).addr] u t) ∧
      (∀ t2 t3 t4, t2 = readStamp m.data 11 → t3 = readStamp m.data 18 →
        t4 = stampValue (u.stamp (s.now * finePerNs + sub % finePerNs)) →
        s.fld (ENS.PORT_STATUS.STATE p) = 2 ∨ (s.fld (ENS.PORT_STATUS.STATE p) = 1 ∧ num m.data 1 1 ≠ p) →
        exec (.tokenReply p bl sub) s = .next ((u.noteExchange p (fsOf (stampDiff t4 t1 - stampDiff t3 t2) / 2)
          (fsOf (stampDiff t2 t1 - stampDiff t4 t3) / 2)).portComesUp p m.src (num m.data 1 1))))

/-- STAT (R223, R238): one goes out every STAT_PERIOD and not before; one received fills its unit's row of the table, after clearing
its source's windows when it carries RESTART; a unit unheard for three periods is no longer present; RESTART is over after ten.
The dealer (R234, R238) and TIME (R230): a configured dealer acts after its wait and commits the image's deals; the loss of the
acting one is reported and ends an enumeration; a standby takes over with the next generation, 1024 trick numbers further on, and
commits the image's deals; the dealer sends TIME half a period after each expected tick, and a unit that is not aligned arms the
next epoch from one. -/
def Obligations.UnitTableAndDealerAreKept : Prop :=
  (∀ s : State,
    (s.portsRun = true → (∀ t0, s.ens.sentAt = some t0 → t0 + s.statPeriod ≤ s.now) →
      exec .statSend s = .next (State.sendStat { s with ens := { s.ens with sentAt := some s.now } } [0, 1])) ∧
    (∀ t0, s.ens.sentAt = some t0 → s.now < t0 + s.statPeriod → exec .statSend s = .next s) ∧
    (∀ (p : Nat) (bl : List WireBlock) (m : Msg) (r u : State),
      r = (if bitOf (num m.data 2 1) 5 then s.clearWindows m else s) → s.ownMsg m = false → arrives r p 4 bl m u → 1 ≤ m.src →
      m.src ≤ 254 → ∃ t, exec (.statMessage p bl) s = .next t ∧ t.fld (ENS.UNIT_STATE.PRESENT m.src) = 1 ∧
        t.fld (ENS.UNIT_STATE.ROLE m.src) = num m.data 0 1 % 4 ∧ t.fld (ENS.UNIT_STATE.MODE m.src) = num m.data 1 1 % 16 ∧
        t.fld (ENS.UNIT_STATE.FLAGS m.src) = num m.data 2 1 ∧ t.fld (ENS.UNIT_STATE.ARMED m.src) = num m.data 3 1 ∧
        t.fld (ENS.UNIT_STATE.HOPS m.src) = (m.hops + 1) % 256 ∧ t.fld (ENS.UNIT_TRICK.NEXT m.src) = num m.data 8 4 ∧
        t.fld (ENS.UNIT_SEEN.TICK m.src) = u.tick.toNat % 2 ^ 32) ∧
    (∀ a t0, 1 ≤ a → a ≤ 254 → Tbl.get 0 s.ens.statAt a = t0 + 1 → t0 + 3 * s.statPeriod ≤ s.now →
      ∃ t, exec (.unitPresenceTimeout a) s = .next t ∧ t.fld (ENS.UNIT_STATE.PRESENT a) = 0 ∧
        onlyRegs [(ENS.UNIT_STATE.PRESENT a).addr] s t) ∧
    (s.ens.restart = true → s.ens.startAt + 10 * s.statPeriod ≤ s.now → s.dev.held = false →
      exec .restartWindowEnd s = .next { s with ens := { s.ens with restart := false } })) ∧
  (∀ s : State, s.portsRun = true →
    (∀ t0, s.ens.firstUp = some t0 → s.fld ENS.CFG.ROLE = 2 → s.ens.acting = false → s.ens.demoted = false →
      t0 + 2 * s.statPeriod ≤ s.now → s.fld ENS.STATUS.ADDR < 256 → ∃ t : State, exec .dealerWaitEnd s = .next t.commitDeals ∧ t.actsAsDealer = true ∧
        t.fld ENS.STATUS.DEALER = s.fld ENS.STATUS.ADDR ∧ t.ens.acting = true ∧
        onlyRegs [ENS.STATUS.ACT_ROLE.addr, ENS.STATUS.DEALER.addr] s { t with ens := s.ens }) ∧
    (∀ t0 a, s.ens.dealerSeen = some t0 → s.actsAsDealer = false → a = s.fld ENS.STATUS.DEALER → a ≠ 0 → a < 256 →
      s.ens.dealerLost = none → t0 + 3 * s.statPeriod ≤ s.now → ∃ t, exec .dealerLost s = .next t ∧ t.fld ENS.STATUS.DEALER = 0 ∧
        t.fld ENS.STATUS.ENUM_BUSY = 0 ∧ t.fld ENS.CMD.ENUM = 0 ∧ t.ens.dealerLost = some s.now ∧ reported 124 0 a 0 t ∧
        onlyReports [ENS.STATUS.DEALER.addr, ENS.STATUS.ENUM_BUSY.addr, ENS.CMD.ENUM.addr] s { t with ens := s.ens }) ∧
    (∀ c, s.ens.dealerLost = some c → s.fld ENS.STATUS.ACT_ROLE = 3 →
      (s.bit TIME.CFG.EPOCH_EN = true → s.epochSince c = true) →
      (s.bit TIME.CFG.EPOCH_EN = false → c + 100000000 * cyclesPerTick ≤ s.now) → s.fld ENS.GEN.GEN + 1 < 2 ^ 16 → s.fld ENS.STATUS.ADDR < 256 → ∃ u : State,
        exec .dealerTakeover s = .next (((u.sendStat [0, 1]).commitDeals).raise 125 0 0 (s.fld ENS.GEN.GEN + 1) 0) ∧
        u.fld ENS.GEN.GEN = s.fld ENS.GEN.GEN + 1 ∧ u.actsAsDealer = true ∧ u.fld ENS.STATUS.DEALER = s.fld ENS.STATUS.ADDR ∧
        u.fld ENS.TRICK_NEXT.NEXT = (s.fld ENS.TRICK_HIGH.HIGH + 1024) % 2 ^ 32 ∧ u.ens.own = s.fld ENS.GEN.GEN + 1 ∧
        u.ens.enumDue = true ∧ onlyRegs [ENS.GEN.GEN.addr, ENS.STATUS.ACT_ROLE.addr, ENS.STATUS.DEALER.addr,
          ENS.TRICK_NEXT.NEXT.addr, ACQ.TRICK_NEXT.TRICK.addr] s { u with ens := s.ens }) ∧
    (∀ e, s.time.previous = some e → s.actsAsDealer = true → s.bit TIME.CFG.EPOCH_EN = true → s.ens.timeSent ≠ some e →
      duePast s.tick (e + BitVec.ofNat 48 (s.fld TIME.EPOCH_PERIOD.PERIOD / 2)) = true →
      exec .timeSend s = .next (State.originate { s with ens := { s.ens with timeSent := some e } } 3 255
        (le 4 (s.fld TIME.EPOCH_NUM.NUM) ++ le 6 e.toNat ++ le 2 s.ens.own ++ le 4 (s.fld TIME.EPOCH_PERIOD.PERIOD)))) ∧
    (∀ (p : Nat) (bl : List WireBlock) (m : Msg) (u : State), arrives s p 3 bl m u →
      exec (.timeMessage p bl) s = .next (u.takeTime m) ∧
      (num m.data 10 2 < u.fld ENS.GEN.GEN → exec (.timeMessage p bl) s = .next u) ∧
      (num m.data 10 2 = u.fld ENS.GEN.GEN → u.bit TIME.STATUS.EPOCH_ALIGNED = true → num m.data 0 4 ≠ u.fld TIME.EPOCH_NUM.NUM →
        exec (.timeMessage p bl) s = .next (u.raise 119 0 m.src 0 0)) ∧
      (num m.data 10 2 = u.fld ENS.GEN.GEN → u.bit TIME.STATUS.EPOCH_ALIGNED = false → u.bit ENS.CFG.TIME_LOAD = true →
        u.bit TIME.CFG.EPOCH_EN = true → ∃ t, exec (.timeMessage p bl) s = .next t ∧ t.fld TIME.CMD.EPOCH_ARM = 1 ∧
          t.time.armed = some ((num m.data 0 4 + 1) % 2 ^ 32, BitVec.ofNat 48 (num m.data 4 6) + BitVec.ofNat 48 (num m.data 12 4)) ∧
          onlyRegs [TIME.CMD.EPOCH_ARM.addr] u { t with time := u.time })))

/-- Enumeration on the dealer (R231 to R233, Table 09-6): SCAN at its start, on a dealer without an address after it takes address 1;
each REPORT noted until 1.0 ms, then the addresses assigned in rounds that ask for ACKs, three at most, then DONE with the number
of units. Enumeration on a unit (R231, Table 09-6): SCAN is noted with the links it crossed, REPORT follows 100 us later, an
ASSIGN of its serial number is stored and acknowledged, DONE gives U and the topology. -/
def Obligations.EnumerationRunsItsTable : Prop :=
  (∀ s : State, s.portsRun = true → s.actsAsDealer = true →
    (s.fld ENS.STATUS.ENUM_BUSY = 0 → s.ens.enumDue = true ∨ (∃ c, s.ens.portChange = some c ∧
        (s.bit TIME.CFG.EPOCH_EN = true → s.epochSince c = true) ∧ (s.bit TIME.CFG.EPOCH_EN = false → c + 10000000 ≤ s.now)) →
      exec .enumerationStart s = .next s.startEnum) ∧
    (s.served 0x80018 = true → s.fld ENS.STATUS.ENUM_BUSY = 0 → exec .ensEnum s = .next (s.setF ENS.CMD.ENUM 1).startEnum) ∧
    (s.served 0x80018 = true → s.fld ENS.STATUS.ENUM_BUSY = 1 → exec .ensEnum s = .next (s.setF ENS.CMD.ENUM 1)) ∧
    (s.fld ENS.STATUS.ADDR = 0 → s.startEnum = ((s.storeAddr 1).setF ENS.STATUS.DEALER 1).startEnum ∧
      (s.storeAddr 1).fld ENS.STATUS.ADDR = 1) ∧
    (s.fld ENS.STATUS.ADDR ≠ 0 → ∃ u : State, s.startEnum = u.originate 1 255 (enumData 0 0 0 0 0 Config.serial) ∧
      u.fld ENS.STATUS.ENUM_BUSY = 1 ∧ u.ens.scanAt = some s.now ∧ u.ens.reports = [] ∧ u.ens.assigns = [] ∧ u.ens.assignDue = [] ∧ u.ens.assigned = false ∧
      onlyRegs [ENS.STATUS.ENUM_BUSY.addr] s { u with ens := s.ens }) ∧
    (∀ (p : Nat) (bl : List WireBlock) (m : Msg) (u : State), arrives s p 1 bl m u → u.actsAsDealer = true →
      (num m.data 0 1 = 1 → u.fld ENS.STATUS.ENUM_BUSY = 1 → u.ens.assigned = false →
        exec (.enumReport p bl) s = .next { u with ens := { u.ens with reports :=
          (u.ens.reports.filter fun x => x.serial != m.serial) ++ [
            { serial := m.serial, addr := num m.data 1 1, stored := bitOf (num m.data 4 1) 0, hopsB := num m.data 2 1,
              hopsA := num m.data 3 1 }] } }) ∧
      (num m.data 0 1 = 3 → exec (.enumAck p bl) s = .next { u with ens := { u.ens with
        assigns := u.ens.assigns.map fun a => if a.serial = m.serial ∧ a.addr = num m.data 1 1 then { a with acked := true } else a
        assignDue := u.ens.assignDue.filter fun a => a.serial != m.serial || a.addr != num m.data 1 1 } })) ∧
    (∀ t0 used kept clash used' given full, s.ens.scanAt = some t0 → s.fld ENS.STATUS.ENUM_BUSY = 1 → s.ens.assigned = false →
      t0 + 1000000 ≤ s.now → keepAddrs (s.fld ENS.STATUS.ADDR) (ringOrder s.ens.reports) = (used, kept, clash) →
      giveAddrs used kept = (used', given, full) → ∃ u : State, exec .enumAssignDue s = .next u.sendAssigns ∧
        u.ens.assigned = true ∧ u.ens.assigns = given ∧ u.ens.units = min 254 (1 + s.ens.reports.length) ∧
        (clash ≠ [] → u.latched 122 = true) ∧ (full = true → u.latched 123 = true) ∧
        onlyReports [] s { u with ens := s.ens }) ∧
    (s.ens.assigned = true → s.unacked ≠ [] → s.ens.assignAt + 200000 ≤ s.now →
      (s.ens.assignRound < 3 → exec .enumAckTimeout s = .next s.sendAssigns) ∧
      (s.ens.assignRound = 3 → ∃ t, exec .enumAckTimeout s = .next t ∧ t.ens.assignRound = 4 ∧ t.latched 120 = true ∧
        onlyReports [] s { t with ens := s.ens })) ∧
    (s.fld ENS.STATUS.ENUM_BUSY = 1 → s.ens.assigned = true → s.unacked = [] ∨ s.ens.assignRound = 4 → s.ens.units < 256 →
      ∃ t u : State,
      exec .enumDoneDue s = .next t ∧ u = s.originate 1 255 (enumData 4 s.ens.units 0 0 (if s.ens.closed then 0 else 2) Config.serial) ∧
      t.fld ENS.STATUS.UNITS = s.ens.units ∧ t.fld ENS.STATUS.ENUM_BUSY = 0 ∧ t.fld ENS.CMD.ENUM = 0 ∧
      t.fld ENS.STATUS.TOPO = (if u.portUp 0 || u.portUp 1 then (if s.ens.closed then 1 else 2) else 0) ∧
      reported 121 0 s.ens.units 0 t ∧ onlyReports [ENS.STATUS.UNITS.addr, ENS.STATUS.TOPO.addr, ENS.STATUS.ENUM_BUSY.addr,
        ENS.CMD.ENUM.addr] u { t with ens := u.ens })) ∧
  (∀ s : State, s.actsAsDealer = false →
    (∀ (p : Nat) (bl : List WireBlock) (m : Msg) (u : State), arrives s p 1 bl m u → u.actsAsDealer = false →
      (num m.data 0 1 = 0 → ∃ t, exec (.enumScan p bl) s = .next t ∧ t.fld ENS.STATUS.ENUM_BUSY = 1 ∧ t.ens.scanAt = some u.now ∧
        t.ens.scanSrc = m.src ∧ t.ens.reported = false ∧ t.ens.scanA = (if p = 0 then m.hops + 1 else 0) ∧
        t.ens.scanB = (if p = 0 then 0 else m.hops + 1) ∧ onlyRegs [ENS.STATUS.ENUM_BUSY.addr] u { t with ens := u.ens }) ∧
      (∀ a, num m.data 0 1 = 2 → a = num m.data 1 1 → m.serial = padTo Config.serial 16 → 1 ≤ a → a ≤ 254 →
        exec (.enumAssign p bl) s = .next (State.originate (if u.fld ENS.STATUS.ADDR = a then u else u.storeAddr a) 1 m.src
            (enumData 3 a 0 0 0 Config.serial)) ∧ (u.storeAddr a).fld ENS.STATUS.ADDR = a ∧
          (u.storeAddr a).nv.persist = ((0, addrRecord a (u.fld ENS.ID.ENSEMBLE_ID)) :: u.nv.persist).take 8192) ∧
      (num m.data 0 1 = 4 → ∃ t, exec (.enumDone p bl) s = .next t ∧ t.fld ENS.STATUS.UNITS = num m.data 1 1 ∧
        t.fld ENS.STATUS.ENUM_BUSY = 0 ∧ t.fld ENS.STATUS.TOPO = (if u.portUp 0 || u.portUp 1 then
          (if bitOf (num m.data 4 1) 1 then 2 else 1) else 0))) ∧
    (∀ t0, s.ens.scanAt = some t0 → s.portsRun = true → s.ens.reported = false → t0 + 100000 ≤ s.now →
      exec .enumReportDue s = .next (State.originate { s with ens := { s.ens with reported := true } } 1 s.ens.scanSrc
        (enumData 1 (s.fld ENS.STATUS.ADDR) s.ens.scanB s.ens.scanA (if s.fld ENS.STATUS.ADDR = 0 then 0 else 1) Config.serial))))

/-- The addresses that an enumeration gives (R232): the reports stand in ring order; the dealer's address, the stored addresses kept
and the new ones are all different and lie in 1 to 254, and no unit goes without one unless none is left. -/
def Obligations.AddressesAreDistinct : Prop :=
  ∀ (l : List Report) (dealer : Nat) (used used' clash : List Nat) (kept : List (Report × Nat)) (given : List Assign) (full : Bool),
    1 ≤ dealer → dealer ≤ 254 → keepAddrs dealer (ringOrder l) = (used, kept, clash) → giveAddrs used kept = (used', given, full) →
    (ringOrder l).Perm l ∧
    (ringOrder l).Pairwise (fun x y => (0 < x.hopsB ∧ (y.hopsB = 0 ∨ x.hopsB ≤ y.hopsB)) ∨
      (x.hopsB = 0 ∧ y.hopsB = 0 ∧ y.hopsA ≤ x.hopsA)) ∧
    kept.map Prod.fst = ringOrder l ∧
    (dealer :: ((kept.map Prod.snd).filter (· ≠ 0) ++ given.map Assign.addr)).Nodup ∧
    (∀ a ∈ (kept.map Prod.snd).filter (· ≠ 0) ++ given.map Assign.addr, 1 ≤ a ∧ a ≤ 254) ∧
    (full = false → given.length = ((kept.map Prod.snd).filter (· = 0)).length)

/-- What a deal that has arrived as message `m`, with `u` the state once it is accepted, answers: ignored and counted from a lower
generation, outside READY and ACQUIRE, or once an entry to DORMANT has begun (the model's reading, log entry 85), else accepted. -/
def Sys2Proof.Machine.dealt (u : State) (m : Msg) (r : Host.Outcome State Fault Refusal) : Prop :=
  (num m.data 2 2 < u.fld ENS.GEN.GEN ∨ u.active = false → ∃ t, r = .next t ∧ t.fld ENS.LAST_DEAL.OUTCOME = 3 ∧
    counted ENS.DEAL_COUNTS.IGNORED u t ∧ onlyRegs [ENS.LAST_DEAL.OP.addr, ENS.LAST_DEAL.DEAL.addr, ENS.LAST_DEAL.SRC.addr,
      ENS.LAST_DEAL.OUTCOME.addr, ENS.LAST_DEAL.LATE_BY.addr, ENS.DEAL_COUNTS.IGNORED.addr] u t) ∧
  (u.fld ENS.GEN.GEN ≤ num m.data 2 2 → u.active = true → r = .next (((u.seeGen (num m.data 2 2)).bumpF ENS.DEAL_COUNTS.RX 1).acceptDeal
    (num m.data 0 1) (num m.data 1 1) m.src (num m.data 12 8) (num m.data 20 4) (BitVec.ofNat 48 (num m.data 4 6))))

/-- Deals (R45, R47, R235, R236): ENS.DEAL_CMD is refused with 1 on a unit that is not the acting dealer, 2 for an invalid definition,
3 outside READY and ACQUIRE or once an entry to DORMANT has begun, else sent at once; a deal received from a lower generation or
outside READY and ACQUIRE is ignored and counted, else it commits an internal action for each plan of its mask, which waits while
another action holds its plan; one judged at its tick later than LATE_MAX is stale and reported, one that has not started LATE_MAX
ticks on misses its window. -/
def Obligations.DealsArmEveryUnit : Prop :=
  (∀ (s : State) (v : Nat), s.served 0x8001C = true →
    (s.actsAsDealer = false → ∃ t, exec (.dealCmd v) s = .next t ∧ t.fld ENS.DEAL_CMD.RESULT = 1 ∧
      onlyRegs [ENS.DEAL_CMD.RESULT.addr] s t) ∧
    (s.actsAsDealer = true → s.bit (ENS.DEAL_DEF.VALID (v % 16)) = false → ∃ t, exec (.dealCmd v) s = .next t ∧
      t.fld ENS.DEAL_CMD.RESULT = 2 ∧ onlyRegs [ENS.DEAL_CMD.RESULT.addr] s t) ∧
    (s.actsAsDealer = true → s.bit (ENS.DEAL_DEF.VALID (v % 16)) = true → s.active = false → ∃ t, exec (.dealCmd v) s = .next t ∧
      t.fld ENS.DEAL_CMD.RESULT = 3 ∧ onlyRegs [ENS.DEAL_CMD.RESULT.addr] s t) ∧
    (s.actsAsDealer = true → s.bit (ENS.DEAL_DEF.VALID (v % 16)) = true → s.active = true →
      exec (.dealCmd v) s = .next ((s.deal (v % 16) s.tick).setF ENS.DEAL_CMD.RESULT 0))) ∧
  (∀ (s : State) (p : Nat) (bl : List WireBlock) (m : Msg) (u : State), arrives s p 2 bl m u →
    (num m.data 0 1 = 0 → dealt u m (exec (.dealArm p bl) s)) ∧ (num m.data 0 1 = 1 → dealt u m (exec (.dealDisarm p bl) s))) ∧
  (∀ (s : State) (op deal src k base : Nat) (at_ : Tick), k < 64 → (s.planOf k).isSome = true →
    (s.acceptDeal op deal src (2 ^ k) base at_).ens.deals = s.ens.deals ++ [
      { id := s.ens.dealIds, deal := deal, op := op, plan := k, tick := at_,
        lateBy := if duePast s.tick at_ then (s.tick - at_).toNat else 0 }]) ∧
  (∀ (s : State) (id : Nat) (d : DealAct), s.ens.deals.find? (fun d => d.id == id && !d.started) = some d → s.active = true →
    (duePast s.tick d.tick = false → exec (.dealActionDue id) s = .next s) ∧
    (duePast s.tick d.tick = true → d.lateBy ≤ s.fld ENS.DEAL_CFG.LATE_MAX →
      (s.dealWaited d ≤ s.fld ENS.DEAL_CFG.LATE_MAX →
        (s.dealWaits d = false → exec (.dealActionDue id) s = .next (s.runDeal d)) ∧
        (s.dealWaits d = true → ∃ t, exec (.dealActionDue id) s = .next t ∧ t.ens.deals = s.ens.deals.map (fun x =>
          if x.id = d.id then { x with from_ := some (d.from_.getD s.now) } else x) ∧ { t with ens := s.ens } = s)) ∧
      (s.fld ENS.DEAL_CFG.LATE_MAX < s.dealWaited d → ∃ t, exec (.dealActionDue id) s = .next t ∧
        counted TIME.SCHED_COUNTS.DEADLINE s t ∧ t.latched 24 = true ∧ (∀ x ∈ t.ens.deals, x.id ≠ id))) ∧
    (duePast s.tick d.tick = true → s.fld ENS.DEAL_CFG.LATE_MAX < d.lateBy → d.deal < 256 →
      ∃ t, exec (.dealActionDue id) s = .next t ∧
      t.fld ENS.LAST_DEAL.OUTCOME = 2 ∧ t.fld ENS.LAST_DEAL.LATE_BY = min d.lateBy 65535 ∧ reported 118 0 d.deal (min d.lateBy 65535) t ∧
      (∀ x ∈ t.ens.deals, x.id ≠ id) ∧
      onlyReports [ENS.LAST_DEAL.OUTCOME.addr, ENS.LAST_DEAL.LATE_BY.addr] s { t with ens := s.ens }))

/-! ### The memory system (chapter 10) -/

/-- The address map (R249, R251) and what is stored: no two device addresses share a byte of a channel, each lies below its channel's
mapped granules or in its re-home reserve, and bytes stored are read back, every other address reading as before. -/
def Obligations.EveryAddressHasItsOwnByte : Prop :=
  ∀ s : State, s.mem.ways.Nodup → 2 ≤ s.mem.ways.length → s.fld MEM.MAPG.MAPG < 2 ^ 25 →
    (∀ a b p, s.phys a = some p → s.phys b = some p → a = b) ∧
    (∀ a c x, s.phys a = some (c, x) → c ∈ s.mem.ways ∧ s.inService c = true ∧
      x / 4096 < s.fld MEM.MAPG.MAPG + (s.fld MEM.MAPG.MAPG + s.mem.ways.length - 2) / (s.mem.ways.length - 1) ∧ x % 4096 = a % 4096) ∧
    (∀ (a : Nat) (bs : List Byte) (pre b : Nat), (s.store a bs pre).peek b =
      if a ≤ b ∧ b < a + bs.length ∧ (s.phys b).isSome = true then bs.getD (b - a) 0 else s.peek b)

/-- Refresh, retraining and row disturbance (R254, R259, R260, R262): a refresh due closes its rank's rows, or, while class-0 requests
wait, is postponed up to eight times and then made up in a burst, which waits for a retraining pause and ends within 4.0 us, when
what waited is served; a pause ends counted and what waited is served, its fourth failure in a row losing the channel; a requester
that passes ACT_TH on a row is deferred, counted and reported, class-0 streams exempt. -/
def Obligations.RefreshIsPostponedThenMadeUp : Prop :=
  ∀ (s : State) (c : Nat), c < 12 →
    (∀ (r n : Nat), r < 4 → s.rankThere c r = true → n = Tbl.get 0 s.mem.postponed (rankKey c r) →
      (s.dev.sleepMem = false → exec (.refreshDue c r false) s = .next (s.closeRank c r) ∧
        (∀ e ∈ (s.closeRank c r).mem.open_, e.1 / 256 ≠ c ∨ e.1 % 128 / 32 ≠ r) ∧ { s.closeRank c r with mem := s.mem } = s) ∧
      (s.dev.sleepMem = false → n < 8 → ∃ t, exec (.refreshDue c r true) s = .next t ∧
        Tbl.get 0 t.mem.postponed (rankKey c r) = n + 1 ∧
        onlyRegs [(MEM.CH_REFRESH.POSTPONED c).addr, (MEM.CH_REFRESH.MAX c).addr] s { t with mem := s.mem }) ∧
      (0 < n → Tbl.get 0 s.mem.burst (rankKey c r) = 0 → exec (.makeupBurst c r) s = .next (s.startBurst c r)) ∧
      (8 ≤ n → s.dev.sleepMem = false → exec (.refreshDue c r true) s = .next (s.startBurst c r)) ∧
      (Tbl.get 0 s.mem.burst (rankKey c r) = 0 → ∃ t, s.startBurst c r = t ∧
        (s.pausing c = false → Tbl.get 0 t.mem.burst (rankKey c r) = 2 ∧ Tbl.get 0 t.mem.postponed (rankKey c r) = 0 ∧
          counted (MEM.CH_REFRESH.MAKEUP c) s t ∧ onlyRegs [(MEM.CH_REFRESH.POSTPONED c).addr, (MEM.CH_REFRESH.MAX c).addr,
            (MEM.CH_REFRESH.MAKEUP c).addr] s { t with mem := s.mem }) ∧
        (s.pausing c = true → Tbl.get 0 t.mem.burst (rankKey c r) = 1 ∧ { t with mem := s.mem } = s)) ∧
      (s.rankBursts c r = true → s.now < Tbl.get 0 s.mem.burstAt (rankKey c r) + 4000 →
        exec (.makeupBurstEnd c r) s = .next ((s.setBurst c r 0).resumeChan c) ∧ (s.setBurst c r 0).rankBursts c r = false ∧
        (s.mem.held = [] → (s.setBurst c r 0).resumeChan c = s.setBurst c r 0))) ∧
    (∀ ns, s.inService c = true → s.pausing c = true → ns ≤ 1500 →
      (∃ t, exec (.retrainPauseDone c true ns) s = .next t ∧ t.pausing c = false ∧ t.fld (MEM.CH_CAPAR.CONSEC c) = 0 ∧
        counted (MEM.CH_RETRAIN.COUNT c) s t ∧ t.fld (MEM.CH_RETRAIN.LAST_NS c) = ns) ∧
      (s.fld (MEM.CH_CAPAR.CONSEC c) < 3 → ∃ t, exec (.retrainPauseDone c false ns) s = .next t ∧ t.pausing c = false ∧
        counted (MEM.CH_CAPAR.CONSEC c) s t ∧ counted (MEM.CH_CAPAR.RETRAIN_FAIL c) s t ∧
        counted (MEM.CH_RETRAIN.COUNT c) s t) ∧
      (s.fld (MEM.CH_CAPAR.CONSEC c) = 3 → s.justCleared (MEM.CH_CAPAR.CONSEC c) = false → ∃ u : State, exec (.retrainPauseDone c false ns) s = .next (u.loseChannel c 1) ∧
        u.fld (MEM.CH_CAPAR.CONSEC c) = 4 ∧ counted (MEM.CH_CAPAR.RETRAIN_FAIL c) s u)) ∧
    (∀ n req row, s.inService c = true → n < 256 →
      (s.classOf req = 0 ∨ s.overActive c n req row = false ∨ s.bankDeferred c n req = true →
        exec (.rowThrottle c n req row) s = .next s) ∧
      (s.classOf req ≠ 0 → s.overActive c n req row = true → s.bankDeferred c n req = false →
        ∃ t, exec (.rowThrottle c n req row) s = .next t ∧ counted (MEM.CH_RH.THROTTLES c) s t ∧ reported 5 0 c n t ∧
          t.mem.throttled = (bankKey c n, req, s.now + s.fld MEM.LIMITS.THROTTLE * cyclesPerUs) :: s.mem.throttled ∧
          onlyReports [(MEM.CH_RH.THROTTLES c).addr] s { t with mem := s.mem })) ∧
    (∃ u : State, exec .throttleEnd s = .next u.resumeAll ∧
      u.mem.throttled = s.mem.throttled.filter (fun x => decide (s.now < x.2.2)) ∧ { u with mem := s.mem } = s ∧
      (s.mem.held = [] → u.resumeAll = u))

/-- Errors (R264 to R267, R269): a corrected error counts, the 1001st in a second reported; an uncorrectable one poisons its granule,
counts, shows its address and the rank that served it, is reported, and the rank fails; a parity error counts, more than eight in
a second making the rank failing, and more than 64 with every powered rank failing losing the channel; a migration that has copied
every row puts the spare in the rank's place. PHY lock (R268): while a channel is out of lock its requests are held; lock back
within 10 us serves them in order, later the channel is lost: out of service for good, its fault raised, its way re-homed or
unmapped (R251), its shares and guarantees judged again. -/
def Obligations.ErrorsAndLockFollowTheirRules : Prop :=
  (∀ (s : State) (c r : Nat), c < 12 → r < 4 →
    (∀ l, l = s.now :: lastSecond s.now (Tbl.get [] s.mem.ceTimes (rankKey c r)) → s.rankThere c r = true →
      ∃ t, exec (.correctedError c r) s = .next t ∧ counted (MEM.CH_ECC.CE c) s t ∧ Tbl.get [] t.mem.ceTimes (rankKey c r) = l ∧
        (l.length = 1001 → reported (136 + 4 * c) 0 r 0 t) ∧ (l.length ≠ 1001 → t.evt = s.evt ∧ t.mgt = s.mgt ∧ t.out = s.out) ∧
        onlyReports [(MEM.CH_ECC.CE c).addr] s { t with mem := s.mem }) ∧
    (∀ a b, s.phys a = some (c, b) → s.dev.sleepMem = false → s.rankAt c (s.locate b) = r → ∃ u : State,
      exec (.uncorrectableError a) s = .next (u.rankFails c r) ∧ counted (MEM.CH_ECC.UE c) s u ∧
      counted (MEM.CH_POISON.GRANULES c) s u ∧ reported (137 + 4 * c) 0 r 0 u ∧ u.fld (MEM.CH_ERR_LO.ADDR c) = a % 2 ^ 32 ∧
      Tbl.get 0 u.mem.errAddr c = a ∧ u.fld (MEM.CH_ERR_HI.RANK c) = r ∧
      (∀ i < 64, u.poisoned c (b / 4096 * 4096 + 64 * i) = true) ∧ u.mem.bytes = s.mem.bytes) ∧
    (∀ l n, l = s.now :: lastSecond s.now (Tbl.get [] s.mem.paTimes (rankKey c r)) →
      n = ((List.range 4).map fun i => (lastSecond s.now (Tbl.get [] s.mem.paTimes (rankKey c i))).length).sum →
      s.rankThere c r = true →
      (Tbl.get false s.mem.failing (rankKey c r) = true ∨ l.length ≤ 8 → n < 64 →
        ∃ t, exec (.caParityError c r) s = .next t ∧ counted (MEM.CH_CAPAR.PARITY c) s t ∧
          Tbl.get [] t.mem.paTimes (rankKey c r) = l ∧ onlyRegs [(MEM.CH_CAPAR.PARITY c).addr] s { t with mem := s.mem }) ∧
      (Tbl.get false s.mem.failing (rankKey c r) = false → 8 < l.length → n < 64 →
        ∃ u : State, exec (.caParityError c r) s = .next (u.rankFails c r) ∧ counted (MEM.CH_CAPAR.PARITY c) s u ∧
          Tbl.get false u.mem.failing (rankKey c r) = true) ∧
      (Tbl.get false s.mem.failing (rankKey c r) = true → s.allFailing c = true → 64 ≤ n →
        ∃ u : State, exec (.caParityError c r) s = .next (u.loseChannel c 2) ∧ counted (MEM.CH_CAPAR.PARITY c) s u)) ∧
    (∀ pos total, s.inService c = true → s.fld (MEM.CH_STATE.MIG_STATE c) = 1 → s.dev.sleepMem = false →
      s.rowMoves c = true → pos = s.fld (MEM.CH_MIG_POS.POS c) + 1 → total = s.fld (MEM.CH_MIG_TOTAL.TOTAL c) → total < 2 ^ 32 →
      (pos < total → ∃ t, exec (.migrationRowDone c) s = .next t ∧ t.fld (MEM.CH_MIG_POS.POS c) = pos ∧
        t.fld (MEM.CH_STATE.MIG_PCT c) = 100 * pos / total ∧
        onlyRegs [(MEM.CH_MIG_POS.POS c).addr, (MEM.CH_STATE.MIG_PCT c).addr, (MEM.CH_RH.RFM c).addr] s { t with mem := s.mem }) ∧
      (pos = total → s.fld (MEM.CH_STATE.MIG_FROM c) = r → ∃ t, exec (.migrationRowDone c) s = .next t ∧
        t.fld (MEM.CH_STATE.MIG_STATE c) = 3 ∧ t.physRank c r = s.fld (MEM.CH_STATE.MIG_TO c) ∧ reported (138 + 4 * c) 1 r 0 t))) ∧
  (∀ (s : State) (c : Nat), c < 12 →
    (s.inService c = true → Tbl.get none s.mem.phyLost c = none → ∃ t, exec (.phyLockLost c) s = .next t ∧
      Tbl.get none t.mem.phyLost c = some s.now ∧ { t with mem := s.mem } = s ∧
      ∀ a x data req pre ack, s.phys a = some (c, x) → (t.writeGranule req a data pre ack).mem.held = t.mem.held ++
          [{ chan := c, req := req, at_ := s.now, addr := a, data := some data, len := data.length, pre := pre, ack := ack }] ∧
        (t.writeGranule req a data pre ack).mem.bytes = t.mem.bytes) ∧
    (∀ t0, s.inService c = true → Tbl.get none s.mem.phyLost c = some t0 →
      (s.now ≤ t0 + 10 * cyclesPerUs → exec (.phyLockRegained c) s = .next (State.serveWaiting s.mem.held.length
        { s with mem := { s.mem with phyLost := Tbl.set none s.mem.phyLost c none } } c true) ∧ exec (.channelLost c) s = .next s) ∧
      (t0 + 10 * cyclesPerUs < s.now → exec (.channelLost c) s = .next (s.loseChannel c 0) ∧ exec (.phyLockRegained c) s = .next s)) ∧
    (∀ kind, kind < 3 → ∃ u : State, s.loseChannel c kind = ((u.recompute c).settle).judgeService ∧
      u.inService c = false ∧ u.fld (MEM.CH_STATE.STATE c) = 4 ∧ reported (139 + 4 * c) kind 0 0 u ∧
      (∀ d, d < 12 → d ≠ c → u.inService d = s.inService d) ∧ (∀ x ∈ u.mem.held, x.chan ≠ c) ∧ u.mem.bytes = s.mem.bytes ∧
      (2 ≤ s.mem.ways.length → s.fld MEM.MAPG.MAPG ≤ s.fld MEM.RESG.RESG * (s.mem.ways.length - 1) →
        s.bit MEM.STATUS.REHOMED = false → c ∈ s.mem.ways → s.mem.ways.length ≤ 12 →
        u.bit MEM.STATUS.REHOMED = true ∧ s.mem.ways[u.fld MEM.STATUS.REHOMED_WAY]? = some c)))

/-! ### The readout engine (chapter 11) -/

/-- Queue commands (R290, R292, R293, R299): in READY and ACQUIRE START of an IDLE queue and RESUME of a HALTED one, STOP of any,
FLUSH of a WAITING, RUNNING or PARKED one are made and answered 0, else 4 with the queue; a FLUSH in the cycle of a STOP acts as
the STOP, and without items to flush it has no effect; a doorbell reads a parked LINK again or pends, and is without effect on an
IDLE or HALTED queue. A queue stopped is IDLE, its pacing off and no descriptor in hand. -/
def Obligations.QueueCommandsFollowTheirState : Prop :=
  ∀ (s : State) (q : Nat), q < 512 →
    (s.served (queueCmdAddr q) = true →
      (s.queueState q = queueIdle → s.dev.outOk = true → s.active = true → exec (.queueStart q) s = .next ((s.startQueue q).setF RDO.RESULT.RESULT 0)) ∧
      (s.queueState q ≠ queueIdle ∨ s.dev.outOk = false ∨ s.active = false → ∃ t, exec (.queueStart q) s = .next t ∧
        t.fld RDO.RESULT.RESULT = 4 ∧ t.fld RDO.RESULT.QUEUE = q ∧ onlyRegs [RDO.RESULT.RESULT.addr, RDO.RESULT.QUEUE.addr] s t) ∧
      (s.queueState q ≠ queueIdle → exec (.queueStop q) s = .next (((s.idleQueue q).setQueue q
        { (s.idleQueue q).queue q with stopAt := (s.idleQueue q).now + 1 }).setF RDO.RESULT.RESULT 0)) ∧
      (s.queueState q = queueIdle → exec (.queueStop q) s = .next ((s.setQueue q { s.queue q with stopAt := s.now + 1 }).setF
        RDO.RESULT.RESULT 0)) ∧
      ((s.queue q).desc = none → (s.idleQueue q).queueState q = queueIdle ∧ ((s.idleQueue q).queue q).pacing = false ∧
        ((s.idleQueue q).queue q).desc = none ∧ ((s.idleQueue q).queue q).waits = [] ∧
        (s.idleQueue q).fld (RDO.Q_STATE.CAUSE q) = 0) ∧
      (s.queueState q = queueHalted → s.active = true → exec (.queueResume q) s = .next ((s.resumeQueue q).setF RDO.RESULT.RESULT 0)) ∧
      (s.queueState q ≠ queueHalted ∨ s.active = false → ∃ t, exec (.queueResume q) s = .next t ∧ t.fld RDO.RESULT.RESULT = 4 ∧
        t.fld RDO.RESULT.QUEUE = q ∧ onlyRegs [RDO.RESULT.RESULT.addr, RDO.RESULT.QUEUE.addr] s t) ∧
      ((s.queue q).stopAt = s.now + 1 → exec (.queueFlush q) s = .next (s.setF RDO.RESULT.RESULT 0)) ∧
      ((s.queue q).stopAt ≠ s.now + 1 → s.queueActive q = true ∨ s.queueState q = queueParked →
        (s.queueKind q = srcImage ∨ s.queueKind q = srcRange → exec (.queueFlush q) s = .next (s.setF RDO.RESULT.RESULT 0)) ∧
        (s.queueKind q = srcPlan ∨ s.queueKind q = srcAccum →
          exec (.queueFlush q) s = .next (((s.startFlush q).showQueue q).setF RDO.RESULT.RESULT 0))) ∧
      ((s.queue q).stopAt ≠ s.now + 1 → s.queueState q = queueIdle ∨ s.queueState q = queueHalted → ∃ t,
        exec (.queueFlush q) s = .next t ∧ t.fld RDO.RESULT.RESULT = 4 ∧ t.fld RDO.RESULT.QUEUE = q ∧
        onlyRegs [RDO.RESULT.RESULT.addr, RDO.RESULT.QUEUE.addr] s t)) ∧
    (s.served (queueDoorbellAddr q) = true →
      (s.queueState q = queueParked → (s.queue q).waits = [] → exec (.queueDoorbell q) s = .next ((s.reread q).showQueue q)) ∧
      (s.queueActive q = true ∨ s.queueState q = queueParked ∧ (s.queue q).waits ≠ [] → ∃ t, exec (.queueDoorbell q) s = .next t ∧ t.fld (RDO.Q_STATE.DB_PEND q) = 1 ∧
        onlyRegs [(RDO.Q_STATE.DB_PEND q).addr] s t) ∧
      (s.queueState q = queueIdle ∨ s.queueState q = queueHalted → exec (.queueDoorbell q) s = .next s))

/-- What the engine does (R276 to R284, R287, R289, R292, R294, R295): a descriptor fetched starts, or halts the queue with cause 6
when it is bad; a burst goes to the queue chosen, of the item in hand or of the next one, which becomes IN_READOUT, ends the
descriptor where it no longer fits and halts the queue with 7 where it never would; a read-back completes the items and an entry
is due, a FULL one after a HALF entry that still waits; a LINK read again is followed or the queue stays parked; a request that
fails is repeated after 1 us up to RETRY_MAX, then halts the queue, counted and reported. -/
def Obligations.QueuesFetchDeliverAndHalt : Prop :=
  ∀ (s : State) (q : Nat), q < 512 →
    (∀ (w : HostReq) (rest : List HostReq), s.running = true → (s.queue q).waits = w :: rest → w.due = false →
      (∀ data (r : List Byte × Bool × State), w.kind = 0 → (s.queue q).curDev = true ∨ (w.lost = false ∧ s.canMaster = true) →
        ((s.queue q).curDev = true → s.rangeWaits (reqQueue q) (s.queue q).cur 32 = false) →
        r = (if (s.queue q).curDev then (s.popWait q).dramRead (reqQueue q) (s.queue q).cur 32
          else (padTo data 32, false, s.popWait q)) →
        (r.2.1 = true → exec (.descriptorFetched q data) s = .next (r.2.2.haltQueue q 5)) ∧
        (r.2.1 = false → r.2.2.badDesc q (parseDesc r.1) = true → exec (.descriptorFetched q data) s = .next (r.2.2.haltQueue q 6)) ∧
        (r.2.1 = false → r.2.2.badDesc q (parseDesc r.1) = false → exec (.descriptorFetched q data) s =
          .next (((r.2.2.startDesc q (parseDesc r.1)).repace).showQueue q))) ∧
      (∀ link (r : List Byte × Bool × State), w.kind = 1 → (s.queue q).curDev = true ∨ (w.lost = false ∧ s.canMaster = true) →
        ((s.queue q).curDev = true → s.rangeWaits (reqQueue q) ((s.queue q).cur + 24) 8 = false) →
        r = (if (s.queue q).curDev then (s.popWait q).dramRead (reqQueue q) ((s.queue q).cur + 24) 8
          else (le 8 link, false, s.popWait q)) →
        (r.2.1 = true → exec (.linkRereadComplete q link) s = .next (r.2.2.haltQueue q 5)) ∧
        (r.2.1 = false → bitOf (ofLe r.1) 0 = false → exec (.linkRereadComplete q link) s =
          .next ((r.2.2.follow q (ofLe r.1)).showQueue q)) ∧
        (r.2.1 = false → bitOf (ofLe r.1) 0 = true → r.2.2.bit (RDO.Q_STATE.DB_PEND q) = false →
          exec (.linkRereadComplete q link) s = .next (r.2.2.showQueue q)) ∧
        (r.2.1 = false → bitOf (ofLe r.1) 0 = true → r.2.2.bit (RDO.Q_STATE.DB_PEND q) = true →
          exec (.linkRereadComplete q link) s = .next (((r.2.2.setF (RDO.Q_STATE.DB_PEND q) 0).reread q).showQueue q))) ∧
      (∀ d, (s.queue q).desc = some d → d.dstDev = true ∨ (w.lost = false ∧ s.canMaster = true) →
        (d.dstDev = true → s.unacknowledged q = false) →
        (w.kind = 2 → exec (.readbackComplete q) s = .next ((s.popWait q).dueEntry q d true)) ∧
        (2 < w.kind → exec (.readbackComplete q) s = .next ((s.popWait q).fullBack q d)) ∧
        (2 < w.kind → ((s.popWait q).queue q).entry = none →
          (s.popWait q).fullBack q d = (((s.popWait q).completeItems q d).repace).dueEntry q d false)) ∧
      (∀ cause, 1 ≤ cause → cause ≤ 4 → (s.canMaster = true ∧ w.lost = false) ∨ cause = 2 → (cause = 2 → s.timedOut w = true) →
        (w.kind < 2 ∧ (s.queue q).curDev = false ∨ 2 ≤ w.kind ∧ ∃ d, (s.queue q).desc = some d ∧ d.dstDev = false) →
        (w.tries < s.fld (RDO.Q_CTL.RETRY_MAX q) → ∃ t, exec (.hostRequestFailed q cause) s = .next t ∧
          counted (RDO.Q_ERR.RETRIES q) s t ∧ (t.queue q).waits = { w with tries := w.tries + 1, again := s.now + cyclesPerUs, due := true } :: rest ∧
          onlyRegs [(RDO.Q_ERR.RETRIES q).addr] s { t with rdo := s.rdo, host := s.host }) ∧
        (s.fld (RDO.Q_CTL.RETRY_MAX q) ≤ w.tries →
          exec (.hostRequestFailed q cause) s = .next ((s.noteCompletion cause).haltQueue q cause) ∧
          ((s.queue q).desc = none → ∀ t, t = (s.noteCompletion cause).haltQueue q cause → t.queueState q = queueHalted ∧
            t.fld (RDO.Q_STATE.CAUSE q) = cause ∧ counted (RDO.Q_ERR.HALTS q) s t ∧
            reported (184 + q / 32) cause (q % 32) 0 t)))) ∧
    (∀ w rest, (s.queue q).waits = w :: rest →
      (w.due = true → w.again ≤ s.now → ((s.reissue q).queue q).waits = { w with due := false, lost := !s.canMaster } :: rest ∧
        (s.canMaster = true → (s.reissue q).out = .hostRead w.addr w.len w.be :: s.out) ∧
        (s.canMaster = false → (s.reissue q).out = s.out) ∧ { s.reissue q with rdo := s.rdo, out := s.out } = s) ∧
      (w.due = false ∨ s.now < w.again → s.reissue q = s)) ∧
    (s.running = true →
      (s.repace.chooseQueue = none → exec .readoutBurst s = .next s.repace) ∧
      (∀ p d it, s.repace.chooseQueue = some p → (s.repace.queue p).desc = some d →
        (s.repace.burstItem p = some (none, it) → exec .readoutBurst s = .next ((s.repace.burst p d it).repace.showQueue p)) ∧
        (∀ key, s.repace.burstItem p = some (some key, it) →
          (it.at_ + it.len ≤ d.len → exec .readoutBurst s =
            .next ((((s.repace.readHead p key).takeItem p key it).burst p d it).repace.showQueue p)) ∧
          (d.len < it.at_ + it.len → (s.repace.queue p).taken = [] → exec .readoutBurst s = .next (s.repace.haltQueue p 7)) ∧
          (d.len < it.at_ + it.len → (s.repace.queue p).taken ≠ [] →
            exec .readoutBurst s = .next ((s.repace.endDesc p d).showQueue p))))) ∧
    (∀ t0, ((s.repaceQueue q).queue q).since = some t0 → (s.repaceQueue q).queueActive q = true →
      ((s.repaceQueue q).queue q).desc.isSome = true → ((s.repaceQueue q).queue q).pacing = false →
      ((s.repaceQueue q).queue q).flush = none → (s.repaceQueue q).fld (RDO.Q_PACE_TO.TICKS q) ≠ 0 → (s.repaceQueue q).running = true →
      t0 + cyclesPerTick * (s.repaceQueue q).fld (RDO.Q_PACE_TO.TICKS q) ≤ (s.repaceQueue q).now →
      exec (.paceTimeout q) s = .next (((s.repaceQueue q).setQueue q
        { (s.repaceQueue q).queue q with pacing := true }).showQueue q)) ∧
    (∀ v u, v < 2 ^ 32 → s.served (0xBC00C + 16 * q) = true →
      u = (s.setF (RDO.Q_COMP_RD.RD q) v).setF RDO.RESULT.RESULT 0 →
      (2 ^ s.fld (RDO.Q_CTL.SIZE q) < (s.fld (RDO.Q_COMP_WR.WR q) + 2 ^ 32 - v) % 2 ^ 32 → ∃ t, exec (.compRdWrite q v) s = .next t ∧
        t.fld RDO.RESULT.RESULT = 5 ∧ t.fld RDO.RESULT.QUEUE = q ∧ onlyRegs [RDO.RESULT.RESULT.addr, RDO.RESULT.QUEUE.addr] s t) ∧
      ((s.fld (RDO.Q_COMP_WR.WR q) + 2 ^ 32 - v) % 2 ^ 32 ≤ 2 ^ s.fld (RDO.Q_CTL.SIZE q) →
        u.fld (RDO.Q_COMP_RD.RD q) = v ∧ u.fld RDO.RESULT.RESULT = 0 ∧
        onlyRegs [(RDO.Q_COMP_RD.RD q).addr, RDO.RESULT.RESULT.addr] s u ∧
        ((s.queue q).desc = none ∨ (s.queue q).entry = none ∨ u.ringFull q = true → exec (.compRdWrite q v) s = .next u) ∧
        (∀ d half, (s.queue q).desc = some d → (s.queue q).entry = some half → u.ringFull q = false → (s.queue q).entryNext = false →
          exec (.compRdWrite q v) s =
            .next ((u.setQueue q { u.queue q with entryNext := false }).putEntry q d half))))

/-- Binding writes (R25, R289, R301): a queue that is not IDLE refuses them with 1, a locked one with 2, a value out of range is
refused with 3, each with the notice and nothing else changed; accepted, the fields take their values. -/
def Obligations.BindingsChangeOnlyWhileIdle : Prop :=
  ∀ (s : State) (q v : Nat) (hi : Bool), q < 512 → v < 2 ^ 32 →
    (∀ e ∈ [(0xB0000, Instr.qCfgWrite q v), (0xB0004, .qPaceWrite q v), (0xB0008, .qPaceToWrite q v), (0xB000C, .qCtlWrite q v),
        (0xB0010 + (if hi then 4 else 0), .qHeadWrite q hi v), (0xB0018 + (if hi then 4 else 0), .qCompBaseWrite q hi v)],
      s.served (e.1 + 64 * q) = true → ∀ r, (r = 1 ∧ s.queueState q ≠ queueIdle) ∨
        (r = 2 ∧ s.queueState q = queueIdle ∧ s.bit (RDO.Q_GUAR.LOCKED q) = true) →
      ∃ t, exec e.2 s = .next t ∧ t.fld RDO.RESULT.RESULT = r ∧ t.fld RDO.RESULT.QUEUE = q ∧ reported 200 r 0 q t ∧
        onlyReports [RDO.RESULT.RESULT.addr, RDO.RESULT.QUEUE.addr] s t) ∧
    (s.queueState q = queueIdle → s.bit (RDO.Q_GUAR.LOCKED q) = false → ∃ same : State → Prop,
      same = (fun t => t.fld RDO.RESULT.RESULT = 0 ∧
        (∀ g : Fld, g.addr / 524288 ≠ 10 → g.addr / 524288 ≠ 11 → t.fld g = s.fld g) ∧ { t with regs := s.regs } = s) ∧
      (s.served (0xB0000 + 64 * q) = true → ∃ t, exec (.qCfgWrite q v) s = .next t ∧ t.fld (RDO.Q_CFG.SRC_KIND q) = v % 4 ∧
        t.fld (RDO.Q_CFG.SRC_ID q) = v / 4 % 64 ∧ t.fld (RDO.Q_CFG.PRIO q) = v / 2 ^ 8 % 8 ∧
        t.fld (RDO.Q_CFG.VECTOR q) = v / 2 ^ 16 % 256 ∧ same t) ∧
      (s.served (0xB0004 + 64 * q) = true → (v / 2 ^ 16 < v % 2 ^ 16 → ∃ t, exec (.qPaceWrite q v) s = .next t ∧
          t.fld (RDO.Q_PACE.HI_MARK q) = v % 2 ^ 16 ∧ t.fld (RDO.Q_PACE.LO_MARK q) = v / 2 ^ 16 ∧ same t) ∧
        (v % 2 ^ 16 ≤ v / 2 ^ 16 → ∃ t, exec (.qPaceWrite q v) s = .next t ∧ t.fld RDO.RESULT.RESULT = 3 ∧ reported 200 3 0 q t ∧
          onlyReports [RDO.RESULT.RESULT.addr, RDO.RESULT.QUEUE.addr] s t)) ∧
      (s.served (0xB0008 + 64 * q) = true → ∃ t, exec (.qPaceToWrite q v) s = .next t ∧ t.fld (RDO.Q_PACE_TO.TICKS q) = v ∧ same t) ∧
      (s.served (0xB000C + 64 * q) = true → 6 ≤ v / 2 ^ 4 % 2 ^ 4 → v / 2 ^ 4 % 2 ^ 4 ≤ 12 → 4 ≤ v / 2 ^ 8 % 2 ^ 5 →
        v / 2 ^ 8 % 2 ^ 5 ≤ 16 → ∃ t, exec (.qCtlWrite q v) s = .next t ∧ t.fld (RDO.Q_CTL.RETRY_MAX q) = v % 16 ∧
          t.fld (RDO.Q_CTL.FIXED_WIN q) = v / 2 ^ 4 % 2 ^ 4 ∧ t.fld (RDO.Q_CTL.SIZE q) = v / 2 ^ 8 % 2 ^ 5 ∧
          t.fld (RDO.Q_CTL.EP q) = v / 2 ^ 13 % 2 ∧ same t) ∧
      (s.served (0xB000C + 64 * q) = true → (v / 2 ^ 4 % 2 ^ 4 < 6 ∨ 12 < v / 2 ^ 4 % 2 ^ 4 ∨ v / 2 ^ 8 % 2 ^ 5 < 4 ∨
          16 < v / 2 ^ 8 % 2 ^ 5) → ∃ t, exec (.qCtlWrite q v) s = .next t ∧ t.fld RDO.RESULT.RESULT = 3 ∧ reported 200 3 0 q t ∧
        onlyReports [RDO.RESULT.RESULT.addr, RDO.RESULT.QUEUE.addr] s t) ∧
      (s.served (0xB0010 + 64 * q) = true → ∃ t, exec (.qHeadWrite q false v) s = .next t ∧ t.fld (RDO.Q_HEAD_LO.ADDR q) = v / 32 ∧
        t.fld (RDO.Q_HEAD_LO.DEV q) = v % 2 ∧ same t) ∧
      (s.served (0xB0014 + 64 * q) = true → ∃ t, exec (.qHeadWrite q true v) s = .next t ∧ t.fld (RDO.Q_HEAD_HI.ADDR q) = v ∧ same t) ∧
      (s.served (0xB0018 + 64 * q) = true → ∃ t, exec (.qCompBaseWrite q false v) s = .next t ∧
        t.fld (RDO.Q_COMP_BASE_LO.ADDR q) = v / 4096 ∧ t.fld (RDO.Q_COMP_BASE_LO.DEV q) = v % 2 ∧ same t) ∧
      (s.served (0xB001C + 64 * q) = true → ∃ t, exec (.qCompBaseWrite q true v) s = .next t ∧
        t.fld (RDO.Q_COMP_BASE_HI.ADDR q) = v ∧ same t))

/-! ### Display scan-out (chapter 12) -/

/-- The pixel sent (R306 to R308): a surface pixel is converted with the full-range BT.709 matrix, its shifts rounding toward minus
infinity, each component clamped to 0 to 1023; an overlay component is blended over it by its alpha; the result is reduced to the
link depth, 10 bits as they are. -/
def Obligations.PixelsAreConvertedAndReduced : Prop :=
  ∀ (s : State) (x y : Nat) (l cb cr : Int) (clamp : Int → Nat) (depth : Nat → Nat) (mix : Nat → Nat → Nat → Nat),
    s.surfacePixel x y = (l, cb, cr) → clamp = (fun v => (max 0 (min v 1023)).toNat) →
    depth = (fun v => if s.fld DSP.CFG.BPC = 0 then min 63 ((v + 8) >>> 4) else if s.fld DSP.CFG.BPC = 1 then min 255 ((v + 2) >>> 2)
      else v) →
    mix = (fun a o v => (a * ((o <<< 2) ||| (o >>> 6)) + (255 - a) * v + 127) / 255) →
    (s.bit DSP.CFG.OVL_EN = false → s.sentPixel x y =
      (depth (clamp (l + ((6450 * (cr - 512) + 2048) >>> 12))),
        depth (clamp (l - ((767 * (cb - 512) + 1917 * (cr - 512) + 2048) >>> 12))),
        depth (clamp (l + ((7601 * (cb - 512) + 2048) >>> 12))))) ∧
    (∀ p, p = Tbl.get 0 s.dsp.pal (s.shownByte (4096 * s.fld (DSP.OVL_BASE.BASE (s.fld DSP.STATUS.OVL)) +
        y * s.fld DSP.OVL_PITCH.PITCH + x)).toNat → s.bit DSP.CFG.OVL_EN = true → s.sentPixel x y =
      (depth (mix (p / 2 ^ 24) (p / 2 ^ 16 % 256) (clamp (l + ((6450 * (cr - 512) + 2048) >>> 12)))),
        depth (mix (p / 2 ^ 24) (p / 2 ^ 8 % 256) (clamp (l - ((767 * (cb - 512) + 1917 * (cr - 512) + 2048) >>> 12)))),
        depth (mix (p / 2 ^ 24) (p % 256) (clamp (l + ((7601 * (cb - 512) + 2048) >>> 12))))))

/-- Frames and Panel Self Refresh (R304, R311, R312, Tables 12-2 and 12-3): a frame start latches surface and overlay, counts the
frame and the unchanged ones, and takes the display from ACTIVE through PSR_ENTRY, PSR and PSR_EXIT back to ACTIVE; entry is
refused with the notice by a panel without PSR, and else pends outside PSR until a frame start takes or discards it; exit is
requested by command, by a PSR error, and in PSR by palette and overlay. That an entry request pending at the end of PSR_EXIT
waits for the next frame start is the model's reading (log entry 123). -/
def Obligations.FramesLatchAndRefresh : Prop :=
  (∀ (s u v w : State) (changed : Bool), s.bit DSP.CFG.ENABLE = true → s.running = true →
    s.emitFrame.latchFrame = (changed, u) → v = ((u.wrapF DSP.FRAME.COUNT 1).stepPsr changed).fetchFrame →
    w = { v with acc := { v.acc with syncDue := v.bit ACC.COMP_CFG.SYNC && v.composing } }.afterPanic (s.bit MEM.STATUS.PANIC) →
    (w.acc.heldFrame = none ∨ w.acc.frame = none → exec .frameStart s = .next w) ∧
    (∀ h f, w.acc.heldFrame = some h → w.acc.frame = some f → exec .frameStart s = .next (w.composeStep4 h f.surface)) ∧
    u.fld DSP.STATUS.SURF = s.fld ACC.COMP_STATUS.LAST % 2 ∧ u.fld DSP.STATUS.OVL = s.fld DSP.OVL_SEL.SEL % 2 ∧
    u.dsp.dirty = false ∧ u.dsp.latched = true ∧ (changed = true → u.fld DSP.UNCHANGED.COUNT = 0) ∧ (changed = false → counted DSP.UNCHANGED.COUNT s u) ∧
    (s.justCleared DSP.FRAME.COUNT = false → v.fld DSP.FRAME.COUNT = (s.fld DSP.FRAME.COUNT + 1) % 2 ^ 32)) ∧
  (∀ (s : State) (changed : Bool), s.dev.entering = false →
    (s.dspState = dspActive → (changed = true ∨ s.dsp.exitReq = true ∨ s.bit DSP.STATUS.PSR_CAP = false) →
      (s.stepPsr changed).dspState = dspActive ∧ (s.stepPsr changed).dsp.sent = 1) ∧
    (s.dspState = dspActive → changed = false → s.dsp.exitReq = false → s.bit DSP.STATUS.PSR_CAP = true → s.dsp.enterReq = true →
      (s.stepPsr changed).dspState = dspPsrEntry ∧ (s.stepPsr changed).dsp.sent = 2) ∧
    (s.dspState = dspPsrEntry → counted DSP.COUNTS.PSR_ENTRIES s (s.stepPsr changed) ∧
      (s.stepPsr changed).dspState = if changed || s.dsp.exitReq then dspPsrExit else dspPsr) ∧
    (s.dspState = dspPsr → (s.stepPsr changed).dspState = if changed || s.dsp.exitReq then dspPsrExit else dspPsr) ∧
    (s.dspState = dspPsrExit → (s.stepPsr changed).dspState = dspActive ∧ counted DSP.COUNTS.PSR_EXITS s (s.stepPsr changed) ∧
      (s.stepPsr changed).dsp.sent = 3 ∧ (s.stepPsr changed).dsp.enterReq = (!changed && s.dsp.enterReq))) ∧
  (∀ s : State, s.served dspCmdAddr = true →
    (s.bit DSP.STATUS.PSR_CAP = false → ∃ t, exec .dspPsrEnter s = .next t ∧ reported 218 0 0 0 t ∧ onlyReports [] s t) ∧
    (s.bit DSP.STATUS.PSR_CAP = true → s.dspState ≠ dspPsr → s.dsp.exitAt ≠ s.now + 1 → ∃ t, exec .dspPsrEnter s = .next t ∧
      t.dsp.enterReq = true ∧ t.fld DSP.CMD.PSR_ENTER = 1 ∧ onlyRegs [DSP.CMD.PSR_ENTER.addr] s { t with dsp := s.dsp }) ∧
    (s.bit DSP.STATUS.PSR_CAP = true → s.dspState = dspPsr ∨ s.dsp.exitAt = s.now + 1 → exec .dspPsrEnter s = .next s) ∧
    (s.dspState = dspPsrEntry ∨ s.dspState = dspPsr → ∃ t, exec .dspPsrExit s = .next t ∧ t.dsp.exitReq = true ∧
      t.dsp.enterReq = false ∧ t.fld DSP.CMD.PSR_EXIT = 1 ∧ t.fld DSP.CMD.PSR_ENTER = 0 ∧
      onlyRegs [DSP.CMD.PSR_EXIT.addr, DSP.CMD.PSR_ENTER.addr] s { t with dsp := s.dsp }) ∧
    (s.dspState ≠ dspPsrEntry → s.dspState ≠ dspPsr → ∃ t, exec .dspPsrExit s = .next t ∧ t.dsp.exitReq = s.dsp.exitReq ∧
      t.dsp.exitAt = s.now + 1 ∧ t.dsp.enterReq = (s.dsp.enterReq && s.dsp.enterAt != s.now + 1) ∧
      (s.dspState = dspPsrExit → t.fld DSP.CMD.PSR_EXIT = 1) ∧
      (s.dspState ≠ dspPsrExit → t.fld DSP.CMD.PSR_EXIT = s.fld DSP.CMD.PSR_EXIT) ∧
      onlyRegs [DSP.CMD.PSR_EXIT.addr, DSP.CMD.PSR_ENTER.addr] s { t with dsp := s.dsp }) ∧
    (s.dspState = dspPsr → ∃ t, exec .palCommit s = .next t ∧ t.dsp.exitReq = true ∧ t.fld DSP.CMD.PAL_COMMIT = 1 ∧
      onlyRegs [DSP.CMD.PAL_COMMIT.addr, DSP.CMD.PSR_ENTER.addr] s { t with dsp := s.dsp }) ∧
    (s.dspState ≠ dspPsr → exec .palCommit s = .next (s.setF DSP.CMD.PAL_COMMIT 1))) ∧
  (∀ (s : State) (v : Nat), s.served 0xC0030 = true → ∃ t, exec (.ovlSelWrite v) s = .next t ∧ t.fld DSP.OVL_SEL.SEL = v % 2 ∧
    (s.dspState = dspPsr → t.dsp.exitReq = true) ∧ (s.dspState ≠ dspPsr → t.dsp = s.dsp) ∧
    onlyRegs [DSP.OVL_SEL.SEL.addr, DSP.CMD.PSR_ENTER.addr] s { t with dsp := s.dsp }) ∧
  (∀ s : State, s.bit DSP.CFG.ENABLE = true → s.running = true → s.dsp.hpd = true →
    (∃ t, exec (.irqHpd false) s = .next t ∧ counted DSP.LINK_ERR.HPD_IRQ s t ∧ onlyRegs [DSP.LINK_ERR.HPD_IRQ.addr] s t) ∧
    (∃ t, exec (.irqHpd true) s = .next t ∧ counted DSP.LINK_ERR.HPD_IRQ s t ∧ counted DSP.LINK_ERR.PSR_ERRORS s t ∧
      reported 217 0 0 0 t ∧ (s.dspState = dspPsr → t.dsp.exitReq = true)))

/-- Underrun, panic and the panel's link (R263, R309, R310, R315): an underrun counts its line and is reported once a frame; panic is
raised and released with the fetch level; training ends ACTIVE, or after its attempts in LINK_FAIL; hot-plug loss stops it, return
and RETRAIN start it again, no training beginning once an entry to DORMANT has. That STATE reads LINK_FAIL after hot-plug loss,
and that a display kept in PSR notes one in DORMANT, is the model's choice (log entries 33, 123). -/
def Obligations.PanelLinkTrainsAndFails : Prop :=
  ∀ s : State,
    (∀ x y, s.fetching = true → s.running = true → s.dsp.sent ≠ 0 → x < s.fld DSP.H_ACT_FP.ACTIVE → y < s.fld DSP.V_ACT_FP.ACTIVE →
      (∀ u ∈ s.dsp.under, u.1 ≠ y) → ∃ t, exec (.underrun x y) s = .next t ∧ counted DSP.COUNTS.UNDERRUN s t ∧
        t.dsp.under = s.dsp.under ++ [(y, x)] ∧ t.fld MEM.STATUS.PANIC = 1 ∧ t.fld DSP.FETCH.LEVEL = 0 ∧
        (s.bit MEM.STATUS.PANIC = false → t.fld DSP.STATUS.PANIC = 1 ∧ counted MEM.PANIC.COUNT s t) ∧
        (s.dsp.under = [] → reported 216 0 0 0 t) ∧
        (s.dsp.under ≠ [] → onlyRegs [DSP.COUNTS.UNDERRUN.addr, MEM.STATUS.PANIC.addr, DSP.STATUS.PANIC.addr, DSP.FETCH.LEVEL.addr,
          MEM.PANIC.COUNT.addr] s { t with dsp := s.dsp })) ∧
    (s.fetching = true → s.running = true → s.bit MEM.STATUS.PANIC = false → ∃ t, exec .displayPanicRaise s = .next t ∧
      t.fld MEM.STATUS.PANIC = 1 ∧ t.fld DSP.STATUS.PANIC = 1 ∧ counted MEM.PANIC.COUNT s t ∧
      t.fld DSP.FETCH.LEVEL = (s.fld DSP.FETCH.PANIC - 1) % 2 ^ DSP.FETCH.LEVEL.width ∧
      onlyRegs [MEM.STATUS.PANIC.addr, DSP.STATUS.PANIC.addr, DSP.FETCH.LEVEL.addr, MEM.PANIC.COUNT.addr] s t) ∧
    (s.bit MEM.STATUS.PANIC = true → ∃ u : State, exec .displayPanicRelease s = .next u.resumeAll ∧ u.fld MEM.STATUS.PANIC = 0 ∧
      u.fld DSP.STATUS.PANIC = 0 ∧ u.fld DSP.FETCH.LEVEL = s.fld DSP.FETCH.PANIC ∧
      onlyRegs [MEM.STATUS.PANIC.addr, DSP.STATUS.PANIC.addr, DSP.FETCH.LEVEL.addr] s u) ∧
    (s.served dspCmdAddr = true → s.displayUsable = true → ∃ u : State, exec .dspRetrain s = .next (u.afterPanic (s.bit MEM.STATUS.PANIC)) ∧
      u.dspState = dspTraining ∧ u.fld DSP.CMD.RETRAIN = 1 ∧ u.dsp.tries = 0 ∧ u.dsp.rate = s.fld DSP.CFG.RATE) ∧
    (∀ psr, s.dspState = dspTraining → s.displayUsable = true →
      (∃ t, exec (.linkTrainingDone true psr) s = .next t ∧ t.dspState = dspActive ∧ t.bit DSP.STATUS.PSR_CAP = psr ∧
        t.fld DSP.STATUS.LANES_TRAINED = s.fld DSP.CFG.LANES % 4 ∧ t.fld DSP.STATUS.RATE_TRAINED = s.dsp.rate % 16 ∧
        t.fld DSP.CMD.RETRAIN = 0 ∧ { t with regs := s.regs } = s) ∧
      (s.dsp.rate = s.fld DSP.CFG.RATE → s.dsp.tries < 2 → ∃ t, exec (.linkTrainingDone false psr) s = .next t ∧
        t.dspState = dspTraining ∧ counted DSP.LINK_ERR.TRAIN_FAILS s t ∧ t.dsp.tries = s.dsp.tries + 1 ∧ t.dsp.rate = s.dsp.rate) ∧
      (s.dsp.rate ≠ s.fld DSP.CFG.RATE ∨ 2 ≤ s.dsp.tries →
        (∀ r, s.lowerRate = some r → ∃ t, exec (.linkTrainingDone false psr) s = .next t ∧ t.dsp.rate = r ∧
          t.dspState = dspTraining ∧ counted DSP.LINK_ERR.TRAIN_FAILS s t) ∧
        (s.lowerRate = none → ∃ t, exec (.linkTrainingDone false psr) s = .next t ∧ t.dspState = dspLinkFail ∧ reported 219 0 0 0 t ∧
          counted DSP.LINK_ERR.TRAIN_FAILS s t))) ∧
    (s.dsp.hpd = true →
      (s.bit DSP.CFG.ENABLE = true → s.dsp.admitted = true → s.running = true → ∃ u : State, exec .hpdLoss s =
        .next (u.afterPanic (s.bit MEM.STATUS.PANIC)) ∧ u.dsp.hpd = false ∧ u.dspState = dspLinkFail ∧
        counted DSP.LINK_ERR.LOSSES s u ∧ reported 220 0 0 0 u) ∧
      (s.bit DSP.CFG.ENABLE = false ∨ s.dsp.admitted = false ∨ s.running = false →
        (s.dspState ≠ dspPsr → exec .hpdLoss s = .next { s with dsp := { s.dsp with hpd := false } }) ∧
        (s.dspState = dspPsr → exec .hpdLoss s =
          .next (State.setDspState { s with dsp := { s.dsp with hpd := false } } dspLinkFail)))) ∧
    (s.dsp.hpd = false →
      (s.bit DSP.CFG.ENABLE = true → s.dsp.admitted = true → s.running = true → s.dev.entering = false → ∃ u : State,
        exec .hpdReturn s = .next (u.afterPanic (s.bit MEM.STATUS.PANIC)) ∧ u.dsp.hpd = true ∧ u.dspState = dspTraining ∧
        u.dsp.tries = 0) ∧
      (s.bit DSP.CFG.ENABLE = false ∨ s.dsp.admitted = false ∨ s.running = false ∨ s.dev.entering = true →
        exec .hpdReturn s = .next { s with dsp := { s.dsp with hpd := true } }))

/-! ### The lane sequencers (chapter 13) -/

/-- `t` is `s` but for sequencer `u`, which is `x`. -/
def Sys2Proof.Machine.onlyUnit (u : Nat) (x : SeqUnit) (s t : State) : Prop :=
  t.sunit u = x ∧ (∀ w, w ≠ u → t.sunit w = s.sunit w) ∧ { t with seq := { t.seq with units := s.seq.units } } = s

/-- Sequencer `u` runs and fetches a word that is the microinstruction `m`: of the ROM, or a sound one of the patch RAM, whose correction
(`ce`) is counted; `v` is the state then (R320 to R323, R335). -/
def Sys2Proof.Machine.fetched (s : State) (u : Nat) (m : Micro) (ce : Bool) (v : State) : Prop :=
  s.seqsRun = true ∧ u ≤ 68 ∧ (s.sunit u).st ≠ 2 ∧ (s.sunit u).st ≠ 3 ∧
    s.microFits (s.microAddr u (s.sunit u).pc) m = true ∧ ((patchIndex (s.microAddr u (s.sunit u).pc) = none ∧ v = s) ∨
      ∃ i, patchIndex (s.microAddr u (s.sunit u).pc) = some i ∧ Tbl.get 0 s.seq.badWords i = 0 ∧ v = if ce then s.bumpF SEQ.PATCH_ECC.CE 1 else s)

/-- The next micro-address (R324, Table 13-3) and the micro-stack (R325): each NA goes where the table says, outside a handler with no
other effect; a step past 0x3FFF or 0x41FF, a target that cannot be fetched, a CALL with 8 entries, a RET with none, a RETI
outside a handler and NA 7 are machine checks with their causes; a word of the patch RAM beyond correction is one with cause 2.
Handlers (R325, R326, R328, R329): an interrupt saves the next address in IRA and enters its vector; CALL and RET in a handler are
machine checks; RETI returns to IRA; the ninth boundary of an interrupt handler, and the 33rd of a trap handler, is a machine
check; context parity takes trap 1 and is reported, pends while a handler runs, and in the stopped unit of a takeover empties the
lane's segments. -/
def Obligations.MicroinstructionsAndHandlersFollowTheTable : Prop :=
  ((∀ (s v : State) (u : Nat) (x : SeqUnit) (ce : Bool) (addr d a : Nat), x = s.sunit u → a = s.microAddr u x.pc →
    (fetched s u ⟨0, none, none⟩ ce v →
      (incFails a = false → exec (.next u ce) s = .next (v.goto u (a + 1))) ∧
      (incFails a = true → exec (.next u ce) s = .next (v.machineCheck u 8))) ∧
    (fetched s u ⟨1, some true, some addr⟩ ce v →
      (addr < 0x4200 → exec (.jump u true addr ce) s = .next (v.goto u addr)) ∧
      (0x4200 ≤ addr → exec (.jump u true addr ce) s = .next (v.machineCheck u 8))) ∧
    (fetched s u ⟨1, some false, some addr⟩ ce v → incFails a = false →
      exec (.jump u false addr ce) s = .next (v.goto u (a + 1))) ∧
    (fetched s u ⟨2, some true, some addr⟩ ce v → x.handler = 0 →
      (x.stack.length < 8 → incFails a = false → addr < 0x4200 →
        exec (.call u true addr ce) s = .next ((v.setUnit u { v.sunit u with stack := (a + 1) :: x.stack }).goto u addr)) ∧
      (8 ≤ x.stack.length → exec (.call u true addr ce) s = .next (v.machineCheck u 3)) ∧
      (x.stack.length < 8 → incFails a = true ∨ 0x4200 ≤ addr → exec (.call u true addr ce) s = .next (v.machineCheck u 8))) ∧
    (fetched s u ⟨2, some false, some addr⟩ ce v → x.handler = 0 → incFails a = false →
      exec (.call u false addr ce) s = .next (v.goto u (a + 1))) ∧
    (fetched s u ⟨3, some true, none⟩ ce v → x.handler = 0 →
      (∀ r rest, x.stack = r :: rest → exec (.ret u true ce) s = .next ((v.setUnit u { v.sunit u with stack := rest }).goto u r)) ∧
      (x.stack = [] → exec (.ret u true ce) s = .next (v.machineCheck u 4))) ∧
    (fetched s u ⟨3, some false, none⟩ ce v → x.handler = 0 → incFails a = false →
      exec (.ret u false ce) s = .next (v.goto u (a + 1))) ∧
    (fetched s u ⟨4, some true, none⟩ ce v → incFails a = false → exec (.wait u true ce) s = .next (v.goto u (a + 1))) ∧
    (fetched s u ⟨4, some false, none⟩ ce v → exec (.wait u false ce) s = .next (v.countBoundary u)) ∧
    (fetched s u ⟨5, none, some addr⟩ ce v →
      (addr / 16 * 16 + d % 16 < 0x4200 → exec (.dispatch u addr d ce) s = .next (v.goto u (addr / 16 * 16 + d % 16))) ∧
      (0x4200 ≤ addr / 16 * 16 + d % 16 → exec (.dispatch u addr d ce) s = .next (v.machineCheck u 8))) ∧
    (fetched s u ⟨6, none, none⟩ ce v → x.handler < 2 ∨ 3 < x.handler → exec (.reti u ce) s = .next (v.machineCheck u 7)) ∧
    (fetched s u ⟨7, none, none⟩ ce v → exec (.illegalNa u ce) s = .next (v.machineCheck u 7)) ∧
    (∀ i, s.seqsRun = true → u ≤ 68 → x.st ≠ 2 → x.st ≠ 3 → patchIndex a = some i → Tbl.get 0 s.seq.badWords i ≠ 0 →
      exec (.next u ce) s = .next (s.machineCheck u 2) ∧ exec (.dispatch u addr d ce) s = .next (s.machineCheck u 2))) ∧
  ∀ (s : State) (u b : Nat), (s.sunit u).handler = 0 →
    onlyUnit u { s.sunit u with pc := b } s (s.goto u b) ∧ s.countBoundary u = s) ∧
  (∀ (s v : State) (u : Nat) (x : SeqUnit) (ce : Bool), x = s.sunit u →
    (s.seqsRun = true → u ≤ 68 → x.st ≠ 2 → x.st ≠ 3 →
      (∀ i, x.handler = 0 → x.nextSource = some i → ∃ t, exec (.seqInterrupt u) s = .next t ∧
        t.sunit u = { x with ira := x.pc, pc := 0x3F40 + 8 * i, handler := 3, src := i, bounds := 0, pend := withoutBit x.pend i,
                             last := some i } ∧ onlyRegs [(SEQ.UNIT_LAT.MAX_LAT u).addr] s { t with seq := s.seq }) ∧
      (x.handler ≠ 0 → exec (.seqInterrupt u) s = .next s)) ∧
    (∀ c addr, x.handler ≠ 0 →
      (fetched s u ⟨2, some c, some addr⟩ ce v → exec (.call u c addr ce) s = .next (v.machineCheck u 5)) ∧
      (fetched s u ⟨3, some c, none⟩ ce v → exec (.ret u c ce) s = .next (v.machineCheck u 5))) ∧
    (fetched s u ⟨6, none, none⟩ ce v →
      (x.handler = 2 → exec (.reti u ce) s =
        .next ((v.setUnit u { v.sunit u with pc := x.ira, handler := 0, bounds := 0 }).nextTrap u)) ∧
      (x.handler = 3 → ∃ w, exec (.reti u ce) s =
          .next ((w.setUnit u { v.sunit u with pc := x.ira, handler := 0, bounds := 0 }).nextTrap u) ∧
        w.fld (SEQ.UNIT_LAT.MAX_LEN u) = (if s.fld (SEQ.UNIT_LAT.MAX_LEN u) < x.bounds then x.bounds % 16
          else s.fld (SEQ.UNIT_LAT.MAX_LEN u)) ∧
        onlyRegs [(SEQ.UNIT_LAT.MAX_LEN u).addr] v w)) ∧
    (x.traps = 0 → x = v.sunit u → (v.setUnit u { x with pc := x.ira, handler := 0, bounds := 0 }).nextTrap u =
      v.setUnit u { x with pc := x.ira, handler := 0, bounds := 0 }) ∧
    (x.handler = 3 → x.bounds < 8 → ∀ b, onlyUnit u { x with pc := b, bounds := x.bounds + 1 } s (s.goto u b)) ∧
    (x.handler = 3 → 8 ≤ x.bounds → ∀ b, ∃ w, s.goto u b = w.machineCheck u 6 ∧
      onlyUnit u { x with pc := b, bounds := x.bounds + 1 } s w) ∧
    (x.handler = 2 → x.bounds < 32 → ∀ b, onlyUnit u { x with pc := b, bounds := x.bounds + 1 } s (s.goto u b)) ∧
    (x.handler = 2 → 32 ≤ x.bounds → ∀ b, ∃ w, s.goto u b = w.machineCheck u 6 ∧
      onlyUnit u { x with pc := b, bounds := x.bounds + 1 } s w) ∧
    (s.seqsRun = true → u < 68 →
      (x.st ≠ 2 → x.st ≠ 3 → x.handler = 0 → ∃ t, exec (.ctxParity u) s = .next t ∧ reported 230 0 u 0 t ∧
        t.sunit u = { x with ira := x.pc, pc := 0x3F18, handler := 2, src := 1, bounds := 0 } ∧
        counted (SEQ.UNIT_COUNTS.CTX_PARITY u) s t) ∧
      (x.st ≠ 2 → x.st ≠ 3 → x.handler ≠ 0 → exec (.ctxParity u) s = .next (s.setUnit u { x with traps := withBit x.traps 1 })) ∧
      (x.st = 3 → exec (.ctxParity u) s = .next s) ∧
      (∀ lane tk, x.st = 2 → ((List.range 64).find? fun l => (s.gapOf l).any fun t => t.unit == u && t.bound.isSome) = some lane →
        s.gapOf lane = some tk → exec (.ctxParity u) s = .next (s.dropStopped lane tk))))

/-- Machine checks (R82, R323, R330, R331, R333): one of a resting unit withdraws it, notes its first cause and is reported; one of
the training sequencer stops it in its handler, the third withdraws it; a second in a stopped unit is DOUBLE; a stopped or
withdrawn unit takes none; the lane of a stopped unit is bound to the resting unit at a 64-sample boundary and, sealed, reported;
a rewritten patch word is reported. -/
def Obligations.MachineChecksStopAndAreTakenOver : Prop :=
  ∀ s : State,
    (∀ u cause, s.seqsRun = true → u ≤ 68 → 3 ≤ cause → cause ≤ 8 →
      exec (.machineCheck u cause) s = .next (s.machineCheck u cause) ∧
      (patchIndex (s.microAddr u (s.sunit u).pc) = none → exec (.machineCheck u 1) s = .next (s.machineCheck u 1)) ∧
      ((patchIndex (s.microAddr u (s.sunit u).pc)).isSome = true → exec (.machineCheck u 2) s = .next (s.machineCheck u 2)) ∧
      ((s.sunit u).st = 2 ∨ (s.sunit u).st = 3 → s.machineCheck u cause = s) ∧
      (u < 68 → (s.sunit u).st = 0 → s.fld (SEQ.UNIT_MC.CAUSE u) = 0 → s.bit (CNV.GROUP_STATUS.SPARE_UNIT (u / 17)) = false →
        Tbl.get none s.bst.run (u / 17) = none → ((s.machineCheck u cause).sunit u).st = 3 ∧
        (s.machineCheck u cause).fld (SEQ.UNIT_MC.CAUSE u) = cause ∧ reported (224 + u / 17) cause u 0 (s.machineCheck u cause)) ∧
      ((s.sunit u).st = 1 → ((s.stopUnit u).sunit u).st = 2 ∧ ((s.stopUnit u).sunit u).stack = (s.sunit u).stack ∧
        ((s.stopUnit u).sunit u).ira = (s.sunit u).ira)) ∧
    (∀ cause n, n = (s.sunit 68).checks → (s.sunit 68).st ≠ 2 → (s.sunit 68).st ≠ 3 → cause ≠ 2 →
      s.testing = false ∨ s.dev.trained = true → ∃ t, s.machineCheck 68 cause = t ∧ (t.sunit 68).stack = (s.sunit 68).stack ∧
        (t.sunit 68).pc = 0x3F00 ∧ (t.sunit 68).checks = n + 1 ∧
        (n < 2 → (t.sunit 68).st = 2 ∧ reported 229 0 0 0 t) ∧ (2 ≤ n → (t.sunit 68).st = 3 ∧ t.latched 229 = true)) ∧
    (∀ u t0, u ≤ 68 → (s.sunit u).mcAt = some t0 → (s.sunit u).st = 2 ∨ (s.sunit u).st = 3 → (s.sunit u).handler = 1 → s.now ≤ t0 + 2050 →
      ∃ t, exec (.doubleMachineCheck u) s = .next t ∧ t.fld (SEQ.UNIT_MC.DOUBLE u) = 1 ∧ (t.sunit u).handler = 0 ∧
        onlyRegs [(SEQ.UNIT_MC.DOUBLE u).addr] s { t with seq := s.seq }) ∧
    (∀ lane u tk s0 v w, lane < 64 → u < 68 → s.gapOf lane = some tk → tk.bound = none → s.restUnit (lane / 16) = some u →
      s.at64 = true → tk.at_ < s.now → (∀ st, s.stepOf (lane / 16) = some st → st.lane ≠ lane ∨ st.switched = true) →
      s0 = (if (Tbl.get none s.bst.run (lane / 16)).any (fun b => b.unit == some u) then s.abandonBist (lane / 16) else s) →
      v = ((s0.bindLane lane u).setF (CNV.GROUP_STATUS.SPARE_UNIT (lane / 16)) 0).seqRequest u 7 →
      w = (v.laneStreams lane).foldl (fun (r : State) y => r.resumeStream lane tk y) v →
      exec (.emergencyShuffle lane) s = .next (((w.noteGap lane tk).gapAdds lane tk).setGap lane (some { tk with
        bound := some w.now, lost := (v.laneStreams lane).filterMap fun x => (v.gapBlocks lane tk x).map fun b => (x.1, x.2, b.1, b.2) })) ∧
      (v.sunit u).st = 1 ∧ (v.sunit u).lane = lane ∧ v.fld (SEQ.LANE_UNIT.UNIT lane) = u ∧ v.fld (SEQ.LANE_UNIT.VALID lane) = 1 ∧
      v.fld (CNV.GROUP_STATUS.SPARE_UNIT (lane / 16)) = 0) ∧
    (∀ lane tk, lane < 64 → s.gapOf lane = some tk → tk.bound.isSome = true → tk.unit < 2 ^ 16 →
      ((∀ r ∈ s.gapRecs lane, s.drained r = true) → ∃ v : State, exec (.takeoverSeal lane) s = .next v.settle.repace ∧
        v.gapOf lane = none ∧ reported (52 + lane / 16) 0 lane tk.unit v) ∧
      ((∃ r ∈ s.gapRecs lane, s.drained r = false) → exec (.takeoverSeal lane) s = .next s.repace)) ∧
    (∀ w, w < 512 → Tbl.get 0 s.seq.badWords w ≠ 0 → ∃ t, exec (.patchWordRewrite w) s = .next t ∧
      Tbl.get 0 t.seq.badWords w = 0 ∧ reported 231 0 0 w t ∧ onlyReports [] s { t with seq := s.seq })

/-! ### Management (chapters 14, 15) -/

/-- The state after the oldest request `r`, which leaves `rest` behind it, is answered with a status and a payload; requests that need
no command and then stand in front are answered too. -/
def Sys2Proof.Machine.answered (s : State) (r : MbxReq) (rest : List MbxReq) (status : Nat) (payload : List Byte) : State :=
  State.flushReqs (State.respond { s with mgt := { s.mgt with reqs := rest } } r status payload)

/-- The mailbox (R341, R342): a doorbell submits MBX_REQ behind the requests that wait, before a UART request of the same cycle, or is
refused and counted while BUSY; while the mailbox is served an opcode not listed is answered 1, a LENGTH beyond 248 is answered 2;
a UART frame with a good CRC joins the queue, or is answered BUSY while one waits, with a bad CRC or after a gap it is counted; a
response over PCIe stands in MBX_RSP with DONE and raises the mailbox-complete notice, over the UART it is sent as a frame. -/
def Obligations.MailboxRequestsAreQueuedAndAnswered : Prop :=
  (∀ s : State, s.served 0xE0084 = true →
    (s.bit MGT.MBX_STATUS.BUSY = true → exec .mbxDoorbell s = .next (s.bumpF MGT.MBX_STATUS.REFUSED 1)) ∧
    (s.bit MGT.MBX_STATUS.BUSY = false →
      exec .mbxDoorbell s = .next ((s.setF MGT.MBX_STATUS.BUSY 1).submitMbx { chan := 0, msg := s.mbxBytes }))) ∧
  (∀ (s : State) (r x : MbxReq), x = { r with at_ := s.now } →
    (∀ a b, s.mgt.reqs = a ++ b → (∀ y ∈ a, ¬ (r.chan = 0 ∧ y.chan = 1 ∧ y.at_ = s.now)) →
      (∀ y ∈ b, r.chan = 0 ∧ y.chan = 1 ∧ y.at_ = s.now) →
      s.mbxServed = false ∨ (∀ q l, a ++ x :: b = q :: l → s.ripe q = false ∨ (knownOps.contains q.op = true ∧ q.len ≤ 248)) →
      s.submitMbx r = { s with mgt := { s.mgt with reqs := a ++ x :: b } }) ∧
    (s.mgt.reqs = [] → s.mbxServed = true → r.chan = 0 → r.void = false → 248 < r.len ∨ knownOps.contains r.op = false →
      ∀ t, t = s.submitMbx r → t.mgt.reqs = [] ∧ t.fld MGT.MBX_STATUS.BUSY = 0 ∧ t.fld MGT.MBX_STATUS.DONE = 1 ∧
        t.fld (MGT.MBX_RSP.DATA 0) = (r.op + 65536 * r.tag) % 2 ^ 32 ∧
        t.fld (MGT.MBX_RSP.DATA 1) = 65536 * (if 248 < r.len then 2 else 1))) ∧
  (∀ (s : State) (msg : List Byte), s.dev.held = false → 8 ≤ msg.length → msg.length = 8 + num msg 4 2 → num msg 4 2 ≤ 248 →
    ∀ r : MbxReq, r = { chan := 1, msg := msg } →
    ((∀ x ∈ s.mgt.reqs, x.chan ≠ 1) → exec (.uartFrame (uartFrame msg)) s = .next (s.submitMbx r)) ∧
    ((∃ x ∈ s.mgt.reqs, x.chan = 1) →
      exec (.uartFrame (uartFrame msg)) s = .next (s.emit (.uart (uartFrame (r.answer 4 []))))) ∧
    (∀ c, c < 65536 → c ≠ crc16 msg →
      exec (.uartFrame ([0xA5, 0x5A] ++ msg ++ le 2 c)) s = .next (s.bumpF MGT.MBX_STATUS.UART_ERR 1))) ∧
  (∀ s : State, s.dev.held = false → exec .uartGapTimeout s = .next (s.bumpF MGT.MBX_STATUS.UART_ERR 1)) ∧
  (∀ (s : State) (r : MbxReq) (status : Nat) (payload : List Byte),
    (r.chan = 0 → r.void = false → ∃ t, s.respond r status payload = t ∧ t.fld MGT.MBX_STATUS.BUSY = 0 ∧
      t.fld MGT.MBX_STATUS.DONE = 1 ∧ reported 236 0 0 0 t ∧
      (∀ i < 64, t.fld (MGT.MBX_RSP.DATA i) = num (padTo (r.answer status payload) 256) (4 * i) 4) ∧
      onlyReports ([MGT.MBX_STATUS.BUSY.addr, MGT.MBX_STATUS.DONE.addr] ++ (List.range 64).map fun i => (MGT.MBX_RSP.DATA i).addr)
        s t) ∧
    (r.chan = 0 → r.void = true → s.respond r status payload = s) ∧
    (r.chan ≠ 0 → s.respond r status payload = s.emit (.uart (uartFrame (r.answer status payload)))))

/-- The queries of Tables 14-2 and 15-8 (R343, R374, R375): at the head of the queue each is answered OK with the payload of its
table, one over the UART from the cycle after its arrival on; those with an empty request are answered 2 for another LENGTH, and
nothing happens at another head; CAL_READ and MON_READ are answered 3 in SAFE; LOG_READ answers the entries of a multi-entry read,
or 6 with the oldest entry held (R354); CAL_READ answers 6 for an overwritten record; MODE_REQUEST acts as the request through the
DEV block. The payload layouts that the tables do not give, and what is out of RANGE, are log entry 18. -/
def Obligations.QueriesAreAnswered : Prop :=
  ∀ (s : State) (r : MbxReq) (rest : List MbxReq), s.mbxServed = true → s.mgt.reqs = r :: rest → s.ripe r = true →
    (r.op = 0x01 → r.len = 0 → ∃ p, exec .getIdentity s = .next (answered s r rest 0 p) ∧ p.length = 27 ∧
      slice p 0 16 = padTo Config.serial 16 ∧ num p 26 1 = s.fld MGT.STATUS.FW_SLOT % 256) ∧
    (r.op = 0x02 → r.len = 0 → ∃ p, exec .getState s = .next (answered s r rest 0 p) ∧ p.length = 34 ∧ num p 0 1 = s.mode % 256 ∧
      ∀ n < 256, bitOf (num p (2 + n / 8) 1) (n % 8) = s.latched n) ∧
    (r.op = 0x10 → r.len = 0 → ∃ p, ∃ u : State, exec .logInfo s = .next (State.flushReqs (u.respond r 0 p)) ∧ p.length = 20 ∧
      num p 0 6 = s.logOldest % 2 ^ 48 ∧ num p 6 6 = (s.nv.nextSeq - 1) % 2 ^ 48 ∧
      num p 12 4 = s.fld MGT.LOG_STATUS.DROPPED % 2 ^ 32 ∧
      (256 ≤ s.nv.nextSeq → num p 16 4 = (s.nv.nextSeq / 256 - 1) % 2 ^ 32 ∧ u = { s with mgt := { s.mgt with reqs := rest } })) ∧
    (r.op = 0x11 → r.len = 7 → 1 ≤ num r.body 6 1 → num r.body 6 1 ≤ 7 → s.logOldest ≤ num r.body 0 6 →
      ∃ u : State, ∃ es : List LogEntry, ∃ x, State.logRead { s with mgt := { s.mgt with reqs := rest } } (num r.body 0 6) (num r.body 6 1) = (x, es, u) ∧
        exec .logRead s = .next (State.flushReqs (u.respond r 0 (es.flatMap LogEntry.bytes)))) ∧
    (r.op = 0x11 → r.len = 7 → 1 ≤ num r.body 6 1 → num r.body 6 1 ≤ 7 → num r.body 0 6 < s.logOldest →
      exec .logRead s = .next (answered s r rest 6 (le 6 s.logOldest))) ∧
    (∀ x, r.op = 0x12 → r.len = 4 → s.nv.seals.find? (fun e => e.1 == num r.body 0 4) = some x →
      exec .logSeal s = .next (answered s r rest 0 x.2.bytes)) ∧
    (r.op = 0x12 → r.len = 4 → s.nv.seals.find? (fun e => e.1 == num r.body 0 4) = none →
      exec .logSeal s = .next (answered s r rest (if s.nv.nextSeq / 256 ≤ num r.body 0 4 then 5 else 6) [])) ∧
    (r.op = 0x13 → r.len = 8 → (s.mode = modeSafe → exec .calRead s = .next (answered s r rest 3 [])) ∧
      (s.mode ≠ modeSafe → num r.body 0 4 < s.nv.calRecords → exec .calRead s = .next (if s.nv.calHeld (num r.body 0 4)
        then answered s r rest 0 (slice (Config.calRecord (num r.body 0 4)) (num r.body 4 4) 240) else answered s r rest 6 [])) ∧
      (s.mode ≠ modeSafe → s.nv.calRecords ≤ num r.body 0 4 → exec .calRead s = .next (answered s r rest 5 []))) ∧
    (r.op = 0x20 → r.len = 2 → (s.mode = modeSafe → exec .monRead s = .next (answered s r rest 3 [])) ∧
      (s.mode ≠ modeSafe → 1 ≤ num r.body 1 1 → num r.body 0 1 + num r.body 1 1 ≤ 40 →
        ∃ p, exec .monRead s = .next (answered s r rest 0 p) ∧ p.length = 4 * num r.body 1 1 ∧
          ∀ i < num r.body 1 1, num p (4 * i) 2 % 4096 = s.fld (MGT.MON_RESULT.VALUE (num r.body 0 1 + i)) % 4096) ∧
      (s.mode ≠ modeSafe → num r.body 1 1 = 0 ∨ 40 < num r.body 0 1 + num r.body 1 1 →
        exec .monRead s = .next (answered s r rest 5 []))) ∧
    (r.op = 0x60 → r.len = 2 → (num r.body 0 2 < 272 → exec .getCert s = .next (answered s r rest 0
        (slice certificate (num r.body 0 2) 240))) ∧
      (272 ≤ num r.body 0 2 → exec .getCert s = .next (answered s r rest 5 []))) ∧
    (r.op = 0x61 → r.len = 0 → ∃ p, exec .getAnchors s = .next (answered s r rest 0 p) ∧ p.length = 98 ∧
      slice p 1 48 = s.nv.ownerBytes ∧ num p 49 1 = s.nv.rbCount % 256 ∧ slice p 50 48 = Config.rootHash) ∧
    (r.op = 0x62 → r.len = 1 → num r.body 0 1 ≤ 7 → Tbl.get [] s.sec.current (num r.body 0 1) = [] →
      exec .sessionInfo s = .next (answered s r rest 0 (List.replicate 19 0))) ∧
    (r.op = 0x62 → r.len = 1 → num r.body 0 1 ≤ 7 → ∀ x l, Tbl.get [] s.sec.current (num r.body 0 1) = x :: l →
      ∃ p, exec .sessionInfo s = .next (answered s r rest 0 p) ∧ num p 0 6 = x.id % 2 ^ 48 ∧ num p 7 4 = x.n % 2 ^ 32 ∧
        num p 11 4 = x.r % 2 ^ 32 ∧ num p 15 4 = x.checked % 2 ^ 32) ∧
    (r.op = 0x64 → r.len = 48 → exec .attest s = .next (answered s r rest 0 (Config.signId (r.body ++ s.attestBody) ++ s.attestBody))) ∧
    (r.op = 0x37 → r.len = 0 → s.nv.flashMiB ≠ 0 → (∀ x, s.mgt.upd = some x → x.chan = r.chan) → ∃ p, exec .updStatus s = .next (answered s r rest 0 p) ∧ p.length = 11 ∧
      num p 0 1 = s.nv.shown 0 % 256 ∧ num p 1 1 = s.nv.shown 1 % 256 ∧ num p 10 1 = s.mgt.updResult % 256) ∧
    (r.op = 0x03 → r.len = 1 → (s.mode = modeSafe → num r.body 0 1 ≠ 3 →
        exec .modeRequest s = .next (answered s r rest 3 []).finishReset) ∧
      (¬ (s.mode = modeSafe ∧ num r.body 0 1 ≠ 3) → ∃ u : State, ∃ x, State.requestMode { s with mgt := { s.mgt with reqs := rest } } (num r.body 0 1) 0x5AFE =
          (x, u) ∧ exec .modeRequest s = .next (State.flushReqs (u.respond r (modeStatus x) [])).finishReset)) ∧
    (∀ op c, (op, c) ∈ [(0x01, Instr.getIdentity), (0x02, .getState), (0x10, .logInfo), (0x61, .getAnchors), (0x63, .sealNow),
        (0x37, .updStatus)] → (r.op = op → r.len ≠ 0 → r.len ≤ 248 → exec c s = .next (answered s r rest 2 [])) ∧
        (r.op ≠ op → knownOps.contains r.op = true → r.len ≤ 248 → exec c s = .next s))

/-- The update path (R342, R365, R367): UPD_BEGIN opens a session on an EMPTY, VERIFIED or FAILED slot, which becomes WRITING with
TOTAL fixed, and is denied on a PENDING, TRIAL or COMMITTED one; UPD_WRITE takes bytes of the unit in progress in any order, one
that completes it staying in the queue until it is written, and refuses bytes that skip a unit or return to one; UPD_VERIFY leaves
VERIFIED or EMPTY, UPD_ACTIVATE makes PENDING, UPD_ABORT leaves EMPTY; a session belongs to its channel. -/
def Obligations.UpdatesFollowTheSlotTable : Prop :=
  ∀ (s : State) (r : MbxReq) (rest : List MbxReq), s.mbxServed = true → s.mgt.reqs = r :: rest → s.ripe r = true → s.nv.flashMiB ≠ 0 →
    ∀ u : State, u = { s with mgt := { s.mgt with reqs := rest } } →
    (r.op = 0x30 → r.len = 5 → s.mgt.upd = none → num r.body 0 1 ≤ 1 → 0 < num r.body 1 4 → num r.body 1 4 % 4096 = 0 →
      num r.body 1 4 ≤ s.nv.slotSize →
      (s.nv.shown (num r.body 0 1) ∉ [3, 4, 5] → ¬ (s.nv.recorded = false ∧ s.dev.slot = some (num r.body 0 1)) → ∃ v : State,
        exec .updBegin s = .next (State.flushReqs (v.respond r 0 [])) ∧ v.mgt.reqs = rest ∧ v.mgt.updResult = 0 ∧
        v.mgt.upd = some
          { chan := r.chan, slot := num r.body 0 1, total := num r.body 1 4, pos := 0, filling := [], owed := false, fromDram := none } ∧
        v.nv.ctlOr.state (num r.body 0 1) = 1 ∧ v.fld MGT.UPD_PROG.POS = 0 ∧ v.fld MGT.UPD_PROG.TOTAL = num r.body 1 4 / 4096 % 65536 ∧
        v.fld MGT.PROG_PCT.UPD = 0) ∧
      (s.nv.shown (num r.body 0 1) ∈ [3, 4, 5] → exec .updBegin s = .next (State.flushReqs
        (State.respond { u with mgt := { u.mgt with updResult := 7 } } r 7 [])))) ∧
    (∀ x, s.mgt.upd = some x →
      (∀ op c, (op, c) ∈ [(0x33, Instr.updVerify), (0x36, .updAbort)] → r.op = op → r.len = 0 → x.chan ≠ r.chan →
        exec c s = .next (answered s r rest 4 [])) ∧
      (x.chan = r.chan →
        (∀ off bs, r.op = 0x31 → 20 ≤ r.len → r.len ≤ 244 → x.fromDram = none → off = num r.body 0 4 → bs = r.body.drop 4 →
          (x.owed = true → exec .updWrite s = .next s) ∧
          (x.owed = false → x.accepts off bs = true → (x.take off bs).full = false → exec .updWrite s = .next (State.flushReqs
            (State.respond { u with mgt := { u.mgt with upd := some (x.take off bs), updResult := 0 } } r 0 []))) ∧
          (x.owed = false → x.accepts off bs = true → (x.take off bs).full = true → exec .updWrite s =
            .next { s with mgt := { s.mgt with upd := some { x.take off bs with owed := true } } }) ∧
          (x.owed = false → x.accepts off bs = false → exec .updWrite s = .next (State.flushReqs
            (State.respond { u with mgt := { u.mgt with updResult := 5 } } r 5 [])))) ∧
        (r.op = 0x32 → r.len = 16 → s.running = true → x.fromDram = none → x.filling = [] → num r.body 8 4 = 4096 * x.pos →
          0 < num r.body 12 4 → num r.body 12 4 % 4096 = 0 → num r.body 8 4 + num r.body 12 4 ≤ x.total →
          exec .updWriteDram s = .next (State.flushReqs (State.respond { u with mgt := { u.mgt with
            upd := some { x with fromDram := some (num r.body 0 8, num r.body 12 4 / 4096) }, updResult := 0 } } r 0 []))) ∧
        (r.op = 0x33 → r.len = 0 → ∃ v : State, ∃ st, exec .updVerify s = .next (State.flushReqs (v.respond r st [])) ∧
          v.mgt.upd = none ∧ v.mgt.updResult = st ∧
          (4096 * x.pos = x.total → u.slotVerdict x.slot = 0 → st = 0 ∧ v.nv.ctlOr.state (min x.slot 1) = 2) ∧
          (4096 * x.pos ≠ x.total ∨ u.slotVerdict x.slot ≠ 0 → st = 8 ∧ v.nv.ctlOr.state (min x.slot 1) = 0)) ∧
        (r.op = 0x36 → r.len = 0 → x.slot ≤ 1 → ∃ v : State, exec .updAbort s = .next (State.flushReqs (v.respond r 0 [])) ∧
          v.mgt.upd = none ∧ v.nv.ctlOr.state x.slot = 0 ∧ v.fld (SEC.SLOT_STATE.SVN x.slot) = 0))) ∧
    (r.op = 0x34 → r.len = 1 → (∀ x, s.mgt.upd = some x → x.chan = r.chan) → s.mode ≠ modeSafe → s.mode ≠ modeDormant → num r.body 0 1 ≤ 1 →
      (s.nv.ctlOr.state (num r.body 0 1) = 2 → ∃ v : State, exec .updActivate s = .next (State.flushReqs (v.respond r 0 [])) ∧
        v.nv.ctlOr.state (num r.body 0 1) = 3) ∧
      (s.nv.ctlOr.state (num r.body 0 1) ≠ 2 → exec .updActivate s = .next (State.flushReqs
        (State.respond { u with mgt := { u.mgt with updResult := 7 } } r 7 [])))) ∧
    (∀ op c len, (op, c, len) ∈ [(0x34, Instr.updActivate, 1), (0x35, .updCommit, 0)] → r.op = op → r.len = len →
      s.mode = modeSafe ∨ s.mode = modeDormant → exec c s = .next (answered s r rest 3 [])) ∧
    (r.op = 0x32 → r.len = 16 → s.running = false → exec .updWriteDram s = .next (answered s r rest 3 []))

/-- A unit of 4096 bytes gathered by UPD_WRITE, or read from device DRAM after UPD_WRITE_DRAM, is erased and programmed at its place
in the slot and read back; good, it advances POS and the percentage, bad, it leaves them and the last result is 8; the UPD_WRITE
that completed it is answered so (R355, R367). UPD_COMMIT makes the TRIAL slot COMMITTED and a COMMITTED other slot VERIFIED, and
advances the anti-rollback counter to the slot's smallest owner SVN where that is higher, a fuse each 2 ms before it is answered;
the counter never decreases and stops at 64 (R365, R366). -/
def Obligations.UpdateUnitsAndCommitAdvance : Prop :=
  (∀ (s w : State) (x : UpdSt) (unit : List Byte) (left : Option (Nat × Nat)), s.mgt.upd = some x →
    (x.fromDram = none ∧ x.owed = true ∧ unit = x.inUnit.map Prod.snd ∧ left = none ∧ w = s ∨
      ∃ a n, x.fromDram = some (a, n + 1) ∧ s.rangeWaits reqMgt a 4096 = false ∧ unit = s.peekN a 4096 ∧
        left = (if n = 0 then none else some (a + 4096, n)) ∧ w = s.readAccess reqMgt a 4096) →
    ∀ (u v : State) (addr : Nat) (kept : Tbl Byte), addr = w.nv.slotBase x.slot + 4096 * x.pos →
    u = (w.programUnit addr unit).reads addr 4096 → kept = x.filling.filter (fun e => e.1 / 4096 != x.pos) →
    (u.nv = (w.nv.erase addr).program addr unit ∧ { u with nv := w.nv, out := w.out } = w) ∧
    (∃ t : State, exec (.updUnitWritten true) s = .next (if x.owed then t.answerHead 0 else t) ∧
      t.mgt.upd = some { x with pos := x.pos + 1, filling := kept, owed := false, fromDram := left } ∧
      t.fld MGT.UPD_PROG.POS = (x.pos + 1) % 65536 ∧ (4096 * (x.pos + 1) ≤ x.total →
        t.fld MGT.PROG_PCT.UPD = 100 * (x.pos + 1) / (x.total / 4096)) ∧ t.nv = u.nv ∧
      onlyRegs [MGT.UPD_PROG.POS.addr, MGT.PROG_PCT.UPD.addr] u { t with mgt := u.mgt }) ∧
    (v = { u with mgt := { u.mgt with upd := some { x with filling := kept, owed := false, fromDram := none }, updResult := 8 } } →
      exec (.updUnitWritten false) s = .next (if x.owed then v.answerHead 8 else v))) ∧
  ((∀ (s : State) (r : MbxReq) (rest : List MbxReq) (slot : Nat), s.mbxServed = true → s.mgt.reqs = r :: rest → s.ripe r = true →
    r.op = 0x35 → r.len = 0 → s.nv.flashMiB ≠ 0 → (∀ x, s.mgt.upd = some x → x.chan = r.chan) → s.mode ≠ modeSafe →
    s.mode ≠ modeDormant → s.nv.ctlOr.trial = some slot →
    (min 64 (s.nv.slotSvn slot) ≤ s.nv.rbCount → ∃ v : State, exec .updCommit s = .next (State.flushReqs (v.respond r 0 [])) ∧
      v.nv.ctlOr.state slot = 5 ∧ (s.nv.ctlOr.state (1 - slot) = 5 → v.nv.ctlOr.state (1 - slot) = 2) ∧
      v.nv.rbCount = s.nv.rbCount) ∧
    (s.nv.rbCount < min 64 (s.nv.slotSvn slot) → s.mgt.burn = none → exec .updCommit s = .next { s with mgt := { s.mgt with
      burn := some (s.nv.rbCount, min 64 (s.nv.slotSvn slot), s.now + 2000 * cyclesPerUs) } }) ∧
    (s.nv.rbCount < min 64 (s.nv.slotSvn slot) → s.mgt.burn ≠ none → exec .updCommit s = .next s)) ∧
  (∀ (s : State) (old new t slot : Nat), s.mgt.burn = some (old, new, t) → s.nv.ctlOr.trial = some slot →
    (s.now < t → s.burnFuses = s) ∧
    (t ≤ s.now → new ≤ 64 →
      (s.nv.rbCount + 1 < new → ∃ v, s.burnFuses = v ∧ v.nv = { s.nv with rbCount := s.nv.rbCount + 1 } ∧
        v.fld SEC.STATUS.RB_COUNT = s.nv.rbCount + 1 ∧ v.mgt = { s.mgt with burn := some (old, new, t + 2000 * cyclesPerUs) }) ∧
      (s.nv.rbCount + 1 = new → ∃ v : State, s.burnFuses = v.answerHead 0 ∧ v.nv.ctlOr.state slot = 5 ∧
        (s.nv.ctlOr.state (1 - slot) = 5 → v.nv.ctlOr.state (1 - slot) = 2) ∧ v.nv.rbCount = new ∧
        v.fld SEC.STATUS.RB_COUNT = new ∧ reported 243 0 new 0 v ∧ v.mgt.burn = none))))

/-! ### Event log, monitor, self-test (chapters 14, 16) -/

/-- The staged entries are numbered on from the committed ones (R351). -/
def Sys2Proof.Machine.numbered (s : State) : Prop := ∀ i e, s.mgt.staged[i]? = some e → e.seq = s.nv.nextSeq + i

/-- The event log (R351 to R353, R371): committing takes staged entries from the front, advances the number of the next entry by as
many and chains each into the hash; eight go at a time, with the continuation entries of the eighth, a partial group ten
milliseconds after its oldest; entry 256 k + 255 writes seal k over the chain, no other writes one; a seal on request fills the
ring with filler entries up to the next seal boundary. A write of MGT.LOG_SEL_LO (R354): a first entry older than the oldest held
ends with RD_RESULT 2 and copies nothing; where the ring holds the entries asked for, they stand in the window in order with
RD_RESULT 0 and their number in RD_COUNT; the log is unchanged. -/
def Obligations.LogCommitsSealsAndReads : Prop :=
  ((∀ (s : State) (n : Nat), numbered s → n ≤ s.mgt.staged.length →
    (s.commitStaged n).mgt.staged = s.mgt.staged.drop n ∧ (s.commitStaged n).nv.nextSeq = s.nv.nextSeq + n ∧
      (s.commitStaged n).nv.chainH =
        (s.mgt.staged.take n).foldl (fun h e => Config.sha384 (h ++ e.head)) s.nv.chainH ∧
      numbered (s.commitStaged n) ∧
      (0 < n → 0 < (s.commitStaged n).nv.nextSeq ∧
        (s.commitStaged n).fld MGT.LOG_NEWEST_LO.SEQ = (s.nv.nextSeq + n - 1) % 2 ^ 32 ∧
        (s.commitStaged n).fld MGT.LOG_OLDEST_LO.SEQ = (s.nv.nextSeq + n - ringSize) % 2 ^ 32) ∧
      onlyRegs [MGT.LOG_NEWEST_LO.SEQ.addr, MGT.LOG_OLDEST_LO.SEQ.addr] s
        { s.commitStaged n with nv := s.nv, mgt := s.mgt }) ∧
  (∀ s : State,
    (8 ≤ s.mgt.staged.length → ∃ k, exec .logCommit s = .next (s.commitStaged k) ∧ 8 ≤ k ∧ k ≤ s.mgt.staged.length ∧
      (∀ j, 8 ≤ j → j < k → (s.mgt.staged[j]?.map (·.typ)) = some 10) ∧ (s.mgt.staged[k]?.map (·.typ)) ≠ some 10) ∧
    (∀ e l, s.mgt.staged = e :: l → l.length < 7 → e.stagedAt + 10000000 ≤ s.now → exec .logCommit s = .next s.commitAll ∧
      (numbered s → s.commitAll.mgt.staged = [] ∧ s.commitAll.nv.nextSeq = s.nextStaged)) ∧
    (∀ e l, s.mgt.staged = e :: l → l.length < 7 → s.now < e.stagedAt + 10000000 → exec .logCommit s = .next s) ∧
    (s.mgt.staged = [] → exec .logCommit s = .next s)) ∧
  (∀ (s : State) (typ source flags : Nat) (data : List Byte), numbered s → numbered (s.stageRaw typ source flags data)) ∧
  (∀ (nv : NvSt) (e : LogEntry),
    (nv.commit e).nextSeq = e.seq + 1 ∧
    (e.seq % 256 = 255 → ∃ x, (e.seq / 256, x) ∈ (nv.commit e).seals ∧ x.number = e.seq / 256 ∧ x.lastSeq = e.seq ∧
      x.hash = (nv.commit e).chainH) ∧
    (e.seq % 256 ≠ 255 → (nv.commit e).seals = nv.seals)) ∧
  (∀ s : State, s.served 0xF0004 = true → ∃ t, exec .secCmdSealNow s = .next t ∧ (numbered s →
    t.mgt.staged = [] ∧ t.nv.nextSeq % 256 = 0 ∧ s.nextStaged ≤ t.nv.nextSeq ∧ t.nv.nextSeq < s.nextStaged + 256)) ∧
  (∀ (s : State) (r : MbxReq) (rest : List MbxReq), s.mbxServed = true → s.mgt.reqs = r :: rest → s.ripe r = true → r.op = 0x63 → r.len = 0 →
    exec .sealNow s = .next (State.flushReqs (State.respond (State.sealNow { s with mgt := { s.mgt with reqs := rest } }) r 0
      (le 4 ((s.nextStaged - 1) / 256)))))) ∧
  (∀ (s : State) (v f c : Nat), s.served 0xE0048 = true → v < 2 ^ 32 → f = v % 2 ^ 29 + 2 ^ 32 * s.fld MGT.LOG_SEL_HI.FIRST →
    c = v / 2 ^ 29 + 1 →
    (f < s.logOldest → ∃ t, exec (.logSelWrite v) s = .next t ∧ t.fld MGT.LOG_STATUS.RD_RESULT = 2 ∧
      t.fld MGT.LOG_STATUS.RD_COUNT = 0 ∧ t.fld MGT.LOG_SEL_LO.FIRST = v % 2 ^ 29 ∧ t.fld MGT.LOG_SEL_LO.COUNT = v / 2 ^ 29 ∧
      onlyRegs [MGT.LOG_STATUS.RD_RESULT.addr, MGT.LOG_STATUS.RD_COUNT.addr, MGT.LOG_SEL_LO.FIRST.addr, MGT.LOG_SEL_LO.COUNT.addr]
        s t) ∧
    (∀ es : List LogEntry, s.logOldest ≤ f → f + c ≤ s.nv.nextSeq → es.length = c →
      (∀ i < c, Tbl.get none (s.nv.ring.map fun e => (e.1, some e.2)) (f + i) = es[i]?) →
      ∃ t, exec (.logSelWrite v) s = .next t ∧ t.fld MGT.LOG_STATUS.RD_RESULT = 0 ∧ t.fld MGT.LOG_STATUS.RD_COUNT = c ∧
        (∀ j < 8 * c, t.fld (MGT.LOG_DATA.DATA j) = num (es.flatMap LogEntry.bytes) (4 * j) 4) ∧ t.nv = s.nv ∧ t.mgt = s.mgt) ∧
    (∀ r es u, State.logRead ((s.setF MGT.LOG_SEL_LO.FIRST v).setF MGT.LOG_SEL_LO.COUNT (v / 2 ^ 29)) f c = (r, es, u) → r ≠ 2 →
      exec (.logSelWrite v) s = .next (((u.setF MGT.LOG_STATUS.RD_RESULT r).setF MGT.LOG_STATUS.RD_COUNT es.length).writeDwords
        MGT.LOG_DATA.DATA (es.flatMap LogEntry.bytes) (8 * es.length))))

/-- A monitor slot's result (R345, R346, R348): the corrected mean replaces VALUE, UPDATES advances, the next slot follows; a result
with an unsettled conversion is flagged and counted and not judged, a settled one is judged. An alarm (R349): CONFIRM judged
results in a row beyond the limits enter it, with the notice, or with the fault when CLASS is 1, which SAFE_ON sends to SAFE;
CONFIRM in a row within the limits less the hysteresis leave it; a result that does not count clears the run. -/
def Obligations.MonitorResultsAreJudged : Prop :=
  ((∀ (s : State) (raws : List Nat) (n avg c : Nat), s.monSlot = some (n, avg) → raws.length = 2 ^ avg → n < 40 → s.dev.held = false →
    s.mgt.slotAt + 1000 * 2 ^ avg ≤ s.now →
    c = monCode avg (raws.map (min 4095)) (s.fldS (MGT.MON_CORR.OFFSET n)) (s.fld (MGT.MON_CORR.GAIN n)) →
    ∃ u : State, u.fld (MGT.MON_RESULT.VALUE n) = c ∧
      u.fld (MGT.MON_RESULT.UPDATES n) = (if s.justCleared (MGT.MON_RESULT.UPDATES n) then s.fld (MGT.MON_RESULT.UPDATES n)
        else (s.fld (MGT.MON_RESULT.UPDATES n) + 1) % 65536) ∧
      u.bit (MGT.MON_RESULT.UNSETTLED n) = s.unsettled avg ∧
      onlyRegs [(MGT.MON_RESULT.VALUE n).addr, (MGT.MON_RESULT.UPDATES n).addr, (MGT.MON_RESULT.UNSETTLED n).addr] s u ∧
      (s.unsettled avg = true →
        exec (.monConversionDone raws) s = .next (u.monNextSlot.bumpF MGT.MON_COUNTS.UNSETTLED 1)) ∧
      (s.unsettled avg = false → exec (.monConversionDone raws) s = .next (u.monNextSlot.monAlarm n c))) ∧
  (∀ (avg : Nat) (raws : List Nat) (off : Int) (gain : Nat), monCode avg raws off gain ≤ 4095 ∧
    (∀ x, x ≤ 4095 → off = 0 → gain = 32768 → avg = 0 → raws = [x] → monCode avg raws off gain = x)) ∧
  monCode 0 [2190] 14 0x8100 = 2193) ∧
  (∀ (s : State) (n c k : Nat), n < 40 → k = Tbl.get 0 s.mgt.alarmCnt n →
    ∀ lo hi : Nat, lo = s.fld (MGT.MON_LIMIT.LO n) → hi = s.fld (MGT.MON_LIMIT.HI n) → ∀ hyst, hyst = s.fld (MGT.MON_ALARM.HYST n) →
    (s.bit (MGT.MON_RESULT.ALARM n) = false → lo ≤ c → c ≤ hi →
      s.monAlarm n c = { s with mgt := { s.mgt with alarmCnt := Tbl.set 0 s.mgt.alarmCnt n 0 } }) ∧
    (s.bit (MGT.MON_RESULT.ALARM n) = true → c < lo + hyst ∨ hi < c + hyst →
      s.monAlarm n c = { s with mgt := { s.mgt with alarmCnt := Tbl.set 0 s.mgt.alarmCnt n 0 } }) ∧
    (k + 1 < s.fld (MGT.MON_ALARM.CONFIRM n) →
      (s.bit (MGT.MON_RESULT.ALARM n) = false ∧ (c < lo ∨ hi < c)) ∨
        (s.bit (MGT.MON_RESULT.ALARM n) = true ∧ lo + hyst ≤ c ∧ c + hyst ≤ hi) →
      s.monAlarm n c = { s with mgt := { s.mgt with alarmCnt := Tbl.set 0 s.mgt.alarmCnt n (k + 1) } }) ∧
    (s.fld (MGT.MON_ALARM.CONFIRM n) ≤ k + 1 → s.bit (MGT.MON_RESULT.ALARM n) = true → lo + hyst ≤ c → c + hyst ≤ hi →
      s.monAlarm n c =
        State.setF { s with mgt := { s.mgt with alarmCnt := Tbl.set 0 s.mgt.alarmCnt n 0 } } (MGT.MON_RESULT.ALARM n) 0) ∧
    (s.fld (MGT.MON_ALARM.CONFIRM n) ≤ k + 1 → s.bit (MGT.MON_RESULT.ALARM n) = false → c < lo ∨ hi < c →
      ∃ u : State, u.fld (MGT.MON_RESULT.ALARM n) = 1 ∧ onlyReports [(MGT.MON_RESULT.ALARM n).addr] s u ∧
        (s.bit (MGT.MON_ALARM.CLASS n) = false → reported 238 0 n 0 u ∧ s.monAlarm n c = u) ∧
        (s.bit (MGT.MON_ALARM.CLASS n) = true → reported 239 0 n 0 u ∧
          (s.bit (MGT.MON_ALARM.SAFE_ON n) = false ∨ s.mode = modeSafe → s.monAlarm n c = u) ∧
          (s.bit (MGT.MON_ALARM.SAFE_ON n) = true → s.mode ≠ modeSafe → s.monAlarm n c = u.enterSafe 14 false))))

/-- Monitor sequences and pulse-width events (R346 to R348): a named definition starts at slot 0 when its delay has expired, or takes
the regular one's place at once and starts after an injected sequence; a pulse-width event is reported, counted and begins the
injection delay, one per assertion, an event during another's delay or sequence is an overrun; the injected sequence starts when
the delay has expired, interrupting a regular conversion; REF_EN starts the time that REF_SETTLED ends. -/
def Obligations.SequencesInjectAndSettle : Prop :=
  (∀ (s : State) (d t : Nat), s.mgt.monPend = some (d, t) →
    (t ≤ s.now → s.mgt.injSlot = none → s.converting = false → (∀ a, s.mgt.injAt = some a → s.now < a) →
      ∃ u, exec .monSeqStart s = .next u ∧ u.fld MGT.MON_CTL.REG_DEF = d % 16 ∧ u.fld MGT.MON_CTL.REG_SLOT = 0 ∧
        u.fld MGT.MON_CTL.REG_RUN = 1 ∧ u.mgt.monPend = none ∧
        onlyRegs [MGT.MON_CTL.REG_DEF.addr, MGT.MON_CTL.REG_SLOT.addr, MGT.MON_CTL.REG_RUN.addr] s { u with mgt := s.mgt }) ∧
    (t ≤ s.now → s.mgt.injSlot ≠ none ∨ (s.converting = false ∧ ∃ a, s.mgt.injAt = some a ∧ a ≤ s.now) →
      ∃ u, exec .monSeqStart s = .next u ∧ u.mgt.monNext = some d ∧ u.mgt.monPend = none ∧ u.mgt.injSlot = s.mgt.injSlot ∧
        u.mgt.slotAt = s.mgt.slotAt ∧ u.fld MGT.MON_CTL.REG_DEF = d % 16 ∧ u.fld MGT.MON_CTL.REG_SLOT = 0 ∧
        u.fld MGT.MON_CTL.REG_RUN = 1 ∧
        onlyRegs [MGT.MON_CTL.REG_DEF.addr, MGT.MON_CTL.REG_SLOT.addr, MGT.MON_CTL.REG_RUN.addr] s { u with mgt := s.mgt }) ∧
    (s.now < t ∨ (s.converting = true ∧ s.mgt.injSlot = none) → exec .monSeqStart s = .next s)) ∧
  (∀ (s : State) (m src : Nat), src = bothBits 5 m s.pwSources → src ≠ 0 → s.dev.held = false → s.fld MGT.STATUS.FW_STATE ≠ 0 →
    (s.mgt.pwLow = true → exec (.pulseWidthEvent m) s = .next s) ∧
    (s.mgt.pwLow = false → ∃ u : State,
      exec (.pulseWidthEvent m) s = .next (if s.bit DEV.WAKE_CFG.PW_EN then u.wakeCause 7 else u) ∧ u.mgt.pwLow = true ∧
      reported 237 src 0 0 u ∧ counted MGT.MON_COUNTS.PW_EVENTS s u ∧
      (s.mgt.injAt = none → s.mgt.injSlot = none → s.usesInject = true →
        u.mgt.injAt = some (s.now + s.fld MGT.MON_DELAY.INJ_DELAY * 10) ∧ u.fld MGT.MON_CTL.INJ_RUN = 1) ∧
      (s.mgt.injAt ≠ none ∨ s.mgt.injSlot ≠ none → counted MGT.MON_COUNTS.INJ_OVERRUN s u ∧ u.mgt.injAt = s.mgt.injAt) ∧
      onlyReports [MGT.MON_COUNTS.PW_EVENTS.addr, MGT.MON_COUNTS.INJ_OVERRUN.addr, MGT.MON_CTL.INJ_RUN.addr] s u)) ∧
  (∀ s : State, exec .pwrEvtDeassert s = .next { s with mgt := { s.mgt with pwLow := false } }) ∧
  (∀ (s : State) (t : Nat), s.mgt.injAt = some t →
    (t ≤ s.now → ∃ u, exec .injectStart s = .next u ∧ u.mgt.injSlot = some 0 ∧ u.mgt.injAt = none ∧
      (s.converting = true → counted MGT.MON_COUNTS.INTERRUPTED s u) ∧ (s.converting = false → u.regs = s.regs) ∧
      onlyRegs [MGT.MON_COUNTS.INTERRUPTED.addr] s { u with mgt := s.mgt }) ∧
    (s.now < t → exec .injectStart s = .next s)) ∧
  (∀ (s : State) (v : Nat), s.served 0xE000C = true →
    (v % 2 = 1 → s.bit MGT.MON_CTL.REF_EN = false → ∃ u, exec (.monCtlWrite v) s = .next u ∧ u.fld MGT.MON_CTL.REF_EN = 1 ∧
      u.fld MGT.MON_CTL.REF_SETTLED = 0 ∧ u.mgt.refOnAt = s.now ∧
      onlyRegs [MGT.MON_CTL.REF_EN.addr, MGT.MON_CTL.REF_SETTLED.addr] s { u with mgt := s.mgt }) ∧
    (v % 2 = 0 → s.bit MGT.MON_CTL.REF_EN = true → ∃ u, exec (.monCtlWrite v) s = .next u ∧ u.fld MGT.MON_CTL.REF_EN = 0 ∧
      u.fld MGT.MON_CTL.REF_SETTLED = 0 ∧ u.mgt.refOnAt = s.mgt.refOnAt ∧
      (s.mgt.refOnAt, s.now) ∈ u.mgt.refWas ∧
      onlyRegs [MGT.MON_CTL.REF_EN.addr, MGT.MON_CTL.REF_SETTLED.addr] s { u with mgt := s.mgt }) ∧
    (s.bit MGT.MON_CTL.REF_EN = (v % 2 == 1) → exec (.monCtlWrite v) s = .next s)) ∧
  (∀ s : State, (s.bit MGT.MON_CTL.REF_EN = true → s.mgt.refOnAt + 400000 ≤ s.now →
      exec .refSettled s = .next (s.setF MGT.MON_CTL.REF_SETTLED 1)) ∧
    (s.bit MGT.MON_CTL.REF_EN = false ∨ s.now < s.mgt.refOnAt + 400000 → exec .refSettled s = .next s))

/-- BIST slices (R385 to R387, R391): a slice whose parts all pass records each part's pass, clears its failures in a row and counts;
a first failure of a part is reported with CONSEC 1; the second in a row retires the slice (part 0 or 1), or withdraws the unit
with its fault and SPARE_UNIT 0 (part 2); SIG_SEL shows the MISR and the golden signature of the part it selects. -/
def Obligations.BistSlicesJudgeTheirParts : Prop :=
  (∀ (s : State) (g : Nat) (b : BistRun) (rs : List PartTest) (tests : List (Nat × Nat × PartTest)), g < 4 →
    Tbl.get none s.bst.run g = some b → rs.length = (s.bistParts b).length →
    tests = List.zipWith (fun pq r => (pq.1, pq.2, r)) (s.bistParts b) rs → tests.all kindFits = true →
    (∃ u : State, exec (.bistSliceDone g rs) s = .next (tests.foldl State.judgePart u) ∧ Tbl.get none u.bst.run g = none ∧
      counted (BST.GROUP_COUNTS.SLICES g) s u ∧
      ((∃ r ∈ tests, s.partPasses r.1 r.2.1 r.2.2 = false) → counted (BST.GROUP_COUNTS.FAILS g) s u)) ∧
    (b.slice < 68 → (∀ u, b.unit = some u → u < 68) → (∀ r ∈ tests, s.partPasses r.1 r.2.1 r.2.2 = true) →
      ∃ t, exec (.bistSliceDone g rs) s = .next t ∧ Tbl.get none t.bst.run g = none ∧ counted (BST.GROUP_COUNTS.SLICES g) s t ∧
        t.fld (BST.GROUP_COUNTS.FAILS g) = s.fld (BST.GROUP_COUNTS.FAILS g) ∧
        (∀ pq ∈ s.bistParts b, t.fld (resField pq.1 pq.2) = 1 ∧ Tbl.get 0 t.bst.consec (4 * pq.1 + pq.2) = 0 ∧
          (Tbl.get 0 s.bst.lastFail pq.1 = pq.2 + 1 → t.fld (BST.PART_STATE.CONSEC pq.1) = 0)) ∧
        onlyBlock 16 s { t with bst := s.bst, cal := s.cal })) ∧
  (∀ (s : State) (g : Nat) (rs : List PartTest), Tbl.get none s.bst.run g = none → exec (.bistSliceDone g rs) s = .next s) ∧
  (∀ (s : State) (p q : Nat) (test : PartTest), p < 68 → q ≤ 2 → s.partPasses p q test = false →
    (Tbl.get 0 s.bst.consec (4 * p + q) = 0 → ∃ t, s.judgePart (p, q, test) = t ∧ reported 249 q p 0 t ∧
      t.fld (resField p q) = 2 ∧ t.fld (BST.PART_STATE.CONSEC p) = 1 ∧ Tbl.get 0 t.bst.consec (4 * p + q) = 1 ∧
      Tbl.get 0 t.bst.lastFail p = q + 1 ∧
      onlyReports [(resField p q).addr, (BST.PART_STATE.CONSEC p).addr, (BST.PART_STATE.AT_LOAD p).addr] s { t with bst := s.bst }) ∧
    (0 < Tbl.get 0 s.bst.consec (4 * p + 2) → q = 2 → ∃ t, s.judgePart (p, q, test) = t ∧ reported 250 0 p 0 t ∧
      t.fld (BST.PART_STATE.OUTCOME p) = 2 ∧ t.fld (CNV.GROUP_STATUS.SPARE_UNIT (p / 17)) = 0 ∧ (t.sunit p).st = 3) ∧
    (0 < Tbl.get 0 s.bst.consec (4 * p + q) → q < 2 → s.isRetired p = false → ∃ u : State, s.judgePart (p, q, test) = u.retire p 2 ∧
      reported 249 q p 0 u ∧ u.fld (BST.PART_STATE.OUTCOME p) = 1 ∧ u.fld (BST.PART_STATE.CONSEC p) = 2)) ∧
  (∀ (s : State) (v : Nat), s.served 0x100010 = true → ∃ t, exec (.sigSelWrite v) s = .next t ∧
    t.fld BST.SIG_SEL.PART_NO = v % 128 ∧ t.fld BST.SIG_SEL.PART = v / 256 % 4 ∧
    t.fld (BST.SIG.SIG 0) + 2 ^ 32 * t.fld (BST.SIG.SIG 1) = Tbl.get 0 s.bst.sig (4 * (v % 128) + v / 256 % 4) % 2 ^ 64 ∧
    t.fld (BST.GOLD.GOLD 0) + 2 ^ 32 * t.fld (BST.GOLD.GOLD 1) = Config.golden (v % 128) (v / 256 % 4) % 2 ^ 64 ∧
    onlyRegs [BST.SIG_SEL.PART_NO.addr, BST.SIG_SEL.PART.addr, (BST.SIG.SIG 0).addr, (BST.SIG.SIG 1).addr, (BST.GOLD.GOLD 0).addr,
      (BST.GOLD.GOLD 1).addr] s t)

/-! ### Events (chapter 18) -/

/-- An occurrence (R411, R412, R414): it latches, counts, shows its detail and its tick; the first fault since reset stands in FIRST;
a STATUS bit that was 0 with its MASK 0 sends one message where a message can be sent, one that was 1 or is masked sends none; a
fault, and a notice whose ROUTE.LOG is 1, stages an EVENT entry with FLAGS bit 0 for a fault. -/
def Obligations.OccurrencesLatchAnnounceAndLog : Prop :=
  ∀ (s : State) (n k i a a2 : Nat), n < 256 → n ≠ 240 → k < 256 → i < 256 → a < 65536 → s.mgt.dropPend = 0 → s.canStage 1 = true →
    ∃ t, s.raise n k i a a2 = t ∧ reported n k i a t ∧ counted (EVT.COUNT.COUNT n) s t ∧
      (∀ m < 256, m ≠ n → t.latched m = s.latched m) ∧ onlyReports [] s t ∧ t.fld MGT.LOG_STATUS.DROPPED = s.fld MGT.LOG_STATUS.DROPPED ∧
      (isFaultSource n = true → s.bit EVT.FIRST.VALID = false → t.fld EVT.FIRST.SOURCE = n ∧ t.fld EVT.FIRST.VALID = 1) ∧
      (isFaultSource n = false ∨ s.bit EVT.FIRST.VALID = true → t.fld EVT.FIRST.SOURCE = s.fld EVT.FIRST.SOURCE) ∧
      (s.host.msixEn = true → s.bit DEV.HOST_STATUS.BME = true → s.bit DEV.HOST_STATUS.D3HOT = false →
        s.fld DEV.HOST_STATUS.WIDTH ≠ 0 → s.host.fmask = false → Tbl.get false s.host.unmasked (s.fld (EVT.ROUTE.VECTOR n)) = true →
        (s.latched n = false → s.masked n = false → t.out = .msix (s.fld (EVT.ROUTE.VECTOR n)) :: s.out)) ∧
      (s.latched n = true ∨ s.masked n = true → t.out = s.out ∧ t.host = s.host) ∧
      (isFaultSource n = true ∨ s.bit (EVT.ROUTE.LOG n) = true → ∃ e, t.mgt.staged = s.mgt.staged ++ [e] ∧ e.seq = s.nextStaged ∧
        e.typ = 1 ∧ e.source = n ∧ e.flags % 2 = (if isFaultSource n then 1 else 0) ∧ e.tick = s.tick ∧
        e.data = le 1 k ++ le 1 i ++ le 2 a ++ le 4 a2) ∧
      (isFaultSource n = false → s.bit (EVT.ROUTE.LOG n) = false → t.mgt = s.mgt)

/-- Writes of STATUS, MASK and the MSI-X table (R411, R412, R430): a 1 written to STATUS clears its bit, but for one that an
occurrence of the same cycle has set, a 0 leaves it; a written MASK stands, and each bit it clears over a latched source sends one
message, in order, where messages can be sent and none has been in the same cycle; clearing the mask of a vector with a message
pending sends that message and leaves none pending. -/
def Obligations.StatusAndMaskWritesFollowTheirRules : Prop :=
  (∀ (s : State) (i v : Nat), i < 8 → s.served (0x110100 + 4 * i) = true → ∃ t, exec (.evtStatusClear i v) s = .next t ∧
    (∀ j < 32, t.latched (32 * i + j) = (s.latched (32 * i + j) && (!bitOf v j || s.justSeen (32 * i + j)))) ∧
    onlyRegs [(EVT.STATUS.STATUS i).addr] s { t with host := s.host, evt := s.evt, out := s.out } ∧
    (s.heldSources i v = [] → t.host = s.host ∧ t.evt = s.evt ∧ t.out = s.out)) ∧
  (∀ s : State, s.served 0x110004 = true → ∃ t, exec .evtClrStatus s = .next t ∧
    (∀ n < 256, t.latched n = (s.latched n && s.justSeen n)) ∧
    onlyRegs ((List.range 8).map fun i => (EVT.STATUS.STATUS i).addr) s { t with host := s.host, evt := s.evt, out := s.out }) ∧
  (∀ (s : State) (i v : Nat), i < 8 → s.served (0x110120 + 4 * i) = true → ∃ t, exec (.evtMaskWrite i v) s = .next t ∧
    t.fld (EVT.MASK.MASK i) = v % 2 ^ 32 ∧
    onlyRegs [(EVT.MASK.MASK i).addr] s { t with host := s.host, evt := s.evt, out := s.out } ∧
    ∀ due, due = unmaskedSources i (s.fld (EVT.MASK.MASK i)) v (s.fld (EVT.STATUS.STATUS i)) →
      (∀ n, n ∈ due ↔ n / 32 = i ∧ s.masked n = true ∧ s.latched n = true ∧ bitOf v (n % 32) = false) ∧
      (s.host.msixEn = true → s.bit DEV.HOST_STATUS.BME = true → s.bit DEV.HOST_STATUS.D3HOT = false →
        s.fld DEV.HOST_STATUS.WIDTH ≠ 0 → s.host.fmask = false →
        (∀ n ∈ due, Tbl.get false s.host.unmasked (s.fld (EVT.ROUTE.VECTOR n)) = true ∧ Tbl.get 0 s.evt.told n ≠ s.now + 1) →
        t.host = s.host ∧ t.out = (due.map fun n => Out.msix (s.fld (EVT.ROUTE.VECTOR n))).reverse ++ s.out) ∧
      (s.host.msixEn = false ∨ s.bit DEV.HOST_STATUS.BME = false ∨ s.bit DEV.HOST_STATUS.D3HOT = true ∨
        s.fld DEV.HOST_STATUS.WIDTH = 0 ∨ (∀ n ∈ due, Tbl.get 0 s.evt.told n = s.now + 1) → t.host = s.host ∧ t.out = s.out)) ∧
  (∀ (s : State) (n : Nat), s.hostUp = true → n < 256 → exec (.msixVectorUnmask (some n)) s = .next (s.maskVector n false)) ∧
  (∀ s : State, s.cfgUp = true → exec (.msixVectorUnmask none) s = .next (s.writeMsixControl s.host.msixEn false)) ∧
  (∀ (s : State) (n : Nat), s.hostUp = true → n < 256 → s.host.msixEn = true → s.host.fmask = false →
    s.bit DEV.HOST_STATUS.BME = true → s.host.pba = [(n, true)] →
    ∃ t, exec (.msixVectorUnmask (some n)) s = .next t ∧ t.out = .msix n :: s.out ∧ t.host.pba = [] ∧
      t.host.unmasked = Tbl.set false s.host.unmasked n true ∧ t.regs = s.regs)

/-- ALERT_N (R413): out of reset it is low exactly while some source is latched, unmasked and routed to it, whatever the mode; in
reset it is released; raising such a source drives it low. -/
def Obligations.AlertIsLowWhileASourceAlerts : Prop :=
  (∀ s : State, s.dev.held = false →
    (s.alertLow = true ↔ ∃ n < 256, s.latched n = true ∧ s.masked n = false ∧ s.bit (EVT.ROUTE.ALERT n) = true)) ∧
  (∀ s : State, s.dev.held = true → s.alertLow = false) ∧
  (∀ (s : State) (m : Nat), (s.setF DEV.MODE.MODE m).alertLow = s.alertLow) ∧
  (∀ (s : State) (n k i a a2 : Nat), n < 256 → s.dev.held = false → s.masked n = false → s.bit (EVT.ROUTE.ALERT n) = true →
    (s.raise n k i a a2).alertLow = true)

/-! ### Sample coder (chapter 07) -/

/-- The samples that a block keeps with K and H (R176, R177, R180): with K = 0 each sample itself, with K > 0 the middle of its step of
2^K, with H = 1 only the even positions. -/
def Sys2Proof.Machine.keptSample (x : List Int) (k h i : Nat) : Option Int :=
  if h = 1 ∧ i % 2 = 1 then none
  else if k = 0 then some (x.getD i 0) else some (x.getD i 0 / 2 ^ k * 2 ^ k + 2 ^ (k - 1))

/-- Decoding a coded block gives back every sample the mode keeps, in packed and in every Rice form (R176 to R180); the block has the
size that the choice of R183 counts. -/
def Obligations.BlocksDecodeToWhatTheyEncode : Prop :=
  ∀ (x : List Int) (k h p : Nat), x.length = 64 → (∀ v ∈ x, -2048 ≤ v ∧ v < 2048) → k ≤ 4 → h ≤ 1 → (p = 15 ∨ p < 12 - k) →
    decodeBlock (encodeBlock x k h p) = (List.range 64).map (keptSample x k h) ∧
    (encodeBlock x k h (bestForm x k h).2).length = (bestForm x k h).1 ∧
    (p = 15 → (encodeBlock x k h p).length = 1 + ((if h = 0 then 64 else 32) * (12 - k) + 7) / 8)

/-- The coding of the blocks of a frame from block `b` with `r` bytes left (R183): each block's K and H, and the bytes left at last. -/
def Sys2Proof.Machine.codeFrame : List (List Int) → Nat → Nat → List (Nat × Nat) × Nat
  | [], r, _ => ([], r)
  | x :: l, r, b =>
    let m := chooseMode x r b
    let y := codeFrame l (r - (bestForm x m.1 m.2).1) (b + 1)
    (m :: y.1, y.2)

/-- A frame never exceeds its budget (R183, R184): with at least 33 bytes for each block left, every block fits in what may be spent
on it and leaves 33 for each later one; a block is reduced only when its full form does not fit; from G at least 2112 on, the
sizes of the `nb` blocks of a frame, whole or partial, and what is left add up to its budget; with G of 6208 no block is reduced
and the coded stream is exact. -/
def Obligations.EveryBlockFitsItsBudget : Prop :=
  (∀ (x : List Int) (r b : Nat) (m : Nat × Nat), x.length = 64 → b ≤ 63 → 33 * (64 - b) ≤ r → m = chooseMode x r b →
    (bestForm x m.1 m.2).1 ≤ r - 33 * (63 - b) ∧ 33 * (63 - b) ≤ r - (bestForm x m.1 m.2).1 ∧
    (m ≠ (0, 0) ↔ r - 33 * (63 - b) < (bestForm x 0 0).1)) ∧
  (∀ (xs : List (List Int)) (g nb r : Nat), xs.length = nb → nb ≤ 64 → (∀ x ∈ xs, x.length = 64 ∧ ∀ v ∈ x, -2048 ≤ v ∧ v < 2048) →
    2112 ≤ g → r = g * nb / 64 →
    33 * nb ≤ r ∧ (codeFrame xs r (64 - nb)).1.length = nb ∧
    (List.zipWith (fun x (m : Nat × Nat) => (bestForm x m.1 m.2).1) xs (codeFrame xs r (64 - nb)).1).sum +
      (codeFrame xs r (64 - nb)).2 = r ∧
    (6208 ≤ g → (∀ m ∈ (codeFrame xs r (64 - nb)).1, m = (0, 0)) ∧
      ∀ x ∈ xs, decodeBlock (encodeBlock x 0 0 (bestForm x 0 0).2) = x.map some))
end

