-- ==== Sys2Proof/Laws/State.lean ====
section
/-!
SUPPORT. One lemma per component of the state per basic update: what a register write, a send and a cycle leave as it was.
-/

namespace Sys2Proof.Machine

/-! ### A register field written -/

@[simp] theorem State.setF_tick (s : State) (f : Fld) (v : Nat) : (s.setF f v).tick = s.tick := rfl
@[simp] theorem State.setF_cyc (s : State) (f : Fld) (v : Nat) : (s.setF f v).cyc = s.cyc := rfl
@[simp] theorem State.setF_now (s : State) (f : Fld) (v : Nat) : (s.setF f v).now = s.now := rfl
@[simp] theorem State.setF_freeCount (s : State) (f : Fld) (v : Nat) : (s.setF f v).freeCount = s.freeCount := rfl
@[simp] theorem State.setF_time (s : State) (f : Fld) (v : Nat) : (s.setF f v).time = s.time := rfl
@[simp] theorem State.setF_sched (s : State) (f : Fld) (v : Nat) : (s.setF f v).sched = s.sched := rfl
@[simp] theorem State.setF_nv (s : State) (f : Fld) (v : Nat) : (s.setF f v).nv = s.nv := rfl
@[simp] theorem State.setF_mgt (s : State) (f : Fld) (v : Nat) : (s.setF f v).mgt = s.mgt := rfl
@[simp] theorem State.setF_sec (s : State) (f : Fld) (v : Nat) : (s.setF f v).sec = s.sec := rfl
@[simp] theorem State.setF_evt (s : State) (f : Fld) (v : Nat) : (s.setF f v).evt = s.evt := rfl
@[simp] theorem State.setF_host (s : State) (f : Fld) (v : Nat) : (s.setF f v).host = s.host := rfl
@[simp] theorem State.setF_dev (s : State) (f : Fld) (v : Nat) : (s.setF f v).dev = s.dev := rfl
@[simp] theorem State.setF_bst (s : State) (f : Fld) (v : Nat) : (s.setF f v).bst = s.bst := rfl
@[simp] theorem State.setF_cnv (s : State) (f : Fld) (v : Nat) : (s.setF f v).cnv = s.cnv := rfl
@[simp] theorem State.setF_cal (s : State) (f : Fld) (v : Nat) : (s.setF f v).cal = s.cal := rfl
@[simp] theorem State.setF_trg (s : State) (f : Fld) (v : Nat) : (s.setF f v).trg = s.trg := rfl
@[simp] theorem State.setF_acq (s : State) (f : Fld) (v : Nat) : (s.setF f v).acq = s.acq := rfl
@[simp] theorem State.setF_acc (s : State) (f : Fld) (v : Nat) : (s.setF f v).acc = s.acc := rfl
@[simp] theorem State.setF_ens (s : State) (f : Fld) (v : Nat) : (s.setF f v).ens = s.ens := rfl
@[simp] theorem State.setF_mem (s : State) (f : Fld) (v : Nat) : (s.setF f v).mem = s.mem := rfl
@[simp] theorem State.setF_rdo (s : State) (f : Fld) (v : Nat) : (s.setF f v).rdo = s.rdo := rfl
@[simp] theorem State.setF_dsp (s : State) (f : Fld) (v : Nat) : (s.setF f v).dsp = s.dsp := rfl
@[simp] theorem State.setF_seq (s : State) (f : Fld) (v : Nat) : (s.setF f v).seq = s.seq := rfl
@[simp] theorem State.setF_out (s : State) (f : Fld) (v : Nat) : (s.setF f v).out = s.out := rfl
@[simp] theorem State.setF_pending (s : State) (f : Fld) (v : Nat) : (s.setF f v).pending = s.pending := rfl

/-! ### A counter raised -/

@[simp] theorem State.bumpF_tick (s : State) (f : Fld) (n : Nat) : (s.bumpF f n).tick = s.tick := rfl
@[simp] theorem State.bumpF_cyc (s : State) (f : Fld) (n : Nat) : (s.bumpF f n).cyc = s.cyc := rfl
@[simp] theorem State.bumpF_now (s : State) (f : Fld) (n : Nat) : (s.bumpF f n).now = s.now := rfl
@[simp] theorem State.bumpF_freeCount (s : State) (f : Fld) (n : Nat) : (s.bumpF f n).freeCount = s.freeCount := rfl
@[simp] theorem State.bumpF_time (s : State) (f : Fld) (n : Nat) : (s.bumpF f n).time = s.time := rfl
@[simp] theorem State.bumpF_sched (s : State) (f : Fld) (n : Nat) : (s.bumpF f n).sched = s.sched := rfl
@[simp] theorem State.bumpF_nv (s : State) (f : Fld) (n : Nat) : (s.bumpF f n).nv = s.nv := rfl
@[simp] theorem State.bumpF_mgt (s : State) (f : Fld) (n : Nat) : (s.bumpF f n).mgt = s.mgt := rfl
@[simp] theorem State.bumpF_sec (s : State) (f : Fld) (n : Nat) : (s.bumpF f n).sec = s.sec := rfl
@[simp] theorem State.bumpF_evt (s : State) (f : Fld) (n : Nat) : (s.bumpF f n).evt = s.evt := rfl
@[simp] theorem State.bumpF_host (s : State) (f : Fld) (n : Nat) : (s.bumpF f n).host = s.host := rfl
@[simp] theorem State.bumpF_dev (s : State) (f : Fld) (n : Nat) : (s.bumpF f n).dev = s.dev := rfl
@[simp] theorem State.bumpF_bst (s : State) (f : Fld) (n : Nat) : (s.bumpF f n).bst = s.bst := rfl
@[simp] theorem State.bumpF_cnv (s : State) (f : Fld) (n : Nat) : (s.bumpF f n).cnv = s.cnv := rfl
@[simp] theorem State.bumpF_cal (s : State) (f : Fld) (n : Nat) : (s.bumpF f n).cal = s.cal := rfl
@[simp] theorem State.bumpF_trg (s : State) (f : Fld) (n : Nat) : (s.bumpF f n).trg = s.trg := rfl
@[simp] theorem State.bumpF_acq (s : State) (f : Fld) (n : Nat) : (s.bumpF f n).acq = s.acq := rfl
@[simp] theorem State.bumpF_acc (s : State) (f : Fld) (n : Nat) : (s.bumpF f n).acc = s.acc := rfl
@[simp] theorem State.bumpF_ens (s : State) (f : Fld) (n : Nat) : (s.bumpF f n).ens = s.ens := rfl
@[simp] theorem State.bumpF_mem (s : State) (f : Fld) (n : Nat) : (s.bumpF f n).mem = s.mem := rfl
@[simp] theorem State.bumpF_rdo (s : State) (f : Fld) (n : Nat) : (s.bumpF f n).rdo = s.rdo := rfl
@[simp] theorem State.bumpF_dsp (s : State) (f : Fld) (n : Nat) : (s.bumpF f n).dsp = s.dsp := rfl
@[simp] theorem State.bumpF_seq (s : State) (f : Fld) (n : Nat) : (s.bumpF f n).seq = s.seq := rfl
@[simp] theorem State.bumpF_out (s : State) (f : Fld) (n : Nat) : (s.bumpF f n).out = s.out := rfl
@[simp] theorem State.bumpF_pending (s : State) (f : Fld) (n : Nat) : (s.bumpF f n).pending = s.pending := rfl

/-! ### A wrapping counter raised -/

@[simp] theorem State.wrapF_tick (s : State) (f : Fld) (n : Nat) : (s.wrapF f n).tick = s.tick := rfl
@[simp] theorem State.wrapF_cyc (s : State) (f : Fld) (n : Nat) : (s.wrapF f n).cyc = s.cyc := rfl
@[simp] theorem State.wrapF_now (s : State) (f : Fld) (n : Nat) : (s.wrapF f n).now = s.now := rfl
@[simp] theorem State.wrapF_freeCount (s : State) (f : Fld) (n : Nat) : (s.wrapF f n).freeCount = s.freeCount := rfl
@[simp] theorem State.wrapF_time (s : State) (f : Fld) (n : Nat) : (s.wrapF f n).time = s.time := rfl
@[simp] theorem State.wrapF_sched (s : State) (f : Fld) (n : Nat) : (s.wrapF f n).sched = s.sched := rfl
@[simp] theorem State.wrapF_nv (s : State) (f : Fld) (n : Nat) : (s.wrapF f n).nv = s.nv := rfl
@[simp] theorem State.wrapF_mgt (s : State) (f : Fld) (n : Nat) : (s.wrapF f n).mgt = s.mgt := rfl
@[simp] theorem State.wrapF_sec (s : State) (f : Fld) (n : Nat) : (s.wrapF f n).sec = s.sec := rfl
@[simp] theorem State.wrapF_evt (s : State) (f : Fld) (n : Nat) : (s.wrapF f n).evt = s.evt := rfl
@[simp] theorem State.wrapF_host (s : State) (f : Fld) (n : Nat) : (s.wrapF f n).host = s.host := rfl
@[simp] theorem State.wrapF_dev (s : State) (f : Fld) (n : Nat) : (s.wrapF f n).dev = s.dev := rfl
@[simp] theorem State.wrapF_bst (s : State) (f : Fld) (n : Nat) : (s.wrapF f n).bst = s.bst := rfl
@[simp] theorem State.wrapF_cnv (s : State) (f : Fld) (n : Nat) : (s.wrapF f n).cnv = s.cnv := rfl
@[simp] theorem State.wrapF_cal (s : State) (f : Fld) (n : Nat) : (s.wrapF f n).cal = s.cal := rfl
@[simp] theorem State.wrapF_trg (s : State) (f : Fld) (n : Nat) : (s.wrapF f n).trg = s.trg := rfl
@[simp] theorem State.wrapF_acq (s : State) (f : Fld) (n : Nat) : (s.wrapF f n).acq = s.acq := rfl
@[simp] theorem State.wrapF_acc (s : State) (f : Fld) (n : Nat) : (s.wrapF f n).acc = s.acc := rfl
@[simp] theorem State.wrapF_ens (s : State) (f : Fld) (n : Nat) : (s.wrapF f n).ens = s.ens := rfl
@[simp] theorem State.wrapF_mem (s : State) (f : Fld) (n : Nat) : (s.wrapF f n).mem = s.mem := rfl
@[simp] theorem State.wrapF_rdo (s : State) (f : Fld) (n : Nat) : (s.wrapF f n).rdo = s.rdo := rfl
@[simp] theorem State.wrapF_dsp (s : State) (f : Fld) (n : Nat) : (s.wrapF f n).dsp = s.dsp := rfl
@[simp] theorem State.wrapF_seq (s : State) (f : Fld) (n : Nat) : (s.wrapF f n).seq = s.seq := rfl
@[simp] theorem State.wrapF_out (s : State) (f : Fld) (n : Nat) : (s.wrapF f n).out = s.out := rfl
@[simp] theorem State.wrapF_pending (s : State) (f : Fld) (n : Nat) : (s.wrapF f n).pending = s.pending := rfl

/-! ### A one-bit field written -/

@[simp] theorem State.setB_tick (s : State) (f : Fld) (b : Bool) : (s.setB f b).tick = s.tick := rfl
@[simp] theorem State.setB_cyc (s : State) (f : Fld) (b : Bool) : (s.setB f b).cyc = s.cyc := rfl
@[simp] theorem State.setB_now (s : State) (f : Fld) (b : Bool) : (s.setB f b).now = s.now := rfl
@[simp] theorem State.setB_freeCount (s : State) (f : Fld) (b : Bool) : (s.setB f b).freeCount = s.freeCount := rfl
@[simp] theorem State.setB_time (s : State) (f : Fld) (b : Bool) : (s.setB f b).time = s.time := rfl
@[simp] theorem State.setB_sched (s : State) (f : Fld) (b : Bool) : (s.setB f b).sched = s.sched := rfl
@[simp] theorem State.setB_nv (s : State) (f : Fld) (b : Bool) : (s.setB f b).nv = s.nv := rfl
@[simp] theorem State.setB_mgt (s : State) (f : Fld) (b : Bool) : (s.setB f b).mgt = s.mgt := rfl
@[simp] theorem State.setB_sec (s : State) (f : Fld) (b : Bool) : (s.setB f b).sec = s.sec := rfl
@[simp] theorem State.setB_evt (s : State) (f : Fld) (b : Bool) : (s.setB f b).evt = s.evt := rfl
@[simp] theorem State.setB_host (s : State) (f : Fld) (b : Bool) : (s.setB f b).host = s.host := rfl
@[simp] theorem State.setB_dev (s : State) (f : Fld) (b : Bool) : (s.setB f b).dev = s.dev := rfl
@[simp] theorem State.setB_bst (s : State) (f : Fld) (b : Bool) : (s.setB f b).bst = s.bst := rfl
@[simp] theorem State.setB_cnv (s : State) (f : Fld) (b : Bool) : (s.setB f b).cnv = s.cnv := rfl
@[simp] theorem State.setB_cal (s : State) (f : Fld) (b : Bool) : (s.setB f b).cal = s.cal := rfl
@[simp] theorem State.setB_trg (s : State) (f : Fld) (b : Bool) : (s.setB f b).trg = s.trg := rfl
@[simp] theorem State.setB_acq (s : State) (f : Fld) (b : Bool) : (s.setB f b).acq = s.acq := rfl
@[simp] theorem State.setB_acc (s : State) (f : Fld) (b : Bool) : (s.setB f b).acc = s.acc := rfl
@[simp] theorem State.setB_ens (s : State) (f : Fld) (b : Bool) : (s.setB f b).ens = s.ens := rfl
@[simp] theorem State.setB_mem (s : State) (f : Fld) (b : Bool) : (s.setB f b).mem = s.mem := rfl
@[simp] theorem State.setB_rdo (s : State) (f : Fld) (b : Bool) : (s.setB f b).rdo = s.rdo := rfl
@[simp] theorem State.setB_dsp (s : State) (f : Fld) (b : Bool) : (s.setB f b).dsp = s.dsp := rfl
@[simp] theorem State.setB_seq (s : State) (f : Fld) (b : Bool) : (s.setB f b).seq = s.seq := rfl
@[simp] theorem State.setB_out (s : State) (f : Fld) (b : Bool) : (s.setB f b).out = s.out := rfl
@[simp] theorem State.setB_pending (s : State) (f : Fld) (b : Bool) : (s.setB f b).pending = s.pending := rfl

/-! ### A signed field written -/

@[simp] theorem State.setS_tick (s : State) (f : Fld) (i : Int) : (s.setS f i).tick = s.tick := rfl
@[simp] theorem State.setS_cyc (s : State) (f : Fld) (i : Int) : (s.setS f i).cyc = s.cyc := rfl
@[simp] theorem State.setS_now (s : State) (f : Fld) (i : Int) : (s.setS f i).now = s.now := rfl
@[simp] theorem State.setS_freeCount (s : State) (f : Fld) (i : Int) : (s.setS f i).freeCount = s.freeCount := rfl
@[simp] theorem State.setS_time (s : State) (f : Fld) (i : Int) : (s.setS f i).time = s.time := rfl
@[simp] theorem State.setS_sched (s : State) (f : Fld) (i : Int) : (s.setS f i).sched = s.sched := rfl
@[simp] theorem State.setS_nv (s : State) (f : Fld) (i : Int) : (s.setS f i).nv = s.nv := rfl
@[simp] theorem State.setS_mgt (s : State) (f : Fld) (i : Int) : (s.setS f i).mgt = s.mgt := rfl
@[simp] theorem State.setS_sec (s : State) (f : Fld) (i : Int) : (s.setS f i).sec = s.sec := rfl
@[simp] theorem State.setS_evt (s : State) (f : Fld) (i : Int) : (s.setS f i).evt = s.evt := rfl
@[simp] theorem State.setS_host (s : State) (f : Fld) (i : Int) : (s.setS f i).host = s.host := rfl
@[simp] theorem State.setS_dev (s : State) (f : Fld) (i : Int) : (s.setS f i).dev = s.dev := rfl
@[simp] theorem State.setS_bst (s : State) (f : Fld) (i : Int) : (s.setS f i).bst = s.bst := rfl
@[simp] theorem State.setS_cnv (s : State) (f : Fld) (i : Int) : (s.setS f i).cnv = s.cnv := rfl
@[simp] theorem State.setS_cal (s : State) (f : Fld) (i : Int) : (s.setS f i).cal = s.cal := rfl
@[simp] theorem State.setS_trg (s : State) (f : Fld) (i : Int) : (s.setS f i).trg = s.trg := rfl
@[simp] theorem State.setS_acq (s : State) (f : Fld) (i : Int) : (s.setS f i).acq = s.acq := rfl
@[simp] theorem State.setS_acc (s : State) (f : Fld) (i : Int) : (s.setS f i).acc = s.acc := rfl
@[simp] theorem State.setS_ens (s : State) (f : Fld) (i : Int) : (s.setS f i).ens = s.ens := rfl
@[simp] theorem State.setS_mem (s : State) (f : Fld) (i : Int) : (s.setS f i).mem = s.mem := rfl
@[simp] theorem State.setS_rdo (s : State) (f : Fld) (i : Int) : (s.setS f i).rdo = s.rdo := rfl
@[simp] theorem State.setS_dsp (s : State) (f : Fld) (i : Int) : (s.setS f i).dsp = s.dsp := rfl
@[simp] theorem State.setS_seq (s : State) (f : Fld) (i : Int) : (s.setS f i).seq = s.seq := rfl
@[simp] theorem State.setS_out (s : State) (f : Fld) (i : Int) : (s.setS f i).out = s.out := rfl
@[simp] theorem State.setS_pending (s : State) (f : Fld) (i : Int) : (s.setS f i).pending = s.pending := rfl

/-! ### Something sent -/

@[simp] theorem State.emit_tick (s : State) (x : Out) : (s.emit x).tick = s.tick := rfl
@[simp] theorem State.emit_cyc (s : State) (x : Out) : (s.emit x).cyc = s.cyc := rfl
@[simp] theorem State.emit_now (s : State) (x : Out) : (s.emit x).now = s.now := rfl
@[simp] theorem State.emit_freeCount (s : State) (x : Out) : (s.emit x).freeCount = s.freeCount := rfl
@[simp] theorem State.emit_time (s : State) (x : Out) : (s.emit x).time = s.time := rfl
@[simp] theorem State.emit_sched (s : State) (x : Out) : (s.emit x).sched = s.sched := rfl
@[simp] theorem State.emit_nv (s : State) (x : Out) : (s.emit x).nv = s.nv := rfl
@[simp] theorem State.emit_mgt (s : State) (x : Out) : (s.emit x).mgt = s.mgt := rfl
@[simp] theorem State.emit_sec (s : State) (x : Out) : (s.emit x).sec = s.sec := rfl
@[simp] theorem State.emit_evt (s : State) (x : Out) : (s.emit x).evt = s.evt := rfl
@[simp] theorem State.emit_host (s : State) (x : Out) : (s.emit x).host = s.host := rfl
@[simp] theorem State.emit_dev (s : State) (x : Out) : (s.emit x).dev = s.dev := rfl
@[simp] theorem State.emit_bst (s : State) (x : Out) : (s.emit x).bst = s.bst := rfl
@[simp] theorem State.emit_cnv (s : State) (x : Out) : (s.emit x).cnv = s.cnv := rfl
@[simp] theorem State.emit_cal (s : State) (x : Out) : (s.emit x).cal = s.cal := rfl
@[simp] theorem State.emit_trg (s : State) (x : Out) : (s.emit x).trg = s.trg := rfl
@[simp] theorem State.emit_acq (s : State) (x : Out) : (s.emit x).acq = s.acq := rfl
@[simp] theorem State.emit_acc (s : State) (x : Out) : (s.emit x).acc = s.acc := rfl
@[simp] theorem State.emit_ens (s : State) (x : Out) : (s.emit x).ens = s.ens := rfl
@[simp] theorem State.emit_mem (s : State) (x : Out) : (s.emit x).mem = s.mem := rfl
@[simp] theorem State.emit_rdo (s : State) (x : Out) : (s.emit x).rdo = s.rdo := rfl
@[simp] theorem State.emit_dsp (s : State) (x : Out) : (s.emit x).dsp = s.dsp := rfl
@[simp] theorem State.emit_seq (s : State) (x : Out) : (s.emit x).seq = s.seq := rfl
@[simp] theorem State.emit_pending (s : State) (x : Out) : (s.emit x).pending = s.pending := rfl
@[simp] theorem State.emit_regs (s : State) (x : Out) : (s.emit x).regs = s.regs := rfl

@[simp] theorem State.emit_out (s : State) (x : Out) : (s.emit x).out = x :: s.out := rfl

/-! ### Fields cleared -/

/-- Clearing fields changes the register file alone. -/
theorem State.clearFs_eq (fs : List Fld) : ∀ s : State, s.clearFs fs = { s with regs := (s.clearFs fs).regs } := by
  induction fs with
  | nil => intro s; rfl
  | cons f fs ih => intro s; exact ih (s.setF f 0)

@[simp] theorem State.clearFs_tick (s : State) (fs : List Fld) : (s.clearFs fs).tick = s.tick := by rw [State.clearFs_eq]
@[simp] theorem State.clearFs_cyc (s : State) (fs : List Fld) : (s.clearFs fs).cyc = s.cyc := by rw [State.clearFs_eq]
@[simp] theorem State.clearFs_now (s : State) (fs : List Fld) : (s.clearFs fs).now = s.now := by rw [State.clearFs_eq]
@[simp] theorem State.clearFs_freeCount (s : State) (fs : List Fld) : (s.clearFs fs).freeCount = s.freeCount := by rw [State.clearFs_eq]
@[simp] theorem State.clearFs_time (s : State) (fs : List Fld) : (s.clearFs fs).time = s.time := by rw [State.clearFs_eq]
@[simp] theorem State.clearFs_sched (s : State) (fs : List Fld) : (s.clearFs fs).sched = s.sched := by rw [State.clearFs_eq]
@[simp] theorem State.clearFs_nv (s : State) (fs : List Fld) : (s.clearFs fs).nv = s.nv := by rw [State.clearFs_eq]
@[simp] theorem State.clearFs_mgt (s : State) (fs : List Fld) : (s.clearFs fs).mgt = s.mgt := by rw [State.clearFs_eq]
@[simp] theorem State.clearFs_sec (s : State) (fs : List Fld) : (s.clearFs fs).sec = s.sec := by rw [State.clearFs_eq]
@[simp] theorem State.clearFs_evt (s : State) (fs : List Fld) : (s.clearFs fs).evt = s.evt := by rw [State.clearFs_eq]
@[simp] theorem State.clearFs_host (s : State) (fs : List Fld) : (s.clearFs fs).host = s.host := by rw [State.clearFs_eq]
@[simp] theorem State.clearFs_dev (s : State) (fs : List Fld) : (s.clearFs fs).dev = s.dev := by rw [State.clearFs_eq]
@[simp] theorem State.clearFs_bst (s : State) (fs : List Fld) : (s.clearFs fs).bst = s.bst := by rw [State.clearFs_eq]
@[simp] theorem State.clearFs_cnv (s : State) (fs : List Fld) : (s.clearFs fs).cnv = s.cnv := by rw [State.clearFs_eq]
@[simp] theorem State.clearFs_cal (s : State) (fs : List Fld) : (s.clearFs fs).cal = s.cal := by rw [State.clearFs_eq]
@[simp] theorem State.clearFs_trg (s : State) (fs : List Fld) : (s.clearFs fs).trg = s.trg := by rw [State.clearFs_eq]
@[simp] theorem State.clearFs_acq (s : State) (fs : List Fld) : (s.clearFs fs).acq = s.acq := by rw [State.clearFs_eq]
@[simp] theorem State.clearFs_acc (s : State) (fs : List Fld) : (s.clearFs fs).acc = s.acc := by rw [State.clearFs_eq]
@[simp] theorem State.clearFs_ens (s : State) (fs : List Fld) : (s.clearFs fs).ens = s.ens := by rw [State.clearFs_eq]
@[simp] theorem State.clearFs_mem (s : State) (fs : List Fld) : (s.clearFs fs).mem = s.mem := by rw [State.clearFs_eq]
@[simp] theorem State.clearFs_rdo (s : State) (fs : List Fld) : (s.clearFs fs).rdo = s.rdo := by rw [State.clearFs_eq]
@[simp] theorem State.clearFs_dsp (s : State) (fs : List Fld) : (s.clearFs fs).dsp = s.dsp := by rw [State.clearFs_eq]
@[simp] theorem State.clearFs_seq (s : State) (fs : List Fld) : (s.clearFs fs).seq = s.seq := by rw [State.clearFs_eq]
@[simp] theorem State.clearFs_out (s : State) (fs : List Fld) : (s.clearFs fs).out = s.out := by rw [State.clearFs_eq]
@[simp] theorem State.clearFs_pending (s : State) (fs : List Fld) : (s.clearFs fs).pending = s.pending := by rw [State.clearFs_eq]

/-! ### A cycle -/

@[simp] theorem State.advance_regs (s : State) : s.advance.regs = s.regs := by unfold State.advance; split <;> rfl
@[simp] theorem State.advance_freeCount (s : State) : s.advance.freeCount = s.freeCount := by unfold State.advance; split <;> rfl
@[simp] theorem State.advance_time (s : State) : s.advance.time = s.time := by unfold State.advance; split <;> rfl
@[simp] theorem State.advance_sched (s : State) : s.advance.sched = s.sched := by unfold State.advance; split <;> rfl
@[simp] theorem State.advance_nv (s : State) : s.advance.nv = s.nv := by unfold State.advance; split <;> rfl
@[simp] theorem State.advance_mgt (s : State) : s.advance.mgt = s.mgt := by unfold State.advance; split <;> rfl
@[simp] theorem State.advance_sec (s : State) : s.advance.sec = s.sec := by unfold State.advance; split <;> rfl
@[simp] theorem State.advance_evt (s : State) : s.advance.evt = s.evt := by unfold State.advance; split <;> rfl
@[simp] theorem State.advance_host (s : State) : s.advance.host = s.host := by unfold State.advance; split <;> rfl
@[simp] theorem State.advance_dev (s : State) : s.advance.dev = s.dev := by unfold State.advance; split <;> rfl
@[simp] theorem State.advance_bst (s : State) : s.advance.bst = s.bst := by unfold State.advance; split <;> rfl
@[simp] theorem State.advance_cnv (s : State) : s.advance.cnv = s.cnv := by unfold State.advance; split <;> rfl
@[simp] theorem State.advance_cal (s : State) : s.advance.cal = s.cal := by unfold State.advance; split <;> rfl
@[simp] theorem State.advance_trg (s : State) : s.advance.trg = s.trg := by unfold State.advance; split <;> rfl
@[simp] theorem State.advance_acq (s : State) : s.advance.acq = s.acq := by unfold State.advance; split <;> rfl
@[simp] theorem State.advance_acc (s : State) : s.advance.acc = s.acc := by unfold State.advance; split <;> rfl
@[simp] theorem State.advance_ens (s : State) : s.advance.ens = s.ens := by unfold State.advance; split <;> rfl
@[simp] theorem State.advance_mem (s : State) : s.advance.mem = s.mem := by unfold State.advance; split <;> rfl
@[simp] theorem State.advance_rdo (s : State) : s.advance.rdo = s.rdo := by unfold State.advance; split <;> rfl
@[simp] theorem State.advance_dsp (s : State) : s.advance.dsp = s.dsp := by unfold State.advance; split <;> rfl
@[simp] theorem State.advance_seq (s : State) : s.advance.seq = s.seq := by unfold State.advance; split <;> rfl
@[simp] theorem State.advance_out (s : State) : s.advance.out = s.out := by unfold State.advance; split <;> rfl
@[simp] theorem State.advance_pending (s : State) : s.advance.pending = s.pending := by unfold State.advance; split <;> rfl
@[simp] theorem State.advance_now (s : State) : s.advance.now = s.now + 1 := by unfold State.advance; split <;> rfl

end Sys2Proof.Machine
end

