-- ==== Sys2Proof/Laws/Tables.lean ====
section
/-!
SUPPORT. Sparse tables: what a write does to every key, and that it keeps the canonical form. Register fields: what a field
write does to every field.
-/

namespace Sys2Proof.Machine

variable {α : Type}

/-! ### Reads after writes -/

theorem Tbl.get_erase_same (d : α) (t : Tbl α) (k : Nat) : Tbl.get d (Tbl.erase t k) k = d := by
  induction t with
  | nil => rfl
  | cons e t ih =>
    simp only [Tbl.erase, List.filter_cons] at ih ⊢
    by_cases h : e.1 = k
    · simpa [h] using ih
    · simpa [h, Tbl.get] using ih

theorem Tbl.get_erase_ne (d : α) (t : Tbl α) (k j : Nat) (h : j ≠ k) :
    Tbl.get d (Tbl.erase t k) j = Tbl.get d t j := by
  induction t with
  | nil => rfl
  | cons e t ih =>
    simp only [Tbl.erase, List.filter_cons] at ih ⊢
    by_cases hk : e.1 = k
    · have : ¬ e.1 = j := fun x => h (x.symm.trans hk)
      simp only [hk, bne_self_eq_false, Bool.false_eq_true, ↓reduceIte, ih, Tbl.get]
      simp [show ¬ k = j from fun x => h x.symm]
    · simp [hk, Tbl.get, ih]

theorem Tbl.get_insert_same (d : α) (t : Tbl α) (k : Nat) (v : α) (h : ∀ e ∈ t, e.1 ≠ k) :
    Tbl.get d (Tbl.insert k v t) k = v := by
  induction t with
  | nil => simp [Tbl.insert, Tbl.get]
  | cons e t ih =>
    have h1 : e.1 ≠ k := h e (by simp)
    have h2 := ih fun x hx => h x (by simp [hx])
    simp only [Tbl.insert]
    split
    · simp [Tbl.get]
    · simp [Tbl.get, h1, h2]

theorem Tbl.get_insert_ne (d : α) (t : Tbl α) (k j : Nat) (v : α) (h : j ≠ k) :
    Tbl.get d (Tbl.insert k v t) j = Tbl.get d t j := by
  induction t with
  | nil => simp [Tbl.insert, Tbl.get, Ne.symm h]
  | cons e t ih =>
    simp only [Tbl.insert]
    split
    · simp [Tbl.get, Ne.symm h]
    · simp [Tbl.get, ih]

theorem Tbl.erase_ne (t : Tbl α) (k : Nat) : ∀ e ∈ Tbl.erase t k, e.1 ≠ k := by
  intro e he
  simpa [Tbl.erase] using (List.mem_filter.mp he).2

/-- The key written holds the value written. -/
@[simp] theorem Tbl.get_set_same [DecidableEq α] (d : α) (t : Tbl α) (k : Nat) (v : α) :
    Tbl.get d (Tbl.set d t k v) k = v := by
  unfold Tbl.set
  split
  · next h => rw [h]; exact Tbl.get_erase_same d t k
  · exact Tbl.get_insert_same d _ k v (Tbl.erase_ne t k)

/-- Every other key holds what it held. -/
theorem Tbl.get_set_ne [DecidableEq α] (d d' : α) (t : Tbl α) (k j : Nat) (v : α) (h : j ≠ k) :
    Tbl.get d (Tbl.set d' t k v) j = Tbl.get d t j := by
  unfold Tbl.set
  split
  · exact Tbl.get_erase_ne d t k j h
  · rw [Tbl.get_insert_ne d _ k j v h, Tbl.get_erase_ne d t k j h]

/-- What a table holds at any key after a write. -/
theorem Tbl.get_set [DecidableEq α] (d : α) (t : Tbl α) (k j : Nat) (v : α) :
    Tbl.get d (Tbl.set d t k v) j = if j = k then v else Tbl.get d t j := by
  split
  · next h => rw [h]; exact Tbl.get_set_same d t k v
  · next h => exact Tbl.get_set_ne d d t k j v h

/-! ### The canonical form -/

theorem Tbl.mem_insert (t : Tbl α) (k : Nat) (v : α) (e : Nat × α) : e ∈ Tbl.insert k v t ↔ e = (k, v) ∨ e ∈ t := by
  induction t with
  | nil => simp [Tbl.insert]
  | cons a t ih =>
    simp only [Tbl.insert]
    split
    · simp
    · simp only [List.mem_cons, ih]
      tauto

theorem Tbl.sorted_cons (e : Nat × α) (t : Tbl α) :
    Tbl.sorted (e :: t) = true ↔ (∀ x ∈ t, e.1 < x.1) ∧ Tbl.sorted t = true := by
  obtain ⟨a, b⟩ := e
  simp [Tbl.sorted, List.all_eq_true]

theorem Tbl.sorted_erase (t : Tbl α) (k : Nat) (h : Tbl.sorted t = true) : Tbl.sorted (Tbl.erase t k) = true := by
  induction t with
  | nil => rfl
  | cons e t ih =>
    rw [Tbl.sorted_cons] at h
    simp only [Tbl.erase, List.filter_cons] at ih ⊢
    split
    · rw [Tbl.sorted_cons]
      exact ⟨fun x hx => h.1 x (List.mem_filter.mp hx).1, ih h.2⟩
    · exact ih h.2

theorem Tbl.sorted_insert (t : Tbl α) (k : Nat) (v : α) (h : Tbl.sorted t = true) (hk : ∀ e ∈ t, e.1 ≠ k) :
    Tbl.sorted (Tbl.insert k v t) = true := by
  induction t with
  | nil => simp [Tbl.insert, Tbl.sorted]
  | cons e t ih =>
    have hs := (Tbl.sorted_cons e t).mp h
    have hne : e.1 ≠ k := hk e (by simp)
    simp only [Tbl.insert]
    split
    · next hlt =>
      rw [Tbl.sorted_cons]
      refine ⟨fun x hx => ?_, h⟩
      rcases List.mem_cons.mp hx with rfl | hx
      · exact hlt
      · exact lt_trans hlt (hs.1 x hx)
    · next hge =>
      rw [Tbl.sorted_cons]
      refine ⟨fun x hx => ?_, ih hs.2 fun x hx => hk x (by simp [hx])⟩
      rcases (Tbl.mem_insert t k v x).mp hx with rfl | hx
      · exact lt_of_le_of_ne (not_lt.mp hge) hne
      · exact hs.1 x hx

/-- A write keeps the keys strictly rising. -/
theorem Tbl.sorted_set [DecidableEq α] (d : α) (t : Tbl α) (k : Nat) (v : α) (h : Tbl.sorted t = true) :
    Tbl.sorted (Tbl.set d t k v) = true := by
  unfold Tbl.set
  split
  · exact Tbl.sorted_erase t k h
  · exact Tbl.sorted_insert _ k v (Tbl.sorted_erase t k h) (Tbl.erase_ne t k)

/-- A write keeps the canonical form. -/
theorem Tbl.wf_set [DecidableEq α] (d : α) (t : Tbl α) (k : Nat) (v : α) (h : Tbl.wf d t = true) :
    Tbl.wf d (Tbl.set d t k v) = true := by
  simp only [Tbl.wf, Bool.and_eq_true, List.all_eq_true, decide_eq_true_eq] at h ⊢
  refine ⟨Tbl.sorted_set d t k v h.1, fun e he => ?_⟩
  unfold Tbl.set at he
  split at he
  · exact h.2 e (List.mem_filter.mp he).1
  · next hv =>
    rcases (Tbl.mem_insert _ k v e).mp he with rfl | he
    · exact hv
    · exact h.2 e (List.mem_filter.mp he).1

/-! ### Register fields -/

/-- The field written reads the value, wrapped to its width. -/
@[simp] theorem State.fld_setF_same (s : State) (f : Fld) (v : Nat) : (s.setF f v).fld f = v % 2 ^ f.width :=
  Tbl.get_set_same _ _ _ _

/-- Every field that starts at another bit reads what it read. -/
theorem State.fld_setF_ne (s : State) (f g : Fld) (v : Nat) (h : g.addr ≠ f.addr) : (s.setF f v).fld g = s.fld g :=
  Tbl.get_set_ne _ _ _ _ _ _ h

/-- A field write keeps the register file in key order. -/
theorem State.setF_sorted (s : State) (f : Fld) (v : Nat) (h : Tbl.sorted s.regs = true) :
    Tbl.sorted (s.setF f v).regs = true :=
  Tbl.sorted_set _ _ _ _ h

/-- The register file after a counter is raised. -/
theorem State.bumpF_regs (s : State) (f : Fld) (n : Nat) :
    (s.bumpF f n).regs = if s.justCleared f then s.regs else (s.setF f (min (s.fld f + n) (2 ^ f.width - 1))).regs := rfl

theorem State.fld_bumpF_ne (s : State) (f g : Fld) (n : Nat) (h : g.addr ≠ f.addr) : (s.bumpF f n).fld g = s.fld g := by
  have k := State.fld_setF_ne s f g (min (s.fld f + n) (2 ^ f.width - 1)) h
  simp only [State.fld, State.bumpF_regs] at k ⊢
  split
  · rfl
  · exact k

theorem State.fld_wrapF_ne (s : State) (f g : Fld) (n : Nat) (h : g.addr ≠ f.addr) : (s.wrapF f n).fld g = s.fld g := by
  have k := State.fld_setF_ne s f g (s.fld f + n) h
  simp only [State.fld, State.wrapF] at k ⊢
  split
  · rfl
  · exact k

theorem State.fld_setB_ne (s : State) (f g : Fld) (b : Bool) (h : g.addr ≠ f.addr) : (s.setB f b).fld g = s.fld g :=
  State.fld_setF_ne s f g _ h

/-- A counter raised saturates at its width; a clear of the same fabric cycle takes precedence. -/
theorem State.fld_bumpF_same (s : State) (f : Fld) (n : Nat) :
    (s.bumpF f n).fld f = if s.justCleared f then s.fld f else min (s.fld f + n) (2 ^ f.width - 1) := by
  have h : min (s.fld f + n) (2 ^ f.width - 1) < 2 ^ f.width := by
    have := Nat.two_pow_pos f.width
    omega
  have k := State.fld_setF_same s f (min (s.fld f + n) (2 ^ f.width - 1))
  rw [Nat.mod_eq_of_lt h] at k
  simp only [State.fld, State.bumpF_regs] at k ⊢
  split
  · rfl
  · exact k

/-- Fields none of which starts at the bit of `g`: clearing them leaves `g`. -/
theorem State.fld_clearFs_ne (fs : List Fld) (g : Fld) : ∀ s : State, (∀ f ∈ fs, g.addr ≠ f.addr) →
    (s.clearFs fs).fld g = s.fld g := by
  induction fs with
  | nil => intro s _; rfl
  | cons f fs ih =>
    intro s h
    have h1 := ih (s.setF f 0) fun x hx => h x (by simp [hx])
    rw [State.fld_setF_ne s f g 0 (h f (by simp))] at h1
    exact h1

/-- A field among the cleared reads 0, where the fields of that bit are that field. -/
theorem State.fld_clearFs_mem (fs : List Fld) (g : Fld) (hg : g ∈ fs) (hu : ∀ f ∈ fs, f.addr = g.addr → f = g) :
    ∀ s : State, (s.clearFs fs).fld g = 0 := by
  induction fs with
  | nil => cases hg
  | cons f fs ih =>
    intro s
    by_cases hm : g ∈ fs
    · exact ih hm (fun x hx => hu x (by simp [hx])) (s.setF f 0)
    · have hf : f = g := by
        rcases List.mem_cons.mp hg with h | h
        · exact h.symm
        · exact absurd h hm
      have hne : ∀ x ∈ fs, g.addr ≠ x.addr := by
        intro x hx he
        have : x = g := hu x (by simp [hx]) he.symm
        exact hm (this ▸ hx)
      have h := State.fld_clearFs_ne fs g (s.setF f 0) hne
      rw [hf, State.fld_setF_same, Nat.zero_mod] at h
      rw [← hf] at h ⊢
      exact h

/-- A field among the cleared reads 0, where no two of them start at one bit. -/
theorem State.fld_clearFs_nodup (fs : List Fld) (h : (fs.map Fld.addr).Nodup) (g : Fld) (hg : g ∈ fs) (s : State) :
    (s.clearFs fs).fld g = 0 :=
  State.fld_clearFs_mem fs g hg (fun _ hf he => List.inj_on_of_nodup_map h hf hg he) s

/-- Numbers strictly rising, looked at in one pass. -/
def rising : List Nat → Bool
  | a :: b :: t => decide (a < b) && rising (b :: t)
  | _ => true

theorem rising_pairwise : ∀ l : List Nat, rising l = true → l.Pairwise (· < ·)
  | [], _ => .nil
  | [_], _ => List.pairwise_singleton _ _
  | a :: b :: t, h => by
    simp only [rising, Bool.and_eq_true, decide_eq_true_eq] at h
    have ih := rising_pairwise (b :: t) h.2
    refine List.pairwise_cons.mpr ⟨fun x hx => ?_, ih⟩
    rcases List.mem_cons.mp hx with rfl | hx
    · exact h.1
    · exact lt_trans h.1 ((List.pairwise_cons.mp ih).1 x hx)

/-- Numbers strictly rising are all different. -/
theorem rising_nodup (l : List Nat) (h : rising l = true) : l.Nodup := (rising_pairwise l h).imp fun hab => Nat.ne_of_lt hab

/-- Clearing fields keeps the register file in key order. -/
theorem State.clearFs_sorted (fs : List Fld) : ∀ s : State, Tbl.sorted s.regs = true → Tbl.sorted (s.clearFs fs).regs = true := by
  induction fs with
  | nil => intro s h; exact h
  | cons f fs ih => intro s h; exact ih _ (State.setF_sorted s f 0 h)

end Sys2Proof.Machine
end

