-- ==== Sys2Proof/Laws/Events.lean ====
section
/-!
SUPPORT. What the raising of an event can do (R411 to R414): the event registers, the staging buffer with its drop counter, the
messages pending and sent, and nothing else.
-/

namespace Sys2Proof.Machine

/-! ### Frames compose -/

theorem onlyRegs_refl (A : List Nat) (s : State) : onlyRegs A s s := ⟨fun _ _ => rfl, rfl⟩

theorem onlyReports_refl (A : List Nat) (s : State) : onlyReports A s s := ⟨fun _ _ _ => rfl, rfl⟩

theorem onlyReports_trans {A : List Nat} {s t u : State} (h : onlyReports A s t) (k : onlyReports A t u) :
    onlyReports A s u := by
  refine ⟨fun g hg hr => (k.1 g hg hr).trans (h.1 g hg hr), ?_⟩
  have h2 := h.2
  have k2 := k.2
  rw [← k2] at h2
  exact h2

theorem onlyReports_setF (A : List Nat) (s : State) (f : Fld) (v : Nat) (h : isReport f = true ∨ f.addr ∈ A) :
    onlyReports A s (s.setF f v) := by
  refine ⟨fun g hg hr => State.fld_setF_ne s f g v fun e => ?_, rfl⟩
  rcases h with h | h
  · simp only [isReport, e] at hr h
    rw [h] at hr
    cases hr
  · exact hg (e ▸ h)

theorem onlyReports_bumpF (A : List Nat) (s : State) (f : Fld) (n : Nat) (h : isReport f = true ∨ f.addr ∈ A) :
    onlyReports A s (s.bumpF f n) := by
  refine ⟨fun g hg hr => State.fld_bumpF_ne s f g n fun e => ?_, rfl⟩
  rcases h with h | h
  · simp only [isReport, e] at hr h
    rw [h] at hr
    cases hr
  · exact hg (e ▸ h)

/-- A change outside the register file of what reporting may touch. -/
theorem onlyReports_regs (A : List Nat) {s t : State} (h : t.regs = s.regs)
    (k : { t with regs := s.regs, mgt := s.mgt, host := s.host, evt := s.evt, out := s.out } = s) : onlyReports A s t :=
  ⟨fun g _ _ => by simp [State.fld, h], k⟩

/-- A frame seen from a later register write that it allows. -/
theorem onlyReports_weaken {A B : List Nat} {s t : State} (h : onlyReports A s t) (hs : ∀ a ∈ A, a ∈ B) : onlyReports B s t :=
  ⟨fun g hg hr => h.1 g (fun x => hg (hs _ x)) hr, h.2⟩

theorem onlyRegs_setF (A : List Nat) (s : State) (f : Fld) (v : Nat) (h : f.addr ∈ A) : onlyRegs A s (s.setF f v) :=
  ⟨fun g hg => State.fld_setF_ne s f g v fun e => hg (e ▸ h), rfl⟩

theorem onlyRegs_trans {A : List Nat} {s t u : State} (h : onlyRegs A s t) (k : onlyRegs A t u) : onlyRegs A s u := by
  refine ⟨fun g hg => (k.1 g hg).trans (h.1 g hg), ?_⟩
  have h2 := h.2
  rw [← k.2] at h2
  exact h2

theorem onlyRegs_clearFs (A : List Nat) (fs : List Fld) (s : State) (h : ∀ f ∈ fs, f.addr ∈ A) : onlyRegs A s (s.clearFs fs) :=
  ⟨fun g hg => State.fld_clearFs_ne fs g s fun f hf e => hg (e ▸ h f hf), by rw [State.clearFs_eq]⟩

theorem onlyReports_of_onlyRegs {A : List Nat} {s t : State} (h : onlyRegs A s t) : onlyReports A s t := by
  refine ⟨fun g hg _ => h.1 g hg, ?_⟩
  have h2 := congrArg (fun u : State => { u with mgt := s.mgt, host := s.host, evt := s.evt, out := s.out }) h.2
  exact h2

/-! ### The event block's fields -/

theorem isReport_status (i : Nat) (h : i < 8) : isReport (EVT.STATUS.STATUS i) = true := by
  simp only [isReport, EVT.STATUS.STATUS, Bool.or_eq_true, beq_iff_eq]
  omega

theorem isReport_count (n : Nat) (h : n < 256) : isReport (EVT.COUNT.COUNT n) = true := by
  simp only [isReport, EVT.COUNT.COUNT, Bool.or_eq_true, beq_iff_eq]
  omega

theorem isReport_kind (n : Nat) (h : n < 256) : isReport (EVT.DETAIL.KIND n) = true := by
  simp only [isReport, EVT.DETAIL.KIND, Bool.or_eq_true, beq_iff_eq]
  omega

theorem isReport_index (n : Nat) (h : n < 256) : isReport (EVT.DETAIL.INDEX n) = true := by
  simp only [isReport, EVT.DETAIL.INDEX, Bool.or_eq_true, beq_iff_eq]
  omega

theorem isReport_arg (n : Nat) (h : n < 256) : isReport (EVT.DETAIL.ARG n) = true := by
  simp only [isReport, EVT.DETAIL.ARG, Bool.or_eq_true, beq_iff_eq]
  omega

theorem isReport_lastTick (n : Nat) (h : n < 256) : isReport (EVT.LAST_TICK.TICK n) = true := by
  simp only [isReport, EVT.LAST_TICK.TICK, Bool.or_eq_true, beq_iff_eq]
  omega

/-! ### Its parts -/

theorem State.message_only (A : List Nat) (s : State) (v : Nat) : onlyReports A s (s.message v) := by
  unfold State.message
  split
  · exact onlyReports_refl A s
  · split
    · exact onlyReports_regs A rfl rfl
    · exact onlyReports_regs A rfl rfl

@[simp] theorem State.message_regs (s : State) (v : Nat) : (s.message v).regs = s.regs := by
  unfold State.message
  split
  · rfl
  · split <;> rfl

theorem onlyReports_evt (A : List Nat) (s : State) (e : EvtSt) : onlyReports A s { s with evt := e } := ⟨fun _ _ _ => rfl, rfl⟩

theorem State.tell_only (A : List Nat) (s : State) (n : Nat) : onlyReports A s (s.tell n) :=
  onlyReports_trans (onlyReports_evt A s _) (State.message_only A _ _)

@[simp] theorem State.tell_regs (s : State) (n : Nat) : (s.tell n).regs = s.regs := by simp [State.tell]

theorem State.announce_only (A : List Nat) (s : State) (was : Bool) (n : Nat) : onlyReports A s (s.announce was n) := by
  unfold State.announce
  split
  · exact State.tell_only A s _
  · exact onlyReports_refl A s

@[simp] theorem State.announce_regs (s : State) (was : Bool) (n : Nat) : (s.announce was n).regs = s.regs := by
  unfold State.announce
  split <;> simp

/-- Sending a message changes neither time nor what the event block knows of the occurrences. -/
theorem State.message_seen (s : State) (v : Nat) : (s.message v).evt = s.evt ∧ (s.message v).now = s.now := by
  unfold State.message
  split
  · exact ⟨rfl, rfl⟩
  · split <;> exact ⟨rfl, rfl⟩

theorem State.announce_seen (s : State) (was : Bool) (n : Nat) :
    (s.announce was n).evt.seen = s.evt.seen ∧ (s.announce was n).evt.kept = s.evt.kept ∧ (s.announce was n).now = s.now := by
  unfold State.announce
  split
  · unfold State.tell
    rw [(State.message_seen _ _).1, (State.message_seen _ _).2]
    exact ⟨rfl, rfl, rfl⟩
  · exact ⟨rfl, rfl, rfl⟩

theorem State.showDetail_only (A : List Nat) (s : State) (n k i a : Nat) (h : n < 256) : onlyReports A s (s.showDetail n k i a) := by
  have p3 : ∀ u v, onlyReports A u (u.setF (EVT.DETAIL.KIND n) v) := fun u v => onlyReports_setF A u _ v (.inl (isReport_kind n h))
  have p4 : ∀ u v, onlyReports A u (u.setF (EVT.DETAIL.INDEX n) v) := fun u v => onlyReports_setF A u _ v (.inl (isReport_index n h))
  have p5 : ∀ u v, onlyReports A u (u.setF (EVT.DETAIL.ARG n) v) := fun u v => onlyReports_setF A u _ v (.inl (isReport_arg n h))
  unfold State.showDetail
  split
  · exact onlyReports_refl A s
  · exact onlyReports_trans (p3 _ _) (onlyReports_trans (p4 _ _) (p5 _ _))

theorem State.showEvent_only (A : List Nat) (s : State) (n k i a : Nat) (h : n < 256) : onlyReports A s (s.showEvent n k i a) := by
  have p1 : ∀ u v, onlyReports A u (u.setF (EVT.STATUS.STATUS (n / 32)) v) :=
    fun u v => onlyReports_setF A u _ v (.inl (isReport_status (n / 32) (by omega)))
  have p2 : ∀ u, onlyReports A u (u.bumpF (EVT.COUNT.COUNT n) 1) :=
    fun u => onlyReports_bumpF A u _ _ (.inl (isReport_count n h))
  have p6 : ∀ u v, onlyReports A u (u.setF (EVT.LAST_TICK.TICK n) v) :=
    fun u v => onlyReports_setF A u _ v (.inl (isReport_lastTick n h))
  exact onlyReports_trans (State.showDetail_only A s n k i a h) (onlyReports_trans (p1 _ _) (onlyReports_trans (p2 _) (p6 _ _)))

theorem State.noteFirst_only (A : List Nat) (s : State) (n : Nat) : onlyReports A s (s.noteFirst n) := by
  unfold State.noteFirst
  split
  · have q1 : ∀ u : State, onlyReports A u (u.setF EVT.FIRST.SOURCE n) := fun u => onlyReports_setF A u _ n (.inl (by decide))
    have q2 : ∀ u : State, onlyReports A u (u.setF EVT.FIRST.VALID 1) := fun u => onlyReports_setF A u _ 1 (.inl (by decide))
    have q3 : ∀ (u : State) (v : Nat), onlyReports A u (u.setF EVT.FIRST_TICK_LO.TICK v) :=
      fun u v => onlyReports_setF A u _ v (.inl (by decide))
    exact onlyReports_trans (q1 _) (onlyReports_trans (q2 _) (onlyReports_trans (q3 _ _) (onlyReports_evt A _ _)))
  · exact onlyReports_refl A s

theorem State.latchEvent_only (A : List Nat) (s : State) (n k i a : Nat) (h : n < 256) :
    onlyReports A s (s.latchEvent n k i a) :=
  onlyReports_trans (State.showEvent_only A s n k i a h) (onlyReports_trans (onlyReports_evt A _ _) (State.noteFirst_only A _ _))

/-- FIRST takes the fault: every field outside it, and what the event block knows of the occurrences, stay. -/
theorem State.noteFirst_keeps (s : State) (n : Nat) :
    (∀ g : Fld, g.addr ≠ EVT.FIRST.SOURCE.addr → g.addr ≠ EVT.FIRST.VALID.addr → g.addr ≠ EVT.FIRST_TICK_LO.TICK.addr →
      (s.noteFirst n).fld g = s.fld g) ∧ (s.noteFirst n).evt.seen = s.evt.seen ∧ (s.noteFirst n).evt.kept = s.evt.kept ∧
      (s.noteFirst n).now = s.now := by
  unfold State.noteFirst
  split
  · refine ⟨fun g h1 h2 h3 => ?_, rfl, rfl, rfl⟩
    show State.fld (State.setF _ _ _) g = _
    rw [State.fld_setF_ne _ _ _ _ h3, State.fld_setF_ne _ _ _ _ h2, State.fld_setF_ne _ _ _ _ h1]
  · exact ⟨fun _ _ _ _ => rfl, rfl, rfl, rfl⟩

/-- What a latch shows, field by field, and what it notes. -/
theorem State.latchEvent_shows (s : State) (n k i a : Nat) :
    (∀ g : Fld, g.addr ≠ EVT.FIRST.SOURCE.addr → g.addr ≠ EVT.FIRST.VALID.addr → g.addr ≠ EVT.FIRST_TICK_LO.TICK.addr →
      (s.latchEvent n k i a).fld g = (s.showEvent n k i a).fld g) ∧
      (s.latchEvent n k i a).evt.seen = Tbl.set 0 s.evt.seen n (s.now + 1) ∧
      (s.latchEvent n k i a).evt.kept = Tbl.set 0 s.evt.kept n (if s.keepsDetail n i a then s.now + 1 else 0) ∧
      (s.latchEvent n k i a).now = s.now := by
  have h := State.noteFirst_keeps { s.showEvent n k i a with evt := s.noteSeen n i a } n
  have hw : (s.showEvent n k i a).now = s.now := by
    show (s.showDetail n k i a).now = s.now
    unfold State.showDetail
    split <;> rfl
  exact ⟨h.1, h.2.1, h.2.2.1, h.2.2.2.trans hw⟩

theorem State.dropEntry_only (A : List Nat) (s : State) : onlyReports A s s.dropEntry :=
  ⟨fun g hg hr => (onlyReports_bumpF A s MGT.LOG_STATUS.DROPPED 1 (.inl (by decide))).1 g hg hr, rfl⟩

theorem onlyReports_mgt (A : List Nat) (s : State) (m : MgtSt) : onlyReports A s { s with mgt := m } := ⟨fun _ _ _ => rfl, rfl⟩

theorem State.stageRaw_only (A : List Nat) (s : State) (typ source flags : Nat) (data : List Byte) :
    onlyReports A s (s.stageRaw typ source flags data) :=
  onlyReports_mgt A s _

theorem State.spendLog_only (A : List Nat) (s : State) (n : Nat) : onlyReports A s (s.spendLog n) := onlyReports_mgt A s _

theorem State.stageDropped_only (A : List Nat) (s : State) : onlyReports A s s.stageDropped := by
  unfold State.stageDropped
  split
  · simp only
    exact onlyReports_trans (State.spendLog_only A s 1) (onlyReports_trans (State.stageRaw_only A _ _ _ _ _) (onlyReports_mgt A _ _))
  · exact onlyReports_refl A s

theorem State.stageLimited_only (A : List Nat) (s : State) (typ source flags : Nat) (data : List Byte) :
    onlyReports A s (s.stageLimited typ source flags data).2 := by
  unfold State.stageLimited
  simp only
  refine onlyReports_trans (State.stageDropped_only A s) ?_
  generalize s.stageDropped = t
  split
  · exact onlyReports_trans (State.spendLog_only A t 1) (State.stageRaw_only A _ _ _ _ _)
  · exact onlyReports_trans (State.dropEntry_only A t) (onlyReports_mgt A _ _)

theorem State.logDropped_only (A : List Nat) (s : State) : onlyReports A s s.logDropped := by
  unfold State.logDropped
  simp only
  refine onlyReports_trans (State.latchEvent_only A s 240 0 0 0 (by decide)) ?_
  refine onlyReports_trans (State.announce_only A (s.latchEvent 240 0 0 0) (s.latched 240) 240) ?_
  split
  · exact State.dropEntry_only A _
  · exact onlyReports_refl A _

/-- An entry for the log: the staging buffer, and where it is dropped the drop counter and the log-dropped notice. -/
theorem State.logEntry_only (A : List Nat) (s : State) (typ source flags : Nat) (data : List Byte) :
    onlyReports A s (s.logEntry typ source flags data) := by
  unfold State.logEntry
  simp only
  split
  · exact onlyReports_trans (State.stageLimited_only A s typ source flags data) (State.logDropped_only A _)
  · exact State.stageLimited_only A s typ source flags data

theorem State.logEvent_only (A : List Nat) (s : State) (n k i a a2 : Nat) : onlyReports A s (s.logEvent n k i a a2) := by
  unfold State.logEvent
  split
  · exact State.logEntry_only A s _ _ _ _
  · exact onlyReports_refl A s

/-- The raising of an event changes the event registers, the staging buffer with its drop counter, and the messages pending and
sent: nothing else. -/
theorem State.raise_only (A : List Nat) (s : State) (n k i a a2 : Nat) (h : n < 256) : onlyReports A s (s.raise n k i a a2) := by
  unfold State.raise
  simp only
  exact onlyReports_trans (State.latchEvent_only A s n k i a h)
    (onlyReports_trans (State.announce_only A _ _ _) (State.logEvent_only A _ _ _ _ _ _))

/-! ### What it latches -/

/-- The bits of a number after one that was 0 is made 1. -/
theorem bitOf_add_two_pow (v i j : Nat) (h : bitOf v i = false) : bitOf (v + 2 ^ i) j = (decide (j = i) || bitOf v j) := by
  simp only [bitOf, beq_eq_false_iff_ne] at h ⊢
  have he : v / 2 ^ i % 2 = 0 := by omega
  rcases lt_trichotomy j i with hj | rfl | hj
  · have h1 : (2 : Nat) ^ i = 2 ^ j * (2 * 2 ^ (i - j - 1)) := by rw [← pow_succ', ← pow_add]; congr 1; omega
    rw [h1, Nat.add_mul_div_left _ _ (Nat.two_pow_pos j)]
    simp [show ¬ j = i by omega, Nat.add_mul_mod_self_left]
  · rw [Nat.add_div_right _ (Nat.two_pow_pos j)]
    simp
    omega
  · obtain ⟨d, rfl⟩ : ∃ d, j = i + (d + 1) := ⟨j - i - 1, by omega⟩
    have h2 : (v + 2 ^ i) / 2 ^ (i + (d + 1)) = v / 2 ^ (i + (d + 1)) := by
      rw [pow_add, pow_succ', ← Nat.div_div_eq_div_mul, ← Nat.div_div_eq_div_mul, ← Nat.div_div_eq_div_mul, ← Nat.div_div_eq_div_mul, Nat.add_div_right _ (Nat.two_pow_pos i)]
      congr 1
      omega
    rw [h2]
    simp

/-- The bits of a number after one of them is made 1. -/
theorem bitOf_withBit (v i j : Nat) : bitOf (withBit v i) j = (decide (j = i) || bitOf v j) := by
  unfold withBit
  split
  · next h => by_cases hj : j = i <;> simp [hj, h]
  · next h => exact bitOf_add_two_pow v i j (by simpa using h)

/-- The low bits of a number do not change when it wraps. -/
theorem bitOf_mod (v w j : Nat) (h : j < w) : bitOf (v % 2 ^ w) j = bitOf v j := by
  have key : ∀ x m : Nat, bitOf x m = x.testBit m := by
    intro x m
    simp [bitOf, Nat.testBit_eq_decide_div_mod_eq, beq_eq_decide]
  rw [key, key, Nat.testBit_mod_two_pow]
  simp [h]

/-- DETAIL taken leaves every other field. -/
theorem State.showDetail_ne (s : State) (n k i a : Nat) (g : Fld) (h1 : g.addr ≠ (EVT.DETAIL.KIND n).addr)
    (h2 : g.addr ≠ (EVT.DETAIL.INDEX n).addr) (h3 : g.addr ≠ (EVT.DETAIL.ARG n).addr) : (s.showDetail n k i a).fld g = s.fld g := by
  unfold State.showDetail
  split
  · rfl
  · rw [State.fld_setF_ne _ _ _ _ h3, State.fld_setF_ne _ _ _ _ h2, State.fld_setF_ne _ _ _ _ h1]

/-- A latch of source `n` sets its STATUS bit and clears none. -/
theorem State.latched_latchEvent (s : State) (n k i a m : Nat) (hn : n < 256) (hm : m < 256) :
    (s.latchEvent n k i a).latched m = (decide (m = n) || s.latched m) := by
  have hs : (s.latchEvent n k i a).fld (EVT.STATUS.STATUS (m / 32)) =
      ((s.showDetail n k i a).setF (EVT.STATUS.STATUS (n / 32)) (withBit ((s.showDetail n k i a).fld (EVT.STATUS.STATUS (n / 32)))
        (n % 32))).fld (EVT.STATUS.STATUS (m / 32)) := by
    rw [(State.latchEvent_shows s n k i a).1 _
      (by simp only [EVT.STATUS.STATUS, EVT.FIRST.SOURCE]; omega) (by simp only [EVT.STATUS.STATUS, EVT.FIRST.VALID]; omega)
      (by simp only [EVT.STATUS.STATUS, EVT.FIRST_TICK_LO.TICK]; omega)]
    unfold State.showEvent
    simp only
    rw [State.fld_setF_ne _ (EVT.LAST_TICK.TICK n) _ _ (by simp only [EVT.STATUS.STATUS, EVT.LAST_TICK.TICK]; omega),
      State.fld_bumpF_ne _ _ _ _ (by simp only [EVT.STATUS.STATUS, EVT.COUNT.COUNT]; omega)]
  have hd : ∀ j, (s.showDetail n k i a).fld (EVT.STATUS.STATUS (j / 32)) = s.fld (EVT.STATUS.STATUS (j / 32)) ∨ 256 ≤ j := by
    intro j
    by_cases hj : j < 256
    · exact .inl (State.showDetail_ne s n k i a _ (by simp only [EVT.STATUS.STATUS, EVT.DETAIL.KIND]; omega)
        (by simp only [EVT.STATUS.STATUS, EVT.DETAIL.INDEX]; omega) (by simp only [EVT.STATUS.STATUS, EVT.DETAIL.ARG]; omega))
    · exact .inr (by omega)
  have hdn := (hd n).resolve_right (by omega)
  have hdm := (hd m).resolve_right (by omega)
  simp only [State.latched, hs, hdn]
  by_cases hw : m / 32 = n / 32
  · rw [hw, State.fld_setF_same, show (EVT.STATUS.STATUS (n / 32)).width = 32 from rfl,
      bitOf_mod _ _ _ (Nat.mod_lt _ (by decide)), bitOf_withBit]
    congr 1
    simp only [decide_eq_decide]
    omega
  · rw [State.fld_setF_ne _ _ _ _ (by simp only [EVT.STATUS.STATUS]; omega), hdm]
    simp [show ¬ m = n by omega]

/-- DETAIL of source `n` after a latch is what taking it leaves there (R415). -/
theorem State.latchEvent_detail (s : State) (n k i a : Nat) (hn : n < 256) (g : Fld) (hg : g.addr = (EVT.DETAIL.KIND n).addr ∨
    g.addr = (EVT.DETAIL.INDEX n).addr ∨ g.addr = (EVT.DETAIL.ARG n).addr) :
    (s.latchEvent n k i a).fld g = (s.showDetail n k i a).fld g := by
  simp only [EVT.DETAIL.KIND, EVT.DETAIL.INDEX, EVT.DETAIL.ARG] at hg
  rw [(State.latchEvent_shows s n k i a).1 _ (by simp only [EVT.FIRST.SOURCE]; omega) (by simp only [EVT.FIRST.VALID]; omega)
    (by simp only [EVT.FIRST_TICK_LO.TICK]; omega)]
  unfold State.showEvent
  simp only
  rw [State.fld_setF_ne _ _ _ _ (by simp only [EVT.LAST_TICK.TICK]; omega), State.fld_bumpF_ne _ _ _ _ (by
    simp only [EVT.COUNT.COUNT]; omega), State.fld_setF_ne _ _ _ _ (by simp only [EVT.STATUS.STATUS]; omega)]

/-- What two states report of source `n` is the same when they show the same STATUS word and DETAIL and know the same of it. -/
theorem reported_of_same {n k i a : Nat} {s t : State}
    (h : ∀ g : Fld, g.addr = (EVT.STATUS.STATUS (n / 32)).addr ∨ g.addr = (EVT.DETAIL.KIND n).addr ∨
      g.addr = (EVT.DETAIL.INDEX n).addr ∨ g.addr = (EVT.DETAIL.ARG n).addr → t.fld g = s.fld g)
    (hs : Tbl.get 0 t.evt.seen n = Tbl.get 0 s.evt.seen n) (hk : Tbl.get 0 t.evt.kept n = Tbl.get 0 s.evt.kept n)
    (hn : t.now = s.now) (r : reported n k i a s) : reported n k i a t := by
  unfold reported at r ⊢
  simp only [State.latched, State.justSeen] at r ⊢
  rw [h (EVT.STATUS.STATUS (n / 32)) (.inl rfl), h (EVT.DETAIL.KIND n) (.inr (.inl rfl)), h (EVT.DETAIL.INDEX n) (.inr (.inr (.inl rfl))),
    h (EVT.DETAIL.ARG n) (.inr (.inr (.inr rfl))), hs, hk, hn]
  exact r

/-- An entry that falls to the rate limit leaves everything but the drop counter. -/
theorem State.dropEntry_fld (s : State) (g : Fld) (h : g.addr ≠ MGT.LOG_STATUS.DROPPED.addr) : s.dropEntry.fld g = s.fld g :=
  State.fld_bumpF_ne s MGT.LOG_STATUS.DROPPED g 1 h

/-- The log-dropped notice leaves what every other source reports. -/
theorem State.logDropped_keeps (s : State) (n k i a : Nat) (hn : n < 256) (h : n ≠ 240) (r : reported n k i a s) :
    reported n k i a s.logDropped := by
  -- its latch, told or not
  have base : ∀ u : State, u.regs = (s.latchEvent 240 0 0 0).regs → u.evt.seen = (s.latchEvent 240 0 0 0).evt.seen →
      u.evt.kept = (s.latchEvent 240 0 0 0).evt.kept → u.now = (s.latchEvent 240 0 0 0).now → reported n k i a u := by
    intro u hr hs hk hw
    have hl := State.latchEvent_shows s 240 0 0 0
    have hf : ∀ g : Fld, u.fld g = (s.latchEvent 240 0 0 0).fld g := fun g => by simp only [State.fld, hr]
    have hd : ∀ g : Fld, g.addr = (EVT.DETAIL.KIND n).addr ∨ g.addr = (EVT.DETAIL.INDEX n).addr ∨
        g.addr = (EVT.DETAIL.ARG n).addr → u.fld g = s.fld g := by
      intro g hg
      simp only [EVT.DETAIL.KIND, EVT.DETAIL.INDEX, EVT.DETAIL.ARG] at hg
      rw [hf, hl.1 _ (by simp only [EVT.FIRST.SOURCE]; omega) (by simp only [EVT.FIRST.VALID]; omega)
        (by simp only [EVT.FIRST_TICK_LO.TICK]; omega)]
      unfold State.showEvent
      simp only
      rw [State.fld_setF_ne _ _ _ _ (by simp only [EVT.LAST_TICK.TICK]; omega),
        State.fld_bumpF_ne _ _ _ _ (by simp only [EVT.COUNT.COUNT]; omega),
        State.fld_setF_ne _ _ _ _ (by simp only [EVT.STATUS.STATUS]; omega), State.showDetail_ne _ _ _ _ _ _ (by
          simp only [EVT.DETAIL.KIND]; omega) (by simp only [EVT.DETAIL.INDEX]; omega) (by simp only [EVT.DETAIL.ARG]; omega)]
    unfold reported at r ⊢
    refine ⟨?_, ?_, ?_⟩
    · have := State.latched_latchEvent s 240 0 0 0 n (by decide) hn
      simp only [State.latched, hf] at this ⊢
      rw [this]
      have r1 := r.1
      simp only [State.latched] at r1
      rw [r1]
      simp
    · have r2 := r.2.1
      simp only [State.justSeen] at r2 ⊢
      rw [hs, hw, hl.2.1, hl.2.2.2, Tbl.get_set_ne _ _ _ _ _ _ h]
      exact r2
    · rw [hd (EVT.DETAIL.KIND n) (.inl rfl), hd (EVT.DETAIL.INDEX n) (.inr (.inl rfl)), hd (EVT.DETAIL.ARG n) (.inr (.inr rfl)),
        hk, hw, hl.2.2.1, hl.2.2.2, Tbl.get_set_ne _ _ _ _ _ _ h]
      exact r.2.2
  have an := State.announce_seen (s.latchEvent 240 0 0 0) (s.latched 240) 240
  have b := base _ (State.announce_regs _ _ _) an.1 an.2.1 an.2.2
  unfold State.logDropped
  simp only
  split
  · exact reported_of_same (fun g hg => State.dropEntry_fld _ g (by
      simp only [EVT.STATUS.STATUS, EVT.DETAIL.KIND, EVT.DETAIL.INDEX, EVT.DETAIL.ARG, MGT.LOG_STATUS.DROPPED] at hg ⊢
      omega)) rfl rfl rfl b
  · exact b

@[simp] theorem State.stageRaw_regs (s : State) (typ source flags : Nat) (data : List Byte) :
    (s.stageRaw typ source flags data).regs = s.regs := rfl

@[simp] theorem State.spendLog_regs (s : State) (n : Nat) : (s.spendLog n).regs = s.regs := rfl

@[simp] theorem State.stageDropped_regs (s : State) : s.stageDropped.regs = s.regs := by
  have h : ∀ t : State, ({ t with mgt := { t.mgt with dropPend := 0 } } : State).regs = t.regs := fun _ => rfl
  have k : ∀ (P : Prop) [Decidable P] (a b c : State), a.regs = c.regs → b.regs = c.regs → (if P then a else b).regs = c.regs := by
    intro P _ a b c ha hb
    split
    · exact ha
    · exact hb
  unfold State.stageDropped
  exact k _ _ _ s ((h ((s.spendLog 1).stageRaw 5 0 (s.logFlags false) (le 4 s.mgt.dropPend))).trans
    ((State.stageRaw_regs _ _ _ _ _).trans (State.spendLog_regs s 1))) rfl

/-- A staged entry, or a dropped one, leaves every field but the drop counter. -/
theorem State.stageLimited_fld (s : State) (typ source flags : Nat) (data : List Byte) (g : Fld)
    (h : g.addr ≠ MGT.LOG_STATUS.DROPPED.addr) : (s.stageLimited typ source flags data).2.fld g = s.fld g := by
  have k : ∀ (b : Bool) (x y : Bool × State), x.2.fld g = s.fld g → y.2.fld g = s.fld g →
      (if b = true then x else y).2.fld g = s.fld g := by
    intro b x y hx hy
    cases b
    · exact hy
    · exact hx
  have m : ∀ (u : State) (v : MgtSt), ({ u with mgt := v } : State).fld g = u.fld g := fun _ _ => rfl
  have r : ∀ u v : State, u.regs = v.regs → u.fld g = v.fld g := by
    intro u v e
    simp only [State.fld, e]
  have hf : s.stageDropped.fld g = s.fld g := r _ _ (State.stageDropped_regs s)
  exact k _ _ _ ((r _ _ ((State.stageRaw_regs _ typ source flags data).trans (State.spendLog_regs s.stageDropped 1))).trans hf)
    ((m _ _).trans ((State.dropEntry_fld s.stageDropped g h).trans hf))

/-- Staging an entry, or dropping it, changes neither time nor what the event block knows of the occurrences. -/
theorem State.stageLimited_seen (s : State) (typ source flags : Nat) (data : List Byte) :
    (s.stageLimited typ source flags data).2.evt = s.evt ∧ (s.stageLimited typ source flags data).2.now = s.now := by
  have k : ∀ (P : Prop) [Decidable P] (x y : State), x.evt = s.evt ∧ x.now = s.now → y.evt = s.evt ∧ y.now = s.now →
      (if P then x else y).evt = s.evt ∧ (if P then x else y).now = s.now := by
    intro P _ x y hx hy
    split
    · exact hx
    · exact hy
  have m : ∀ (u : State) (v : MgtSt), u.evt = s.evt ∧ u.now = s.now →
      ({ u with mgt := v } : State).evt = s.evt ∧ ({ u with mgt := v } : State).now = s.now := fun _ _ h => h
  have st : ∀ (u : State) (typ source flags : Nat) (data : List Byte), u.evt = s.evt ∧ u.now = s.now →
      (u.stageRaw typ source flags data).evt = s.evt ∧ (u.stageRaw typ source flags data).now = s.now := fun u t c f d h => m u _ h
  have sp : ∀ (u : State) (n : Nat), u.evt = s.evt ∧ u.now = s.now → (u.spendLog n).evt = s.evt ∧ (u.spendLog n).now = s.now :=
    fun u n h => m u _ h
  have dr : ∀ u : State, u.evt = s.evt ∧ u.now = s.now → u.dropEntry.evt = s.evt ∧ u.dropEntry.now = s.now := fun u h => h
  have k2 : ∀ (b : Bool) (x y : Bool × State), x.2.evt = s.evt ∧ x.2.now = s.now → y.2.evt = s.evt ∧ y.2.now = s.now →
      (if b = true then x else y).2.evt = s.evt ∧ (if b = true then x else y).2.now = s.now := by
    intro b x y hx hy
    cases b
    · exact hy
    · exact hx
  have hd : s.stageDropped.evt = s.evt ∧ s.stageDropped.now = s.now :=
    k _ _ _ (m ((s.spendLog 1).stageRaw 5 0 (s.logFlags false) (le 4 s.mgt.dropPend)) _ (st _ _ _ _ _ (sp _ _ ⟨rfl, rfl⟩))) ⟨rfl, rfl⟩
  exact k2 _ _ _ (st _ _ _ _ _ (sp _ _ hd)) (m _ _ (dr _ hd))

/-- A latch is reported. -/
theorem State.latchEvent_reported (s : State) (n k i a : Nat) (hn : n < 256) (hk : k < 256) (hi : i < 256) (ha : a < 65536) :
    reported n k i a (s.latchEvent n k i a) := by
  have d := State.latchEvent_detail s n k i a hn
  have l := State.latchEvent_shows s n k i a
  refine ⟨?_, ?_, ?_⟩
  · rw [State.latched_latchEvent s n k i a n hn hn]; simp
  · simp only [State.justSeen, l.2.1, l.2.2.2, Tbl.get_set_same, beq_self_eq_true]
  · rw [d _ (.inl rfl), d _ (.inr (.inl rfl)), d _ (.inr (.inr rfl)), l.2.2.1, l.2.2.2, Tbl.get_set_same]
    unfold State.showDetail
    by_cases h : s.keepsDetail n i a = true
    · simp only [h, if_true]
      simp only [State.keepsDetail, Bool.and_eq_true, decide_eq_true_eq] at h
      exact h.2
    · simp only [h, Bool.false_eq_true, if_false]
      have hz : ¬ 0 = s.now + 1 := by omega
      simp only [hz, if_false]
      refine ⟨?_, ?_, ?_⟩
      · rw [State.fld_setF_ne _ _ _ _ (by simp only [EVT.DETAIL.KIND, EVT.DETAIL.ARG]; omega),
          State.fld_setF_ne _ _ _ _ (by simp only [EVT.DETAIL.KIND, EVT.DETAIL.INDEX]; omega), State.fld_setF_same]
        exact Nat.mod_eq_of_lt hk
      · rw [State.fld_setF_ne _ _ _ _ (by simp only [EVT.DETAIL.INDEX, EVT.DETAIL.ARG]; omega), State.fld_setF_same]
        exact Nat.mod_eq_of_lt hi
      · rw [State.fld_setF_same]
        exact Nat.mod_eq_of_lt ha

/-- A raised event is reported: its STATUS bit reads 1 and its detail registers show K, I and A. -/
theorem State.raise_reported (s : State) (n k i a a2 : Nat) (hn : n < 256) (h : n ≠ 240) (hk : k < 256) (hi : i < 256)
    (ha : a < 65536) : reported n k i a (s.raise n k i a a2) := by
  have an := State.announce_seen (s.latchEvent n k i a) (s.latched n) n
  have h0 : reported n k i a ((s.latchEvent n k i a).announce (s.latched n) n) :=
    reported_of_same (fun g _ => by simp only [State.fld, State.announce_regs]) (by rw [an.1]) (by rw [an.2.1]) an.2.2
      (State.latchEvent_reported s n k i a hn hk hi ha)
  unfold State.raise
  simp only
  unfold State.logEvent
  split
  · unfold State.logEntry
    simp only
    have sn := fun (u : State) d => State.stageLimited_seen u 1 n (u.logFlags (isFaultSource n)) d
    have h1 : ∀ d, reported n k i a ((((s.latchEvent n k i a).announce (s.latched n) n).stageLimited 1 n
        (((s.latchEvent n k i a).announce (s.latched n) n).logFlags (isFaultSource n)) d).2) := fun d =>
      reported_of_same (fun g hg => State.stageLimited_fld _ 1 n _ _ g (by
        simp only [EVT.STATUS.STATUS, EVT.DETAIL.KIND, EVT.DETAIL.INDEX, EVT.DETAIL.ARG, MGT.LOG_STATUS.DROPPED] at hg ⊢
        omega)) (by rw [(sn _ d).1]) (by rw [(sn _ d).1]) (sn _ d).2 h0
    split
    · exact State.logDropped_keeps _ n k i a hn h (h1 _)
    · exact h1 _
  · exact h0

end Sys2Proof.Machine
end

