-- ==== Sys2Proof/Laws/Memory.lean ====
section
/-!
SUPPORT. Device DRAM: every operation that writes it keeps its canonical form, a byte written is the byte read, and what the operations
leave as it was.
-/

namespace Sys2Proof.Machine

/-- Device DRAM is in its canonical form: keys rising, no zero byte listed. -/
def State.dramWf (s : State) : Bool := Tbl.wf 0 s.mem.bytes

@[simp] theorem State.reset_dramWf : State.reset.dramWf = true := rfl

/-! ### One byte -/

@[simp] theorem State.setDramByte_regs (s : State) (c a : Nat) (b : Byte) : (s.setDramByte c a b).regs = s.regs := rfl
@[simp] theorem State.setDramByte_ways (s : State) (c a : Nat) (b : Byte) : (s.setDramByte c a b).mem.ways = s.mem.ways := rfl
@[simp] theorem State.setDramByte_poison (s : State) (c a : Nat) (b : Byte) : (s.setDramByte c a b).mem.poison = s.mem.poison := rfl

theorem State.setDramByte_dramWf (s : State) (c a : Nat) (b : Byte) (h : s.dramWf = true) : (s.setDramByte c a b).dramWf = true :=
  Tbl.wf_set 0 _ _ _ h

/-- The byte written is read; every other byte reads as before. -/
theorem State.dramByte_setDramByte (s : State) (c a d e : Nat) (b : Byte) :
    (s.setDramByte c a b).dramByte d e = if 2 ^ 40 * d + e = 2 ^ 40 * c + a then b else s.dramByte d e :=
  Tbl.get_set 0 _ _ _ _

@[simp] theorem State.setDramByte_phys (s : State) (c a x : Nat) (b : Byte) : (s.setDramByte c a b).phys x = s.phys x := rfl

/-! ### Runs of bytes -/

@[simp] theorem State.poke_phys (s : State) (a x : Nat) (b : Byte) : (s.poke a b).phys x = s.phys x := by
  unfold State.poke
  split <;> rfl

@[simp] theorem State.poke_regs (s : State) (a : Nat) (b : Byte) : (s.poke a b).regs = s.regs := by
  unfold State.poke
  split <;> rfl

theorem State.poke_dramWf (s : State) (a : Nat) (b : Byte) (h : s.dramWf = true) : (s.poke a b).dramWf = true := by
  unfold State.poke
  split
  · exact s.setDramByte_dramWf _ _ _ h
  · exact h

@[simp] theorem State.pokeN_phys (bs : List Byte) : ∀ (s : State) (a x : Nat), (s.pokeN a bs).phys x = s.phys x := by
  induction bs with
  | nil => exact fun _ _ _ => rfl
  | cons b bs ih =>
    intro s a x
    simp only [State.pokeN, ih, State.poke_phys]

@[simp] theorem State.pokeN_regs (bs : List Byte) : ∀ (s : State) (a : Nat), (s.pokeN a bs).regs = s.regs := by
  induction bs with
  | nil => exact fun _ _ => rfl
  | cons b bs ih =>
    intro s a
    simp only [State.pokeN, ih, State.poke_regs]

theorem State.pokeN_dramWf (bs : List Byte) : ∀ (s : State) (a : Nat), s.dramWf = true → (s.pokeN a bs).dramWf = true := by
  induction bs with
  | nil => exact fun _ _ h => h
  | cons b bs ih => exact fun s a h => ih _ _ (s.poke_dramWf a b h)

/-! ### Poison, the picture, stores -/

@[simp] theorem State.setPoison_bytes (s : State) (c a : Nat) (p : Bool) : (s.setPoison c a p).mem.bytes = s.mem.bytes := by
  unfold State.setPoison
  split <;> rfl

@[simp] theorem State.poisonGranule_bytes (s : State) (c a : Nat) : (s.poisonGranule c a).mem.bytes = s.mem.bytes := by
  have all : ∀ (l : List Nat) (s : State),
      (l.foldl (fun (s : State) i => s.setPoison c (a / 4096 * 4096 + 64 * i) true) s).mem.bytes = s.mem.bytes := by
    intro l
    induction l with
    | nil => exact fun _ => rfl
    | cons i l ih => exact fun s => (ih _).trans (s.setPoison_bytes _ _ _)
  unfold State.poisonGranule
  generalize List.range 64 = l
  exact all l s

@[simp] theorem State.unpoison_bytes (s : State) (a len : Nat) : (s.unpoison a len).mem.bytes = s.mem.bytes := by
  have all : ∀ (l : List Nat) (k : Nat) (s : State), (l.foldl (fun (s : State) i => match s.phys (64 * (k + i)) with
      | some (c, b) => s.setPoison c b false
      | none => s) s).mem.bytes = s.mem.bytes := by
    intro l k
    induction l with
    | nil => exact fun _ => rfl
    | cons i l ih =>
      intro s
      refine (ih _).trans ?_
      dsimp only
      split
      · exact s.setPoison_bytes _ _ _
      · rfl
  exact all _ _ s

@[simp] theorem State.touchPicture_mem (s : State) (a len : Nat) : (s.touchPicture a len).mem = s.mem := by
  unfold State.touchPicture
  split <;> rfl

theorem State.store_dramWf (s : State) (a : Nat) (bs : List Byte) (pre : Nat) (h : s.dramWf = true) :
    (s.store a bs pre).dramWf = true := by
  simpa [State.store, State.dramWf] using State.pokeN_dramWf bs s a h

/-! ### Accesses (R253, R254, R262): meters and rows, no byte -/

@[simp] theorem State.drawMeter_bytes (s : State) (c req len : Nat) : (s.drawMeter c req len).mem.bytes = s.mem.bytes := by
  unfold State.drawMeter
  split <;> rfl

@[simp] theorem State.activate_bytes (s : State) (c n row req : Nat) : (s.activate c n row req).mem.bytes = s.mem.bytes := by
  unfold State.activate
  simp only
  split <;> rfl

@[simp] theorem State.touchRow_bytes (s : State) (c n row req : Nat) : (s.touchRow c n row req).mem.bytes = s.mem.bytes := by
  unfold State.touchRow
  simp only
  split
  · rfl
  · exact s.activate_bytes c n row req

/-- A walk over a list whose every step keeps the bytes keeps them. -/
theorem foldl_bytes {α : Type} (f : State → α → State) (h : ∀ s x, (f s x).mem.bytes = s.mem.bytes) :
    ∀ (l : List α) (s : State), (l.foldl f s).mem.bytes = s.mem.bytes
  | [], _ => rfl
  | x :: l, s => (foldl_bytes f h l (f s x)).trans (h s x)

@[simp] theorem State.access_bytes (s : State) (c b len req : Nat) (wr : Bool) : (s.access c b len req wr).mem.bytes = s.mem.bytes :=
  (foldl_bytes _ (fun _ _ => foldl_bytes _ (fun s _ => s.touchRow_bytes _ _ _ _) _ _) _ _).trans (s.drawMeter_bytes _ _ _)

/-! ### Writes by a requester -/

theorem onlyReports.bytes {A : List Nat} {s t : State} (h : onlyReports A s t) : t.mem.bytes = s.mem.bytes :=
  (congrArg (fun u : State => u.mem.bytes) h.2 : _)

@[simp] theorem State.raise_bytes (s : State) (n k i a a2 : Nat) (h : n < 256) : (s.raise n k i a a2).mem.bytes = s.mem.bytes :=
  (State.raise_only [] s n k i a a2 h).bytes

@[simp] theorem State.unmappedAccess_bytes (s : State) (req a : Nat) : (s.unmappedAccess req a).mem.bytes = s.mem.bytes := by
  have r : ∀ (u : State) (k i x y : Nat), (u.raise 4 k i x y).mem.bytes = u.mem.bytes :=
    fun u k i x y => u.raise_bytes 4 k i x y (by decide)
  unfold State.unmappedAccess
  split
  · exact r _ _ _ _ _
  · split
    · exact r _ _ _ _ _
    · split
      · exact r _ _ _ _ _
      · split
        · exact r _ _ _ _ _
        · exact r _ _ _ _ _

@[simp] theorem State.acknowledge_mem (s : State) (ack : Option (Nat × Nat × Nat)) : (s.acknowledge ack).mem = s.mem := by
  unfold State.acknowledge
  split <;> rfl

/-- A write made keeps the canonical form. -/
theorem State.serveWrite_dramWf (s : State) (req a : Nat) (bs : List Byte) (pre : Nat) (ack : Option (Nat × Nat × Nat))
    (h : s.dramWf = true) : (s.serveWrite req a bs pre ack).dramWf = true := by
  unfold State.serveWrite
  split
  · next c b _ =>
    have k := State.store_dramWf (s.access c b bs.length req true) a bs pre (by simpa [State.dramWf] using h)
    simpa [State.dramWf] using k
  · simpa [State.dramWf] using h

theorem State.writeGranule_dramWf (s : State) (req a : Nat) (bs : List Byte) (pre : Nat) (ack : Option (Nat × Nat × Nat))
    (h : s.dramWf = true) : (s.writeGranule req a bs pre ack).dramWf = true := by
  unfold State.writeGranule
  split
  · exact h
  · exact s.serveWrite_dramWf req a bs pre ack h

/-- A write by a requester, of any length, keeps the canonical form. -/
theorem State.dramWriteAfter_dramWf (s : State) (req a : Nat) (bs : List Byte) (pre : Nat) (h : s.dramWf = true) :
    (s.dramWriteAfter req a bs pre).dramWf = true := by
  have all : ∀ (n : Nat) (s : State) (a : Nat) (bs : List Byte) (pre : Nat), s.dramWf = true →
      (State.dramWriteGo n s req a bs pre).dramWf = true := by
    intro n
    induction n with
    | zero => exact fun _ _ _ _ h => h
    | succ n ih =>
      intro s a bs pre h
      simp only [State.dramWriteGo]
      split
      · exact h
      · exact ih _ _ _ _ (s.writeGranule_dramWf req a _ pre none h)
  exact all _ s a bs pre h

theorem State.dramWrite_dramWf (s : State) (req a : Nat) (bs : List Byte) (h : s.dramWf = true) : (s.dramWrite req a bs).dramWf = true :=
  s.dramWriteAfter_dramWf req a bs 0 h

end Sys2Proof.Machine
end

