-- ==== Sys2Proof/Laws/Messages.lean ====
section
/-!
SUPPORT. Byte lists: what `le` spells `ofLe` reads; a CRC-32 fits its 32 bits; a message read from its own bytes is that message.
-/

namespace Sys2Proof.Machine

@[simp] theorem le_length (n v : Nat) : (le n v).length = n := by
  induction n generalizing v with
  | zero => rfl
  | succ n ih => simp [le, ih]

theorem ofLe_le (n v : Nat) : ofLe (le n v) = v % 256 ^ n := by
  induction n generalizing v with
  | zero => simp [le, ofLe, Nat.mod_one]
  | succ n ih =>
    rw [le, ofLe, ih, BitVec.toNat_ofNat, pow_succ' 256 n, Nat.mod_mul (x := v) (a := 256)]

theorem xor_lt_two_pow_32 {a b : Nat} (ha : a < 2 ^ 32) (hb : b < 2 ^ 32) : Nat.xor a b < 2 ^ 32 := Nat.xor_lt_two_pow ha hb

theorem crcByteLsb_lt (poly crc : Nat) (b : Byte) (hp : poly < 2 ^ 32) (hc : crc < 2 ^ 32) : crcByteLsb poly crc b < 2 ^ 32 := by
  have step : ∀ c, c < 2 ^ 32 → (if c % 2 = 1 then Nat.xor (c / 2) poly else c / 2) < 2 ^ 32 := by
    intro c h
    split
    · exact xor_lt_two_pow_32 (by omega) hp
    · omega
  have all : ∀ l : List Nat, ∀ c, c < 2 ^ 32 →
      l.foldl (fun c _ => if c % 2 = 1 then Nat.xor (c / 2) poly else c / 2) c < 2 ^ 32 := by
    intro l
    induction l with
    | nil => exact fun _ h => h
    | cons _ l ih => exact fun c h => ih _ (step c h)
  have hb := b.isLt
  exact all _ _ (xor_lt_two_pow_32 hc (by omega))

/-- A CRC-32 has 32 bits. -/
theorem crc32_lt (bs : List Byte) : crc32 bs < 2 ^ 32 := by
  have all : ∀ (l : List Byte) (c : Nat), c < 2 ^ 32 → l.foldl (crcByteLsb 0xEDB88320) c < 2 ^ 32 := by
    intro l
    induction l with
    | nil => exact fun _ h => h
    | cons b l ih => exact fun c h => ih _ (crcByteLsb_lt _ _ _ (by decide) h)
  exact xor_lt_two_pow_32 (all _ _ (by decide)) (by decide)

/-- A message whose fields fit is read back from its own bytes (R221). -/
theorem readMsg_bytes (m : Msg) (ht : 1 ≤ m.typ ∧ m.typ ≤ 5) (hd : m.dst < 256) (hs : m.src < 256) (hh : m.hops < 256)
    (hq : m.seq < 2 ^ 15) (hc : m.copy ≤ 1) (hn : m.nblk = nblkOf m.typ) (hl : m.data.length = 8 * m.nblk - 4) :
    readMsg m.bytes = some m := by
  have hn3 : 3 ≤ m.nblk ∧ m.nblk ≤ 4 := by
    rw [hn]
    unfold nblkOf
    split <;> omega
  have hpad : padTo m.data (8 * m.nblk - 4) = m.data := by simp [padTo, ← hl]
  have hseq : (m.seq % 2 ^ 15 + 2 ^ 15 * m.copy) < 65536 := by omega
  have hbs : ∃ c, c = crc32 ([BitVec.ofNat 8 m.typ, BitVec.ofNat 8 m.dst, BitVec.ofNat 8 m.src, BitVec.ofNat 8 m.hops,
        BitVec.ofNat 8 (m.seq % 2 ^ 15 + 2 ^ 15 * m.copy), BitVec.ofNat 8 ((m.seq % 2 ^ 15 + 2 ^ 15 * m.copy) / 256),
        BitVec.ofNat 8 m.nblk] ++ m.data) ∧
      m.bytes = 0x66 :: BitVec.ofNat 8 m.typ :: BitVec.ofNat 8 m.dst :: BitVec.ofNat 8 m.src :: BitVec.ofNat 8 m.hops ::
        BitVec.ofNat 8 (m.seq % 2 ^ 15 + 2 ^ 15 * m.copy) :: BitVec.ofNat 8 ((m.seq % 2 ^ 15 + 2 ^ 15 * m.copy) / 256) ::
        BitVec.ofNat 8 m.nblk :: (m.data ++ le 4 c) := ⟨_, rfl, by simp [Msg.bytes, hpad, le]⟩
  obtain ⟨c, hcc, hb⟩ := hbs
  have hlt : c < 256 ^ 4 := hcc ▸ crc32_lt _
  have hlen : m.bytes.length = 8 + 8 * m.nblk := by simp [hb, hl]; omega
  have h7 : num m.bytes 7 1 = m.nblk := by simp [hb, num, slice, ofLe]; omega
  have h1 : num m.bytes 1 1 = m.typ := by simp [hb, num, slice, ofLe]; omega
  have h2 : num m.bytes 2 1 = m.dst := by simp [hb, num, slice, ofLe]; omega
  have h3 : num m.bytes 3 1 = m.src := by simp [hb, num, slice, ofLe]; omega
  have h4 : num m.bytes 4 1 = m.hops := by simp [hb, num, slice, ofLe]; omega
  have h5 : num m.bytes 5 2 = m.seq % 2 ^ 15 + 2 ^ 15 * m.copy := by simp [hb, num, slice, ofLe]; omega
  have h8 : slice m.bytes 8 (8 * m.nblk - 4) = m.data := by simp [hb, slice, ← hl]
  have hs1 : slice m.bytes 1 (8 + 8 * m.nblk - 5) = [BitVec.ofNat 8 m.typ, BitVec.ofNat 8 m.dst, BitVec.ofNat 8 m.src,
        BitVec.ofNat 8 m.hops, BitVec.ofNat 8 (m.seq % 2 ^ 15 + 2 ^ 15 * m.copy),
        BitVec.ofNat 8 ((m.seq % 2 ^ 15 + 2 ^ 15 * m.copy) / 256), BitVec.ofNat 8 m.nblk] ++ m.data := by
    have e : 8 + 8 * m.nblk - 5 = m.data.length + 7 := by omega
    rw [hb, e]
    simp [slice]
  have hcrc : num m.bytes (8 + 8 * m.nblk - 4) 4 = c := by
    have e : 8 + 8 * m.nblk - 4 = m.data.length + 8 := by omega
    have d : slice m.bytes (m.data.length + 8) 4 = le 4 c := by
      rw [hb]
      simp [slice]
    rw [num, e, d, ofLe_le, Nat.mod_eq_of_lt hlt]
  simp only [readMsg, h7, h1, h2, h3, h4, h5, hlen, hs1, hcrc, h8, ← hcc]
  rw [if_pos ⟨trivial, hn, ht.1, ht.2, trivial⟩]
  have q1 : (m.seq % 2 ^ 15 + 2 ^ 15 * m.copy) % 2 ^ 15 = m.seq := by omega
  have q2 : (m.seq % 2 ^ 15 + 2 ^ 15 * m.copy) / 2 ^ 15 = m.copy := by omega
  rw [q1, q2]

end Sys2Proof.Machine
end

