-- ==== Sys2Proof/Tests/Slice0.lean ====
section
/-!
SUPPORT. Own tests: ill-formed commands are refused; single steps on small states, each expected value worked out from the rule the
comment names; and for every statement with hypotheses a concrete state and operands that meet them, clause by clause.
-/

set_option maxRecDepth 100000

open Sys2Proof Sys2Proof.Machine

namespace Sys2Proof.Tests

/-- A device in mode `m` with its link up and Memory Space Enable set, and the given register fields. -/
def dev (m : Nat) (fs : List (Fld × Nat)) : State :=
  fs.foldl (fun s p => s.setF p.1 p.2)
    { (State.reset.setF DEV.MODE.MODE m).setF DEV.HOST_STATUS.WIDTH 4 with host := { mse := true }, now := 100, tick := 10 }

/-- It in READY. -/
def rdy : State := dev 2 []

/-! ### The statements' hypotheses are met -/

theorem test_hyps_StepRunsTheFrontCommand : ({ rdy with pending := [.timeSnap, .calSnap] }).pending = .timeSnap :: [.calSnap] := by decide

theorem test_hyps_TimePassesOnAnEmptyQueue : State.reset.pending = [] ∧ State.reset.cyc < 10 ∧
    ({ State.reset with cyc := 9 }).cyc = 9 ∧ (∀ p < 2, rdy.advance.runPort p = rdy.advance) ∧ rdy.mem.burst = [] ∧
    rdy.cal.bgRun = [] ∧ rdy.cnv.step = [] ∧ rdy.mode ≠ modeCalibrate ∧ rdy.mode ≠ modeLoad ∧ rdy.mgt.reqs = [] ∧ rdy.mgt.burn = none ∧
    rdy.mgt.dropPend = 0 ∧ rdy.nv.ctlBusy = none ∧ rdy.dev.enrolDue = false ∧ rdy.dev.dormantDue = false ∧ rdy.acq.folioOps = [] ∧
    rdy.acq.snapAt = none ∧ rdy.rdo.q = [] ∧ rdy.ens.assignDue = [] ∧ rdy.fetching = false ∧ rdy.pending = [] ∧ rdy.cyc < 9 := by decide

theorem test_hyps_StepKeepsTheStateSound : State.reset.sound ∧ step State.reset = .next State.reset.pass :=
  ⟨⟨by decide, by decide, by decide⟩, rfl⟩

theorem test_hyps_Bar0AccessesFollowTheirRules :
    (rdy.served 0x1002C = true ∧ (writeSpecial 0x1002C 5).isNone = true ∧ fixedField TIME.EPOCH_LOAD_NUM.NUM = false ∧
      findReg 0x1002C = some [(.rw, TIME.EPOCH_LOAD_NUM.NUM)] ∧ ([TIME.EPOCH_LOAD_NUM.NUM].map Fld.addr).Nodup) ∧
    (rdy.served 0x10024 = true ∧ (writeSpecial 0x10024 5).isNone = true ∧ findReg 0x10024 = some [(.ro, TIME.EPOCH_PERIOD.PERIOD)]) ∧
    (rdy.served 0x1FFFC = true ∧ (writeSpecial 0x1FFFC 5).isNone = true ∧ findReg 0x1FFFC = none) ∧
    (writeSpecial 0x10008 1).isSome = true ∧ rdy.served 0x10008 = true ∧ (rdy.cfgUp = true ∧ rdy.host.pba = []) ∧
    State.reset.served 0x10014 = false ∧ rdy.served 0x10010 = true ∧
    (rdy.hostUp = true ∧ (dev 5 []).hostUp = true ∧ (dev 5 []).served 0x10010 = false) := by decide

/-- READY with one memory channel, number 3, of 256 mapped granules. -/
def mem1 : State :=
  let s := dev 2 [(MEM.MAPG.MAPG, 256), (MEM.CH_STATE.STATE 3, 2), (MEM.CH_STATE.STATE 5, 2), (MEM.STATUS.IN_SERVICE, 40), (MEM.CFG.RANKS, 2)]
  { s with mem := { s.mem with ways := [3, 5], capg := 256 } }

/-- It with channel 3 out of PHY lock. -/
def mem1out : State := { mem1 with mem := { mem1.mem with phyLost := [(3, some 90)] } }

theorem test_hyps_Bar2AccessesReachDeviceMemory :
    (0 < 2 ^ mem1.host.bar2Log ∧ mem1.mem.ways.length * mem1.fld MEM.MAPG.MAPG ≤ mem1.bar2Addr 2097152 / 4096) ∧
    (mem1.hostUp = true ∧ mem1.bar2Served = true ∧ mem1.mappedRange (mem1.bar2Addr 2093056) 4096 = true ∧
      mem1.rangeWaits reqBar2 (mem1.bar2Addr 2093056) 4096 = false ∧ 2093056 + 4096 ≤ 2 ^ mem1.host.bar2Log) ∧
    (mem1out.hostUp = true ∧ mem1out.bar2Served = true ∧ mem1out.rangeWaits reqBar2 (mem1out.bar2Addr 0) 4096 = true) ∧
    ((dev 5 []).hostUp = true ∧ (dev 5 []).bar2Served = false) ∧
    (128 ≤ mem1.host.mps ∧ mem1.bar2Addr 3968 % 4096 + 128 ≤ 4096 ∧ (mem1.phys (mem1.bar2Addr 3968)).isSome = true ∧
      mem1.waitsAt reqBar2 (mem1.bar2Addr 3968) 128 = none) := by decide

theorem test_hyps_LinkAndPowerStates : rdy.dev.held = false ∧ rdy.fld DEV.HOST_STATUS.WIDTH ≠ 0 ∧ rdy.host.perst = false ∧
    rdy.cfgUp = true ∧ ({ rdy with host := {} }).cfgUp = true ∧ ({ rdy with host := {} }).host.mse = false ∧ rdy.host.mse = true := by
  decide

theorem test_hyps_FunctionResetAndPerstActByTheirRules : rdy.cfgUp = true ∧
    (∀ e ∈ rdy.rdo.q, e.1 < 512 ∧ rdy.queueState e.1 = queueIdle) ∧ rdy.bit DEV.CFG.PERST_POLICY = false ∧ rdy.host.perst = false ∧
    rdy.dev.held = false ∧ ({ rdy with host := { perst := true } }).host.perst = true ∧
    (dev 2 [(DEV.CFG.PERST_POLICY, 1)]).bit DEV.CFG.PERST_POLICY = true := by decide

theorem test_hyps_ResetCommandsResetTheDevice :
    ({ rdy with dev := { vddAon := false } }).dev.vddAon = false ∧ rdy.dev.vddAon = true ∧ rdy.dev.resetN = false ∧
    rdy.dev.held = false ∧ rdy.dev.trip = false ∧ ({ rdy with dev := { trip := true } }).dev.trip = true ∧
    ((dev 2 [(MGT.STATUS.FW_STATE, 1), (DEV.STARTUP.STAGE, 0)]).fld MGT.STATUS.FW_STATE = 1 ∧
      (dev 2 [(MGT.STATUS.FW_STATE, 1), (DEV.STARTUP.STAGE, 0)]).fld DEV.STARTUP.STAGE = 0) ∧ rdy.served 0x8 = true ∧
    (rdy.stopForReset 1).mgt.staged.getLast?.isSome = true ∧ ({ rdy with dev := { held := true } }).dev.held = true := by decide

theorem test_hyps_LoadBeginsAndTriesTheCandidates :
    (∀ a b, let s : State := { rdy with dev := { held := true, resetN := a, trip := b, tripAt := 0 }, now := 1000000000 }
      s.dev.held = true ∧ s.dev.vddAon = true ∧ s.dev.resetN = a ∧ s.dev.trip = b ∧ s.dev.tripAt + 1000000 * cyclesPerUs ≤ s.now) ∧
    (let s : State := { rdy with dev := { held := true, trip := true, tripAt := 1 }, now := 1000000000 }
     s.now < s.dev.tripAt + 1000000 * cyclesPerUs) ∧
    (State.reset.mode = modeLoad ∧ State.reset.dev.slot = none ∧ (State.reset.setF DEV.STARTUP.STAGE 3).fld DEV.STARTUP.STAGE ≠ 1 ∧
      State.reset.fld MGT.STATUS.FW_STATE = 0) ∧
    ((dev 0 [(TIME.CFG.REF_MODE, 1)]).fld TIME.CFG.REF_MODE ≠ 0 ∧ (dev 0 [(TIME.CFG.REF_MODE, 0)]).fld TIME.CFG.REF_MODE = 0 ∧
      (dev 0 []).mode = modeLoad ∧
      ∀ ok, let s : State := { dev 0 [] with dev := { clockWait := true }, time := { refOk := ok } }
        s.dev.clockWait = true ∧ s.dev.held = false ∧ s.time.refOk = ok) ∧
    ({ dev 0 [] with dev := { tried := [1, 0] } }).candidates = [] ∧
    ({ dev 0 [] with nv := { ctlBusy := some (0, { wseq := 0, stateA := 5, stateB := 0, seenA := true, seenB := false, wdog := 0 }) } }).candidates
      = [0] := by decide

theorem test_hyps_ModeRequestsAndDormantFollowTheirRules :
    (rdy.served 0x8 = true ∧ rdy.dev.resetAt = none ∧ rdy.bit DEV.MODE.TRANSIT = false ∧ rdy.running = true ∧ rdy.mgt.upd = none ∧
      (rdy.bit DEV.WAKE_CFG.TICK_EN && duePast rdy.tick 0) = false ∧ rdy.mode = modeReady) ∧
    (let s := dev 2 [(DEV.WAKE_CFG.TICK_EN, 1), (DEV.WAKE_TICK_LO.TICK, 10)]
     s.running = true ∧ s.mgt.upd = none ∧ s.bit DEV.WAKE_CFG.TICK_EN = true ∧
      duePast s.tick (BitVec.ofNat 48 (s.fld DEV.WAKE_TICK_LO.TICK + 2 ^ 32 * s.fld DEV.WAKE_TICK_HI.TICK)) = true) ∧
    ((dev 2 [(DEV.MODE.TRANSIT, 1)]).served 0x8 = true ∧ (dev 2 [(DEV.MODE.TRANSIT, 1)]).bit DEV.MODE.TRANSIT = true) ∧
    ((dev 5 []).served 0x8 = true ∧ (dev 5 []).running = false ∧ (dev 5 []).mode ≠ modeDormant) ∧
    ((dev 4 []).served 0x8 = true ∧ (dev 4 []).mode = modeDormant ∧ (dev 4 []).dev.leaving = false ∧ (dev 4 []).dev.entering = false ∧
      (dev 4 []).dev.dormantDue = false) ∧
    (dev 3 []).mode = modeAcquire ∧
    ({ rdy with mgt := { upd := some { chan := 0, slot := 1, total := 4096, pos := 0, filling := [], owed := false, fromDram := none } } }).mgt.upd
      ≠ none ∧
    (let s : State := { rdy with dev := { entering := true } }
     s.dev.entering = true ∧ s.dev.dormantDue = false ∧ s.dev.held = false ∧ s.acq.recs = [] ∧
      s.dspState ∉ [dspTraining, dspActive, dspPsrEntry, dspPsrExit] ∧ s.mem.held = [] ∧
      (∀ c < 12, s.pausing c = false ∧ s.bursting c = false) ∧ ∀ g < 4, s.stepOf g = none) ∧
    (let s := dev 4 [(DEV.WAKE_CFG.TICK_EN, 1), (DEV.WAKE_TICK_LO.TICK, 10)]
     s.bit DEV.WAKE_CFG.TICK_EN = true ∧ s.mode = modeDormant ∧ s.dev.held = false ∧
      duePast s.tick (BitVec.ofNat 48 (s.fld DEV.WAKE_TICK_LO.TICK + 2 ^ 32 * s.fld DEV.WAKE_TICK_HI.TICK)) = true) ∧
    ({ dev 4 [] with dev := { leaving := true } }).dev.leaving = true ∧ rdy.dev.resetAt = none ∧
    ({ dev 4 [] with dev := { dormantDue := true } }).dev.dormantDue = true := by decide

/-- Flash whose slot 0 has a valid header (R399): firmware at 4096, image at 8192, no patch; 4096 bytes each. -/
def headed : NvSt :=
  let h := le 4 0x4C565331 ++ le 2 1 ++ le 2 0 ++ le 4 4096 ++ le 4 4096 ++ le 4 8192 ++ le 4 4096 ++ le 4 0 ++ le 4 0 ++ le 28 0
  { flash := (h ++ le 4 (crc32 h)).zipIdx.map fun e => (65536 + e.2, e.1), ownerValid := true }

/-- LOAD with slot 0 chosen and its header valid. -/
def loading0 : State := { dev 0 [] with nv := headed, dev := { slot := some 0 } }

theorem test_hyps_ImagesAreJudgedAndCataloguesInitialised :
    (loading0.dev.slot = some 0 ∧ loading0.mode = modeLoad ∧ loading0.dev.held = false ∧ loading0.dev.imageOk = false ∧
      (loading0.nv.slotHead 0).isSome = true ∧ ((loading0.nv.slotHead 0).all fun h =>
        loading0.objectVerdict (loading0.nv.cfgObject 0 h) (num (loading0.nv.cfgObject 0 h) 12 4) 1 [] != 0) = true) ∧
    ((dev 0 [(ACQ.LIB_CFG.STALE 7, 1)]).bit (ACQ.LIB_CFG.STALE 7) = true ∧
      ({ dev 0 [] with dev := { trained := true, tested := true } }).dev.tested = true) := by decide

theorem test_hyps_LoadStepsEnd :
    (({ dev 0 [] with dev := { imageOk := true } }).testing = true ∧ ({ dev 0 [] with dev := { imageOk := true } }).dev.trained = false ∧
      (dev 0 []).bit MEM.CFG.SPARE = false ∧ ((dev 0 []).sunit 68).st ≠ 3 ∧ (∀ c < 12, (dev 0 []).fld (MEM.CH_STATE.STATE c) ≠ 3)) ∧
    ((dev 0 [(BST.CFG.LOAD_SEL, 0)]).loadParts = [] ∧ ({ dev 0 [] with dev := { imageOk := true } }).dev.tested = false) ∧
    (kindFits (3, 0, .logic 5) = true ∧ bitOf ((dev 0 [(BST.CFG.LOAD_SEL, 3)]).fld BST.CFG.LOAD_SEL) 1 = true ∧
      (List.replicate 8 2048).length = 8) ∧
    (let s : State := { dev 0 [] with dev := { imageOk := true, trained := true, tested := true } }
     s.testing = true ∧ s.dev.trained = true ∧ s.dev.tested = true ∧ (∀ pl ∈ s.library, s.bit (ACQ.LIB_CFG.STALE pl.num) = false) ∧
      (∀ c < 12, s.populated c = true → s.partExcluded c = false)) ∧
    (dev 1 []).mode = modeCalibrate ∧ (dev 1 []).dev.held = false := by decide

/-- A passing part: the answer of a logic test is its golden signature. -/
theorem test_hyps_LoadPartPasses : rdy.partPasses 3 0 (.logic (Config.golden 3 0)) = true := by
  simp [State.partPasses]

theorem test_hyps_ClocksFollowTheirRules :
    (∀ src ∈ [1, 2, 3], ∀ en ∈ [0, 1], (dev 2 [(TIME.STATUS.SOURCE, src), (TIME.CFG.REF_MODE, 1), (TIME.CFG.EPOCH_EN, en)]).preClock = false ∧
      (dev 2 [(TIME.STATUS.SOURCE, src), (TIME.CFG.REF_MODE, 1)]).refMode = true ∧
      (dev 2 [(TIME.STATUS.SOURCE, src)]).fld TIME.STATUS.SOURCE = src ∧
      (dev 2 [(TIME.CFG.EPOCH_EN, en)]).bit TIME.CFG.EPOCH_EN = (en == 1)) ∧
    State.reset.preClock = true ∧ (dev 2 [(TIME.STATUS.SOURCE, 2), (TIME.CFG.REF_MODE, 1)]).crystalTicks = true ∧
    (dev 2 [(TIME.STATUS.SOURCE, 1), (TIME.CFG.REF_MODE, 1)]).crystalTicks = false ∧ rdy.refMode = false ∧ rdy.mode ≠ modeDormant ∧
    (dev 2 [(TIME.STATUS.PHASE_HIT, 1)]).bit TIME.STATUS.PHASE_HIT = true ∧
    (∀ m ∈ [2, 5], (dev m [(TIME.STATUS.SPLL_LOCK, 1)]).bit TIME.STATUS.SPLL_LOCK = true ∧ (dev m []).running = (m == 2)) ∧
    (let s := { dev 2 [(TIME.STATUS.SPLL_LOCK, 0)] with time := { spllLostAt := some 90 }, now := 10000090 }
     s.bit TIME.STATUS.SPLL_LOCK = false ∧ s.time.spllLostAt = some 90 ∧ 90 + 10000000 ≤ s.now ∧ s.dev.domainOff = false ∧
      s.dev.held = false) := by decide

/-- READY with EPOCH_EN set, a period of 1000 ticks and the given timeline state. -/
def epo (x : TimeSt) : State := { dev 2 [(TIME.CFG.EPOCH_EN, 1), (TIME.EPOCH_PERIOD.PERIOD, 1000)] with time := x }

theorem test_hyps_EpochPulsesSetAndMoveTheCount :
    ((epo {}).bit TIME.CFG.EPOCH_EN = true ∧ (epo {}).epochWatched = true ∧ (epo {}).time.expected = none ∧
      (epo {}).time.holdWaits = false ∧ (epo {}).time.armed = none) ∧
    (∀ w, let s := epo { expected := some 11, phaseWaits := w }
      s.time.expected = some 11 ∧ (s.pulseOffset 11).1.natAbs ≤ 1 ∧ (s.pulseOffset 11).2 = true ∧ s.time.seenNext = false ∧
      s.time.phaseWaits = w ∧ 1 < (s.pulseOffset 12).1.natAbs) ∧
    (let s := epo { expected := some 1008, previous := some 8, seenPrev := true }
     s.pulseOffset 1008 = (2, false) ∧ s.time.seenPrev = true) ∧
    ((epo { expected := some 10 }).time.expected = some 10 ∧ duePast (epo {}).tick 10 = true) ∧
    ((epo {}).served 0x10008 = true ∧ rdy.served 0x10008 = true ∧ rdy.bit TIME.CFG.EPOCH_EN = false) ∧
    ((epo { armed := some (7, 500) }).time.armed = some (7, 500) ∧ (epo { armed := some (7, 500) }).epochWatched = true) ∧
    ((epo { previous := some 9, judged := false }).time.previous = some 9 ∧ (epo {}).time.seenPrev = false ∧
      duePast (epo {}).tick (9 + 1) = true ∧ duePast (epo {}).tick (10 + 1) = false) ∧
    ((epo { realign := some (3, 99) }).cyc = 0 ∧ 99 < (epo {}).now) ∧ ({ epo {} with cyc := 9 }).cyc ≠ 0 := by decide

/-- READY with resting position `r` of group 3, its slice ready, direction `d`. -/
def grp (r d : Nat) (fs : List (Fld × Nat)) : State :=
  dev 2 ([(CNV.GROUP_STATUS.REST 3, r), (CNV.GROUP_STATUS.DIR 3, d), (CAL.SLICE_STATE.BG_STATE (51 + r), 4)] ++ fs)

/-- READY with scheduler fields and state. -/
def sch (fs : List (Fld × Nat)) (x : SchedSt) : State := { dev 2 fs with sched := x }

/-- An occurrence of entry 5, dispatched in the present tick. -/
def occ (action arg : Nat) : Occ :=
  { entry := 5, action := action, arg := arg, at_ := 10, from_ := 100, window := 0, lateBy := 0, groups := 15, missed := false }

theorem test_hyps_EntriesAreCommittedAndCancelled :
    ((sch [] {}).served (0x11018 + 32 * 255) = true ∧ (sch [] {}).committed 255 = false ∧
      (sch [] {}).actionOk 13 0 = false ∧ (sch [] {}).actionOk 12 3 = true ∧
      duePast (sch [] {}).tick ((sch [(TIME.SCHED_TICK_LO.TICK 255, 10)] {}).entryTick 255) = true ∧
      duePast (sch [] {}).tick ((sch [(TIME.SCHED_TICK_LO.TICK 255, 11)] {}).entryTick 255) = false ∧ (sch [] {}).active = true ∧
      (dev 1 []).active = false ∧ ({ rdy with dev := { entering := true } }).active = false) ∧
    ((sch [(TIME.SCHED_CMD.COMMIT 0, 1)] {}).committed 0 = true ∧ (sch [] {}).served 0x11000 = true ∧ (sch [] {}).served 0x11018 = true ∧
      (∀ o ∈ (sch [] {}).sched.waiting, o.entry ≠ 0)) := by decide

theorem test_hyps_DispatchedOccurrencesEndOnce :
    (let s := sch [(TIME.SCHED_ACT.ACTION 5, 12)] { due := [(5, 11)] }
     s.dueOf 5 = some 10 ∧ s.active = true ∧ duePast s.tick 10 = true ∧ s.sched.lastDispatch ≠ some s.now ∧
      (∀ m < 256, s.precedes m 5 10 = false) ∧ Tbl.get 0 s.sched.late 5 = 0) ∧
    (let s := sch [(TIME.SCHED_ACT.ACTION 5, 12), (TIME.SCHED_ACT.POLICY 5, 1), (TIME.SCHED_LIMIT.LATE_MAX 5, 4)]
       { due := [(5, 7)], late := [(5, 4)] }
     s.bit (TIME.SCHED_ACT.POLICY 5) = true ∧ Tbl.get 0 s.sched.late 5 ≤ s.fld (TIME.SCHED_LIMIT.LATE_MAX 5)) ∧
    (∀ p ∈ [0, 7], let s := sch [(TIME.SCHED_LIMIT.LATE_MAX 5, 4), (TIME.SCHED_PERIOD.PERIOD 5, p)] { due := [(5, 6)], late := [(5, 5)] }
     s.fld (TIME.SCHED_LIMIT.LATE_MAX 5) < Tbl.get 0 s.sched.late 5 ∧ Tbl.get false s.sched.cancel 5 = false ∧
      s.fld (TIME.SCHED_PERIOD.PERIOD 5) = p) ∧
    (∀ a ∈ [10, 5, 12], let o := { occ a 0 with from_ := 80 }
     let s := sch [] { waiting := [o] }
     s.sched.waiting.find? (fun x => x.entry == 5 && !x.started && !s.inWindow x) = some o ∧ ∃ g < 4, bitOf o.groups g = true) := by
  decide

theorem test_hyps_ActionsStartOnTheirResources :
    (∀ a ∈ [12, 6, 7, 8, 9, 3, 10, 11, 2, 1], let s := sch [] { waiting := [occ a 3] }
      s.active = true ∧ s.inWindow (occ a 3) = true ∧ s.firstInLine (occ a 3) = true ∧ s.findOcc 5 a = some (occ a 3)) ∧
    (rdy.monBusy = false ∧ (dev 2 [(DSP.STATUS.PSR_CAP, 1)]).bit DSP.STATUS.PSR_CAP = true ∧ rdy.bit DSP.STATUS.PSR_CAP = false ∧
      rdy.queueState 3 = queueIdle ∧ rdy.dev.outOk = true ∧
      (dev 2 [(RDO.Q_STATE.STATE 3, queueHalted), (RDO.Q_STATE.CAUSE 3, 8)]).queueState 3 = queueHalted) ∧
    (mem1.chanIdle (occ 10 3) = true ∧ mem1.inService 3 = true ∧ mem1.inService 4 = false ∧ (mem1.sunit 68).st ≠ 3 ∧
      ({ mem1 with seq := { units := [(68, { st := 3 })] } }.sunit 68).st = 3) ∧
    ((dev 2 [(ENS.STATUS.ACT_ROLE, 2), (ENS.CFG.ROLE, 2)]).actsAsDealer = true ∧ (dev 2 [(ENS.CFG.ROLE, 2)]).portsRun = true) ∧
    (∀ a ∈ [4, 5], (sch [] { waiting := [occ a 15] }).findMask 5 a = some (occ a 15)) ∧
    (rdy.startable (occ 4 15)).foldl withoutBit (occ 4 15).groups = 0 ∧
    (({ rdy with bst := { run := [(2, some { startAt := 0, slice := 34, unit := none })] } }).startable (occ 4 15)).foldl withoutBit 15 ≠ 0 ∧
    rdy.disarmBar 3 = some 6 ∧ Tbl.get 0 rdy.ens.dealTick 3 ≠ (occ 1 3).at_.toNat + 1 ∧
    Tbl.get 0 ({ rdy with ens := { dealTick := [(3, 11)] } }).ens.dealTick 3 = (occ 1 3).at_.toNat + 1 ∧ rdy.planOf 3 = none := by
  decide

theorem test_hyps_ClearsAndSnapshotsActOnTheirRegisters :
    (∀ o ∈ [0x10008, 0x2000C, 0x30008, 0x40000, 0x60000, 0x70000, 0x80018, 0x90008, 0xA0000, 0xC0004, 0xD0010, 0xE0008, 0x10000C, 0x110004],
      rdy.served o = true) ∧ State.reset.served 0x10008 = false ∧ rdy.served 0x50000 = true ∧ rdy.fld ENS.CFG.ROLE = 0 ∧
    (∀ x ∈ rdy.time.jumpLog, x.1 ≤ rdy.now) := by
  decide

theorem test_hyps_ShuffleStepMovesItsLane :
    (∀ r ∈ [0, 1, 16], ∀ d ∈ [0, 1], let s := grp r d []
      s.restPos 3 = r ∧ s.fixed 3 = false ∧ s.restFails 3 = false ∧ s.sliceReady (s.restSlice 3) = true ∧
      s.bit (CNV.GROUP_STATUS.DIR 3) = (d == 1)) ∧
    (grp 0 0 [(CNV.GROUP_STATUS.FIXED 3, 1)]).fixed 3 = true ∧
    (let s := grp 0 0 [(CAL.SLICE_STATE.BG_STATE 51, 1)]
     s.sliceReady (s.restSlice 3) = false ∧ s.fld (CAL.SLICE_STATE.BG_STATE (s.restSlice 3)) ≠ 5) := by decide

/-- A step of group 3: lane 48, slice 52 to slice 51. -/
def step3 : Step :=
  { entry := 0, lane := 48, incoming := 51, outgoing := 52, startAt := 60, shadowAt := none, switchAt := none, switched := false, down := false }

/-- READY at cycle 1600, tick 160, with the step under way. -/
def stp (x : Step) : State :=
  { grp 0 1 [(CAL.BG_CFG.TRACK_EN, 1)] with now := 1600, tick := 160, cnv := { step := [(3, some x)] } }

theorem test_hyps_StepsBackgroundRunsAndTrackingFollowTheirTables :
    ((stp step3).stepOf 3 = some step3 ∧ step3.startAt + 32 ≤ (stp step3).now ∧ (stp step3).at64 = true) ∧
    ((stp { step3 with shadowAt := some 512 }).stepOf 3 = some { step3 with shadowAt := some 512 } ∧ 512 + 1088 ≤ (stp step3).now ∧
      (stp step3).frameDiffs step3 [] [] = [] ∧ step3.incoming < 68 ∧
      2 ≤ Tbl.get 0 ({ stp step3 with cnv := { shadowFail := [(51, 2)] } }).cnv.shadowFail 51) ∧
    ((stp { step3 with switchAt := some (1600 * finePerNs + 5) }).stepOf 3 = some { step3 with switchAt := some (1600 * finePerNs + 5) } ∧
      (1600 * finePerNs + 5) / finePerNs = (stp step3).now ∧ step3.switched = false) ∧
    ((stp { step3 with switchAt := some (1584 * finePerNs), switched := true }).stepOf 3 =
        some { step3 with switchAt := some (1584 * finePerNs), switched := true } ∧
      1584 * finePerNs / finePerNs + 16 ≤ (stp step3).now ∧ step3.outgoing / 17 = 3 ∧ (stp step3).fixed 3 = false) ∧
    (let s := { rdy with cal := { rdy.cal with bgRun := [(67, some 5)] } }
     Tbl.get none s.cal.bgRun 67 ≠ none ∧ s.running = true ∧ Tbl.get none s.bst.run 3 = none) ∧
    (∀ n ∈ [0, 1, 2], (dev 2 [(CAL.SLICE_STATE.BG_FAILS 67, n)]).fld (CAL.SLICE_STATE.BG_FAILS 67) = n) := by decide

/-- The step's groups with slice 52's offset `off`, and a shadow frame of 3072 conversions of 8192 from both slices. -/
def shadow (off : Int) : State := { stp step3 with cal := { (stp step3).cal with offset := [(52, off)] } }
def frame : List Nat := List.replicate 3072 8192

/-- Its differences are all of the offset alone (R71, R77): equal conversions of slices with equal weights and gains. -/
theorem test_shadow_differences (off : Int) : (shadow off).frameDiffs step3 frame frame = List.replicate 3072 (off * 32768) := by
  have h : (shadow off).stage3 51 8192 - (shadow off).stage3 52 8192 = off * 32768 := by
    have h1 : (shadow off).stage3 51 8192 =
      (sarSum (fun b => (Config.designWeight ((16 * 51 + b) % 16) : Int)) 8192 - Config.sarZero - 0) * 32768 := rfl
    have h2 : (shadow off).stage3 52 8192 =
      (sarSum (fun b => (Config.designWeight ((16 * 52 + b) % 16) : Int)) 8192 - Config.sarZero - off) * 32768 := rfl
    have h3 : (fun b => (Config.designWeight ((16 * 51 + b) % 16) : Int)) = fun b => (Config.designWeight ((16 * 52 + b) % 16) : Int) := by
      funext b; rw [show (16 * 51 + b) % 16 = (16 * 52 + b) % 16 by omega]
    rw [h1, h2, h3]; omega
  have hc : (clipCode 8192).isSome = false := by decide
  unfold State.frameDiffs frame
  rw [List.zip_replicate', List.filterMap_replicate]
  simp only [hc, Bool.or_self]
  exact congrArg (List.replicate 3072) h

/-- An offset of 0 passes the frame's limits (R77), one of 512 is over them. -/
theorem test_hyps_ShadowFramesAreJudged :
    (∀ ds, (shadow 0).frameDiffs step3 frame frame = ds → 3072 ≤ ds.length ∧ ds.sum.natAbs ≤ 2 ^ 23 * ds.length ∧
      (ds.map fun d => d.natAbs ^ 2).sum ≤ 144 * 2 ^ 42 * ds.length) ∧
    (∀ ds, (shadow 512).frameDiffs step3 frame frame = ds → 3072 ≤ ds.length ∧ 2 ^ 23 * ds.length < ds.sum.natAbs) ∧
    ∀ off, Tbl.get none (shadow off).cnv.step 3 = some step3 := by
  refine ⟨?_, ?_, fun _ => rfl⟩ <;> intro ds h <;> rw [← h, test_shadow_differences] <;>
    simp only [List.map_replicate, List.sum_replicate, List.length_replicate, nsmul_eq_mul] <;> norm_num

/-- An attempt of a background run all of whose quantities agree, and one whose offset disagrees. -/
def agreeing : List (Int × Int) := List.replicate 16 (0, 0)
def offsetOff : List (Int × Int) := List.replicate 14 (0, 0) ++ [(0, 65536), (0, 0)]

/-- A loop-back check at its limits, and one over them. -/
def loopGood : LoopBack := List.replicate 5 (65536, 4 * 4194304 + 4194304)
def loopBad : LoopBack := List.replicate 4 (65536, 4 * 4194304 + 4194304) ++ [(65537, 0)]

theorem test_hyps_BackgroundRunIsDecided :
    decideRun [offsetOff, offsetOff] = none ∧ decideRun [agreeing] = some [some (List.replicate 14 0), some [0], some [0]] ∧
    decideRun [offsetOff, agreeing] = some [some (List.replicate 14 0), some [0], some [0]] ∧
    decideRun [offsetOff, offsetOff, offsetOff] = some [some (List.replicate 14 0), none, some [0]] ∧
    loopPasses loopGood = true ∧ loopPasses loopBad = false := by decide

/-- A channel of plan 1. -/
def chan0 : Chan :=
  { ch := 0, p := 64, q := 64, h := 0, dm1 := 0, phi := 0, g := 2112, gMin := 2112, gMax := 6208, dMin := 0, dMax := 15 }

/-- Plan 1: one channel, four sets, no accumulation in DRAM. -/
def plan1 : Plan :=
  { num := 1, autostart := false, ring := true, callRx := false, callTx := false, deficit := false, prio := 0, sets := 4, f := 4
    deadline := 100, ringBase := 0, catBase := 64, rmax := 0, hold := 0, termSel := 0, holdTicks := 0, holdSamples := 0, holdCount := 0
    holdMax := 0, accEn := true, accDram := false, accSplit := false, accAlign := false, qmask := 0, accPre := 0, accL := 8, target := 2
    accBase := 0, chans := [chan0] }

/-- Group 0 in trunk mode with plan 1 active in slot 0. -/
def act (sl : Slot) : State :=
  let s := dev 2 [(CNV.LAYOUT.MODE, 1), (CAL.BG_CFG.TRACK_EN, 1)]
  { s with acq := { s.acq with lib := [(1, some plan1)], slots := [(0, some sl)] } }

def slot0 : Slot := { plan := 1, order := 0 }

/-- Channel 0's window from sample 64 on constant input `x`, with the four samples on either side of 2^`n`. -/
def win (n : Nat) (x : Int) : TrackWin := { from_ := 64, top := 68 + 2 ^ n, xs := List.replicate (8 + 2 ^ n) x }

/-- Its state, with windows of 2^`n` samples. -/
def trk (n : Nat) (x : Int) : State :=
  let s := act slot0
  { (s.setF CAL.BG_CFG.WINDOW n).setF CAL.BG_CFG.SLOPE_MIN 0 with cal := { s.cal with win := [(0, some (win n x))] } }

theorem test_hyps_TrackingJudgesItsWindow :
    (∀ n ∈ [0, 9], Tbl.get none (trk n 1).cal.win 0 = some (win n 1) ∧ (trk n 1).tracked 0 = true ∧
      (win n 1).from_ + (trk n 1).winLen + 4 ≤ (win n 1).top ∧ (trk n 1).trackDisturbed 0 (win n 1) = false) ∧
    ({ trk 0 1 with cal := { (trk 0 1).cal with disturb := [(0, [1])] } }).trackDisturbed 0 (win 0 1) = true := by decide

/-- A window on which no condition fails, one on periodic input, and one on clip codes. -/
theorem test_hyps_TrackingReasons : (trk 0 1).trackReason 0 (win 0 1) = 0 ∧ (trk 9 1).trackReason 0 (win 9 1) % 2 = 0 ∧
    (trk 9 1).trackReason 0 (win 9 1) ≠ 0 ∧ (trk 0 2047).trackReason 0 (win 0 2047) % 2 = 1 := by
  have agree : ∀ l : List (Int × Int × Int), halvesAgree l l = true := by
    intro l
    unfold halvesAgree
    induction l with
    | nil => rfl
    | cons a t ih => simp
  have h1 : (trk 0 1).halvesOk 0 (win 0 1) = true := agree ((trk 0 1).estimates 0 (win 0 1) 64 0)
  have h2 : (trk 0 1).clipOk 0 (win 0 1) = true ∧ (trk 9 1).clipOk 0 (win 9 1) = true ∧ (trk 0 2047).clipOk 0 (win 0 2047) = false ∧
      (trk 0 1).slopeOk ((trk 0 1).allSums 0 (win 0 1) (win 0 1).from_ (trk 0 1).winLen) = true ∧
      (trk 0 1).aperiodicOk 0 (win 0 1) = true ∧ (trk 9 1).aperiodicOk 0 (win 9 1) = false := by decide
  obtain ⟨a, b, c, d, e, f⟩ := h2
  unfold State.trackReason
  rw [a, b, c, d, e, f, h1]
  refine ⟨by decide, ?_, ?_, ?_⟩
  · generalize (trk 9 1).slopeOk _ = x
    generalize (trk 9 1).halvesOk _ _ = y
    revert x y; decide
  · generalize (trk 9 1).slopeOk _ = x
    generalize (trk 9 1).halvesOk _ _ = y
    revert x y; decide
  · generalize (trk 0 2047).slopeOk _ = x
    generalize (trk 0 2047).halvesOk _ _ = y
    generalize (trk 0 2047).aperiodicOk _ _ = z
    revert x y z; decide

theorem test_hyps_TrackingApplies :
    let s := { act slot0 with tick := 16, now := 160, cal := { (act slot0).cal with track := [(0, [(80, 160, 0)])], trackFull := [(0, true)] } }
    Tbl.get [] s.cal.track 0 = [(80, 160, 0)] ∧ s.at64 = true ∧ Tbl.get false s.cal.trackFull 0 = true ∧ s.slotLane 0 0 < 64 := by decide

/-- A term's trigger at 10^12 / 2^23 ns. -/
def asked : Asked := { t := 2 * rearmTime, tick := 10, frac := 0, quality := 0, origin := 0, term := 0, trick := none }

theorem test_hyps_TriggerTakesTheFirstStepThatApplies :
    ((act slot0).slotOf? 0 = some slot0 ∧ (act slot0).slotPlan 0 = some plan1 ∧ (act slot0).holding 0 slot0 asked = false ∧
      (∀ l, slot0.tLast = some l → l + rearmTime ≤ asked.t) ∧ (plan1.deficit && (act slot0).someShort slot0 plan1 asked.t) = false ∧
      (act slot0).canTake slot0 plan1 = false) ∧
    (let sl := { slot0 with tLast := some (rearmTime + 1), remembered := [(rearmTime + 1, 3 * rearmTime)] }
     asked.t < rearmTime + 1 + rearmTime ∧ (sl.remembered.any fun r => decide (r.1 ≤ asked.t + rearmTime) && decide (asked.t < r.2)) = true) ∧
    (let s := (act slot0).setF (TRG.SLOT_CFG.HOLD 0) 2
     s.holding 0 { slot0 with holdLeft := 1 } asked = true) ∧
    ({ plan1 with deficit := true }.deficit && (act slot0).someShort slot0 { plan1 with deficit := true } asked.t) = true ∧
    ({ act slot0 with acq := (act { slot0 with unbound := [0] }).acq }).canTake { slot0 with unbound := [0] } { plan1 with ring := false }
      = true ∧
    ({ slot0 with tLast := some (2 * rearmTime + 1) }).tLast = some (2 * rearmTime + 1) := by decide

theorem test_hyps_LiveWritesAndEvaluationsKeepTheirOrder :
    (let sl := { slot0 with armed := true }
     let s := act sl
     s.running = true ∧ (sl.inst + 1) * 10 ≤ s.now * instPerTick (s.fld (TRG.SLOT_CFG.TE 0)) ∧
      s.pinsKnown (instPerTick (s.fld (TRG.SLOT_CFG.TE 0))) sl.inst = true ∧
      s.samplesFit plan1 (instPerTick (s.fld (TRG.SLOT_CFG.TE 0))) sl.inst
        [(0, List.replicate ((s.convNeeds 0 (instPerTick (s.fld (TRG.SLOT_CFG.TE 0))) 0).2 -
          (s.convNeeds 0 (instPerTick (s.fld (TRG.SLOT_CFG.TE 0))) 0).1) 0)] = true) ∧
    (0 < rdy.now ∧ [(0, List.replicate (4 * rdy.lanes 0) 4095), (63, List.replicate (4 * rdy.lanes 63) 0)].all rdy.freeFits = true) ∧
    (let s := dev 2 [(TRG.DET_BOUND.MAX 127, 5), (TRG.DET_STATUS.HYST_MAX 127, 2), (TRG.DET_MODE.TYPE 127, 3)]
     s.served (0x42004 + 32 * 127) = true ∧ s.inBound 127 (ofTwos 12 5) = true ∧ s.inBound 127 (ofTwos 12 6) = false ∧
      usesLL (s.fld (TRG.DET_MODE.TYPE 127)) = true ∧ usesLL (rdy.fld (TRG.DET_MODE.TYPE 127)) = false ∧ ofTwos 12 4 < ofTwos 12 5 ∧
      s.inBound 127 (ofTwos 12 4) = true ∧ s.slotHolding 63 = none ∧ s.served (0x42008 + 32 * 127) = true ∧
      2 ≤ s.fld (TRG.DET_STATUS.HYST_MAX 127) ∧ s.fld (TRG.DET_STATUS.HYST_MAX 127) < 3) ∧
    (let s := dev 2 [(TRG.HOLD_MAX_TICKS.MAX 7, 9)]
     s.served (0x4300C + 64 * 7) = true ∧ s.fld (TRG.HOLD_MAX_TICKS.MAX 7) < 10 ∧ 9 ≤ s.fld (TRG.HOLD_MAX_TICKS.MAX 7) ∧
      s.served (0x43010 + 64 * 7) = true ∧ s.served (0x43014 + 64 * 7) = true) ∧
    (let s := { rdy with trg := { hold := [(7, [(0, 33)])] } }
     s.inRearm 7 = false ∧ s.slotPlan 7 = none ∧ Tbl.get [] s.trg.hold 7 = [(0, 33)] ∧ s.cyc = 0 ∧ (s.det 3).pend = none ∧
      ({ rdy with trg := { det := [(3, { pend := some (5, 6, 7) })] } }.det 3).pend = some (5, 6, 7)) ∧
    (act { slot0 with armed := true, tLast := some (100 * finePerNs) }).inRearm 0 = true ∧ (dev 5 []).running = false := by decide

theorem test_hyps_PinsListsAndForcesAct :
    (let s := dev 2 [(TRG.PIN_CFG.IN_USE 3, 1), (TRG.PIN_STUCK.TIME 3, 10), (TRG.DET_MODE.TYPE 127, 1), (TRG.DET_STUCK.TIME 127, 10)]
     s.bit (TRG.PIN_CFG.IN_USE 3) = true ∧ 1600 ≤ 16 * s.now ∧ (s.pin 3).level = false ∧
      ({ s with trg := { pins := [(3, { level := true })] } }.pin 3).level = true ∧ s.fld (TRG.PIN_STUCK.TIME 3) ≠ 0 ∧
      s.bit (TRG.PIN_STATUS.STUCK 3) = false ∧ (s.pin 3).changeAt + 10 * s.fld (TRG.PIN_STUCK.TIME 3) ≤ s.now ∧
      s.chanExists 63 = true ∧ s.fld (TRG.DET_MODE.TYPE 127) ≠ 0 ∧ s.bit (TRG.DET_STATUS.STUCK 127) = false ∧
      (s.det 127).changeAt + 10 * s.fld (TRG.DET_STUCK.TIME 127) ≤ s.now ∧ s.slotHolding 63 = none) ∧
    (let s := { rdy with trg := { outOn := true, outs := [(0, { due := [1600], endsAt := some 1600 }), (1, { due := [1599], endsAt := some 1600 })] } }
     s.running = true ∧ s.trg.outOn = true ∧ (s.outPin 0).due = [1600] ∧ 1600 ≤ 16 * s.now ∧ (s.outPin 0).endsAt = some 1600 ∧
      (s.outPin 1).due = [1599] ∧ (s.outPin 1).endsAt = some 1600 ∧ (∀ g ∈ (s.outPin 0).due, 1600 ≤ g)) ∧
    ({ rdy with trg := { outs := [(1, { due := [], endsAt := some 1600 })] } }.outPin 1).due = [] ∧
    ((act { slot0 with holdEnd := some (100 * finePerNs) }).slotOf? 0 = some { slot0 with holdEnd := some (100 * finePerNs) }) ∧
    (rdy.served 0x40008 = true ∧ rdy.served 0x40004 = true ∧ rdy.slotOf? 7 = none ∧ bitOf (rdy.fld TRG.FORCE.FORCE) 0 = false ∧
      (act { slot0 with armed := true }).slotOf? 0 = some { slot0 with armed := true }) := by decide

theorem test_hyps_AdmissionFitsUnderTheCeiling :
    (rdy.judgeAdmission 7 255 [] true 0).1 = 0 ∧ (rdy.judgeAdmission 7 255 [] false 0).1 ≠ 0 := by decide

/-- A request of the host. -/
def ask (k id : Nat) : AdmReq := { kind := k, id := id, origin := 1, entry := 0, val := 0 }

theorem test_hyps_PlansAreAnsweredAndAdmittedInOrder :
    (∀ s ∈ [dev 1 [], { rdy with dev := { entering := true } }], s.served 0x5000C = true ∧ s.active = false) ∧
    (rdy.served 0x5000C = true ∧ rdy.active = true ∧ rdy.planOf 63 = none ∧ rdy.armBar 63 = some 6 ∧ rdy.disarmBar 63 = some 6) ∧
    (let s := { act slot0 with acq := { lib := [(1, some plan1)] } }
     s.planOf 1 = some plan1 ∧ s.slotOfPlan 1 = none ∧ s.mem.reqs = [] ∧ ({ s with mem := { reqs := [ask 0 63] } }).mem.reqs ≠ []) ∧
    (let s := { act slot0 with mem := { resv := [(0, (act slot0).laneResv plan1 (·.g) (·.dm1))] } }
     s.planOf 1 = some plan1 ∧ s.slotOfPlan 1 = some 0 ∧ s.armBar 1 = none ∧ s.armGrows 0 plan1 = false ∧
      (act slot0).armBar 1 = none ∧ (act slot0).armGrows 0 plan1 = true) ∧
    ((act { slot0 with armed := true }).disarmBar 1 = none ∧ (act { slot0 with armed := true }).armBar 1 = some 5) ∧
    (∀ k ∈ [0, 1, 2, 3, 4, 6, 7],
      let s := { dev 2 [(ACQ.PLAN_RESULT.PLAN, 63), (ACQ.PLAN_RESULT.OP, 1)] with mem := { reqs := [ask k 63] } }
      s.mem.reqs = ask k 63 :: [] ∧ s.running = true ∧ s.activationBar (ask k 63).id = some 6 ∧
      s.fld ACQ.PLAN_RESULT.PLAN = (ask k 63).id ∧ s.fld ACQ.PLAN_RESULT.OP = 1) ∧
    (let s := { act slot0 with mem := { reqs := [{ ask 0 2 with origin := 0 }] } }
     let t := { s with acq := { s.acq with lib := (2, some { plan1 with num := 2 }) :: s.acq.lib } }
     t.running = true ∧ t.activationBar 2 = some 2) := by decide

/-- A trigger of arm 1. -/
def trig0 : Trig := { t := 0, tick := 0, frac := 0, quality := 0, origin := 0, term := 0, trick := none, lostSince := 0, gen := 1 }

theorem test_hyps_FoliosAndRecordsMoveOneStep :
    ((act slot0).chanExists 0 = true ∧ (act slot0).currentPlan 0 = some plan1 ∧ plan1.chan? 0 = some chan0 ∧ rdy.currentPlan 0 = none ∧
      (act slot0).served 0x61000 = true ∧ (act slot0).served 0x61004 = true ∧ (act { slot0 with armed := true }).planArmed 1 = true ∧
      (act slot0).planArmed 1 = false ∧ chan0.dMax < 16 ∧ chan0.dMin ≤ 0 ∧ 0 ≤ chan0.dMax ∧ (15 : Nat) ≤ 15 ∧ chan0.gMin ≤ 2112 ∧
      6208 ≤ chan0.gMax ∧ chan0.g < 2113 ∧ (act slot0).slotOfPlan 1 ≠ none) ∧
    (rdy.served 0x50024 = true ∧ rdy.selected = none) ∧
    (let sl := { slot0 with gen := 1, fifo := [trig0], unbound := [(3, 1)] }
     (act sl).slotOf? 0 = some sl ∧ (act sl).planOf sl.plan = some plan1 ∧ sl.fifo = trig0 :: [] ∧ sl.setsOf trig0.gen = 3 :: []) ∧
    rdy.repace.sealable 0 0 = none ∧
    (dev 3 []).mode = modeAcquire ∧ (dev 3 []).unitOf 63 = none ∧ (dev 3 []).slotHolding ((dev 3 []).chanOf 63) = none ∧
    rdy.mode ≠ modeAcquire := by decide

/-- A stored stream of channel 0. -/
def stream0 : Stored :=
  { base := 0, dm1 := 0, phi := 0, g := 2112, n := 16, start := 0, sa := 0, buf := [], u := [], budget := [], reduced := [], gather := []
    skipTo := [], lost := [] }

theorem test_hyps_ElasticOverflowLosesBlocks :
    let sl := { slot0 with streams := [(64, some stream0)] }
    let s := ((act sl).setF DEV.MODE.MODE 3).setF (SEQ.LANE_UNIT.VALID 0) 1
    let h (n : Nat) : State := { s with seq := { units := [(0, { st := 1, lane := 0, pc := 5, handler := n })] } }
    s.mode = modeAcquire ∧ s.slotHolding (s.chanOf 0) = some 0 ∧ s.slotOf? 0 = some sl ∧
      Tbl.get none sl.streams 64 = some stream0 ∧ 64 % 64 = s.chanOf 0 ∧
      ∀ n ∈ [0, 3], (h n).unitOf 0 = some 0 ∧ ((h n).sunit 0).st = 1 ∧ ((h n).sunit 0).handler = n ∧ (h n).mode = modeAcquire := by decide

/-- Memory under plan 1: its folio 0 in state `x`, sealed at tick 0 in slot 0. -/
def fol (x : Byte) : State :=
  let s := (((act slot0).setF MEM.MAPG.MAPG 256).setF MEM.STATUS.IN_SERVICE 8).setF ACQ.FOLIO_SEL.PLAN 1
  { s with tick := 200, mem := { ways := [3], bytes := [(2 ^ 40 * 3 + 4096 * 64 + 12, x)] }, acq := { s.acq with sealTick := [(2 ^ 26, 1)], lastSlot := [(1, 1)] } }

/-- An ended record of plan 1. -/
def rec0 : Rec :=
  { slot := 0, plan := 1, set := 0, pos := 0, ch := 0, accession := 7, trick := 0,
    trig := trig0,
    s := 0, e := 64, tSample := 0, pre := 0, post := 64, deficit := 0, dm1 := 0, phi := 0, n := 16, base := 0, spt := 640, segs := [], session := 0, gen := 1 }

theorem test_hyps_FoliosAndRecordsInMemory :
    (∀ x ∈ [2, 3, 4], (fol (BitVec.ofNat 8 x)).selected = some (plan1, 0) ∧ (fol (BitVec.ofNat 8 x)).folioState plan1 0 = x ∧
      (fol (BitVec.ofNat 8 x)).waitsAt ((fol (BitVec.ofNat 8 x)).overheadReq plan1) (plan1.entryAddr 0 + 12) 2 = none) ∧
    ((fol 2).planOf 1 = some plan1 ∧ Tbl.get 0 (fol 2).acq.sealTick (2 ^ 26 * 1 + 0) = 0 + 1 ∧ plan1.deadline ≠ 0 ∧
      Tbl.get false (fol 2).acq.missed (2 ^ 26 * 1 + 0) = false ∧ plan1.deadline ≤ ((fol 2).tick - BitVec.ofNat 48 0).toNat ∧
      Tbl.get 0 (fol 2).acq.lastSlot 1 = 0 + 1) ∧
    (let s := { rdy with acq := { rdy.acq with recs := [rec0] } }
     (s.openRecs 0 0).find? (fun r => r.ended.isNone) = some rec0 ∧ s.delivered rec0 = true) ∧
    (let r := { rec0 with ended := some 50 }
     let s := { rdy with acq := { rdy.acq with recs := [r] } }
     s.repace.sealable 0 0 = some r) := by decide

/-- An add of the accession number 7 into bank 0 of slot 0. -/
def add0 : Add := { accession := 7, tick := 0, bank := 0, remote := false, lateArm := false, centres := [] }

theorem test_hyps_AccumulatorsSaturateAndPlaneWritesWait :
    (plan1.accDram = false ∧ plan1.binAt 1 0 ≠ plan1.binAt 0 0 ∧ (rdy.accOf 0).satBins = [] ∧
      0 * plan1.k * plan1.accL + 3 ∈ ({ rdy with acc := { slots := [(0, { satBins := [3] })] } }.accOf 0).satBins) ∧
    (let s := { act slot0 with acc := { slots := [(0, { adds := [add0] })] } }
     (s.accOf 0).adds = add0 :: [] ∧ s.addReady plan1 add0 = true ∧ s.binsWait 0 plan1 0 = false ∧
      (let t := s.setF MEM.MAPG.MAPG 0
       t.addReady plan1 { add0 with centres := [(0, 1000, 0)] } = false ∧ t.addLost plan1 { add0 with centres := [(0, 1000, 0)] } = false ∧
       State.addLost { t with seq := { lostSpans := [(0, [(900, 1001)])] } } plan1 { add0 with centres := [(0, 1000, 0)] } = true) ∧ (Tbl.get ({} : Machine.Result) (s.accOf 0).banks 0).count = 0) ∧
    (rdy.served (0x72000 + 32 * 3 + 4 * 4) = true ∧ rdy.bit (ACC.PLANE_CFG.ENABLE 3) = false ∧
      (dev 2 [(ACC.PLANE_CFG.ENABLE 3, 1)]).bit (ACC.PLANE_CFG.ENABLE 3) = true ∧ rdy.planeHolds 3 0 = false ∧
      ((act slot0).setF (ACC.PLANE_CFG.PLAN 3) 1).planeHolds 3 0 = true ∧ rdy.served (0x73400 + 4 * 255) = true ∧
      rdy.served 0x70000 = true) ∧
    (Tbl.get 0 (rdy.plane 3).hits (2048 * 1079 + 2047) ≠ 65535 ∧
      (let s := { rdy with acc := { planes := [(3, { hits := [(2048 * 1079 + 2047, 65535)] })] } }
       Tbl.get 0 (s.plane 3).hits (2048 * 1079 + 2047) = 65535)) := by decide

theorem test_hyps_BanksAndComposerFollowTheirTables :
    (∀ e ∈ [(2, []), (1, [0])], let s := { (act slot0).setF (ACC.SLOT_STATE.BANK0 0) 1 with
        acc := { slots := [(0, { banks := [(0, { count := e.1 })], finish := e.2 })] } }
     s.repace.slotOf? 0 = some slot0 ∧ s.repace.planOf 1 = some plan1 ∧ 0 < plan1.banks ∧ s.repace.fld (bankFld 0 0) = 1 ∧
      s.repace.addsDone 0 0 = true ∧ 0 < (Tbl.get ({} : Machine.Result) (s.repace.accOf 0).banks 0).count ∧
      ((Tbl.get ({} : Machine.Result) (s.repace.accOf 0).banks 0).count = plan1.target ∨ 0 ∈ (s.repace.accOf 0).finish)) ∧
    (let s := { act slot0 with mem := {} }
     s.repace.slotOf? 0 = some slot0 ∧ plan1.banks = 1 ∧ s.repace.fld (bankFld 0 0) ≠ 1) ∧
    (rdy.served (0x71014 + 32 * 7) = true ∧ (∀ n ∈ [0, 1, 2], (dev 2 [(ACC.SLOT_STATE.BANK0 7, n)]).fld (ACC.SLOT_STATE.BANK0 7) = n) ∧
      (dev 2 [(ACC.SLOT_STATE.BANK1 7, 2)]).fld (bankFld 7 1) = 2 ∧ rdy.fld (ACC.SLOT_STATE.BANK1 7) ≠ 1 ∧
      (dev 2 [(ACC.SLOT_STATE.BANK0 7, 1)]).accumulating 7 = some 0) ∧
    (let s := { dev 2 [(ACC.COMP_CFG.ENABLE, 1)] with acc := { compOn := true, nextBoundary := some 100 } }
     s.composing = true ∧ s.boundaryDue = true ∧ s.acc.frame = none ∧ rdy.composing = false ∧
      ((List.range 4).foldl State.decayPlane s.takeBoundary.applyPending).acc.changed = false ∧
      (let u := (List.range 4).foldl State.decayPlane
        (State.takeBoundary { s with acc := { s.acc with changed := true } }).applyPending
       u.acc.changed = true ∧ u.scanned (1 - u.fld ACC.COMP_STATUS.LAST) = false) ∧
      (let t := { s with acc := { s.acc with frame := some { boundary := 90, surface := 1 } } }
       t.composing = true ∧ t.boundaryDue = true ∧ t.acc.frame ≠ none)) ∧
    ({ rdy with acc := { frame := some { boundary := 90, surface := 1 } } }).acc.heldFrame = none ∧
    (let s := { rdy with mem := { held := [{ chan := 3, req := reqComposer, at_ := 0, addr := 0, data := none, len := 64 }] } }
     (∃ h ∈ s.mem.held, h.req = reqComposer) ∧ ∀ h ∈ rdy.mem.held, h.req ≠ reqComposer) := by decide

/-! ### Ensemble -/

/-- READY, role 1 unless given, port 0 UP, address 9. -/
def ens (fs : List (Fld × Nat)) : State := dev 2 ([(ENS.CFG.ROLE, 1), (ENS.PORT_STATUS.STATE 0, 2), (ENS.STATUS.ADDR, 9)] ++ fs)

/-- A message from unit 7 to every unit. -/
def msg (typ : Nat) (data : List Byte) : Msg :=
  { typ := typ, dst := 255, src := 7, hops := 0, seq := 5, copy := 0, nblk := nblkOf typ, data := padTo data (8 * nblkOf typ - 4) }

/-- Bytes as blocks of eight on the wire, the first with sync header `h`, the others data. -/
def blocksOf (h : Nat) : Nat → List Byte → List WireBlock
  | 0, _ => []
  | n + 1, bs => { sync := h, bytes := bs.take 8 } :: blocksOf 1 n (bs.drop 8)

/-- A message on the wire. -/
def wire (m : Msg) : List WireBlock := blocksOf 2 (1 + m.nblk) m.bytes

theorem blocksOf_bytes (h n : Nat) (bs : List Byte) (hl : bs.length = 8 * n) : (blocksOf h n bs).flatMap WireBlock.bytes = bs := by
  induction n generalizing h bs with
  | zero => simp_all [blocksOf]
  | succ n ih =>
    have e := ih 1 (bs.drop 8) (by simp; omega)
    simp [blocksOf, e]

theorem blocksOf_data (n : Nat) (bs : List Byte) : ((blocksOf 1 n bs).all fun b => b.sync == 1) = true ∧
    (blocksOf 1 n bs).filter wireErrored = [] := by
  induction n generalizing bs with
  | zero => exact ⟨rfl, rfl⟩
  | succ n ih => simpa [blocksOf, wireErrored] using ih (bs.drop 8)

/-- What stands on the wire reads as the message, and no block of it is errored. -/
theorem wire_reads (m : Msg) (h : readMsg m.bytes = some m) : readCopy (msgBlocks (wire m)) = some m ∧ (wire m).filter wireErrored = [] := by
  have hl : m.bytes.length = 8 * (1 + m.nblk) := by
    have h' := h
    simp only [readMsg] at h'
    split at h'
    · next c => rw [c.1]; have := congrArg Msg.nblk (Option.some.inj h'); simp only at this; omega
    · cases h'
  have hh : wire m = { sync := 2, bytes := m.bytes.take 8 } :: blocksOf 1 m.nblk (m.bytes.drop 8) := by
    rw [wire, Nat.add_comm]; rfl
  have hn : num (m.bytes.take 8) 0 1 = 0x66 := rfl
  have hm : msgBlocks (wire m) = wire m := by rw [hh]; simp [msgBlocks, wireStarts, hn]
  refine ⟨?_, ?_⟩
  · have hf : (wire m).flatMap WireBlock.bytes = m.bytes := blocksOf_bytes 2 _ _ hl
    rw [hm, readCopy, hf, h, hh]
    simp only [List.drop_succ_cons, List.drop_zero, (blocksOf_data m.nblk (m.bytes.drop 8)).1, if_true]
  · rw [hh]
    simp [wireErrored, hn, blockTypes, (blocksOf_data m.nblk (m.bytes.drop 8)).2]

/-- A message on the wire at a unit that accepts it has arrived. -/
theorem arrives_of (s : State) (p typ : Nat) (m : Msg)
    (h : s.portUp p = true ∧ s.portsRun = true ∧ readMsg m.bytes = some m ∧ m.typ = typ ∧
      ((s.erroredBlocks p (wire m)).forwardMsg p m).ownMsg m = false ∧
      (m.dst = 255 ∨ m.dst = ((s.erroredBlocks p (wire m)).forwardMsg p m).fld ENS.STATUS.ADDR) ∧
      (((s.erroredBlocks p (wire m)).forwardMsg p m).acceptMsg m).1 = true) :
    arrives s p typ (wire m) m (((s.erroredBlocks p (wire m)).forwardMsg p m).acceptMsg m).2 :=
  ⟨h.1, h.2.1, (wire_reads m h.2.2.1).1, h.2.2.2.1, _, rfl, h.2.2.2.2.1, h.2.2.2.2.2.1, Prod.ext h.2.2.2.2.2.2 rfl⟩

/-- The blocks of a message with its last byte spoilt, after an errored block that belongs to no message. -/
def spoilt (m : Msg) : List WireBlock :=
  { sync := 3, bytes := [] } :: blocksOf 2 (1 + m.nblk) (m.bytes.dropLast ++ [m.bytes.getLastD 0 + 1])

/-- Three blocks of a call, the first with sync header `h`, after an errored block. -/
def callWire (h : Nat) (bs : List Byte) : List WireBlock :=
  [{ sync := 0, bytes := [] }, { sync := h, bytes := bs.take 8 }, { sync := 2, bytes := (bs.drop 8).take 8 },
    { sync := 2, bytes := bs.drop 16 }]

/-- A unit's own ENUM messages are those of its serial number; any other unit's message is not its own. -/
theorem ownMsg_of (s : State) (m : Msg) (h : m.src ≠ s.fld ENS.STATUS.ADDR) (hs : m.serial ≠ padTo Config.serial 16) :
    s.ownMsg m = false := by simp [State.ownMsg, h, hs]

def call0 : Call := { src := 7, seq := 32767, trick := 12, tick := 3, frac := 0, quality := 1 }

theorem test_hyps_CallsAndMessagesAreTakenAndChecked :
    ((ens []).portUp 0 = true ∧ (ens []).portsRun = true ∧ (ens []).portUp 1 = false ∧
      (∀ e ∈ [0, 1], ∀ h ∈ [2, 1], let bs := callBlocks (call0.body 0 0) ((crc24 (call0.body 0 0) + e) % 2 ^ 24)
        let bl := callWire h bs
        3 ≤ bl.length ∧ (bl.drop (bl.length - 3)).flatMap WireBlock.bytes = bs ∧ readCall (callBody bs) = call0 ∧
        (bl.filter wireErrored).length = 1 ∧
        (callTypes (bl.drop (bl.length - 3)) = [true, true, true] ↔ h = 2) ∧ (callCrc bs = crc24 (callBody bs) ↔ e = 0)) ∧
      (act { slot0 with armed := true }).slotPlan 0 = some plan1 ∧
      (let s := { act { slot0 with armed := true } with acq := { (act { slot0 with armed := true }).acq with
        lib := [(1, some { plan1 with callRx := true })] } }
       s.slotOf? 0 = some { slot0 with armed := true } ∧ s.slotPlan 0 = some { plan1 with callRx := true }) ∧
      call0.src ≠ (ens []).fld ENS.STATUS.ADDR ∧ Tbl.get false (ens []).ens.lost (callKey 7 32767) = false ∧
      accepts (Tbl.get [] (ens []).ens.callSeen 7) 32767 = true) ∧
    (∀ t0 ∈ [92, 93], ({ ens [] with ens := { deliver := [(call0, t0)] } }).ens.deliver = (call0, t0) :: [] ∧
      (t0 + 8 ≤ (ens []).now ↔ t0 = 92)) ∧
    (let s := { ens [] with now := 20000, ens := { pend := [(callKey 255 32767, 1)] } }
     255 < 256 ∧ 32767 < 2 ^ 15 ∧ Tbl.get 0 s.ens.pend (callKey 255 32767) = 0 + 1 ∧ 0 + 100 * s.fld ENS.TIMING.LOST_WAIT ≤ s.now) ∧
    (∀ n ∈ [1, 2], Tbl.get 0 ({ ens [] with ens := { firstIn := [(0, n)] } }).ens.firstIn 0 = n) ∧
    ((ens []).portUp 0 = true ∧ (ens []).portUp 1 = false ∧ (ens []).txWaits 0 = [] ∧ (ens []).txEnds 0 ≤ (ens []).fifths ∧
      (let s := { ens [] with ens := { callEnd := [(0, 501)] } }
       s.txWaits 0 = [] ∧ s.fifths < s.txEnds 0) ∧
      (let x : TxItem := { call := false, forwarded := false, at_ := 0, len := 5, outs := [] }
       let s := { ens [] with ens := { callEnd := [(0, 501)], tx := [(0, [x, x, x, x])] } }
       s.nextTx 0 = none ∧ 4 ≤ ((s.txWaits 0).filter fun x => x.call == false).length)) ∧
    msgBlocks [{ sync := 0, bytes := [] }, { sync := 1, bytes := [] }] = [] ∧
    (∀ e ∈ [(1, 0), (1, 1), (1, 2), (1, 3), (1, 4), (2, 0), (2, 1), (3, 77), (4, 2), (5, 0)], let bl := spoilt (msg e.1 (le 1 e.2))
      (bl.filter wireErrored).length = 1 ∧ msgBlocks bl ≠ [] ∧ readCopy (msgBlocks bl) = none) := by decide

/-- The unit with port `p` in state `n`. -/
def lnk (p n : Nat) : State := dev 2 [(ENS.CFG.ROLE, 1), (ENS.PORT_STATUS.STATE p, n), (ENS.STATUS.ADDR, 9)]

theorem test_hyps_LinksTrainAndFall :
    (∀ p ∈ [0, 1], ∀ n ∈ [0, 1, 2, 3], (lnk p n).portsRun = true ∧ (lnk p n).fld (ENS.PORT_STATUS.STATE p) = n ∧
      (lnk p n).portUp (1 - p) = false ∧ (lnk p n).fld (ENS.PORT_STATUS.NEIGH_ADDR p) < 256 ∧ (lnk p n).txWaits p = [] ∧
      (lnk p n).txEnds p < (lnk p n).fifths ∧ (lnk p n).fifths < (lnk p n).fifths + 5 ∧
      Tbl.get 0 (lnk p n).ens.tokAt p = 0) ∧
    (∀ p ∈ [0, 1], let m := msg 5 (le 1 0 ++ le 1 p ++ le 2 0 ++ stampBytes 77)
      readCopy (msgBlocks (wire m)) = some m ∧ m.names 5 (some 0) = true) ∧
    (∀ p ∈ [0, 1], ∀ n ∈ [1, 2], ∀ q ∈ [0, 1], let m := msg 5 (le 1 1 ++ le 1 q ++ le 2 0 ++ stampBytes 77 ++ stampBytes 80 ++ stampBytes 81)
      let s := { lnk p n with ens := { asked := [(p, some 77)] } }
      readCopy (msgBlocks (wire m)) = some m ∧ m.names 5 (some 1) = true ∧ Tbl.get none s.ens.asked p = some 77 ∧
        readStamp m.data 4 = 77 ∧ s.fld (ENS.PORT_STATUS.STATE p) = n ∧ num m.data 1 1 = q) := by decide

/-- A STAT of a member in READY with one slot armed. -/
def stat0 : Msg := msg 4 (le 1 2 ++ le 1 2 ++ le 1 3 ++ le 1 1 ++ le 4 9 ++ le 4 500)

/-- One that carries RESTART. -/
def statR : Msg := msg 4 (le 1 1 ++ le 1 0 ++ le 1 32 ++ le 1 0 ++ le 4 9 ++ le 4 500)

theorem test_hyps_UnitTableAndDealerAreKept :
    ((ens []).portsRun = true ∧ (ens []).ens.sentAt = none) ∧
    (let s := { ens [] with ens := { sentAt := some 99 } }
     s.ens.sentAt = some 99 ∧ s.now < 99 + s.statPeriod) ∧
    ((∃ u, arrives (ens []) 0 4 (wire stat0) stat0 u) ∧ bitOf (num stat0.data 2 1) 5 = false ∧ 1 ≤ stat0.src ∧ stat0.src ≤ 254 ∧
      (ens []).ownMsg stat0 = false) ∧
    (∃ u, arrives ((ens []).clearWindows statR) 0 4 (wire statR) statR u ∧ bitOf (num statR.data 2 1) 5 = true ∧
      (ens []).ownMsg statR = false) ∧
    (∀ a ∈ [1, 254], let s := { ens [] with now := 3000000, ens := { statAt := [(a, 1)] } }
     Tbl.get 0 s.ens.statAt a = 0 + 1 ∧ 0 + 3 * s.statPeriod ≤ s.now) ∧
    (let s := { ens [] with now := 10000000 }
     s.ens.restart = true ∧ s.ens.startAt + 10 * s.statPeriod ≤ s.now ∧ s.dev.held = false) ∧
    (let s := { ens [(ENS.CFG.ROLE, 2)] with now := 2000000, ens := { firstUp := some 0 } }
     s.portsRun = true ∧ s.ens.firstUp = some 0 ∧ s.fld ENS.CFG.ROLE = 2 ∧ s.ens.acting = false ∧ s.ens.demoted = false ∧
       0 + 2 * s.statPeriod ≤ s.now ∧ s.fld ENS.STATUS.ADDR < 256) ∧
    (let s := { ens [(ENS.STATUS.DEALER, 255)] with now := 3000000, ens := { dealerSeen := some 0 } }
     s.portsRun = true ∧ s.ens.dealerSeen = some 0 ∧ s.actsAsDealer = false ∧ s.fld ENS.STATUS.DEALER = 255 ∧
       s.ens.dealerLost = none ∧ 0 + 3 * s.statPeriod ≤ s.now) ∧
    (let s := { ens [(ENS.STATUS.ACT_ROLE, 3), (ENS.GEN.GEN, 65534)] with now := 1000000000, ens := { dealerLost := some 0 } }
     s.portsRun = true ∧ s.ens.dealerLost = some 0 ∧ s.fld ENS.STATUS.ACT_ROLE = 3 ∧ s.bit TIME.CFG.EPOCH_EN = false ∧
       0 + 100000000 * cyclesPerTick ≤ s.now ∧ s.fld ENS.GEN.GEN + 1 < 2 ^ 16 ∧ s.fld ENS.STATUS.ADDR < 256) ∧
    (let s := { ens [(ENS.STATUS.ACT_ROLE, 2), (TIME.CFG.EPOCH_EN, 1), (TIME.EPOCH_PERIOD.PERIOD, 8)] with time := { previous := some 6 } }
     s.portsRun = true ∧ s.time.previous = some 6 ∧ s.actsAsDealer = true ∧ s.bit TIME.CFG.EPOCH_EN = true ∧ s.ens.timeSent ≠ some 6 ∧
       duePast s.tick (6 + BitVec.ofNat 48 (s.fld TIME.EPOCH_PERIOD.PERIOD / 2)) = true) := by
  refine ⟨by decide, by decide, ⟨⟨_, arrives_of _ _ _ _ (by decide)⟩, by decide, by decide, by decide, by decide⟩,
    ⟨_, arrives_of _ _ _ _ (by decide), by decide, by decide⟩, by decide, by decide, by decide, by decide, by decide, by decide⟩

/-- A TIME of generation `g`. -/
def time0 (g : Nat) : Msg := msg 3 (le 4 41 ++ le 6 1000 ++ le 2 g ++ le 4 500)

theorem test_hyps_UnitTableAndDealerAreKept_time :
    ∀ g ∈ [2, 3], ∀ al ∈ [0, 1], ∃ s u, arrives s 0 3 (wire (time0 g)) (time0 g) u ∧
      s.portsRun = true ∧ num (time0 g).data 10 2 = g ∧ u.fld ENS.GEN.GEN = 3 ∧ u.bit TIME.STATUS.EPOCH_ALIGNED = (al == 1) ∧
      num (time0 g).data 0 4 ≠ u.fld TIME.EPOCH_NUM.NUM ∧ u.bit ENS.CFG.TIME_LOAD = true ∧ u.bit TIME.CFG.EPOCH_EN = true := by
  intro g hg al hal
  refine ⟨ens [(ENS.GEN.GEN, 3), (TIME.STATUS.EPOCH_ALIGNED, al), (ENS.CFG.TIME_LOAD, 1), (TIME.CFG.EPOCH_EN, 1)], _,
    arrives_of _ _ _ _ ?_, ?_⟩
  all_goals revert g al; decide

/-- An ENUM message of the serial number sixteen times `x`. -/
def enum0 (op addr x : Nat) : Msg := msg 1 (enumData op addr 2 3 1 (List.replicate 16 (BitVec.ofNat 8 x)))

/-- One of two serial numbers is not the unit's. -/
theorem serial_differs : ∃ x ∈ [1, 2], List.replicate 16 (BitVec.ofNat 8 x) ≠ padTo Config.serial 16 := by
  by_cases h : List.replicate 16 (BitVec.ofNat 8 1) = padTo Config.serial 16
  · refine ⟨2, by decide, ?_⟩
    rw [← h]
    decide
  · exact ⟨1, by decide, h⟩

/-- An ENUM message of another serial number reaches the dealer. -/
theorem enum_arrives (s : State) (op addr x : Nat) (hx : List.replicate 16 (BitVec.ofNat 8 x) ≠ padTo Config.serial 16)
    (hs : (enum0 op addr x).serial = List.replicate 16 (BitVec.ofNat 8 x))
    (h : s.portUp 0 = true ∧ s.portsRun = true ∧ readMsg (enum0 op addr x).bytes = some (enum0 op addr x) ∧
      (s.bumpF (ENS.PORT_ERR.BLOCK_ERR 0) 0).portUp 1 = false ∧ (s.bumpF (ENS.PORT_ERR.BLOCK_ERR 0) 0).fld ENS.STATUS.ADDR ≠ 7 ∧
      (s.bumpF (ENS.PORT_ERR.BLOCK_ERR 0) 0).ens.enumSeen = []) :
    ∃ u, arrives s 0 1 (wire (enum0 op addr x)) (enum0 op addr x) u ∧ u.regs = (s.bumpF (ENS.PORT_ERR.BLOCK_ERR 0) 0).regs ∧
      u.ens.reports = (s.bumpF (ENS.PORT_ERR.BLOCK_ERR 0) 0).ens.reports ∧
      u.ens.assigned = (s.bumpF (ENS.PORT_ERR.BLOCK_ERR 0) 0).ens.assigned := by
  obtain ⟨h1, h2, h5, h6, h7, h8⟩ := h
  have hw := wire_reads _ h5
  have he : s.erroredBlocks 0 (wire (enum0 op addr x)) = s.bumpF (ENS.PORT_ERR.BLOCK_ERR 0) 0 := by
    rw [State.erroredBlocks, hw.2]; rfl
  generalize s.bumpF (ENS.PORT_ERR.BLOCK_ERR 0) 0 = b at h6 h7 h8 he ⊢
  have hf : b.forwardMsg 0 (enum0 op addr x) = { b with ens := { b.ens with fwdMsg := (b.forwardMsg 0 (enum0 op addr x)).ens.fwdMsg } } := by
    have hp : ∀ e, ({ b with ens := e } : State).portUp (1 - 0) = false := fun _ => h6
    simp [State.forwardMsg, hp]
  have ha : ((b.forwardMsg 0 (enum0 op addr x)).acceptMsg (enum0 op addr x)) =
      (true, ((b.forwardMsg 0 (enum0 op addr x)).acceptMsg (enum0 op addr x)).2) := by
    rw [hf]
    simp [State.acceptMsg, State.enumWindow, h8, enum0, msg, accepts]
  refine ⟨_, ⟨h1, h2, hw.1, rfl, _, congrArg (State.forwardMsg · 0 _) he.symm, ownMsg_of _ _ ?_ (hs ▸ hx), Or.inl rfl, ha⟩, ?_⟩
  · rw [hf]
    exact fun h => h7 h.symm
  · rw [hf]
    simp [State.acceptMsg, State.enumWindow, h8, enum0, msg, accepts]

/-- READY as the acting dealer at address 1, with an enumeration in the given state. -/
def deal (fs : List (Fld × Nat)) (x : EnsSt) : State :=
  { ens ([(ENS.CFG.ROLE, 2), (ENS.STATUS.ACT_ROLE, 2), (ENS.STATUS.ADDR, 1)] ++ fs) with now := 5000000, ens := x }

/-- Three units: one keeps address 254, one has the same stored, one has none. -/
def reports0 : List Report :=
  [⟨[1], 254, true, 0, 1⟩, ⟨[2], 254, true, 0, 2⟩, ⟨[3], 0, false, 1, 0⟩]

theorem test_hyps_EnumerationRunsItsTable_dealer :
    ((deal [] { enumDue := true }).portsRun = true ∧ (deal [] {}).actsAsDealer = true ∧ (deal [] {}).fld ENS.STATUS.ENUM_BUSY = 0 ∧
      (deal [] { enumDue := true }).ens.enumDue = true ∧ (deal [] {}).served 0x80018 = true ∧ (deal [] {}).fld ENS.STATUS.ADDR ≠ 0 ∧
      (deal [(ENS.STATUS.ADDR, 0)] {}).fld ENS.STATUS.ADDR = 0 ∧ (deal [(ENS.STATUS.ADDR, 0)] {}).actsAsDealer = true ∧
      (deal [] { portChange := some 0 }).bit TIME.CFG.EPOCH_EN = false ∧
      (let s := { deal [] { portChange := some 0 } with now := 10000000 }
       s.ens.portChange = some 0 ∧ 0 + 10000000 ≤ s.now)) ∧
    (let s := deal [(ENS.STATUS.ENUM_BUSY, 1)] { scanAt := some 4000000, reports := reports0 }
     s.ens.scanAt = some 4000000 ∧ s.fld ENS.STATUS.ENUM_BUSY = 1 ∧ s.ens.assigned = false ∧ 4000000 + 1000000 ≤ s.now ∧
       (keepAddrs 1 (ringOrder [⟨[1], 254, true, 0, 1⟩, ⟨[3], 0, false, 1, 0⟩])).2.2 = [] ∧
       (keepAddrs 1 (ringOrder reports0)).2.2 = [254] ∧
       (giveAddrs (keepAddrs 1 (ringOrder reports0)).1 (keepAddrs 1 (ringOrder reports0)).2.1).2.2 = false) ∧
    (∀ r ∈ [2, 3], let s := deal [] { assigned := true, assigns := [⟨[3], 2, false⟩], assignAt := 4800000, assignRound := r }
      s.ens.assigned = true ∧ s.unacked ≠ [] ∧ s.ens.assignAt + 200000 ≤ s.now ∧ s.ens.assignRound = r) ∧
    (let s := deal [(ENS.STATUS.ENUM_BUSY, 1)] { assigned := true, assigns := [⟨[3], 2, true⟩], units := 254 }
     s.fld ENS.STATUS.ENUM_BUSY = 1 ∧ s.ens.assigned = true ∧ s.unacked = [] ∧ s.ens.units < 256) := by decide

theorem test_hyps_EnumerationRunsItsTable_reports :
    ∃ x u, arrives (deal [(ENS.STATUS.ENUM_BUSY, 1)] {}) 0 1 (wire (enum0 1 0 x)) (enum0 1 0 x) u ∧ u.actsAsDealer = true ∧
      num (enum0 1 0 x).data 0 1 = 1 ∧ u.fld ENS.STATUS.ENUM_BUSY = 1 ∧ u.ens.assigned = false ∧
      ∃ v, arrives (deal [] {}) 0 1 (wire (enum0 3 2 x)) (enum0 3 2 x) v ∧ v.actsAsDealer = true ∧ num (enum0 3 2 x).data 0 1 = 3 := by
  have e : ∀ s ∈ [deal [(ENS.STATUS.ENUM_BUSY, 1)] {}, deal [] {}], ∀ m ∈ [(1, 0), (3, 2)], ∀ x ∈ [1, 2],
      num (enum0 m.1 m.2 x).data 0 1 = m.1 ∧ (enum0 m.1 m.2 x).serial = List.replicate 16 (BitVec.ofNat 8 x) ∧
      s.portUp 0 = true ∧ s.portsRun = true ∧ readMsg (enum0 m.1 m.2 x).bytes = some (enum0 m.1 m.2 x) ∧
      (s.bumpF (ENS.PORT_ERR.BLOCK_ERR 0) 0).portUp 1 = false ∧ (s.bumpF (ENS.PORT_ERR.BLOCK_ERR 0) 0).fld ENS.STATUS.ADDR ≠ 7 ∧
      (s.bumpF (ENS.PORT_ERR.BLOCK_ERR 0) 0).ens.enumSeen = [] := by decide
  obtain ⟨x, hx, hd⟩ := serial_differs
  have e1 := e (deal [(ENS.STATUS.ENUM_BUSY, 1)] {}) (by simp) (1, 0) (by simp) x hx
  have e3 := e (deal [] {}) (by simp) (3, 2) (by simp) x hx
  obtain ⟨u, hu, hr, hp, ha⟩ := enum_arrives (deal [(ENS.STATUS.ENUM_BUSY, 1)] {}) 1 0 x hd e1.2.1 e1.2.2
  obtain ⟨v, hv, hvr, -, -⟩ := enum_arrives (deal [] {}) 3 2 x hd e3.2.1 e3.2.2
  refine ⟨x, u, hu, ?_, e1.1, ?_, ha.trans (by decide), v, hv, ?_, e3.1⟩
  · simp only [State.actsAsDealer, State.fld, hr]
    decide
  · simp only [State.fld, hr]
    decide
  · simp only [State.actsAsDealer, State.fld, hvr]
    decide

/-- An ASSIGN of address 254 to this unit. -/
def assign0 : Msg := msg 1 (enumData 2 254 0 0 0 Config.serial)

theorem assign0_read : readMsg assign0.bytes = some assign0 ∧ assign0.serial = padTo Config.serial 16 := by
  have hp : (padTo Config.serial 16).length = 16 := by simp [padTo]; omega
  have hl : (enumData 2 254 0 0 0 Config.serial).length = 24 := by simp [enumData, hp]
  have hd : assign0.data = enumData 2 254 0 0 0 Config.serial ++ List.replicate 4 0 := by
    have e : assign0.data = padTo (enumData 2 254 0 0 0 Config.serial) 28 := rfl
    rw [e]
    simp [padTo, hl]
  refine ⟨readMsg_bytes _ (by decide) (by decide) (by decide) (by decide) (by decide) (by decide) rfl ?_, ?_⟩
  · rw [hd]
    simp [enumData, hp, assign0, msg, nblkOf]
  · rw [Msg.serial, hd]
    simp [slice, enumData, le, hp]

theorem test_hyps_EnumerationRunsItsTable_unit :
    (∀ op ∈ [0, 4], ∃ u, arrives (ens []) 0 1 (wire (enum0 op 3 1)) (enum0 op 3 1) u ∧ u.actsAsDealer = false ∧
      num (enum0 op 3 1).data 0 1 = op) ∧
    (∃ u, arrives (ens []) 0 1 (wire assign0) assign0 u ∧ u.actsAsDealer = false ∧ num assign0.data 0 1 = 2 ∧
      num assign0.data 1 1 = 254 ∧ assign0.serial = padTo Config.serial 16 ∧ u.fld ENS.STATUS.ADDR ≠ 254) ∧
    (let s := { ens [] with now := 100000, ens := { scanAt := some 0 } }
     s.actsAsDealer = false ∧ s.ens.scanAt = some 0 ∧ s.portsRun = true ∧ s.ens.reported = false ∧ 0 + 100000 ≤ s.now) := by
  refine ⟨fun op h => ⟨_, arrives_of _ _ _ _ (by revert op; decide), by revert op; decide, by revert op; decide⟩,
    ⟨_, arrives_of _ _ _ _ ⟨by decide, by decide, assign0_read.1, rfl, by decide, by decide, by decide⟩, by decide, rfl, rfl,
      assign0_read.2, by decide⟩, by decide⟩

theorem test_hyps_AddressesAreDistinct :
    (keepAddrs 1 (ringOrder reports0)) = ([254, 1], [(⟨[1], 254, true, 0, 1⟩, 254), (⟨[2], 254, true, 0, 2⟩, 0),
      (⟨[3], 0, false, 1, 0⟩, 0)], [254]) ∧
    giveAddrs (keepAddrs 1 (ringOrder reports0)).1 (keepAddrs 1 (ringOrder reports0)).2.1 =
      ([3, 2, 254, 1], [⟨[2], 2, false⟩, ⟨[3], 3, false⟩], false) := by decide

/-- A deal's arm (0) or disarm (1) of plan 63 for tick 10, of generation `g`. -/
def dealMsg (op g : Nat) : Msg := msg 2 (le 1 op ++ le 1 2 ++ le 2 g ++ le 6 10 ++ le 2 0 ++ le 8 (2 ^ 63) ++ le 4 77)

theorem test_hyps_DealsArmEveryUnit :
    ((ens []).served 0x8001C = true ∧ (ens []).actsAsDealer = false ∧ (deal [] {}).actsAsDealer = true ∧
      (deal [] {}).bit (ENS.DEAL_DEF.VALID 15) = false ∧ (deal [(ENS.DEAL_DEF.VALID 15, 1)] {}).bit (ENS.DEAL_DEF.VALID 15) = true ∧
      (deal [(DEV.MODE.MODE, 5), (ENS.DEAL_DEF.VALID 15, 1)] {}).active = false ∧
      ({ deal [(ENS.DEAL_DEF.VALID 15, 1)] {} with dev := { entering := true } }).active = false ∧
      (deal [(ENS.DEAL_DEF.VALID 15, 1)] {}).active = true ∧ (deal [(DEV.MODE.MODE, 1)] {}).served 0x8001C = true ∧
      (deal [(DEV.MODE.MODE, 1)] {}).active = false) ∧
    (let d : DealAct := { id := 3, deal := 255, op := 0, plan := 1, tick := 8, lateBy := 2 }
     ∀ l ∈ [1, 2], ∀ n ∈ [100, 130, 131], let s := ens [(ENS.DEAL_CFG.LATE_MAX, l)]
       let s := { s with now := n, tick := BitVec.ofNat 48 (n / 10), ens := { deals := [d] } }
       s.ens.deals.find? (fun d => d.id == 3 && !d.started) = some d ∧ s.active = true ∧ duePast s.tick d.tick = true ∧
         s.dealWaits d = false ∧
         s.fld ENS.DEAL_CFG.LATE_MAX = l ∧ d.deal < 256) ∧
    (let s := { ens [(ENS.DEAL_CFG.LATE_MAX, 2)] with ens := { deals := [{ id := 3, deal := 255, op := 0, plan := 1, tick := 8 }] } }
     s.dealWaited { id := 3, deal := 255, op := 0, plan := 1, tick := 8 } ≤ 2 ∧
     State.dealWaited { s with tick := 11, now := 110 } { id := 3, deal := 255, op := 0, plan := 1, tick := 8 } = 3 ∧
     duePast s.tick (11 : Tick) = false ∧
     State.dealWaits { s with sched := { waiting := [occ 1 1] } } { id := 3, deal := 255, op := 0, plan := 1, tick := 8 } = true ∧ ((act slot0).planOf 1).isSome = true) := by decide

theorem test_hyps_DealsArmEveryUnit_messages :
    ∀ op ∈ [0, 1], ∀ g ∈ [4, 5], ∃ s u, arrives s 0 2 (wire (dealMsg op g)) (dealMsg op g) u ∧ num (dealMsg op g).data 0 1 = op ∧
      num (dealMsg op g).data 2 2 = g ∧ u.fld ENS.GEN.GEN = 5 ∧ u.active = true := by
  intro op ho g hg
  refine ⟨ens [(ENS.GEN.GEN, 5)], _, arrives_of _ _ _ _ ?_, ?_⟩
  all_goals revert op g; decide

/-! ### Memory -/

/-- Channels 3 and 11 of two ranks, the second a spare where SPARE is set; 256 mapped granules each. -/
def mm (fs : List (Fld × Nat)) (x : MemSt) : State :=
  { dev 2 ([(MEM.MAPG.MAPG, 256), (MEM.RESG.RESG, 256), (MEM.STATUS.IN_SERVICE, 2056), (MEM.CFG.RANKS, 2)] ++ fs) with
    mem := { x with ways := [3, 11], capg := 512 }, now := 20000 }

theorem test_hyps_EveryAddressHasItsOwnByte :
    (mm [] {}).mem.ways.Nodup ∧ 2 ≤ (mm [] {}).mem.ways.length ∧ (mm [] {}).fld MEM.MAPG.MAPG < 2 ^ 25 ∧
    (mm [] {}).phys (4096 * 511 + 4095) = some (11, 4096 * 255 + 4095) ∧ (mm [] {}).phys (4096 * 512) = none ∧
    (mm [(MEM.STATUS.REHOMED, 1), (MEM.STATUS.REHOMED_WAY, 1), (MEM.STATUS.IN_SERVICE, 8)] {}).phys (4096 * 511) =
      some (3, 4096 * 511) := by decide

theorem test_hyps_RefreshIsPostponedThenMadeUp :
    (∀ n ∈ [0, 7, 8], let s := mm [] { postponed := Tbl.set 0 [] (rankKey 11 1) n }
      s.rankThere 11 1 = true ∧ Tbl.get 0 s.mem.postponed (rankKey 11 1) = n ∧ s.dev.sleepMem = false ∧
        Tbl.get 0 s.mem.burst (rankKey 11 1) = 0 ∧ s.pausing 11 = false) ∧
    (let s := mm [] { postponed := [(rankKey 11 1, 8)], pause := [(11, true)] }
     s.rankThere 11 1 = true ∧ s.pausing 11 = true ∧ Tbl.get 0 s.mem.burst (rankKey 11 1) = 0) ∧
    (let s := mm [] { burst := [(rankKey 11 1, 2)], burstAt := [(rankKey 11 1, 16001)] }
     s.rankThere 11 1 = true ∧ s.rankBursts 11 1 = true ∧ s.now < Tbl.get 0 s.mem.burstAt (rankKey 11 1) + 4000 ∧ s.mem.held = []) ∧
    (∀ n ∈ [0, 2, 3], let s := mm [(MEM.CH_CAPAR.CONSEC 11, n)] { pause := [(11, true)] }
      s.inService 11 = true ∧ s.pausing 11 = true ∧ s.fld (MEM.CH_CAPAR.CONSEC 11) = n) ∧
    (let s := mm [(MEM.LIMITS.ACT_TH, 4096)] { acts := [{ bank := bankKey 11 255, row := 7, req := reqQueue 3, count := 4097 }] }
     s.inService 11 = true ∧ s.classOf (reqQueue 3) ≠ 0 ∧ s.overActive 11 255 (reqQueue 3) 7 = true ∧
      s.bankDeferred 11 255 (reqQueue 3) = false ∧ s.classOf (reqLane 0) = 0 ∧ s.overActive 11 255 (reqQueue 3) 6 = false ∧
      (mm [] { throttled := [(bankKey 11 255, reqQueue 3, 30000)] }).bankDeferred 11 255 (reqQueue 3) = true) := by decide

theorem test_hyps_ErrorsAndLockFollowTheirRules :
    ((mm [] {}).rankThere 11 1 = true ∧
      (20000 :: lastSecond 20000 (Tbl.get [] (mm [] { ceTimes := [(rankKey 11 1, List.replicate 1000 19000)] }).mem.ceTimes
        (rankKey 11 1))).length = 1001) ∧
    ((mm [] {}).phys 4096 = some (11, 0) ∧ (mm [] {}).rankAt 11 ((mm [] {}).locate 0) = 0 ∧ (mm [] {}).dev.sleepMem = false) ∧
    (∀ k ∈ [7, 8], let s := mm [] { paTimes := [(rankKey 11 1, List.replicate k 19000)] }
      s.rankThere 11 1 = true ∧ Tbl.get false s.mem.failing (rankKey 11 1) = false ∧ (20000 :: lastSecond 20000 (Tbl.get [] s.mem.paTimes (rankKey 11 1))).length = k + 1 ∧
        ((List.range 4).map fun i => (lastSecond 20000 (Tbl.get [] s.mem.paTimes (rankKey 11 i))).length).sum < 64) ∧
    (∀ k ∈ [63, 64], let s := mm [] { failing := [(44, true), (45, true)], paTimes := [(45, List.replicate k 19000)] }
      Tbl.get false s.mem.failing (rankKey 11 1) = true ∧ s.allFailing 11 = true ∧
        ((List.range 4).map fun i => (lastSecond 20000 (Tbl.get [] s.mem.paTimes (rankKey 11 i))).length).sum = k) ∧
    (∀ p ∈ [0, 8], let s := mm [(MEM.CH_STATE.MIG_STATE 11, 1), (MEM.CH_MIG_POS.POS 11, p), (MEM.CH_MIG_TOTAL.TOTAL 11, 9)] {}
      s.inService 11 = true ∧ s.fld (MEM.CH_STATE.MIG_STATE 11) = 1 ∧ s.dev.sleepMem = false ∧ s.rowMoves 11 = true ∧ s.fld (MEM.CH_MIG_POS.POS 11) = p ∧
        s.fld (MEM.CH_MIG_TOTAL.TOTAL 11) = 9 ∧ s.fld (MEM.CH_STATE.MIG_FROM 11) = 0) ∧
    (Tbl.get none (mm [] {}).mem.phyLost 11 = none ∧
      Tbl.get none (mm [] { phyLost := [(11, some 10000)] }).mem.phyLost 11 = some 10000 ∧
      (mm [] {}).now ≤ 10000 + 10 * cyclesPerUs ∧ 9999 + 10 * cyclesPerUs < (mm [] {}).now) ∧
    ((mm [] {}).fld MEM.MAPG.MAPG ≤ (mm [] {}).fld MEM.RESG.RESG * ((mm [] {}).mem.ways.length - 1) ∧
      (mm [] {}).bit MEM.STATUS.REHOMED = false ∧ 11 ∈ (mm [] {}).mem.ways) := by decide

/-! ### Readout -/

/-- READY, bus mastering allowed, queue 511 in state `st` with the given engine state. -/
def que (st : Nat) (fs : List (Fld × Nat)) (x : Queue) : State :=
  { dev 2 ([(DEV.HOST_STATUS.BME, 1), (RDO.Q_STATE.STATE 511, st)] ++ fs) with rdo := { q := [(511, x)] }, dev := { outOk := true } }

/-- A request to the host of kind `k`. -/
def hreq (k : Nat) : HostReq := { kind := k, addr := 65536, len := 32, be := 15 }

/-- A descriptor of 4096 bytes to the host. -/
def desc0 : List Byte := le 8 0 ++ le 8 65536 ++ le 4 4096 ++ le 2 0 ++ le 2 5 ++ le 8 1

theorem test_hyps_QueueCommandsFollowTheirState :
    (∀ st ∈ [queueIdle, queueWaiting, queueRunning, queueParked, queueHalted], (que st [] {}).served (queueCmdAddr 511) = true ∧ (que st [] {}).served (queueDoorbellAddr 511) = true ∧
      (que st [] {}).queueState 511 = st ∧ (que st [] {}).dev.outOk = true ∧ (que st [] {}).active = true ∧ ((que st [] {}).queue 511).desc = none ∧
      ((que st [] {}).queue 511).waits = []) ∧
    (que queueIdle [(DEV.MODE.MODE, 1)] {}).active = false ∧
    (que queueWaiting [] {}).queueActive 511 = true ∧ (que queueRunning [] {}).queueActive 511 = true ∧
    (que queueIdle [] { stopAt := 101 }).queue 511 = { stopAt := (que queueIdle [] {}).now + 1 } ∧
    (que queueIdle [] {}).queue 511 = { stopAt := 0 } ∧ ((que queueParked [] { waits := [hreq 1] }).queue 511).waits ≠ [] ∧
    (∀ k ∈ [srcPlan, srcAccum, srcImage, srcRange], (que 0 [(RDO.Q_CFG.SRC_KIND 511, k)] {}).queueKind 511 = k) := by decide

theorem test_hyps_QueuesFetchDeliverAndHalt :
    (∀ k ∈ [0, 1], ∀ b ∈ [0, 1], let s := que queueWaiting [(RDO.Q_STATE.DB_PEND 511, b)] { waits := [hreq k] }
      s.running = true ∧ s.canMaster = true ∧ (s.queue 511).waits = [hreq k] ∧ 0 ≤ s.now ∧ (s.queue 511).curDev = false ∧
        s.bit (RDO.Q_STATE.DB_PEND 511) = (b == 1)) ∧
    (desc0.length = 32 ∧ (State.popWait (que queueWaiting [] { waits := [hreq 0] }) 511).badDesc 511 (parseDesc desc0) = false ∧
      (State.popWait (que queueWaiting [] { waits := [hreq 0] }) 511).badDesc 511 (parseDesc (List.replicate 32 0)) = true) ∧
    (∀ k ∈ [2, 3], ∀ e ∈ [none, some true], let s := que queueRunning [] { waits := [hreq k], desc := some (parseDesc desc0), entry := e }
      (s.queue 511).waits = [hreq k] ∧ (s.queue 511).desc = some (parseDesc desc0) ∧ (parseDesc desc0).dstDev = false ∧
        s.unacknowledged 511 = false ∧ ((s.popWait 511).queue 511).entry = e) ∧
    (∀ n ∈ [2, 3], let s := { que queueWaiting [(RDO.Q_CTL.RETRY_MAX 511, 3)] { waits := [{ hreq 0 with tries := n }] } with now := 100000000 }
      (s.queue 511).waits = [{ hreq 0 with tries := n }] ∧ s.fld (RDO.Q_CTL.RETRY_MAX 511) = 3 ∧ (s.queue 511).desc = none ∧
        s.canMaster = true ∧ s.timedOut { hreq 0 with tries := n } = true ∧ (s.queue 511).curDev = false ∧ (hreq 0).due = false ∧
        (hreq 0).lost = false) ∧
    (∀ w ∈ [{ hreq 2 with due := true, again := 100 }, hreq 2, { hreq 2 with due := true, again := 101 }], ∀ b ∈ [0, 1],
      let s := (que queueRunning [] { waits := [w] }).setF DEV.HOST_STATUS.BME b
      (s.queue 511).waits = [w] ∧ s.canMaster = (b == 1) ∧ (w.due = true ∧ w.again ≤ s.now ↔ w = { hreq 2 with due := true, again := 100 })) := by decide

theorem test_hyps_QueuesFetchDeliverAndHalt_bursts :
    (que queueWaiting [] {}).repace.chooseQueue = none ∧
    (let it : Item := { pieces := [.imm [1, 2]], len := 2, first := 0, flags := 0, at_ := 0 }
     let s := que queueRunning [(RDO.Q_CFG.SRC_KIND 511, srcRange)] { desc := some (parseDesc desc0), item := some it, taken := [0] }
     s.repace.chooseQueue = some 511 ∧ (s.repace.queue 511).desc = some (parseDesc desc0) ∧ s.repace.burstItem 511 = some (none, it)) ∧
    (∀ e ∈ [(none, false), (some false, false), (some true, false)],
      let s := que queueRunning [(RDO.Q_CTL.SIZE 511, 4), (RDO.Q_COMP_WR.WR 511, 20)] { entry := e.1, desc := some (parseDesc desc0) }
      s.served (0xBC00C + 16 * 511) = true ∧ (s.queue 511).entry = e.1 ∧ (s.queue 511).entryNext = e.2 ∧ s.fld (RDO.Q_CTL.SIZE 511) = 4 ∧
        (∀ rd ∈ [4, 5], (s.fld (RDO.Q_COMP_WR.WR 511) + 2 ^ 32 - rd) % 2 ^ 32 ≤ 2 ^ s.fld (RDO.Q_CTL.SIZE 511)) ∧
        (s.setF (RDO.Q_COMP_RD.RD 511) 4).ringFull 511 = true ∧ (s.setF (RDO.Q_COMP_RD.RD 511) 5).ringFull 511 = false) ∧
    2 ^ 4 < ((que queueRunning [(RDO.Q_COMP_WR.WR 511, 20)] {}).fld (RDO.Q_COMP_WR.WR 511) + 2 ^ 32 - 3) % 2 ^ 32 := by decide

/-- A descriptor in device DRAM, sound and poisoned. -/
theorem test_hyps_QueuesFetchDeliverAndHalt_device :
    let x : Queue := { curDev := true, cur := 8192, waits := [hreq 0] }
     let s := { mem1 with rdo := { q := [(511, x)] } }
     (s.queue 511).curDev = true ∧ s.rangeWaits (reqQueue 511) (s.queue 511).cur 32 = false ∧
      s.rangeWaits (reqQueue 511) ((s.queue 511).cur + 24) 8 = false ∧
      ((s.popWait 511).dramRead (reqQueue 511) 8192 32).2.1 = false ∧
      (({ s with mem := { s.mem with poison := (mem1.poisonGranule 3 4096).mem.poison } }.popWait 511).dramRead (reqQueue 511) 8192 32).2.1
        = true := by decide

/-- A queue of plan 1 with a sealed folio and a pacing timeout of 10 ticks, whose level is non-zero since cycle 0. -/
def paced : State :=
  let s := fol 2
  let s := [(RDO.Q_STATE.STATE 511, queueWaiting), (RDO.Q_CFG.SRC_KIND 511, srcPlan), (RDO.Q_CFG.SRC_ID 511, 1),
    (RDO.Q_PACE_TO.TICKS 511, 10), (RDO.Q_PACE.HI_MARK 511, 9)].foldl (fun (s : State) p => s.setF p.1 p.2) s
  { s with now := 100, rdo := { q := [(511, { desc := some (parseDesc desc0), since := some 0 })] } }

theorem test_hyps_QueuesFetchDeliverAndHalt_timeout : let u := paced.repaceQueue 511
    (u.queue 511).since = some 0 ∧ u.queueActive 511 = true ∧ (u.queue 511).desc.isSome = true ∧ (u.queue 511).pacing = false ∧
    (u.queue 511).flush = none ∧ u.fld (RDO.Q_PACE_TO.TICKS 511) = 10 ∧ u.running = true ∧ 0 + cyclesPerTick * 10 ≤ u.now := by decide

/-- A queue of plan 1 that paces, its sealed folio of 256 `n` bytes, with folios taken. -/
def pacing (n : Byte) (taken : List Nat) : State :=
  let s := ((paced.setF (RDO.Q_PACE.HI_MARK 511) 1).setF DEV.HOST_STATUS.BME 1).setF MEM.CEIL.CEIL 1000
  { s with rdo := { q := [(511, { desc := some (parseDesc desc0), since := some 0, pacing := true, taken := taken })] }
           mem := { s.mem with bytes := s.mem.bytes ++ [(2 ^ 40 * 3 + 4096 * 64 + 25, n)] } }

theorem test_hyps_QueuesFetchDeliverAndHalt_take :
    (let s := (pacing 16 []).repace
     s.chooseQueue = some 511 ∧ (s.queue 511).desc = some (parseDesc desc0) ∧ ∃ it, s.burstItem 511 = some (some 0, it) ∧
      it.at_ + it.len ≤ (parseDesc desc0).len) ∧
    (∀ taken ∈ [[], [3]], let s := (pacing 32 taken).repace
     s.chooseQueue = some 511 ∧ (s.queue 511).taken = taken ∧ ∃ it, s.burstItem 511 = some (some 0, it) ∧
      (parseDesc desc0).len < it.at_ + it.len) := by
  refine ⟨⟨by decide, by decide, _, rfl, by decide⟩, fun taken h => ?_⟩
  simp only [List.mem_cons, List.not_mem_nil, or_false] at h
  rcases h with rfl | rfl <;> exact ⟨by decide, by decide, _, rfl, by decide⟩

theorem test_hyps_BindingsChangeOnlyWhileIdle :
    (∀ a ∈ [0xB0000, 0xB0004, 0xB0008, 0xB000C, 0xB0010, 0xB0014, 0xB0018, 0xB001C], (que 0 [] {}).served (a + 64 * 511) = true) ∧
    (que queueIdle [] {}).queueState 511 = queueIdle ∧ (que queueParked [] {}).queueState 511 ≠ queueIdle ∧
    (que 0 [(RDO.Q_GUAR.LOCKED 511, 1)] {}).bit (RDO.Q_GUAR.LOCKED 511) = true ∧ (que 0 [] {}).bit (RDO.Q_GUAR.LOCKED 511) = false ∧
    (7 / 2 ^ 16 < 7 % 2 ^ 16 ∧ (7 * 2 ^ 16 + 7) % 2 ^ 16 ≤ (7 * 2 ^ 16 + 7) / 2 ^ 16) ∧
    (∀ v ∈ [0x3 + 6 * 2 ^ 4 + 4 * 2 ^ 8, 0xF + 12 * 2 ^ 4 + 16 * 2 ^ 8 + 2 ^ 13], 6 ≤ v / 2 ^ 4 % 2 ^ 4 ∧ v / 2 ^ 4 % 2 ^ 4 ≤ 12 ∧
      4 ≤ v / 2 ^ 8 % 2 ^ 5 ∧ v / 2 ^ 8 % 2 ^ 5 ≤ 16) := by decide

/-! ### Display -/

/-- READY with the panel usable, its state `st`. -/
def dsp (st : Nat) (fs : List (Fld × Nat)) (x : DspSt) : State :=
  { dev 2 ([(DSP.CFG.ENABLE, 1), (DSP.STATUS.STATE, st), (DSP.H_ACT_FP.ACTIVE, 640), (DSP.V_ACT_FP.ACTIVE, 480)] ++ fs) with
    dsp := { x with admitted := true } }

theorem test_hyps_PixelsAreConvertedAndReduced :
    (∃ l cb cr, (dsp 2 [] {}).surfacePixel 639 479 = (l, cb, cr)) ∧ (dsp 2 [] {}).bit DSP.CFG.OVL_EN = false ∧
    (dsp 2 [(DSP.CFG.OVL_EN, 1)] {}).bit DSP.CFG.OVL_EN = true ∧
    (∀ b ∈ [0, 1, 2], (dsp 2 [(DSP.CFG.BPC, b)] {}).fld DSP.CFG.BPC = b) := ⟨⟨_, _, _, rfl⟩, by decide, by decide, by decide⟩

theorem test_hyps_FramesLatchAndRefresh :
    ((dsp dspActive [] {}).bit DSP.CFG.ENABLE = true ∧ (dsp dspActive [] {}).running = true ∧ (dsp dspActive [] {}).acc.heldFrame = none ∧
      (dsp dspActive [] { dirty := true }).emitFrame.latchFrame.1 = true ∧ (dsp dspActive [] {}).emitFrame.latchFrame.1 = false ∧
      (let s := { dsp dspActive [] {} with acc := { heldFrame := some [], frame := some { boundary := 1, surface := 0 } } }
       let w := (s.emitFrame.latchFrame.2.wrapF DSP.FRAME.COUNT 1).stepPsr s.emitFrame.latchFrame.1
       (w.afterPanic false).acc.heldFrame = some [] ∧ (w.afterPanic false).acc.frame = some { boundary := 1, surface := 0 }) ∧
      (dsp dspActive [] {}).justCleared DSP.FRAME.COUNT = false) ∧
    (∀ st ∈ [dspActive, dspPsrEntry, dspPsr, dspPsrExit, dspTraining], (dsp st [] {}).dspState = st ∧ (dsp st [] {}).dev.entering = false ∧
      (dsp st [] {}).served dspCmdAddr = true ∧ (dsp st [] {}).served 0xC0030 = true ∧ (dsp st [] {}).dsp.hpd = true) ∧
    (let s := dsp dspActive [(DSP.STATUS.PSR_CAP, 1)] { enterReq := true }
     s.dspState = dspActive ∧ s.dsp.exitReq = false ∧ s.bit DSP.STATUS.PSR_CAP = true ∧ s.dsp.enterReq = true) ∧
    (dsp dspActive [] {}).bit DSP.STATUS.PSR_CAP = false ∧ (dsp dspPsr [(DSP.STATUS.PSR_CAP, 1)] {}).bit DSP.STATUS.PSR_CAP = true ∧
    (dsp dspActive [] { exitAt := 101, enterAt := 101 }).now + 1 = 101 := by decide

theorem test_hyps_PanelLinkTrainsAndFails :
    (let s := dsp dspActive [] { sent := 1 }
     s.fetching = true ∧ s.running = true ∧ s.dsp.sent ≠ 0 ∧ 639 < s.fld DSP.H_ACT_FP.ACTIVE ∧ 479 < s.fld DSP.V_ACT_FP.ACTIVE ∧ s.dsp.under = [] ∧
       s.bit MEM.STATUS.PANIC = false ∧ s.served dspCmdAddr = true ∧ s.displayUsable = true ∧ s.bit DSP.CFG.ENABLE = true ∧
       (∀ u ∈ (dsp dspActive [] { under := [(478, 0)] }).dsp.under, u.1 ≠ 479) ∧
       s.dsp.admitted = true ∧ rdy.dsp.admitted = false ∧ s.dsp.hpd = true ∧ (dsp dspActive [] { hpd := false }).dsp.hpd = false ∧
       (dsp dspActive [] { under := [(478, 0)] }).dsp.under ≠ []) ∧
    (dsp dspActive [(MEM.STATUS.PANIC, 1)] {}).bit MEM.STATUS.PANIC = true ∧
    (dsp dspPsr [(DEV.MODE.MODE, 4)] {}).running = false ∧ (dsp dspPsr [(DEV.MODE.MODE, 4)] {}).dspState = dspPsr ∧
    (dsp dspOff [(DEV.MODE.MODE, 4)] {}).dspState ≠ dspPsr ∧ (dsp dspActive [] { hpd := false }).dev.entering = false ∧
    ({ dsp dspActive [] { hpd := false } with dev := { entering := true } }).dev.entering = true ∧
    (∀ n ∈ [0, 1, 2], let s := dsp dspTraining [(DSP.CFG.RATE, 3)] { rate := 3, tries := n }
      s.dspState = dspTraining ∧ s.displayUsable = true ∧ s.dsp.rate = s.fld DSP.CFG.RATE ∧ s.dsp.tries = n) ∧
    (let s := dsp dspTraining [(DSP.CFG.RATE, 3), (DSP.CFG.LANES, 4), (DSP.PCLK.KHZ, 25000)] { rate := 3, tries := 2 }
     s.lowerRate = some 2) ∧
    (dsp dspTraining [(DSP.CFG.RATE, 3)] { rate := 0 }).lowerRate = none ∧
    (dsp dspTraining [(DSP.CFG.RATE, 3)] { rate := 0 }).dsp.rate ≠ 3 := by decide

/-! ### Sequencers -/

/-- READY with an image in service and sequencer `u` in state `x`. -/
def sqr (u : Nat) (x : SeqUnit) (fs : List (Fld × Nat)) : State :=
  { dev 2 fs with dev := { imageOk := true }, seq := { units := [(u, x)] } }

/-- The patch RAM word of a microinstruction: NA, COND 0 with CPOL as the condition needs, ADDR (Table 13-2). -/
def microWord (m : Micro) : Nat := m.na * 2 ^ 93 + (if m.cond = some false then 2 ^ 86 else 0) + m.addr.getD 0 * 2 ^ 71

/-- READY with sequencer 67 in state `x`, bound, at patch RAM word `i`, which holds the microinstruction. -/
def patched (i : Nat) (m : Micro) (x : SeqUnit) : State :=
  { dev 2 [] with dev := { imageOk := true }, seq := { units := [(67, { x with st := 1, pc := 0x4000 + i })], words := [(i, microWord m)] } }

/-- The microinstructions of Table 13-3. -/
def micros : List Micro :=
  [⟨0, none, none⟩, ⟨1, some true, some 0x41FF⟩, ⟨1, some true, some 0x4200⟩, ⟨1, some false, some 0⟩, ⟨2, some true, some 0x41FF⟩,
    ⟨2, some true, some 0x4200⟩, ⟨2, some false, some 0⟩, ⟨3, some true, none⟩, ⟨3, some false, none⟩, ⟨4, some true, none⟩,
    ⟨4, some false, none⟩, ⟨5, none, some 0x41F0⟩, ⟨6, none, none⟩, ⟨7, none, none⟩]

theorem test_hyps_MicroinstructionsAreFetched : ∀ m ∈ micros, ∀ i ∈ [1, 511], ∀ h ∈ [0, 1, 2, 3],
    fetched (patched i m { handler := h }) 67 m false (patched i m { handler := h }) ∧
      incFails ((patched i m { handler := h }).microAddr 67 (0x4000 + i)) = (i == 511) ∧
      ((patched i m { handler := h }).sunit 67).handler = h := by
  intro m hm i hi h hh
  have key : ∀ m ∈ micros, ∀ i ∈ [1, 511], ∀ h ∈ [0, 1, 2, 3], let s := patched i m { handler := h }
      (s.seqsRun = true ∧ 67 ≤ 68 ∧ (s.sunit 67).st ≠ 2 ∧ (s.sunit 67).st ≠ 3 ∧
        s.microFits (s.microAddr 67 (s.sunit 67).pc) m = true ∧ patchIndex (s.microAddr 67 (s.sunit 67).pc) = some i ∧
        Tbl.get 0 s.seq.badWords i = 0) ∧ incFails (s.microAddr 67 (0x4000 + i)) = (i == 511) ∧ (s.sunit 67).handler = h := by decide
  obtain ⟨⟨a, b, c, d, e, f, g⟩, k, l⟩ := key m hm i hi h hh
  exact ⟨⟨a, b, c, d, e, .inr ⟨i, f, g, rfl⟩⟩, k, l⟩

theorem test_hyps_MicroinstructionsAndHandlersFollowTheTable :
    (∀ u ∈ [0, 68], ∀ a ∈ [0, 0x3FFE, 0x3FFF], ∀ st ∈ [[], List.replicate 7 9, List.replicate 8 9],
      let s := sqr u { st := 1, pc := a, stack := st } []
      s.seqsRun = true ∧ (s.sunit u).st ≠ 2 ∧ (s.sunit u).st ≠ 3 ∧ (s.sunit u).handler = 0 ∧ (s.sunit u).pc = a ∧ a < 0x4000 ∧
        s.microAddr u a = a ∧ (s.sunit u).stack = st) ∧
    (let w := 2 * 2 ^ 93 + 2 ^ 86 + 0x41FF * 2 ^ 71   -- CALL, always, 0x41FF
     let s := sqr 67 { st := 1, pc := 0x4001 } []
     let t := { s with seq := { s.seq with words := [(1, w)] } }
     fetched t 67 ⟨2, some false, some 0x41FF⟩ true (t.bumpF SEQ.PATCH_ECC.CE 1) ∧
      patchIndex (t.microAddr 67 (t.sunit 67).pc) = some 1 ∧
      Tbl.get 0 ({ t with seq := { t.seq with badWords := [(1, 5)] } }).seq.badWords 1 ≠ 0) ∧
    (0x41FF < 0x4200 ∧ 0x41F3 / 16 * 16 + 31 % 16 < 0x4200) ∧
    (let x : SeqUnit := { st := 1, pc := 5, pend := 128, last := some 7 }
     (sqr 67 x []).sunit 67 = x ∧ x.handler = 0 ∧ x.nextSource = some 7) ∧
    (∀ b ∈ [0, 7, 8], let x : SeqUnit := { st := 1, pc := 0x3FFE, handler := 3, bounds := b }
      (sqr 67 x []).sunit 67 = x ∧ (sqr 67 x []).microAddr 67 0x3FFE = 0x3FFE ∧ x.traps = 0 ∧ x.bounds < 16) ∧
    (∀ b ∈ [31, 32], let x : SeqUnit := { st := 1, pc := 0x3FFE, handler := 2, bounds := b }
      (sqr 67 x []).sunit 67 = x ∧ x.handler = 2 ∧ x.bounds = b) ∧
    (let x : SeqUnit := { st := 1, pc := 5, lane := 63 }
     x.handler = 0 ∧ (sqr 67 x []).laneStreams 63 = []) ∧
    (let tk : Takeover := { unit := 67, at_ := 90, streams := [], bound := some 95 }
     let s := { sqr 67 {} [] with seq := { units := [(67, { st := 2 })], gaps := [(63, some tk)] } }
     s.seqsRun = true ∧ (s.sunit 67).st = 2 ∧
      ((List.range 64).find? fun l => (s.gapOf l).any fun t => t.unit == 67 && t.bound.isSome) = some 63 ∧ s.gapOf 63 = some tk) := by
  refine ⟨by decide, ⟨⟨by decide, by decide, by decide, by decide, by decide, .inr ⟨1, by decide, by decide, rfl⟩⟩,
    by decide, by decide⟩, by decide, by decide, by decide, by decide, by decide, by decide⟩

theorem test_hyps_MachineChecksStopAndAreTakenOver :
    (∀ st ∈ [0, 1, 2, 3], ((sqr 67 { st := st } []).sunit 67).st = st ∧ (sqr 67 { st := st } []).seqsRun = true ∧
      (sqr 67 { st := st } []).fld (SEQ.UNIT_MC.CAUSE 67) = 0 ∧
      (sqr 67 { st := st } [(CNV.GROUP_STATUS.SPARE_UNIT 3, 0)]).bit (CNV.GROUP_STATUS.SPARE_UNIT (67 / 17)) = false ∧
      Tbl.get none (sqr 67 { st := st } []).bst.run (67 / 17) = none) ∧
    (∀ n ∈ [0, 1, 2], ((sqr 68 { st := 0, checks := n } []).sunit 68).checks = n ∧ ((sqr 68 { st := 0, checks := n } []).sunit 68).st ≠ 2 ∧
      (sqr 68 { st := 0, checks := n } []).testing = false) ∧
    (let x : SeqUnit := { st := 2, handler := 1, mcAt := some 0 }
     (x.mcAt = some 0 ∧ x.st = 2 ∧ x.handler = 1) ∧ ({ sqr 67 x [] with now := 2050 }).now ≤ 0 + 2050) ∧
    (let tk : Takeover := { unit := 66, at_ := 90, streams := [] }
     let s := { sqr 67 {} [(CNV.GROUP_STATUS.SPARE_UNIT 3, 1)] with
       tick := 8, seq := { units := ((List.range 16).map fun i => (51 + i, ({ st := 1 } : SeqUnit))), gaps := [(63, some tk)] } }
     s.gapOf 63 = some tk ∧ tk.bound = none ∧ s.restUnit (63 / 16) = some 67 ∧ s.at64 = true ∧ tk.at_ < s.now ∧
       s.stepOf (63 / 16) = none ∧ Tbl.get none s.bst.run (63 / 16) = none ∧ s.laneStreams 63 = [] ∧
       s.slotHolding (s.chanOf 63) = none) ∧
    (let tk : Takeover := { unit := 66, at_ := 90, streams := [], bound := some 95 }
     let s := { rdy with seq := { gaps := [(63, some tk)] } }
     let t := { s with acq := { s.acq with recs := [{ rec0 with ch := 63, trunc := true, segs := List.replicate 16 { cut := some 0 } }] } }
     s.gapOf 63 = some tk ∧ tk.bound.isSome = true ∧ tk.unit < 2 ^ 16 ∧ s.gapRecs 63 = [] ∧
      (∀ r, (t.gapRecs 63).getLast? = some r → ∀ x ∈ (t.acq.recs.filter fun x => x.ch == t.chanOf 63).takeWhile
        (fun x => x.accession != r.accession), x ∈ t.gapRecs 63 ∨ x.ended.isSome = true)) ∧
    Tbl.get 0 ({ rdy with seq := { badWords := [(511, 7)] } }).seq.badWords 511 ≠ 0 := by decide

/-! ### Management -/

/-- A request of opcode `op` with the given body on a channel. -/
def req (chan op : Nat) (body : List Byte) : MbxReq := { chan := chan, msg := le 2 op ++ le 2 0x77 ++ le 2 body.length ++ le 2 0 ++ body }

/-- READY (or mode `m`) with that request at the head, log entries 10000 committed, 12 calibration records. -/
def mbx (m op : Nat) (body : List Byte) (x : MgtSt) (nv : NvSt) : State :=
  { dev m [(MGT.STATUS.FW_STATE, 2)] with mgt := { x with reqs := [req 0 op body] }, nv := { nv with nextSeq := 10000, calRecords := 12 } }

/-- READY with firmware running. -/
def fw (fs : List (Fld × Nat)) (x : MgtSt) : State := { dev 2 ((MGT.STATUS.FW_STATE, 2) :: fs) with mgt := x }

theorem test_hyps_MailboxRequestsAreQueuedAndAnswered :
    (rdy.served 0xE0084 = true ∧ (dev 2 [(MGT.MBX_STATUS.BUSY, 1)]).bit MGT.MBX_STATUS.BUSY = true ∧
      rdy.bit MGT.MBX_STATUS.BUSY = false) ∧
    (let r := req 0 0x60 [0, 0]
     let y := { req 1 0x60 [0, 0] with at_ := 100 }
     let s := fw [] { reqs := [req 1 0x01 [], y] }
     s.mgt.reqs = [req 1 0x01 []] ++ [y] ∧ (∀ y ∈ [req 1 0x01 []], ¬ (r.chan = 0 ∧ y.chan = 1 ∧ y.at_ = s.now)) ∧
      (∀ x ∈ [y], r.chan = 0 ∧ x.chan = 1 ∧ x.at_ = s.now) ∧ s.mbxServed = true ∧ rdy.mbxServed = false ∧
      knownOps.contains (req 1 0x01 []).op = true ∧ (req 1 0x01 []).len ≤ 248) ∧
    (∀ e ∈ [(0x01, 249), (0x77, 4)], let r := req 0 e.1 (List.replicate e.2 0)
      (fw [] {}).mgt.reqs = [] ∧ (fw [] {}).mbxServed = true ∧ r.chan = 0 ∧ r.void = false ∧ (248 < r.len ∨ knownOps.contains r.op = false)) ∧
    (let r := req 1 0x60 (List.replicate 248 5)
     rdy.dev.held = false ∧ 8 ≤ r.msg.length ∧ r.msg.length = 8 + num r.msg 4 2 ∧ num r.msg 4 2 ≤ 248 ∧ (∀ x ∈ rdy.mgt.reqs, x.chan ≠ 1) ∧
       (∃ x ∈ ({ rdy with mgt := { reqs := [r] } }).mgt.reqs, x.chan = 1) ∧ 65535 < 65536 ∧ (65535 ≠ crc16 r.msg)) ∧
    ({ req 0 1 [] with void := true }).void = true := by decide

theorem test_hyps_QueriesAreAnswered :
    (∀ e ∈ [(0x01, 0), (0x02, 0), (0x10, 0), (0x61, 0), (0x37, 0), (0x64, 48), (0x01, 1), (0x63, 1)],
      let s := mbx 2 e.1 (List.replicate e.2 0) {} {}
      s.mbxServed = true ∧ s.nv.flashMiB ≠ 0 ∧ s.mgt.reqs = req 0 e.1 (List.replicate e.2 0) :: [] ∧ (req 0 e.1 (List.replicate e.2 0)).op = e.1 ∧
        (req 0 e.1 (List.replicate e.2 0)).len = e.2 ∧ s.mgt.upd = none ∧ 256 ≤ s.nv.nextSeq ∧ s.nv.nextSeq < 2 ^ 40) ∧
    (∀ f ∈ [9999, 0], let r := req 0 0x11 (le 6 f ++ le 1 7)
      r.op = 0x11 ∧ r.len = 7 ∧ num r.body 6 1 = 7 ∧ num r.body 0 6 = f ∧ (mbx 2 0x11 (le 6 f ++ le 1 7) {} {}).logOldest ≤ f) ∧
    0 < ({ mbx 2 0x11 (le 6 0 ++ le 1 7) {} {} with nv := { nextSeq := 2 ^ 39 } }).logOldest ∧
    (let x : Nat × SealRec := (3, { number := 3, lastSeq := 1023, hash := [], sig := [] })
     let s := mbx 2 0x12 (le 4 3) {} { seals := [x] }
     s.nv.seals.find? (fun e => e.1 == num (req 0 0x12 (le 4 3)).body 0 4) = some x ∧
       s.nv.seals.find? (fun e => e.1 == num (req 0 0x12 (le 4 39)).body 0 4) = none ∧ (req 0 0x12 (le 4 39)).len = 4) ∧
    (∀ n ∈ [11, 12], let r := req 0 0x13 (le 4 n ++ le 4 0)
      r.op = 0x13 ∧ r.len = 8 ∧ num r.body 0 4 = n ∧ (mbx 5 0x13 (le 4 n ++ le 4 0) {} {}).mode = modeSafe ∧
        (mbx 2 0x13 (le 4 n ++ le 4 0) {} {}).mode ≠ modeSafe ∧ (mbx 2 0x13 (le 4 n ++ le 4 0) {} {}).nv.calRecords = 12) ∧
    (let r := req 0 0x20 (le 1 39 ++ le 1 1)
     r.op = 0x20 ∧ r.len = 2 ∧ 1 ≤ num r.body 1 1 ∧ num r.body 0 1 + num r.body 1 1 ≤ 40) ∧
    (∀ o ∈ [271, 272], (req 0 0x60 (le 2 o)).op = 0x60 ∧ (req 0 0x60 (le 2 o)).len = 2 ∧ num (req 0 0x60 (le 2 o)).body 0 2 = o) ∧
    (let x : Session := { id := 9, key := [], plan := 1, n := 0, r := 0, chains := [], chainR := [], sealed := [], checked := 0, owed := 0, marks := [] }
     let s := { mbx 2 0x62 [7] {} {} with sec := { current := [(7, [x])] } }
     (req 0 0x62 [7]).op = 0x62 ∧ (req 0 0x62 [7]).len = 1 ∧ num (req 0 0x62 [7]).body 0 1 ≤ 7 ∧
       Tbl.get [] s.sec.current (num (req 0 0x62 [7]).body 0 1) = x :: []) ∧
    (∀ m ∈ [0, 3], (req 0 0x03 [m]).op = 0x03 ∧ (req 0 0x03 [m]).len = 1 ∧ (mbx 5 0x03 [m] {} {}).mode = modeSafe) := by decide

/-- A control record with slot A in state `a`, slot B in state `b`. -/
def ctl0 (a b : Nat) : NvSt :=
  { ctlBusy := some (0, { wseq := 0, stateA := a, stateB := b, seenA := true, seenB := true, wdog := 0 }), flashMiB := 16, rbCount := 3 }

/-- An open session of channel 0 on slot 0 of two units. -/
def upd0 (pos fill : Nat) : UpdSt :=
  { chan := 0, slot := 0, total := 8192, pos := pos, filling := (List.range fill).map fun i => (4096 * pos + i, 1), owed := false,
    fromDram := none }

theorem test_hyps_UpdatesFollowTheSlotTable :
    (∀ a ∈ [0, 2, 6, 3, 4, 5], let b := le 1 0 ++ le 4 8192
      let s := mbx 2 0x30 b {} (ctl0 a 0)
      s.mbxServed = true ∧ s.nv.flashMiB ≠ 0 ∧ s.mgt.reqs = req 0 0x30 b :: [] ∧ (req 0 0x30 b).op = 0x30 ∧ (req 0 0x30 b).len = 5 ∧ s.mgt.upd = none ∧
        num (req 0 0x30 b).body 0 1 ≤ 1 ∧ num (req 0 0x30 b).body 1 4 = 8192 ∧ 8192 ≤ s.nv.slotSize ∧ s.nv.recorded = true ∧
        s.nv.shown 0 = a ∧ s.ripe (req 0 0x30 b) = true) ∧
    (∀ op ∈ [0x33, 0x36], let s := mbx 2 op [] { upd := some { upd0 2 0 with chan := 1 } } (ctl0 1 0)
      s.mgt.upd = some { upd0 2 0 with chan := 1 } ∧ (req 0 op []).op = op ∧ (req 0 op []).len = 0) ∧
    (∀ off ∈ [4096 + 4, 4096, 8192 - 16, 8192, 8176 + 1, 4095], ∀ ow ∈ [true, false], let b := le 4 off ++ List.replicate 16 2
      let x := { upd0 1 4 with owed := ow }
      let s := mbx 2 0x31 b { upd := some x } (ctl0 1 0)
      s.mgt.upd = some x ∧ (req 0 0x31 b).op = 0x31 ∧ (req 0 0x31 b).len = 20 ∧ x.fromDram = none ∧ s.ripe (req 0 0x31 b) = true ∧
        num (req 0 0x31 b).body 0 4 = off ∧ x.owed = ow ∧ (x.take off ((req 0 0x31 b).body.drop 4)).full = false ∧
        x.accepts off ((req 0 0x31 b).body.drop 4) = decide (4096 ≤ off ∧ off + 16 ≤ 8192)) ∧
    (let b := le 8 0 ++ le 4 4096 ++ le 4 4096
     let s := mbx 2 0x32 b { upd := some (upd0 1 0) } (ctl0 1 0)
     (req 0 0x32 b).op = 0x32 ∧ (req 0 0x32 b).len = 16 ∧ s.running = true ∧ (upd0 1 0).filling = [] ∧ (upd0 1 0).fromDram = none ∧
       num (req 0 0x32 b).body 8 4 = 4096 * (upd0 1 0).pos ∧ num (req 0 0x32 b).body 12 4 = 4096 ∧
       num (req 0 0x32 b).body 8 4 + 4096 ≤ (upd0 1 0).total ∧ (mbx 5 0x32 b {} {}).running = false) ∧
    -- the slot's verdict is opaque where its header is valid; a slot without one fails
    (∀ p ∈ [1, 2], let s := mbx 2 0x33 [] { upd := some (upd0 p 0) } (ctl0 1 0)
      s.mgt.upd = some (upd0 p 0) ∧ (4096 * (upd0 p 0).pos = (upd0 p 0).total ↔ p = 2) ∧ s.slotVerdict 0 ≠ 0) ∧
    (∀ a ∈ [2, 3], let s := mbx 2 0x34 [0] {} (ctl0 a 0)
      (req 0 0x34 [0]).op = 0x34 ∧ (req 0 0x34 [0]).len = 1 ∧ s.mgt.upd = none ∧ s.mode ≠ modeSafe ∧ s.mode ≠ modeDormant ∧
        s.nv.ctlOr.state 0 = a) ∧
    (∀ m ∈ [4, 5], (mbx m 0x35 [] {} {}).mode = modeSafe ∨ (mbx m 0x35 [] {} {}).mode = modeDormant) := by
  refine ⟨by decide, by decide, by decide, by decide, by decide, by decide, by decide⟩

/-- That flash with bodies of length 0, so that the owner's blocks lie in erased bytes. -/
def sized : Tbl Byte := headed.flash ++ ([69650, 69651, 69652, 69653, 73740, 73741, 73742, 73743].map fun a => (a, 0))

theorem test_hyps_UpdateUnitsAndCommitAdvance :
    (let x := { upd0 1 2 with owed := true }
     let s := mbx 2 0x01 [] { upd := some x } (ctl0 1 0)
     s.mgt.upd = some x ∧ x.fromDram = none ∧ x.owed = true ∧ 4096 * (x.pos + 1) ≤ x.total) ∧
    (let x := { upd0 1 0 with fromDram := some (0, 0 + 1) }
     let s := { mem1 with mgt := { upd := some x } }
     s.mgt.upd = some x ∧ x.fromDram = some (0, 0 + 1) ∧ s.rangeWaits reqMgt 0 4096 = false) ∧
    (∀ b ∈ [0, 5], let s := mbx 2 0x35 [] {} { ctl0 4 b with flash := sized }
      s.mbxServed = true ∧ s.nv.flashMiB ≠ 0 ∧ s.mgt.reqs = req 0 0x35 [] :: [] ∧ (req 0 0x35 []).op = 0x35 ∧ (req 0 0x35 []).len = 0 ∧ s.mgt.upd = none ∧
        s.mode ≠ modeSafe ∧ s.mode ≠ modeDormant ∧ s.nv.ctlOr.trial = some 0 ∧ s.nv.ctlOr.state (1 - 0) = b ∧
        s.nv.rbCount < min 64 (s.nv.slotSvn 0) ∧ s.mgt.burn = none ∧ s.ripe (req 0 0x35 []) = true ∧
        min 64 (s.nv.slotSvn 0) ≤ ({ s.nv with rbCount := 64 } : NvSt).rbCount) ∧
    (∀ n ∈ [4, 5], let s := { mbx 2 0x35 [] { burn := some (3, n, 100) } (ctl0 4 0) with now := 100 }
      s.mgt.burn = some (3, n, 100) ∧ s.nv.ctlOr.trial = some 0 ∧ ({ s with now := 99 }).now < 100 ∧ 100 ≤ s.now ∧ n ≤ 64 ∧
        (s.nv.rbCount + 1 = n ∨ s.nv.rbCount + 1 < n)) := by decide

/-! ### Log, monitor, self-test, events, coder -/

/-- A staged entry of a sequence number. -/
def entry0 (seq stagedAt : Nat) : LogEntry :=
  { seq := seq, typ := 1, source := 2, tick := 0, flags := 0, data := List.replicate 8 0, chain := [], stagedAt := stagedAt }

/-- READY with `n` staged entries, the oldest staged at cycle 0, the next number to commit 250. -/
def logged (n : Nat) : State :=
  { rdy with now := 10000000, nv := { nextSeq := 250 }, mgt := { staged := (List.range n).map fun i => entry0 (250 + i) 0 } }

theorem logged_numbered (n : Nat) : numbered (logged n) := by
  intro i e h
  have h' : ((List.range n).map fun i => entry0 (250 + i) 0)[i]? = some e := h
  simp only [List.getElem?_map, Option.map_eq_some_iff] at h'
  obtain ⟨j, hj, rfl⟩ := h'
  rw [List.getElem?_range] at hj
  · rw [← Option.some.inj hj]
    rfl
  · by_contra hc
    rw [List.getElem?_eq_none (by simpa using hc)] at hj
    cases hj

theorem test_hyps_LogCommitsSealsAndReads :
    (∀ n, numbered (logged n)) ∧ 8 ≤ (logged 8).mgt.staged.length ∧
    ((logged 7).mgt.staged = entry0 250 0 :: (logged 7).mgt.staged.tail ∧ (logged 7).mgt.staged.tail.length < 7 ∧
      (entry0 250 0).stagedAt + 10000000 ≤ (logged 7).now ∧
      ({ logged 7 with now := 9999999 }).now < (entry0 250 0).stagedAt + 10000000 ∧ (logged 0).mgt.staged = []) ∧
    ((entry0 255 0).seq % 256 = 255 ∧ (entry0 256 0).seq % 256 ≠ 255) ∧ (logged 7).served 0xF0004 = true ∧
    (let s := mbx 2 0x63 [] {} {}
     s.mbxServed = true ∧ s.mgt.reqs = req 0 0x63 [] :: [] ∧ s.ripe (req 0 0x63 []) = true ∧ (req 0 0x63 []).op = 0x63 ∧
       (req 0 0x63 []).len = 0) ∧
    (let s := { rdy with nv := { nextSeq := 2 ^ 39 } }
     s.served 0xE0048 = true ∧ 0 < s.logOldest) ∧
    (let s := { rdy with nv := { nextSeq := 3, ring := (List.range 3).map fun i => (i, entry0 i 0) } }
     let v := 1 + 2 ^ 29
     v < 2 ^ 32 ∧ s.logOldest ≤ 1 ∧ v % 2 ^ 29 + 2 ^ 32 * s.fld MGT.LOG_SEL_HI.FIRST = 1 ∧ v / 2 ^ 29 + 1 = 2 ∧ 1 + 2 ≤ s.nv.nextSeq ∧
       ∀ i < 2, Tbl.get none (s.nv.ring.map fun e => (e.1, some e.2)) (1 + i) = [entry0 1 0, entry0 2 0][i]?) := by
  refine ⟨logged_numbered, by decide, by decide, by decide, by decide, by decide, by decide, by decide⟩

/-- READY with the regular definition 0 at slot 0, which converts input 39 in means of 2^`avg`. -/
def mon (avg : Nat) (fs : List (Fld × Nat)) (x : MgtSt) : State :=
  { dev 2 ([(MGT.MON_CTL.REG_RUN, 1), (MGT.SEQ_SLOT.INPUT 0 0, 39), (MGT.SEQ_SLOT.AVG 0 0, avg)] ++ fs) with mgt := x, now := 3000000 }

theorem test_hyps_MonitorResultsAreJudged :
    (∀ avg ∈ [0, 1], (mon avg [] {}).monSlot = some (39, avg) ∧ (List.replicate (2 ^ avg) 4095).length = 2 ^ avg ∧
      (mon avg [] {}).dev.held = false ∧ (mon avg [] {}).mgt.slotAt + 1000 * 2 ^ avg ≤ (mon avg [] {}).now ∧ (mon avg [] {}).unsettled avg = true ∧
      (mon avg [(MGT.MON_CTL.REF_EN, 1), (MGT.MON_CTL.REF_SETTLED, 1)] {}).unsettled avg = false) ∧
    (∀ al ∈ [0, 1], ∀ k ∈ [0, 1, 2], let s := mon 0 [(MGT.MON_RESULT.ALARM 39, al), (MGT.MON_LIMIT.LO 39, 1000), (MGT.MON_LIMIT.HI 39, 3000),
        (MGT.MON_ALARM.HYST 39, 10), (MGT.MON_ALARM.CONFIRM 39, 3)] { alarmCnt := Tbl.set 0 [] 39 k }
      Tbl.get 0 s.mgt.alarmCnt 39 = k ∧ s.bit (MGT.MON_RESULT.ALARM 39) = (al == 1) ∧ s.fld (MGT.MON_LIMIT.LO 39) = 1000 ∧
        s.fld (MGT.MON_LIMIT.HI 39) = 3000 ∧ s.fld (MGT.MON_ALARM.HYST 39) = 10 ∧ s.fld (MGT.MON_ALARM.CONFIRM 39) = 3) ∧
    (∀ b ∈ [0, 1], ∀ c ∈ [0, 1], let s := mon 0 [(MGT.MON_ALARM.CLASS 39, b), (MGT.MON_ALARM.SAFE_ON 39, c)] {}
      s.bit (MGT.MON_ALARM.CLASS 39) = (b == 1) ∧ s.bit (MGT.MON_ALARM.SAFE_ON 39) = (c == 1) ∧ s.mode ≠ modeSafe) := by decide

theorem test_hyps_SequencesInjectAndSettle :
    (let s := mon 0 [] { monPend := some (15, 3000000) }
     s.mgt.monPend = some (15, 3000000) ∧ 3000000 ≤ s.now ∧ s.mgt.injSlot = none ∧ s.mgt.injAt = none ∧ s.converting = false ∧
       (mon 0 [] { monPend := some (15, 3000000), slotAt := 2999500 }).converting = true ∧
       (mon 0 [] { monPend := some (15, 3000000), injAt := some 2999999 }).converting = false ∧
       (mon 0 [] { monPend := some (15, 3000000), injSlot := some 0 }).mgt.injSlot ≠ none ∧
       (mon 0 [] { monPend := some (15, 3000001) }).now < 3000001) ∧
    (let fs := [(MGT.MON_PW.PIN_EN, 1), (DEV.FEATURES.BITS 0, 32), (MGT.STATUS.FW_STATE, 2)]
     bothBits 5 1 (mon 0 fs {}).pwSources = 1 ∧ (mon 0 fs {}).dev.held = false ∧ (mon 0 fs {}).fld MGT.STATUS.FW_STATE ≠ 0 ∧ (mon 0 fs {}).mgt.pwLow = false ∧
       (mon 0 fs { pwLow := true }).mgt.pwLow = true ∧ (mon 0 fs {}).bit DEV.WAKE_CFG.PW_EN = false ∧ (mon 0 fs {}).mgt.injAt = none ∧
       (mon 0 fs {}).mgt.injSlot = none ∧ (mon 0 fs {}).usesInject = true ∧ (mon 0 fs { injAt := some 9 }).mgt.injAt ≠ none) ∧
    ((mon 0 [] { injAt := some 3000000 }).mgt.injAt = some 3000000 ∧ (mon 0 [] { injAt := some 3000001 }).now < 3000001 ∧
      (mon 0 [] {}).bit MGT.MON_CTL.REG_RUN = true ∧ rdy.bit MGT.MON_CTL.REG_RUN = false) ∧
    ((mon 0 [] {}).served 0xE000C = true ∧ (mon 0 [] {}).bit MGT.MON_CTL.REF_EN = false ∧
      (mon 0 [(MGT.MON_CTL.REF_EN, 1)] { refOnAt := 2600000 }).bit MGT.MON_CTL.REF_EN = true ∧
      (mon 0 [] { refOnAt := 2600000 }).mgt.refOnAt + 400000 ≤ (mon 0 [] {}).now ∧ (mon 0 [] {}).now < 2600001 + 400000) := by decide

theorem test_hyps_BistSlicesJudgeTheirParts :
    (let b : BistRun := { startAt := 0, slice := 67, unit := some 67 }
     let s := { dev 2 [(BST.CFG.RUN_SEL, 3)] with bst := { run := [(3, some b)] } }
     Tbl.get none s.bst.run 3 = some b ∧ b.slice < 68 ∧ (s.bistParts b).length = 3 ∧
       (List.zipWith (fun (pq : Nat × Nat) r => (pq.1, pq.2, r)) (s.bistParts b)
         [.logic 1, .analogue (List.replicate 5 (131072, 4 * 4194304 + 9 * 4194304 / 4, 0)), .logic 2]).all kindFits = true ∧
       Tbl.get none rdy.bst.run 3 = none) ∧
    ({ rdy with bst := { monOff := [(3, true)] } }.partPasses 67 1 (.analogue (List.replicate 5 (131072, 26214400, 0))) = true ∧
      rdy.partPasses 67 1 (.analogue (List.replicate 5 (131073, 0, 0))) = false) ∧
    (∀ q ∈ [0, 1, 2], Tbl.get 0 rdy.bst.consec (4 * 67 + q) = 0 ∧
      (let s := { rdy with bst := { consec := [(4 * 67 + q, 1)] } }
       0 < Tbl.get 0 s.bst.consec (4 * 67 + q) ∧ s.isRetired 67 = false)) ∧ rdy.served 0x100010 = true := by decide

/-- A logic part passes with its golden signature, and fails with another. -/
theorem test_hyps_BistSlicesJudgeTheirParts_logic : rdy.partPasses 67 0 (.logic (Config.golden 67 0)) = true ∧
    rdy.partPasses 67 2 (.logic (Config.golden 67 2 + 1)) = false := by
  refine ⟨by simp [State.partPasses], ?_⟩
  simp only [State.partPasses, beq_eq_false_iff_ne, ne_eq]
  omega

/-- READY able to send messages on vector 5 for source `n`, whose STATUS, MASK, ALERT and LOG bits are as given. -/
def evd (n : Nat) (status mask alert log : Nat) : State :=
  let s := dev 2 [(DEV.HOST_STATUS.BME, 1), (EVT.STATUS.STATUS (n / 32), status * 2 ^ (n % 32)), (EVT.MASK.MASK (n / 32), mask * 2 ^ (n % 32)),
    (EVT.ROUTE.VECTOR n, 5), (EVT.ROUTE.ALERT n, alert), (EVT.ROUTE.LOG n, log)]
  { s with host := { s.host with msixEn := true, unmasked := [(5, true)], pba := [] } }

theorem test_hyps_OccurrencesLatchAnnounceAndLog :
    (∀ n ∈ [0, 5, 239, 255], ∀ b ∈ [0, 1], ∀ m ∈ [0, 1], ∀ l ∈ [0, 1], let s := evd n b m 0 l
      n ≠ 240 ∧ s.mgt.dropPend = 0 ∧ s.canStage 1 = true ∧ s.latched n = (b == 1) ∧ s.masked n = (m == 1) ∧
        s.bit (EVT.ROUTE.LOG n) = (l == 1) ∧ s.host.msixEn = true ∧ s.bit DEV.HOST_STATUS.BME = true ∧
        s.bit DEV.HOST_STATUS.D3HOT = false ∧ s.fld DEV.HOST_STATUS.WIDTH ≠ 0 ∧ s.host.fmask = false ∧
        Tbl.get false s.host.unmasked (s.fld (EVT.ROUTE.VECTOR n)) = true) ∧
    (isFaultSource 239 = true ∧ isFaultSource 5 = false ∧ (evd 5 0 0 0 0).bit EVT.FIRST.VALID = false ∧
      (dev 2 [(EVT.FIRST.VALID, 1)]).bit EVT.FIRST.VALID = true) := by decide

theorem test_hyps_StatusAndMaskWritesFollowTheirRules :
    rdy.served (0x110100 + 4 * 7) = true ∧ rdy.served (0x110120 + 4 * 7) = true ∧
    ((evd 255 1 0 0 0).heldSources 7 0 = [] ∧
      (let s := { evd 255 1 0 0 0 with evt := { seen := [(255, 101)] } }
       s.justSeen 255 = true ∧ s.heldSources 7 (2 ^ 31) = [255]) ∧
      Tbl.get 0 (evd 255 1 1 0 0).evt.told 255 ≠ (evd 255 1 1 0 0).now + 1 ∧ rdy.served 0x110004 = true ∧ rdy.cfgUp = true) ∧
    (let s := evd 255 1 1 0 0
     unmaskedSources 7 (s.fld (EVT.MASK.MASK 7)) 0 (s.fld (EVT.STATUS.STATUS 7)) = [255] ∧ s.host.msixEn = true ∧
       s.bit DEV.HOST_STATUS.BME = true ∧ s.bit DEV.HOST_STATUS.D3HOT = false ∧ s.fld DEV.HOST_STATUS.WIDTH ≠ 0 ∧ s.host.fmask = false ∧
       Tbl.get false s.host.unmasked (s.fld (EVT.ROUTE.VECTOR 255)) = true ∧ rdy.host.msixEn = false) ∧
    (let s := { evd 3 1 0 0 0 with host := { mse := true, msixEn := true, pba := [(255, true)] } }
     s.hostUp = true ∧ s.host.fmask = false ∧ s.bit DEV.HOST_STATUS.BME = true ∧ s.host.pba = [(255, true)]) := by decide

theorem test_hyps_AlertIsLowWhileASourceAlerts :
    ((evd 255 1 0 1 0).dev.held = false ∧ (evd 255 1 0 1 0).alertLow = true ∧ (evd 255 0 0 1 0).alertLow = false) ∧
    State.reset.dev.held = false ∧ ({ rdy with dev := { held := true } }).dev.held = true ∧
    ((evd 255 0 0 1 0).masked 255 = false ∧ (evd 255 0 0 1 0).bit (EVT.ROUTE.ALERT 255) = true) := by decide

/-- A block of 64 samples from -2048 to 2047. -/
def block0 : List Int := (List.range 64).map fun i => if i % 2 = 0 then -2048 else 2047 - (i : Int)

theorem test_hyps_BlocksDecodeToWhatTheyEncode : block0.length = 64 ∧ (∀ v ∈ block0, -2048 ≤ v ∧ v < 2048) ∧
    (∀ k ≤ 4, (11 - k) < 12 - k ∧ ((15 = 15) ∨ 15 < 12 - k)) := by decide

theorem test_hyps_EveryBlockFitsItsBudget :
    (∀ b ∈ [0, 63], 33 * (64 - b) ≤ 33 * (64 - b) ∧ b ≤ 63) ∧ chooseMode block0 (33 * 64) 0 ≠ (0, 0) ∧ chooseMode block0 6208 0 = (0, 0) ∧
    (List.replicate 64 block0).length = 64 ∧ (∀ x ∈ List.replicate 64 block0, x.length = 64) ∧ 2112 ≤ 2112 ∧ 6208 ≤ 6208 := by decide

/-! ### Ill-formed commands are refused -/

/-- One bad operand each, part 1. -/
theorem test_ill_formed_refused_1 : (
  [.loadSelfTestDone [.logic (2 ^ 64)] [], .bistSliceDone 0 [.analogue []],
   .bistSliceDone 0 [.analogue [(0, 0, 4096), (0, 0, 0), (0, 0, 0), (0, 0, 0), (0, 0, 0)]], .loadComplete [⟨false, 64, 1, 0⟩],
   .registerWrite (.bar0 (2 ^ 22)) 0, .registerWrite (.bar0 2) 0, .registerWrite (.msixTable 1024) 0,
   .registerWrite .command (2 ^ 32), .loRegisterRead (2 ^ 22), .loRegisterRead 2, .bar0BadAccess false (2 ^ 22) 0,
   .bar0BadAccess false 0 4097, .bar2Read (2 ^ 40) 1, .bar2Read 0 0, .bar2Read 0 4097, .bar2Write (2 ^ 40) [none] false,
   .bar2Write 0 (List.replicate 513 none) false, .bar2Write 0 [] false, .pcieLinkRetrain 4 0, .pcieLinkRetrain 4 6,
   .pcieLinkRetrain 5 1, .imageVerified none false 0 false (List.replicate 49 0), .dramTrainingDone [(12, 0)] [],
   .dramTrainingDone [(0, 4)] [], .dramTrainingDone [] [12], .loadSelfTestDone [] (List.replicate 9 0), .catalogueReinitDone 64,
   .calibrateComplete [] (List.replicate 69 []), .modeReqReset 65536,
   .schedCommit 256, .schedCancel 256, .schedFieldWrite 256 0 0, .schedFieldWrite 0 6 0, .schedFieldWrite 0 0 (2 ^ 32),
   .schedDispatch 256, .schedWindowClose 256, .actionArm 256, .actionDisarm 256, .actionDeal 256, .actionShuffle 256,
   .actionBistSlice 256, .actionMonSeq 256] :
  List Instr).all (fun i => !i.wf) = true := by decide

/-- One bad operand each, part 2. -/
theorem test_ill_formed_refused_2 : (
  [.actionPsrEnter 256, .actionPsrExit 256, .actionRdoStart 256, .actionDramRetrain 256, .actionRefreshMakeup 256,
   .actionTimeMark 256, .shadowFrameStart 4, .shadowFrameEnd 4 0 [] [], .shadowFrameEnd 0 0 [] [], .shadowFrameEnd 0 0 [16384] [], .shuffleSwitch 4, .shuffleRelease 4,
   .bgRunComplete 68 [] [], .trackWindowEnd 64 0, .trackUpdateApply 64, .evaluationInstant (some 8) [],
   .evaluationInstant none [(64, [])], .detectorStuck 128, .trigInActivation 4 0 0, .pinStuck 4, .force 8, .detLevelWrite 128 0 0,
   .detLevelWrite 0 4096 0, .detLevelWrite 0 0 4096, .detHystWrite 128 0, .detHystWrite 0 256, .holdTicksWrite 8 0,
   .holdTicksWrite 0 (2 ^ 32), .holdSamplesWrite 8 0, .holdSamplesWrite 0 (2 ^ 32), .holdCountWrite 8 0, .holdCountWrite 0 (2 ^ 32),
   .rearmPoint (some 8), .holdoffEnd 8, .llSelWrite (2 ^ 32), .trigOutPulse 2, .trigOutPulseEnd 2, .planActivate 64,
   .planDeactivate 64, .planArm 64, .planDisarm 64, .commit 8, .recordEnd 8 0, .recordEnd 0 64, .recordSeal 8 0] :
  List Instr).all (fun i => !i.wf) = true := by decide

/-- One bad operand each, part 3. -/
theorem test_ill_formed_refused_3 : (
  [.recordSeal 0 64, .folioDeadline 64 0, .elasticOvf 64 0, .chDecimWrite 64 0 0, .chDecimWrite 0 65536 0, .chDecimWrite 0 0 65536,
   .chGrantWrite 64 0, .chGrantWrite 0 8192, .accumAddEnd 8, .bankComplete 8, .accFinish 8, .accDiscard 8 0, .accDiscard 0 2,
   .accClrPlane 16, .planeSourceWrite 4 0, .planeSourceWrite 0 (2 ^ 32), .planeXWrite 4 0, .planeXWrite 0 (2 ^ 32), .planeYWrite 4 0,
   .planeYWrite 0 (2 ^ 32), .planeLookWrite 4 0, .planeLookWrite 0 (2 ^ 32), .planeScaleWrite 4 0, .planeScaleWrite 0 (2 ^ 32),
   .curveWrite 256 0, .curveWrite 0 (2 ^ 32), .callReceive 2 false [], .callLost 256 0, .callLost 0 32768, .enumScan 2 [],
   .enumReport 2 [], .enumAssign 2 [], .enumAck 2 [], .enumDone 2 [], .dealArm 2 [], .dealDisarm 2 [], .dealCmd (2 ^ 32),
   .timeMessage 2 [], .statMessage 2 [], .unitPresenceTimeout 0, .unitPresenceTimeout 255, .tokenRequest 2 [] 0, .tokenReply 2 [] 0,
   .tokenSend 2] :
  List Instr).all (fun i => !i.wf) = true := by decide

/-- One bad operand each, part 4. -/
theorem test_ill_formed_refused_4 : (
  [.blockLockAcquired 2, .neighbourAbsent 2, .phyLockLost 12, .phyLockRegained 12, .channelLost 12, .refreshDue 12 0 false,
   .refreshDue 0 4 false, .makeupBurst 12 0, .makeupBurst 0 4, .retrainPauseDone 12 false 0, .retrainPauseDone 0 false 1501,
   .correctedError 12 0, .correctedError 0 4, .uncorrectableError (2 ^ 40), .caParityError 12 0, .caParityError 0 4,
   .rowThrottle 12 0 0 0, .rowThrottle 0 256 0 0, .rowThrottle 0 0 1536 0, .rowThrottle 0 0 0 131072, .migrationRowDone 12, .queueStart 512, .queueStop 512,
   .queueFlush 512, .queueResume 512, .queueDoorbell 512, .compRdWrite 512 0, .compRdWrite 0 (2 ^ 32), .qCfgWrite 512 0,
   .qCfgWrite 0 (2 ^ 32), .qPaceWrite 512 0, .qPaceWrite 0 (2 ^ 32), .qPaceToWrite 512 0, .qPaceToWrite 0 (2 ^ 32), .qCtlWrite 512 0,
   .qCtlWrite 0 (2 ^ 32), .qHeadWrite 512 false 0, .qHeadWrite 0 false (2 ^ 32), .qCompBaseWrite 512 false 0,
   .qCompBaseWrite 0 false (2 ^ 32), .descriptorFetched 512 (List.replicate 32 0), .descriptorFetched 0 (List.replicate 31 0),
   .readbackComplete 512, .hostRequestFailed 512 0, .hostRequestFailed 0 16] :
  List Instr).all (fun i => !i.wf) = true := by decide

/-- One bad operand each, part 5. -/
theorem test_ill_formed_refused_5 : (
  [.paceTimeout 512, .underrun 65536 0, .underrun 0 65536, .ovlSelWrite (2 ^ 32), .seqInterrupt 69, .next 69 false,
   .jump 69 false 0 false, .jump 0 false 32768 false, .call 69 false 0 false, .call 0 false 32768 false, .ret 69 false false,
   .wait 69 false false, .dispatch 69 0 0 false, .dispatch 0 32768 0 false, .dispatch 0 0 16 false, .reti 69 false,
   .illegalNa 69 false, .ctxParity 68, .machineCheck 69 1, .machineCheck 0 0, .machineCheck 0 9, .doubleMachineCheck 68,
   .emergencyShuffle 64, .takeoverSeal 64, .patchWordRewrite 512, .uartFrame (List.replicate 261 0), .monConversionDone [4096],
   .pulseWidthEvent 32, .monCtlWrite (2 ^ 32), .logSelWrite (2 ^ 32), .bistSliceDone 4 [], .sigSelWrite (2 ^ 32), .evtStatusClear 8 0,
   .evtStatusClear 0 (2 ^ 32), .evtMaskWrite 8 0, .evtMaskWrite 0 (2 ^ 32), .trigInDeactivation 4 0 0, .makeupBurstEnd 12 0,
   .makeupBurstEnd 0 4, .linkRereadComplete 512 0, .linkRereadComplete 0 (2 ^ 64), .msixVectorUnmask (some 256),
   .resizableBarWrite 29, .resizableBarWrite 41] :
  List Instr).all (fun i => !i.wf) = true := by decide

theorem test_well_formed_accepted : ([.registerWrite (.bar0 0x3FFFFC) 0xFFFFFFFF, .bar2Write 0 [some 1] true, .schedCommit 255, .queueStart 511,
    .next 68 false, .pcieLinkRetrain 16 5, .resizableBarWrite 40, .callLost 255 32767] : List Instr).all Instr.wf = true := by decide

/-! ### Single steps, with the spec's worked examples -/

/-- What a step answers, when it goes on. -/
def after (s : State) (c : Instr) (p : State → Bool) : Bool :=
  match step { s with pending := c :: s.pending } with
  | .next t => p t && decide (t.pending = s.pending)
  | _ => false

/-- Chapter 7, "a LOSSLESS block at bit level": the header and the first stream bytes. -/
theorem test_coder_bits : (encodeBlock ([-3, 1, 0, -5] ++ List.replicate 60 0) 0 0 2).take 4 = [0x02, 0xFD, 0x4F, 0xC6] := by decide

/-- The same block decoded. -/
theorem test_coder_decodes : ((decodeBlock (encodeBlock ([-3, 1, 0, -5] ++ List.replicate 60 0) 0 0 2)).take 4) =
    [some (-3), some 1, some 0, some (-5)] := by decide

/-- Table 10-9: the shares of the lanes, the record overhead and the display on 12 and 11 channels. -/
theorem test_shares : [shareOf 12 [(388000, 1)], shareOf 11 [(388000, 1)], shareOf 12 [(35328, 10)], shareOf 11 [(35328, 10)],
    shareOf 12 [(15552, 10)], shareOf 11 [(15552, 10)], shareOf 12 [(8000, 1)], shareOf 11 [(8000, 1)]] =
    [32334, 35273, 295, 322, 130, 142, 667, 728] := by decide

/-- Chapter 12, "a 4K panel": the link carries 533.28 MHz at 24 bits over four lanes of HBR2; the palette entry blends. -/
theorem test_display_example : linkCarries 533280 1 2 6 = true ∧ linkCarries 533280 1 1 6 = false ∧ [blend 64 255 998, blend 64 255 508, blend 64 255 620] = [1004, 637, 721] := by
  decide

/-- R345's arithmetic on a raw code of 2190 with offset 14 and gain 0x8100. -/
theorem test_mon_code : monCode 0 [2190] 14 0x8100 = 2193 := by decide

/-- CRC-32 of "123456789" is 0xCBF43926, CRC-16 with polynomial 0x1021 and initial value 0xFFFF is 0x29B1. -/
theorem test_crcs : crc32 [49, 50, 51, 52, 53, 54, 55, 56, 57] = 0xCBF43926 ∧ crc16 [49, 50, 51, 52, 53, 54, 55, 56, 57] = 0x29B1 := by decide

/-- A call is read back from its own bytes, and its check passes (Table 09-3). -/
theorem test_call_bytes : let bs := call0.bytes 0 0
    readCall (callBody bs) = call0 ∧ callCrc bs = crc24 (callBody bs) ∧ bs.length = 24 := by decide

/-- A write of a RW register takes effect, one of a read-only one does not (Table 19-4). -/
theorem test_register_write : after rdy (.registerWrite (.bar0 0x1002C) 41) (fun t => t.fld TIME.EPOCH_LOAD_NUM.NUM == 41) = true ∧
    after rdy (.registerWrite (.bar0 0x10024) 41) (fun t => t.fld TIME.EPOCH_PERIOD.PERIOD == TIME.EPOCH_PERIOD.PERIOD.reset) = true := by decide

/-- A fabric cycle passes on an empty queue; the tenth makes a tick. -/
theorem test_cycle : (match step { rdy with cyc := 9 } with
    | .next t => decide (t.cyc = 0 ∧ t.tick = rdy.tick + 1 ∧ t.now = rdy.now + 1)
    | _ => false) = true := by decide

/-- A commit in READY is taken, a refused one leaves the entry uncommitted (R44). -/
theorem test_commit : after (sch [(TIME.SCHED_ACT.ACTION 5, 12), (TIME.SCHED_TICK_LO.TICK 5, 50)] {}) (.schedCommit 5)
      (fun t => t.committed 5) = true ∧
    after (sch [(TIME.SCHED_ACT.ACTION 5, 13), (TIME.SCHED_TICK_LO.TICK 5, 50)] {}) (.schedCommit 5) (fun t => !t.committed 5) = true := by
  decide

/-- Writing 1 to a latched STATUS bit clears it, 0 leaves it (R411). -/
theorem test_status_clear : after (evd 255 1 0 1 0) (.evtStatusClear 7 (2 ^ 31)) (fun t => !t.latched 255 && !t.alertLow) = true ∧
    after (evd 255 1 0 1 0) (.evtStatusClear 7 1) (fun t => t.latched 255 && t.alertLow) = true := by decide

/-- Unmasking a latched source sends its message on its vector (R412). -/
theorem test_unmask_message : after (evd 255 1 1 0 0) (.evtMaskWrite 7 0) (fun t => t.out.head? == some (.msix 5)) = true := by decide

/-- JUMP taken and not taken, CALL and RET, a RET on an empty stack (R324, R325), from patch RAM word 1. -/
theorem test_micro : after (patched 1 ⟨1, some true, some 0x41FF⟩ {}) (.jump 67 true 0x41FF false) (fun t => (t.sunit 67).pc == 0x41FF) = true ∧
    after (patched 1 ⟨1, some false, some 0x41FF⟩ {}) (.jump 67 false 0x41FF false) (fun t => (t.sunit 67).pc == 0x4002) = true ∧
    after (patched 1 ⟨2, some true, some 0x4100⟩ {}) (.call 67 true 0x4100 false)
      (fun t => decide ((t.sunit 67).pc = 0x4100 ∧ (t.sunit 67).stack = [0x4002])) = true ∧
    after (patched 1 ⟨3, some true, none⟩ {}) (.ret 67 true false)
      (fun t => decide ((t.sunit 67).st = 2 ∧ t.fld (SEQ.UNIT_MC.CAUSE 67) = 4)) = true := by
  decide

/-- START of an IDLE queue waits, START again is refused with 4 (Table 11-10). -/
theorem test_queue_start : after (que queueIdle [] {}) (.queueStart 511) (fun t => t.queueState 511 != queueIdle && t.fld RDO.RESULT.RESULT == 0) = true ∧
    after (que queueRunning [] {}) (.queueStart 511) (fun t => t.fld RDO.RESULT.RESULT == 4 && t.fld RDO.RESULT.QUEUE == 511) = true := by decide

/-- Bytes stored through BAR2 are read back, lowest byte first, and no other byte changes (R9, R427); the row is open. -/
theorem test_bar2_write : after { mem1 with mem := { mem1.mem with open_ := [(896, 1)] } } (.bar2Write 4093 [some 1, some 3, none] false)
    (fun t => t.peek 4093 == 1 && t.peek 4094 == 3 && t.peek 4095 == 0 && t.peek 4096 == 0) = true := by decide

/-- A lock loss and the loss of the channel after 10 us: source 139 + 4 c with KIND 0 (Table 18-7). -/
theorem test_channel_lost : after (mm [] { phyLost := [(11, some 9999)] }) (.channelLost 11)
    (fun t => t.latched (139 + 44) && t.fld (MEM.CH_STATE.STATE 11) == 4 && !t.inService 11) = true := by decide

/-- The power-event notice and the injection delay (Table 14-4, step 3). -/
theorem test_pulse_width : after (mon 0 [(MGT.MON_PW.PIN_EN, 1), (DEV.FEATURES.BITS 0, 32), (MGT.MON_DELAY.INJ_DELAY, 20), (MGT.STATUS.FW_STATE, 2)] {}) (.pulseWidthEvent 1)
    (fun t => t.latched 237 && t.mgt.injAt == some (3000000 + 200)) = true := by decide

/-- A first BIST failure is reported with CONSEC 1, a second one retires the slice (chapter 16's example). -/
theorem test_bist : (let t := rdy.judgePart (41, 1, .analogue [(131073, 0, 0)])
    t.latched 249 && t.fld (BST.PART_STATE.CONSEC 41) == 1 && !t.isRetired 41) = true ∧
    (State.isRetired ({ dev 2 [] with bst := { consec := [(4 * 41 + 1, 1)] } }.judgePart (41, 1, .analogue [(131073, 0, 0)])) 41) = true := by decide

/-- A PSR entry request without a panel that can is answered with the notice (R312). -/
theorem test_psr_enter : after (dsp dspActive [] {}) .dspPsrEnter (fun t => t.latched 218) = true := by decide

/-- GET_STATE at the head is answered over PCIe: BUSY falls, DONE rises, the notice (R342). -/
theorem test_mailbox : after (mbx 2 0x02 [] {} {}) .getState (fun t => t.mgt.reqs.isEmpty && t.fld MGT.MBX_STATUS.DONE == 1 && t.latched 236) = true := by
  decide

/-- A block lock takes a DOWN port to TRAINING (R225). -/
theorem test_block_lock : after (lnk 1 0) (.blockLockAcquired 1) (fun t => t.fld (ENS.PORT_STATUS.STATE 1) == 1) = true := by decide

/-- FORCE on a slot that is not armed is without effect; a mode request for RESET with a wrong key is refused (R152, R393). -/
theorem test_mode_key : after rdy (.modeReqReset 0) (fun t => t.dev.resetAt.isNone) = true ∧
    after rdy (.modeReqReset 0x5AFE) (fun t => t.dev.resetAt.isSome || t.mode == modeLoad) = true := by decide

/-- Even parity over each 24 data bits of a ROM word (R321): bits 24, 48, 49 and 71 set. -/
theorem test_rom_parity : (List.range 4).map (romParity (2 ^ 24 + 2 ^ 48 + 2 ^ 49 + 2 ^ 71)) = [0, 1, 1, 0] := by decide

end Sys2Proof.Tests
end

section
/-!
SUPPORT. Every step from a sound state answers a sound one: one lemma per operation of the model, in the model's order and named after
it. A proof follows its operation: what it does to the state from the inside out, `ite` at a branch and `foldl` at a walk. Only the
operations of the first part touch the three components of `State.sound`.
-/

namespace Sys2Proof.Machine

section
variable {s t : State}

/-- A change of components other than the register file, the cycle and the memory keeps a state sound. -/
theorem State.sound.frame
    {tick now freeCount time sched nv mgt sec evt host dev bst cnv cal trg acq acc ens rdo dsp seq clearedAt cleared out}
    {pending} (h : s.sound) : State.sound
      { s with tick := tick, now := now, freeCount := freeCount, time := time, sched := sched, nv := nv, mgt := mgt, sec := sec,
               evt := evt, host := host, dev := dev, bst := bst, cnv := cnv, cal := cal, trg := trg, acq := acq, acc := acc,
               ens := ens, rdo := rdo, dsp := dsp, seq := seq, clearedAt := clearedAt, cleared := cleared, out := out,
               pending := pending } := h

/-- A change of those and of the memory's components other than the bytes keeps a state sound. -/
theorem State.sound.frameMem
    {tick now freeCount time sched nv mgt sec evt host dev bst cnv cal trg acq acc ens rdo dsp seq clearedAt cleared out}
    {ways capg poison resv reqs held open_ acts actWin raa meters phyLost ue ceTimes paTimes failing spareUsed repl postponed
      burst pause burstAt throttled retiredAt stuck rowAt errAddr spd}
    {pending} (h : s.sound) : State.sound
      { s with tick := tick, now := now, freeCount := freeCount, time := time, sched := sched, nv := nv, mgt := mgt, sec := sec,
               evt := evt, host := host, dev := dev, bst := bst, cnv := cnv, cal := cal, trg := trg, acq := acq, acc := acc,
               ens := ens, rdo := rdo, dsp := dsp, seq := seq, clearedAt := clearedAt, cleared := cleared, out := out,
               pending := pending,
               mem := { s.mem with ways := ways, capg := capg, poison := poison, resv := resv, reqs := reqs, held := held
                                   open_ := open_, acts := acts, actWin := actWin, raa := raa, meters := meters
                                   phyLost := phyLost, ue := ue, ceTimes := ceTimes, paTimes := paTimes
                                   failing := failing, spareUsed := spareUsed, repl := repl, postponed := postponed
                                   burst := burst, pause := pause, burstAt := burstAt, throttled := throttled
                                   retiredAt := retiredAt, stuck := stuck, rowAt := rowAt, errAddr := errAddr
                                   spd := spd } } := h

theorem State.sound.ite {c : Prop} {_ : Decidable c} (hs : s.sound) (ht : t.sound) : (if c then s else t).sound := by
  split
  · exact hs
  · exact ht

theorem State.sound.ite_snd {α : Type} {c : Prop} {_ : Decidable c} {p q : α × State} (hp : p.2.sound) (hq : q.2.sound) :
    (if c then p else q).2.sound := by
  split
  · exact hp
  · exact hq

/-- A walk whose every step keeps a state sound keeps it sound. -/
theorem State.sound.foldl {α : Type} {f : State → α → State} (h : s.sound) (hf : ∀ s x, s.sound → (f s x).sound)
    {l : List α} : (l.foldl f s).sound := List.foldlRecOn l f h fun s hs x _ => hf s x hs

theorem State.sound.of_snd {α : Type} {p : α × State} {a : α} (e : p = (a, t)) (h : p.2.sound) : t.sound := by
  subst e
  exact h

theorem State.sound.of_snd_snd {α β : Type} {p : α × β × State} {a : α} {b : β} (e : p = (a, b, t)) (h : p.2.2.sound) :
    t.sound := by
  subst e
  exact h

theorem State.sound.pair {α : Type} {a : α} (h : s.sound) : (a, s).2.sound := h

theorem State.sound.triple {α β : Type} {a : α} {b : β} (h : s.sound) : (a, b, s).2.2.sound := h

/-- A walk that carries a value beside the state. -/
theorem State.sound.foldl_snd {α β : Type} {f : β × State → α → β × State} {p : β × State} (h : p.2.sound)
    (hf : ∀ p x, p.2.sound → (f p x).2.sound) {l : List α} : (l.foldl f p).2.sound :=
  List.foldlRecOn (motive := fun p => p.2.sound) l f h fun p hp x _ => hf p x hp

theorem State.sound.setF {f : Fld} {v : Nat} (h : s.sound) : (s.setF f v).sound := by
  obtain ⟨hr, hm, hc⟩ := h
  exact ⟨s.setF_sorted f v hr, hm, hc⟩

theorem State.sound.bumpF {f : Fld} {n : Nat} (h : s.sound) : (s.bumpF f n).sound := by
  unfold State.bumpF
  split
  · exact h
  · exact h.setF

theorem State.sound.wrapF {f : Fld} {n : Nat} (h : s.sound) : (s.wrapF f n).sound := by
  unfold State.wrapF
  split
  · exact h
  · exact h.setF

theorem State.sound.setB {f : Fld} {b : Bool} (h : s.sound) : (s.setB f b).sound := h.setF

theorem State.sound.setS {f : Fld} {i : Int} (h : s.sound) : (s.setS f i).sound := h.setF

theorem State.sound.clearFs {fs : List Fld} (h : s.sound) : (s.clearFs fs).sound := h.foldl fun _ _ h => h.setF

theorem State.sound.clearCounts {fs : List Fld} (h : s.sound) : (s.clearCounts fs).sound := (h.clearFs (fs := fs)).frame

theorem State.sound.setDramByte {c a : Nat} {b : Byte} (h : s.sound) : (s.setDramByte c a b).sound := by
  obtain ⟨hr, hm, hc⟩ := h
  exact ⟨hr, s.setDramByte_dramWf c a b hm, hc⟩

theorem State.sound.advance (h : s.sound) : s.advance.sound := by
  obtain ⟨hr, hm, hc⟩ := h
  unfold State.advance
  split
  · next hlt => exact ⟨hr, hm, hlt⟩
  · exact ⟨hr, hm, Nat.zero_lt_succ 9⟩

theorem State.sound.emit {x : Out} (h : s.sound) : (s.emit x).sound := h.frame

/-! ### Register fields and modes -/

theorem State.sound.free (h : s.sound) : s.free.2.sound := h.frame

theorem State.sound.aer {n : Nat} (h : s.sound) : (s.aer n).sound := h.frame

/-! ### The event log -/

theorem State.sound.stageRaw {typ source flags : Nat} {data : List Byte}
    (h : s.sound) : (s.stageRaw typ source flags data).sound :=
    h.frame

theorem State.sound.spendLog {n : Nat} (h : s.sound) : (s.spendLog n).sound := h.frame

theorem State.sound.dropEntry (h : s.sound) : s.dropEntry.sound := h.bumpF.frame

theorem State.sound.stageDropped (h : s.sound) : s.stageDropped.sound := h.spendLog.stageRaw.frame.ite h

theorem State.sound.stageLimited {typ source flags : Nat} {data : List Byte}
    (h : s.sound) : (s.stageLimited typ source flags data).2.sound :=
    State.sound.ite_snd h.stageDropped.spendLog.stageRaw h.stageDropped.dropEntry.frame

theorem State.sound.showLog (h : s.sound) : s.showLog.sound := h.setF.setF

theorem State.sound.commitStaged {n : Nat} (h : s.sound) : (s.commitStaged n).sound := by
  induction n generalizing s with
  | zero => exact h
  | succ n ih =>
    unfold State.commitStaged
    split
    · exact h
    · exact ih h.frame.showLog

theorem State.sound.commitUnits {n : Nat} (h : s.sound) : (s.commitUnits n).sound := h.commitStaged

theorem State.sound.commitAll (h : s.sound) : s.commitAll.sound := h.commitStaged

theorem State.sound.makeRoom {fuel n : Nat} (h : s.sound) : (s.makeRoom fuel n).sound := by
  induction fuel generalizing s with
  | zero => exact h
  | succ fuel ih => exact h.ite (ih h.commitUnits)

theorem State.sound.stageFiller {n : Nat} (h : s.sound) : (s.stageFiller n).sound := by
  induction n generalizing s with
  | zero => exact h
  | succ n ih => exact ih h.makeRoom.frame

theorem State.sound.restage {l : List LogEntry} (h : s.sound) : (s.restage l).sound := by
  induction l generalizing s with
  | nil => exact h
  | cons e l ih => exact ih h.frame

theorem State.sound.setAside {n : Nat} (h : s.sound) : (s.setAside n).sound := h.frame

theorem State.sound.padSeal {n : Nat} (h : s.sound) : (s.padSeal n).sound := h.stageFiller.ite h

theorem State.sound.stageTrust {payload : List Byte} (h : s.sound) : (s.stageTrust payload).2.sound := by
  unfold State.stageTrust
  extract_lets parts n last s2 first go
  have hs2 : s2.sound := h.setAside.spendLog.padSeal.makeRoom
  have hgo : (parts.foldl go (s2, false)).1.sound :=
    List.foldlRecOn (motive := fun p => p.1.sound) parts go hs2 fun p hp d _ => by
      obtain ⟨s3, cont⟩ := p
      have hs3 : s3.sound := hp
      exact hs3.stageRaw
  exact hgo.restage.pair

theorem State.sound.message {vector : Nat} (h : s.sound) : (s.message vector).sound := h.ite (h.frame.ite h.emit)

theorem State.sound.showDetail {n k i a : Nat} (h : s.sound) : (s.showDetail n k i a).sound := h.ite h.setF.setF.setF

theorem State.sound.showEvent {n k i a : Nat} (h : s.sound) : (s.showEvent n k i a).sound := h.showDetail.setF.bumpF.setF

theorem State.sound.noteFirst {n : Nat} (h : s.sound) : (s.noteFirst n).sound := h.setF.setF.setF.frame.ite h

theorem State.sound.latchEvent {n k i a : Nat} (h : s.sound) : (s.latchEvent n k i a).sound := h.showEvent.frame.noteFirst

theorem State.sound.tell {n : Nat} (h : s.sound) : (s.tell n).sound := h.frame.message

theorem State.sound.announce {was : Bool} {n : Nat} (h : s.sound) : (s.announce was n).sound := h.tell.ite h

theorem State.sound.logDropped (h : s.sound) : s.logDropped.sound := h.latchEvent.announce.dropEntry.ite h.latchEvent.announce

theorem State.sound.logEntry {typ source flags : Nat} {data : List Byte}
    (h : s.sound) : (s.logEntry typ source flags data).sound :=
    h.stageLimited.logDropped.ite h.stageLimited

theorem State.sound.logEvent {n k i a a2 : Nat} (h : s.sound) : (s.logEvent n k i a a2).sound := h.logEntry.ite h

theorem State.sound.raise {n k i a a2 : Nat} (h : s.sound) : (s.raise n k i a a2).sound := h.latchEvent.announce.logEvent

theorem State.sound.logMode {left entered cause : Nat} (h : s.sound) : (s.logMode left entered cause).sound := h.logEntry

/-! ### Events -/

theorem State.sound.tellOnce {n : Nat} (h : s.sound) : (s.tellOnce n).sound := h.ite h.tell

theorem State.sound.clearStatus {i v : Nat} (h : s.sound) : (s.clearStatus i v).sound := h.setF.foldl fun _ _ h => h.tellOnce

theorem State.sound.effEvtStatusClear {i v : Nat} (h : s.sound) : (effEvtStatusClear i v s).sound := h.clearStatus.ite h

theorem State.sound.effEvtMaskWrite {i v : Nat} (h : s.sound) : (effEvtMaskWrite i v s).sound :=
  (h.setF.foldl fun _ _ h => h.tellOnce).ite h

theorem State.sound.effEvtClrCounts (h : s.sound) : (effEvtClrCounts s).sound := h.clearCounts.ite h

theorem State.sound.effEvtClrStatus (h : s.sound) : (effEvtClrStatus s).sound := (h.foldl fun _ _ h => h.clearStatus).ite h

/-! ### The scheduler -/

theorem State.sound.setDue {n : Nat} {t : Option Tick} (h : s.sound) : (s.setDue n t).sound := h.frame

theorem State.sound.setLate {n l : Nat} (h : s.sound) : (s.setLate n l).sound := h.frame

theorem State.sound.schedRefused {n kind code : Nat} (h : s.sound) : (s.schedRefused n kind code).sound := h.raise

theorem State.sound.nextOccurrence {n : Nat} {due : Tick} (h : s.sound) : (s.nextOccurrence n due).sound :=
  h.setDue.setLate.ite h.setDue.setLate

theorem State.sound.settleCancel {n : Nat} (h : s.sound) : (s.settleCancel n).sound := h.setF.setF.frame.ite h

theorem State.sound.outcome {n state code : Nat} (h : s.sound) : (s.outcome n state code).sound :=
  (h.setF.setF.setF.ite h.setF.setF).settleCancel

theorem State.sound.stale {n : Nat} {due : Tick} (h : s.sound) : (s.stale n due).sound :=
  (h.bumpF.bumpF.ite h.bumpF).nextOccurrence.outcome.raise

theorem State.sound.dispatchOcc {n : Nat} {due : Tick} {l : Nat} (h : s.sound) : (s.dispatchOcc n due l).sound :=
  h.frame.nextOccurrence

theorem State.sound.judge {n : Nat} {due : Tick} {l : Nat} (h : s.sound) : (s.judge n due l).sound := h.dispatchOcc.ite h.stale

theorem State.sound.markCommitted {n : Nat} (h : s.sound) : (s.markCommitted n).sound := h.setF.setF.clearFs.frame.setDue.setLate

theorem State.sound.commitEntry {n : Nat} {judgeNow : Bool} (h : s.sound) : (s.commitEntry n judgeNow).sound :=
  (h.markCommitted.judge.ite h.markCommitted).ite h.setF.schedRefused

theorem State.sound.writeEntry {n r v : Nat} (h : s.sound) : (s.writeEntry n r v).sound := by
  unfold State.writeEntry
  split
  · exact h.setF
  · exact h.setF
  · exact h.setF.setF
  · exact h.setF
  · exact h.setF.setF
  · exact h.setF
  · exact h

theorem State.sound.putEntry_ {e : SchedImage} {t : Tick} {judgeNow : Bool} (h : s.sound) : (s.putEntry_ e t judgeNow).sound :=
  h.setDue.setLate.setF.writeEntry.writeEntry.writeEntry.writeEntry.writeEntry.writeEntry.commitEntry

theorem State.sound.effSchedCommit {n : Nat} (h : s.sound) : (effSchedCommit n s).sound := h.commitEntry.ite h

theorem State.sound.effSchedCancel {n : Nat} (h : s.sound) : (effSchedCancel n s).sound := h.setDue.setLate.frame.settleCancel.ite h

theorem State.sound.effSchedFieldWrite {n r v : Nat} (h : s.sound) : (effSchedFieldWrite n r v s).sound :=
  (h.schedRefused.ite h.writeEntry).ite h

theorem State.sound.effSchedDispatch {n : Nat} (h : s.sound) : (effSchedDispatch n s).sound := by
  unfold Machine.effSchedDispatch
  split
  · exact h
  · exact h.judge.ite h

theorem State.sound.dropOcc {o : Occ} (h : s.sound) : (s.dropOcc o).sound := h.frame

theorem State.sound.endOcc {o : Occ} {refusal : Option Nat} (h : s.sound) : (s.endOcc o refusal).sound := by
  unfold State.endOcc
  extract_lets s2 s3
  have hs2 : s2.sound := h.dropOcc
  have hs3 : s3.sound := hs2.setF
  split
  · exact hs3.outcome
  · exact hs3.outcome.schedRefused

theorem State.sound.runAction {n action : Nat} {free : Occ → Bool} {act : Occ → State → Option Nat × State} (h : s.sound)
    (ha : ∀ o s, s.sound → (act o s).2.sound) : (s.runAction n action free act).sound := by
  unfold State.runAction
  split
  · exact h
  · exact (ha _ _ h).endOcc.ite h

theorem State.sound.effSchedWindowClose {n : Nat} (h : s.sound) : (effSchedWindowClose n s).sound := by
  unfold Machine.effSchedWindowClose
  split
  · exact h
  · exact h.dropOcc.bumpF.outcome.foldl fun _ _ h => h.raise.ite h.raise

theorem State.sound.idleSchedule (h : s.sound) : s.idleSchedule.sound := h.frame.foldl fun _ _ h => h.setF.setF

/-! ### Converter slices and lane units -/

theorem State.sound.setStep {g : Nat} {st : Option Step} (h : s.sound) : (s.setStep g st).sound := h.frame

theorem State.sound.setBg {sl : Nat} {r : Option Nat} (h : s.sound) : (s.setBg sl r).sound := h.frame

theorem State.sound.retire {sl kind : Nat} (h : s.sound) : (s.retire sl kind).sound := h.frame.setF.setF.setBg.setF.raise

theorem State.sound.startBg {sl : Nat} (h : s.sound) : (s.startBg sl).sound := h.ite h.setBg.setF

theorem State.sound.abortStep {g : Nat} (h : s.sound) : (s.abortStep g).sound := by
  unfold State.abortStep
  split
  · exact h
  · exact h.ite h.setStep.setF.bumpF

theorem State.sound.abortSteps (h : s.sound) : s.abortSteps.sound := h.foldl fun _ _ h => h.abortStep

theorem State.sound.setUnit {u : Nat} {x : SeqUnit} (h : s.sound) : (s.setUnit u x).sound := h.frame

theorem State.sound.seqRequest {u i : Nat} (h : s.sound) : (s.seqRequest u i).sound := h.ite h.setUnit.frame

theorem State.sound.laneRequest {i lane : Nat} (h : s.sound) : (s.laneRequest i lane).sound := by
  unfold State.laneRequest
  split
  · exact h.seqRequest
  · exact h

theorem State.sound.chanRequest {i c : Nat} (h : s.sound) : (s.chanRequest i c).sound := h.foldl fun _ _ h => h.laneRequest

theorem State.sound.leadRequest {c : Nat} (h : s.sound) : (s.leadRequest c).sound := by
  unfold State.leadRequest
  split
  · exact h.laneRequest
  · exact h

theorem State.sound.flagRequest (h : s.sound) : s.flagRequest.sound := h.foldl fun _ _ h => h.laneRequest

theorem State.sound.takeTrap {u t : Nat} (h : s.sound) : (s.takeTrap u t).sound :=
  h.ite (h.setUnit.ite (h.bumpF.setUnit.raise.ite h.bumpF.setUnit))

theorem State.sound.laneTrap {t lane : Nat} (h : s.sound) : (s.laneTrap t lane).sound := by
  unfold State.laneTrap
  split
  · exact h.takeTrap
  · exact h.raise.ite h

theorem State.sound.withdrawUnit {u : Nat} (h : s.sound) : (s.withdrawUnit u).sound := h.setUnit

theorem State.sound.bindLane {lane u : Nat} (h : s.sound) : (s.bindLane lane u).sound := h.setUnit.setF.setF

theorem State.sound.snapLane {l : Nat} (h : s.sound) : (s.snapLane l).sound := h.setF.setB.setF.setF.setF

theorem State.sound.snapSlice {sl : Nat} (h : s.sound) : (s.snapSlice sl).sound := h.setF.setB.setF.setF

theorem State.sound.snapMap (h : s.sound) : s.snapMap.sound := (h.foldl fun _ _ h => h.snapLane).foldl fun _ _ h => h.snapSlice

theorem State.sound.seqSnap (h : s.sound) : s.seqSnap.sound := h.foldl fun _ _ h => h.setF.setF.setF.setB.setF

theorem State.sound.effCnvSnapMap (h : s.sound) : (effCnvSnapMap s).sound := h.snapMap.ite h

theorem State.sound.effCnvClrCounts (h : s.sound) : (effCnvClrCounts s).sound := h.clearCounts.ite h

/-! ### The memory system -/

theorem State.sound.setPoison {c a : Nat} {p : Bool} (h : s.sound) : (s.setPoison c a p).sound := h.ite h.frameMem

theorem State.sound.poisonGranule {c a : Nat} (h : s.sound) : (s.poisonGranule c a).sound := h.foldl fun _ _ h => h.setPoison

theorem State.sound.unmappedAccess {req a : Nat} (h : s.sound) : (s.unmappedAccess req a).sound :=
  h.raise.ite (h.raise.ite (h.raise.ite (h.free.raise.ite h.raise)))

theorem State.sound.poke {a : Nat} {b : Byte} (h : s.sound) : (s.poke a b).sound := by
  unfold State.poke
  split
  · exact h.setDramByte
  · exact h

theorem State.sound.pokeN {a : Nat} {bs : List Byte} (h : s.sound) : (s.pokeN a bs).sound := by
  induction bs generalizing s a with
  | nil => exact h
  | cons b bs ih => exact ih h.poke

theorem State.sound.unpoison {a len : Nat} (h : s.sound) : (s.unpoison a len).sound := by
  unfold State.unpoison
  extract_lets first
  refine h.foldl fun s2 i h2 => ?_
  split
  · exact h2.setPoison
  · exact h2

theorem State.sound.touchPicture {a len : Nat} (h : s.sound) : (s.touchPicture a len).sound := h.frame.ite h

theorem State.sound.showResv (h : s.sound) : s.showResv.sound :=
  (h.setF.setF.setF.foldl fun _ _ h => h.setF).foldl fun _ _ h => h.setF

theorem State.sound.setResv {t : Tbl Resv} (h : s.sound) : (s.setResv t).sound := h.frameMem.showResv

theorem State.sound.reportAdmit {kind id result demand excess : Nat}
    (h : s.sound) : (s.reportAdmit kind id result demand excess).sound :=
    h.setF.setF.setF.setF.setF.setF.foldl fun _ _ h => h.setF

theorem State.sound.admissionRefused {kind id excess : Nat} (h : s.sound) : (s.admissionRefused kind id excess).sound := h.raise

theorem State.sound.judgeAdmission {kind id : Nat} {asks : List (Nat × Resv)} {mapped : Bool} {linkExcess : Nat}
    (h : s.sound) : (s.judgeAdmission kind id asks mapped linkExcess).2.sound := by
  unfold State.judgeAdmission
  extract_lets t demand ceil
  split
  · exact h.reportAdmit.admissionRefused
  · split
    · exact h.reportAdmit.admissionRefused
    · exact State.sound.ite_snd h.reportAdmit.admissionRefused h.reportAdmit.setResv

theorem State.sound.submit {r : AdmReq} (h : s.sound) : (s.submit r).sound := h.frameMem

theorem State.sound.drawMeter {c req len : Nat} (h : s.sound) : (s.drawMeter c req len).sound := h.frameMem.ite h

theorem State.sound.activate {c n row req : Nat} (h : s.sound) : (s.activate c n row req).sound := h.frameMem.bumpF.ite h.frameMem

theorem State.sound.touchRow {c n row req : Nat} (h : s.sound) : (s.touchRow c n row req).sound := (h.ite h.activate).frameMem

theorem State.sound.closeRank {c r : Nat} (h : s.sound) : (s.closeRank c r).sound := h.frameMem

theorem State.sound.access {c b len req : Nat} {wr : Bool} (h : s.sound) : (s.access c b len req wr).sound :=
  h.drawMeter.foldl fun _ _ h => h.foldl fun _ _ h => h.touchRow

theorem State.sound.store {a : Nat} {data : List Byte} {pre : Nat} (h : s.sound) : (s.store a data pre).sound :=
  h.pokeN.unpoison.touchPicture

theorem State.sound.moveBook {p a b : Nat} (h : s.sound) : (s.moveBook p a b).sound := h.frame

theorem State.sound.acknowledge {ack : Option (Nat × Nat × Nat)} (h : s.sound) : (s.acknowledge ack).sound := by
  unfold State.acknowledge
  split
  · exact h.moveBook
  · exact h

theorem State.sound.serveWrite {req a : Nat} {data : List Byte} {pre : Nat} {ack : Option (Nat × Nat × Nat)}
    (h : s.sound) : (s.serveWrite req a data pre ack).sound := by
  unfold State.serveWrite
  split
  · exact h.access.store.acknowledge
  · exact h.unmappedAccess.acknowledge

theorem State.sound.writeGranule {req a : Nat} {data : List Byte} {pre : Nat} {ack : Option (Nat × Nat × Nat)}
    (h : s.sound) : (s.writeGranule req a data pre ack).sound := by
  unfold State.writeGranule
  split
  · exact h.frameMem
  · exact h.serveWrite

theorem State.sound.dramWriteGo {fuel req a : Nat} {data : List Byte} {pre : Nat} (h : s.sound) :
    (State.dramWriteGo fuel s req a data pre).sound := by
  induction fuel generalizing s a data pre with
  | zero => exact h
  | succ fuel ih => exact h.ite (ih h.writeGranule)

theorem State.sound.dramWriteAfter {req a : Nat} {data : List Byte} {pre : Nat}
    (h : s.sound) : (s.dramWriteAfter req a data pre).sound :=
    h.dramWriteGo

theorem State.sound.dramWrite {req a : Nat} {data : List Byte} (h : s.sound) : (s.dramWrite req a data).sound := h.dramWriteAfter

theorem State.sound.readAccess {req a len : Nat} (h : s.sound) : (s.readAccess req a len).sound := by
  unfold State.readAccess
  extract_lets gs s2
  have hs2 : s2.sound := by
    unfold s2
    refine h.foldl fun s3 g h2 => ?_
    split
    · exact h2.access
    · exact h2
  split
  · exact hs2.unmappedAccess
  · exact hs2

theorem State.sound.dramRead {req a len : Nat} (h : s.sound) : (s.dramRead req a len).2.2.sound := h.readAccess

theorem State.sound.bar2Read {a len at_ : Nat} (h : s.sound) : (s.bar2Read a len at_).sound := by
  unfold State.bar2Read
  split
  · exact h.frameMem
  · exact h.dramRead.emit

theorem State.sound.poisonGranuleAt {req a len : Nat} (h : s.sound) : (s.poisonGranuleAt req a len).sound := by
  unfold State.poisonGranuleAt
  split
  · exact (h.access.foldl fun _ _ h => h.setPoison).touchPicture
  · exact h.unmappedAccess

theorem State.sound.poisonWrite {req a len : Nat} (h : s.sound) : (s.poisonWrite req a len).sound := by
  unfold State.poisonWrite
  refine h.foldl fun s2 g h2 => ?_
  dsimp only
  split
  · exact h2.frameMem
  · exact h2.poisonGranuleAt

theorem State.sound.unitRead {req a len : Nat} (h : s.sound) : (s.unitRead req a len).sound := by
  unfold State.unitRead
  refine h.foldl fun s2 g h2 => ?_
  dsimp only
  split
  · exact h2.frameMem
  · exact h2.readAccess

theorem State.sound.serveOne {n : Waiting} (h : s.sound) : (s.serveOne n).sound := by
  unfold State.serveOne
  split
  · exact h.poisonGranuleAt.ite h.serveWrite
  · exact h.bar2Read.ite h.readAccess

theorem State.sound.serveWaiting {fuel c : Nat} {inOrder : Bool} (h : s.sound) : (State.serveWaiting fuel s c inOrder).sound := by
  induction fuel generalizing s with
  | zero => exact h
  | succ fuel ih =>
    unfold State.serveWaiting
    split
    · exact h
    · split
      · exact h
      · exact ih h.frameMem.serveOne

theorem State.sound.resumeChan {c : Nat} (h : s.sound) : (s.resumeChan c).sound := h.serveWaiting

theorem State.sound.resumeAll (h : s.sound) : s.resumeAll.sound := h.foldl fun _ _ h => h.resumeChan

theorem State.sound.showPostponed {c : Nat} (h : s.sound) : (s.showPostponed c).sound := h.setF.setF.ite h.setF

theorem State.sound.setPostponed {c r n : Nat} (h : s.sound) : (s.setPostponed c r n).sound := h.frameMem.showPostponed

theorem State.sound.setBurst {c r v : Nat} (h : s.sound) : (s.setBurst c r v).sound := h.frameMem

theorem State.sound.startBurst {c r : Nat} (h : s.sound) : (s.startBurst c r).sound :=
  h.ite (h.setBurst.ite h.setBurst.bumpF.setPostponed.frameMem.closeRank)

theorem State.sound.effRefreshDue {c r : Nat} {busy : Bool} (h : s.sound) : (effRefreshDue c r busy s).sound :=
  ((h.setPostponed.ite h.startBurst).ite h.closeRank).ite h

theorem State.sound.effMakeupBurst {c r : Nat} (h : s.sound) : (effMakeupBurst c r s).sound := h.startBurst.ite h

theorem State.sound.endBurst {c r : Nat} (h : s.sound) : (s.endBurst c r).sound := h.setBurst.resumeChan

theorem State.sound.effMakeupBurstEnd {c r : Nat} (h : s.sound) : (effMakeupBurstEnd c r s).sound := h.endBurst.ite h

theorem State.sound.restartTraining (h : s.sound) : s.restartTraining.sound := h.setUnit.ite h

theorem State.sound.effActionDramRetrain {n : Nat} (h : s.sound) : (effActionDramRetrain n s).sound :=
  h.runAction fun _ _ h => State.sound.ite_snd h (State.sound.ite_snd h h.frameMem.restartTraining.seqRequest)

theorem State.sound.effActionRefreshMakeup {n : Nat} (h : s.sound) : (effActionRefreshMakeup n s).sound :=
  h.runAction fun _ _ h => State.sound.ite_snd (h.foldl fun _ _ h => h.startBurst) h

theorem State.sound.startWaiting {c : Nat} (h : s.sound) : (s.startWaiting c).sound := h.foldl fun _ _ h => h.startBurst.ite h

theorem State.sound.effRowThrottle {c n req row : Nat} (h : s.sound) : (effRowThrottle c n req row s).sound :=
  h.frameMem.bumpF.raise.ite h

theorem State.sound.effThrottleEnd (h : s.sound) : (effThrottleEnd s).sound := h.frameMem.resumeAll

theorem State.sound.setRank {c r v : Nat} (h : s.sound) : (s.setRank c r v).sound := h.setF

theorem State.sound.rankChange {c r k : Nat} (h : s.sound) : (s.rankChange c r k).sound := h.raise

theorem State.sound.retireRank {c r : Nat} (h : s.sound) : (s.retireRank c r).sound :=
  h.frameMem.setRank.setF.setF.setF.setF.setF.setF.setF.rankChange

theorem State.sound.showMigrating (h : s.sound) : s.showMigrating.sound := h.setB

theorem State.sound.degrade {c p : Nat} (h : s.sound) : (s.degrade c p).sound := h.setRank.rankChange.ite h

theorem State.sound.targetFails {c : Nat} (h : s.sound) : (s.targetFails c).sound :=
  h.frameMem.setF.rankChange.showMigrating.setRank.setRank.degrade.degrade

theorem State.sound.rankFails {c p : Nat} (h : s.sound) : (s.rankFails c p).sound :=
  h.targetFails.ite (h.ite (h.retireRank.ite (h.setRank.retireRank.degrade.ite h.degrade)))

theorem State.sound.effCorrectedError {c r : Nat} (h : s.sound) : (effCorrectedError c r s).sound :=
  (h.frameMem.bumpF.raise.ite h.frameMem.bumpF).ite h

theorem State.sound.copyMigRow {c : Nat} (h : s.sound) : (s.copyMigRow c).sound := h.foldl fun _ _ h => h.touchRow.touchRow

theorem State.sound.effMigrationRowDone {c : Nat} (h : s.sound) : (effMigrationRowDone c s).sound :=
  (h.copyMigRow.frameMem.setF.setF.frameMem.setRank.setF.showMigrating.rankChange.ite h.copyMigRow.frameMem.setF.setF).ite h

theorem State.sound.effPhyLockLost {c : Nat} (h : s.sound) : (effPhyLockLost c s).sound := h.frameMem.ite h

theorem State.sound.dropWaiting {c : Nat} (h : s.sound) : (s.dropWaiting c).sound := by
  unfold State.dropWaiting
  extract_lets mine _ s2
  have hs2 : s2.sound := h.frameMem
  refine hs2.foldl fun s3 x h2 => ?_
  split
  · exact h2
  · exact h2.ite h2.emit

theorem State.sound.effPhyLockRegained {c : Nat} (h : s.sound) : (effPhyLockRegained c s).sound := by
  unfold Machine.effPhyLockRegained
  split
  · exact h.frameMem.serveWaiting.ite h
  · exact h

theorem State.sound.panicUp (h : s.sound) : s.panicUp.sound := h.ite h.setF.setF.bumpF

theorem State.sound.effDisplayPanicRaise (h : s.sound) : (effDisplayPanicRaise s).sound := h.panicUp.setF.ite h

theorem State.sound.effDisplayPanicRelease (h : s.sound) : (effDisplayPanicRelease s).sound := h.setF.setF.setF.resumeAll.ite h

theorem State.sound.afterPanic {before : Bool} (h : s.sound) : (s.afterPanic before).sound := h.resumeAll.ite h

theorem State.sound.effMemClrCounts (h : s.sound) : (effMemClrCounts s).sound := h.clearCounts.ite h

/-! ### The sample coder -/

theorem State.sound.setSlot {k : Nat} {sl : Option Slot} (h : s.sound) : (s.setSlot k sl).sound := h.frame

theorem State.sound.writeCircular {lane base area off : Nat} {bs : List Byte}
    (h : s.sound) : (s.writeCircular lane base area off bs).sound :=
    h.dramWriteAfter.dramWrite

theorem State.sound.appendBlk {pl : Plan} {set pos ch seg : Nat} {g : Seg} {b : Blk} {hold : Bool}
    (h : s.sound) : (s.appendBlk pl set pos ch seg g b hold).2.sound :=
    h.writeCircular

theorem State.sound.putRec {r : Rec} (h : s.sound) : (s.putRec r).sound := h.frame

theorem State.sound.putStored {k key : Nat} {st : Option Stored} (h : s.sound) : (s.putStored k key st).sound := by
  unfold State.putStored
  split
  · exact h.setSlot
  · exact h

theorem State.sound.routeBlk {k key seg : Nat} {st : Stored} {b : Blk} (h : s.sound) : (s.routeBlk k key seg st b).2.sound := by
  unfold State.routeBlk
  extract_lets ch
  split
  · exact h
  · split
    · exact h
    · extract_lets pos
      split
      · extract_lets g hold
        split
        next g' s' e =>
          have hs' := State.sound.of_snd e h.appendBlk
          exact hs'.putRec
      · split
        · exact h
        · split
          next g'2 s'2 e2 =>
            have hs'2 := State.sound.of_snd e2 h.appendBlk
            exact hs'2

theorem State.sound.countBlk {ch k n : Nat} {firstReduced : Bool} (h : s.sound) : (s.countBlk ch k n firstReduced).sound := by
  unfold State.countBlk
  extract_lets s2 s3 m
  have hs2 : s2.sound := h.bumpF.ite (h.bumpF.ite h.bumpF)
  have hs3 : s3.sound := hs2.bumpF.ite hs2
  exact hs3.setF.ite hs3

theorem State.sound.closeBlk {k key seg : Nat} {st : Stored} (h : s.sound) : (s.closeBlk k key seg st).2.sound := by
  unfold State.closeBlk
  extract_lets u b x r was
  split
  · split
    · exact State.sound.ite_snd h.countBlk h.countBlk.routeBlk

theorem State.sound.pushStored {k key : Nat} {st : Stored} {i x : Int} (h : s.sound) : (s.pushStored k key st i x).2.sound :=
  State.sound.ite_snd h (State.sound.ite_snd h.closeBlk h)

theorem State.sound.decimateOne {k key n : Nat} {x : Int} (h : s.sound) : (s.decimateOne k key n x).sound := by
  unfold State.decimateOne
  split
  · exact h
  · split
    · exact h
    · exact h.pushStored.putStored.ite h

theorem State.sound.decimate {k ch n : Nat} {x : Int} (h : s.sound) : (s.decimate k ch n x).sound := by
  unfold State.decimate
  split
  · exact h
  · exact h.foldl fun _ _ h => h.decimateOne

theorem State.sound.showChan {c : Nat} (h : s.sound) : (s.showChan c).sound := by
  unfold State.showChan
  split
  · exact h
  · split
    · exact h
    · exact h.setF.setF.setF.setF.setF.setF.setF.setF.setF.setF.setF.setF.setF.setF.setF.setB

theorem State.sound.putPlan {pl : Plan} (h : s.sound) : (s.putPlan pl).sound := h.frame

theorem State.sound.putChan {pl : Plan} {c : Chan} (h : s.sound) : (s.putChan pl c).sound := h.putPlan.frame.showChan

theorem State.sound.codResult {c field r : Nat} (h : s.sound) : (s.codResult c field r).sound :=
  h.setF.setF.setF.ite h.setF.setF.setF.raise

theorem State.sound.noteWrite {pl : Plan} {field : Nat} {old new : Chan} {accepted : Bool}
    (h : s.sound) : (s.noteWrite pl field old new accepted).sound :=
    h.frame

theorem State.sound.refuseWrites {p : Nat} (h : s.sound) : (s.refuseWrites p).sound := by
  unfold State.refuseWrites
  extract_lets l asked _ _ s2 s3 s4
  have hs2 : s2.sound := h.frameMem
  have hs3 : s3.sound := hs2.ite hs2.setF
  have hs4 : s4.sound := by
    unfold s4
    refine hs3.foldl fun s5 w h2 => ?_
    split
    · exact h2
    · exact h2.putPlan.frame.showChan
  exact hs4.foldl fun _ _ h => h.codResult

theorem State.sound.acceptWrites {p : Nat} (h : s.sound) : (s.acceptWrites p).sound := by
  unfold State.acceptWrites
  extract_lets l _ s2
  have hs2 : s2.sound := h.frame
  refine hs2.foldl fun s3 w h2 => ?_
  split
  · exact h2
  · split
    · exact h2
    · exact h2.codResult.setF.submit.ite h2.putChan.codResult

theorem State.sound.effChDecimWrite {c dm1 phi : Nat} (h : s.sound) : (effChDecimWrite c dm1 phi s).sound := by
  unfold Machine.effChDecimWrite
  split
  · split
    · exact h.codResult
    · split
      · exact h.codResult
      · exact (h.noteWrite.codResult.ite h.codResult).ite (h.codResult.ite h.noteWrite.putChan.codResult)
  · exact h

theorem State.sound.effChGrantWrite {c g : Nat} (h : s.sound) : (effChGrantWrite c g s).sound := by
  unfold Machine.effChGrantWrite
  split
  · split
    · exact h.codResult
    · split
      · exact h.codResult
      · extract_lets v new bad
        split
        · exact h.codResult.ite h.noteWrite.codResult
        · exact h.codResult.ite (h.noteWrite.codResult.setF.submit.ite h.noteWrite.putChan.codResult)
  · exact h

theorem State.sound.effCodClrCounts (h : s.sound) : (effCodClrCounts s).sound := (h.foldl fun _ _ h => h.clearCounts).ite h

/-! ### Trust sessions -/

theorem State.sound.setSessions {k : Nat} {l : List Session} (h : s.sound) : (s.setSessions k l).sound := by
  unfold State.setSessions
  extract_lets _ s2 leaving
  have hs2 : s2.sound := h.frame
  split
  · exact hs2.setF.setF.setF
  · exact hs2.setF.setF.setF.setF

theorem State.sound.putSession {k : Nat} {x : Session} (h : s.sound) : (s.putSession k x).sound := h.setSessions

theorem State.sound.logClose {k : Nat} {x : Session} {incomplete : Bool} {n : Nat} {td : List Byte}
    (h : s.sound) : (s.logClose k x incomplete n td).sound :=
    h.stageTrust

theorem State.sound.closeOld {k : Nat} (h : s.sound) : (s.closeOld k).sound := by
  unfold State.closeOld
  split
  · exact h
  · exact (h.foldl fun _ _ h => h.logClose).setSessions

theorem State.sound.openSession {k plan why : Nat} (h : s.sound) : (s.openSession k plan why).sound :=
  h.stageTrust.setSessions.closeOld

theorem State.sound.sessionCommit {k kk : Nat} (h : s.sound) : (s.sessionCommit k kk).2.sound := by
  unfold State.sessionCommit
  split
  · exact h.pair
  · exact h.putSession.openSession.pair.ite_snd h.putSession.pair

theorem State.sound.checkpoint {k : Nat} {x : Session} (h : s.sound) : (s.checkpoint k x).sound := h.ite h.stageTrust.putSession

theorem State.sound.sessionSeal {k id i accession : Nat} {tag : List Byte}
    (h : s.sound) : (s.sessionSeal k id i accession tag).sound := by
  unfold State.sessionSeal
  split
  · exact h
  · exact h.putSession.checkpoint.closeOld

theorem State.sound.sessionResult {k lastAccession : Nat} {data : List Byte}
    (h : s.sound) : (s.sessionResult k lastAccession data).2.sound := by
  unfold State.sessionResult
  split
  · exact h
  · exact h.putSession

theorem State.sound.closeAll {k : Nat} (h : s.sound) : (s.closeAll k).sound := (h.foldl fun _ _ h => h.logClose).setSessions

/-! ### The accumulator and the imager planes -/

theorem State.sound.setAcc {k : Nat} {a : Acc} (h : s.sound) : (s.setAcc k a).sound := h.frame

theorem State.sound.showAcc {k : Nat} (h : s.sound) : (s.showAcc k).sound := h.setF.setB

theorem State.sound.freeBank {k b : Nat} (h : s.sound) : (s.freeBank k b).sound := h.setAcc.setF.showAcc

theorem State.sound.accSelect {k : Nat} {pl : Plan} {t : Trig} {accession : Nat} {lateArm : Bool}
    (h : s.sound) : (s.accSelect k pl t accession lateArm).2.sound := by
  unfold State.accSelect
  split
  · exact h
  · extract_lets test
    split
    · exact h.bumpF
    · exact State.sound.ite_snd h.bumpF (h.setAcc.setF.setF.setF.foldl fun _ _ h => h.leadRequest)

theorem State.sound.setBin {pl : Plan} {b i : Nat} {v : Int} (h : s.sound) : (s.setBin pl b i v).sound := h.dramWrite.ite h.frame

theorem State.sound.addBin {k : Nat} {pl : Plan} {b i : Nat} {first : Bool} {a : Int}
    (h : s.sound) : (s.addBin k pl b i first a).sound :=
    h.setBin.ite (h.ite (h.ite h.setAcc).setBin)

theorem State.sound.beginBank {k : Nat} {pl : Plan} {b : Nat} (h : s.sound) : (s.beginBank k pl b).sound := h.setAcc

theorem State.sound.addChan {k : Nat} {pl : Plan} {b pos ch : Nat} {c rho : Int} {first : Bool} {n : Nat}
    (h : s.sound) : (s.addChan k pl b pos ch c rho first n).sound :=
    h.foldl fun _ _ h => h.addBin

theorem State.sound.endAdd {k : Nat} {pl : Plan} {d : Add} (h : s.sound) : (s.endAdd k pl d).sound :=
  ((h.beginBank.ite (h.unitRead.ite h)).foldl fun _ _ h => h.addChan).setAcc.foldl fun _ _ h => h.leadRequest

theorem State.sound.completeBank {k : Nat} {pl : Plan} {b : Nat} {trunc : Bool}
    (h : s.sound) : (s.completeBank k pl b trunc).sound :=
    h.sessionResult.setAcc.setF.setF.showAcc.raise

theorem State.sound.effBankComplete {k : Nat} (h : s.sound) : (effBankComplete k s).sound := by
  unfold Machine.effBankComplete
  split
  · exact h
  · split
    · exact h
    · split
      · exact h.completeBank
      · exact h

theorem State.sound.effAccFinish {k : Nat} (h : s.sound) : (effAccFinish k s).sound := by
  unfold Machine.effAccFinish
  split
  · split
    · exact h.setAcc.setF
    · exact h
  · exact h

theorem State.sound.effAccDiscard {k b : Nat} (h : s.sound) : (effAccDiscard k b s).sound := h.freeBank.ite h

theorem State.sound.addPart {k : Nat} {pl : Plan} {d : Add} (h : s.sound) : (s.addPart k pl d).sound :=
  h.foldl fun _ _ h => h.addChan

theorem State.sound.interruptAdd {k : Nat} {pl : Plan} {d : Add} (h : s.sound) : (s.interruptAdd k pl d).sound :=
  (h.addPart.setAcc.freeBank.ite h.addPart.setAcc.completeBank).raise

theorem State.sound.effAccumAddEnd {k : Nat} (h : s.sound) : (effAccumAddEnd k s).sound := by
  unfold Machine.effAccumAddEnd
  split
  · exact h
  · split
    · exact h.interruptAdd.ite (h.endAdd.ite h)
    · exact h

theorem State.sound.cutAdds {k : Nat} (h : s.sound) : (s.cutAdds k).sound := h.foldl fun _ _ h => h.effAccumAddEnd

theorem State.sound.interruptAdds {k : Nat} (h : s.sound) : (s.interruptAdds k).sound := by
  unfold State.interruptAdds
  extract_lets s2
  have hs2 : s2.sound := h.cutAdds
  split
  · exact hs2
  · split
    · exact hs2
    · refine hs2.foldl fun s3 b h2 => ?_
      split
      · exact h2.interruptAdd
      · exact h2

theorem State.sound.settleBanks {k : Nat} {pl : Plan} (h : s.sound) : (s.settleBanks k pl).sound :=
  h.foldl fun _ _ h => (h.freeBank.ite h.completeBank).ite h

theorem State.sound.setPlane {p : Nat} {x : Plane} (h : s.sound) : (s.setPlane p x).sound := h.frame

theorem State.sound.markChanged (h : s.sound) : s.markChanged.sound := h.frame

theorem State.sound.hitCell {p col row : Nat} (h : s.sound) : (s.hitCell p col row).sound :=
  h.markChanged.setF.ite h.markChanged.setPlane

theorem State.sound.hitRow {p col : Nat} {row : Int} (h : s.sound) : (s.hitRow p col row).sound := h.hitCell.ite (h.hitCell.ite h)

theorem State.sound.imageSample {j : Imaging} {x : Int} (h : s.sound) : (s.imageSample j x).2.sound := by
  unfold State.imageSample
  extract_lets p at_ col row row2 s2
  have hs2 : s2.sound := by
    unfold s2
    split
    · exact h
    · split
      · exact h.foldl fun _ _ h => h.hitCell
      · exact h.hitRow
  exact hs2

theorem State.sound.imageRun {fuel ch : Nat} {j : Imaging} (h : s.sound) : (State.imageRun fuel s ch j).2.sound := by
  induction fuel generalizing s j with
  | zero => exact h
  | succ fuel ih =>
    unfold State.imageRun
    split
    · exact h
    · split
      · exact ih h.imageSample
      · exact h

theorem State.sound.pumpImages (h : s.sound) : s.pumpImages.sound := by
  refine h.foldl fun s p h => ?_
  extract_lets ch jobs
  split
  next kept s2 e =>
    have hs2 : s2.sound := State.sound.of_snd e (State.sound.foldl_snd (p := ([], s)) h fun _ _ h => h.imageRun)
    exact hs2.ite hs2.frame

theorem State.sound.imageCommit {pl : Plan} {t : Trig} (h : s.sound) : (s.imageCommit pl t).sound := by
  unfold State.imageCommit
  refine h.foldl fun s2 p h2 => ?_
  split
  · extract_lets +onlyGivenNames ch
    split
    split
    exact h2.bumpF.ite h2.setPlane.bumpF
  · exact h2

theorem State.sound.dropImages {p : Nat} (h : s.sound) : (s.dropImages p).sound := h.foldl fun _ _ h => h.setPlane.ite h

theorem State.sound.dropChannelImages {c : Nat} (h : s.sound) : (s.dropChannelImages c).sound :=
  h.foldl fun _ _ h => h.setPlane.ite h

theorem State.sound.zeroPlane {p : Nat} (h : s.sound) : (s.zeroPlane p).sound := h.setPlane.setF.markChanged

theorem State.sound.clearPlanes {p : Nat} (h : s.sound) : (s.clearPlanes p).sound := h.foldl fun _ _ h => h.zeroPlane.ite h

theorem State.sound.deliver {c n : Nat} {xs : List Int} (h : s.sound) : (s.deliver c n xs).sound := h.frame

theorem State.sound.accResult {p r : Nat} (h : s.sound) : (s.accResult p r).sound := h.setF.setF.ite h.setF.setF.raise

theorem State.sound.planeWrite {p r v cause : Nat} (h : s.sound) : (s.planeWrite p r v cause).sound :=
  (h.accResult.ite (h.accResult.ite h.setPlane.setF.accResult)).ite h

theorem State.sound.effPlaneSourceWrite {p v : Nat} (h : s.sound) : (effPlaneSourceWrite p v s).sound := h.planeWrite

theorem State.sound.effPlaneXWrite {p v : Nat} (h : s.sound) : (effPlaneXWrite p v s).sound := h.planeWrite

theorem State.sound.effPlaneYWrite {p v : Nat} (h : s.sound) : (effPlaneYWrite p v s).sound := h.planeWrite

theorem State.sound.effPlaneLookWrite {p v : Nat} (h : s.sound) : (effPlaneLookWrite p v s).sound := h.planeWrite

theorem State.sound.effPlaneScaleWrite {p v : Nat} (h : s.sound) : (effPlaneScaleWrite p v s).sound := h.planeWrite

theorem State.sound.effCurveWrite {i v : Nat} (h : s.sound) : (effCurveWrite i v s).sound := h.frame.ite h

theorem State.sound.effAccClrPlane {mask : Nat} (h : s.sound) : (effAccClrPlane mask s).sound :=
  (h.foldl fun _ _ h => h.setPlane.setF.ite h).ite h

theorem State.sound.effAccClrCounts (h : s.sound) : (effAccClrCounts s).sound := h.clearCounts.ite h

/-! ### Calibration -/

theorem State.sound.noteItem {step q item : Nat} {agreed : Bool} {v : List Int}
    (h : s.sound) : (s.noteItem step q item agreed v).sound :=
    h.frame

theorem State.sound.logCal {kind : Nat} (h : s.sound) : (s.logCal kind).sound := h.frame.logEntry

theorem State.sound.storePowerUp (h : s.sound) : s.storePowerUp.sound := h.frame.logCal

theorem State.sound.storeBg {sl : Nat} {values : List (List Int)} (h : s.sound) : (s.storeBg sl values).sound := h.free.frame.logCal

theorem State.sound.setSliceValue {sl q : Nat} {v : List Int} (h : s.sound) : (s.setSliceValue sl q v).sound :=
  h.frame.ite (h.frame.ite h.frame)

theorem State.sound.setSlotValue {l q : Nat} {v : List Int} (h : s.sound) : (s.setSlotValue l q v).sound :=
  h.frame.ite (h.frame.ite (h.frame.ite h.frame))

theorem State.sound.maxF {f : Fld} {v : Nat} (h : s.sound) : (s.maxF f v).sound := h.setF.ite h

theorem State.sound.markSlice {sl : Nat} (h : s.sound) : (s.markSlice sl).sound := h.setB

theorem State.sound.markChan {c : Nat} (h : s.sound) : (s.markChan c).sound := h.setB

theorem State.sound.adoptOne {step item q : Nat} {adopted : Option (List Int)}
    (h : s.sound) : (s.adoptOne step item q adopted).sound := by
  unfold State.adoptOne
  split
  · extract_lets bad s2
    have hs2 : s2.sound := h.noteItem
    split
    · exact hs2.setSliceValue.setB.maxF
    · split
      · exact hs2.frame.foldl fun _ _ h => (h.setF.ite h).maxF
      · exact hs2.frame.setB.maxF.ite ((hs2.setSlotValue.setF.ite hs2.setSlotValue).maxF.ite hs2)

theorem State.sound.setTrunkValue {g q : Nat} {v : Int} (h : s.sound) : (s.setTrunkValue g q v).sound := h.frame.ite h.frame

theorem State.sound.adoptTrunkOne {g q : Nat} {adopted : Option Int} (h : s.sound) : (s.adoptTrunkOne g q adopted).sound :=
  (h.noteItem.setF.ite h.noteItem).setTrunkValue.maxF

theorem State.sound.adoptTrunk {g : Nat} {js : List (Option (List Int))} (h : s.sound) : (s.adoptTrunk g js).2.sound :=
  h.adoptTrunkOne.adoptTrunkOne

theorem State.sound.finishItem (h : s.sound) : s.finishItem.sound := h.wrapF.setF

theorem State.sound.adoptItem {m : CalMeasure} (h : s.sound) : (s.adoptItem m).2.sound := by
  unfold State.adoptItem
  split
  extract_lets js
  split
  · exact h.adoptTrunk
  · exact State.sound.foldl_snd (p := (0, s)) h fun _ _ h => h.adoptOne

theorem State.sound.clearSliceMarks {sl : Nat} (h : s.sound) : (s.clearSliceMarks sl).sound := h.clearFs.frame.ite h.clearFs

theorem State.sound.passRun {sl : Nat} {js : List (Option (List Int))} (h : s.sound) : (s.passRun sl js).sound :=
  (h.foldl fun _ _ h => h.setSliceValue).clearSliceMarks.setF.setF.setF.storeBg

theorem State.sound.failRun {sl : Nat} (h : s.sound) : (s.failRun sl).sound :=
  h.setF.setF.bumpF.raise.retire.ite h.setF.setF.bumpF.raise

theorem State.sound.effBgRunComplete {sl : Nat} {attempts : List (List (Int × Int))} {loopBack : LoopBack}
    (h : s.sound) : (effBgRunComplete sl attempts loopBack s).sound := by
  unfold Machine.effBgRunComplete
  split
  · split
    · exact h
    · exact h.setBg.bumpF.passRun.ite h.setBg.bumpF.failRun
  · exact h

theorem State.sound.calSnap (h : s.sound) : s.calSnap.sound := by
  unfold State.calSnap
  extract_lets s2 s3 s4
  have hs2 : s2.sound := h.foldl fun _ _ h => h.setS.setF.setS.foldl fun _ _ h => h.setF
  have hs3 : s3.sound := hs2.foldl fun _ _ h => h.setS.setB
  have hs4 : s4.sound := hs3.foldl fun _ _ h => h.setS.setS
  exact hs4.foldl fun _ _ h => h.setS.setF.setS.setS.setS.setS

theorem State.sound.effCalSnap (h : s.sound) : (effCalSnap s).sound := h.calSnap.ite h

theorem State.sound.effCalClrCounts (h : s.sound) : (effCalClrCounts s).sound := h.clearCounts.ite h

/-! ### The correction chain -/

theorem State.sound.convert {c n : Nat} {raws : List Nat} (h : s.sound) : (s.convert c n raws).sound := h.frame

theorem State.sound.setWin {c : Nat} {w : Option TrackWin} (h : s.sound) : (s.setWin c w).sound := h.frame

theorem State.sound.trackSamples {c n : Nat} {xs : List Int} (h : s.sound) : (s.trackSamples c n xs).sound := by
  unfold State.trackSamples
  split
  · split
    · exact h.setWin.ite h.setWin
    · exact h.setWin
  · exact h.setWin

/-! ### Records and folios -/

theorem State.sound.setBook {p i v : Nat} (h : s.sound) : (s.setBook p i v).sound := h.frame

theorem State.sound.countBook {p i : Nat} (h : s.sound) : (s.countBook p i).sound := h.setBook

theorem State.sound.writeCtrl {pl : Plan} {f v : Nat} {ack : Option (Nat × Nat × Nat)}
    (h : s.sound) : (s.writeCtrl pl f v ack).sound :=
    h.writeGranule

theorem State.sound.setSealTick {p f : Nat} {t : Option Tick} (h : s.sound) : (s.setSealTick p f t).sound := h.frame

theorem State.sound.moveFolio {pl : Plan} {f to_ : Nat} (h : s.sound) : (s.moveFolio pl f to_).sound :=
  h.writeCtrl.ite h.writeCtrl.setSealTick

theorem State.sound.reserveFolio {k : Nat} {pl : Plan} {i f : Nat} (h : s.sound) : (s.reserveFolio k pl i f).sound :=
  (h.writeCtrl.setSealTick.countBook.raise.ite h.writeCtrl.setSealTick.countBook.raise).ite h.writeCtrl.setSealTick

theorem State.sound.reserveSet {k : Nat} {pl : Plan} {j : Nat} (h : s.sound) : (s.reserveSet k pl j).sound :=
  (h.foldl fun _ _ h => h.reserveFolio).frame

theorem State.sound.releaseSet {pl : Plan} {j : Nat} (h : s.sound) : (s.releaseSet pl j).sound := h.foldl fun _ _ h => h.moveFolio

theorem State.sound.showFifo {k : Nat} (h : s.sound) : (s.showFifo k).sound := by
  unfold State.showFifo
  split
  · exact h
  · extract_lets n s2 s3
    have hs2 : s2.sound := h.setF
    have hs3 : s3.sound := hs2.setF.ite hs2
    split
    · exact hs3.setF
    · exact hs3

theorem State.sound.countT {k i : Nat} (h : s.sound) : (s.countT k i).sound := h.frame

theorem State.sound.writePersist {kind v : Nat} (h : s.sound) : (s.writePersist kind v).sound := h.frame.logEntry

theorem State.sound.showAccession (h : s.sound) : s.showAccession.sound := h.setF

theorem State.sound.reserveBlock (h : s.sound) : s.reserveBlock.sound := h.writePersist.frame.showAccession

theorem State.sound.takeAccession (h : s.sound) : s.takeAccession.2.sound := (h.reserveBlock.ite h).frame.showAccession

theorem State.sound.regather {k key : Nat} {pl : Plan} {st : Stored} {later : List (List Blk)}
    (h : s.sound) : (s.regather k key pl st later).sound := by
  unfold State.regather
  extract_lets n st0 ch
  split
  · exact h
  · split
    · exact h.putStored
    · next set _ _ =>
      extract_lets r
      have hr : r.2.sound := by
        refine State.sound.foldl_snd h fun x seg hx => State.sound.foldl_snd hx fun y b hy => ?_
        exact hy.appendBlk (pl := pl) (set := set) (hold := true)
      exact hr.putStored

theorem State.sound.commitChan {k set : Nat} {pl : Plan} {t : Trig} {trick session : Nat} {accumulated lateArm : Bool} {c : Chan}
    (h : s.sound) : (s.commitChan k set pl t trick session accumulated lateArm c).sound := by
  unfold State.commitChan
  split
  · exact h
  · extract_lets key
    split
    · exact h
    · exact h.takeAccession.frame.regather

theorem State.sound.takeTrick {t : Trig} (h : s.sound) : (s.takeTrick t).2.sound := by
  unfold State.takeTrick
  split
  · exact h
  · exact h.wrapF

theorem State.sound.commitOne {k : Nat} (h : s.sound) : (s.commitOne k).sound := by
  unfold State.commitOne
  split
  · exact h
  · split
    · split
      · exact h
      · extract_lets +onlyGivenNames late s2
        have hs2 : s2.sound := h.setSlot
        split
        next trick s3 e =>
        have hs3 := State.sound.of_snd e hs2.takeTrick
        extract_lets +onlyGivenNames first
        split
        next sel s4 e =>
        have hs4 := (State.sound.of_snd e hs3.accSelect).imageCommit (pl := ‹Plan›) (t := ‹Trig›)
        extract_lets +onlyGivenNames s5
        split
        next sid s6 e =>
        have hs6 := State.sound.of_snd e hs4.sessionCommit
        exact (hs6.foldl fun _ _ h => h.commitChan.chanRequest).pumpImages.showFifo
    · exact h

theorem State.sound.effCommit {k : Nat} (h : s.sound) : (effCommit k s).sound := h.commitOne

theorem State.sound.effRecordEnd {k ch : Nat} (h : s.sound) : (effRecordEnd k ch s).sound := by
  unfold Machine.effRecordEnd
  split
  · exact h.putRec.chanRequest.ite h
  · exact h

theorem State.sound.chargeClose {req area : Nat} {g : Seg} (h : s.sound) : (s.chargeClose req area g).sound := by
  unfold State.chargeClose
  split
  · exact h
  · split
    · exact h.drawMeter
    · exact h

theorem State.sound.sealRec {r : Rec} (h : s.sound) : (s.sealRec r).sound := by
  unfold State.sealRec
  split
  · exact h
  · exact (h.foldl fun _ _ h => h.chargeClose.dramWrite).dramWrite.writeGranule.setSealTick.sessionSeal.frame

theorem State.sound.dropStreams {k : Nat} (h : s.sound) : (s.dropStreams k).sound := by
  unfold State.dropStreams
  split
  · exact h
  · exact h.setSlot

theorem State.sound.holdFolio {pl : Plan} {f : Nat} (h : s.sound) : (s.holdFolio pl f).sound :=
  h.moveFolio.setF.ite (h.frame.setF.ite h.setF)

theorem State.sound.releaseFolio {pl : Plan} {f : Nat} (h : s.sound) : (s.releaseFolio pl f).sound := h.moveFolio.setF.ite h.setF

theorem State.sound.askFolio {op : Nat} (h : s.sound) : (s.askFolio op).sound := by
  unfold State.askFolio
  split
  · exact h.setF
  · exact h.setF.frame

theorem State.sound.doFolioOp {x : Nat × Nat × Nat} (h : s.sound) : (s.doFolioOp x).sound := by
  unfold State.doFolioOp
  split
  · exact h
  · exact h.holdFolio.ite h.releaseFolio

theorem State.sound.doFolioOps (h : s.sound) : s.doFolioOps.sound := h.ite (h.frame.foldl fun _ _ h => h.doFolioOp).setF

theorem State.sound.effFolioHold (h : s.sound) : (effFolioHold s).sound := h.askFolio.ite h

theorem State.sound.effFolioRelease (h : s.sound) : (effFolioRelease s).sound := h.askFolio.ite h

theorem State.sound.effFolioDeadline {p f : Nat} (h : s.sound) : (effFolioDeadline p f s).sound := by
  unfold Machine.effFolioDeadline
  split
  · exact h
  · extract_lets key
    split
    · exact h
    · exact h.frame.writeCtrl.countBook.raise.ite h

theorem State.sound.snapBooks (h : s.sound) : s.snapBooks.sound :=
  ((h.foldl fun _ _ h => h.foldl fun _ _ h => h.setF.setF).foldl fun _ _ h => h.foldl fun _ _ h => h.setF).setF.setF

theorem State.sound.closeSnap (h : s.sound) : s.closeSnap.sound := by
  unfold State.closeSnap
  split
  · exact h
  · exact h.setF.frame.ite h

theorem State.sound.alsoSnap {old : State} {k at_ : Nat} (h : s.sound) : (s.alsoSnap old k at_).sound := by
  unfold State.alsoSnap
  split
  · exact h
  · exact (h.foldl fun _ _ h => h.setF.setF).ite h

theorem State.sound.effBookSnap (h : s.sound) : (effBookSnap s).sound := h.snapBooks.setF.frame.closeSnap.ite h

theorem State.sound.truncateAt {k key seg : Nat} {u0 u1 : Int} (h : s.sound) : (s.truncateAt k key seg u0 u1).sound := h.frame

theorem State.sound.loseBlocks {k key seg : Nat} {u0 u1 : Int} (h : s.sound) : (s.loseBlocks k key seg u0 u1).sound := by
  unfold State.loseBlocks
  split
  · exact h
  · split
    · exact h
    · exact h.putStored.truncateAt.ite h.putStored

theorem State.sound.dropBlocks {k key seg : Nat} {u0 u1 : Int} (h : s.sound) : (s.dropBlocks k key seg u0 u1).sound := by
  unfold State.dropBlocks
  split
  · exact h
  · split
    · exact h
    · exact h.putStored.truncateAt

theorem State.sound.effElasticOvf {lane n : Nat} (h : s.sound) : (effElasticOvf lane n s).sound := by
  unfold Machine.effElasticOvf
  extract_lets ch seg s'
  have hs' : s'.sound := by
    unfold s'
    split
    · exact h
    · split
      · exact h
      · refine h.foldl fun s2 e h2 => ?_
        dsimp only
        split
        · exact h2
        · exact h2.ite h2.dropBlocks
  exact hs'.laneTrap.ite h

/-! ### Plans -/

theorem State.sound.changeMode {to_ cause : Nat} (h : s.sound) : (s.changeMode to_ cause).sound :=
  h.setF.setF.setF.ite h.setF.setF.setF.setF.raise.logMode

theorem State.sound.requestDone {target : Nat} (h : s.sound) : (s.requestDone target).sound := h.setF.frame.ite h

theorem State.sound.answerHost {plan op result : Nat} (h : s.sound) : (s.answerHost plan op result).sound := h.setF.setF.ite h

theorem State.sound.endDeal {id outcome lateBy : Nat} (h : s.sound) : (s.endDeal id outcome lateBy).sound := h.frame.setF.setF

theorem State.sound.answer {r : AdmReq} {op code : Nat} (h : s.sound) : (s.answer r op code).sound := by
  unfold State.answer
  split
  · exact h.answerHost
  · split
    · exact h.endOcc
    · exact h
  · split
    · exact h.endDeal
    · exact h
  · exact h

theorem State.sound.freeSlot {k : Nat} (h : s.sound) : (s.freeSlot k).sound := by
  unfold State.freeSlot
  split
  · exact h.setSlot
  · extract_lets s2 s3 _ s4 s5 s6 s7 _
    have hs2 : s2.sound := h.settleBanks.closeAll
    have hs3 : s3.sound := hs2.foldl fun _ _ h => h.frame
    have hs4 : s4.sound := hs3.frame
    have hs5 : s5.sound := hs4.setSlot
    have hs6 : s6.sound := hs5.setResv
    have hs7 : s7.sound := hs6.clearFs
    split
    · exact hs7.frameMem.answer.ite hs7
    · exact hs7

theorem State.sound.freeIfDone {k : Nat} (h : s.sound) : (s.freeIfDone k).sound := by
  unfold State.freeIfDone
  split
  · exact h.freeSlot.ite h
  · exact h

theorem State.sound.settle (h : s.sound) : s.settle.sound := by
  unfold State.settle
  extract_lets s2 s3
  have hs2 : s2.sound := h.foldl fun _ _ h => h.freeIfDone
  exact hs2.changeMode.snapMap.seqSnap.requestDone.ite hs2

theorem State.sound.freeSets {k gen : Nat} (h : s.sound) : (s.freeSets k gen).sound := by
  unfold State.freeSets
  split
  · exact h
  · split
    · exact h
    · exact h.setSlot.foldl fun _ _ h => h.releaseSet

theorem State.sound.releaseIfJudged {k : Nat} (h : s.sound) : (s.releaseIfJudged k).sound := by
  unfold State.releaseIfJudged
  split
  · exact h
  · extract_lets done late s2 s3
    have hs2 : s2.sound := h.setSlot
    have hs3 : s3.sound := hs2.foldl fun _ _ h => h.freeSets
    split
    · exact hs3.setSlot.freeSets.dropStreams.ite hs3
    · exact hs3.ite hs3.dropStreams

theorem State.sound.clearForce {k : Nat} (h : s.sound) : (s.clearForce k).sound := h.frame.setF

theorem State.sound.disturb {pl : Plan} (h : s.sound) : (s.disturb pl).sound := h.frame

theorem State.sound.showArmed {k : Nat} {b : Bool} (h : s.sound) : (s.showArmed k b).sound := h.setB.setB

theorem State.sound.dropCalls {k : Nat} (h : s.sound) : (s.dropCalls k).sound := h.frame

theorem State.sound.disarm {k : Nat} (h : s.sound) : (s.disarm k).sound := by
  unfold State.disarm
  split
  · split
    · extract_lets s2 s3 s4 s5
      have hs2 : s2.sound := h.setSlot.dropCalls
      have hs3 : s3.sound := (hs2.ite hs2.clearForce).showArmed.disturb
      have hs4 : s4.sound := hs3.clearFs
      have hs5 : s5.sound := hs4.foldl fun _ _ h => h.chanRequest
      exact hs5.releaseIfJudged.dropImages.acceptWrites
    · exact h
  · exact h

theorem State.sound.showSlot {k : Nat} {pl : Plan} (h : s.sound) : (s.showSlot k pl).sound := by
  unfold State.showSlot
  extract_lets s2 s3 s4 s5 s6 s7 s8 s9 s10 s11 s12 s13
  have hs2 : s2.sound := h.setF.setF.setF
  have hs3 : s3.sound := hs2.setF.clearFs
  have hs4 : s4.sound := hs3.setF.setF
  have hs5 : s5.sound := hs4.setB.setB
  have hs6 : s6.sound := hs5.setB.setF.setF
  have hs7 : s7.sound := hs6.setF.setF
  have hs8 : s8.sound := hs7.setF.setF
  have hs9 : s9.sound := hs8.setF.setF
  have hs10 : s10.sound := hs9.setF
  have hs11 : s11.sound := hs10.setB.setB.setB
  have hs12 : s12.sound := hs11.setB.setF
  have hs13 : s13.sound := hs12.setF.setF.setF
  exact hs13.setF.clearFs

theorem State.sound.startInstants {k : Nat} {pl : Plan} (h : s.sound) : (s.startInstants k pl).sound := by
  unfold State.startInstants
  split
  · exact h.setSlot
  · exact h

theorem State.sound.install {k : Nat} {pl : Plan} (h : s.sound) : (s.install k pl).sound := by
  unfold State.install
  extract_lets resG resD n s2 s3 _ s4 s5 _ s6 s7 _ s8 _ s9 s10
  have hs2 : s2.sound := h.setSlot
  have hs3 : s3.sound := hs2.startInstants
  have hs4 : s4.sound := hs3.frame
  have hs5 : s5.sound := hs4.showSlot
  have hs6 : s6.sound := hs5.frame
  have hs7 : s7.sound := hs6.foldl fun _ _ h => ((h.setF.ite h).frame.ite (h.setF.ite h)).ite h
  have hs8 : s8.sound := hs7.frame
  have hs9 : s9.sound := hs8.frame
  have hs10 : s10.sound := hs9.foldl fun _ _ h => h.showChan.setWin
  exact hs10.clearPlanes

theorem State.sound.putInForce {pl : Plan} (h : s.sound) : (s.putInForce pl).sound :=
  (h.foldl fun _ _ h => h.frame).foldl fun _ _ h => h.showChan

theorem State.sound.doArm {k : Nat} {pl : Plan} {lateArm : Bool} (h : s.sound) : (s.doArm k pl lateArm).2.sound := by
  unfold State.doArm
  extract_lets +onlyGivenNames pl2
  split
  · extract_lets s2 gen per first streams resG resD past sl' s3 s4 trg s5 s6 s7 s8 s9
    have hs2 : s2.sound := h.refuseWrites.reserveSet
    have hs3 : s3.sound := hs2.setSlot
    have hs4 : s4.sound := hs3.setResv
    have hs5 : s5.sound := hs4.frame
    have hs6 : s6.sound := hs5.showArmed.clearFs
    have hs7 : s7.sound := hs6.putInForce.disturb.showFifo
    have hs8 : s8.sound := hs7.foldl fun _ _ h => h.chanRequest
    have hs9 : s9.sound := hs8.changeMode.ite hs8
    exact hs9.openSession.pair
  · exact h.raise

theorem State.sound.askArm {r : AdmReq} {lateArm : Bool} (h : s.sound) : (s.askArm r lateArm).2.sound := by
  unfold State.askArm
  split
  · exact h
  · exact State.sound.ite_snd h.submit h.doArm
  · exact h

theorem State.sound.hostAsk {p op : Nat} (h : s.sound) : (s.hostAsk p op).2.sound :=
  State.sound.ite_snd h.setF.setF.setF h.setF.setF.setF.setF

theorem State.sound.effPlanActivate {p : Nat} (h : s.sound) : (effPlanActivate p s).sound :=
  (h.hostAsk.setF.submit.ite h.hostAsk).ite h

theorem State.sound.effPlanArm {p : Nat} (h : s.sound) : (effPlanArm p s).sound := by
  unfold Machine.effPlanArm
  split
  · split
    next ok s2 e =>
      have hs2 := State.sound.of_snd e h.hostAsk
      split
      · split
        next c s' e2 =>
          have hs' := State.sound.of_snd e2 hs2.askArm
          exact hs'.answerHost
        next s'2 e3 =>
          have hs'2 := State.sound.of_snd e3 hs2.askArm
          exact hs'2.setF
      · exact hs2
  · exact h

theorem State.sound.disarmPlan {p : Nat} (h : s.sound) : (s.disarmPlan p).sound := by
  unfold State.disarmPlan
  split
  · exact h.disarm.settle
  · exact h

theorem State.sound.effPlanDisarm {p : Nat} (h : s.sound) : (effPlanDisarm p s).sound := by
  unfold Machine.effPlanDisarm
  split
  · split
    next ok s2 e =>
      have hs2 := State.sound.of_snd e h.hostAsk
      split
      · split
        · exact hs2.answerHost
        · exact hs2.disarmPlan.answerHost
      · exact hs2
  · exact h

theorem State.sound.startLeaving {p : Nat} (h : s.sound) : (s.startLeaving p).sound := by
  unfold State.startLeaving
  split
  · exact h
  · extract_lets s2
    have hs2 : s2.sound := h.disarm
    split
    · exact hs2.setSlot.setSessions.settle
    · exact hs2

theorem State.sound.effPlanDeactivate {p : Nat} (h : s.sound) : (effPlanDeactivate p s).sound := by
  unfold Machine.effPlanDeactivate
  split
  · split
    next ok s2 e =>
      have hs2 := State.sound.of_snd e h.hostAsk
      exact (hs2.answerHost.ite (hs2.answerHost.ite (hs2.setF.submit.startLeaving.ite hs2.setF.submit))).ite hs2
  · exact h

theorem State.sound.popReq (h : s.sound) : s.popReq.sound := h.frameMem

theorem State.sound.armAfter {r : AdmReq} (h : s.sound) : (s.armAfter r).sound := by
  unfold State.armAfter
  split
  · split
    next c s' e =>
      have hs' := State.sound.of_snd e h.askArm
      exact hs'.answer
    next s'2 e2 =>
      have hs'2 := State.sound.of_snd e2 h.askArm
      exact hs'2
  · exact h.answer

theorem State.sound.decideActivation {r : AdmReq} (h : s.sound) : (s.decideActivation r).sound := by
  unfold State.decideActivation
  split
  · exact (h.popReq.raise.ite h.popReq).answer
  · exact h.ite (h.popReq.judgeAdmission.install.armAfter.ite h.popReq.judgeAdmission.answer)
  · exact h.popReq

theorem State.sound.decideGrant {r : AdmReq} (h : s.sound) : (s.decideGrant r).sound := by
  unfold State.decideGrant
  extract_lets s2 s3
  have hs2 : s2.sound := h.popReq
  have hs3 : s3.sound := hs2.ite hs2.setF
  split
  · exact hs3
  · split
    · split
      · exact hs3
      · extract_lets g ask
        split
        next res s4 e =>
          have hs4 := State.sound.of_snd e hs3.judgeAdmission
          exact hs4.setSlot.putChan.ite hs4.codResult
    · exact hs3.putChan
    · exact hs3

theorem State.sound.decideArm {r : AdmReq} (h : s.sound) : (s.decideArm r).sound := by
  unfold State.decideArm
  extract_lets s2
  have hs2 : s2.sound := h.popReq
  split
  · extract_lets ask
    split
    next res s3 e =>
      have hs3 := State.sound.of_snd e hs2.judgeAdmission
      exact hs3.doArm.answer.ite hs3.answer
  · exact hs2.answer
  · exact hs2.answer

theorem State.sound.decideLeave {r : AdmReq} (h : s.sound) : (s.decideLeave r).sound := by
  unfold State.decideLeave
  split
  · exact h.popReq.answer
  · split
    · exact h.ite h.startLeaving
    · exact h

theorem State.sound.initCatalogue {pl : Plan} (h : s.sound) : (s.initCatalogue pl).sound :=
  (h.dramWrite.foldl fun _ _ h => h.setBook).setBook.setBook.frame.setF

theorem State.sound.effCatalogueReinitDone {p : Nat} (h : s.sound) : (effCatalogueReinitDone p s).sound := by
  unfold Machine.effCatalogueReinitDone
  split
  · exact h
  · exact h.initCatalogue.ite h

theorem State.sound.effActionArm {n : Nat} (h : s.sound) : (effActionArm n s).sound := by
  unfold Machine.effActionArm
  split
  · exact h
  · split
    · extract_lets p r begin_
      split
      · exact h.endOcc
      · split
        · exact h.frame.submit
        · split
          next c s' e =>
            have hs' := State.sound.of_snd e h.frame.askArm
            exact hs'.answer
          next s'2 e2 =>
            have hs'2 := State.sound.of_snd e2 h.frame.askArm
            exact hs'2
    · exact h

theorem State.sound.effActionDisarm {n : Nat} (h : s.sound) : (effActionDisarm n s).sound := by
  unfold Machine.effActionDisarm
  refine h.runAction fun o s2 h2 => ?_
  split
  · exact h2
  · exact h2.disarmPlan

theorem State.sound.effRecordSeal {k ch : Nat} (h : s.sound) : (effRecordSeal k ch s).sound := by
  unfold Machine.effRecordSeal
  split
  · exact h.sealRec.dropStreams.settle
  · exact h

/-! ### The composer -/

theorem State.sound.take {f : Fld} {v : Nat} (h : s.sound) : (s.take f v).2.sound := h.setF

theorem State.sound.applyPlane {p r v : Nat} (h : s.sound) : (s.applyPlane p r v).sound := by
  unfold State.applyPlane
  extract_lets zeroIf
  split
  · exact (h.take.setPlane.ite h.take).zeroPlane.ite (h.take.setPlane.ite h.take)
  · exact h.take.take.zeroPlane.ite h.take.take
  · exact h.take.take.zeroPlane.ite h.take.take
  · exact h.setF.setF.setF.setF
  · exact h.setF

theorem State.sound.applyPending (h : s.sound) : s.applyPending.sound := by
  unfold State.applyPending
  extract_lets s2 s3
  have hs2 : s2.sound := h.foldl fun _ _ h => by
    extract_lets x t1 t2
    have h2 : t2.sound := (h.foldl fun _ _ h => h.applyPlane.markChanged).setF
    exact (h2.zeroPlane.ite h2).setPlane
  have hs3 : s3.sound := hs2.foldl fun _ _ h => h.setF.markChanged
  exact hs3.frame.setF

theorem State.sound.decayPlane {p : Nat} (h : s.sound) : (s.decayPlane p).sound :=
  h.ite (h.setPlane.ite (h.setPlane.ite (h.ite h.markChanged).setPlane))

theorem State.sound.writeSurface {n : Tbl (Tbl Nat)} {surf : Nat} (h : s.sound) : (s.writeSurface n surf).sound :=
  h.foldl fun _ _ h => h.dramWrite.dramWrite.ite h.dramWrite

theorem State.sound.writeCopy {p : Nat} (h : s.sound) : (s.writeCopy p).sound := h.dramWrite.foldl fun _ _ h => h.dramWrite

theorem State.sound.tear {surf : Nat} (h : s.sound) : (s.tear surf).sound := h.frame

theorem State.sound.takeBoundary (h : s.sound) : s.takeBoundary.sound := h.frame

theorem State.sound.composeStep4 {n : Tbl (Tbl Nat)} {surf : Nat} (h : s.sound) : (s.composeStep4 n surf).sound :=
  h.frame.tear.writeSurface.foldl fun _ _ h => h.writeCopy.ite h

theorem State.sound.composeFrame (h : s.sound) : s.composeFrame.sound := by
  unfold State.composeFrame
  extract_lets s2
  have hs2 : s2.sound := h.applyPending.foldl fun _ _ h => h.decayPlane
  exact (hs2.frame.setF.frame.ite hs2.frame.setF.composeStep4).ite hs2.bumpF

theorem State.sound.effComposerFrame (h : s.sound) : (effComposerFrame s).sound :=
  (h.takeBoundary.bumpF.raise.ite h.takeBoundary.composeFrame).ite h

theorem State.sound.effComposerFrameDone (h : s.sound) : (effComposerFrameDone s).sound := by
  unfold Machine.effComposerFrameDone
  split
  · exact h
  · exact h
  · exact h.ite h.frame.setF.setF.wrapF

theorem State.sound.stopComposer (h : s.sound) : s.stopComposer.sound := h.frame.setF.setResv

/-! ### The readout engine -/

theorem State.sound.setQueue {q : Nat} {x : Queue} (h : s.sound) : (s.setQueue q x).sound := h.frame

theorem State.sound.setBankState {p b v : Nat} (h : s.sound) : (s.setBankState p b v).sound := by
  unfold State.setBankState
  split
  · exact h.setF
  · exact h.frame

theorem State.sound.releaseBank {p b : Nat} (h : s.sound) : (s.releaseBank p b).sound := by
  unfold State.releaseBank
  split
  · exact h.freeBank
  · exact h.frame.setBankState

theorem State.sound.showQueue {q : Nat} (h : s.sound) : (s.showQueue q).sound := by
  unfold State.showQueue
  extract_lets x s2 s3 s4 s5 show_
  have hs2 : s2.sound := h.setF.ite h
  have hs3 : s3.sound := hs2.setB.setB
  have hs4 : s4.sound := hs3.setB.setF
  have hs5 : s5.sound := hs4.setF.setB
  split
  · exact hs5.setF.setF.setF
  · split
    · exact hs5.setF.setF.setF
    · exact hs5

theorem State.sound.issue {q kind addr len be : Nat} {dev : Bool} (h : s.sound) : (s.issue q kind addr len be dev).sound :=
  h.setQueue.ite h.setQueue.emit

theorem State.sound.fetchDesc {q : Nat} (h : s.sound) : (s.fetchDesc q).sound := h.issue

theorem State.sound.reread {q : Nat} (h : s.sound) : (s.reread q).sound := h.issue

theorem State.sound.readBack {q kind : Nat} {d : Desc} (h : s.sound) : (s.readBack q kind d).sound := h.issue

theorem State.sound.endDesc {q : Nat} {d : Desc} (h : s.sound) : (s.endDesc q d).sound := h.setQueue.readBack

theorem State.sound.returnItem {q i : Nat} (h : s.sound) : (s.returnItem q i).sound := by
  unfold State.returnItem
  split
  · exact h
  · exact h.frame.moveFolio.ite (h.setBankState.ite h)

theorem State.sound.abandon {q : Nat} (h : s.sound) : (s.abandon q).sound :=
  (h.foldl fun _ _ h => h.returnItem).setQueue.ite h.setQueue

theorem State.sound.dropBytes {q : Nat} (h : s.sound) : (s.dropBytes q).sound := h.setQueue

theorem State.sound.setQueueState {q v : Nat} (h : s.sound) : (s.setQueueState q v).sound := h.setF.setF

theorem State.sound.haltQueue {q cause : Nat} (h : s.sound) : (s.haltQueue q cause).sound :=
  h.abandon.setQueueState.setF.setF.bumpF.showQueue.raise

theorem State.sound.idleQueue {q : Nat} (h : s.sound) : (s.idleQueue q).sound :=
  h.abandon.dropBytes.setQueueState.clearFs.setQueue.showQueue

theorem State.sound.endFlush {q : Nat} (h : s.sound) : (s.endFlush q).sound := h.setQueue

theorem State.sound.paceOff {q : Nat} {since : Option Nat} (h : s.sound) : (s.paceOff q since).sound := by
  unfold State.paceOff
  extract_lets x
  split
  · exact (h.setQueue.endDesc.ite h.setQueue).showQueue
  · exact h.setQueue.showQueue

theorem State.sound.repaceQueue {q : Nat} (h : s.sound) : (s.repaceQueue q).sound := by
  unfold State.repaceQueue
  extract_lets x st av since on
  split
  · split
    · extract_lets l s2 _
      have hs2 : s2.sound := h.setQueue
      split
      · split
        · exact hs2.endFlush.showQueue.ite hs2.setQueue.endDesc.showQueue
        · exact hs2.endFlush.showQueue
      · exact hs2.showQueue
    · exact h.paceOff.ite h.setQueue.showQueue
  · exact h.showQueue.ite h

theorem State.sound.repace (h : s.sound) : s.repace.sound := h.foldl fun _ _ h => h.repaceQueue

theorem State.sound.readItem {req off n : Nat} {l : List Piece} (h : s.sound) : (State.readItem req l off n s).2.2.sound := by
  induction l generalizing off n s with
  | nil => exact h
  | cons p l ih =>
    unfold State.readItem
    split
    · exact h
    · split
      · exact ih h
      · refine ih ?_
        split
        · exact h.readAccess
        · exact h

theorem State.sound.poisonAt {a : Nat} (h : s.sound) : (s.poisonAt a).sound := by
  unfold State.poisonAt
  split
  · exact h.setPoison
  · exact h

theorem State.sound.writeRequest {q : Nat} {d : Desc} {r : Nat × List (Byte × Bool)}
    (h : s.sound) : (s.writeRequest q d r).sound :=
    ((h.dramWrite.foldl fun _ _ h => h.poisonAt.ite h).ite h.dramWrite).ite (h.emit.ite h)

theorem State.sound.showLinkCeil (h : s.sound) : s.showLinkCeil.sound := (h.ite h.setF).setF

theorem State.sound.withdrawQueue {q : Nat} (h : s.sound) : (s.withdrawQueue q).sound := h.setResv.setF.setQueue.showLinkCeil.raise

theorem State.sound.judgeGuarantees (h : s.sound) : s.judgeGuarantees.sound :=
  h.showLinkCeil.foldl fun _ _ h => h.withdrawQueue.ite h

theorem State.sound.effPcieLinkRetrain {width speed : Nat} (h : s.sound) : (effPcieLinkRetrain width speed s).sound :=
  h.setF.setF.judgeGuarantees.ite h

theorem State.sound.readHead {q key : Nat} (h : s.sound) : (s.readHead q key).sound := h.foldl fun _ _ h => h.readAccess

theorem State.sound.takeItem {q key : Nat} {it : Item} (h : s.sound) : (s.takeItem q key it).sound := by
  unfold State.takeItem
  extract_lets x s2
  have hs2 : s2.sound := by
    unfold s2
    split
    · exact h.moveFolio.ite (h.setBankState.ite h)
    · exact h
  exact hs2.setQueue

theorem State.sound.itemDone {q : Nat} {d : Desc} {it : Item} (h : s.sound) : (s.itemDone q d it).sound := by
  unfold State.itemDone
  extract_lets x x2 s2 av
  have hs2 : s2.sound := h.setQueue
  split
  · exact hs2.endDesc
  · split
    · exact hs2.setQueue.endDesc
    · split
      · exact hs2.endDesc
      · split
        · exact hs2.setQueue.endDesc.ite (hs2.endDesc.ite hs2)
        · exact hs2.setQueue.endDesc.ite (hs2.endDesc.ite hs2)

theorem State.sound.burst {q : Nat} {d : Desc} {it : Item} (h : s.sound) : (s.burst q d it).sound := by
  unfold State.burst
  extract_lets n pos it2
  split
  next bs bad s2 e =>
    have hs2 := State.sound.of_snd_snd e h.readItem
    extract_lets reqs s3 x notice
    have hs3 : s3.sound := hs2.foldl fun _ _ h => h.writeRequest
    split
    · extract_lets x2 s4 _ s5 s6 s7
      have hs4 : s4.sound := hs3.setQueue
      have hs5 : s5.sound := hs4.frame
      have hs6 : s6.sound := hs5.raise.ite hs5
      have hs7 : s7.sound := hs6.setQueue.readBack.ite hs6
      exact hs7.itemDone.ite hs7

theorem State.sound.effReadoutBurst (h : s.sound) : (effReadoutBurst s).sound := by
  unfold Machine.effReadoutBurst
  split
  · extract_lets s2
    have hs2 : s2.sound := h.repace
    split
    · exact hs2
    · split
      · exact hs2.burst.repace.showQueue
      · exact (hs2.haltQueue.ite hs2.endDesc.showQueue).ite hs2.readHead.takeItem.burst.repace.showQueue
      · exact hs2
  · exact h

theorem State.sound.deliverItem {q i : Nat} {keep : Bool} (h : s.sound) : (s.deliverItem q i keep).sound := by
  unfold State.deliverItem
  split
  · exact h
  · exact h.frame.moveFolio.ite (h.releaseBank.ite h)

theorem State.sound.completeItems {q : Nat} {d : Desc} (h : s.sound) : (s.completeItems q d).sound :=
  (h.foldl fun _ _ h => h.deliverItem).setQueue.ite (h.foldl fun _ _ h => h.deliverItem).setQueue.bumpF

theorem State.sound.park {q : Nat} (h : s.sound) : (s.park q).sound := h.setQueueState.setF.reread.ite h.setQueueState

theorem State.sound.follow {q link : Nat} (h : s.sound) : (s.follow q link).sound := h.setQueue.setQueueState.fetchDesc

theorem State.sound.leaveDesc {q : Nat} {d : Desc} (h : s.sound) : (s.leaveDesc q d).sound :=
  ((h.setQueue.endFlush.ite h.setQueue).park.ite (h.setQueue.endFlush.ite h.setQueue).follow).showQueue

theorem State.sound.putEntry {q : Nat} {d : Desc} {half : Bool} (h : s.sound) : (s.putEntry q d half).sound := by
  unfold State.putEntry
  extract_lets a dev b s2 _ s3 s4
  have hs2 : s2.sound := h.dramWrite.ite (h.emit.ite h)
  have hs3 : s3.sound := hs2.wrapF.setQueue
  have hs4 : s4.sound := hs3.message.ite hs3
  exact h.haltQueue.ite (hs4.showQueue.ite hs4.leaveDesc)

theorem State.sound.dueEntry {q : Nat} {d : Desc} {half : Bool} (h : s.sound) : (s.dueEntry q d half).sound :=
  h.setQueue.showQueue.ite h.putEntry

theorem State.sound.popWait {q : Nat} (h : s.sound) : (s.popWait q).sound := h.setQueue

theorem State.sound.fullBack {q : Nat} {d : Desc} (h : s.sound) : (s.fullBack q d).sound :=
  h.setQueue.ite h.completeItems.repace.dueEntry

theorem State.sound.effReadbackComplete {q : Nat} (h : s.sound) : (effReadbackComplete q s).sound := by
  unfold Machine.effReadbackComplete
  split
  · exact h
  · split
    · exact h.ite (h.popWait.dueEntry.ite h.popWait.fullBack)
    · exact h

theorem State.sound.effCompRdWrite {q v : Nat} (h : s.sound) : (effCompRdWrite q v s).sound := by
  unfold Machine.effCompRdWrite
  split
  · extract_lets v2 s2 next _
    have hs2 : s2.sound := h.setF.setF
    split
    · exact h.setF.setF
    · split
      · exact hs2.ite (hs2.setQueue.putEntry.fullBack.ite hs2.setQueue.putEntry)
      · exact hs2
  · exact h

theorem State.sound.startDesc {q : Nat} {d : Desc} (h : s.sound) : (s.startDesc q d).sound := h.setQueue.ite h.setQueue

theorem State.sound.effDescriptorFetched {q : Nat} {data : List Byte} (h : s.sound) : (effDescriptorFetched q data s).sound := by
  unfold Machine.effDescriptorFetched
  extract_lets x s2 r d
  have hs2 : s2.sound := h.popWait
  have hr : r.2.2.sound := by
    unfold r
    split
    · exact hs2.dramRead
    · exact hs2
  split
  · exact h.ite (hr.haltQueue.ite (hr.haltQueue.ite hr.startDesc.repace.showQueue))
  · exact h

theorem State.sound.effLinkRereadComplete {q link : Nat} (h : s.sound) : (effLinkRereadComplete q link s).sound := by
  unfold Machine.effLinkRereadComplete
  extract_lets x s2 r link2
  have hs2 : s2.sound := h.popWait
  have hr : r.2.2.sound := by
    unfold r
    split
    · exact hs2.dramRead
    · exact hs2
  split
  · exact h.ite (hr.haltQueue.ite ((hr.setF.reread.ite hr).showQueue.ite hr.follow.showQueue))
  · exact h

theorem State.sound.reissue {q : Nat} (h : s.sound) : (s.reissue q).sound := by
  unfold State.reissue
  split
  · exact h
  · exact (h.setQueue.emit.ite h.setQueue).ite h

theorem State.sound.reissueAll (h : s.sound) : s.reissueAll.sound := h.foldl fun _ _ h => h.reissue

theorem State.sound.noteCompletion {cause : Nat} (h : s.sound) : (s.noteCompletion cause).sound :=
  h.frame.ite (h.aer.ite (h.frame.ite h.aer))

theorem State.sound.effHostRequestFailed {q cause : Nat} (h : s.sound) : (effHostRequestFailed q cause s).sound := by
  unfold Machine.effHostRequestFailed
  extract_lets x
  split
  · exact h
  · exact (h.noteCompletion.setQueue.bumpF.ite h.noteCompletion.haltQueue).ite h

theorem State.sound.rdoAccept (h : s.sound) : s.rdoAccept.sound := h.setF

theorem State.sound.rdoRefuse {q code : Nat} (h : s.sound) : (s.rdoRefuse q code).sound := h.setF.setF

theorem State.sound.askGuarantee {q : Nat} (h : s.sound) : (s.askGuarantee q).sound := h.setQueue.submit.ite h

theorem State.sound.startQueue {q : Nat} (h : s.sound) : (s.startQueue q).sound := by
  unfold State.startQueue
  extract_lets x head s2 s3
  have hs3 : s3.sound := h.setQueue.clearFs
  exact hs3.askGuarantee.setQueueState.fetchDesc.repace.showQueue

theorem State.sound.resumeQueue {q : Nat} (h : s.sound) : (s.resumeQueue q).sound :=
  h.dropBytes.setQueueState.setF.fetchDesc.showQueue

theorem State.sound.ringDoorbell {q : Nat} (h : s.sound) : (s.ringDoorbell q).sound := h.reread.showQueue.ite (h.setF.ite h)

theorem State.sound.effQueueStart {q : Nat} (h : s.sound) : (effQueueStart q s).sound :=
  (h.startQueue.rdoAccept.ite h.rdoRefuse).ite h

theorem State.sound.effQueueStop {q : Nat} (h : s.sound) : (effQueueStop q s).sound := (h.ite h.idleQueue).setQueue.rdoAccept.ite h

theorem State.sound.effQueueResume {q : Nat} (h : s.sound) : (effQueueResume q s).sound :=
  (h.resumeQueue.rdoAccept.ite h.rdoRefuse).ite h

theorem State.sound.startFlush {q : Nat} (h : s.sound) : (s.startFlush q).sound := by
  unfold State.startFlush
  extract_lets x av s2 _
  have hs2 : s2.sound := h.setQueue
  split
  · split
    · exact hs2
    · exact hs2.ite (hs2.setQueue.ite hs2.setQueue.endDesc)
  · exact h.setQueue

theorem State.sound.effQueueFlush {q : Nat} (h : s.sound) : (effQueueFlush q s).sound :=
  (h.rdoAccept.ite (h.rdoRefuse.ite (h.rdoAccept.ite h.startFlush.showQueue.rdoAccept))).ite h

theorem State.sound.effQueueDoorbell {q : Nat} (h : s.sound) : (effQueueDoorbell q s).sound := h.ringDoorbell.ite h

theorem State.sound.effPaceTimeout {q : Nat} (h : s.sound) : (effPaceTimeout q s).sound := by
  unfold Machine.effPaceTimeout
  extract_lets s2 x to_
  have hs2 : s2.sound := h.repaceQueue
  split
  · exact hs2.setQueue.showQueue.ite hs2
  · exact hs2

theorem State.sound.effActionRdoStart {n : Nat} (h : s.sound) : (Machine.effActionRdoStart n s).sound := by
  unfold Machine.effActionRdoStart
  refine h.runAction fun o s2 h2 => ?_
  extract_lets q st
  exact (h2.startQueue.pair.ite_snd h2.pair).ite_snd ((h2.resumeQueue.pair.ite_snd h2.pair).ite_snd h2.ringDoorbell.pair)

theorem State.sound.bind_ {q off : Nat} {ok : Bool} {act : State → State} (h : s.sound) (ha : ∀ s, s.sound → (act s).sound) :
    (s.bind_ q off ok act).sound := by
  have hr : ∀ r, ((s.rdoRefuse q r).raise 200 r 0 q 0).sound := fun _ => h.rdoRefuse.raise
  exact ((hr 1).ite ((hr 2).ite ((hr 3).ite (ha s h).showQueue.rdoAccept))).ite h

theorem State.sound.effQCfgWrite {q v : Nat} (h : s.sound) : (effQCfgWrite q v s).sound := h.bind_ fun _ h => h.setF.setF.setF.setF

theorem State.sound.effQPaceWrite {q v : Nat} (h : s.sound) : (effQPaceWrite q v s).sound := h.bind_ fun _ h => h.setF.setF

theorem State.sound.effQPaceToWrite {q v : Nat} (h : s.sound) : (effQPaceToWrite q v s).sound := h.bind_ fun _ h => h.setF

theorem State.sound.effQCtlWrite {q v : Nat} (h : s.sound) : (Machine.effQCtlWrite q v s).sound := by
  unfold Machine.effQCtlWrite
  extract_lets win size
  exact h.bind_ fun _ h => h.setF.setF.setF.setF

theorem State.sound.effQHeadWrite {q : Nat} {hi : Bool} {v : Nat} (h : s.sound) : (effQHeadWrite q hi v s).sound :=
  h.bind_ fun _ h => h.setF.ite h.setF.setF

theorem State.sound.effQCompBaseWrite {q : Nat} {hi : Bool} {v : Nat} (h : s.sound) : (effQCompBaseWrite q hi v s).sound :=
  h.bind_ fun _ h => h.setF.ite h.setF.setF

theorem State.sound.effRdoSnap (h : s.sound) : (effRdoSnap s).sound :=
  (h.foldl fun _ _ h => h.foldl fun _ _ h => h.setF).setF.setF.ite h

theorem State.sound.effRdoClrCounts (h : s.sound) : (effRdoClrCounts s).sound := h.clearCounts.ite h

theorem State.sound.haltQueues (h : s.sound) : s.haltQueues.sound := h.foldl fun _ _ h => h.haltQueue.ite h

theorem State.sound.idleQueues (h : s.sound) : s.idleQueues.sound := h.foldl fun _ _ h => h.ite h.idleQueue

theorem State.sound.sealAndPace {k ch : Nat} (h : s.sound) : (sealAndPace k ch s).sound := h.repace.effRecordSeal.repace

theorem State.sound.completeAndPace {k : Nat} (h : s.sound) : (completeAndPace k s).sound := h.repace.effBankComplete.repace

/-! ### The display -/

theorem State.sound.setDspState {v : Nat} (h : s.sound) : (s.setDspState v).sound := h.setF

theorem State.sound.stopFetch (h : s.sound) : s.stopFetch.sound := h.frameMem.setF

theorem State.sound.fetchFrame (h : s.sound) : s.fetchFrame.sound := h.stopFetch.ite (h.stopFetch.foldl fun _ _ h => h.unitRead)

theorem State.sound.emitFrame (h : s.sound) : s.emitFrame.sound := h.frame.ite h.frame.emit

theorem State.sound.showFetch (h : s.sound) : s.showFetch.sound := h.setF.ite h

theorem State.sound.commitPalette (h : s.sound) : s.commitPalette.sound := h.frame.setF

theorem State.sound.latchFrame (h : s.sound) : s.latchFrame.2.sound :=
  (h.commitPalette.ite h).setF.setF.frame.setF.ite (h.commitPalette.ite h).setF.setF.frame.bumpF

theorem State.sound.sendAs {v : Nat} (h : s.sound) : (s.sendAs v).sound := h.frame

theorem State.sound.clearPsr {exit_ : Bool} (h : s.sound) : (s.clearPsr exit_).sound := h.frame.setF.setF.ite h.frame.setF

theorem State.sound.waitPsr {changed : Bool} (h : s.sound) : (s.waitPsr changed).sound := h.frame.setF.ite h

theorem State.sound.stepPsr {changed : Bool} (h : s.sound) : (s.stepPsr changed).sound := by
  unfold State.stepPsr
  extract_lets st entering leave
  split
  · exact h.clearPsr.setDspState.sendAs.ite h.clearPsr.sendAs
  · split
    · exact h.clearPsr.bumpF.setF.setF.setDspState.ite h.clearPsr.bumpF.setF.setF.setDspState
    · exact (h.setDspState.ite h).ite (h.waitPsr.frame.setF.bumpF.setDspState.sendAs.ite h.waitPsr)

theorem State.sound.effFrameStart (h : s.sound) : (effFrameStart s).sound := by
  unfold Machine.effFrameStart
  split
  · extract_lets panic
    split
    next changed s2 e =>
      have hs2 := State.sound.of_snd e h.emitFrame.latchFrame
      extract_lets s3 s4 _ s5
      have hs3 : s3.sound := hs2.wrapF
      have hs4 : s4.sound := hs3.stepPsr.fetchFrame
      have hs5 : s5.sound := hs4.frame.afterPanic
      split
      · exact hs5.composeStep4
      · exact hs5
  · exact h

theorem State.sound.effUnderrun {x y : Nat} (h : s.sound) : (effUnderrun x y s).sound :=
  (h.frame.bumpF.panicUp.setF.raise.ite h.frame.bumpF.panicUp.setF).ite h

theorem State.sound.dropPsrEntry (h : s.sound) : s.dropPsrEntry.sound := h.frame.setF

theorem State.sound.requestExit {cmd : Bool} (h : s.sound) : (s.requestExit cmd).sound := by
  unfold State.requestExit
  extract_lets _ s2 x _ s3 s4
  have hs2 : s2.sound := h.frame
  have hx : x.sound := hs2.dropPsrEntry
  have hs3 : s3.sound := hx.frame
  have hs4 : s4.sound := hs2.dropPsrEntry.ite hs2
  exact (hs3.setF.ite hs3).ite (hs4.setF.ite hs4)

theorem State.sound.requestEntry {cmd : Bool} (h : s.sound) : (s.requestEntry cmd).sound := (h.frame.setF.ite h.frame).ite h

theorem State.sound.effDspPsrEnter (h : s.sound) : (effDspPsrEnter s).sound := (h.requestEntry.ite h.raise).ite h

theorem State.sound.effDspPsrExit (h : s.sound) : (effDspPsrExit s).sound := h.requestExit.ite h

theorem State.sound.endPsrRefused {o : Occ} (h : s.sound) : (s.endPsrRefused o).sound := h.dropOcc.setF.outcome.schedRefused.raise

theorem State.sound.effActionPsrEnter {n : Nat} (h : s.sound) : (effActionPsrEnter n s).sound := by
  unfold Machine.effActionPsrEnter
  split
  · exact h
  · exact (h.requestEntry.endOcc.ite h.endPsrRefused).ite h

theorem State.sound.effActionPsrExit {n : Nat} (h : s.sound) : (effActionPsrExit n s).sound :=
  h.runAction fun _ _ h => h.requestExit

theorem State.sound.effIrqHpd {psrError : Bool} (h : s.sound) : (effIrqHpd psrError s).sound :=
  (h.bumpF.bumpF.requestExit.raise.ite h.bumpF).ite h

theorem State.sound.exitFromPsr (h : s.sound) : s.exitFromPsr.sound := h.requestExit.ite h

theorem State.sound.effPalCommit (h : s.sound) : (effPalCommit s).sound := h.setF.exitFromPsr.ite h

theorem State.sound.effOvlSelWrite {v : Nat} (h : s.sound) : (effOvlSelWrite v s).sound := h.setF.exitFromPsr.ite h

theorem State.sound.effDspClrCounts (h : s.sound) : (effDspClrCounts s).sound := h.clearCounts.ite h

theorem State.sound.trainDisplay (h : s.sound) : s.trainDisplay.sound := h.stopFetch.frame.clearFs.setDspState

theorem State.sound.loseLink (h : s.sound) : s.loseLink.sound := h.trainDisplay.setDspState.setF.bumpF.raise.afterPanic

theorem State.sound.effDspRetrain (h : s.sound) : (effDspRetrain s).sound := h.trainDisplay.setF.afterPanic.ite h

theorem State.sound.effLinkTrainingDone {ok psr : Bool} (h : s.sound) : (effLinkTrainingDone ok psr s).sound := by
  unfold Machine.effLinkTrainingDone
  split
  · extract_lets s2 s3 s4 n _ s5 _
    have hs2 : s2.sound := h.setB
    have hs3 : s3.sound := hs2.setF.setF
    have hs4 : s4.sound := hs2.bumpF
    have hs5 : s5.sound := hs4.frame
    split
    · exact hs3.setDspState.setF
    · split
      · exact hs5
      · split
        · exact hs5.frame
        · exact hs5.setDspState.setF.raise
  · exact h

theorem State.sound.effHpdLoss (h : s.sound) : (effHpdLoss s).sound :=
  (h.frame.loseLink.ite (h.frame.setDspState.ite h.frame)).ite h

theorem State.sound.effHpdReturn (h : s.sound) : (effHpdReturn s).sound := (h.frame.trainDisplay.afterPanic.ite h.frame).ite h

theorem State.sound.displayOff (h : s.sound) : s.displayOff.sound := h.stopFetch.frame.clearFs.setDspState.setResv.afterPanic

/-! ### Ensemble calls sent -/

theorem State.sound.leaveToken {p t : Nat} {k : Nat × Nat × Nat × Nat} (h : s.sound) : (s.leaveToken p t k).sound :=
  (h.frame.ite h).emit

theorem State.sound.startTx {p : Nat} {x : TxItem} {t : Nat} (h : s.sound) : (s.startTx p x t).sound := by
  unfold State.startTx
  extract_lets run full start stop rest msg _ ens s2
  have hs2 : s2.sound := h.frame.foldl fun _ _ h => h.emit
  split
  · exact hs2.leaveToken
  · exact hs2

theorem State.sound.pumpTx {fuel p : Nat} (h : s.sound) : (State.pumpTx fuel s p).sound := by
  induction fuel generalizing s with
  | zero => exact h
  | succ fuel ih =>
    unfold State.pumpTx
    split
    · exact ih h.startTx
    · exact h

theorem State.sound.pumpPort {p : Nat} (h : s.sound) : (s.pumpPort p).sound := h.pumpTx

theorem State.sound.overflow {p k : Nat} (h : s.sound) : (s.overflow p k).sound := h.raise

theorem State.sound.joinTx {p room : Nat} {x : TxItem} (h : s.sound) : (s.joinTx p room x).2.sound :=
  State.sound.ite_snd h.pumpPort h.pumpPort.frame.pumpPort

theorem State.sound.closePairs {p : Nat} (h : s.sound) : (s.closePairs p).sound := h.frame

theorem State.sound.queueCall {p : Nat} {forwarded more : Bool} {outs : List Out}
    (h : s.sound) : (s.queueCall p forwarded more outs).2.sound :=
    State.sound.ite_snd h.joinTx h.joinTx.bumpF.overflow

theorem State.sound.addCopy {p : Nat} {outs : List Out} (h : s.sound) : (s.addCopy p outs).sound :=
  h.pumpPort.frame.ite (h.pumpPort.foldl fun _ _ h => h.emit)

theorem State.sound.queueMsg {p blocks : Nat} {forwarded : Bool} {outs : List Out}
    (h : s.sound) : (s.queueMsg p blocks forwarded outs).2.sound :=
    State.sound.ite_snd h.joinTx h.joinTx.bumpF.overflow

theorem State.sound.compensate {p : Nat} (h : s.sound) : (s.compensate p).sound :=
  (h.frame.bumpF.ite (h.frame.bumpF.ite h.frame)).ite h

theorem State.sound.sendPair {c : Call} (h : s.sound) : (s.sendPair c).sound := h.foldl fun _ _ h => h.queueCall.ite h

theorem State.sound.setTrickNext {v : Nat} (h : s.sound) : (s.setTrickNext v).sound := h.setF.setF

theorem State.sound.localTrick (h : s.sound) : s.localTrick.2.sound := State.sound.ite_snd h h.setTrickNext

theorem State.sound.sendCall {trick : Nat} {tick : Tick} {frac quality : Nat}
    (h : s.sound) : (s.sendCall trick tick frac quality).2.sound :=
    State.sound.ite_snd h.bumpF (State.sound.ite_snd h h.wrapF.bumpF.sendPair)

/-! ### Detectors, pins and qualifiers -/

theorem State.sound.setDet {i : Nat} {d : Det} (h : s.sound) : (s.setDet i d).sound := h.frame

theorem State.sound.runDet {i n : Nat} {xs : List Int} (h : s.sound) : (s.runDet i n xs).2.sound :=
  State.sound.ite_snd h (h.setDet.setB.ite h.setDet.setB.setF)

theorem State.sound.detNotice {i kind : Nat} (h : s.sound) : (s.detNotice i kind).sound := by
  unfold State.detNotice
  split
  · exact h.raise
  · exact h.raise

theorem State.sound.effDetectorStuck {i : Nat} (h : s.sound) : (effDetectorStuck i s).sound := h.setF.detNotice.ite h

theorem State.sound.restartDetectors (h : s.sound) : s.restartDetectors.sound := h.frame.foldl fun _ _ h => h.setDet

theorem State.sound.setPin {i : Nat} {p : Pin} (h : s.sound) : (s.setPin i p).sound := h.frame

theorem State.sound.effTrigInActivation {i ago glitches : Nat} (h : s.sound) : (effTrigInActivation i ago glitches s).sound :=
  h.bumpF.ite (h.setPin.setF.setF.bumpF.bumpF.ite h)

theorem State.sound.effTrigInDeactivation {i ago gaps : Nat} (h : s.sound) : (effTrigInDeactivation i ago gaps s).sound :=
  h.bumpF.ite (h.setPin.setF.setF.bumpF.ite h)

theorem State.sound.effPinStuck {i : Nat} (h : s.sound) : (effPinStuck i s).sound := h.setF.raise.ite h

theorem State.sound.pendDet {i : Nat} {lh ll n : Int} (h : s.sound) : (s.pendDet i lh ll n).sound := h.setDet.setF

theorem State.sound.effDetLevelWrite {i lh ll : Nat} (h : s.sound) : (effDetLevelWrite i lh ll s).sound :=
  (h.detNotice.ite h.pendDet).ite h

theorem State.sound.effDetHystWrite {i n : Nat} (h : s.sound) : (effDetHystWrite i n s).sound := (h.detNotice.ite h.pendDet).ite h

theorem State.sound.pendHold {k j v : Nat} (h : s.sound) : (s.pendHold k j v).sound := h.frame.setF

theorem State.sound.effHoldTicksWrite {k v : Nat} (h : s.sound) : (effHoldTicksWrite k v s).sound := (h.raise.ite h.pendHold).ite h

theorem State.sound.effHoldSamplesWrite {k v : Nat} (h : s.sound) : (effHoldSamplesWrite k v s).sound := h.pendHold.ite h

theorem State.sound.effHoldCountWrite {k v : Nat} (h : s.sound) : (effHoldCountWrite k v s).sound := (h.raise.ite h.pendHold).ite h

theorem State.sound.applyDet {i : Nat} (h : s.sound) : (s.applyDet i).sound := by
  unfold State.applyDet
  split
  · exact h
  · exact h.setS.setS.setF.setDet.setF

theorem State.sound.applyHold {k : Nat} (h : s.sound) : (s.applyHold k).sound :=
  (h.foldl fun _ _ h => h.setF.ite (h.setF.ite h.setF)).frame.setF

/-! ### Triggers -/

theorem State.sound.setOutPin {n : Nat} {p : OutPin} (h : s.sound) : (s.setOutPin n p).sound := h.frame

theorem State.sound.addPulse {n g : Nat} (h : s.sound) : (s.addPulse n g).sound := h.setOutPin

theorem State.sound.driveOut {k t : Nat} {plain : Bool} (h : s.sound) : (s.driveOut k t plain).sound :=
  h.foldl fun _ _ h => (h.addPulse.ite (h.addPulse.ite h)).ite h

theorem State.sound.effTrigOutPulse {n : Nat} (h : s.sound) : (effTrigOutPulse n s).sound := by
  unfold Machine.effTrigOutPulse
  extract_lets p
  split
  · exact (h.setOutPin.bumpF.ite (h.emit.ite h).setOutPin.bumpF.emit).ite h
  · exact h

theorem State.sound.effTrigOutPulseEnd {n : Nat} (h : s.sound) : (effTrigOutPulseEnd n s).sound := by
  unfold Machine.effTrigOutPulseEnd
  extract_lets p
  split
  · exact h.setOutPin.emit.ite h
  · exact h

theorem State.sound.outsOff (h : s.sound) : s.outsOff.sound := h.frame.emit.ite h.frame

theorem State.sound.outsOn (h : s.sound) : s.outsOn.sound := h.ite h.frame.emit.emit

theorem State.sound.listLost {k : Nat} {t : Trig} {cause : Nat} (h : s.sound) : (s.listLost k t cause).sound := h.frame.wrapF

theorem State.sound.effLlSelWrite {v : Nat} (h : s.sound) : (effLlSelWrite v s).sound :=
  (h.setF.setF.foldl fun _ _ h => h.setF).ite h

theorem State.sound.takeTrig {k : Nat} {pl : Plan} {t : Trig} (h : s.sound) : (s.takeTrig k pl t).sound := by
  unfold State.takeTrig
  split
  · exact h
  · extract_lets s2
    have hs2 : s2.sound := h.setSlot
    split
    · extract_lets s3
      have hs3 : s3.sound := hs2.reserveSet
      split
      · exact hs3.setSlot.showFifo
      · exact hs3
    · exact hs2.showFifo.setF.disarm.raise

theorem State.sound.showLast {k : Nat} {a : Asked} (h : s.sound) : (s.showLast k a).sound := h.setF.setF.frame.setF

theorem State.sound.accept {k : Nat} {sl : Slot} {pl : Plan} {a : Asked} {inOrder : Bool}
    (h : s.sound) : (s.accept k sl pl a inOrder).2.sound := by
  unfold State.accept
  extract_lets s2
  have hs2 : s2.sound := h.countT
  split
  next trick s3 e =>
    have hs3 := State.sound.of_snd e (State.sound.ite_snd hs2 hs2.localTrick)
    split
    · extract_lets ea remembered sl' s4 s5 s6 _ s7 s8
      have hs4 : s4.sound := hs3.setSlot.showLast
      have hs5 : s5.sound := hs4.setF
      have hs6 : s6.sound := hs5.setB.ite hs4
      have hs7 : s7.sound := hs6.takeTrig
      have hs8 : s8.sound := hs7.driveOut
      exact State.sound.ite_snd hs8.sendCall hs8

theorem State.sound.loseTrig {k : Nat} {sl : Slot} {a : Asked} {cause : Nat} (h : s.sound) : (s.loseTrig k sl a cause).sound :=
  h.countT.setSlot.ite h.countT.setSlot.listLost

theorem State.sound.judgeTail {k : Nat} {sl : Slot} {pl : Plan} {a : Asked} {inOrder : Bool}
    (h : s.sound) : (s.judgeTail k sl pl a inOrder).2.sound :=
    State.sound.ite_snd h.countT (State.sound.ite_snd h.accept h.loseTrig)

theorem State.sound.holdOff {k : Nat} {sl : Slot} {a : Asked} {inOrder : Bool}
    (h : s.sound) : (s.holdOff k sl a inOrder).sound :=
    ((h.countT.setSlot.ite h.countT.setSlot.setF).ite h.countT.setSlot).ite h.countT

theorem State.sound.judgeTrig {k : Nat} {a : Asked} (h : s.sound) : (s.judgeTrig k a).2.sound := by
  unfold State.judgeTrig
  split
  · extract_lets s2 inOrder
    have hs2 : s2.sound := h.ite h.countT
    split
    · exact State.sound.ite_snd hs2.holdOff (State.sound.ite_snd hs2.loseTrig hs2.judgeTail)
    · exact State.sound.ite_snd hs2.holdOff hs2.judgeTail
  · exact h

theorem State.sound.deliverCall {c : Call} {but : Option Nat} (h : s.sound) : (s.deliverCall c but).sound := by
  unfold State.deliverCall
  refine h.foldl fun s2 k h2 => ?_
  dsimp only
  split
  · exact h2.frame.countT.ite h2
  · exact h2

theorem State.sound.inArm {k gen : Nat} {f : State → State} (h : s.sound) (hf : ∀ s, s.sound → (f s).sound) :
    (s.inArm k gen f).sound := by
  unfold State.inArm
  split
  · exact h
  · split
    · exact (hf s h).ite h
    · extract_lets s2
      have hs2 : s2.sound := hf _ h.setSlot
      split
      · exact hs2
      · exact hs2.setSlot.disarm.ite hs2.setSlot

theorem State.sound.judgeCalls {k n : Nat} (h : s.sound) : (s.judgeCalls k n).sound :=
  h.frame.foldl fun _ _ h => (h.inArm fun _ h => h.judgeTrig).alsoSnap

theorem State.sound.judgeLocal {k : Nat} {a : Asked} (h : s.sound) : (s.judgeLocal k a).sound := by
  unfold State.judgeLocal
  split
  next c s2 e =>
    have hs2 := State.sound.of_snd e h.judgeTrig
    split
    · exact hs2.deliverCall
    · exact hs2

theorem State.sound.decideIn {k n : Nat} (h : s.sound) : (s.decideIn k n).sound := by
  unfold State.decideIn
  split
  · extract_lets start seen new ready fired s2 forced s3
    have hs2 : s2.sound := h.setSlot
    have hs3 : s3.sound := hs2.clearForce.ite hs2
    clear_value fired
    split
    · exact hs2
    · split
      · exact hs3.judgeLocal
      · exact hs3.judgeLocal.ite hs3
  · exact h

theorem State.sound.decideInstant {k : Nat} {r : Raw} (h : s.sound) : (s.decideInstant k r).sound := by
  unfold State.decideInstant
  split
  · extract_lets per x s2 s3
    have hs2 : s2.sound := h.setSlot
    have hs3 : s3.sound := by
      unfold s3
      split
      · exact (hs2.inArm fun _ h => h.decideIn).alsoSnap
      · exact hs2
    exact hs3.judgeCalls
  · exact h

theorem State.sound.takeSamples {c n : Nat} {xs : List Int} {seen : Tbl DetSeen}
    (h : s.sound) : (s.takeSamples c n xs seen).2.sound := by
  unfold State.takeSamples
  extract_lets +onlyGivenNames s2 s3
  have hs3 : s3.sound := h.bumpF.bumpF
  split
  next a s4 e =>
    have hs4 := State.sound.of_snd e hs3.runDet
    split
    next b s5 e =>
      have hs5 := State.sound.of_snd e hs4.runDet
      exact hs5.trackSamples.deliver.pair

theorem State.sound.flushHeld {c a : Nat} (h : s.sound) : (s.flushHeld c a).sound := h.takeSamples.ite h

theorem State.sound.convertInst {per n : Nat} {l : List (Nat × List Nat)} (h : s.sound) : (s.convertInst per n l).2.sound :=
  (h.foldl fun _ _ h => h.convert).foldl fun _ _ h => h.flushHeld

theorem State.sound.runInstant {k n : Nat} {pl : Plan} {raws : List (Nat × List Nat)}
    (h : s.sound) : (s.runInstant k n pl raws).sound := by
  unfold State.runInstant
  extract_lets per
  split
  next l s2 e =>
    have hs2 := State.sound.of_snd e h.convertInst
    split
    next seen s3 e2 =>
      have hs3 := State.sound.of_snd e2 (State.sound.foldl_snd hs2 fun _ _ h => h.takeSamples)
      extract_lets s4 s5 s6 raw
      have hs4 : s4.sound := hs3.foldl fun _ _ h => h.foldl fun _ _ h => h.decimate
      have hs5 : s5.sound := hs4.pumpImages
      have hs6 : s6.sound := hs5.bumpF
      split
      · exact hs6
      · extract_lets s7 s8
        have hs7 : s7.sound := hs6.setSlot
        have hs8 : s8.sound := by
          unfold s8
          split
          · exact hs7.decideInstant
          · exact hs7
        exact hs8.releaseIfJudged.settle

theorem State.sound.runFree {x : Nat × List Nat} (h : s.sound) : (s.runFree x).sound := h.convert.takeSamples

theorem State.sound.effEvaluationInstant {slot : Option Nat} {l : List (Nat × List Nat)}
    (h : s.sound) : (effEvaluationInstant slot l s).sound := by
  unfold Machine.effEvaluationInstant
  split
  · exact h
  · split
    · split
      · exact h.runInstant.ite h
      · exact h
    · exact (h.foldl fun _ _ h => h.runFree).ite h

theorem State.sound.effForce {k : Nat} (h : s.sound) : (effForce k s).sound := by
  unfold Machine.effForce
  split
  · split
    · exact h.free.frame.setF.ite h
    · exact h
  · exact h

theorem State.sound.effActionTimeMark {n : Nat} (h : s.sound) : (effActionTimeMark n s).sound := h.runAction fun _ _ h => h.frame

theorem State.sound.effRearmPoint {slot : Option Nat} (h : s.sound) : (effRearmPoint slot s).sound := by
  unfold Machine.effRearmPoint
  split
  · split
    · extract_lets s2
      have hs2 : s2.sound := h.setF.applyHold
      split
      · exact hs2.foldl fun _ _ h => h.applyDet.applyDet
      · exact hs2
    · exact h
  · exact (h.foldl fun _ _ h => h.applyDet.ite h).ite h

theorem State.sound.effHoldoffEnd {k : Nat} (h : s.sound) : (effHoldoffEnd k s).sound := by
  unfold Machine.effHoldoffEnd
  split
  · split
    · exact h.setF.ite h
    · exact h
  · exact h

theorem State.sound.effTrgClrCounts (h : s.sound) : (effTrgClrCounts s).sound := h.clearCounts.ite h

/-! ### Stopping a slot -/

theorem State.sound.commitEmpty {fuel k : Nat} (h : s.sound) : (State.commitEmpty fuel s k).sound := by
  induction fuel generalizing s with
  | zero => exact h
  | succ fuel ih =>
    unfold State.commitEmpty
    split
    · exact h.ite (ih h.commitOne.frame)
    · exact h

theorem State.sound.judgeRest {k : Nat} (h : s.sound) : (s.judgeRest k).sound := by
  unfold State.judgeRest
  split
  · exact h
  · extract_lets s2
    have hs2 : s2.sound := by
      unfold s2
      split
      · exact h.setSlot.decideInstant
      · exact h
    exact hs2.foldl fun _ _ h => h.judgeCalls

theorem State.sound.stopSlot {k cause : Nat} {report : Bool} (h : s.sound) : (s.stopSlot k cause report).sound := by
  unfold State.stopSlot
  split
  · split
    · extract_lets was s2 s3 _ s4 s5 s6 _ s7 s8 spare s9 s10 s11 s12 s13 s14
      have hs2 : s2.sound := h.judgeRest
      have hs3 : s3.sound := by
        unfold s3
        split
        · exact hs2.setSlot
        · exact hs2
      have hs4 : s4.sound := hs3.frame
      have hs5 : s5.sound := hs4.showArmed.clearForce.setF
      have hs6 : s6.sound := hs5.disturb.ite hs5
      have hs7 : s7.sound := hs6.frame
      have hs8 : s8.sound := hs7.commitEmpty
      have hs9 : s9.sound := by
        unfold s9
        split
        · exact hs8.setSlot
        · exact hs8
      have hs10 : s10.sound := hs9.foldl fun _ _ h => h.releaseSet
      have hs11 : s11.sound := hs10.interruptAdds.dropImages.showFifo
      have hs12 : s12.sound := hs11.clearFs
      have hs13 : s13.sound := hs12.foldl fun _ _ h => h.chanRequest
      have hs14 : s14.sound := hs13.acceptWrites.ite hs13
      exact hs14.raise.ite hs14
    · exact h
  · exact h

theorem State.sound.stopAllPlans {cause : Nat} {report : Bool} (h : s.sound) : (s.stopAllPlans cause report).sound := by
  unfold State.stopAllPlans
  refine .settle ?_
  refine h.foldl fun s2 k h2 => ?_
  split
  · exact h2.stopSlot.ite h2
  · exact h2

theorem State.sound.drainSlots (h : s.sound) : s.drainSlots.sound := h.foldl fun _ _ h => h.stopSlot

theorem State.sound.stopChannel {c cause : Nat} (h : s.sound) : (s.stopChannel c cause).sound := by
  unfold State.stopChannel
  split
  · exact h
  · exact h.stopSlot.settle.ite h

/-! ### Admission -/

theorem State.sound.decideDisplay (h : s.sound) : s.decideDisplay.sound := by
  unfold State.decideDisplay
  split
  next res s2 e =>
    have hs2 := State.sound.of_snd e h.popReq.judgeAdmission
    exact (hs2.frame.requestExit.ite (hs2.frame.trainDisplay.ite hs2.frame.loseLink)).ite hs2.setDspState

theorem State.sound.decideComposer (h : s.sound) : s.decideComposer.sound := by
  unfold State.decideComposer
  dsimp only
  exact h.popReq.judgeAdmission.frame.setF.ite h.popReq.judgeAdmission.setF

theorem State.sound.decideGuarantee {r : AdmReq} (h : s.sound) : (s.decideGuarantee r).sound := by
  unfold State.decideGuarantee
  dsimp only
  exact h.popReq.judgeAdmission.setQueue.setF.showLinkCeil.ite h.popReq.judgeAdmission.setF

theorem State.sound.decideHead (h : s.sound) : s.decideHead.sound := by
  unfold State.decideHead
  split
  · split
    · exact h
    · split
      · exact h.decideActivation
      · exact h.decideGrant
      · exact h.decideDisplay
      · exact h.decideComposer
      · exact h.decideGuarantee
      · exact h.decideLeave
      · exact h.decideArm
  · exact h

theorem State.sound.dropPlan {k : Nat} (h : s.sound) : (s.dropPlan k).sound := by
  unfold State.dropPlan
  split
  · exact h
  · extract_lets busy s2 s3
    have hs2 : s2.sound := h.stopSlot.ite h.raise
    have hs3 : s3.sound := by
      unfold s3
      split
      · exact hs2.setSlot
      · exact hs2
    exact hs3.setResv.settle

theorem State.sound.shedPlans {fuel : Nat} (h : s.sound) : (State.shedPlans fuel s).sound := by
  induction fuel generalizing s with
  | zero => exact h
  | succ fuel ih =>
    unfold State.shedPlans
    split
    · exact h
    · split
      · exact ih h.dropPlan
      · exact h

theorem State.sound.shedGuarantees (h : s.sound) : s.shedGuarantees.sound := h.foldl fun _ _ h => h.ite h.withdrawQueue

theorem State.sound.recompute {c : Nat} (h : s.sound) : (s.recompute c).sound := by
  unfold State.recompute
  extract_lets s2 demand ceil cut s3 s4 s5
  have hs2 : s2.sound := h.setResv
  have hs3 : s3.sound := hs2.reportAdmit
  have hs4 : s4.sound := hs3.foldl fun _ _ h => h.dropPlan
  have hs5 : s5.sound := hs4.shedPlans.shedGuarantees
  exact hs5.ite hs5.stopComposer.setF

/-! ### The ensemble -/

theorem State.sound.sendOn {p : Nat} {forwarded : Bool} {m : Msg} (h : s.sound) : (s.sendOn p forwarded m).sound := h.queueMsg

theorem State.sound.takeSeq (h : s.sound) : s.takeSeq.2.sound := h.frame

theorem State.sound.originateOn {ports : List Nat} {typ dst : Nat} {data : List Byte}
    (h : s.sound) : (s.originateOn ports typ dst data).sound :=
    h.takeSeq.foldl fun _ _ h => h.sendOn.ite h

theorem State.sound.originate {typ dst : Nat} {data : List Byte} (h : s.sound) : (s.originate typ dst data).sound := h.originateOn

theorem State.sound.acceptMsg {m : Msg} (h : s.sound) : (s.acceptMsg m).2.sound :=
  State.sound.ite_snd (State.sound.ite_snd h.frame h) (State.sound.ite_snd h.frame h)

theorem State.sound.forwardMsg {p : Nat} {m : Msg} (h : s.sound) : (s.forwardMsg p m).sound := h.frame.sendOn.ite h.frame

theorem State.sound.erroredBlocks {p : Nat} {bl : List WireBlock} (h : s.sound) : (s.erroredBlocks p bl).sound := h.bumpF

theorem State.sound.takeMsg {p typ : Nat} {op : Option Nat} {bl : List WireBlock} {act : Msg → Bool → State → State}
    (h : s.sound) (ha : ∀ m fresh s, s.sound → (act m fresh s).sound) : (s.takeMsg p typ op bl act).sound := by
  unfold State.takeMsg
  refine State.sound.ite ?_ h
  extract_lets s2
  have hs2 : s2.sound := h.erroredBlocks
  split
  · exact hs2
  · exact hs2.bumpF
  · refine hs2.ite ?_
    exact (ha _ _ _ hs2.forwardMsg).ite (hs2.forwardMsg.ite (ha _ _ _ hs2.forwardMsg.acceptMsg))

theorem State.sound.seeTrick {t : Nat} (h : s.sound) : (s.seeTrick t).sound := (h.setF.ite h).setTrickNext.ite (h.setF.ite h)

theorem State.sound.forwardCall {p : Nat} {second starts : Bool} {bs : List Byte} {intact : Bool}
    (h : s.sound) : (s.forwardCall p second starts bs intact).sound :=
    ((h.ite h.closePairs).addCopy.ite ((h.ite h.closePairs).ite (h.ite h.closePairs).queueCall.frame)).ite (h.ite h.closePairs).frame

theorem State.sound.countPair {p : Nat} {first second : Bool} (h : s.sound) : (s.countPair p first second).sound :=
  h.ite (h.bumpF.ite h.bumpF)

theorem State.sound.endPair {p : Nat} (h : s.sound) : (s.endPair p).sound := by
  unfold State.endPair
  split
  · exact h
  · exact h.frame.countPair

theorem State.sound.judgePair {p : Nat} {second intact : Bool} (h : s.sound) : (s.judgePair p second intact).sound :=
  h.frame.countPair.ite h.endPair.frame

theorem State.sound.missPair {p : Nat} (h : s.sound) : (s.missPair p).sound := h.endPair.ite h

theorem State.sound.knowCalls {src q : Nat} {including : Bool} (h : s.sound) : (s.knowCalls src q including).sound := by
  unfold State.knowCalls
  split
  · exact h.frame
  · exact h.frame.ite h

theorem State.sound.acceptCall {c : Call} (h : s.sound) : (s.acceptCall c).sound := h.ite h.knowCalls.frame.seeTrick

theorem State.sound.effCallReceive {p : Nat} {second : Bool} {bl : List WireBlock}
    (h : s.sound) : (effCallReceive p second bl s).sound :=
    (h.erroredBlocks.forwardCall.judgePair.acceptCall.ite h.erroredBlocks.forwardCall.judgePair.bumpF).ite h

theorem State.sound.effCallDeliver (h : s.sound) : (effCallDeliver s).sound := by
  unfold Machine.effCallDeliver
  split
  · exact h
  · exact h.frame.bumpF.deliverCall.ite h

theorem State.sound.effCallLost {src q : Nat} (h : s.sound) : (effCallLost src q s).sound := by
  unfold Machine.effCallLost
  split
  · exact h
  · exact h.frame.bumpF.raise.ite h

theorem State.sound.notePorts {a flags : Nat} (h : s.sound) : (s.notePorts a flags).sound := h.frame.ite h.frame

theorem State.sound.sendStat {ports : List Nat} (h : s.sound) : (s.sendStat ports).sound := h.notePorts.originateOn

theorem State.sound.effStatSend (h : s.sound) : (effStatSend s).sound := h.frame.sendStat.ite h

theorem State.sound.tabulate {m : Msg} (h : s.sound) : (s.tabulate m).sound :=
  h.setF.setF.setF.setF.setF.setF.setF.setF.frame.notePorts

theorem State.sound.seeGen {g : Nat} (h : s.sound) : (s.seeGen g).sound := h.setF.ite h

theorem State.sound.demote {dealer : Nat} (h : s.sound) : (s.demote dealer).sound := h.setF.frame.raise

theorem State.sound.takeDealer {a g : Nat} (h : s.sound) : (s.takeDealer a g).sound := h.setF.frame

theorem State.sound.meetDealer {a g : Nat} (h : s.sound) : (s.meetDealer a g).sound :=
  (h.seeGen.demote.takeDealer.ite h.seeGen).ite ((h.seeGen.demote.ite h.seeGen).takeDealer.ite (h.seeGen.demote.ite h.seeGen))

theorem State.sound.clearWindows {m : Msg} (h : s.sound) : (s.clearWindows m).sound := h.ite h.frame

theorem State.sound.useStat {m : Msg} (h : s.sound) : (s.useStat m).sound :=
  (h.ite h.tabulate).knowCalls.seeTrick.meetDealer.ite (h.ite h.tabulate).knowCalls.seeTrick

theorem State.sound.fewerHops {m : Msg} (h : s.sound) : (s.fewerHops m).sound := h.setF.ite h

theorem State.sound.effStatMessage {p : Nat} {bl : List WireBlock} (h : s.sound) : (effStatMessage p bl s).sound := by
  unfold Machine.effStatMessage
  extract_lets restart
  have hr : (restart s).sound := by
    unfold restart
    split
    · exact h.clearWindows.ite h
    · exact h
  exact hr.takeMsg fun _ _ _ h => h.ite (h.useStat.ite h.fewerHops)

theorem State.sound.effUnitPresenceTimeout {a : Nat} (h : s.sound) : (effUnitPresenceTimeout a s).sound := by
  unfold Machine.effUnitPresenceTimeout
  split
  · exact h
  · exact h.setF.ite h

theorem State.sound.abandonEnum (h : s.sound) : s.abandonEnum.sound := h.setF.setF.frame

theorem State.sound.effDealerLost (h : s.sound) : (effDealerLost s).sound := by
  unfold Machine.effDealerLost
  split
  · exact h.abandonEnum.setF.frame.raise.ite h
  · exact h

theorem State.sound.commitDeals (h : s.sound) : s.commitDeals.sound := (h.foldl fun _ _ h => h.putEntry_.ite h).ite h

theorem State.sound.effDealerTakeover (h : s.sound) : (effDealerTakeover s).sound := by
  unfold Machine.effDealerTakeover
  split
  · exact h.setF.setTrickNext.setF.setF.frame.sendStat.commitDeals.raise.ite h
  · exact h

theorem State.sound.effDealerWaitEnd (h : s.sound) : (effDealerWaitEnd s).sound := by
  unfold Machine.effDealerWaitEnd
  split
  · exact h.setF.setF.frame.commitDeals.ite h
  · exact h

theorem State.sound.effRestartWindowEnd (h : s.sound) : (effRestartWindowEnd s).sound := h.frame.ite h

theorem State.sound.storeAddr {a : Nat} (h : s.sound) : (s.storeAddr a).sound := h.setF.writePersist

theorem State.sound.startEnum (h : s.sound) : s.startEnum.sound := (h.storeAddr.setF.ite h).setF.frame.originate

theorem State.sound.effEnumerationStart (h : s.sound) : (effEnumerationStart s).sound := h.startEnum.ite h

theorem State.sound.effEnsEnum (h : s.sound) : (effEnsEnum s).sound := (h.setF.ite h.setF.startEnum).ite h

theorem State.sound.noteScan {p hops : Nat} (h : s.sound) : (s.noteScan p hops).sound := h.frame.ite h.frame

theorem State.sound.effEnumScan {p : Nat} {bl : List WireBlock} (h : s.sound) : (effEnumScan p bl s).sound :=
  h.takeMsg fun _ _ _ h => h.frame.ite (h.setF.frame.noteScan.ite (h.noteScan.ite h))

theorem State.sound.effEnumReportDue (h : s.sound) : (effEnumReportDue s).sound := by
  unfold Machine.effEnumReportDue
  split
  · exact h.frame.originate.ite h
  · exact h

theorem State.sound.effEnumReport {p : Nat} {bl : List WireBlock} (h : s.sound) : (effEnumReport p bl s).sound :=
  h.takeMsg fun _ _ _ h => h.frame.ite h

theorem State.sound.pumpAssigns {fuel : Nat} (h : s.sound) : (State.pumpAssigns fuel s).sound := by
  induction fuel generalizing s with
  | zero => exact h
  | succ fuel ih =>
    unfold State.pumpAssigns
    split
    · exact h
    · exact h.ite (ih h.frame.originate)

theorem State.sound.flushAssigns (h : s.sound) : s.flushAssigns.sound := h.pumpAssigns

theorem State.sound.sendAssigns (h : s.sound) : s.sendAssigns.sound := h.frame.flushAssigns

theorem State.sound.effEnumAssignDue (h : s.sound) : (effEnumAssignDue s).sound := by
  unfold Machine.effEnumAssignDue
  split
  · exact ((h.foldl fun _ _ h => h.raise).raise.ite (h.foldl fun _ _ h => h.raise)).frame.sendAssigns.ite h
  · exact h

theorem State.sound.effEnumAssign {p : Nat} {bl : List WireBlock} (h : s.sound) : (effEnumAssign p bl s).sound :=
  h.takeMsg fun _ _ _ h => (h.ite h.storeAddr).originate.ite h

theorem State.sound.effEnumAck {p : Nat} {bl : List WireBlock} (h : s.sound) : (effEnumAck p bl s).sound :=
  h.takeMsg fun _ _ _ h => h.frame.ite h

theorem State.sound.effEnumAckTimeout (h : s.sound) : (effEnumAckTimeout s).sound :=
  (h.sendAssigns.ite (h.frame.foldl fun _ _ h => h.raise)).ite h

theorem State.sound.showUnits {u : Nat} {line : Bool} (h : s.sound) : (s.showUnits u line).sound := h.setF.setF.setF.setF.frame

theorem State.sound.effEnumDoneDue (h : s.sound) : (effEnumDoneDue s).sound := h.originate.showUnits.raise.ite h

theorem State.sound.effEnumDone {p : Nat} {bl : List WireBlock} (h : s.sound) : (effEnumDone p bl s).sound :=
  h.takeMsg fun _ _ _ h => h.showUnits.ite h

theorem State.sound.acceptDeal {op deal src mask base : Nat} {at_ : Tick}
    (h : s.sound) : (s.acceptDeal op deal src mask base at_).sound :=
    (h.setTrickNext.ite h).setF.setF.setF.clearFs.foldl fun _ _ h => h.frame

theorem State.sound.deal {n : Nat} {t : Tick} (h : s.sound) : (s.deal n t).sound := h.originate.acceptDeal

theorem State.sound.effActionDeal {n : Nat} (h : s.sound) : (effActionDeal n s).sound :=
  h.runAction fun _ _ h => State.sound.ite_snd h.deal h

theorem State.sound.effDealCmd {v : Nat} (h : s.sound) : (effDealCmd v s).sound :=
  (h.setF.ite (h.setF.ite (h.setF.ite h.deal.setF))).ite h

theorem State.sound.takeDeal {m : Msg} (h : s.sound) : (s.takeDeal m).sound :=
  h.setF.setF.setF.setF.setF.bumpF.ite h.seeGen.bumpF.acceptDeal

theorem State.sound.effDealArm {p : Nat} {bl : List WireBlock} (h : s.sound) : (effDealArm p bl s).sound :=
  h.takeMsg fun _ _ _ h => h.takeDeal.ite h

theorem State.sound.effDealDisarm {p : Nat} {bl : List WireBlock} (h : s.sound) : (effDealDisarm p bl s).sound :=
  h.takeMsg fun _ _ _ h => h.takeDeal.ite h

theorem State.sound.runDeal {d : DealAct} (h : s.sound) : (s.runDeal d).sound := by
  unfold State.runDeal
  extract_lets done armed _ s2 r _ s3
  have hs2 : s2.sound := h.ite h.frame
  have hs3 : s3.sound := hs2.frame
  split
  · split
    · exact hs2.endDeal
    · split
      · exact hs2.endDeal
      · exact hs2.disarmPlan.endDeal
  · split
    · exact hs2.endDeal
    · split
      · exact hs3.submit
      · split
        next c s' e =>
          have hs' := State.sound.of_snd e hs3.askArm
          exact hs'.answer
        next s'2 e2 =>
          have hs'2 := State.sound.of_snd e2 hs3.askArm
          exact hs'2

theorem State.sound.missDeal {d : DealAct} (h : s.sound) : (s.missDeal d).sound := h.free.endDeal.bumpF.raise

theorem State.sound.dispatchDeal {d : DealAct} (h : s.sound) : (s.dispatchDeal d).sound := h.frame.ite h.runDeal

theorem State.sound.effDealActionDue {id : Nat} (h : s.sound) : (effDealActionDue id s).sound := by
  unfold Machine.effDealActionDue
  split
  · exact ((h.dispatchDeal.ite h.missDeal).ite h.endDeal.raise).ite h
  · exact h

theorem State.sound.effTimeSend (h : s.sound) : (effTimeSend s).sound := by
  unfold Machine.effTimeSend
  split
  · exact h.frame.originate.ite h
  · exact h

theorem State.sound.takeTime {m : Msg} (h : s.sound) : (s.takeTime m).sound :=
  h.ite ((h.seeGen.raise.ite h.seeGen).ite ((h.seeGen.setF.frame.ite h.seeGen.raise).ite h.seeGen))

theorem State.sound.effTimeMessage {p : Nat} {bl : List WireBlock} (h : s.sound) : (effTimeMessage p bl s).sound :=
  h.takeMsg fun _ _ _ h => h.takeTime.ite h

theorem State.sound.effBlockLockAcquired {p : Nat} (h : s.sound) : (effBlockLockAcquired p s).sound := h.setF.setF.frame.ite h

theorem State.sound.forgetPort {p : Nat} (h : s.sound) : (s.forgetPort p).sound := h.endPair.setF.setF.frame

theorem State.sound.effNeighbourAbsent {p : Nat} (h : s.sound) : (effNeighbourAbsent p s).sound :=
  h.forgetPort.bumpF.raise.sendStat.ite h

theorem State.sound.portsSilent (h : s.sound) : s.portsSilent.sound := h.forgetPort.forgetPort.frame

theorem State.sound.sendToken {p op t1 t2 at_ : Nat} (h : s.sound) : (s.sendToken p op t1 t2 at_).sound :=
  h.takeSeq.joinTx.ite h.takeSeq.joinTx.bumpF.overflow

theorem State.sound.effTokenSend {p : Nat} (h : s.sound) : (effTokenSend p s).sound := h.frame.sendToken.ite h

theorem State.sound.effTokenRequest {p : Nat} {bl : List WireBlock} {sub : Nat}
    (h : s.sound) : (effTokenRequest p bl sub s).sound := by
  unfold Machine.effTokenRequest
  split
  · extract_lets s2
    have hs2 : s2.sound := h.erroredBlocks
    split
    · exact hs2
    · exact hs2.bumpF
    · exact hs2.ite hs2.sendToken
  · exact h

theorem State.sound.noteExchange {p : Nat} {delta theta : Int} (h : s.sound) : (s.noteExchange p delta theta).sound :=
  h.frame.setF.setS.raise.ite h.frame.setF.setS

theorem State.sound.portComesUp {p addr port : Nat} (h : s.sound) : (s.portComesUp p addr port).sound :=
  h.setF.setF.setF.frame.ite h.setF.setF

theorem State.sound.effTokenReply {p : Nat} {bl : List WireBlock} {sub : Nat} (h : s.sound) : (effTokenReply p bl sub s).sound := by
  unfold Machine.effTokenReply
  extract_lets st s2 s3 _ _ s4 t4
  have hs2 : s2.sound := h.erroredBlocks
  have hs3 : s3.sound := hs2.bumpF
  have hs4 : s4.sound := hs2.frame
  split
  · split
    · exact hs2
    · exact hs3.frame
    · exact (hs4.setF.raise.ite hs4.noteExchange.portComesUp).ite hs2
    · exact hs2
  · exact h

theorem State.sound.effEnsClrCounts (h : s.sound) : (effEnsClrCounts s).sound := h.clearCounts.ite h

/-! ### Flash and control records -/

theorem State.sound.reads {addr len : Nat} (h : s.sound) : (s.reads addr len).sound := h.emit

theorem State.sound.flashOp {code addr len : Nat} (h : s.sound) : (s.flashOp code addr len).sound := h.emit.emit.emit

theorem State.sound.pages {addr n : Nat} (h : s.sound) : (s.pages addr n).sound := by
  induction n generalizing s addr with
  | zero => exact h
  | succ n ih => exact ih h.flashOp

theorem State.sound.verifyFailed {obj : Nat} {v : Verdict} (h : s.sound) : (s.verifyFailed obj v).sound := h.setF.stageTrust.raise

theorem State.sound.showSlots (h : s.sound) : s.showSlots.sound := h.foldl fun _ _ h => h.setF.setF

theorem State.sound.finishCtl (h : s.sound) : s.finishCtl.sound := by
  unfold State.finishCtl
  split
  · exact h.frame.flashOp
  · exact h

theorem State.sound.writeCtl {r : CtlRec} (h : s.sound) : (s.writeCtl r).sound := h.finishCtl.frame.flashOp.showSlots

/-! ### The configuration image -/

theorem State.sound.applyRecord {r : Nat × Nat} (h : s.sound) : (s.applyRecord r).sound := h.foldl fun _ _ h => h.setF.ite h

theorem State.sound.loadPlan {pl : Plan} (h : s.sound) : (s.loadPlan pl).sound :=
  h.putPlan.setF.setB.setB.setF.setF.setF.setF.setF.setF.setF.setF

theorem State.sound.loadPlans {l : List Plan} (h : s.sound) : (s.loadPlans l).sound :=
  (h.foldl fun _ _ h => h.loadPlan).foldl fun _ _ h => h.showChan

theorem State.sound.applyImage {im : Image} (h : s.sound) : (s.applyImage im).sound :=
  ((h.foldl fun _ _ h => h.applyRecord).foldl fun _ _ h => h.setB).frameMem.loadPlans.setF.setF.setF

theorem State.sound.loadPatch {b : List Byte} (h : s.sound) : (s.loadPatch b).sound :=
  (h.frame.foldl fun _ _ h => h.setF.setF.setF.setF).setF.setF.setF.setF.setF.setF

theorem State.sound.refusePatch {state : Nat} (h : s.sound) : (s.refusePatch state).sound := h.setF.raise

/-! ### Shuffle steps -/

theorem State.sound.skipStep {g : Nat} (h : s.sound) : (s.skipStep g).sound := h.bumpF.raise.startBg.ite h.bumpF.raise

theorem State.sound.startStep {g entry : Nat} (h : s.sound) : (s.startStep g entry).sound := h.setStep.setF

theorem State.sound.shuffleGroup {entry g : Nat} (h : s.sound) : (s.shuffleGroup entry g).sound :=
  h.bumpF.ite (h.skipStep.ite h.startStep)

theorem State.sound.runMask {n action : Nat} {act : State → Nat → State} (h : s.sound)
    (ha : ∀ s g, s.sound → (act s g).sound) : (s.runMask n action act).sound := by
  unfold State.runMask
  split
  · exact h
  · exact ((h.foldl ha).endOcc.ite (h.foldl ha).frame).ite h

theorem State.sound.effActionShuffle {n : Nat} (h : s.sound) : (effActionShuffle n s).sound := h.runMask fun _ _ h => h.shuffleGroup

theorem State.sound.effShadowFrameStart {g : Nat} (h : s.sound) : (effShadowFrameStart g s).sound := by
  unfold Machine.effShadowFrameStart
  split
  · exact h.setStep.setF.ite h
  · exact h

theorem State.sound.noteShadow {g : Nat} {ds : List Int} (h : s.sound) : (s.noteShadow g ds).sound := h.setS.setF

theorem State.sound.abortShadow {g sl kind : Nat} (h : s.sound) : (s.abortShadow g sl kind).sound := h.setStep.setF.bumpF.raise

theorem State.sound.effShadowFrameEnd {g first : Nat} {incoming outgoing : List Nat}
    (h : s.sound) : (effShadowFrameEnd g first incoming outgoing s).sound := by
  unfold Machine.effShadowFrameEnd
  split
  · split
    · split
      · extract_lets ds s2 sl
        have hs2 : s2.sound := h.noteShadow
        exact hs2.abortShadow.ite (hs2.frame.setStep.setF.ite (hs2.frame.abortShadow.retire.ite hs2.frame.abortShadow))
      · exact h
    · exact h
  · exact h

theorem State.sound.effShuffleSwitch {g : Nat} (h : s.sound) : (effShuffleSwitch g s).sound := by
  unfold Machine.effShuffleSwitch
  split
  · exact (h.setStep.setF.laneRequest.laneRequest.ite h.setStep.setF.laneRequest).setF.frame.ite h
  · exact h

theorem State.sound.effShuffleRelease {g : Nat} (h : s.sound) : (effShuffleRelease g s).sound := by
  unfold Machine.effShuffleRelease
  split
  · split
    · exact h.setStep.setF.setF.setB.setF.frame.bumpF.startBg.ite h
    · exact h
  · exact h

/-! ### Self-test -/

theorem State.sound.noteSig {p q : Nat} {test : PartTest} (h : s.sound) : (s.noteSig p q test).sound := by
  unfold State.noteSig
  split
  · exact h.frame
  · exact h

theorem State.sound.failUnit {u : Nat} (h : s.sound) : (s.failUnit u).sound := h.withdrawUnit.setF

theorem State.sound.bistGroup {g : Nat} (h : s.sound) : (s.bistGroup g).sound := h.bumpF.ite h.frame

theorem State.sound.effActionBistSlice {n : Nat} (h : s.sound) : (effActionBistSlice n s).sound :=
  h.runMask fun _ _ h => h.bistGroup

theorem State.sound.judgePart {r : Nat × Nat × PartTest} (h : s.sound) : (s.judgePart r).sound := by
  unfold State.judgePart
  split
  · extract_lets ok s2 s3 _ s4 n s5 s6 s7
    have hs2 : s2.sound := h.noteSig.setF
    have hs3 : s3.sound := hs2.setF
    have hs4 : s4.sound := hs3.frame
    have hs5 : s5.sound := hs3.frame
    have hs6 : s6.sound := hs5.setF.raise
    have hs7 : s7.sound := hs6.failUnit.setF
    exact (hs4.setF.ite hs4).ite (hs6.ite (hs7.raise.ite (hs6.ite hs6.setF.retire)))

theorem State.sound.effBistSliceDone {g : Nat} {results : List PartTest} (h : s.sound) : (effBistSliceDone g results s).sound := by
  unfold Machine.effBistSliceDone
  split
  · exact h
  · extract_lets parts tests pass _ s2 s3 s4 s5
    have hs2 : s2.sound := h.frame
    have hs3 : s3.sound := hs2.bumpF
    have hs4 : s4.sound := hs3.ite hs3.bumpF
    have hs5 : s5.sound := hs4.setBg.ite hs4
    exact (hs5.foldl fun _ _ h => h.judgePart).ite h

theorem State.sound.abandonBist {g : Nat} (h : s.sound) : (s.abandonBist g).sound := by
  unfold State.abandonBist
  split
  · exact h
  · exact (h.frame.foldl fun _ _ h => h.setF.setF).bumpF

theorem State.sound.effSigSelWrite {v : Nat} (h : s.sound) : (effSigSelWrite v s).sound := h.setF.setF.setF.setF.setF.setF.ite h

theorem State.sound.effBstClrCounts (h : s.sound) : (effBstClrCounts s).sound := h.clearCounts.ite h

/-! ### Modes -/

theorem State.sound.showOwner (h : s.sound) : s.showOwner.sound := (h.foldl fun _ _ h => h.setF).setF.setF

theorem State.sound.cold {cause : Nat} (h : s.sound) : (s.cold cause).sound := by
  unfold State.cold
  extract_lets c blank t
  have hblank : blank.sound := ⟨rfl, rfl, h.2.2⟩
  have ht : t.sound := hblank.setF.setF
  exact ht.showOwner.showSlots.showLog

theorem State.sound.beginLoad (h : s.sound) : s.beginLoad.sound := h.frame.setF.stageRaw.ite h

theorem State.sound.sealAll (h : s.sound) : s.sealAll.sound := h.foldl fun _ _ h => h.sealRec

theorem State.sound.stopForReset {cause : Nat} (h : s.sound) : (s.stopForReset cause).sound :=
  h.ite h.frame.stopAllPlans.drainSlots.sealAll.haltQueues

theorem State.sound.endWrite {cause : Nat} (h : s.sound) : (s.endWrite cause).sound := h.finishCtl.ite h

theorem State.sound.resetDevice {cause : Nat} (h : s.sound) : (s.resetDevice cause).sound :=
  h.stopForReset.commitAll.endWrite.cold.beginLoad

theorem State.sound.quietFabric (h : s.sound) : s.quietFabric.sound := (h.abortSteps.foldl fun _ _ h => h.abandonBist).frame

theorem State.sound.makeUp {c : Nat} (h : s.sound) : (s.makeUp c).sound := h.foldl fun _ _ h => h.bumpF.setPostponed

theorem State.sound.selfRefresh {on : Bool} (h : s.sound) : (s.selfRefresh on).sound :=
  (h.foldl fun _ _ h => (h.setF.makeUp.ite h.setF).setF.ite (h.setF.makeUp.ite h.setF)).frameMem

theorem State.sound.failTrial {k : Nat} (h : s.sound) : (s.failTrial k).sound := h.writeCtl.logEntry

theorem State.sound.enterSafe {cause : Nat} {bootRom : Bool} (h : s.sound) : (s.enterSafe cause bootRom).sound := by
  unfold State.enterSafe
  split
  · exact h
  · extract_lets early _ s2 s3 s4 s5 s6 _ _ _ _ _ s7 s8 s9 s10 s11
    have hs2 : s2.sound := h.frame
    have hs3 : s3.sound := hs2.stopAllPlans.drainSlots.sealAll
    have hs4 : s4.sound := hs3.foldl fun _ _ h => h.freeIfDone
    have hs5 : s5.sound := hs4.haltQueues.displayOff.stopComposer.outsOff.portsSilent.quietFabric.idleSchedule
    have hs6 : s6.sound := hs5.selfRefresh
    have hs7 : s7.sound := hs6.frameMem
    have hs8 : s8.sound := hs7.setF.setF
    have hs9 : s9.sound := hs8.setF.setB
    have hs10 : s10.sound := hs9.setF.clearFs.ite hs9
    have hs11 : s11.sound := hs10.changeMode
    split
    · exact hs11.failTrial.resetDevice.ite hs11
    · exact hs11

theorem State.sound.fatal {k a : Nat} (h : s.sound) : (s.fatal k a).sound := h.ite (h.raise.ite h.raise.enterSafe)

theorem State.sound.judgeService (h : s.sound) : s.judgeService.sound := h.ite h.fatal

theorem State.sound.judgeDue (h : s.sound) : s.judgeDue.sound := by
  unfold State.judgeDue
  refine h.foldl fun s2 n h2 => ?_
  split
  · exact h2.setLate.ite h2
  · exact h2

theorem State.sound.commitImage (h : s.sound) : s.commitImage.sound := h.foldl fun _ _ h => h.ite h.putEntry_

theorem State.sound.restGroup {g : Nat} (h : s.sound) : (s.restGroup g).sound := h.ite (h.setF.setF.startBg.ite h.setF.setF.setF)

theorem State.sound.recordReady (h : s.sound) : s.recordReady.sound := by
  unfold State.recordReady
  split
  · exact h
  · exact h.setF.ite h.setF.writeCtl

theorem State.sound.firstReady (h : s.sound) : s.firstReady.sound :=
  ((h.frame.foldl fun _ _ h => h.restGroup).foldl fun _ _ h => h.submit).commitImage.recordReady.setF.setF

theorem State.sound.startBoundaries (h : s.sound) : s.startBoundaries.sound := h.frame

theorem State.sound.readyEntry {dormant : Bool} (h : s.sound) : (s.readyEntry dormant).sound := by
  unfold State.readyEntry
  extract_lets s2 s3 s4 _ s5 s6 s7
  have hs2 : s2.sound := h.submit.ite h
  have hs3 : s3.sound := hs2.submit.ite hs2
  have hs4 : s4.sound := hs3.startBoundaries.setF
  have hs5 : s5.sound := hs4.frame
  have hs6 : s6.sound := hs5.ite hs5.firstReady
  have hs7 : s7.sound := by
    unfold s7
    refine hs6.foldl fun s8 k h2 => ?_
    split
    · exact h2.startInstants
    · exact h2
  exact hs7.outsOn.judgeDue.restartDetectors.snapMap.seqSnap

theorem State.sound.drainRequests {n : Nat} (h : s.sound) : (State.drainRequests n s).sound := by
  induction n generalizing s with
  | zero => exact h
  | succ n ih =>
    unfold State.drainRequests
    split
    · exact h
    · refine ih (State.sound.decideHead ?_)
      split
      · exact h.initCatalogue.ite h
      · exact h

theorem State.sound.restDisplay (h : s.sound) : s.restDisplay.sound := h.ite h.displayOff

theorem State.sound.beginDormant (h : s.sound) : s.beginDormant.sound :=
  h.frame.abortSteps.stopAllPlans.haltQueues.stopComposer.restDisplay.frame

theorem State.sound.dormantNext (h : s.sound) : s.dormantNext.sound := h.beginDormant.ite h

theorem State.sound.startDormant (h : s.sound) : s.startDormant.sound := h.drainRequests.frame.setF.dormantNext

theorem State.sound.effAdmission (h : s.sound) : (effAdmission s).sound := h.decideHead.dormantNext

theorem State.sound.wakeCause {n : Nat} (h : s.sound) : (s.wakeCause n).sound :=
  h.ite (h.frame.ite (((h.setF.ite h).ite h.frame.setF.setF).ite h))

theorem State.sound.effDormantEntryDone (h : s.sound) : (effDormantEntryDone s).sound := by
  unfold Machine.effDormantEntryDone
  extract_lets s2 still quiet steps wake s3 x _ s4 s5 s6 _ _ s7 s8 s9
  have hs2 : s2.sound := h.dormantNext
  have hs3 : s3.sound := hs2.foldl fun _ _ h => h.freeIfDone
  have hx : x.sound := hs3.quietFabric
  have hs4 : s4.sound := hx.frame
  have hs5 : s5.sound := hs4.setResv.portsSilent.outsOff.selfRefresh
  have hs6 : s6.sound := hs5.setF.bumpF
  have hs7 : s7.sound := hs6.frame
  have hs8 : s8.sound := hs7.changeMode.commitAll
  have hs9 : s9.sound := hs8.requestDone
  exact (hs9.foldl fun _ _ h => h.wakeCause).ite hs2

theorem State.sound.requestRuns {target : Nat} (h : s.sound) : (s.requestRuns target).sound := h.setF.frame

theorem State.sound.requestMode {target key : Nat} (h : s.sound) : (s.requestMode target key).2.sound := by
  unfold State.requestMode
  extract_lets res s2
  have hs2 : s2.sound := h.setF.setF
  have hend : (((List.range 8).foldl State.disarm (s2.requestRuns 2)).settle).sound :=
    (hs2.requestRuns.foldl fun _ _ h => h.disarm).settle
  split
  · exact hs2.pair
  split
  · exact hs2.requestRuns.frame.pair
  split
  · exact hs2.requestRuns.startDormant.pair
  split
  · exact hs2.pair
  split
  · exact hs2.requestRuns.wakeCause.pair
  · exact hend.pair

theorem State.sound.finishReset (h : s.sound) : s.finishReset.sound := h.resetDevice.ite h

theorem State.sound.effModeReqDormant (h : s.sound) : (effModeReqDormant s).sound := h.requestMode.ite h

theorem State.sound.effModeReqReady (h : s.sound) : (effModeReqReady s).sound := h.requestMode.ite h

theorem State.sound.effModeReqReset {key : Nat} (h : s.sound) : (effModeReqReset key s).sound := h.requestMode.finishReset.ite h

theorem State.sound.effWakeTickReached (h : s.sound) : (effWakeTickReached s).sound := h.wakeCause.ite h

theorem State.sound.effPowerOn (h : s.sound) : (effPowerOn s).sound := h.ite h.frame.cold.beginLoad

theorem State.sound.effVddAonLoss (h : s.sound) : (effVddAonLoss s).sound := h.frame.cold.ite h

theorem State.sound.effResetNAssert (h : s.sound) : (effResetNAssert s).sound := h.ite (h.frame.resetDevice.ite h.frame)

theorem State.sound.effResetNRelease (h : s.sound) : (effResetNRelease s).sound := h.frame.beginLoad.ite h

theorem State.sound.effThermalTrip (h : s.sound) : (effThermalTrip s).sound := (h.frame.ite h.frame.resetDevice).ite h

theorem State.sound.effThermalTripRelease (h : s.sound) : (effThermalTripRelease s).sound := h.frame.beginLoad.ite h

theorem State.sound.effWatchdogExpiry (h : s.sound) : (effWatchdogExpiry s).sound := (h.ite h.writeCtl).resetDevice.ite h

/-! ### The monitor -/

theorem State.sound.monSetDef {d : Nat} (h : s.sound) : (s.monSetDef d).sound := h.setF.setF.setF

theorem State.sound.monStartDef {d : Nat} (h : s.sound) : (s.monStartDef d).sound := h.frame.monSetDef

theorem State.sound.monNextSlot (h : s.sound) : s.monNextSlot.sound := by
  unfold State.monNextSlot
  extract_lets _ s2 _ d k
  have hs2 : s2.sound := h.frame
  split
  · exact hs2.frame.ite hs2.frame.setF
  · exact hs2.setF.ite (hs2.setF.ite hs2.setF)

theorem State.sound.monAlarm {n c : Nat} (h : s.sound) : (s.monAlarm n c).sound :=
  h.frame.ite (h.frame.setF.ite ((h.frame.setF.raise.enterSafe.ite h.frame.setF.raise).ite h.frame.setF.raise))

theorem State.sound.effMonConversionDone {raws : List Nat} (h : s.sound) : (effMonConversionDone raws s).sound := by
  unfold Machine.effMonConversionDone
  split
  · exact (h.setF.wrapF.setB.monNextSlot.bumpF.ite h.setF.wrapF.setB.monNextSlot.monAlarm).ite h
  · exact h

theorem State.sound.effMonSeqStart (h : s.sound) : (effMonSeqStart s).sound := by
  unfold Machine.effMonSeqStart
  split
  · exact (h.frame.monSetDef.ite h.frame.monStartDef).ite h
  · exact h

theorem State.sound.effActionMonSeq {n : Nat} (h : s.sound) : (effActionMonSeq n s).sound := h.runAction fun _ _ h => h.frame

theorem State.sound.effPulseWidthEvent {sources : Nat} (h : s.sound) : (effPulseWidthEvent sources s).sound := by
  unfold Machine.effPulseWidthEvent
  extract_lets src _ s2 s3 s4 _ s5
  have hs2 : s2.sound := h.frame
  have hs3 : s3.sound := hs2.bumpF.raise
  have hs4 : s4.sound := hs3.setF
  have hs5 : s5.sound := hs3.bumpF.ite (hs4.frame.ite hs3)
  exact (hs5.wakeCause.ite hs5).ite h

theorem State.sound.effPwrEvtDeassert (h : s.sound) : (effPwrEvtDeassert s).sound := h.frame

theorem State.sound.effInjectStart (h : s.sound) : (effInjectStart s).sound := by
  unfold Machine.effInjectStart
  split
  · exact (h.bumpF.ite h).frame.ite h
  · exact h

theorem State.sound.setRefEn {on : Bool} (h : s.sound) : (s.setRefEn on).sound := h.setF.setF.frame.ite (h.setF.setF.frame.ite h)

theorem State.sound.effMonCtlWrite {v : Nat} (h : s.sound) : (effMonCtlWrite v s).sound := h.setRefEn.ite h

theorem State.sound.effRefSettled (h : s.sound) : (effRefSettled s).sound := h.setF.ite h

theorem State.sound.effMgtClrCounts (h : s.sound) : (effMgtClrCounts s).sound := h.clearCounts.ite h

theorem State.sound.effLogCommit (h : s.sound) : (effLogCommit s).sound := by
  unfold Machine.effLogCommit
  split
  · exact h
  · exact h.commitUnits.ite (h.commitAll.ite h)

theorem State.sound.logRead {f c : Nat} (h : s.sound) : (s.logRead f c).2.2.sound := by
  unfold State.logRead
  split
  · exact h
  · exact h.commitUnits

theorem State.sound.writeDwords {f : Nat → Fld} {bs : List Byte} {n : Nat} (h : s.sound) : (s.writeDwords f bs n).sound := by
  induction n with
  | zero => exact h
  | succ n ih => exact ih.setF

theorem State.sound.effLogSelWrite {v : Nat} (h : s.sound) : (effLogSelWrite v s).sound := by
  unfold Machine.effLogSelWrite
  split
  · extract_lets s2 f
    have hs2 : s2.sound := h.setF.setF
    split
    next r es s3 e =>
      have hs3 := State.sound.of_snd_snd e hs2.logRead
      exact hs3.setF.setF.ite hs3.setF.setF.writeDwords
  · exact h

/-! ### Boot -/

theorem State.sound.updateCtl (h : s.sound) : s.updateCtl.sound := by
  unfold State.updateCtl
  split
  · exact h
  · exact h.ite (h.writeCtl.foldl fun _ _ h => h.setF.logEntry)

theorem State.sound.showStage {n : Nat} (h : s.sound) : (s.showStage n).sound := h.frame.setF

theorem State.sound.identifyFlash (h : s.sound) : s.identifyFlash.sound := (h.emit.emit.emit.ite h.emit.emit).setF.setF.setB.setF

theorem State.sound.bootStart {misr : Nat} (h : s.sound) : (s.bootStart misr).sound := by
  unfold State.bootStart
  extract_lets pass s2 _ s3 _ s4 s5
  have hs2 : s2.sound := h.noteSig.setF
  have hs3 : s3.sound := hs2.frame.setF
  have hs4 : s4.sound := hs3.frame
  have hs5 : s5.sound := hs3.identifyFlash.reads.reads
  exact hs4.setF.setF.raise.enterSafe.ite (hs5.enterSafe.ite hs5.updateCtl.showStage)

theorem State.sound.noCandidate (h : s.sound) : s.noCandidate.sound := h.enterSafe.resetDevice.ite h.enterSafe

theorem State.sound.noteTrial {k : Nat} (h : s.sound) : (s.noteTrial k).sound := h.frame.failTrial.ite h

theorem State.sound.failSlot {k reason : Nat} (h : s.sound) : (s.failSlot k reason).sound :=
  h.frame.setF.noteTrial.noCandidate.ite h.frame.setF.noteTrial.clearFs.showStage

theorem State.sound.showLoad {pos total : Nat} (h : s.sound) : (s.showLoad pos total).sound := h.setF.setF.setF

theorem State.sound.startFirmware {k : Nat} {fw : List Byte} {units : Nat} (h : s.sound) : (s.startFirmware k fw units).sound :=
  h.showLoad.frame.setF.setF.setF.setF.setF.setF.setF.setF.setB.showStage

theorem State.sound.tryCandidate (h : s.sound) : s.tryCandidate.sound := by
  unfold State.tryCandidate
  split
  · exact h.noCandidate
  · extract_lets _ s2 s3 s4
    have hs2 : s2.sound := h.frame
    have hs3 : s3.sound := hs2.setF
    have hs4 : s4.sound := hs3.reads
    split
    · exact hs4.failSlot
    · extract_lets p s5 _ s6 fw v v2
      have hs5 : s5.sound := hs4.ite hs4.reads
      have hs6 : s6.sound := hs5.frame.reads
      exact hs5.setF.verifyFailed.failSlot.ite (hs6.verifyFailed.failSlot.ite hs6.startFirmware)

theorem State.sound.effFirmwareVerified {misr : Nat} (h : s.sound) : (effFirmwareVerified misr s).sound :=
  ((h.ite h.bootStart).tryCandidate.ite (h.ite h.bootStart)).ite h

theorem State.sound.enrol {fuses : List Byte} (h : s.sound) : (s.enrol fuses).sound :=
  h.ite (h.frame.showOwner.setF.enterSafe.ite h.frame.showOwner)

theorem State.sound.finishEnrol (h : s.sound) : s.finishEnrol.sound := h.frame.showOwner.setF.stageTrust.raise.ite h

theorem State.sound.judgePatch {obj refs : List Byte} {hits : List (Nat × ManifestEntry)} {readBack : Bool}
    (h : s.sound) : (s.judgePatch obj refs hits readBack).sound := by
  unfold State.judgePatch
  extract_lets none_ j i s2 s3
  have hs2 : s2.sound := h.verifyFailed.ite h
  have hs3 : s3.sound := hs2.ite hs2.refusePatch
  split
  · exact h.loadPatch.setF
  · split
    · exact hs3.setF.setF
    · exact hs3.enterSafe

theorem State.sound.closeLeft (h : s.sound) : s.closeLeft.sound := h.commitAll.foldl fun _ _ h => h.logClose.raise

theorem State.sound.recallAddr (h : s.sound) : s.recallAddr.sound := by
  unfold State.recallAddr
  split
  · exact h.setF.ite h
  · exact h

theorem State.sound.takeRole (h : s.sound) : s.takeRole.sound := h.setF

theorem State.sound.nextBlock (h : s.sound) : s.nextBlock.sound := h.frame.showAccession.setF

theorem State.sound.startTraining (h : s.sound) : s.startTraining.sound := (h.foldl fun _ _ h => h.setF.ite h).seqRequest

theorem State.sound.takeClock (h : s.sound) : s.takeClock.sound := by
  unfold State.takeClock
  extract_lets ref
  split
  · exact h.frame.setF.setF.showStage.startTraining
  · exact (h.frame.setF.setF.frame.bumpF.raise.ite h.frame.setF).setF.showStage.startTraining.ite h.frame.showStage

theorem State.sound.effCrystalStart {ref : Bool} (h : s.sound) : (effCrystalStart ref s).sound := h.frame.takeClock.ite h

theorem State.sound.takeImage {im : Image} {monStart : Option Nat} {refAuto : Bool} {bar2 : Nat}
    (h : s.sound) : (s.takeImage im monStart refAuto bar2).sound := by
  unfold State.takeImage
  extract_lets s2 s3 log2 _ _ _ s4 s5 s6 s7
  have hs2 : s2.sound := h.applyImage
  have hs3 : s3.sound := hs2.closeLeft.recallAddr.takeRole.nextBlock
  have hs4 : s4.sound := hs3.frame
  have hs5 : s5.sound := hs4.setRefEn.ite hs4
  have hs6 : s6.sound := by
    unfold s6
    split
    · exact hs5.monStartDef.ite hs5
    · exact hs5
  have hs7 : s7.sound := hs6.setF.setF
  exact hs7.takeClock

theorem State.sound.effImageVerified {monStart : Option Nat} {refAuto : Bool} {bar2 : Nat} {patchReadBack : Bool} {fuses : List Byte}
    (h : s.sound) : (effImageVerified monStart refAuto bar2 patchReadBack fuses s).sound := by
  unfold Machine.effImageVerified
  split
  · exact h
  · split
    · exact h
    · split
      · exact h.failSlot
      · extract_lets cfg body s2 v s3 _
        have hs2 : s2.sound := h.reads
        have hs3 : s3.sound := hs2.showLoad
        split
        · exact hs2.verifyFailed.failSlot
        · split
          · exact hs2.verifyFailed.failSlot
          · split
            · exact hs2.verifyFailed.failSlot
            · split
              · exact hs3.failSlot
              · extract_lets hits s4 s5 s6 obj s7 s8
                have hs4 : s4.sound := hs3.frame
                have hs5 : s5.sound := hs4.setF
                have hs6 : s6.sound := hs5.enrol
                have hs7 : s7.sound := hs6.ite hs6.reads
                have hs8 : s8.sound := hs7.judgePatch
                exact hs4.failSlot.ite (hs5.enterSafe.ite (hs6.ite (hs8.ite hs8.takeImage)))

theorem State.sound.excludeChan {c : Nat} (h : s.sound) : (s.excludeChan c).sound := h.ite h.setF.raise

theorem State.sound.excludeFailed (h : s.sound) : s.excludeFailed.sound := h.foldl fun _ _ h => h.excludeChan

theorem State.sound.fixMap (h : s.sound) : s.fixMap.sound :=
  ((h.frameMem.setF.setF.setF.setF.setB.foldl fun _ _ h => h.raise).ite h.frameMem.setF.setF.setF.setF.setB).showStage.ite h

theorem State.sound.trainChan {rankFails : List (Nat × Nat)} {subFails : List Nat} {c : Nat}
    (h : s.sound) : (s.trainChan rankFails subFails c).sound := by
  unfold State.trainChan
  extract_lets bad spare spareBad useSpare s2 s3
  have hs2 : s2.sound := h.setRank.ite h
  have hs3 : s3.sound := hs2.frameMem.ite hs2
  clear_value bad
  split
  · exact hs3
  · split
    · exact hs3.excludeChan
    · split
      · exact hs3.setF
      · exact hs3.setRank.setRank.frameMem.setF.ite hs3.excludeChan
      · exact hs3.excludeChan

theorem State.sound.showBst {pos : Nat} (h : s.sound) : (s.showBst pos).sound := h.setF.setF

theorem State.sound.takeTraining {rankFails : List (Nat × Nat)} {subFails : List Nat}
    (h : s.sound) : (s.takeTraining rankFails subFails).sound :=
    ((h.foldl fun _ _ h => h.trainChan).ite (h.foldl fun _ _ h => h.trainChan).setUnit).frame

theorem State.sound.effDramTrainingDone {rankFails : List (Nat × Nat)} {subFails : List Nat}
    (h : s.sound) : (effDramTrainingDone rankFails subFails s).sound :=
    (h.takeTraining.fixMap.ite (h.showBst.ite h).frame).ite h

theorem State.sound.failPart {p q : Nat} (h : s.sound) : (s.failPart p q).sound := by
  unfold State.failPart
  extract_lets out
  split
  · exact h.failUnit.ite (h.ite (h.setF.retire.setF.ite h.setF.retire))
  · exact h.setF.frame.ite (h.setF.withdrawUnit.ite (h.setF.ite (h.setF.frame.ite h.setF.frame)))

theorem State.sound.loadPart {r : Nat × Nat × PartTest} (h : s.sound) : (s.loadPart r).sound :=
  h.noteSig.setF.setF.ite h.noteSig.setF.setF.setF.raise.failPart

theorem State.sound.failRef {i : Nat} (h : s.sound) : (s.failRef i).sound := h.setF.frame.ite (h.setF.ite h.setF.free.free.raise)

theorem State.sound.dropMonitor {bad : List Nat} (h : s.sound) : (s.dropMonitor bad).sound := h.frame

theorem State.sound.effLoadSelfTestDone {results : List PartTest} {refs : List Nat}
    (h : s.sound) : (effLoadSelfTestDone results refs s).sound := by
  unfold Machine.effLoadSelfTestDone
  extract_lets parts analogue tests bad s2 s3 s4 s5 s6 _
  have hs2 : s2.sound := h.dropMonitor
  have hs3 : s3.sound := (hs2.foldl fun _ _ h => h.loadPart).excludeFailed
  have hs4 : s4.sound := by
    unfold s4
    split
    · exact hs3.takeTraining
    · exact hs3
  have hs5 : s5.sound := (hs4.foldl fun _ _ h => h.loadPart).foldl fun _ _ h => h.failRef
  have hs6 : s6.sound := hs5.showBst
  exact hs6.frame.fixMap.ite h

theorem State.sound.bindGroup {g : Nat} (h : s.sound) : (s.bindGroup g).sound := (h.foldl fun _ _ h => h.bindLane).setB

theorem State.sound.setLead {c : Nat} (h : s.sound) : (s.setLead c).sound := by
  unfold State.setLead
  split
  · exact h.setF
  · exact h

theorem State.sound.stopAtLoad {c kind : Nat} (h : s.sound) : (s.stopAtLoad c kind).sound := h.ite h.frame.raise

theorem State.sound.assignNarrow {g : Nat} (h : s.sound) : (s.assignNarrow g).sound := by
  refine State.sound.foldl_snd (p := ([], s)) h fun p m h => ?_
  extract_lets l bound
  split
  · exact h.frame
  · split
    · exact h.stopAtLoad
    · exact h

theorem State.sound.shorten {g : Nat} (h : s.sound) : (s.shorten g).sound :=
  (h.frame.setF.stopAtLoad.ite h.frame.setF.assignNarrow).ite h

theorem State.sound.markLive {g : Nat} {narrow : Bool} (h : s.sound) : (s.markLive g narrow).sound :=
  (h.setF.ite h.setF.setF.setF).raise

theorem State.sound.startCalibrate {inputs : List InputLevel} (h : s.sound) : (s.startCalibrate inputs).sound :=
  h.frame.setF.setF.setF.setF.foldl fun _ _ h => h.markLive

theorem State.sound.effLoadComplete {inputs : List InputLevel} (h : s.sound) : (effLoadComplete inputs s).sound := by
  unfold Machine.effLoadComplete
  extract_lets ready s2 s3 s4 s5 s6 s7
  have hs2 : s2.sound := h.foldl fun _ _ h => h.bindGroup
  have hs3 : s3.sound := hs2.setF.showBst
  have hs4 : s4.sound := hs3.foldl fun _ _ h => h.setLead
  have hs5 : s5.sound := hs4.foldl fun _ _ h => h.shorten
  have hs6 : s6.sound := hs5.judgeService
  have hs7 : s7.sound := hs6.setF
  exact (hs6.ite hs7.changeMode.startCalibrate.showStage).ite h

theorem State.sound.markLoopback {sl : Nat} (h : s.sound) : (s.markLoopback sl).sound := h.setF

theorem State.sound.groupResult {g : Nat} (h : s.sound) : (s.groupResult g).sound := h.setF.setF

theorem State.sound.adoptAll {items : List CalMeasure} (h : s.sound) : (s.adoptAll items).2.2.sound :=
  List.foldlRecOn (motive := fun p => p.2.2.sound) items _ (b := (0, 0, s)) h fun _ h _ _ => h.adoptItem.finishItem

theorem State.sound.finishUnits {n : Nat} (h : s.sound) : (s.finishUnits n).sound := h.foldl fun _ _ h => h.finishItem

theorem State.sound.effCalibrateComplete {items : List CalMeasure} {loopback : List (List LoopBack)}
    (h : s.sound) : (effCalibrateComplete items loopback s).sound := by
  unfold Machine.effCalibrateComplete
  split
  · split
    next again marked s2 e =>
      have hs2 := State.sound.of_snd_snd e h.setF.finishItem.noteItem.adoptAll
      extract_lets failed s3 s4 s5 s6 suspects outcome s7 s8 s9 s10 s11
      have hs3 : s3.sound := hs2.finishUnits.foldl fun _ _ h => h.noteItem
      have hs4 : s4.sound := hs3.foldl fun _ _ h => h.markLoopback
      have hs5 : s5.sound := (hs4.foldl fun _ _ h => h.markSlice).foldl fun _ _ h => h.markChan
      have hs6 : s6.sound := hs5.foldl fun _ _ h => h.groupResult
      have hs7 : s7.sound := hs6.setF.setF
      have hs8 : s8.sound := hs7.setF.setF
      have hs9 : s9.sound := hs8.finishItem.setF.clearFs
      have hs10 : s10.sound := hs9.calSnap.noteItem.storePowerUp
      have hs11 : s11.sound := hs10.raise.ite hs10
      exact hs11.showStage.changeMode.readyEntry
  · exact h

/-! ### The mailbox -/

theorem State.sound.respond {r : MbxReq} {status : Nat} {payload : List Byte}
    (h : s.sound) : (s.respond r status payload).sound :=
    (h.ite h.writeDwords.setF.setF.raise).ite h.emit

theorem State.sound.flushBad {n : Nat} (h : s.sound) : (s.flushBad n).sound := by
  induction n generalizing s with
  | zero => exact h
  | succ n ih =>
    unfold State.flushBad
    split
    · exact h
    · exact h.ite ((ih h.frame.respond).ite (h.ite (ih h.frame.respond)))

theorem State.sound.flushReqs (h : s.sound) : s.flushReqs.sound := h.flushBad.ite h

theorem State.sound.submitMbx {r : MbxReq} (h : s.sound) : (s.submitMbx r).sound := h.frame.flushReqs

theorem State.sound.effMbxDoorbell (h : s.sound) : (effMbxDoorbell s).sound := (h.bumpF.ite h.setF.submitMbx).ite h

theorem State.sound.effUartFrame {bs : List Byte} (h : s.sound) : (effUartFrame bs s).sound :=
  h.ite (h.bumpF.ite (h.emit.ite h.submitMbx))

theorem State.sound.effUartGapTimeout (h : s.sound) : (effUartGapTimeout s).sound := h.ite h.bumpF

theorem State.sound.serve {op : Nat} {lenOk : Nat → Bool} {allowed : Bool} {f : MbxReq → State → Answer} (h : s.sound)
    (hf : ∀ r s, s.sound → (f r s).2.2.sound) : (s.serve op lenOk allowed f).sound := by
  unfold State.serve
  extract_lets s2
  have hs2 : s2.sound := h.flushReqs
  split
  · exact hs2
  · next r rest _ =>
    refine State.sound.ite ?_ hs2
    refine State.sound.flushReqs (State.sound.respond ?_)
    split
    · exact hs2.frame
    · split
      · exact hs2.frame
      · exact hf r _ hs2.frame

theorem State.sound.effGetIdentity (h : s.sound) : (effGetIdentity s).sound := h.serve fun _ _ h => h

theorem State.sound.effGetState (h : s.sound) : (effGetState s).sound := h.serve fun _ _ h => h

theorem State.sound.effModeRequest (h : s.sound) : (Machine.effModeRequest s).sound := by
  unfold Machine.effModeRequest
  refine State.sound.finishReset (h.serve fun r s2 h2 => ?_)
  extract_lets target
  split
  · exact h2
  · exact h2.requestMode

theorem State.sound.effLogInfo (h : s.sound) : (effLogInfo s).sound := h.serve fun _ _ h => State.sound.ite_snd h.free h

theorem State.sound.effLogRead (h : s.sound) : (effLogRead s).sound := by
  unfold Machine.effLogRead
  refine h.serve fun r s2 h2 => ?_
  extract_lets c
  split
  · exact h2
  · split
    next res es s3 e =>
      have hs3 := State.sound.of_snd_snd e h2.logRead
      split
      · exact hs3
      · exact hs3

theorem State.sound.effLogSeal (h : s.sound) : (effLogSeal s).sound := by
  unfold Machine.effLogSeal
  refine h.serve fun r s2 h2 => ?_
  extract_lets k
  split
  · exact h2
  · exact h2

theorem State.sound.effCalRead (h : s.sound) : (effCalRead s).sound := by
  unfold Machine.effCalRead
  refine h.serve fun r s2 h2 => ?_
  extract_lets n
  split
  · exact h2
  · split
    · exact h2
    · exact h2

theorem State.sound.effMonRead (h : s.sound) : (effMonRead s).sound := by
  unfold Machine.effMonRead
  refine h.serve fun r s2 h2 => ?_
  extract_lets n c
  split
  · exact h2
  · exact h2

theorem State.sound.serveUpd {op : Nat} {lenOk : Nat → Bool} {allowed : Bool} {f : MbxReq → State → Answer} (h : s.sound)
    (hf : ∀ r s, s.sound → (f r s).2.2.sound) : (s.serveUpd op lenOk allowed f).sound := by
  refine h.serve fun r s h => ?_
  split
  · exact h
  · split
    · split
      · exact h
      · exact (hf r s h).frame
    · exact (hf r s h).frame

theorem State.sound.effUpdBegin (h : s.sound) : (effUpdBegin s).sound := by
  unfold Machine.effUpdBegin
  refine h.serveUpd fun r s2 h2 => ?_
  extract_lets slot total st
  split
  · exact h2
  · split
    · exact h2
    · split
      · exact h2
      · exact h2.writeCtl.frame.setF.setF.setF

theorem State.sound.effUpdWrite (h : s.sound) : (effUpdWrite s).sound := by
  unfold Machine.effUpdWrite
  extract_lets s2
  have hs2 : s2.sound := h.flushReqs
  split
  · exact hs2
  · split
    · exact hs2.frame
    · refine hs2.serveUpd fun r s3 h2 => ?_
      split
      · exact h2
      · split
        · exact h2
        · split
          · exact h2.frame
          · exact h2

theorem State.sound.effUpdWriteDram (h : s.sound) : (effUpdWriteDram s).sound := by
  unfold Machine.effUpdWriteDram
  refine h.serveUpd fun r s2 h2 => ?_
  split
  · exact h2
  · extract_lets off len
    split
    · exact h2
    · split
      · exact h2
      · exact h2.frame

theorem State.sound.answerHead {status : Nat} (h : s.sound) : (s.answerHead status).sound := by
  unfold State.answerHead
  split
  · exact h.frame.respond.flushReqs
  · exact h

theorem State.sound.programUnit {addr : Nat} {bs : List Byte} (h : s.sound) : (s.programUnit addr bs).sound := h.frame.flashOp.pages

theorem State.sound.effUpdUnitWritten {readBack : Bool} (h : s.sound) : (Machine.effUpdUnitWritten readBack s).sound := by
  unfold Machine.effUpdUnitWritten
  split
  · exact h
  · next u _ =>
    extract_lets +onlyGivenNames src
    have hsrc : ∀ x ∈ src, x.2.2.sound := by
      intro x hx
      unfold src at hx
      split at hx
      · extract_lets r at hx
        split at hx
        · cases hx
        · rw [Option.mem_some_iff] at hx
          subst hx
          exact h.dramRead.triple
      · cases hx
      · split at hx
        · cases hx
          exact h.triple
        · cases hx
    clear_value src
    split
    · exact h
    · next bs rest s2 =>
      extract_lets +onlyGivenNames addr s3 kept
      have hs2 : s2.sound := hsrc _ rfl
      have hs3 : s3.sound := hs2.programUnit.frame
      exact (hs3.frame.setF.setF.ite hs3.frame).answerHead.ite (hs3.frame.setF.setF.ite hs3.frame)

theorem State.sound.effUpdVerify (h : s.sound) : (effUpdVerify s).sound := by
  unfold Machine.effUpdVerify
  refine h.serveUpd fun x s2 h2 => ?_
  split
  · exact h2
  · extract_lets v _ s3 s4
    have hs3 : s3.sound := h2.frame.reads
    have hs4 : s4.sound := hs3.writeCtl
    split
    · exact hs4
    · exact hs4.verifyFailed

theorem State.sound.effUpdActivate (h : s.sound) : (effUpdActivate s).sound := by
  unfold Machine.effUpdActivate
  refine h.serveUpd fun r s2 h2 => ?_
  extract_lets slot
  split
  · exact h2
  · split
    · exact h2
    · exact h2.writeCtl

theorem State.sound.commitTrial {slot : Nat} (h : s.sound) : (s.commitTrial slot).sound := h.writeCtl

theorem State.sound.blowFuse (h : s.sound) : s.blowFuse.sound := h.frame.setF

theorem State.sound.reportRollback {old : Nat} (h : s.sound) : (s.reportRollback old).sound := h.stageTrust.raise

theorem State.sound.burnFuses (h : s.sound) : s.burnFuses.sound := by
  unfold State.burnFuses
  split
  · exact h.ite (h.blowFuse.frame.ite h.blowFuse.frame.commitTrial.reportRollback.answerHead)
  · exact h

theorem State.sound.effUpdCommit (h : s.sound) : (effUpdCommit s).sound := by
  unfold Machine.effUpdCommit
  extract_lets s2
  have hs2 : s2.sound := h.flushReqs
  split
  · exact (hs2.ite hs2.frame).ite (hs2.serveUpd fun _ _ h => h.commitTrial)
  · exact hs2.serveUpd fun _ _ h => h

theorem State.sound.effUpdAbort (h : s.sound) : (effUpdAbort s).sound := by
  unfold Machine.effUpdAbort
  refine h.serveUpd fun x s2 h2 => ?_
  split
  · exact h2
  · exact h2.frame.writeCtl

theorem State.sound.effUpdStatus (h : s.sound) : (Machine.effUpdStatus s).sound := by
  unfold Machine.effUpdStatus
  refine h.serve fun r s2 h2 => ?_
  split
  · exact h2.triple
  · split <;> split <;> exact h2.triple

theorem State.sound.effGetCert (h : s.sound) : (effGetCert s).sound := by
  unfold Machine.effGetCert
  refine h.serve fun r s2 h2 => ?_
  split
  · exact h2
  · exact h2

theorem State.sound.effGetAnchors (h : s.sound) : (effGetAnchors s).sound := h.serve fun _ _ h => h

theorem State.sound.effSessionInfo (h : s.sound) : (effSessionInfo s).sound := by
  unfold Machine.effSessionInfo
  refine h.serve fun r s2 h2 => ?_
  extract_lets k
  split
  · exact h2
  · split
    · exact h2
    · exact h2

theorem State.sound.sealNow (h : s.sound) : s.sealNow.sound := (h.ite h.stageFiller).commitAll

theorem State.sound.effSealNow (h : s.sound) : (effSealNow s).sound := h.serve fun _ _ h => h.sealNow

theorem State.sound.effSecCmdSealNow (h : s.sound) : (effSecCmdSealNow s).sound := h.sealNow.ite h

theorem State.sound.effAttest (h : s.sound) : (effAttest s).sound := h.serve fun _ _ h => h

/-! ### Losses and errors of the memory -/

theorem State.sound.spoilGathered {hit : Nat × Nat → Bool} (h : s.sound) : (s.spoilGathered hit).sound := by
  unfold State.spoilGathered
  refine h.foldl fun s2 k h2 => ?_
  dsimp only
  split
  · exact h2.setSlot
  · exact h2

theorem State.sound.poisonRecs {hit : Rec → Bool} (h : s.sound) : (s.poisonRecs hit).sound :=
  h.frame.foldl fun _ _ h => h.chanRequest

theorem State.sound.rehome {c : Nat} (h : s.sound) : (s.rehome c).sound := h.setF.setF.ite h.setF

theorem State.sound.loseChannel {c kind : Nat} (h : s.sound) : (s.loseChannel c kind).sound := by
  unfold State.loseChannel
  extract_lets s2 s3 s4 moving s5 _ _ s6 s7
  have hs2 : s2.sound := h.poisonRecs.spoilGathered.dropWaiting
  have hs3 : s3.sound := hs2.setF.setF
  have hs4 : s4.sound := hs3.rehome
  have hs5 : s5.sound := (hs4.setF.ite hs4).showMigrating
  have hs6 : s6.sound := hs5.frameMem
  have hs7 : s7.sound := hs6.raise
  exact hs7.recompute.settle.judgeService

theorem State.sound.effChannelLost {c : Nat} (h : s.sound) : (effChannelLost c s).sound := by
  unfold Machine.effChannelLost
  split
  · exact h.loseChannel.ite h
  · exact h

theorem State.sound.endPause {c ns : Nat} {ok : Bool} (h : s.sound) : (s.endPause c ns ok).sound := by
  unfold State.endPause
  extract_lets _ _ s2 s3 s4
  have hs2 : s2.sound := h.frameMem
  have hs3 : s3.sound := hs2.bumpF.setF
  have hs4 : s4.sound := hs3.bumpF.bumpF
  exact hs3.setF.startWaiting.resumeChan.ite (hs4.loseChannel.ite hs4.startWaiting.resumeChan)

theorem State.sound.effRetrainPauseDone {c : Nat} {ok : Bool} {ns : Nat} (h : s.sound) : (effRetrainPauseDone c ok ns s).sound :=
  h.endPause.ite h

theorem State.sound.exitPause {c : Nat} (h : s.sound) : (s.exitPause c).sound := h.ite h.restartTraining.free.free.endPause

theorem State.sound.effDormantExitDone (h : s.sound) : (effDormantExitDone s).sound := by
  unfold Machine.effDormantExitDone
  split
  · extract_lets _ s2 s3 s4 s5 l _ s6 s7 s8 s9
    have hs2 : s2.sound := h.frame.selfRefresh
    have hs3 : s3.sound := hs2.foldl fun _ _ h => h.exitPause
    have hs4 : s4.sound := hs3.setF
    have hs5 : s5.sound := hs4.setF.setF
    have hs6 : s6.sound := hs4.setF.ite hs5.frame
    have hs7 : s7.sound := hs6.changeMode
    have hs8 : s8.sound := hs7.foldl fun _ _ h => h.startBg
    have hs9 : s9.sound := hs8.readyEntry.requestDone
    exact hs9.ite hs9.enterSafe
  · exact h

theorem State.sound.effCaParityError {c r : Nat} (h : s.sound) : (effCaParityError c r s).sound := by
  unfold Machine.effCaParityError
  split
  · extract_lets p l _ s2 s3 _ s4 total
    have hs2 : s2.sound := h.frameMem
    have hs3 : s3.sound := hs2.bumpF
    have hs4 : s4.sound := hs3.frameMem.rankFails.ite hs3
    exact hs4.loseChannel.ite hs4
  · exact h

theorem State.sound.effUncorrectableError {a : Nat} (h : s.sound) : (effUncorrectableError a s).sound := by
  unfold Machine.effUncorrectableError
  split
  · exact h
  · exact h.ite h.access.poisonGranule.poisonRecs.spoilGathered.frameMem.bumpF.bumpF.setF.setF.raise.rankFails

/-! ### The lane sequencers -/

theorem State.sound.noteCheck {u cause : Nat} (h : s.sound) : (s.noteCheck u cause).sound := h.ite h.setF.setF.setF

theorem State.sound.noteBadWord {u : Nat} (h : s.sound) : (s.noteBadWord u).sound := by
  unfold State.noteBadWord
  split
  · exact h
  · exact h.ite h.frame.bumpF

theorem State.sound.stopUnit {u : Nat} (h : s.sound) : (s.stopUnit u).sound := h.setUnit

theorem State.sound.failPauses (h : s.sound) : s.failPauses.sound := h.foldl fun _ _ h => h.free.endPause

theorem State.sound.trainingCheck (h : s.sound) : s.trainingCheck.sound := by
  unfold State.trainingCheck
  extract_lets n s2 _ s3 s4 s5 _
  have hs2 : s2.sound := h.stopUnit
  have hs3 : s3.sound := hs2.setUnit
  have hs4 : s4.sound := hs3.raise.failPauses
  have hs5 : s5.sound := (hs4.restartTraining.seqRequest.ite ((hs4.foldl fun _ _ h => h.excludeChan).ite hs4)).ite hs4
  exact hs5.setUnit.raise.ite hs5

theorem State.sound.setGap {lane : Nat} {g : Option Takeover} (h : s.sound) : (s.setGap lane g).sound := h.frame

theorem State.sound.muteStream {seg : Nat} {x : Nat × Nat} (h : s.sound) : (s.muteStream seg x).sound := by
  unfold State.muteStream
  split
  · exact h.putStored
  · exact h

theorem State.sound.openGap {lane u : Nat} (h : s.sound) : (s.openGap lane u).sound :=
  h.setGap.dropChannelImages.foldl fun _ _ h => h.muteStream

theorem State.sound.passLead {c lane : Nat} (h : s.sound) : (s.passLead c lane).sound := by
  unfold State.passLead
  split
  · extract_lets s2
    have hs2 : s2.sound := h.setF
    split
    · exact hs2.setF
    · exact hs2
  · exact h

theorem State.sound.emptySegs {c seg : Nat} (h : s.sound) : (s.emptySegs c seg).sound := h.frame

theorem State.sound.stopLane {lane : Nat} (h : s.sound) : (s.stopLane lane).sound := by
  unfold State.stopLane
  extract_lets c both s2 _ s3 s4 n
  have hs2 : s2.sound := h.setGap.passLead
  have hs3 : s3.sound := hs2.frame
  have hs4 : s4.sound := hs3.raise.stopChannel
  split
  · exact hs4.seqRequest.bumpF
  · exact hs4.emptySegs

theorem State.sound.boundCheck {u cause : Nat} (h : s.sound) : (s.boundCheck u cause).sound := by
  unfold State.boundCheck
  extract_lets lane g s2 s3 s4
  have hs2 : s2.sound := h.stopUnit.setF
  have hs3 : s3.sound := hs2.raise
  have hs4 : s4.sound := by
    unfold s4
    split
    · exact hs3.abortStep.ite hs3
    · exact hs3
  split
  · exact hs4.openGap
  · split
    · exact hs4.openGap.stopLane
    · exact hs4.stopLane

theorem State.sound.restCheck {u cause : Nat} (h : s.sound) : (s.restCheck u cause).sound := by
  unfold State.restCheck
  extract_lets g was s2 s3
  have hs2 : s2.sound := h.stopUnit.withdrawUnit.setF.raise
  have hs3 : s3.sound := by
    unfold s3
    split
    · exact hs2.abandonBist.ite hs2
    · exact hs2
  exact (hs3.foldl fun _ _ h => h.stopLane).ite hs3

theorem State.sound.machineCheck {u cause : Nat} (h : s.sound) : (s.machineCheck u cause).sound := by
  unfold State.machineCheck
  extract_lets x s2 s3
  have hs2 : s2.sound := h.noteCheck
  have hs3 : s3.sound := hs2.noteBadWord.ite hs2
  exact h.ite (hs3.trainingCheck.ite (hs3.boundCheck.ite hs3.restCheck))

theorem State.sound.countBoundary {u : Nat} (h : s.sound) : (s.countBoundary u).sound :=
  h.ite (h.setUnit.machineCheck.ite h.setUnit)

theorem State.sound.goto {u a : Nat} (h : s.sound) : (s.goto u a).sound := h.setUnit.countBoundary

theorem State.sound.gotoNext {u a : Nat} (h : s.sound) : (s.gotoNext u a).sound := h.machineCheck.ite h.goto

theorem State.sound.gotoAddr {u a : Nat} (h : s.sound) : (s.gotoAddr u a).sound := h.goto.ite h.machineCheck

theorem State.sound.micro {u : Nat} {m : Micro} {ce : Bool} {body : State → Nat → State} (h : s.sound)
    (hb : ∀ s a, s.sound → (body s a).sound) : (s.micro u m ce body).sound := by
  unfold State.micro
  extract_lets x a
  refine h.ite ?_
  split
  · exact h.machineCheck.ite ((hb _ a (h.bumpF.ite h)).ite h)
  · exact (hb s a h).ite h

theorem State.sound.effNext {u : Nat} {ce : Bool} (h : s.sound) : (effNext u ce s).sound := h.micro fun _ _ h => h.gotoNext

theorem State.sound.effJump {u : Nat} {c : Bool} {addr : Nat} {ce : Bool} (h : s.sound) : (effJump u c addr ce s).sound :=
  h.micro fun _ _ h => h.gotoAddr.ite h.gotoNext

theorem State.sound.effCall {u : Nat} {c : Bool} {addr : Nat} {ce : Bool} (h : s.sound) : (effCall u c addr ce s).sound :=
  h.micro fun _ _ h => h.machineCheck.ite (h.gotoNext.ite (h.machineCheck.ite (h.machineCheck.ite h.setUnit.goto)))

theorem State.sound.effRet {u : Nat} {c ce : Bool} (h : s.sound) : (effRet u c ce s).sound := by
  unfold Machine.effRet
  refine h.micro fun s2 a h2 => ?_
  extract_lets x
  split
  · exact h2.machineCheck
  · split
    · exact h2.gotoNext
    · split
      · exact h2.machineCheck
      · exact h2.setUnit.goto

theorem State.sound.effWait {u : Nat} {c ce : Bool} (h : s.sound) : (effWait u c ce s).sound :=
  h.micro fun _ _ h => h.gotoNext.ite h.countBoundary

theorem State.sound.effDispatch {u addr d : Nat} {ce : Bool} (h : s.sound) : (effDispatch u addr d ce s).sound :=
  h.micro fun _ _ h => h.gotoAddr

theorem State.sound.dropContext {lane : Nat} (h : s.sound) : (s.dropContext lane).sound := h.emptySegs

theorem State.sound.renewFrom {lane : Nat} {x : Nat × Nat} {u1 : Int} (h : s.sound) : (s.renewFrom lane x u1).sound := by
  unfold State.renewFrom
  split
  · exact h
  · exact h.putStored.ite h.putStored.dropBlocks

theorem State.sound.renewContext {lane : Nat} {x : Nat × Nat} (h : s.sound) : (s.renewContext lane x).sound := by
  unfold State.renewContext
  split
  · exact h
  · exact h.renewFrom

theorem State.sound.trap {u t : Nat} (h : s.sound) : (s.trap u t).sound :=
  h.takeTrap.ite ((h.takeTrap.dropContext.foldl fun _ _ h => h.renewContext).ite h.takeTrap).raise

theorem State.sound.nextTrap {u : Nat} (h : s.sound) : (s.nextTrap u).sound := by
  unfold State.nextTrap
  extract_lets x
  split
  · exact h.setUnit.trap
  · exact h

theorem State.sound.effReti {u : Nat} {ce : Bool} (h : s.sound) : (effReti u ce s).sound :=
  h.micro fun _ _ h => (h.setF.ite h).setUnit.nextTrap.ite h.machineCheck

theorem State.sound.effIllegalNa {u : Nat} {ce : Bool} (h : s.sound) : (effIllegalNa u ce s).sound :=
  h.micro fun _ _ h => h.machineCheck

theorem State.sound.effSeqInterrupt {u : Nat} (h : s.sound) : (effSeqInterrupt u s).sound := by
  unfold Machine.effSeqInterrupt
  extract_lets x
  split
  · exact h
  · split
    · exact h
    · exact (h.setF.ite h).frame.setUnit

theorem State.sound.effMachineCheck {u cause : Nat} (h : s.sound) : (effMachineCheck u cause s).sound := h.machineCheck.ite h

theorem State.sound.effDoubleMachineCheck {u : Nat} (h : s.sound) : (effDoubleMachineCheck u s).sound := by
  unfold Machine.effDoubleMachineCheck
  extract_lets x
  split
  · exact h.setUnit.setF.ite h
  · exact h

theorem State.sound.resumeStream {lane : Nat} {t : Takeover} {x : Nat × Nat} (h : s.sound) : (s.resumeStream lane t x).sound := by
  unfold State.resumeStream
  split
  · exact h
  · exact h.loseBlocks

theorem State.sound.noteGap {lane : Nat} {t : Takeover} (h : s.sound) : (s.noteGap lane t).sound := h.frame

theorem State.sound.gapAdds {lane : Nat} {x2 : Takeover} (h : s.sound) : (s.gapAdds lane x2).sound := by
  unfold State.gapAdds
  split
  · exact h
  · exact h.cutAdds

theorem State.sound.effEmergencyShuffle {lane : Nat} (h : s.sound) : (effEmergencyShuffle lane s).sound := by
  unfold Machine.effEmergencyShuffle
  extract_lets g moving
  split
  · split
    · extract_lets s2 s3 s0 l s4 lost
      have hs2 : s2.sound := by
        unfold s2
        split
        · exact h.abandonBist.ite h
        · exact h
      have hs3 : s3.sound := hs2.bindLane.setF.seqRequest
      have hs0 : s0.sound := hs3
      have hs4 : s4.sound := hs3.foldl fun _ _ h => h.resumeStream
      exact hs4.noteGap.gapAdds.setGap
    · exact h
  · exact h

theorem State.sound.effTakeoverSeal {lane : Nat} (h : s.sound) : (effTakeoverSeal lane s).sound := by
  unfold Machine.effTakeoverSeal
  split
  · exact h
  · extract_lets hit due s2 s3
    have hs2 : s2.sound := h.foldl fun _ _ h => h.sealRec.dropStreams
    have hs3 : s3.sound := by
      unfold s3
      split
      · exact hs2.bumpF
      · exact hs2
    exact hs3.raise.setGap.settle.ite h

theorem State.sound.dropStopped {lane : Nat} {t : Takeover} (h : s.sound) : (s.dropStopped lane t).sound :=
  h.foldl fun _ _ h => h.frame.renewFrom

theorem State.sound.effCtxParity {u : Nat} (h : s.sound) : (effCtxParity u s).sound := by
  unfold Machine.effCtxParity
  split
  · split
    · split
      · split
        · exact h.dropStopped
        · exact h
      · exact h
    · exact h.trap
  · exact h

theorem State.sound.effPatchWordRewrite {w : Nat} (h : s.sound) : (effPatchWordRewrite w s).sound := h.frame.raise.ite h

theorem State.sound.effSeqSnap (h : s.sound) : (effSeqSnap s).sound := h.seqSnap.ite h

theorem State.sound.effSeqClrCounts (h : s.sound) : (effSeqClrCounts s).sound := h.clearCounts.ite h

/-! ### The timeline -/

theorem State.sound.rejudge {old new : Tick} (h : s.sound) : (s.rejudge old new).sound := h.frame

theorem State.sound.jumpTo {t : Tick} (h : s.sound) : (s.jumpTo t).sound := h.ite h.rejudge.frame.flagRequest

theorem State.sound.raiseMissing (h : s.sound) : s.raiseMissing.sound := h.bumpF.raise

theorem State.sound.reachExpected {e : Tick} (h : s.sound) : (s.reachExpected e).sound := h.wrapF.frame

theorem State.sound.passExpected {n : Nat} (h : s.sound) : (State.passExpected n s).sound := by
  induction n generalizing s with
  | zero => exact h
  | succ n ih =>
    unfold State.passExpected
    split
    · exact h
    · exact (ih (h.reachExpected.ite h.reachExpected.raiseMissing.frame)).ite h

theorem State.sound.endHoldover (h : s.sound) : s.endHoldover.sound := h.setF.frame.flagRequest

theorem State.sound.endPhaseHit (h : s.sound) : s.endPhaseHit.sound := h.setF.frame.flagRequest

theorem State.sound.epochLoad {num : Nat} {t : Tick} (h : s.sound) : (s.epochLoad num t).sound :=
  h.jumpTo.setF.frame.setF.setF.logEntry.raise

theorem State.sound.slipEvent {kind : Nat} {d : Int} (h : s.sound) : (s.slipEvent kind d).sound := h.setS.bumpF.setF.raise

theorem State.sound.judgePulse {e : Tick} (h : s.sound) : (s.judgePulse e).sound := by
  unfold State.judgePulse
  split
  · extract_lets seen _ s2 s3 s4 _
    have hs2 : s2.sound := h.frame.ite h.frame
    have hs3 : s3.sound := hs2.setF.ite hs2
    have hs4 : s4.sound := hs2.slipEvent
    exact hs2.slipEvent.ite ((hs3.endPhaseHit.ite hs3).ite (hs4.frame.ite hs4))

theorem State.sound.effEpochPulse (h : s.sound) : (effEpochPulse s).sound := by
  unfold Machine.effEpochPulse
  split
  · extract_lets s2
    have hs2 : s2.sound := h.endHoldover.ite h
    split
    · exact hs2.epochLoad
    · exact hs2.setF.frame
    · exact hs2.judgePulse
  · exact h

theorem State.sound.effRealignJump (h : s.sound) : (effRealignJump s).sound := by
  unfold Machine.effRealignJump
  split
  · exact h.jumpTo.frame.passExpected.logEntry.ite h
  · exact h

theorem State.sound.effExpectedTick (h : s.sound) : (effExpectedTick s).sound := by
  unfold Machine.effExpectedTick
  split
  · exact h.reachExpected.ite h
  · exact h

theorem State.sound.effEpochMissing (h : s.sound) : (effEpochMissing s).sound := by
  unfold Machine.effEpochMissing
  split
  · exact h.raiseMissing.frame.ite h
  · exact h

theorem State.sound.effRefclkLost {freq : Bool} (h : s.sound) : (effRefclkLost freq s).sound :=
  h.frame.ite (h.setF.setF.bumpF.frame.flagRequest.raise.ite h)

theorem State.sound.effRefclkPhaseStep (h : s.sound) : (effRefclkPhaseStep s).sound := h.setF.bumpF.frame.flagRequest.raise.ite h

theorem State.sound.effPhaseStepSettled (h : s.sound) : (effPhaseStepSettled s).sound := (h.frame.ite h.endPhaseHit).ite h

theorem State.sound.effRefclkValid1ms (h : s.sound) : (effRefclkValid1ms s).sound := h.frame.ite (h.setF.frame.ite h)

theorem State.sound.effSourceLocked (h : s.sound) : (effSourceLocked s).sound := (h.setF.frame.ite h.setF.endHoldover).raise.ite h

theorem State.sound.effCrystalLost (h : s.sound) : (effCrystalLost s).sound := h.frame.fatal.ite h.frame

theorem State.sound.effSpllLockLost (h : s.sound) : (effSpllLockLost s).sound :=
  h.setF.frame.raise.abortSteps.stopAllPlans.ite (h.setF.frame.raise.ite h)

theorem State.sound.effSpllRelocked (h : s.sound) : (effSpllRelocked s).sound := h.ite h.setF.frame.raise

theorem State.sound.effSpllRelockTimeout (h : s.sound) : (effSpllRelockTimeout s).sound := by
  unfold Machine.effSpllRelockTimeout
  split
  · exact h.fatal.ite h
  · exact h

theorem State.sound.effTimeSnap (h : s.sound) : (effTimeSnap s).sound := h.setF.setF.setF.ite h

theorem State.sound.effEpochArm (h : s.sound) : (effEpochArm s).sound := (h.setF.frame.ite h.raise).ite h

theorem State.sound.effTimeClrCounts (h : s.sound) : (effTimeClrCounts s).sound := h.clearFs.ite h

/-! ### Host accesses -/

theorem State.sound.onBits {v : Nat} {l : List (Nat × (State → State))} (h : s.sound)
    (hl : l.Forall fun x => ∀ s : State, s.sound → (x.2 s).sound) : (onBits v l s).sound :=
  List.foldlRecOn l _ h fun s hs x hx => (List.forall_iff_forall_mem.1 hl x hx s hs).ite hs

theorem State.sound.writePlanCmd {v : Nat} (h : s.sound) : (writePlanCmd v s).sound :=
  h.effPlanActivate.ite (h.effPlanDeactivate.ite (h.effPlanArm.ite (h.effPlanDisarm.ite h)))

theorem State.sound.writeFolioOp {v : Nat} (h : s.sound) : (writeFolioOp v s).sound := h.effFolioHold.ite (h.effFolioRelease.ite h)

theorem State.sound.writeMbxReq {i v : Nat} (h : s.sound) : (writeMbxReq i v s).sound := h.ite h.setF

theorem State.sound.writeModeReq {v : Nat} (h : s.sound) : (writeModeReq v s).sound :=
  h.effModeReqDormant.ite (h.effModeReqReady.ite (h.effModeReqReset.ite h.requestMode))

theorem State.sound.writeField {v : Nat} {x : FieldType × Fld} (h : s.sound) : (writeField v s x).sound := by
  unfold Machine.writeField
  extract_lets part
  split
  · exact h.ite h.setF
  · exact h.setF
  · exact h
  · exact h
  · exact h

/-- Every effect of its own that a write may have keeps a state sound. -/
def KeepsSound (w : Option (State → State)) : Prop := ∀ f ∈ w, ∀ s : State, s.sound → (f s).sound

theorem KeepsSound.none : KeepsSound none := fun _ hf => nomatch hf

theorem KeepsSound.some {f : State → State} (hf : ∀ s, s.sound → (f s).sound) : KeepsSound (some f) := by
  intro g hg
  cases hg
  exact hf

theorem KeepsSound.ite {c : Prop} {_ : Decidable c} {v w : Option (State → State)} (hv : KeepsSound v) (hw : KeepsSound w) :
    KeepsSound (if c then v else w) := by
  split
  · exact hv
  · exact hw

theorem keepsSound_writeTime {off v : Nat} : KeepsSound (writeTime off v) := by
  refine .ite (.some fun _ h => h.onBits ⟨fun _ h => h.effTimeSnap, fun _ h => h.effEpochArm, fun _ h => h.effTimeClrCounts⟩)
    (.ite ?_ .none)
  exact .ite (.some fun _ h => h.effSchedFieldWrite)
    (.ite (.some fun _ h => h.onBits ⟨fun _ h => h.effSchedCommit, fun _ h => h.effSchedCancel⟩) .none)

theorem keepsSound_writeConverter {off v : Nat} : KeepsSound (writeConverter off v) := by
  refine .ite (.some fun _ h => h.onBits ⟨fun _ h => h.effCnvSnapMap, fun _ h => h.effCnvClrCounts⟩)
    (.ite (.some fun _ h => h.onBits ⟨fun _ h => h.effCalSnap, fun _ h => h.effCalClrCounts⟩)
      (.ite (.some fun _ h => h.onBits fun _ h => h.effCodClrCounts) ?_))
  split
  · exact .some fun _ h => h.effChDecimWrite
  split
  · exact .some fun _ h => h.effChGrantWrite
  · exact .none

theorem keepsSound_writeTrigger {off v : Nat} : KeepsSound (writeTrigger off v) := by
  have force : ∀ x ∈ (List.range 8).map (fun k => (k, Machine.effForce k)), ∀ s : State, s.sound → (x.2 s).sound :=
    List.forall_mem_map.2 fun _ _ _ h => h.effForce
  refine .ite (.some fun _ h => h.onBits fun _ h => h.effTrgClrCounts)
    (.ite (.some fun _ h => h.onBits (List.forall_iff_forall_mem.2 force)) (.ite (.some fun _ h => h.effLlSelWrite) ?_))
  split
  · exact .some fun _ h => h.effDetLevelWrite
  split
  · exact .some fun _ h => h.effDetHystWrite
  split
  · exact .some fun _ h => h.effHoldTicksWrite
  split
  · exact .some fun _ h => h.effHoldSamplesWrite
  split
  · exact .some fun _ h => h.effHoldCountWrite
  · exact .none

theorem keepsSound_writeAcquisition {off v : Nat} : KeepsSound (writeAcquisition off v) :=
  .ite (.some fun _ h => h.onBits fun _ h => h.effBookSnap)
    (.ite (.some fun _ h => h.writePlanCmd) (.ite (.some fun _ h => h.writeFolioOp) .none))

theorem keepsSound_writeAccumulation {off v : Nat} : KeepsSound (writeAccumulation off v) := by
  refine .ite (.some fun _ h => h.effAccClrPlane.onBits fun _ h => h.effAccClrCounts) ?_
  split
  · exact .some fun _ h => h.onBits ⟨fun _ h => h.effAccFinish, fun _ h => h.effAccDiscard, fun _ h => h.effAccDiscard⟩
  split
  · exact .some fun _ h => h.effPlaneSourceWrite
  split
  · exact .some fun _ h => h.effPlaneXWrite
  split
  · exact .some fun _ h => h.effPlaneYWrite
  split
  · exact .some fun _ h => h.effPlaneLookWrite
  split
  · exact .some fun _ h => h.effPlaneScaleWrite
  split
  · exact .some fun _ h => h.effCurveWrite
  · exact .none

theorem keepsSound_writeEnsemble {off v : Nat} : KeepsSound (writeEnsemble off v) :=
  .ite (.some fun _ h => h.onBits ⟨fun _ h => h.effEnsEnum, fun _ h => h.effEnsClrCounts⟩)
    (.ite (.some fun _ h => h.effDealCmd) (.ite (.some fun _ h => h.onBits fun _ h => h.effMemClrCounts) .none))

theorem keepsSound_writeReadout {off v : Nat} : KeepsSound (writeReadout off v) := by
  refine .ite (.some fun _ h => h.onBits ⟨fun _ h => h.effRdoSnap, fun _ h => h.effRdoClrCounts⟩) ?_
  split
  · exact .some fun _ h => h.effQCfgWrite
  split
  · exact .some fun _ h => h.effQPaceWrite
  split
  · exact .some fun _ h => h.effQPaceToWrite
  split
  · exact .some fun _ h => h.effQCtlWrite
  split
  · exact .some fun _ h => h.effQHeadWrite
  split
  · exact .some fun _ h => h.effQHeadWrite
  split
  · exact .some fun _ h => h.effQCompBaseWrite
  split
  · exact .some fun _ h => h.effQCompBaseWrite
  split
  · exact .some fun _ h => h.onBits
      ⟨fun _ h => h.effQueueStart, fun _ h => h.effQueueStop, fun _ h => h.effQueueFlush, fun _ h => h.effQueueResume⟩
  split
  · exact .some fun _ h => h.effQueueDoorbell
  split
  · exact .some fun _ h => h.effCompRdWrite
  · exact .none

theorem keepsSound_writeDisplay {off v : Nat} : KeepsSound (writeDisplay off v) :=
  .ite (.some fun _ h => h.onBits ⟨fun _ h => h.effDspPsrEnter, fun _ h => h.effDspPsrExit, fun _ h => h.effPalCommit,
      fun _ h => h.effDspRetrain, fun _ h => h.effDspClrCounts⟩)
    (.ite (.some fun _ h => h.effOvlSelWrite)
      (.ite (.some fun _ h => h.onBits ⟨fun _ h => h.effSeqSnap, fun _ h => h.effSeqClrCounts⟩) .none))

theorem keepsSound_writeManagement {off v : Nat} : KeepsSound (writeManagement off v) := by
  refine .ite (.some fun _ h => h.onBits fun _ h => h.effMgtClrCounts) (.ite (.some fun _ h => h.effMonCtlWrite)
    (.ite (.some fun _ h => h.effLogSelWrite) (.ite (.some fun _ h => h.effMbxDoorbell) ?_)))
  split
  · exact .some fun _ h => h.writeMbxReq
  · exact .ite (.some fun _ h => h.onBits fun _ h => h.effSecCmdSealNow)
      (.ite (.some fun _ h => h.onBits fun _ h => h.effBstClrCounts) (.ite (.some fun _ h => h.effSigSelWrite) .none))

theorem keepsSound_writeEvents {off v : Nat} : KeepsSound (writeEvents off v) := by
  refine .ite (.some fun _ h => h.onBits ⟨fun _ h => h.effEvtClrCounts, fun _ h => h.effEvtClrStatus⟩) ?_
  split
  · exact .some fun _ h => h.effEvtStatusClear
  split
  · exact .some fun _ h => h.effEvtMaskWrite
  · exact .none

/-- The effect of its own that a register write has keeps a state sound, whichever block it lies in. -/
theorem keepsSound_writeSpecial {off v : Nat} : KeepsSound (writeSpecial off v) := by
  unfold writeSpecial
  split
  · exact .ite (.some fun _ h => h.writeModeReq) .none
  · exact keepsSound_writeTime
  · exact keepsSound_writeConverter
  · exact keepsSound_writeConverter
  · exact keepsSound_writeTrigger
  · exact keepsSound_writeAcquisition
  · exact keepsSound_writeConverter
  · exact keepsSound_writeAccumulation
  · exact keepsSound_writeEnsemble
  · exact keepsSound_writeEnsemble
  · exact keepsSound_writeReadout
  · exact keepsSound_writeReadout
  · exact keepsSound_writeDisplay
  · exact keepsSound_writeDisplay
  · exact keepsSound_writeManagement
  · exact keepsSound_writeManagement
  · exact keepsSound_writeManagement
  · exact keepsSound_writeEvents
  · exact .none

theorem State.sound.writeReg {off v : Nat} (h : s.sound) : (s.writeReg off v).sound := by
  refine State.sound.ite ?_ h
  split
  · next f hf => exact keepsSound_writeSpecial f hf s h
  · exact h.foldl fun _ _ h => h.writeField

theorem State.sound.showMsix (h : s.sound) : s.showMsix.sound := h.setB

theorem State.sound.sendPending (h : s.sound) : s.sendPending.sound := h.ite (h.foldl fun _ _ h => h.frame.message.ite h)

theorem State.sound.maskVector {n : Nat} {masked : Bool} (h : s.sound) : (s.maskVector n masked).sound := h.frame.sendPending

theorem State.sound.writeMsixControl {enable mask : Bool} (h : s.sound) : (s.writeMsixControl enable mask).sound :=
  h.frame.showMsix.sendPending

theorem State.sound.writeTable {d v : Nat} (h : s.sound) : (s.writeTable d v).sound := h.maskVector.ite h.frame

theorem State.sound.effMsixVectorUnmask {vector : Option Nat} (h : s.sound) : (effMsixVectorUnmask vector s).sound := by
  unfold Machine.effMsixVectorUnmask
  split
  · exact h.maskVector.ite h
  · exact h.writeMsixControl.ite h

theorem State.sound.writeCommand {v : Nat} (h : s.sound) : (s.writeCommand v).sound := h.frame.setB

theorem State.sound.writeDeviceControl {v : Nat} (h : s.sound) : (s.writeDeviceControl v).sound := h.frame.ite h

theorem State.sound.writeDeviceControl2 {v : Nat} (h : s.sound) : (s.writeDeviceControl2 v).sound := h.frame.ite h.frame

theorem State.sound.effRegisterWrite {r : HostReg} {v : Nat} (h : s.sound) : (effRegisterWrite r v s).sound := by
  unfold Machine.effRegisterWrite
  split
  · exact h.writeReg
  · exact h.writeCommand.ite h
  · exact h.writeMsixControl.ite h
  · exact h.writeDeviceControl.ite h
  · exact h.writeDeviceControl2.ite h
  · exact h.frame.ite h
  · exact h.frame.ite h
  · exact h.writeTable.ite h

theorem State.sound.effResizableBarWrite {log2 : Nat} (h : s.sound) : (effResizableBarWrite log2 s).sound := h.frame.ite h

theorem State.sound.latchHigh {off : Nat} (h : s.sound) : (s.latchHigh off).sound := by
  unfold State.latchHigh
  split
  · exact h.setF
  · split
    · exact h.setF
    · split
      · exact h.setF.setF.setF
      · split
        · exact h.setF
        · split
          · exact h.setF
          · split
            · exact h.setF
            · split
              · exact h.setF
              · split
                · exact h.setF
                · split
                  · exact h.setF
                  · exact h.setF.ite h

theorem State.sound.answerRead {v : Nat} (h : s.sound) : (s.answerRead v).sound := h.frame.emit

theorem State.sound.effLoRegisterRead {off : Nat} (h : s.sound) : (effLoRegisterRead off s).sound :=
  (h.latchHigh.answerRead.ite h.answerRead).ite h

theorem State.sound.effBar0BadAccess {read : Bool} {off len : Nat} (h : s.sound) : (effBar0BadAccess read off len s).sound :=
  (h.bumpF.raise.emit.ite h.bumpF.raise).ite h

theorem State.sound.bar2Refuse (h : s.sound) : s.bar2Refuse.sound := h.bumpF.aer.emit

theorem State.sound.effBar2Read {off len : Nat} (h : s.sound) : (effBar2Read off len s).sound := (h.bar2Read.ite h.bar2Refuse).ite h

theorem State.sound.effBar2Write {off : Nat} {data : List (Option Byte)} {ep : Bool}
    (h : s.sound) : (effBar2Write off data ep s).sound :=
    ((h.aer.poisonWrite.ite (h.foldl fun _ _ h => h.dramWrite)).ite h.bar2Refuse).ite h

theorem State.sound.resetFunction (h : s.sound) : s.resetFunction.sound := h.frame.clearFs.clearFs.idleQueues

theorem State.sound.effFunctionLevelReset (h : s.sound) : (effFunctionLevelReset s).sound := h.resetFunction.bumpF.ite h

theorem State.sound.linkDown (h : s.sound) : s.linkDown.sound := h.ite h.clearFs.bumpF.frame

theorem State.sound.effPcieLinkDown (h : s.sound) : (effPcieLinkDown s).sound := h.ite h.linkDown

theorem State.sound.effD3hotEntry (h : s.sound) : (effD3hotEntry s).sound := h.setF.ite h

theorem State.sound.effD3hotExit (h : s.sound) : (effD3hotExit s).sound := h.setF.ite h

theorem State.sound.effPerstNAssert {asserted : Bool} (h : s.sound) : (effPerstNAssert asserted s).sound :=
  h.frame.ite ((h.frame.resetDevice.ite h.frame.linkDown).ite ((h.frame.ite h.frame.resetFunction).ite h.frame))

/-! ### Tracking -/

theorem State.sound.setTrack {c : Nat} {ch : List (Int × Int × Int)} {full : Bool}
    (h : s.sound) : (s.setTrack c ch full).sound :=
    h.frame

theorem State.sound.judgeWin {c : Nat} {w : TrackWin} (h : s.sound) : (s.judgeWin c w).sound :=
  h.setTrack.bumpF.ite (h.setTrack.ite h.bumpF.setF.setTrack)

theorem State.sound.effTrackWindowEnd {c first : Nat} (h : s.sound) : (effTrackWindowEnd c first s).sound := by
  unfold Machine.effTrackWindowEnd
  split
  · exact h.judgeWin.setWin.ite h
  · exact h

theorem State.sound.applySlot {l : Nat} {e : Int × Int × Int} (h : s.sound) : (s.applySlot l e).2.sound := h.frame

theorem State.sound.holdLimit {c j l q : Nat} {stopped : Bool} (h : s.sound) : (s.holdLimit c j l q stopped).sound :=
  h.frame.raise.ite h.frame

theorem State.sound.trackSlot {c j : Nat} {e : Int × Int × Int} (h : s.sound) : (s.trackSlot c j e).sound :=
  h.applySlot.holdLimit.holdLimit

theorem State.sound.effTrackUpdateApply {c : Nat} (h : s.sound) : (effTrackUpdateApply c s).sound :=
  ((h.foldl fun _ _ h => h.trackSlot).setB.bumpF.ite (h.foldl fun _ _ h => h.trackSlot).setB).setTrack.ite h

/-! ### Transitions the device makes by itself -/

theorem State.sound.showCal (h : s.sound) : s.showCal.sound := h.setF.setF.setF.setF.ite h

theorem State.sound.showBg (h : s.sound) : s.showBg.sound := by
  unfold State.showBg
  refine h.foldl fun s2 x h2 => ?_
  split
  · exact h2.setF
  · exact h2

theorem State.sound.showShadow {g : Nat} (h : s.sound) : (s.showShadow g).sound := by
  unfold State.showShadow
  split
  · split
    · exact h.setF.ite h
    · exact h
  · exact h

theorem State.sound.showSteps (h : s.sound) : s.showSteps.sound := h.showStage.ite h

theorem State.sound.boundBursts (h : s.sound) : s.boundBursts.sound := h.foldl fun _ _ h => h.endBurst.ite h

theorem State.sound.runPort {p : Nat} (h : s.sound) : (s.runPort p).sound := h.pumpPort.missPair.compensate

theorem State.sound.pass (h : s.sound) : s.pass.sound := by
  unfold State.pass
  extract_lets s2 s3
  have hs2 : s2.sound := h.doFolioOps.repace.finishCtl.finishEnrol.advance.reissueAll.runPort.runPort.flushAssigns.boundBursts
  have hs3 : s3.sound := hs2.showBg.showCal.showFetch.showSteps.flushReqs.burnFuses.stageDropped.closeSnap.dormantNext
  exact hs3.foldl fun _ _ h => h.showShadow

/-! ### Steps -/

theorem State.sound.of_next {u : State} (hu : u.sound) (he : (.next u : Res) = .next t) : t.sound := by
  cases he
  exact hu

/-- What a command answers next is sound: one case per command, each by the lemma of its effect. -/
theorem State.sound.exec {c : Instr} (h : s.sound) (he : exec c s = .next t) : t.sound := by
  cases c with
  | registerWrite => exact .of_next h.effRegisterWrite he
  | loRegisterRead => exact .of_next h.effLoRegisterRead he
  | bar0BadAccess => exact .of_next h.effBar0BadAccess he
  | bar2Read => exact .of_next h.effBar2Read he
  | bar2Write => exact .of_next h.effBar2Write he
  | functionLevelReset => exact .of_next h.effFunctionLevelReset he
  | pcieLinkDown => exact .of_next h.effPcieLinkDown he
  | pcieLinkRetrain => exact .of_next h.effPcieLinkRetrain he
  | d3hotEntry => exact .of_next h.effD3hotEntry he
  | perstNAssert => exact .of_next h.effPerstNAssert he
  | powerOn => exact .of_next h.effPowerOn he
  | vddAonLoss => exact .of_next h.effVddAonLoss he
  | resetNAssert => exact .of_next h.effResetNAssert he
  | thermalTrip => exact .of_next h.effThermalTrip he
  | thermalTripRelease => exact .of_next h.effThermalTripRelease he
  | watchdogExpiry => exact .of_next h.effWatchdogExpiry he
  | firmwareVerified => exact .of_next h.effFirmwareVerified he
  | imageVerified => exact .of_next h.effImageVerified he
  | dramTrainingDone => exact .of_next h.effDramTrainingDone he
  | loadSelfTestDone => exact .of_next h.effLoadSelfTestDone he
  | catalogueReinitDone => exact .of_next h.effCatalogueReinitDone he
  | loadComplete => exact .of_next h.effLoadComplete he
  | calibrateComplete => exact .of_next h.effCalibrateComplete he
  | modeReqDormant => exact .of_next h.effModeReqDormant he
  | modeReqReady => exact .of_next h.effModeReqReady he
  | modeReqReset => exact .of_next h.effModeReqReset he
  | dormantEntryDone => exact .of_next h.effDormantEntryDone he
  | wakeTickReached => exact .of_next h.effWakeTickReached he
  | dormantExitDone => exact .of_next h.effDormantExitDone he
  | refclkLost => exact .of_next h.effRefclkLost he
  | refclkPhaseStep => exact .of_next h.effRefclkPhaseStep he
  | refclkValid1ms => exact .of_next h.effRefclkValid1ms he
  | sourceLocked => exact .of_next h.effSourceLocked he
  | crystalLost => exact .of_next h.effCrystalLost he
  | epochPulse => exact .of_next h.effEpochPulse he
  | realignJump => exact .of_next h.effRealignJump he
  | expectedTick => exact .of_next h.effExpectedTick he
  | epochMissing => exact .of_next h.effEpochMissing he
  | spllLockLost => exact .of_next h.effSpllLockLost he
  | spllRelocked => exact .of_next h.effSpllRelocked he
  | spllRelockTimeout => exact .of_next h.effSpllRelockTimeout he
  | timeSnap => exact .of_next h.effTimeSnap he
  | epochArm => exact .of_next h.effEpochArm he
  | timeClrCounts => exact .of_next h.effTimeClrCounts he
  | schedCommit => exact .of_next h.effSchedCommit he
  | schedCancel => exact .of_next h.effSchedCancel he
  | schedFieldWrite => exact .of_next h.effSchedFieldWrite he
  | schedDispatch => exact .of_next h.effSchedDispatch he
  | schedWindowClose => exact .of_next h.effSchedWindowClose he
  | actionArm => exact .of_next h.effActionArm he
  | actionDisarm => exact .of_next h.effActionDisarm he
  | actionDeal => exact .of_next h.effActionDeal he
  | actionShuffle => exact .of_next h.effActionShuffle he
  | actionBistSlice => exact .of_next h.effActionBistSlice he
  | actionMonSeq => exact .of_next h.effActionMonSeq he
  | actionPsrEnter => exact .of_next h.effActionPsrEnter he
  | actionPsrExit => exact .of_next h.effActionPsrExit he
  | actionRdoStart => exact .of_next h.effActionRdoStart he
  | actionDramRetrain => exact .of_next h.effActionDramRetrain he
  | actionRefreshMakeup => exact .of_next h.effActionRefreshMakeup he
  | actionTimeMark => exact .of_next h.effActionTimeMark he
  | shadowFrameStart => exact .of_next h.effShadowFrameStart he
  | shadowFrameEnd => exact .of_next h.effShadowFrameEnd he
  | shuffleSwitch => exact .of_next h.effShuffleSwitch he
  | shuffleRelease => exact .of_next h.effShuffleRelease he
  | bgRunComplete => exact .of_next h.effBgRunComplete he
  | cnvSnapMap => exact .of_next h.effCnvSnapMap he
  | cnvClrCounts => exact .of_next h.effCnvClrCounts he
  | trackWindowEnd => exact .of_next h.effTrackWindowEnd he
  | trackUpdateApply => exact .of_next h.effTrackUpdateApply he
  | calSnap => exact .of_next h.effCalSnap he
  | calClrCounts => exact .of_next h.effCalClrCounts he
  | evaluationInstant => exact .of_next h.effEvaluationInstant he
  | detectorStuck => exact .of_next h.effDetectorStuck he
  | trigInActivation => exact .of_next h.effTrigInActivation he
  | pinStuck => exact .of_next h.effPinStuck he
  | force => exact .of_next h.effForce he
  | detLevelWrite => exact .of_next h.effDetLevelWrite he
  | detHystWrite => exact .of_next h.effDetHystWrite he
  | holdTicksWrite => exact .of_next h.effHoldTicksWrite he
  | holdSamplesWrite => exact .of_next h.effHoldSamplesWrite he
  | holdCountWrite => exact .of_next h.effHoldCountWrite he
  | rearmPoint => exact .of_next h.effRearmPoint he
  | holdoffEnd => exact .of_next h.effHoldoffEnd he
  | llSelWrite => exact .of_next h.effLlSelWrite he
  | trgClrCounts => exact .of_next h.effTrgClrCounts he
  | trigOutPulse => exact .of_next h.effTrigOutPulse he
  | trigOutPulseEnd => exact .of_next h.effTrigOutPulseEnd he
  | planActivate => exact .of_next h.effPlanActivate he
  | planDeactivate => exact .of_next h.effPlanDeactivate he
  | planArm => exact .of_next h.effPlanArm he
  | planDisarm => exact .of_next h.effPlanDisarm he
  | admission => exact .of_next h.effAdmission he
  | commit => exact .of_next h.effCommit.repace he
  | recordEnd => exact .of_next h.effRecordEnd he
  | recordSeal => exact .of_next h.sealAndPace he
  | folioDeadline => exact .of_next h.effFolioDeadline he
  | folioHold => exact .of_next h.effFolioHold he
  | folioRelease => exact .of_next h.effFolioRelease he
  | bookSnap => exact .of_next h.effBookSnap he
  | elasticOvf => exact .of_next h.effElasticOvf.repace he
  | chDecimWrite => exact .of_next h.effChDecimWrite he
  | chGrantWrite => exact .of_next h.effChGrantWrite he
  | codClrCounts => exact .of_next h.effCodClrCounts he
  | accumAddEnd => exact .of_next h.effAccumAddEnd.settle he
  | bankComplete => exact .of_next h.completeAndPace he
  | accFinish => exact .of_next h.effAccFinish he
  | accDiscard => exact .of_next h.effAccDiscard.repace he
  | accClrPlane => exact .of_next h.effAccClrPlane he
  | accClrCounts => exact .of_next h.effAccClrCounts he
  | planeSourceWrite => exact .of_next h.effPlaneSourceWrite he
  | planeXWrite => exact .of_next h.effPlaneXWrite he
  | planeYWrite => exact .of_next h.effPlaneYWrite he
  | planeLookWrite => exact .of_next h.effPlaneLookWrite he
  | planeScaleWrite => exact .of_next h.effPlaneScaleWrite he
  | curveWrite => exact .of_next h.effCurveWrite he
  | composerFrame => exact .of_next h.effComposerFrame he
  | composerFrameDone => exact .of_next h.effComposerFrameDone he
  | callReceive => exact .of_next h.effCallReceive he
  | callDeliver => exact .of_next h.effCallDeliver he
  | callLost => exact .of_next h.effCallLost he
  | enumScan => exact .of_next h.effEnumScan he
  | enumReport => exact .of_next h.effEnumReport he
  | enumAssign => exact .of_next h.effEnumAssign he
  | enumAck => exact .of_next h.effEnumAck he
  | enumDone => exact .of_next h.effEnumDone he
  | enumReportDue => exact .of_next h.effEnumReportDue he
  | enumAssignDue => exact .of_next h.effEnumAssignDue he
  | enumAckTimeout => exact .of_next h.effEnumAckTimeout he
  | enumDoneDue => exact .of_next h.effEnumDoneDue he
  | enumerationStart => exact .of_next h.effEnumerationStart he
  | ensEnum => exact .of_next h.effEnsEnum he
  | dealArm => exact .of_next h.effDealArm he
  | dealDisarm => exact .of_next h.effDealDisarm he
  | dealActionDue => exact .of_next h.effDealActionDue he
  | dealCmd => exact .of_next h.effDealCmd he
  | timeMessage => exact .of_next h.effTimeMessage he
  | timeSend => exact .of_next h.effTimeSend he
  | statMessage => exact .of_next h.effStatMessage he
  | statSend => exact .of_next h.effStatSend he
  | unitPresenceTimeout => exact .of_next h.effUnitPresenceTimeout he
  | dealerLost => exact .of_next h.effDealerLost he
  | dealerTakeover => exact .of_next h.effDealerTakeover he
  | dealerWaitEnd => exact .of_next h.effDealerWaitEnd he
  | restartWindowEnd => exact .of_next h.effRestartWindowEnd he
  | tokenRequest => exact .of_next h.effTokenRequest he
  | tokenReply => exact .of_next h.effTokenReply he
  | tokenSend => exact .of_next h.effTokenSend he
  | blockLockAcquired => exact .of_next h.effBlockLockAcquired he
  | neighbourAbsent => exact .of_next h.effNeighbourAbsent he
  | ensClrCounts => exact .of_next h.effEnsClrCounts he
  | phyLockLost => exact .of_next h.effPhyLockLost he
  | phyLockRegained => exact .of_next h.effPhyLockRegained he
  | channelLost => exact .of_next h.effChannelLost he
  | refreshDue => exact .of_next h.effRefreshDue he
  | makeupBurst => exact .of_next h.effMakeupBurst he
  | retrainPauseDone => exact .of_next h.effRetrainPauseDone he
  | correctedError => exact .of_next h.effCorrectedError he
  | uncorrectableError => exact .of_next h.effUncorrectableError he
  | caParityError => exact .of_next h.effCaParityError he
  | rowThrottle => exact .of_next h.effRowThrottle he
  | throttleEnd => exact .of_next h.effThrottleEnd he
  | migrationRowDone => exact .of_next h.effMigrationRowDone he
  | displayPanicRaise => exact .of_next h.effDisplayPanicRaise he
  | displayPanicRelease => exact .of_next h.effDisplayPanicRelease he
  | memClrCounts => exact .of_next h.effMemClrCounts he
  | queueStart => exact .of_next h.effQueueStart he
  | queueStop => exact .of_next h.effQueueStop he
  | queueFlush => exact .of_next h.effQueueFlush he
  | queueResume => exact .of_next h.effQueueResume he
  | queueDoorbell => exact .of_next h.effQueueDoorbell he
  | compRdWrite => exact .of_next h.effCompRdWrite he
  | qCfgWrite => exact .of_next h.effQCfgWrite he
  | qPaceWrite => exact .of_next h.effQPaceWrite he
  | qPaceToWrite => exact .of_next h.effQPaceToWrite he
  | qCtlWrite => exact .of_next h.effQCtlWrite he
  | qHeadWrite => exact .of_next h.effQHeadWrite he
  | qCompBaseWrite => exact .of_next h.effQCompBaseWrite he
  | descriptorFetched => exact .of_next h.effDescriptorFetched he
  | readoutBurst => exact .of_next h.effReadoutBurst he
  | readbackComplete => exact .of_next h.effReadbackComplete he
  | hostRequestFailed => exact .of_next h.effHostRequestFailed he
  | paceTimeout => exact .of_next h.effPaceTimeout he
  | rdoSnap => exact .of_next h.effRdoSnap he
  | rdoClrCounts => exact .of_next h.effRdoClrCounts he
  | frameStart => exact .of_next h.effFrameStart he
  | underrun => exact .of_next h.effUnderrun he
  | dspPsrEnter => exact .of_next h.effDspPsrEnter he
  | dspPsrExit => exact .of_next h.effDspPsrExit he
  | palCommit => exact .of_next h.effPalCommit he
  | dspRetrain => exact .of_next h.effDspRetrain he
  | dspClrCounts => exact .of_next h.effDspClrCounts he
  | ovlSelWrite => exact .of_next h.effOvlSelWrite he
  | linkTrainingDone => exact .of_next h.effLinkTrainingDone he
  | hpdLoss => exact .of_next h.effHpdLoss he
  | hpdReturn => exact .of_next h.effHpdReturn he
  | irqHpd => exact .of_next h.effIrqHpd he
  | seqInterrupt => exact .of_next h.effSeqInterrupt he
  | next => exact .of_next h.effNext he
  | jump => exact .of_next h.effJump he
  | call => exact .of_next h.effCall he
  | ret => exact .of_next h.effRet he
  | wait => exact .of_next h.effWait he
  | dispatch => exact .of_next h.effDispatch he
  | reti => exact .of_next h.effReti he
  | illegalNa => exact .of_next h.effIllegalNa he
  | ctxParity => exact .of_next h.effCtxParity he
  | machineCheck => exact .of_next h.effMachineCheck he
  | doubleMachineCheck => exact .of_next h.effDoubleMachineCheck he
  | emergencyShuffle => exact .of_next h.effEmergencyShuffle he
  | takeoverSeal => exact .of_next h.effTakeoverSeal.repace he
  | patchWordRewrite => exact .of_next h.effPatchWordRewrite he
  | seqSnap => exact .of_next h.effSeqSnap he
  | seqClrCounts => exact .of_next h.effSeqClrCounts he
  | mbxDoorbell => exact .of_next h.effMbxDoorbell he
  | uartFrame => exact .of_next h.effUartFrame he
  | uartGapTimeout => exact .of_next h.effUartGapTimeout he
  | getIdentity => exact .of_next h.effGetIdentity he
  | getState => exact .of_next h.effGetState he
  | modeRequest => exact .of_next h.effModeRequest he
  | logInfo => exact .of_next h.effLogInfo he
  | logRead => exact .of_next h.effLogRead he
  | logSeal => exact .of_next h.effLogSeal he
  | calRead => exact .of_next h.effCalRead he
  | monRead => exact .of_next h.effMonRead he
  | updBegin => exact .of_next h.effUpdBegin he
  | updWrite => exact .of_next h.effUpdWrite he
  | updWriteDram => exact .of_next h.effUpdWriteDram he
  | updUnitWritten => exact .of_next h.effUpdUnitWritten he
  | updVerify => exact .of_next h.effUpdVerify he
  | updActivate => exact .of_next h.effUpdActivate he
  | updCommit => exact .of_next h.effUpdCommit he
  | updAbort => exact .of_next h.effUpdAbort he
  | updStatus => exact .of_next h.effUpdStatus he
  | getCert => exact .of_next h.effGetCert he
  | getAnchors => exact .of_next h.effGetAnchors he
  | sessionInfo => exact .of_next h.effSessionInfo he
  | sealNow => exact .of_next h.effSealNow he
  | attest => exact .of_next h.effAttest he
  | secCmdSealNow => exact .of_next h.effSecCmdSealNow he
  | monConversionDone => exact .of_next h.effMonConversionDone he
  | monSeqStart => exact .of_next h.effMonSeqStart he
  | pulseWidthEvent => exact .of_next h.effPulseWidthEvent he
  | injectStart => exact .of_next h.effInjectStart he
  | monCtlWrite => exact .of_next h.effMonCtlWrite he
  | refSettled => exact .of_next h.effRefSettled he
  | logCommit => exact .of_next h.effLogCommit he
  | logSelWrite => exact .of_next h.effLogSelWrite he
  | mgtClrCounts => exact .of_next h.effMgtClrCounts he
  | bistSliceDone => exact .of_next h.effBistSliceDone he
  | sigSelWrite => exact .of_next h.effSigSelWrite he
  | bstClrCounts => exact .of_next h.effBstClrCounts he
  | evtStatusClear => exact .of_next h.effEvtStatusClear he
  | evtMaskWrite => exact .of_next h.effEvtMaskWrite he
  | evtClrCounts => exact .of_next h.effEvtClrCounts he
  | evtClrStatus => exact .of_next h.effEvtClrStatus he
  | resetNRelease => exact .of_next h.effResetNRelease he
  | pwrEvtDeassert => exact .of_next h.effPwrEvtDeassert he
  | trigInDeactivation => exact .of_next h.effTrigInDeactivation he
  | phaseStepSettled => exact .of_next h.effPhaseStepSettled he
  | makeupBurstEnd => exact .of_next h.effMakeupBurstEnd he
  | linkRereadComplete => exact .of_next h.effLinkRereadComplete he
  | msixVectorUnmask => exact .of_next h.effMsixVectorUnmask he
  | resizableBarWrite => exact .of_next h.effResizableBarWrite he
  | d3hotExit => exact .of_next h.effD3hotExit he
  | crystalStart => exact .of_next h.effCrystalStart he

end

/-- Settles O3: an empty queue takes the transitions of `State.pass`; else the front command is taken off the queue and executed. -/
theorem stepKeepsTheStateSound : Obligations.StepKeepsTheStateSound := by
  intro s t h hst
  unfold step at hst
  split at hst
  · exact .of_next h.pass hst
  · exact State.sound.exec h.frame hst

end Sys2Proof.Machine
end

section
/-!
SUPPORT. The reset state: its one register field, and what follows of it (R8, R394, R395).
-/

namespace Sys2Proof.Machine

/-- The reset state lists one field only. -/
theorem State.fld_reset_ne (f : Fld) (h : f.addr ≠ DEV.STARTUP.STAGE.addr) : State.reset.fld f = f.reset := by
  simp [State.fld, State.reset, Tbl.get, Ne.symm h]

theorem State.latched_reset (n : Nat) : State.reset.latched n = false := by
  have h : State.reset.fld (EVT.STATUS.STATUS (n / 32)) = 0 :=
    State.fld_reset_ne _ (by simp only [EVT.STATUS.STATUS, DEV.STARTUP.STAGE]; omega)
  simp [State.latched, h, bitOf]

theorem State.reset_sound : State.reset.sound := ⟨by decide, by decide, by decide⟩

/-- Settles O2: the register file lists STAGE alone, so that every field at another bit reads its reset value. -/
theorem resetHoldsTheResetValues : Obligations.ResetHoldsTheResetValues := by
  refine ⟨⟨State.fld_reset_ne, ?_, ?_, rfl, State.latched_reset, rfl, rfl, rfl, rfl, fun _ _ => rfl⟩, State.reset_sound⟩
  · decide
  · exact State.fld_reset_ne _ (by decide)

end Sys2Proof.Machine
end

section
/-!
SUPPORT. BAR0 accesses (R6, R7, R32, R428, R429): what a write does to the fields of its register, what a read answers, what a bad
access reports.
-/

namespace Sys2Proof.Machine

/-! ### Writes of a register's fields (R6) -/

/-- What a field of a written register holds, from the value it held. -/
def fieldWritten (v old : Nat) (x : FieldType × Fld) : Nat :=
  if x.1 = .rw ∧ fixedField x.2 = false then v / 2 ^ (x.2.addr % 32) % 2 ^ x.2.width
  else if x.1 = .w1c then clearBits x.2.width old (v / 2 ^ (x.2.addr % 32)) % 2 ^ x.2.width
  else old

theorem fld_writeField_same (v : Nat) (s : State) (x : FieldType × Fld) :
    (writeField v s x).fld x.2 = fieldWritten v (s.fld x.2) x := by
  obtain ⟨k, f⟩ := x
  cases k
  case rw => cases h : fixedField f <;> simp [writeField, fieldWritten, h]
  all_goals simp [writeField, fieldWritten]

theorem writeField_only {A : List Nat} (v : Nat) (s : State) (x : FieldType × Fld) (h : x.2.addr ∈ A) :
    onlyRegs A s (writeField v s x) := by
  unfold writeField
  split
  · split
    · exact onlyRegs_refl A s
    · exact onlyRegs_setF A s _ _ h
  · exact onlyRegs_setF A s _ _ h
  all_goals exact onlyRegs_refl A s

theorem writeFields_only {A : List Nat} (v : Nat) (fs : FoundReg) : ∀ s : State, (∀ x ∈ fs, x.2.addr ∈ A) →
    onlyRegs A s (fs.foldl (writeField v) s) := by
  induction fs with
  | nil => exact fun s _ => onlyRegs_refl A s
  | cons y fs ih =>
    intro s h
    obtain ⟨hy, hfs⟩ := List.forall_mem_cons.mp h
    exact onlyRegs_trans (writeField_only v s y hy) (ih _ hfs)

/-- Where no two fields start at one bit, each takes its own part of the write and no other. -/
theorem fld_writeFields (v : Nat) (fs : FoundReg) : ∀ s : State, (fs.map fun x => x.2.addr).Nodup → ∀ x ∈ fs,
    (fs.foldl (writeField v) s).fld x.2 = fieldWritten v (s.fld x.2) x := by
  induction fs with
  | nil => exact fun _ _ x hx => nomatch hx
  | cons y fs ih =>
    intro s hn x hx
    obtain ⟨hy, hn⟩ := List.nodup_cons.mp hn
    have mem : ∀ z ∈ fs, z.2.addr ∈ fs.map fun x => x.2.addr := fun z hz => List.mem_map_of_mem (f := fun x => x.2.addr) hz
    have hy : y.2.addr ∉ fs.map fun x => x.2.addr := hy
    rw [List.foldl_cons]
    rcases List.mem_cons.mp hx with rfl | hx
    · rw [(writeFields_only v fs (writeField v s x) mem).1 x.2 hy, fld_writeField_same]
    · have hne : x.2.addr ∉ [y.2.addr] := fun e => hy (List.mem_singleton.mp e ▸ mem x hx)
      rw [ih _ hn x hx, (writeField_only v s y (List.mem_singleton_self _)).1 x.2 hne]

/-! ### Writes of a BAR0 offset (R6, R7, R429) -/

section
variable {s : State} {off v : Nat}

theorem State.served_hostUp (h : s.served off = true) : s.hostUp = true := (Bool.and_eq_true_iff.mp h).1

theorem State.writeReg_special {f : State → State} (hs : s.served off = true) (ha : off % 4 = 0) (hf : writeSpecial off v = some f) :
    s.writeReg off v = f s := by
  simp [State.writeReg, hs, ha, hf]

theorem State.writeReg_fields (hs : s.served off = true) (ha : off % 4 = 0) (hf : writeSpecial off v = none) :
    s.writeReg off v = ((findReg off).getD []).foldl (writeField v) s := by
  simp [State.writeReg, hs, ha, hf]

theorem State.writeReg_unserved (hs : s.served off = false) : s.writeReg off v = s := by
  simp [State.writeReg, hs]

end

theorem exec_registerWrite (r : HostReg) (v : Nat) (s : State) : exec (.registerWrite r v) s = .next (effRegisterWrite r v s) := rfl

/-- A write of a register without an effect of its own. -/
theorem exec_write_fields {s : State} {off v : Nat} {fs : FoundReg} (hs : s.served off = true) (ha : off % 4 = 0)
    (hf : writeSpecial off (v % 2 ^ 32) = none) (hr : findReg off = some fs) :
    exec (.registerWrite (.bar0 off) v) s = .next (fs.foldl (writeField (v % 2 ^ 32)) s) := by
  rw [exec_registerWrite, effRegisterWrite, State.writeReg_fields hs ha hf, hr, Option.getD_some]

/-! ### Configuration space (R424, R430, R431) -/

section
variable {s : State}

theorem State.sendPending_none (h : s.host.pba = []) : s.sendPending = s := by
  simp [State.sendPending, h]

theorem State.writeCommand_shows (s : State) (v : Nat) : (s.writeCommand v).fld DEV.HOST_STATUS.BME = if bitOf v 2 then 1 else 0 := by
  rw [State.writeCommand, State.setB, State.fld_setF_same]
  cases bitOf v 2 <;> rfl

theorem State.showMsix_shows (s : State) :
    s.showMsix.fld DEV.HOST_STATUS.MSIX_EN = if s.host.msixEn && !s.host.fmask then 1 else 0 := by
  rw [State.showMsix, State.setB, State.fld_setF_same]
  cases s.host.msixEn && !s.host.fmask <;> rfl

/-- A flag shown in a register beside a change of the host's components. -/
theorem onlyRegs_setB_host (s : State) (h : HostSt) (f : Fld) (b : Bool) :
    onlyRegs [f.addr] s { State.setB { s with host := h } f b with host := s.host } :=
  ⟨fun g hg => State.fld_setB_ne { s with host := h } f g b fun e => hg (e ▸ List.mem_singleton_self _), rfl⟩

/-- A write of a configuration register in a state that answers configuration requests. -/
theorem configurationWrites (hc : s.cfgUp = true) (v : Nat) :
    effRegisterWrite .command v s = s.writeCommand v ∧
    effRegisterWrite .msixControl v s = s.writeMsixControl (bitOf v 15) (bitOf v 14) ∧
    effRegisterWrite .deviceControl v s = s.writeDeviceControl v ∧
    effRegisterWrite .deviceControl2 v s = s.writeDeviceControl2 v ∧
    effRegisterWrite .aerStatus v s = { s with host := { s.host with aer := clearBits 32 s.host.aer v } } ∧
    effRegisterWrite .status v s = { s with host := { s.host with status := clearBits 16 s.host.status v } } := by
  simp only [effRegisterWrite, hc, if_true, and_self]

theorem State.writeDeviceControl_eq (s : State) (v : Nat) : s.writeDeviceControl v = { s with host := { s.host with
    mps := if v / 2 ^ 5 % 8 ≤ 2 then 128 * 2 ^ (v / 2 ^ 5 % 8) else s.host.mps } } := by
  unfold State.writeDeviceControl
  extract_lets m
  split
  · rfl
  · rfl

theorem State.writeDeviceControl2_eq (s : State) (v : Nat) : s.writeDeviceControl2 v = { s with host := { s.host with
    cplOff := bitOf v 4
    cplCode := if [0, 1, 2, 5, 6, 9, 10, 13, 14].contains (v % 16) then v % 16 else s.host.cplCode } } := by
  unfold State.writeDeviceControl2
  split
  · rfl
  · rfl

theorem exec_write_msixTable (hu : s.hostUp = true) {d : Nat} (hd : d < 1024) (hm : d % 4 ≠ 3) (v : Nat) :
    exec (.registerWrite (.msixTable d) v) s =
      .next { s with host := { s.host with table_ := Tbl.set 0 s.host.table_ d (v % 2 ^ 32) } } := by
  rw [exec_registerWrite]
  simp only [effRegisterWrite, hu, hd, State.writeTable, hm, decide_true, Bool.and_self, if_true, if_false]

end

/-! ### Reads of a BAR0 offset (R32, R429) -/

section
variable {s : State} {off : Nat}

theorem exec_read_served (hs : s.served off = true) (ha : off % 4 = 0) :
    exec (.loRegisterRead off) s = .next ((s.latchHigh off).answerRead (s.regValue off)) := by
  show Host.Outcome.next (effLoRegisterRead off s) = _
  simp only [effLoRegisterRead, State.served_hostUp hs, hs, ha, decide_true, Bool.and_self, if_true]

theorem exec_read_unserved (hu : s.hostUp = true) (ha : off % 4 = 0) (hs : s.served off = false) :
    exec (.loRegisterRead off) s = .next (s.answerRead 0) := by
  show Host.Outcome.next (effLoRegisterRead off s) = _
  simp only [effLoRegisterRead, hu, hs, ha, decide_true, Bool.and_self, if_true, Bool.false_eq_true, if_false]

theorem State.latchHigh_tick (s : State) : s.latchHigh 0x10010 = s.setF TIME.TICK_HI.TICK (s.tick.toNat / 2 ^ 32) := if_pos rfl

theorem State.regValue_tick (s : State) : s.regValue 0x10010 = s.tick.toNat % 2 ^ 32 := if_pos rfl

/-- Whatever a read latches are register fields: nothing is sent. -/
theorem State.latchHigh_out (s : State) (off : Nat) : (s.latchHigh off).out = s.out := by
  unfold State.latchHigh
  split
  · exact State.setF_out ..
  split
  · exact State.setF_out ..
  split
  · simp only [State.setF_out]
  split
  · exact State.setF_out ..
  split
  · exact State.setF_out ..
  split
  · exact State.setF_out ..
  split
  · exact State.setF_out ..
  split
  · exact State.setF_out ..
  split
  · exact State.setF_out ..
  split
  · exact State.setF_out ..
  · rfl

end

/-! ### Bad accesses (R428) -/

/-- What a bad access does before a read's completion: the count and the notice, with K telling a write from a read. -/
theorem badAccess_reports (s : State) (k off : Nat) (hk : k < 256) :
    counted DEV.HOST_ERR.BAD_SIZE s ((s.bumpF DEV.HOST_ERR.BAD_SIZE 1).raise 9 k 0 0 off) ∧
    reported 9 k 0 0 ((s.bumpF DEV.HOST_ERR.BAD_SIZE 1).raise 9 k 0 0 off) ∧
    onlyReports [DEV.HOST_ERR.BAD_SIZE.addr] s ((s.bumpF DEV.HOST_ERR.BAD_SIZE 1).raise 9 k 0 0 off) := by
  have hraise := fun A => State.raise_only A (s.bumpF DEV.HOST_ERR.BAD_SIZE 1) 9 k 0 0 off (by decide)
  refine ⟨?_, State.raise_reported _ 9 k 0 0 off (by decide) (by decide) hk (by decide) (by decide), ?_⟩
  · unfold counted
    rw [(hraise []).1 _ List.not_mem_nil (by decide), State.fld_bumpF_same]
  · exact onlyReports_trans (onlyReports_bumpF _ s _ 1 (.inr (List.mem_singleton_self _))) (hraise _)

theorem State.emit_fld (s : State) (x : Out) (g : Fld) : (s.emit x).fld g = s.fld g := rfl

theorem onlyReports_emit (A : List Nat) (s : State) (x : Out) : onlyReports A s (s.emit x) := ⟨fun _ _ _ => rfl, rfl⟩

theorem exec_badRead {s : State} (hu : s.hostUp = true) (off len : Nat) :
    exec (.bar0BadAccess true off len) s = .next (((s.bumpF DEV.HOST_ERR.BAD_SIZE 1).raise 9 0 0 0 off).emit
      (.completion false (List.replicate len 0xFF))) := by
  show Host.Outcome.next (effBar0BadAccess true off len s) = _
  simp only [effBar0BadAccess, hu, if_true]

theorem exec_badWrite {s : State} (hu : s.hostUp = true) (off len : Nat) :
    exec (.bar0BadAccess false off len) s = .next ((s.bumpF DEV.HOST_ERR.BAD_SIZE 1).raise 9 1 0 0 off) := by
  show Host.Outcome.next (effBar0BadAccess false off len s) = _
  simp only [effBar0BadAccess, hu, if_true, Bool.false_eq_true, if_false]

/-! ### The accesses together -/

theorem bar0_fieldWrites (s : State) (off v : Nat) (fs : FoundReg) (hs : s.served off = true) (ha : off % 4 = 0)
    (hw : writeSpecial off (v % 2 ^ 32) = none) (hr : findReg off = some fs) (hn : (fs.map fun x => x.2.addr).Nodup) :
    ∃ t, exec (.registerWrite (.bar0 off) v) s = .next t ∧ onlyRegs (fs.map fun x => x.2.addr) s t ∧
      ∀ x ∈ fs, t.fld x.2 = fieldWritten (v % 2 ^ 32) (s.fld x.2) x :=
  ⟨_, exec_write_fields hs ha hw hr, writeFields_only _ fs s fun _ hx => List.mem_map_of_mem (f := fun x => x.2.addr) hx,
    fld_writeFields _ fs s hn⟩

/-- A register of one RW field, of one RO field, and a reserved offset. -/
theorem bar0_plainWrites (s : State) (off v : Nat) (hs : s.served off = true) (ha : off % 4 = 0)
    (hw : writeSpecial off (v % 2 ^ 32) = none) :
    (∀ f, findReg off = some [(.rw, f)] → fixedField f = false →
      ∃ t, exec (.registerWrite (.bar0 off) v) s = .next t ∧
        t.fld f = v % 2 ^ 32 / 2 ^ (f.addr % 32) % 2 ^ f.width ∧ onlyRegs [f.addr] s t) ∧
    (∀ f, findReg off = some [(.ro, f)] → exec (.registerWrite (.bar0 off) v) s = .next s) ∧
    (findReg off = none → exec (.registerWrite (.bar0 off) v) s = .next s) := by
  refine ⟨fun f hr hf => ?_, fun f hr => exec_write_fields hs ha hw hr, fun hr => ?_⟩
  · obtain ⟨t, ht, honly, hfld⟩ := bar0_fieldWrites s off v _ hs ha hw hr (List.nodup_singleton _)
    refine ⟨t, ht, ?_, honly⟩
    rw [hfld (.rw, f) (List.mem_singleton_self _), fieldWritten, if_pos ⟨rfl, hf⟩]
  · rw [exec_registerWrite, effRegisterWrite, State.writeReg_fields hs ha hw, hr]
    rfl

theorem bar0_configurationWrites (s : State) (v : Nat) (hc : s.cfgUp = true) :
    (∃ t, exec (.registerWrite .command v) s = .next t ∧ t.host = { s.host with mse := bitOf v 1 } ∧
      t.fld DEV.HOST_STATUS.BME = (if bitOf v 2 then 1 else 0) ∧ onlyRegs [DEV.HOST_STATUS.BME.addr] s { t with host := s.host }) ∧
    (s.host.pba = [] → ∃ t, exec (.registerWrite .msixControl v) s = .next t ∧
      t.host = { s.host with msixEn := bitOf v 15, fmask := bitOf v 14 } ∧
      t.fld DEV.HOST_STATUS.MSIX_EN = (if bitOf v 15 && !bitOf v 14 then 1 else 0) ∧
      onlyRegs [DEV.HOST_STATUS.MSIX_EN.addr] s { t with host := s.host }) ∧
    exec (.registerWrite .deviceControl v) s = .next { s with host := { s.host with
      mps := if v / 2 ^ 5 % 8 ≤ 2 then 128 * 2 ^ (v / 2 ^ 5 % 8) else s.host.mps } } ∧
    exec (.registerWrite .deviceControl2 v) s = .next { s with host := { s.host with
      cplOff := bitOf v 4
      cplCode := if [0, 1, 2, 5, 6, 9, 10, 13, 14].contains (v % 16) then v % 16 else s.host.cplCode } } ∧
    exec (.registerWrite .aerStatus v) s = .next { s with host := { s.host with aer := clearBits 32 s.host.aer v } } ∧
    exec (.registerWrite .status v) s = .next { s with host := { s.host with status := clearBits 16 s.host.status v } } := by
  obtain ⟨hcmd, hmsix, hdev, hdev2, haer, hst⟩ := configurationWrites hc v
  refine ⟨⟨_, congrArg Host.Outcome.next hcmd, rfl, s.writeCommand_shows v, onlyRegs_setB_host s _ _ _⟩, fun hp => ?_,
    congrArg Host.Outcome.next (hdev.trans (s.writeDeviceControl_eq v)),
    congrArg Host.Outcome.next (hdev2.trans (s.writeDeviceControl2_eq v)),
    congrArg Host.Outcome.next haer, congrArg Host.Outcome.next hst⟩
  have hsend := hmsix.trans (State.sendPending_none (s := State.showMsix _) hp)
  exact ⟨_, congrArg Host.Outcome.next hsend, rfl, State.showMsix_shows _, onlyRegs_setB_host s _ _ _⟩

/-- A read of TIME.TICK_LO (R32). -/
theorem bar0_readTick (s : State) (hs : s.served 0x10010 = true) : ∃ t, exec (.loRegisterRead 0x10010) s = .next t ∧
    t.fld TIME.TICK_HI.TICK = s.tick.toNat / 2 ^ 32 ∧ t.host.readData = some (s.tick.toNat % 2 ^ 32) ∧
    t.out = .completion false (le 4 (s.tick.toNat % 2 ^ 32)) :: s.out ∧
    (∀ g : Fld, g.addr ≠ TIME.TICK_HI.TICK.addr → t.fld g = s.fld g) ∧ t.tick = s.tick ∧ t.mem = s.mem ∧
    t.pending = s.pending := by
  have hfit : s.tick.toNat / 2 ^ 32 % 2 ^ TIME.TICK_HI.TICK.width = s.tick.toNat / 2 ^ 32 := by
    have := s.tick.isLt
    simp only [TIME.TICK_HI.TICK]
    omega
  have hread := exec_read_served hs rfl
  rw [s.latchHigh_tick, s.regValue_tick] at hread
  exact ⟨_, hread, (s.fld_setF_same TIME.TICK_HI.TICK _).trans hfit, rfl, rfl, fun g hg => s.fld_setF_ne _ g _ hg, rfl, rfl, rfl⟩

theorem bar0_reads (s : State) :
    (∀ off, s.served off = true → off % 4 = 0 →
      exec (.loRegisterRead off) s = .next ((s.latchHigh off).answerRead (s.regValue off)) ∧
      ((s.latchHigh off).answerRead (s.regValue off)).host.readData = some (s.regValue off) ∧
      ((s.latchHigh off).answerRead (s.regValue off)).out = .completion false (le 4 (s.regValue off)) :: s.out) ∧
    (∀ off, s.hostUp = true → off % 4 = 0 → s.served off = false → ∃ t, exec (.loRegisterRead off) s = .next t ∧
      t.host.readData = some 0 ∧ t.regs = s.regs ∧ t.out = .completion false (le 4 0) :: s.out) :=
  ⟨fun off hs ha => ⟨exec_read_served hs ha, rfl, congrArg (List.cons _) (s.latchHigh_out off)⟩,
    fun _ hu ha hs => ⟨_, exec_read_unserved hu ha hs, rfl, rfl, rfl⟩⟩

theorem bar0_badAccesses (s : State) (off len : Nat) (hu : s.hostUp = true) :
    (∃ t, exec (.bar0BadAccess true off len) s = .next t ∧ counted DEV.HOST_ERR.BAD_SIZE s t ∧ reported 9 0 0 0 t ∧
      t.out.head? = some (.completion false (List.replicate len 0xFF)) ∧ onlyReports [DEV.HOST_ERR.BAD_SIZE.addr] s t) ∧
    (∃ t, exec (.bar0BadAccess false off len) s = .next t ∧ counted DEV.HOST_ERR.BAD_SIZE s t ∧ reported 9 1 0 0 t ∧
      onlyReports [DEV.HOST_ERR.BAD_SIZE.addr] s t) := by
  obtain ⟨hcount, hrep, honly⟩ := badAccess_reports s 0 off (by decide)
  refine ⟨⟨_, exec_badRead hu off len, ?_, ?_, rfl, ?_⟩, ⟨_, exec_badWrite hu off len, badAccess_reports s 1 off (by decide)⟩⟩
  · exact (State.emit_fld ..).trans hcount
  · exact reported_of_same (fun g _ => State.emit_fld _ _ g) rfl rfl rfl hrep
  · exact onlyReports_trans honly (onlyReports_emit _ _ _)

/-- Settles O5: the writes and the reads by what `effRegisterWrite` and `effLoRegisterRead` do in each case, the bad accesses by what
the raising of an event shows and leaves. -/
theorem bar0AccessesFollowTheirRules : Obligations.Bar0AccessesFollowTheirRules := by
  refine ⟨⟨bar0_fieldWrites, fun s off v f hs ha hf => ?_, bar0_configurationWrites, fun _ _ v hu hd hm => ?_,
    fun s off v => ⟨bar0_plainWrites s off v, fun hs => ?_⟩⟩, fun s => ⟨bar0_readTick s, bar0_reads s⟩, bar0_badAccesses⟩
  · rw [exec_registerWrite, effRegisterWrite, State.writeReg_special hs ha hf]
  · exact exec_write_msixTable hu hd hm v
  · rw [exec_registerWrite, effRegisterWrite, State.writeReg_unserved hs]

end Sys2Proof.Machine
end

section
/-!
SUPPORT. Frames of register writes: what chains of them and walks of them leave, and the components a frame leaves whole.
-/

namespace Sys2Proof.Machine

section
variable {A B : List Nat} {s t : State}

theorem onlyRegs.setF (h : onlyRegs A s t) {f : Fld} {v : Nat} (hf : f.addr ∈ A) : onlyRegs A s (t.setF f v) :=
  onlyRegs_trans h (onlyRegs_setF A t f v hf)

theorem onlyRegs.setB (h : onlyRegs A s t) {f : Fld} {b : Bool} (hf : f.addr ∈ A) : onlyRegs A s (t.setB f b) := h.setF hf

theorem onlyRegs.weaken (h : onlyRegs A s t) (hAB : A ⊆ B) : onlyRegs B s t := ⟨fun g hg => h.1 g fun x => hg (hAB x), h.2⟩

/-- A walk that writes one field for each number of a list. -/
theorem onlyRegs.foldl_setF (f : Nat → Fld) (v : Nat → Nat) (l : List Nat) (hl : ∀ i ∈ l, (f i).addr ∈ A) (h : onlyRegs A s t) :
    onlyRegs A s (l.foldl (fun x i => x.setF (f i) (v i)) t) := by
  induction l generalizing t with
  | nil => exact h
  | cons i l ih => exact ih (fun j hj => hl j (List.mem_cons_of_mem _ hj)) (h.setF (hl i List.mem_cons_self))

/-- Fields written one after another, each with its value. -/
def State.setFs (s : State) (ws : List (Fld × Nat)) : State := ws.foldl (fun u w => u.setF w.1 w.2) s

theorem onlyRegs_setFs {ws : List (Fld × Nat)} (s : State) (hA : ∀ w ∈ ws, w.1.addr ∈ A) : onlyRegs A s (s.setFs ws) := by
  induction ws generalizing s with
  | nil => exact onlyRegs_refl A s
  | cons w ws ih =>
    exact onlyRegs_trans (onlyRegs_setF A s _ _ (hA w List.mem_cons_self)) (ih _ fun x hx => hA x (List.mem_cons_of_mem _ hx))

/-- Where no two of the fields start at one bit, each holds its value. -/
theorem fld_setFs {ws : List (Fld × Nat)} (hnd : (ws.map fun w => w.1.addr).Nodup) (s : State) :
    ∀ w ∈ ws, (s.setFs ws).fld w.1 = w.2 % 2 ^ w.1.width := by
  induction ws generalizing s with
  | nil => exact fun _ hw => nomatch hw
  | cons x ws ih =>
    obtain ⟨hx, hnd⟩ := List.nodup_cons.mp hnd
    intro w hw
    rcases List.mem_cons.mp hw with rfl | hw
    · exact ((onlyRegs_setFs (s.setF w.1 w.2) fun y hy => List.mem_map_of_mem (f := fun w => w.1.addr) hy).1 _ hx).trans (State.fld_setF_same _ _ _)
    · exact ih hnd (s.setF x.1 x.2) w hw

theorem onlyRegs.mem_eq (h : onlyRegs A s t) : t.mem = s.mem := (congrArg (fun u : State => u.mem) h.2 : _)

theorem onlyReports.mem_eq (h : onlyReports A s t) : t.mem = s.mem := (congrArg (fun u : State => u.mem) h.2 : _)

theorem onlyReports.acq_eq (h : onlyReports A s t) : t.acq = s.acq := (congrArg (fun u : State => u.acq) h.2 : _)

end

end Sys2Proof.Machine
end

section
/-!
SUPPORT. Admission (R22, R257): what its report shows, what the reservations put in place show, and what each answer does.
-/

namespace Sys2Proof.Machine

section
variable (s : State)

/-- The fields at which the reservations held are shown (R273). -/
def resvRegs : List Nat :=
  [MEM.FIXED_RESV.DISPLAY.addr, MEM.FIXED_RESV.COMPOSER.addr, MEM.RDO_RESV.SHARE.addr] ++
    (List.range 8).map (fun k => (MEM.SLOT_RESV.SHARE k).addr) ++ (List.range 12).map fun c => (MEM.CH_RESV.SHARE c).addr

theorem State.showResv_only : onlyRegs resvRegs s s.showResv :=
  .foldl_setF MEM.CH_RESV.SHARE _ _ (by decide) <| .foldl_setF MEM.SLOT_RESV.SHARE _ _ (by decide) <|
    (((onlyRegs_refl resvRegs s).setF (by decide)).setF (by decide)).setF (by decide)

theorem State.setResv_resv (t : Tbl Resv) : (s.setResv t).mem.resv = t :=
  congrArg MemSt.resv (State.showResv_only { s with mem := { s.mem with resv := t } }).mem_eq

theorem State.setResv_fld (t : Tbl Resv) {g : Fld} (hg : g.addr ∉ resvRegs) : (s.setResv t).fld g = s.fld g :=
  (State.showResv_only { s with mem := { s.mem with resv := t } }).1 g hg

/-- The fields that say what an admission demanded, beside MEM.ADMIT's KIND, ID and RESULT. -/
def demandRegs : List Nat :=
  [MEM.ADMIT.WORST.addr, MEM.ADMIT_DEMAND.DEMAND.addr, MEM.ADMIT_EXCESS.EXCESS.addr] ++
    (List.range 12).map fun c => (MEM.CH_ACCT.DEMAND c).addr

section
variable (kind id result demand excess : Nat)

theorem State.reportAdmit_demand :
    onlyRegs demandRegs (((s.setF MEM.ADMIT.KIND kind).setF MEM.ADMIT.ID id).setF MEM.ADMIT.RESULT result)
      (s.reportAdmit kind id result demand excess) :=
  .foldl_setF MEM.CH_ACCT.DEMAND _ _ (by decide) <|
    (((onlyRegs_refl demandRegs _).setF (by decide)).setF (by decide)).setF (by decide)

theorem State.reportAdmit_mem : (s.reportAdmit kind id result demand excess).mem = s.mem :=
  (s.reportAdmit_demand kind id result demand excess).mem_eq

theorem State.reportAdmit_result : (s.reportAdmit kind id result demand excess).fld MEM.ADMIT.RESULT = result % 4 :=
  ((s.reportAdmit_demand kind id result demand excess).1 _ (by decide)).trans (State.fld_setF_same _ _ _)

theorem State.reportAdmit_kind : (s.reportAdmit kind id result demand excess).fld MEM.ADMIT.KIND = kind % 8 := by
  rw [(s.reportAdmit_demand kind id result demand excess).1 _ (by decide), State.fld_setF_ne _ _ _ _ (by decide),
    State.fld_setF_ne _ _ _ _ (by decide)]
  exact State.fld_setF_same _ _ _

end

/-- What `judgeAdmission` answers: `result` is its answer, `t` the state it leaves. -/
structure Judged (s : State) (kind id : Nat) (asks : List (Nat × Resv)) (result : Nat) (t : State) : Prop where
  shown : t.fld MEM.ADMIT.RESULT = result
  kindShown : t.fld MEM.ADMIT.KIND = kind
  taken : result = 0 → t.mem.resv = putResv s.mem.resv asks
  kept : result ≠ 0 → t.mem = s.mem
  told : result ≠ 0 → reported 2 kind id 0 t

section
variable {kind id : Nat} (asks : List (Nat × Resv)) (mapped : Bool) (ex : Nat)

/-- A refusal: shown, told and nothing taken. -/
theorem Judged.of_refusal {r : Nat} (hr : 0 < r ∧ r < 4) (hk : kind < 8) (hid : id < 256) (demand excess : Nat) :
    Judged s kind id asks r ((s.reportAdmit kind id r demand excess).admissionRefused kind id excess) := by
  have honly := State.raise_only [] (s.reportAdmit kind id r demand excess) 2 kind (id % 256) 0 excess (by decide)
  have hrep := State.raise_reported (s.reportAdmit kind id r demand excess) 2 kind (id % 256) 0 excess (by decide) (by decide)
    (by omega) (by omega) (by decide)
  rw [Nat.mod_eq_of_lt hid] at honly hrep
  unfold State.admissionRefused
  rw [Nat.mod_eq_of_lt hid]
  refine ⟨?_, ?_, fun h => absurd h (by omega), fun _ => honly.mem_eq.trans (s.reportAdmit_mem ..), fun _ => hrep⟩
  · rw [honly.1 _ (by simp) (by decide), s.reportAdmit_result, Nat.mod_eq_of_lt hr.2]
  · rw [honly.1 _ (by simp) (by decide), s.reportAdmit_kind, Nat.mod_eq_of_lt hk]

/-- An acceptance: shown, and the reservations stand. -/
theorem Judged.of_acceptance (hk : kind < 8) (demand : Nat) :
    Judged s kind id asks 0 ((s.reportAdmit kind id 0 demand 0).setResv (putResv s.mem.resv asks)) := by
  refine ⟨?_, ?_, fun _ => State.setResv_resv _ _, fun h => absurd rfl h, fun h => absurd rfl h⟩
  · rw [State.setResv_fld _ _ (by decide), s.reportAdmit_result]
  · rw [State.setResv_fld _ _ (by decide), s.reportAdmit_kind, Nat.mod_eq_of_lt hk]

/-- The answer is 0 where nothing refuses, and its state is as the answer says. -/
theorem State.judgeAdmission_judged (hk : kind < 8) (hid : id < 256) :
    ((s.judgeAdmission kind id asks mapped ex).1 = 0 ↔
      mapped = true ∧ totalShare s.carriers (putResv s.mem.resv asks) ≤ s.fld MEM.CEIL.CEIL ∧ ex = 0) ∧
    Judged s kind id asks (s.judgeAdmission kind id asks mapped ex).1 (s.judgeAdmission kind id asks mapped ex).2 := by
  unfold State.judgeAdmission
  dsimp only
  split
  · next hm => exact ⟨iff_of_false (by simp) fun ⟨h, _⟩ => by simp [hm] at h, .of_refusal s asks (by omega) hk hid _ _⟩
  split
  · next hc => exact ⟨iff_of_false (by simp) fun ⟨_, h, _⟩ => by omega, .of_refusal s asks (by omega) hk hid _ _⟩
  split
  · next hx => exact ⟨iff_of_false (by simp) fun ⟨_, _, h⟩ => by omega, .of_refusal s asks (by omega) hk hid _ _⟩
  · next hm hc hx =>
    exact ⟨⟨fun _ => ⟨by simpa using hm, by omega, by omega⟩, fun _ => rfl⟩, .of_acceptance s asks hk _⟩

end

end

/-- Settles O25: the answer is 0 where no refusal of `judgeAdmission` applies; each refusal and the acceptance leave what `Judged` says. -/
theorem admissionFitsUnderTheCeiling : Obligations.AdmissionFitsUnderTheCeiling := by
  intro s kind id asks mapped ex hk hid
  obtain ⟨hiff, hj⟩ := s.judgeAdmission_judged asks mapped ex hk hid
  exact ⟨hiff, hj.taken, fun h => ⟨hj.kept h, hj.told h⟩, hj.shown, hj.kindShown⟩

end Sys2Proof.Machine
end

section
/-!
SUPPORT. Bindings (R25, R289, R301): the fields at which a queue is shown, what a refused and an accepted binding write leave.
-/

namespace Sys2Proof.Machine

/-! ### What showing a queue writes (R291) -/

/-- The fields at which a queue is shown. -/
def queueShown (q : Nat) : List Nat :=
  [(RDO.Q_STATE.STATE q).addr, (RDO.Q_STATE.FLUSHING q).addr, (RDO.Q_CMD.FLUSH q).addr, (RDO.Q_STATE.RING_FULL q).addr,
    (RDO.Q_LEVEL.LEVEL q).addr, (RDO.Q_CUR_LO.ADDR q).addr, (RDO.Q_CUR_LO.DEV q).addr, (RDO.Q_PROG_POS.POS q).addr,
    (RDO.Q_PROG_TOTAL.TOTAL q).addr, (RDO.Q_STATE.PCT q).addr]

theorem State.showQueue_only (s : State) (q : Nat) : onlyRegs (queueShown q) s (s.showQueue q) := by
  have hstate : onlyRegs (queueShown q) s (if s.queueActive q then s.setF (RDO.Q_STATE.STATE q) (s.activeState q) else s) := by
    split
    · exact onlyRegs_setF _ s _ _ (by simp [queueShown])
    · exact onlyRegs_refl _ s
  have hprog : ∀ (u : State) (pos total pct : Nat), onlyRegs (queueShown q) s u → onlyRegs (queueShown q) s
      (((u.setF (RDO.Q_PROG_POS.POS q) pos).setF (RDO.Q_PROG_TOTAL.TOTAL q) total).setF (RDO.Q_STATE.PCT q) pct) := fun u _ _ _ h =>
    ((h.setF (by simp [queueShown])).setF (by simp [queueShown])).setF (by simp [queueShown])
  have hmid : ∀ (u : State) (flush full dev : Bool) (level cur : Nat), onlyRegs (queueShown q) s u → onlyRegs (queueShown q) s
      ((((((u.setB (RDO.Q_STATE.FLUSHING q) flush).setB (RDO.Q_CMD.FLUSH q) flush).setB (RDO.Q_STATE.RING_FULL q) full).setF
        (RDO.Q_LEVEL.LEVEL q) level).setF (RDO.Q_CUR_LO.ADDR q) cur).setB (RDO.Q_CUR_LO.DEV q) dev) := fun u _ _ _ _ _ h =>
    (((((h.setB (by simp [queueShown])).setB (by simp [queueShown])).setB (by simp [queueShown])).setF
      (by simp [queueShown])).setF (by simp [queueShown])).setB (by simp [queueShown])
  unfold State.showQueue
  dsimp only
  split
  · exact hprog _ _ _ _ (hmid _ _ _ _ _ _ hstate)
  · split
    · exact hprog _ _ _ _ (hmid _ _ _ _ _ _ hstate)
    · exact hmid _ _ _ _ _ _ hstate

/-- A queue is shown in block 11, at Q_LEVEL and above: behind the registers that bind it. -/
theorem queueShown_place {q a : Nat} (hq : q < 512) (h : a ∈ queueShown q) : 8 * (0xB0020 + 64 * q) ≤ a ∧ a / 524288 = 11 := by
  simp only [queueShown, RDO.Q_STATE.STATE, RDO.Q_STATE.FLUSHING, RDO.Q_CMD.FLUSH, RDO.Q_STATE.RING_FULL, RDO.Q_LEVEL.LEVEL,
    RDO.Q_CUR_LO.ADDR, RDO.Q_CUR_LO.DEV, RDO.Q_PROG_POS.POS, RDO.Q_PROG_TOTAL.TOTAL, RDO.Q_STATE.PCT, List.mem_cons,
    List.not_mem_nil, or_false] at h
  omega

/-! ### Refused and accepted -/

section
variable {s : State} {q off : Nat}

/-- A refused command of a queue: RDO.RESULT shows it, the notice is raised, nothing else changes (R301). -/
theorem State.rdoRefuse_reports (hq : q < 512) {r : Nat} (hr : r < 16) :
    ((s.rdoRefuse q r).raise 200 r 0 q 0).fld RDO.RESULT.RESULT = r ∧ ((s.rdoRefuse q r).raise 200 r 0 q 0).fld RDO.RESULT.QUEUE = q ∧
      reported 200 r 0 q ((s.rdoRefuse q r).raise 200 r 0 q 0) ∧
      onlyReports [RDO.RESULT.RESULT.addr, RDO.RESULT.QUEUE.addr] s ((s.rdoRefuse q r).raise 200 r 0 q 0) := by
  have honly := fun A => State.raise_only A (s.rdoRefuse q r) 200 r 0 q 0 (by decide)
  have hregs : onlyRegs [RDO.RESULT.RESULT.addr, RDO.RESULT.QUEUE.addr] s (s.rdoRefuse q r) :=
    ((onlyRegs_refl _ s).setF (by simp)).setF (by simp)
  refine ⟨?_, ?_, State.raise_reported _ 200 r 0 q 0 (by decide) (by decide) (by omega) (by decide) (by omega),
    onlyReports_trans (onlyReports_of_onlyRegs hregs) (honly _)⟩
  · rw [(honly []).1 _ (by simp) (by decide)]
    exact (State.fld_setF_same _ _ _).trans (Nat.mod_eq_of_lt hr)
  · rw [(honly []).1 _ (by simp) (by decide)]
    exact (State.fld_setF_ne _ _ _ _ (by decide)).trans ((State.fld_setF_same _ _ _).trans (Nat.mod_eq_of_lt hq))

section
variable (act : State → State)

theorem State.bind_barred (hs : s.served off = true) (hq : q < 512) (ok : Bool) {r : Nat}
    (hr : (r = 1 ∧ s.queueState q ≠ queueIdle) ∨ (r = 2 ∧ s.queueState q = queueIdle ∧ s.bit (RDO.Q_GUAR.LOCKED q) = true)) :
    s.bind_ q off ok act = (s.rdoRefuse q r).raise 200 r 0 q 0 := by
  rcases hr with ⟨rfl, hbusy⟩ | ⟨rfl, hidle, hlocked⟩
  · simp [State.bind_, hs, hq, hbusy]
  · simp [State.bind_, hs, hq, hidle, hlocked]

variable (hs : s.served off = true) (hq : q < 512) (hidle : s.queueState q = queueIdle) (hfree : s.bit (RDO.Q_GUAR.LOCKED q) = false)
include hs hq hidle hfree

theorem State.bind_outOfRange : s.bind_ q off false act = (s.rdoRefuse q 3).raise 200 3 0 q 0 := by
  simp [State.bind_, hs, hq, hidle, hfree]

theorem State.bind_accepted : s.bind_ q off true act = ((act s).showQueue q).rdoAccept := by
  simp [State.bind_, hs, hq, hidle, hfree]

end

/-- A binding write that is refused whatever its value: the queue is not IDLE, or it is locked. -/
theorem State.bind_bars (hq : q < 512) (ok : Bool) (act : State → State) (hs : s.served off = true) {r : Nat}
    (hr : (r = 1 ∧ s.queueState q ≠ queueIdle) ∨ (r = 2 ∧ s.queueState q = queueIdle ∧ s.bit (RDO.Q_GUAR.LOCKED q) = true)) :
    ∃ t, (.next (s.bind_ q off ok act) : Res) = .next t ∧ t.fld RDO.RESULT.RESULT = r ∧ t.fld RDO.RESULT.QUEUE = q ∧
      reported 200 r 0 q t ∧ onlyReports [RDO.RESULT.RESULT.addr, RDO.RESULT.QUEUE.addr] s t :=
  ⟨_, congrArg Host.Outcome.next (State.bind_barred act hs hq ok hr), State.rdoRefuse_reports hq (by omega)⟩

/-- What an accepted binding write leaves as it was: all but the fields of the readout blocks. -/
def boundOnly (s t : State) : Prop :=
  t.fld RDO.RESULT.RESULT = 0 ∧ (∀ g : Fld, g.addr / 524288 ≠ 10 → g.addr / 524288 ≠ 11 → t.fld g = s.fld g) ∧
    { t with regs := s.regs } = s

/-- The fields that bind a queue. -/
def bindingFlds (q : Nat) : List Fld :=
  [RDO.Q_CFG.SRC_KIND q, RDO.Q_CFG.SRC_ID q, RDO.Q_CFG.PRIO q, RDO.Q_CFG.VECTOR q, RDO.Q_PACE.HI_MARK q, RDO.Q_PACE.LO_MARK q,
    RDO.Q_PACE_TO.TICKS q, RDO.Q_CTL.RETRY_MAX q, RDO.Q_CTL.FIXED_WIN q, RDO.Q_CTL.SIZE q, RDO.Q_CTL.EP q, RDO.Q_HEAD_LO.DEV q,
    RDO.Q_HEAD_LO.ADDR q, RDO.Q_HEAD_HI.ADDR q, RDO.Q_COMP_BASE_LO.DEV q, RDO.Q_COMP_BASE_LO.ADDR q, RDO.Q_COMP_BASE_HI.ADDR q]

/-- They lie in block 11 below Q_LEVEL: where `queueShown` writes nothing. -/
theorem bindingFlds_place {g : Fld} (hq : q < 512) (h : g ∈ bindingFlds q) : g.addr < 8 * (0xB0020 + 64 * q) ∧ g.addr / 524288 = 11 := by
  have haddr := List.mem_map_of_mem (f := Fld.addr) h
  simp only [bindingFlds, List.map_cons, List.map_nil, RDO.Q_CFG.SRC_KIND, RDO.Q_CFG.SRC_ID, RDO.Q_CFG.PRIO, RDO.Q_CFG.VECTOR,
    RDO.Q_PACE.HI_MARK, RDO.Q_PACE.LO_MARK, RDO.Q_PACE_TO.TICKS, RDO.Q_CTL.RETRY_MAX, RDO.Q_CTL.FIXED_WIN, RDO.Q_CTL.SIZE,
    RDO.Q_CTL.EP, RDO.Q_HEAD_LO.DEV, RDO.Q_HEAD_LO.ADDR, RDO.Q_HEAD_HI.ADDR, RDO.Q_COMP_BASE_LO.DEV, RDO.Q_COMP_BASE_LO.ADDR,
    RDO.Q_COMP_BASE_HI.ADDR, List.mem_cons, List.not_mem_nil, or_false] at haddr
  omega

/-- An accepted write of binding fields: each holds its value, and nothing outside the readout blocks changes. -/
theorem State.accept_writes (hq : q < 512) {ws : List (Fld × Nat)} (hws : ∀ w ∈ ws, w.1 ∈ bindingFlds q)
    (hnd : (ws.map fun w => w.1.addr).Nodup) :
    boundOnly s ((s.setFs ws).showQueue q).rdoAccept ∧
      ∀ w ∈ ws, ((s.setFs ws).showQueue q).rdoAccept.fld w.1 = w.2 % 2 ^ w.1.width := by
  have hset : onlyRegs (ws.map fun w => w.1.addr) s (s.setFs ws) := onlyRegs_setFs s fun w hw => List.mem_map_of_mem hw
  have hplace : ∀ a ∈ ws.map (fun w => w.1.addr), a / 524288 = 11 := by
    intro a ha
    obtain ⟨w, hw, rfl⟩ := List.mem_map.mp ha
    exact (bindingFlds_place hq (hws w hw)).2
  have hshow := (s.setFs ws).showQueue_only q
  have haccept : ∀ g : Fld, g.addr / 524288 ≠ 10 →
      ((s.setFs ws).showQueue q).rdoAccept.fld g = ((s.setFs ws).showQueue q).fld g := fun g hg =>
    State.fld_setF_ne _ RDO.RESULT.RESULT g 0 fun h => hg (by rw [h]; rfl)
  refine ⟨⟨State.fld_setF_same _ _ _, fun g h10 h11 => ?_, ?_⟩, fun w hw => ?_⟩
  · rw [haccept g h10, hshow.1 g fun h => h11 (queueShown_place hq h).2, hset.1 g fun h => h11 (hplace _ h)]
  · exact (congrArg (fun v : State => { v with regs := s.regs }) hshow.2).trans hset.2
  · obtain ⟨hlow, hblock⟩ := bindingFlds_place hq (hws w hw)
    rw [haccept w.1 (by omega), hshow.1 w.1 fun h => absurd (queueShown_place hq h).1 (by omega), fld_setFs hnd s w hw]

/-- A binding write that is accepted, as the fields it writes. -/
theorem State.bind_binds (hs : s.served off = true) (hq : q < 512) (hidle : s.queueState q = queueIdle)
    (hfree : s.bit (RDO.Q_GUAR.LOCKED q) = false) (ws : List (Fld × Nat)) (hws : ∀ w ∈ ws, w.1 ∈ bindingFlds q)
    (hnd : (ws.map fun w => w.1.addr).Nodup) : ∃ t, (.next (s.bind_ q off true fun s => s.setFs ws) : Res) = .next t ∧
      boundOnly s t ∧ ∀ w ∈ ws, t.fld w.1 = w.2 % 2 ^ w.1.width :=
  ⟨_, congrArg Host.Outcome.next (State.bind_accepted (fun s => s.setFs ws) hs hq hidle hfree), State.accept_writes hq hws hnd⟩

/-- A binding write whose value is out of range. -/
theorem State.bind_refuses {act : State → State} (hs : s.served off = true) (hq : q < 512) (hidle : s.queueState q = queueIdle)
    (hfree : s.bit (RDO.Q_GUAR.LOCKED q) = false) {ok : Bool} (hok : ok = false) :
    ∃ t, (.next (s.bind_ q off ok act) : Res) = .next t ∧ t.fld RDO.RESULT.RESULT = 3 ∧ reported 200 3 0 q t ∧
      onlyReports [RDO.RESULT.RESULT.addr, RDO.RESULT.QUEUE.addr] s t := by
  obtain ⟨hres, -, hrep, honly⟩ := State.rdoRefuse_reports (s := s) hq (r := 3) (by decide)
  exact ⟨_, congrArg Host.Outcome.next (hok ▸ State.bind_outOfRange act hs hq hidle hfree), hres, hrep, honly⟩

end

/-! ### The registers -/

/-- A write of Q_CTL, as the range of its value and the fields it writes. -/
theorem exec_qCtlWrite (q v : Nat) (s : State) : exec (.qCtlWrite q v) s = .next (s.bind_ q (0xB000C + 64 * q)
    (decide (6 ≤ v / 2 ^ 4 % 2 ^ 4 ∧ v / 2 ^ 4 % 2 ^ 4 ≤ 12 ∧ 4 ≤ v / 2 ^ 8 % 2 ^ 5 ∧ v / 2 ^ 8 % 2 ^ 5 ≤ 16)) fun s =>
      s.setFs [(RDO.Q_CTL.RETRY_MAX q, v), (RDO.Q_CTL.FIXED_WIN q, v / 2 ^ 4 % 2 ^ 4), (RDO.Q_CTL.SIZE q, v / 2 ^ 8 % 2 ^ 5),
        (RDO.Q_CTL.EP q, v / 2 ^ 13)]) := rfl

section
variable {s : State} {q v : Nat} (hq : q < 512) (hidle : s.queueState q = queueIdle) (hfree : s.bit (RDO.Q_GUAR.LOCKED q) = false)
include hq hidle hfree

theorem exec_qCfgWrite_binds (hs : s.served (0xB0000 + 64 * q) = true) : ∃ t, exec (.qCfgWrite q v) s = .next t ∧
    t.fld (RDO.Q_CFG.SRC_KIND q) = v % 4 ∧ t.fld (RDO.Q_CFG.SRC_ID q) = v / 4 % 64 ∧ t.fld (RDO.Q_CFG.PRIO q) = v / 2 ^ 8 % 8 ∧
    t.fld (RDO.Q_CFG.VECTOR q) = v / 2 ^ 16 % 256 ∧ boundOnly s t := by
  obtain ⟨t, ht, hb, hf⟩ := State.bind_binds hs hq hidle hfree [(RDO.Q_CFG.SRC_KIND q, v), (RDO.Q_CFG.SRC_ID q, v / 4),
    (RDO.Q_CFG.PRIO q, v / 2 ^ 8), (RDO.Q_CFG.VECTOR q, v / 2 ^ 16)] (by simp [bindingFlds])
    (by simp [RDO.Q_CFG.SRC_KIND, RDO.Q_CFG.SRC_ID, RDO.Q_CFG.PRIO, RDO.Q_CFG.VECTOR])
  exact ⟨t, ht, hf (RDO.Q_CFG.SRC_KIND q, _) (by simp), hf (RDO.Q_CFG.SRC_ID q, _) (by simp), hf (RDO.Q_CFG.PRIO q, _) (by simp),
    hf (RDO.Q_CFG.VECTOR q, _) (by simp), hb⟩

theorem exec_qPaceWrite_binds (hv : v < 2 ^ 32) (hs : s.served (0xB0004 + 64 * q) = true) (hm : v / 2 ^ 16 < v % 2 ^ 16) :
    ∃ t, exec (.qPaceWrite q v) s = .next t ∧ t.fld (RDO.Q_PACE.HI_MARK q) = v % 2 ^ 16 ∧ t.fld (RDO.Q_PACE.LO_MARK q) = v / 2 ^ 16 ∧
      boundOnly s t := by
  have hlow : v / 2 ^ 16 % 2 ^ 16 = v / 2 ^ 16 := Nat.mod_eq_of_lt (by omega)
  obtain ⟨t, ht, hb, hf⟩ := State.bind_binds hs hq hidle hfree [(RDO.Q_PACE.HI_MARK q, v), (RDO.Q_PACE.LO_MARK q, v / 2 ^ 16)]
    (by simp [bindingFlds]) (by simp [RDO.Q_PACE.HI_MARK, RDO.Q_PACE.LO_MARK])
  refine ⟨t, ?_, hf (RDO.Q_PACE.HI_MARK q, _) (by simp), (hf (RDO.Q_PACE.LO_MARK q, _) (by simp)).trans hlow, hb⟩
  rw [← ht, ← decide_eq_true (hlow.symm ▸ hm : v / 2 ^ 16 % 2 ^ 16 < v % 2 ^ 16)]
  rfl

theorem exec_qPaceWrite_refuses (hv : v < 2 ^ 32) (hs : s.served (0xB0004 + 64 * q) = true) (hm : v % 2 ^ 16 ≤ v / 2 ^ 16) :
    ∃ t, exec (.qPaceWrite q v) s = .next t ∧ t.fld RDO.RESULT.RESULT = 3 ∧ reported 200 3 0 q t ∧
      onlyReports [RDO.RESULT.RESULT.addr, RDO.RESULT.QUEUE.addr] s t :=
  State.bind_refuses hs hq hidle hfree (decide_eq_false (by omega))

theorem exec_qPaceToWrite_binds (hv : v < 2 ^ 32) (hs : s.served (0xB0008 + 64 * q) = true) :
    ∃ t, exec (.qPaceToWrite q v) s = .next t ∧ t.fld (RDO.Q_PACE_TO.TICKS q) = v ∧ boundOnly s t := by
  obtain ⟨t, ht, hb, hf⟩ := State.bind_binds hs hq hidle hfree [(RDO.Q_PACE_TO.TICKS q, v)] (by simp [bindingFlds])
    (List.nodup_singleton _)
  exact ⟨t, ht, (hf (RDO.Q_PACE_TO.TICKS q, _) (by simp)).trans (Nat.mod_eq_of_lt hv), hb⟩

theorem exec_qCtlWrite_binds (hs : s.served (0xB000C + 64 * q) = true) (hr : 6 ≤ v / 2 ^ 4 % 2 ^ 4 ∧ v / 2 ^ 4 % 2 ^ 4 ≤ 12 ∧
      4 ≤ v / 2 ^ 8 % 2 ^ 5 ∧ v / 2 ^ 8 % 2 ^ 5 ≤ 16) : ∃ t, exec (.qCtlWrite q v) s = .next t ∧
    t.fld (RDO.Q_CTL.RETRY_MAX q) = v % 16 ∧ t.fld (RDO.Q_CTL.FIXED_WIN q) = v / 2 ^ 4 % 2 ^ 4 ∧
    t.fld (RDO.Q_CTL.SIZE q) = v / 2 ^ 8 % 2 ^ 5 ∧ t.fld (RDO.Q_CTL.EP q) = v / 2 ^ 13 % 2 ∧ boundOnly s t := by
  obtain ⟨t, ht, hb, hf⟩ := State.bind_binds hs hq hidle hfree [(RDO.Q_CTL.RETRY_MAX q, v), (RDO.Q_CTL.FIXED_WIN q, v / 2 ^ 4 % 2 ^ 4),
    (RDO.Q_CTL.SIZE q, v / 2 ^ 8 % 2 ^ 5), (RDO.Q_CTL.EP q, v / 2 ^ 13)] (by simp [bindingFlds])
    (by simp [RDO.Q_CTL.RETRY_MAX, RDO.Q_CTL.FIXED_WIN, RDO.Q_CTL.SIZE, RDO.Q_CTL.EP])
  refine ⟨t, ?_, hf (RDO.Q_CTL.RETRY_MAX q, _) (by simp), (hf (RDO.Q_CTL.FIXED_WIN q, _) (by simp)).trans (Nat.mod_mod _ _),
    (hf (RDO.Q_CTL.SIZE q, _) (by simp)).trans (Nat.mod_mod _ _), hf (RDO.Q_CTL.EP q, _) (by simp), hb⟩
  rw [exec_qCtlWrite, decide_eq_true hr, ht]

theorem exec_qCtlWrite_refuses (hs : s.served (0xB000C + 64 * q) = true) (hr : v / 2 ^ 4 % 2 ^ 4 < 6 ∨ 12 < v / 2 ^ 4 % 2 ^ 4 ∨
      v / 2 ^ 8 % 2 ^ 5 < 4 ∨ 16 < v / 2 ^ 8 % 2 ^ 5) : ∃ t, exec (.qCtlWrite q v) s = .next t ∧ t.fld RDO.RESULT.RESULT = 3 ∧
    reported 200 3 0 q t ∧ onlyReports [RDO.RESULT.RESULT.addr, RDO.RESULT.QUEUE.addr] s t := by
  rw [exec_qCtlWrite]
  exact State.bind_refuses hs hq hidle hfree (decide_eq_false (by omega))

theorem exec_qHeadWrite_low_binds (hv : v < 2 ^ 32) (hs : s.served (0xB0010 + 64 * q) = true) :
    ∃ t, exec (.qHeadWrite q false v) s = .next t ∧ t.fld (RDO.Q_HEAD_LO.ADDR q) = v / 32 ∧ t.fld (RDO.Q_HEAD_LO.DEV q) = v % 2 ∧
      boundOnly s t := by
  obtain ⟨t, ht, hb, hf⟩ := State.bind_binds hs hq hidle hfree [(RDO.Q_HEAD_LO.DEV q, v), (RDO.Q_HEAD_LO.ADDR q, v / 32)]
    (by simp [bindingFlds]) (by simp [RDO.Q_HEAD_LO.DEV, RDO.Q_HEAD_LO.ADDR])
  exact ⟨t, ht, (hf (RDO.Q_HEAD_LO.ADDR q, _) (by simp)).trans (Nat.mod_eq_of_lt (show v / 32 < 2 ^ 27 by omega)),
    hf (RDO.Q_HEAD_LO.DEV q, _) (by simp), hb⟩

theorem exec_qHeadWrite_high_binds (hv : v < 2 ^ 32) (hs : s.served (0xB0014 + 64 * q) = true) :
    ∃ t, exec (.qHeadWrite q true v) s = .next t ∧ t.fld (RDO.Q_HEAD_HI.ADDR q) = v ∧ boundOnly s t := by
  obtain ⟨t, ht, hb, hf⟩ := State.bind_binds (off := 0xB0010 + 64 * q + 4) (by rwa [Nat.add_right_comm]) hq hidle hfree
    [(RDO.Q_HEAD_HI.ADDR q, v)] (by simp [bindingFlds]) (List.nodup_singleton _)
  exact ⟨t, ht, (hf (RDO.Q_HEAD_HI.ADDR q, _) (by simp)).trans (Nat.mod_eq_of_lt hv), hb⟩

theorem exec_qCompBaseWrite_low_binds (hv : v < 2 ^ 32) (hs : s.served (0xB0018 + 64 * q) = true) :
    ∃ t, exec (.qCompBaseWrite q false v) s = .next t ∧ t.fld (RDO.Q_COMP_BASE_LO.ADDR q) = v / 4096 ∧
      t.fld (RDO.Q_COMP_BASE_LO.DEV q) = v % 2 ∧ boundOnly s t := by
  obtain ⟨t, ht, hb, hf⟩ := State.bind_binds hs hq hidle hfree [(RDO.Q_COMP_BASE_LO.DEV q, v), (RDO.Q_COMP_BASE_LO.ADDR q, v / 4096)]
    (by simp [bindingFlds]) (by simp [RDO.Q_COMP_BASE_LO.DEV, RDO.Q_COMP_BASE_LO.ADDR])
  exact ⟨t, ht, (hf (RDO.Q_COMP_BASE_LO.ADDR q, _) (by simp)).trans (Nat.mod_eq_of_lt (show v / 4096 < 2 ^ 20 by omega)),
    hf (RDO.Q_COMP_BASE_LO.DEV q, _) (by simp), hb⟩

theorem exec_qCompBaseWrite_high_binds (hv : v < 2 ^ 32) (hs : s.served (0xB001C + 64 * q) = true) :
    ∃ t, exec (.qCompBaseWrite q true v) s = .next t ∧ t.fld (RDO.Q_COMP_BASE_HI.ADDR q) = v ∧ boundOnly s t := by
  obtain ⟨t, ht, hb, hf⟩ := State.bind_binds (off := 0xB0018 + 64 * q + 4) (by rwa [Nat.add_right_comm]) hq hidle hfree
    [(RDO.Q_COMP_BASE_HI.ADDR q, v)] (by simp [bindingFlds]) (List.nodup_singleton _)
  exact ⟨t, ht, (hf (RDO.Q_COMP_BASE_HI.ADDR q, _) (by simp)).trans (Nat.mod_eq_of_lt hv), hb⟩

end

/-- Settles O41: every write goes through `State.bind_`, which is barred, out of range or accepted; the accepted fields lie apart from
those at which the queue is shown. -/
theorem bindingsChangeOnlyWhileIdle : Obligations.BindingsChangeOnlyWhileIdle := by
  intro s q v hi hq hv
  refine ⟨fun e he hs r hr => ?_, fun hidle hfree => ⟨_, rfl, exec_qCfgWrite_binds hq hidle hfree,
    fun hs => ⟨exec_qPaceWrite_binds hq hidle hfree hv hs, exec_qPaceWrite_refuses hq hidle hfree hv hs⟩,
    exec_qPaceToWrite_binds hq hidle hfree hv, fun hs hw hw' hz hz' => exec_qCtlWrite_binds hq hidle hfree hs ⟨hw, hw', hz, hz'⟩,
    exec_qCtlWrite_refuses hq hidle hfree, exec_qHeadWrite_low_binds hq hidle hfree hv, exec_qHeadWrite_high_binds hq hidle hfree hv,
    exec_qCompBaseWrite_low_binds hq hidle hfree hv, exec_qCompBaseWrite_high_binds hq hidle hfree hv⟩⟩
  simp only [List.mem_cons, List.not_mem_nil, or_false] at he
  rcases he with rfl | rfl | rfl | rfl | rfl | rfl
  · exact State.bind_bars hq _ _ hs hr
  · exact State.bind_bars hq _ _ hs hr
  · exact State.bind_bars hq _ _ hs hr
  · exact exec_qCtlWrite q v s ▸ State.bind_bars hq _ _ hs hr
  · exact State.bind_bars hq _ _ (Nat.add_right_comm _ _ _ ▸ hs) hr
  · exact State.bind_bars hq _ _ (Nat.add_right_comm _ _ _ ▸ hs) hr

end Sys2Proof.Machine
end

section
/-!
SUPPORT. Plan commands (R16, R26, R28, R29, R48, R152, R159): what asking shows, what an answer shows, which command does what; the
requests waiting for admission, decided from the head.
-/

namespace Sys2Proof.Machine

/-! ### Asking and answering (ACQ.PLAN_RESULT) -/

section
variable (s : State) (p op : Nat)

/-- A request of the host's is shown: its plan, its OP, and not BUSY. -/
def State.showAsked : State := ((s.setF ACQ.PLAN_RESULT.PLAN p).setF ACQ.PLAN_RESULT.OP op).setF ACQ.PLAN_RESULT.BUSY 0

theorem State.showAsked_only :
    onlyRegs [ACQ.PLAN_RESULT.PLAN.addr, ACQ.PLAN_RESULT.OP.addr, ACQ.PLAN_RESULT.BUSY.addr] s (s.showAsked p op) :=
  (((onlyRegs_refl _ s).setF (by simp)).setF (by simp)).setF (by simp)

variable {p op} in
theorem State.showAsked_shows (hp : p < 64) (ho : op < 8) : (s.showAsked p op).fld ACQ.PLAN_RESULT.PLAN = p ∧
    (s.showAsked p op).fld ACQ.PLAN_RESULT.OP = op ∧ (s.showAsked p op).fld ACQ.PLAN_RESULT.BUSY = 0 := by
  refine ⟨?_, ?_, State.fld_setF_same _ _ _⟩
  · rw [State.showAsked, State.fld_setF_ne _ _ _ _ (by decide), State.fld_setF_ne _ _ _ _ (by decide)]
    exact (State.fld_setF_same _ _ _).trans (Nat.mod_eq_of_lt hp)
  · rw [State.showAsked, State.fld_setF_ne _ _ _ _ (by decide)]
    exact (State.fld_setF_same _ _ _).trans (Nat.mod_eq_of_lt ho)

theorem State.showAsked_active : (s.showAsked p op).active = s.active := by
  have hmode : (s.showAsked p op).mode = s.mode := (s.showAsked_only p op).1 DEV.MODE.MODE (by decide)
  simp only [State.active, State.running, hmode]
  rfl

theorem State.hostAsk_eq : s.hostAsk p op =
    if s.active then (true, s.showAsked p op) else (false, (s.showAsked p op).setF ACQ.PLAN_RESULT.RESULT 9) := by
  rw [← s.showAsked_active p op]
  rfl

/-- An answer to the request that is shown: RESULT and BUSY, and nothing else. -/
theorem State.answerHost_answers {plan op result : Nat} (hp : s.fld ACQ.PLAN_RESULT.PLAN = plan) (ho : s.fld ACQ.PLAN_RESULT.OP = op)
    (hr : result < 16) : (s.answerHost plan op result).fld ACQ.PLAN_RESULT.RESULT = result ∧
      (s.answerHost plan op result).fld ACQ.PLAN_RESULT.BUSY = 0 ∧
      onlyRegs [ACQ.PLAN_RESULT.RESULT.addr, ACQ.PLAN_RESULT.BUSY.addr] s (s.answerHost plan op result) := by
  rw [State.answerHost, if_pos ⟨hp, ho⟩]
  refine ⟨(State.fld_setF_same _ _ _).trans (Nat.mod_eq_of_lt hr), ?_, ((onlyRegs_refl _ s).setF (by simp)).setF (by simp)⟩
  rw [State.fld_setF_ne _ _ _ _ (by decide)]
  exact State.fld_setF_same _ _ _

/-- `t` is `s` with the host's request answered: its plan, its OP, its code, and not BUSY. -/
structure PlanAnswered (s : State) (p op code : Nat) (t : State) : Prop where
  result : t.fld ACQ.PLAN_RESULT.RESULT = code
  plan : t.fld ACQ.PLAN_RESULT.PLAN = p
  op : t.fld ACQ.PLAN_RESULT.OP = op
  busy : t.fld ACQ.PLAN_RESULT.BUSY = 0
  only : onlyRegs [ACQ.PLAN_RESULT.RESULT.addr, ACQ.PLAN_RESULT.PLAN.addr, ACQ.PLAN_RESULT.OP.addr, ACQ.PLAN_RESULT.BUSY.addr] s t

variable {p op} in
/-- The code put beside a request that is shown, which is not made BUSY. -/
theorem PlanAnswered.of_shown {code : Nat} {t : State} (hp : p < 64) (ho : op < 8) (hr : t.fld ACQ.PLAN_RESULT.RESULT = code)
    (hb : t.fld ACQ.PLAN_RESULT.BUSY = 0)
    (ht : onlyRegs [ACQ.PLAN_RESULT.RESULT.addr, ACQ.PLAN_RESULT.BUSY.addr] (s.showAsked p op) t) : PlanAnswered s p op code t := by
  obtain ⟨hplan, hop, -⟩ := s.showAsked_shows hp ho
  exact ⟨hr, (ht.1 _ (by decide)).trans hplan, (ht.1 _ (by decide)).trans hop, hb,
    onlyRegs_trans ((s.showAsked_only p op).weaken (by simp)) (ht.weaken (by simp))⟩

variable {p op} in
theorem State.showAsked_refused (hp : p < 64) (ho : op < 8) :
    PlanAnswered s p op 9 ((s.showAsked p op).setF ACQ.PLAN_RESULT.RESULT 9) :=
  .of_shown s hp ho (State.fld_setF_same _ _ _) ((State.fld_setF_ne _ _ _ _ (by decide)).trans (s.showAsked_shows hp ho).2.2)
    (onlyRegs_setF _ _ _ _ (by simp))

variable {p op} in
theorem State.showAsked_answered (hp : p < 64) (ho : op < 8) {code : Nat} (hc : code < 16) :
    PlanAnswered s p op code ((s.showAsked p op).answerHost p op code) := by
  obtain ⟨hplan, hop, -⟩ := s.showAsked_shows hp ho
  obtain ⟨hr, hb, honly⟩ := (s.showAsked p op).answerHost_answers hplan hop hc
  exact .of_shown s hp ho hr hb honly

end

/-! ### What refuses a command -/

section
variable {s : State} {p c : Nat}

theorem State.armBar_lt (h : s.armBar p = some c) : c < 16 := by
  unfold State.armBar at h
  repeat' split at h
  all_goals cases h <;> decide

theorem State.disarmBar_lt (h : s.disarmBar p = some c) : c < 16 := by
  unfold State.disarmBar at h
  repeat' split at h
  all_goals cases h <;> decide

theorem State.activationBar_lt (h : s.activationBar p = some c) : c < 16 := by
  unfold State.activationBar at h
  split at h
  · cases h
    decide
  · repeat' split at h
    all_goals cases h <;> decide

theorem State.bars_of_noPlan (h : s.planOf p = none) : s.armBar p = some 6 ∧ s.disarmBar p = some 6 := by
  simp [State.armBar, State.disarmBar, h]

theorem State.bars_of_inactive (hp : s.planOf p ≠ none) (h : s.slotOfPlan p = none) :
    s.armBar p = some 5 ∧ s.disarmBar p = some 5 := by
  obtain ⟨pl, hpl⟩ := Option.ne_none_iff_exists'.mp hp
  simp [State.armBar, State.disarmBar, hpl, h]

end

/-! ### Reservations of an arm: what they depend on -/

theorem State.showChan_acq (s : State) (c : Nat) : (s.showChan c).acq = s.acq := by
  unfold State.showChan
  split
  · rfl
  · split <;> rfl

theorem State.codResult_acq (s : State) (c field r : Nat) : (s.codResult c field r).acq = s.acq := by
  unfold State.codResult
  dsimp only
  split
  · rfl
  · exact (State.raise_only [] _ 7 r c 0 0 (by decide)).acq_eq

/-- A walk whose every step depends on the acquisition state alone, as far as that state goes. -/
theorem foldl_acq_congr {α : Type} {f : State → α → State} (hf : ∀ s u x, u.acq = s.acq → (f u x).acq = (f s x).acq) :
    ∀ (l : List α) {s u : State}, u.acq = s.acq → (l.foldl f u).acq = (l.foldl f s).acq
  | [], _, _, h => h
  | x :: l, _, _, h => foldl_acq_congr hf l (hf _ _ x h)

section
variable {s u : State} (hacq : u.acq = s.acq) (hnow : u.now = s.now)
include hacq hnow

theorem State.refuseWrites_acq_congr (p : Nat) : (u.refuseWrites p).acq = (s.refuseWrites p).acq := by
  have hl : u.writesNow p true = s.writesNow p true := by simp only [State.writesNow, hacq, hnow]
  unfold State.refuseWrites
  dsimp only
  rw [hl]
  refine foldl_acq_congr (fun v w x h => ?_) _ (foldl_acq_congr (fun v w x h => ?_) _ ?_)
  · rw [State.codResult_acq, State.codResult_acq, h]
  · have hplan : w.planOf p = v.planOf p := by simp only [State.planOf, h]
    rw [hplan]
    split
    · exact h
    · simp only [State.showChan_acq, State.putPlan, h]
  · split <;> split <;> simp [hacq]

theorem State.armPlan_congr (pl : Plan) : u.armPlan pl = s.armPlan pl := by
  simp only [State.armPlan, State.planOf, State.refuseWrites_acq_congr hacq hnow]

theorem State.armGrows_congr (hmem : u.mem = s.mem) (hmode : u.fld CNV.LAYOUT.MODE = s.fld CNV.LAYOUT.MODE)
    (hjoin : u.fld CNV.LAYOUT.JOIN = s.fld CNV.LAYOUT.JOIN) (k : Nat) (pl : Plan) : u.armGrows k pl = s.armGrows k pl := by
  have hlanes : ∀ c, u.lanes c = s.lanes c := fun c => by
    unfold State.lanes State.chanGroups State.trunk
    rw [hmode, hjoin]
  simp only [State.armGrows, State.laneResv, State.heldLanes, State.armPlan_congr hacq hnow, hlanes, hmem]

end

theorem State.showAsked_armGrows (s : State) (p op k : Nat) (pl : Plan) : (s.showAsked p op).armGrows k pl = s.armGrows k pl := by
  have hfld := (s.showAsked_only p op).1
  have hmode := hfld CNV.LAYOUT.MODE (by decide)
  have hjoin := hfld CNV.LAYOUT.JOIN (by decide)
  have hacq : (s.showAsked p op).acq = s.acq := rfl
  have hnow : (s.showAsked p op).now = s.now := rfl
  have hmem : (s.showAsked p op).mem = s.mem := rfl
  exact State.armGrows_congr hacq hnow hmem hmode hjoin k pl

/-! ### The commands -/

section
variable {s : State} {p : Nat} (hs : s.served planCmdAddr = true) (hp : p < 64)
include hs hp

theorem effPlanCmds_inactive (ha : s.active = false) :
    effPlanActivate p s = (s.showAsked p 1).setF ACQ.PLAN_RESULT.RESULT 9 ∧
    effPlanDeactivate p s = (s.showAsked p 2).setF ACQ.PLAN_RESULT.RESULT 9 ∧
    effPlanArm p s = (s.showAsked p 3).setF ACQ.PLAN_RESULT.RESULT 9 ∧
    effPlanDisarm p s = (s.showAsked p 4).setF ACQ.PLAN_RESULT.RESULT 9 := by
  simp [effPlanActivate, effPlanDeactivate, effPlanArm, effPlanDisarm, hs, hp, State.hostAsk_eq, ha]

variable (ha : s.active = true)
include ha

theorem effPlanActivate_active : effPlanActivate p s =
    ((s.showAsked p 1).setF ACQ.PLAN_RESULT.BUSY 1).submit { kind := 0, id := p, origin := 1, entry := 0, val := 0 } := by
  simp [effPlanActivate, hs, hp, State.hostAsk_eq, ha]

theorem effPlanArm_barred {c : Nat} (hb : s.armBar p = some c) : effPlanArm p s = (s.showAsked p 3).answerHost p 3 c := by
  have hb' : (s.showAsked p 3).armBar p = some c := hb
  simp [effPlanArm, hs, hp, State.hostAsk_eq, ha, State.askArm, hb']

section
variable {pl : Plan} {k : Nat} (hpl : s.planOf p = some pl) (hk : s.slotOfPlan p = some k) (hb : s.armBar p = none)
include hpl hk hb

theorem effPlanArm_made (hg : s.armGrows k pl = false) : effPlanArm p s =
    ((s.showAsked p 3).doArm k pl false).2.answerHost p 3 ((s.showAsked p 3).doArm k pl false).1 := by
  have hb' : (s.showAsked p 3).armBar p = none := hb
  have hpl' : (s.showAsked p 3).planOf p = some pl := hpl
  have hk' : (s.showAsked p 3).slotOfPlan p = some k := hk
  simp [effPlanArm, hs, hp, State.hostAsk_eq, ha, State.askArm, hb', hpl', hk', State.showAsked_armGrows, hg]

theorem effPlanArm_waits (hg : s.armGrows k pl = true) : effPlanArm p s =
    ((s.showAsked p 3).submit { kind := 7, id := p, origin := 1, entry := 0, val := 0 }).setF ACQ.PLAN_RESULT.BUSY 1 := by
  have hb' : (s.showAsked p 3).armBar p = none := hb
  have hpl' : (s.showAsked p 3).planOf p = some pl := hpl
  have hk' : (s.showAsked p 3).slotOfPlan p = some k := hk
  simp [effPlanArm, hs, hp, State.hostAsk_eq, ha, State.askArm, hb', hpl', hk', State.showAsked_armGrows, hg]

end

theorem effPlanDisarm_barred {c : Nat} (hb : s.disarmBar p = some c) : effPlanDisarm p s = (s.showAsked p 4).answerHost p 4 c := by
  have hb' : (s.showAsked p 4).disarmBar p = some c := hb
  simp [effPlanDisarm, hs, hp, State.hostAsk_eq, ha, hb']

theorem effPlanDisarm_made (hb : s.disarmBar p = none) :
    effPlanDisarm p s = ((s.showAsked p 4).disarmPlan p).answerHost p 4 0 := by
  have hb' : (s.showAsked p 4).disarmBar p = none := hb
  simp [effPlanDisarm, hs, hp, State.hostAsk_eq, ha, hb']

theorem effPlanDeactivate_noPlan (hpl : s.planOf p = none) : effPlanDeactivate p s = (s.showAsked p 2).answerHost p 2 6 := by
  have hpl' : (s.showAsked p 2).planOf p = none := hpl
  simp [effPlanDeactivate, hs, hp, State.hostAsk_eq, ha, hpl']

section
variable (hpl : s.planOf p ≠ none)
include hpl

theorem effPlanDeactivate_inactive (hk : s.slotOfPlan p = none) (hr : s.mem.reqs = []) :
    effPlanDeactivate p s = (s.showAsked p 2).answerHost p 2 5 := by
  have hpl' : (s.showAsked p 2).planOf p ≠ none := hpl
  have hk' : (s.showAsked p 2).slotOfPlan p = none := hk
  have hr' : (s.showAsked p 2).mem.reqs = [] := hr
  simp [effPlanDeactivate, hs, hp, State.hostAsk_eq, ha, hpl', hk', hr']

theorem effPlanDeactivate_waits (hr : s.mem.reqs ≠ []) : effPlanDeactivate p s =
    ((s.showAsked p 2).setF ACQ.PLAN_RESULT.BUSY 1).submit { kind := 6, id := p, origin := 1, entry := 0, val := 0 } := by
  have hpl' : (s.showAsked p 2).planOf p ≠ none := hpl
  have hr' : (s.showAsked p 2).mem.reqs ≠ [] := hr
  simp [effPlanDeactivate, hs, hp, State.hostAsk_eq, ha, hpl', hr']

theorem effPlanDeactivate_starts (hk : s.slotOfPlan p ≠ none) (hr : s.mem.reqs = []) : effPlanDeactivate p s = State.startLeaving
    (((s.showAsked p 2).setF ACQ.PLAN_RESULT.BUSY 1).submit { kind := 6, id := p, origin := 1, entry := 0, val := 0 }) p := by
  have hpl' : (s.showAsked p 2).planOf p ≠ none := hpl
  have hk' : (s.showAsked p 2).slotOfPlan p ≠ none := hk
  have hr' : (s.showAsked p 2).mem.reqs = [] := hr
  simp [effPlanDeactivate, hs, hp, State.hostAsk_eq, ha, hpl', hk', hr']

end

end

/-! ### The requests waiting (R28, R257) -/

theorem exec_admission (s : State) : exec .admission s = .next s.decideHead.dormantNext := rfl

theorem State.dormantNext_notDue {s : State} (h : s.dev.dormantDue = false) : s.dormantNext = s := by simp [State.dormantNext, h]

theorem State.decideHead_idle {s : State} (h : s.running = false ∨ s.mem.reqs = []) : s.decideHead = s := by
  rcases h with h | h
  · simp [State.decideHead, h]
  · simp [State.decideHead, h]

section
variable {s : State} {r : AdmReq}

theorem State.answer_host (t : State) (h : r.origin = 1) (op code : Nat) : t.answer r op code = t.answerHost r.id op code := by
  simp [State.answer, h]

theorem State.answer_nobody (t : State) (h : r.origin = 0) (op code : Nat) : t.answer r op code = t := by simp [State.answer, h]

theorem State.decideActivation_barred {c : Nat} (hb : s.activationBar r.id = some c) :
    s.decideActivation r = (if c = 2 then s.popReq.raise 2 0 r.id 0 0 else s.popReq).answer r 1 c := by
  simp [State.decideActivation, hb]

/-- What is `s` but for `A`, after its head has left, is `s` but for `A` and the requests. -/
theorem onlyRegs.of_popReq {A : List Nat} {t : State} (h : onlyRegs A s.popReq t) : onlyRegs A s { t with mem := s.mem } :=
  ⟨h.1, (congrArg (fun u : State => { u with mem := s.mem }) h.2 : _)⟩

theorem onlyReports.of_popReq {A : List Nat} {t : State} (h : onlyReports A s.popReq t) : onlyReports A s { t with mem := s.mem } :=
  ⟨h.1, (congrArg (fun u : State => { u with mem := s.mem }) h.2 : _)⟩

variable {rest : List AdmReq} (hq : s.mem.reqs = r :: rest)
include hq

/-- The head decided, by its kind. -/
theorem State.decideHead_kinds (hrun : s.running = true) :
    (r.kind = 0 → s.decideHead = s.decideActivation r) ∧ (r.kind = 1 → s.decideHead = s.decideGrant r) ∧
    (r.kind = 2 → s.decideHead = s.decideDisplay) ∧ (r.kind = 3 → s.decideHead = s.decideComposer) ∧
    (r.kind = 4 → s.decideHead = s.decideGuarantee r) ∧ (r.kind = 6 → s.decideHead = s.decideLeave r) ∧
    (r.kind = 7 → s.decideHead = s.decideArm r) := by
  refine ⟨fun hk => ?_, fun hk => ?_, fun hk => ?_, fun hk => ?_, fun hk => ?_, fun hk => ?_, fun hk => ?_⟩
  all_goals simp [State.decideHead, hrun, hq, hk]

theorem State.popReq_reqs : s.popReq.mem.reqs = rest := congrArg List.tail hq

/-- The host's activation, refused before admission with a code that raises no notice. -/
theorem State.decideActivation_answers {c : Nat} (ho : r.origin = 1) (hb : s.activationBar r.id = some c) (hc : c ≠ 2)
    (hplan : s.fld ACQ.PLAN_RESULT.PLAN = r.id) (hop : s.fld ACQ.PLAN_RESULT.OP = 1) :
    (s.decideActivation r).mem.reqs = rest ∧ (s.decideActivation r).fld ACQ.PLAN_RESULT.RESULT = c ∧
      (s.decideActivation r).fld ACQ.PLAN_RESULT.BUSY = 0 ∧
      onlyRegs [ACQ.PLAN_RESULT.RESULT.addr, ACQ.PLAN_RESULT.BUSY.addr] s { s.decideActivation r with mem := s.mem } := by
  have heq : s.decideActivation r = s.popReq.answerHost r.id 1 c := by
    rw [State.decideActivation_barred hb, if_neg hc, State.answer_host _ ho]
  obtain ⟨hres, hbusy, honly⟩ := s.popReq.answerHost_answers hplan hop (State.activationBar_lt hb)
  rw [heq]
  exact ⟨honly.mem_eq ▸ State.popReq_reqs hq, hres, hbusy, honly.of_popReq⟩

/-- An activation of a plan one of whose channels is held, asked for by nobody who is told: the admission-refused notice (R16). -/
theorem State.decideActivation_raises (ho : r.origin = 0) (hb : s.activationBar r.id = some 2) (hid : r.id < 256) :
    (s.decideActivation r).mem.reqs = rest ∧ reported 2 0 r.id 0 (s.decideActivation r) ∧
      onlyReports [] s { s.decideActivation r with mem := s.mem } := by
  have heq : s.decideActivation r = s.popReq.raise 2 0 r.id 0 0 := by
    rw [State.decideActivation_barred hb, if_pos rfl, State.answer_nobody _ ho]
  have honly := State.raise_only [] s.popReq 2 0 r.id 0 0 (by decide)
  rw [heq]
  exact ⟨honly.mem_eq ▸ State.popReq_reqs hq, State.raise_reported _ 2 0 r.id 0 0 (by decide) (by decide) (by decide) hid (by decide),
    honly.of_popReq⟩

end

/-! ### The commands and the requests together -/

section
variable {s : State} {p : Nat} (hs : s.served planCmdAddr = true) (hp : p < 64)
include hs hp

theorem planCmds_refused (ha : s.active = false) :
    ∀ e ∈ [(1, Instr.planActivate p), (2, .planDeactivate p), (3, .planArm p), (4, .planDisarm p)],
      ∃ t, exec e.2 s = .next t ∧ PlanAnswered s p e.1 9 t := by
  obtain ⟨hact, hdeact, harm, hdisarm⟩ := effPlanCmds_inactive hs hp ha
  intro e he
  simp only [List.mem_cons, List.not_mem_nil, or_false] at he
  rcases he with rfl | rfl | rfl | rfl
  · exact ⟨_, congrArg Host.Outcome.next hact, s.showAsked_refused hp (by simp)⟩
  · exact ⟨_, congrArg Host.Outcome.next hdeact, s.showAsked_refused hp (by simp)⟩
  · exact ⟨_, congrArg Host.Outcome.next harm, s.showAsked_refused hp (by simp)⟩
  · exact ⟨_, congrArg Host.Outcome.next hdisarm, s.showAsked_refused hp (by simp)⟩

variable (ha : s.active = true)
include ha

theorem planActivate_waits : ∃ t, exec (.planActivate p) s = .next t ∧ t.fld ACQ.PLAN_RESULT.BUSY = 1 ∧
    t.fld ACQ.PLAN_RESULT.PLAN = p ∧ t.fld ACQ.PLAN_RESULT.OP = 1 ∧
    t.mem.reqs = s.mem.reqs ++ [{ kind := 0, id := p, origin := 1, entry := 0, val := 0 }] ∧
    onlyRegs [ACQ.PLAN_RESULT.PLAN.addr, ACQ.PLAN_RESULT.OP.addr, ACQ.PLAN_RESULT.BUSY.addr] s { t with mem := s.mem } := by
  obtain ⟨hplan, hop, -⟩ := s.showAsked_shows hp (op := 1) (by decide)
  have honly := (s.showAsked_only p 1).setF (f := ACQ.PLAN_RESULT.BUSY) (v := 1) (by simp)
  have hother := (s.showAsked p 1).fld_setF_ne ACQ.PLAN_RESULT.BUSY
  exact ⟨_, congrArg Host.Outcome.next (effPlanActivate_active hs hp ha),
    (s.showAsked p 1).fld_setF_same ACQ.PLAN_RESULT.BUSY 1, (hother ACQ.PLAN_RESULT.PLAN 1 (by decide)).trans hplan,
    (hother ACQ.PLAN_RESULT.OP 1 (by decide)).trans hop, rfl, honly⟩

theorem planArm_barred {c : Nat} (hb : s.armBar p = some c) : ∃ t, exec (.planArm p) s = .next t ∧ PlanAnswered s p 3 c t :=
  ⟨_, congrArg Host.Outcome.next (effPlanArm_barred hs hp ha hb), s.showAsked_answered hp (by decide) (State.armBar_lt hb)⟩

theorem planDisarm_barred {c : Nat} (hb : s.disarmBar p = some c) : ∃ t, exec (.planDisarm p) s = .next t ∧ PlanAnswered s p 4 c t :=
  ⟨_, congrArg Host.Outcome.next (effPlanDisarm_barred hs hp ha hb), s.showAsked_answered hp (by decide) (State.disarmBar_lt hb)⟩

theorem planDeactivate_noPlan (hpl : s.planOf p = none) : ∃ t, exec (.planDeactivate p) s = .next t ∧ PlanAnswered s p 2 6 t :=
  ⟨_, congrArg Host.Outcome.next (effPlanDeactivate_noPlan hs hp ha hpl), s.showAsked_answered hp (by decide) (by decide)⟩

theorem planDeactivate_inactive (hpl : s.planOf p ≠ none) (hk : s.slotOfPlan p = none) (hr : s.mem.reqs = []) :
    ∃ t, exec (.planDeactivate p) s = .next t ∧ PlanAnswered s p 2 5 t :=
  ⟨_, congrArg Host.Outcome.next (effPlanDeactivate_inactive hs hp ha hpl hk hr), s.showAsked_answered hp (by decide) (by decide)⟩

end

theorem admission_decides (s : State) : (s.running = false ∨ s.mem.reqs = [] → s.dev.dormantDue = false → exec .admission s = .next s) ∧
    (s.mem.reqs = [] → s.dev.dormantDue = true → exec .admission s = .next s.beginDormant) ∧
    (s.mem.reqs ≠ [] → exec .admission s = .next (if s.decideHead.dev.dormantDue = true ∧ s.decideHead.mem.reqs = []
      then s.decideHead.beginDormant else s.decideHead)) := by
  refine ⟨fun h hd => ?_, fun h hd => ?_, fun _ => ?_⟩
  · rw [exec_admission, State.decideHead_idle h, State.dormantNext_notDue hd]
  · rw [exec_admission, State.decideHead_idle (.inr h), State.dormantNext, hd, h]
    rfl
  · simp [exec_admission, State.dormantNext]

/-- Settles O26: each command by the equation of its case, each request by what `decideHead` does with its kind. -/
theorem plansAreAnsweredAndAdmittedInOrder : Obligations.PlansAreAnsweredAndAdmittedInOrder := by
  refine ⟨fun s p hs hp => ⟨fun ha e he => ?_, fun ha => ?_⟩, fun s => ?_⟩
  · obtain ⟨t, ht, h⟩ := planCmds_refused hs hp ha e he
    exact ⟨t, ht, h.result, h.plan, h.op, h.busy, h.only⟩
  · refine ⟨planActivate_waits hs hp ha, State.bars_of_noPlan, State.bars_of_inactive, fun c hb => ?_, fun c hb => ?_, ?_, ?_,
      fun hpl => ?_, fun hpl hk hr => ?_, ?_⟩
    · obtain ⟨t, ht, h⟩ := planArm_barred hs hp ha hb
      exact ⟨t, ht, h.result, h.busy, h.only⟩
    · obtain ⟨t, ht, h⟩ := planDisarm_barred hs hp ha hb
      exact ⟨t, ht, h.result, h.busy, h.only⟩
    · rintro u pl k rfl hpl hk hb
      exact ⟨fun hg => congrArg Host.Outcome.next (effPlanArm_made hs hp ha hpl hk hb hg),
        fun hg => congrArg Host.Outcome.next (effPlanArm_waits hs hp ha hpl hk hb hg)⟩
    · rintro u rfl hb
      exact congrArg Host.Outcome.next (effPlanDisarm_made hs hp ha hb)
    · obtain ⟨t, ht, h⟩ := planDeactivate_noPlan hs hp ha hpl
      exact ⟨t, ht, h.result, h.busy⟩
    · obtain ⟨t, ht, h⟩ := planDeactivate_inactive hs hp ha hpl hk hr
      exact ⟨t, ht, h.result, h.busy⟩
    · rintro u rfl hpl
      exact ⟨fun hr => congrArg Host.Outcome.next (effPlanDeactivate_waits hs hp ha hpl hr),
        fun hr hk => congrArg Host.Outcome.next (effPlanDeactivate_starts hs hp ha hpl hk hr)⟩
  · obtain ⟨hidle, hdormant, hnext⟩ := admission_decides s
    refine ⟨hidle, hdormant, hnext, fun r rest hq hrun hd => ?_⟩
    have hexec : exec .admission s = .next s.decideHead := congrArg Host.Outcome.next (State.dormantNext_notDue hd)
    obtain ⟨h0, h1, h2, h3, h4, h6, h7⟩ := State.decideHead_kinds hq hrun
    have hcase : ∀ {t : State}, s.decideHead = t → exec .admission s = .next t := fun h => hexec.trans (congrArg Host.Outcome.next h)
    exact ⟨fun hk => hcase (h0 hk), fun hk => hcase (h1 hk), fun hk => hcase (h2 hk), fun hk => hcase (h3 hk),
      fun hk => hcase (h4 hk), fun hk => hcase (h6 hk), fun hk => hcase (h7 hk),
      fun c hk ho hb hc hplan hop => ⟨_, hcase (h0 hk), State.decideActivation_answers hq ho hb hc hplan hop⟩,
      fun hk hb hid ho => ⟨_, hcase (h0 hk), State.decideActivation_raises hq ho hb hid⟩⟩

end Sys2Proof.Machine
end

section
/-!
SUPPORT. What stays while an event is raised or the FLAG sources are requested (R411, Table 13-4): the fields that report nothing, and
the components that hold no report.
-/

namespace Sys2Proof.Machine

section
variable {A : List Nat} {s t x : State}

theorem onlyReports.time_eq (h : onlyReports A s t) : t.time = s.time := (congrArg (fun u : State => u.time) h.2 : _)

theorem onlyReports.sched_eq (h : onlyReports A s t) : t.sched = s.sched := (congrArg (fun u : State => u.sched) h.2 : _)

theorem onlyReports.ens_eq (h : onlyReports A s t) : t.ens = s.ens := (congrArg (fun u : State => u.ens) h.2 : _)

/-- Reports beside a change of the timeline's own state. -/
theorem onlyReports.beside_time (h : onlyReports A x t) (k : onlyReports A s { x with time := s.time }) :
    onlyReports A s { t with time := s.time } :=
  ⟨fun g hg hr => (h.1 g hg hr).trans (k.1 g hg hr), (congrArg (fun u : State =>
    { u with regs := s.regs, mgt := s.mgt, host := s.host, evt := s.evt, out := s.out, time := s.time }) h.2 : _).trans k.2⟩

/-- Reports beside a change of the timeline's own state and of the sequencers' requests. -/
theorem onlyReports.beside_timeSeq (h : onlyReports A x t) (k : onlyReports A s { x with time := s.time, seq := s.seq }) :
    onlyReports A s { t with time := s.time, seq := s.seq } :=
  ⟨fun g hg hr => (h.1 g hg hr).trans (k.1 g hg hr), (congrArg (fun u : State =>
    { u with regs := s.regs, mgt := s.mgt, host := s.host, evt := s.evt, out := s.out, time := s.time, seq := s.seq }) h.2 : _).trans k.2⟩

theorem onlyRegs.bumpF (h : onlyRegs A s t) {f : Fld} {n : Nat} (hf : f.addr ∈ A) : onlyRegs A s (t.bumpF f n) :=
  onlyRegs_trans h ⟨fun g hg => State.fld_bumpF_ne t f g n fun e => hg (e ▸ hf), rfl⟩

end

/-! ### A raised event -/

section
variable (s : State) {n : Nat} (k i a a2 : Nat) (hn : n < 256)
include hn

theorem State.raise_fld {g : Fld} (hg : isReport g = false) : (s.raise n k i a a2).fld g = s.fld g :=
  (State.raise_only [] s n k i a a2 hn).1 g List.not_mem_nil hg

theorem State.raise_time : (s.raise n k i a a2).time = s.time := (State.raise_only [] s n k i a a2 hn).time_eq

theorem State.raise_sched : (s.raise n k i a a2).sched = s.sched := (State.raise_only [] s n k i a a2 hn).sched_eq

theorem State.raise_ens : (s.raise n k i a a2).ens = s.ens := (State.raise_only [] s n k i a a2 hn).ens_eq

end

/-! ### The FLAG sources (Table 13-4) -/

theorem State.seqRequest_eq (s : State) (u i : Nat) : ∃ q, s.seqRequest u i = { s with seq := q } := by
  unfold State.seqRequest
  dsimp only
  split
  · exact ⟨_, rfl⟩
  · exact ⟨_, rfl⟩

theorem State.laneRequest_eq (s : State) (i lane : Nat) : ∃ q, s.laneRequest i lane = { s with seq := q } := by
  unfold State.laneRequest
  split
  · exact s.seqRequest_eq _ i
  · exact ⟨_, rfl⟩

/-- A request of the FLAG sources is held by the sequencers alone. -/
theorem State.flagRequest_eq (s : State) : ∃ q, s.flagRequest = { s with seq := q } :=
  List.foldlRecOn (motive := fun u => ∃ q, u = { s with seq := q }) _ _ ⟨_, rfl⟩ fun _ hu lane _ => by
    obtain ⟨q, rfl⟩ := hu
    obtain ⟨r, hr⟩ := State.laneRequest_eq { s with seq := q } 6 lane
    exact ⟨r, hr⟩

section
variable (s : State)

theorem State.flagRequest_fld (g : Fld) : s.flagRequest.fld g = s.fld g := by
  obtain ⟨q, hq⟩ := s.flagRequest_eq
  rw [hq]
  rfl

theorem State.flagRequest_time : s.flagRequest.time = s.time := by
  obtain ⟨q, hq⟩ := s.flagRequest_eq
  rw [hq]

end

end Sys2Proof.Machine
end

section
/-!
SUPPORT. The clocks (R41, R43, R458): what each event of the reference, the crystal and the sampling PLL writes, raises and leaves.
-/

namespace Sys2Proof.Machine

/-! ### A flagged interval that starts or ends with a report (R42, R43) -/

section
variable {A : List Nat} {s w : State} (time : TimeSt) {n : Nat} (k i a a2 : Nat) (hn : n < 256)
include hn

theorem State.flagRaise_fld {g : Fld} (hg : isReport g = false) :
    ((State.flagRequest { w with time := time }).raise n k i a a2).fld g = w.fld g := by
  rw [State.raise_fld _ _ _ _ _ hn hg, State.flagRequest_fld]
  rfl

theorem State.flagRaise_time : ((State.flagRequest { w with time := time }).raise n k i a a2).time = time := by
  rw [State.raise_time _ _ _ _ _ hn, State.flagRequest_time]

theorem State.flagRaise_only (h : onlyRegs A s w) : onlyReports A s
    { (State.flagRequest { w with time := time }).raise n k i a a2 with time := s.time, seq := s.seq } := by
  obtain ⟨q, hq⟩ := State.flagRequest_eq { w with time := time }
  rw [hq]
  exact (State.raise_only A _ n k i a a2 hn).beside_timeSeq (onlyReports_of_onlyRegs
    ⟨h.1, (congrArg (fun u : State => { u with time := s.time, seq := s.seq }) h.2 : _)⟩)

end

theorem State.flagRequest_only {A : List Nat} {s w : State} (time : TimeSt) (h : onlyRegs A s w) :
    onlyRegs A s { State.flagRequest { w with time := time } with time := s.time, seq := s.seq } := by
  obtain ⟨q, hq⟩ := State.flagRequest_eq { w with time := time }
  rw [hq]
  exact ⟨h.1, (congrArg (fun u : State => { u with time := s.time, seq := s.seq }) h.2 : _)⟩

/-! ### The reference (R43, Table 02-2) -/

section
variable {s : State}

theorem State.preClock_held (h : s.preClock = false) : s.dev.held = false := (Bool.or_eq_false_iff.mp h).1

theorem refclkLost_noted (freq : Bool) (h : s.preClock = true) :
    exec (.refclkLost freq) s = .next { s with time := { s.time with refOk := false, refFreq := freq } } :=
  congrArg Host.Outcome.next (if_pos h)

theorem refclkValid1ms_noted (h : s.preClock = true) :
    exec .refclkValid1ms s = .next { s with time := { s.time with refOk := true, refFreq := false } } :=
  congrArg Host.Outcome.next (if_pos h)

section
variable (hp : s.preClock = false) (hm : s.mode ≠ modeDormant) (hr : s.refMode = true)
include hp hm hr

theorem refclkLost_holds (freq : Bool) (hs : s.fld TIME.STATUS.SOURCE ≠ 2) : ∃ t, exec (.refclkLost freq) s = .next t ∧
    t.fld TIME.STATUS.SOURCE = 2 ∧ t.bit TIME.STATUS.HOLDOVER = true ∧ counted TIME.COUNTS.REF_LOSS s t ∧
    reported 16 (if freq then 1 else 0) 0 0 t ∧ t.time.refOk = false ∧
    onlyReports [TIME.STATUS.SOURCE.addr, TIME.STATUS.HOLDOVER.addr, TIME.COUNTS.REF_LOSS.addr] s
      { t with time := s.time, seq := s.seq } := by
  have hon : (s.refMode && s.fld TIME.STATUS.SOURCE != 2 && s.mode != modeDormant && !s.dev.held) = true := by
    simp [hr, hs, hm, State.preClock_held hp]
  have heff : effRefclkLost freq s = _ := (if_neg (by simp [hp])).trans (if_pos hon)
  have honly : onlyRegs [TIME.STATUS.SOURCE.addr, TIME.STATUS.HOLDOVER.addr, TIME.COUNTS.REF_LOSS.addr] s
      (((s.setF TIME.STATUS.SOURCE 2).setF TIME.STATUS.HOLDOVER 1).bumpF TIME.COUNTS.REF_LOSS 1) :=
    (((onlyRegs_refl _ s).setF (by decide)).setF (by decide)).bumpF (by decide)
  refine ⟨_, congrArg Host.Outcome.next heff, ?_, ?_, ?_, State.raise_reported _ 16 _ 0 0 0 (by decide) (by decide)
    (by split <;> decide) (by decide) (by decide), ?_, State.flagRaise_only _ _ 0 0 0 (by decide) honly⟩
  · rw [State.flagRaise_fld _ _ _ _ _ (by decide) (by decide), State.fld_bumpF_ne _ _ _ _ (by decide),
      State.fld_setF_ne _ _ _ _ (by decide), State.fld_setF_same]
    rfl
  · rw [State.bit, State.flagRaise_fld _ _ _ _ _ (by decide) (by decide), State.fld_bumpF_ne _ _ _ _ (by decide),
      State.fld_setF_same]
    rfl
  · rw [counted, State.flagRaise_fld _ _ _ _ _ (by decide) (by decide), State.fld_bumpF_same, State.fld_setF_ne _ _ _ _ (by decide),
      State.fld_setF_ne _ _ _ _ (by decide)]
    rfl
  · rw [State.flagRaise_time _ _ _ _ _ (by decide)]

theorem refclkPhaseStep_opens (hs : s.fld TIME.STATUS.SOURCE ≠ 2) : ∃ t, exec .refclkPhaseStep s = .next t ∧
    t.bit TIME.STATUS.PHASE_HIT = true ∧ counted TIME.COUNTS.PHASE_HIT s t ∧ reported 18 0 0 0 t ∧
    onlyReports [TIME.STATUS.PHASE_HIT.addr, TIME.COUNTS.PHASE_HIT.addr] s { t with time := s.time, seq := s.seq } := by
  have hon : (s.refMode && s.fld TIME.STATUS.SOURCE != 2 && s.mode != modeDormant && !s.dev.held) = true := by
    simp [hr, hs, hm, State.preClock_held hp]
  have honly : onlyRegs [TIME.STATUS.PHASE_HIT.addr, TIME.COUNTS.PHASE_HIT.addr] s
      ((s.setF TIME.STATUS.PHASE_HIT 1).bumpF TIME.COUNTS.PHASE_HIT 1) := ((onlyRegs_refl _ s).setF (by decide)).bumpF (by decide)
  refine ⟨_, congrArg Host.Outcome.next (if_pos hon), ?_, ?_, State.raise_reported _ 18 0 0 0 0 (by decide) (by decide)
    (by decide) (by decide) (by decide), State.flagRaise_only _ 0 0 0 0 (by decide) honly⟩
  · rw [State.bit, State.flagRaise_fld _ _ _ _ _ (by decide) (by decide), State.fld_bumpF_ne _ _ _ _ (by decide),
      State.fld_setF_same]
    rfl
  · rw [counted, State.flagRaise_fld _ _ _ _ _ (by decide) (by decide), State.fld_bumpF_same, State.fld_setF_ne _ _ _ _ (by decide)]
    rfl

theorem refclkValid1ms_acquires (hs : s.fld TIME.STATUS.SOURCE = 2) : ∃ t, exec .refclkValid1ms s = .next t ∧
    t.fld TIME.STATUS.SOURCE = 3 ∧ onlyRegs [TIME.STATUS.SOURCE.addr] s { t with time := s.time } := by
  have hon : (s.refMode && s.fld TIME.STATUS.SOURCE == 2 && s.mode != modeDormant && !s.dev.held) = true := by
    simp [hr, hs, hm, State.preClock_held hp]
  exact ⟨_, congrArg Host.Outcome.next ((if_neg (by simp [hp])).trans (if_pos hon)), State.fld_setF_same s TIME.STATUS.SOURCE 3,
    (onlyRegs_setF [TIME.STATUS.SOURCE.addr] s TIME.STATUS.SOURCE 3 (by decide) : _)⟩

end

/-! ### Lock and phase (R42, R43) -/

theorem closeSpan_closed (l : List Span) (now : Nat) : ∀ x ∈ closeSpan l now, x.stop ≠ none := by
  intro x hx
  obtain ⟨y, _, rfl⟩ := List.mem_map.mp hx
  cases h : y.stop with
  | none => exact Option.some_ne_none now
  | some c => exact fun e => Option.some_ne_none c (h.symm.trans e)

section
variable (hp : s.preClock = false) (hm : s.mode ≠ modeDormant) (hs : s.fld TIME.STATUS.SOURCE = 3)
include hp hm hs

theorem effSourceLocked_on : effSourceLocked s = ((if (s.setF TIME.STATUS.SOURCE 1).bit TIME.CFG.EPOCH_EN
    then { s.setF TIME.STATUS.SOURCE 1 with time := { s.time with holdWaits := true } }
    else (s.setF TIME.STATUS.SOURCE 1).endHoldover) : State).raise 17 0 0 0 0 :=
  if_pos (by simp [hs, hm, State.preClock_held hp])

theorem sourceLocked_ends (he : s.bit TIME.CFG.EPOCH_EN = false) : ∃ t, exec .sourceLocked s = .next t ∧
    t.fld TIME.STATUS.SOURCE = 1 ∧ t.fld TIME.STATUS.HOLDOVER = 0 ∧ reported 17 0 0 0 t ∧ (∀ x ∈ t.time.holdover, x.stop ≠ none) ∧
    onlyReports [TIME.STATUS.SOURCE.addr, TIME.STATUS.HOLDOVER.addr] s { t with time := s.time, seq := s.seq } := by
  have he' : (s.setF TIME.STATUS.SOURCE 1).bit TIME.CFG.EPOCH_EN = false := by
    rwa [State.bit, State.fld_setF_ne _ _ _ _ (by decide)]
  have heff : effSourceLocked s = ((s.setF TIME.STATUS.SOURCE 1).endHoldover).raise 17 0 0 0 0 :=
    (effSourceLocked_on hp hm hs).trans (congrArg (State.raise · 17 0 0 0 0) (if_neg (Bool.eq_false_iff.mp he')))
  have honly : onlyRegs [TIME.STATUS.SOURCE.addr, TIME.STATUS.HOLDOVER.addr] s
      ((s.setF TIME.STATUS.SOURCE 1).setF TIME.STATUS.HOLDOVER 0) := ((onlyRegs_refl _ s).setF (by decide)).setF (by decide)
  refine ⟨_, congrArg Host.Outcome.next heff, ?_, ?_, State.raise_reported _ 17 0 0 0 0 (by decide) (by decide)
    (by decide) (by decide) (by decide), ?_, State.flagRaise_only _ 0 0 0 0 (by decide) honly⟩
  · rw [State.endHoldover, State.flagRaise_fld _ _ _ _ _ (by decide) (by decide), State.fld_setF_ne _ _ _ _ (by decide),
      State.fld_setF_same]
    rfl
  · rw [State.endHoldover, State.flagRaise_fld _ _ _ _ _ (by decide) (by decide), State.fld_setF_same]
    rfl
  · rw [State.endHoldover, State.flagRaise_time _ _ _ _ _ (by decide)]
    exact closeSpan_closed _ _

theorem sourceLocked_waits (he : s.bit TIME.CFG.EPOCH_EN = true) : ∃ t, exec .sourceLocked s = .next t ∧
    t.fld TIME.STATUS.SOURCE = 1 ∧ t.fld TIME.STATUS.HOLDOVER = s.fld TIME.STATUS.HOLDOVER ∧ reported 17 0 0 0 t ∧
    t.time.holdWaits = true := by
  have he' : (s.setF TIME.STATUS.SOURCE 1).bit TIME.CFG.EPOCH_EN = true := by
    rwa [State.bit, State.fld_setF_ne _ _ _ _ (by decide)]
  have heff : effSourceLocked s =
      State.raise { s.setF TIME.STATUS.SOURCE 1 with time := { s.time with holdWaits := true } } 17 0 0 0 0 :=
    (effSourceLocked_on hp hm hs).trans (congrArg (State.raise · 17 0 0 0 0) (if_pos he'))
  refine ⟨_, congrArg Host.Outcome.next heff, ?_, ?_, State.raise_reported _ 17 0 0 0 0 (by decide) (by decide)
    (by decide) (by decide) (by decide), ?_⟩
  · rw [State.raise_fld _ _ _ _ _ (by decide) (by decide)]
    exact State.fld_setF_same s TIME.STATUS.SOURCE 1
  · rw [State.raise_fld _ _ _ _ _ (by decide) (by decide)]
    exact State.fld_setF_ne s TIME.STATUS.SOURCE TIME.STATUS.HOLDOVER 1 (by decide)
  · rw [State.raise_time _ _ _ _ _ (by decide)]

end

section
variable (hh : s.bit TIME.STATUS.PHASE_HIT = true)
include hh

theorem phaseStepSettled_ends (he : s.bit TIME.CFG.EPOCH_EN = false) : ∃ t, exec .phaseStepSettled s = .next t ∧
    t.fld TIME.STATUS.PHASE_HIT = 0 ∧ onlyRegs [TIME.STATUS.PHASE_HIT.addr] s { t with time := s.time, seq := s.seq } := by
  have heff : effPhaseStepSettled s = s.endPhaseHit := (if_pos hh).trans (if_neg (Bool.eq_false_iff.mp he))
  refine ⟨_, congrArg Host.Outcome.next heff, ?_, ?_⟩
  · rw [State.endPhaseHit, State.flagRequest_fld]
    exact State.fld_setF_same s TIME.STATUS.PHASE_HIT 0
  · exact State.flagRequest_only _ (onlyRegs_setF [TIME.STATUS.PHASE_HIT.addr] s TIME.STATUS.PHASE_HIT 0 (by decide))

theorem phaseStepSettled_waits (he : s.bit TIME.CFG.EPOCH_EN = true) :
    exec .phaseStepSettled s = .next { s with time := { s.time with phaseWaits := true } } :=
  congrArg Host.Outcome.next ((if_pos hh).trans (if_pos he))

end

/-! ### The crystal (R417, R458) -/

theorem crystalLost_noted (h : s.preClock = true ∨ s.crystalTicks = false) :
    exec .crystalLost s = .next { s with time := { s.time with crystalOk := false } } :=
  congrArg Host.Outcome.next (if_neg (by
    change ¬(s.crystalTicks && !s.preClock) = true
    rcases h with h | h <;> simp [h]))

theorem crystalLost_fatal (hp : s.preClock = false) (hc : s.crystalTicks = true) (u : State)
    (hu : u = { s with time := { s.time with crystalOk := false } }) :
    exec .crystalLost s = .next (u.fatal 2 (withBit u.missing 2)) := by
  subst hu
  exact congrArg Host.Outcome.next (if_pos (by
    change (s.crystalTicks && !s.preClock) = true
    simp [hc, hp]))

theorem State.crystalTicks_of_noRef (h : s.refMode = false) : s.crystalTicks = true :=
  Bool.or_eq_true_iff.mpr (.inl (h ▸ rfl))

/-! ### The sampling PLL (R41) -/

/-- The lock shown as `v`, the loss kept as `at_`, and source 22 with kind `k`. -/
theorem spllReport (v k : Nat) (at_ : Option Nat) (hv : v < 2) (hk : k < 256) :
    ∃ u : State, u = State.raise { s.setF TIME.STATUS.SPLL_LOCK v with time := { s.time with spllLostAt := at_ } } 22 k 0 0 0 ∧
      u.fld TIME.STATUS.SPLL_LOCK = v ∧ u.time.spllLostAt = at_ ∧ reported 22 k 0 0 u ∧
      onlyReports [TIME.STATUS.SPLL_LOCK.addr] s { u with time := s.time } := by
  refine ⟨_, rfl, ?_, ?_, State.raise_reported _ 22 k 0 0 0 (by decide) (by decide) hk (by decide) (by decide), ?_⟩
  · rw [State.raise_fld _ _ _ _ _ (by decide) (by decide)]
    exact (State.fld_setF_same s _ _).trans (Nat.mod_eq_of_lt hv)
  · rw [State.raise_time _ _ _ _ _ (by decide)]
  · exact (State.raise_only _ _ 22 k 0 0 0 (by decide)).beside_time
      (onlyReports_of_onlyRegs (onlyRegs_setF [TIME.STATUS.SPLL_LOCK.addr] s TIME.STATUS.SPLL_LOCK v (by decide)))

theorem spllLockLost_running (hl : s.bit TIME.STATUS.SPLL_LOCK = true) (hr : s.running = true) : ∃ u : State,
    exec .spllLockLost s = .next ((u.abortSteps).stopAllPlans 2 true) ∧ u.fld TIME.STATUS.SPLL_LOCK = 0 ∧
      u.time.spllLostAt = some s.now ∧ reported 22 0 0 0 u ∧ onlyReports [TIME.STATUS.SPLL_LOCK.addr] s { u with time := s.time } := by
  obtain ⟨u, rfl, hu⟩ := spllReport (s := s) 0 0 (some s.now) (by decide) (by decide)
  exact ⟨_, congrArg Host.Outcome.next (if_pos (by simp [hl, hr])), hu⟩

theorem spllLockLost_idle (hl : s.bit TIME.STATUS.SPLL_LOCK = true) (hr : s.running = false) : ∃ t : State,
    exec .spllLockLost s = .next t ∧ t.fld TIME.STATUS.SPLL_LOCK = 0 ∧ t.time.spllLostAt = some s.now ∧ reported 22 0 0 0 t ∧
      onlyReports [TIME.STATUS.SPLL_LOCK.addr] s { t with time := s.time } := by
  obtain ⟨u, rfl, hu⟩ := spllReport (s := s) 0 0 (some s.now) (by decide) (by decide)
  exact ⟨_, congrArg Host.Outcome.next ((if_neg (by simp [hr])).trans (if_pos hl)), hu⟩

theorem spllRelocked_reports (hl : s.bit TIME.STATUS.SPLL_LOCK = false) (ht : s.time.spllLostAt ≠ none)
    (hd : s.dev.domainOff = false) (hh : s.dev.held = false) : ∃ t, exec .spllRelocked s = .next t ∧
      t.fld TIME.STATUS.SPLL_LOCK = 1 ∧ t.time.spllLostAt = none ∧ reported 22 1 0 0 t ∧
      onlyReports [TIME.STATUS.SPLL_LOCK.addr] s { t with time := s.time } := by
  obtain ⟨u, rfl, hu⟩ := spllReport (s := s) 1 1 none (by decide) (by decide)
  exact ⟨_, congrArg Host.Outcome.next (if_neg (by simp [hl, hd, hh, ht])), hu⟩

theorem spllRelockTimeout_fatal {c : Nat} (hc : s.time.spllLostAt = some c) (hl : s.bit TIME.STATUS.SPLL_LOCK = false)
    (h : c + 10000000 ≤ s.now) : exec .spllRelockTimeout s = .next (s.fatal 1 (withBit s.missing 2)) := by
  change Host.Outcome.next (effSpllRelockTimeout s) = _
  simp only [effSpllRelockTimeout, hc, h, hl, and_self, if_true]

theorem spllRelockTimeout_waits {c : Nat} (hc : s.time.spllLostAt = some c) (h : s.now < c + 10000000) :
    exec .spllRelockTimeout s = .next s := by
  change Host.Outcome.next (effSpllRelockTimeout s) = _
  simp only [effSpllRelockTimeout, hc, Nat.not_le.mpr h, false_and, if_false]

end

/-- Settles O14: each event of the reference, the crystal and the sampling PLL by its own lemma, noted only while no clock is chosen. -/
theorem clocksFollowTheirRules : Obligations.ClocksFollowTheirRules :=
  ⟨⟨fun _ => ⟨fun h => ⟨fun freq => refclkLost_noted freq h, refclkValid1ms_noted h⟩, crystalLost_noted,
      fun hp hr => crystalLost_fatal hp (State.crystalTicks_of_noRef hr)⟩,
    fun _ hp hm hr => ⟨refclkLost_holds hp hm hr, refclkPhaseStep_opens hp hm hr, refclkValid1ms_acquires hp hm hr,
      sourceLocked_ends hp hm, sourceLocked_waits hp hm, phaseStepSettled_ends, phaseStepSettled_waits, crystalLost_fatal hp⟩⟩,
    fun _ => ⟨spllLockLost_running, spllLockLost_idle, spllRelocked_reports,
      fun _ hc hl => ⟨spllRelockTimeout_fatal hc hl, spllRelockTimeout_waits hc⟩⟩⟩

end Sys2Proof.Machine
end

section
/-!
SUPPORT. Epoch pulses (R36): why an expected tick need not increment EPOCH_NUM in every state of the model.
-/

namespace Sys2Proof.Machine

/-- An expected tick is due in a cycle in which EPOCH_NUM is noted as cleared: the increment of that cycle is discarded, as R85 has it for a
counter. No CLR_COUNTS command of the model lists EPOCH_NUM, so none leads to this state. -/
def epochNumCleared : State :=
  { regs := [(TIME.CFG.EPOCH_EN.addr, 1)], time := { expected := some 0 }, clearedAt := 1, cleared := [TIME.EPOCH_NUM.NUM.addr] }

theorem epochNumCleared_watched : epochNumCleared.bit TIME.CFG.EPOCH_EN = true := by decide

theorem epochNumCleared_stays : (effExpectedTick epochNumCleared).fld TIME.EPOCH_NUM.NUM = 0 := by decide

/-- Refutes O15: an expected tick reached in a cycle in which EPOCH_NUM is noted as cleared leaves EPOCH_NUM at 0. -/
theorem not_epochPulsesSetAndMoveTheCount : ¬ Obligations.EpochPulsesSetAndMoveTheCount := by
  rintro ⟨hpulse, -⟩
  obtain ⟨-, -, hexpected⟩ := hpulse epochNumCleared epochNumCleared_watched
  obtain ⟨t, ht, hnum, -⟩ := hexpected 0 rfl (by decide)
  rw [← Host.Outcome.next.inj ht, epochNumCleared_stays] at hnum
  exact absurd hnum (by decide)

end Sys2Proof.Machine
end

section
/-!
SUPPORT. The scheduler's entries (R44 to R52): what each operation on an entry writes in its registers and keeps beside them.
-/

namespace Sys2Proof.Machine

/-! ### Where an entry's registers stand -/

/-- An entry's registers report nothing. -/
theorem isReport_schedField {n b k w r : Nat} (hn : n < 256) (hb : 0x11000 ≤ b) (hb' : b < 0x11020) (hk : k < 32) :
    isReport ⟨8 * (b + 32 * n) + k, w, r⟩ = false := by
  simp only [isReport, MGT.LOG_STATUS.DROPPED, Bool.or_eq_false_iff, beq_eq_false_iff_ne]
  omega

section
variable {n : Nat} (hn : n < 256)
include hn

theorem isReport_schedState : isReport (TIME.SCHED_STATUS.STATE n) = false :=
  isReport_schedField hn (by decide) (by decide) (by decide)

theorem isReport_schedCode : isReport (TIME.SCHED_STATUS.CODE n) = false :=
  isReport_schedField hn (by decide) (by decide) (by decide)

theorem isReport_schedSkipped : isReport (TIME.SCHED_STATUS.SKIPPED n) = false :=
  isReport_schedField hn (by decide) (by decide) (by decide)

theorem isReport_schedCommit : isReport (TIME.SCHED_CMD.COMMIT n) = false :=
  isReport_schedField hn (by decide) (by decide) (by decide)

end

/-! ### What an entry keeps beside its registers -/

section
variable (s : State) (n : Nat)

theorem State.dueOf_setDue (t : Option Tick) : (s.setDue n t).dueOf n = t := by
  unfold State.dueOf State.setDue
  rw [Tbl.get_set_same]
  cases t with
  | none => rfl
  | some t => exact congrArg some (by simp)

theorem State.nextOccurrence_eq (d : Tick) : ∃ due late, s.nextOccurrence n d =
    { s with sched := { s.sched with due := due, late := late } } := by
  unfold State.nextOccurrence
  dsimp only
  split
  · exact ⟨_, _, rfl⟩
  · exact ⟨_, _, rfl⟩

theorem State.nextOccurrence_dueOf (d : Tick) : (s.nextOccurrence n d).dueOf n =
    if s.fld (TIME.SCHED_PERIOD.PERIOD n) = 0 then none else some (d + BitVec.ofNat 48 (s.fld (TIME.SCHED_PERIOD.PERIOD n))) := by
  unfold State.nextOccurrence
  dsimp only
  split
  · exact s.dueOf_setDue n none
  · exact s.dueOf_setDue n (some _)

theorem State.not_committed_of_fld {t : State} {n : Nat} (h : t.fld (TIME.SCHED_CMD.COMMIT n) = 0) : t.committed n = false :=
  (congrArg (· == 1) h : _)

/-! ### Committing an entry (R44, R45, R49) -/

/-- The registers of an entry as a commit leaves them. -/
def committedFields : List (Fld × Nat) :=
  [(TIME.SCHED_CMD.COMMIT n, 1), (TIME.SCHED_STATUS.STATE n, 1), (TIME.SCHED_STATUS.SKIPPED n, 0),
    (TIME.SCHED_STATUS.LATE_BY n, 0), (TIME.SCHED_STATUS.CODE n, 0)]

/-- Their bits. -/
def commitAddrs : List Nat := [(TIME.SCHED_CMD.COMMIT n).addr, (TIME.SCHED_STATUS.STATE n).addr, (TIME.SCHED_STATUS.SKIPPED n).addr,
  (TIME.SCHED_STATUS.LATE_BY n).addr, (TIME.SCHED_STATUS.CODE n).addr]

theorem commitAddrs_nodup : (commitAddrs n).Nodup := by
  simp only [commitAddrs, TIME.SCHED_CMD.COMMIT, TIME.SCHED_STATUS.STATE, TIME.SCHED_STATUS.SKIPPED, TIME.SCHED_STATUS.LATE_BY,
    TIME.SCHED_STATUS.CODE, List.nodup_cons, List.mem_cons, List.not_mem_nil, or_false, not_false_eq_true, List.nodup_nil, and_true]
  omega

theorem entryTick_addrs : (TIME.SCHED_TICK_LO.TICK n).addr ∉ commitAddrs n ∧ (TIME.SCHED_TICK_HI.TICK n).addr ∉ commitAddrs n := by
  simp only [commitAddrs, TIME.SCHED_TICK_LO.TICK, TIME.SCHED_TICK_HI.TICK, TIME.SCHED_CMD.COMMIT, TIME.SCHED_STATUS.STATE,
    TIME.SCHED_STATUS.SKIPPED, TIME.SCHED_STATUS.LATE_BY, TIME.SCHED_STATUS.CODE, List.mem_cons, List.not_mem_nil, or_false]
  omega

theorem committedFields_only : onlyRegs (commitAddrs n) s (s.setFs (committedFields n)) :=
  onlyRegs_setFs s fun _ hw => List.mem_map_of_mem (f := fun w : Fld × Nat => w.1.addr) hw

theorem State.markCommitted_only : onlyRegs (commitAddrs n) s { s.markCommitted n with sched := s.sched } :=
  ⟨(committedFields_only s n).1, (congrArg (fun u : State => { u with sched := s.sched }) (committedFields_only s n).2 : _)⟩

theorem State.markCommitted_entryTick : (s.markCommitted n).entryTick n = s.entryTick n := by
  have hlo := (s.markCommitted_only n).1 _ (entryTick_addrs n).1
  have hhi := (s.markCommitted_only n).1 _ (entryTick_addrs n).2
  exact congrArg₂ (fun a b => BitVec.ofNat 48 (a + 2 ^ 32 * b)) hlo hhi

theorem State.markCommitted_dueOf : (s.markCommitted n).dueOf n = some (s.entryTick n) :=
  (State.dueOf_setDue _ n (some _)).trans (congrArg some (s.markCommitted_entryTick n))

theorem State.markCommitted_tick : (s.markCommitted n).tick = s.tick :=
  (congrArg (fun u : State => u.tick) (s.markCommitted_only n).2 : _)

/-- Each of the registers written holds its value. -/
theorem State.markCommitted_fields : ∀ w ∈ committedFields n, (s.markCommitted n).fld w.1 = w.2 % 2 ^ w.1.width :=
  fld_setFs (ws := committedFields n) (commitAddrs_nodup n) s

theorem schedCommit_refused {s : State} {n : Nat} (hv : s.served (0x11018 + 32 * n) = true) (hn : n < 256) (hc : s.committed n = false)
    (ha : s.actionOk (s.fld (TIME.SCHED_ACT.ACTION n)) (s.fld (TIME.SCHED_ARG.ARG n)) = false) :
    ∃ t, exec (.schedCommit n) s = .next t ∧ t.fld (TIME.SCHED_STATUS.STATE n) = 0 ∧ reported 25 0 n 0 t ∧
      onlyReports [(TIME.SCHED_STATUS.STATE n).addr] s t := by
  have heff : effSchedCommit n s = State.raise (s.setF (TIME.SCHED_STATUS.STATE n) 0) 25 0 n 0 0 :=
    (if_pos (by simp [hv, hn, hc])).trans (if_neg (by simp [ha]))
  refine ⟨_, congrArg Host.Outcome.next heff, ?_, State.raise_reported _ 25 0 n 0 0 (by decide) (by decide) (by decide) hn (by decide), ?_⟩
  · rw [State.raise_fld _ _ _ _ _ (by decide) (isReport_schedState hn)]
    exact State.fld_setF_same s _ 0
  · exact onlyReports_trans (onlyReports_setF _ s _ 0 (.inr List.mem_cons_self)) (State.raise_only _ _ 25 0 n 0 0 (by decide))

theorem effSchedCommit_accepted {s : State} {n : Nat} (hv : s.served (0x11018 + 32 * n) = true) (hn : n < 256) (hc : s.committed n = false)
    (ha : s.actionOk (s.fld (TIME.SCHED_ACT.ACTION n)) (s.fld (TIME.SCHED_ARG.ARG n)) = true) :
    effSchedCommit n s = if s.active && duePast s.tick (s.entryTick n)
      then (s.markCommitted n).judge n (s.entryTick n) (s.tick - s.entryTick n).toNat else s.markCommitted n := by
  have heff : effSchedCommit n s = s.commitEntry n s.active := if_pos (by simp [hv, hn, hc])
  rw [heff, State.commitEntry, if_pos ha]
  dsimp only
  rw [State.markCommitted_entryTick, State.markCommitted_tick]

theorem schedCommit_commits {s : State} {n : Nat} (hv : s.served (0x11018 + 32 * n) = true) (hn : n < 256) (hc : s.committed n = false)
    (ha : s.actionOk (s.fld (TIME.SCHED_ACT.ACTION n)) (s.fld (TIME.SCHED_ARG.ARG n)) = true) :
    ∃ u : State, u.committed n = true ∧ u.fld (TIME.SCHED_STATUS.STATE n) = 1 ∧ u.fld (TIME.SCHED_STATUS.SKIPPED n) = 0 ∧
      u.fld (TIME.SCHED_STATUS.LATE_BY n) = 0 ∧ u.fld (TIME.SCHED_STATUS.CODE n) = 0 ∧ u.dueOf n = some (s.entryTick n) ∧
      onlyRegs (commitAddrs n) s { u with sched := s.sched } ∧
      (s.active = false ∨ duePast s.tick (s.entryTick n) = false → exec (.schedCommit n) s = .next u) ∧
      (s.active = true → duePast s.tick (s.entryTick n) = true →
        exec (.schedCommit n) s = .next (u.judge n (s.entryTick n) (s.tick - s.entryTick n).toNat)) := by
  have hfld := s.markCommitted_fields n
  simp only [committedFields, List.forall_mem_cons, List.not_mem_nil, false_imp_iff, implies_true, and_true] at hfld
  obtain ⟨hcommit, hstate, hskipped, hlate, hcode⟩ := hfld
  have heff := effSchedCommit_accepted hv hn hc ha
  refine ⟨s.markCommitted n, ?_, hstate, hskipped, hlate, hcode, s.markCommitted_dueOf n, s.markCommitted_only n, fun h => ?_, fun h k => ?_⟩
  · rw [State.committed, State.bit, hcommit]
    rfl
  · refine congrArg Host.Outcome.next (heff.trans (if_neg ?_))
    rcases h with h | h <;> simp [h]
  · exact congrArg Host.Outcome.next (heff.trans (if_pos (by simp [h, k])))

/-! ### Writes to an entry, and its cancelling (R51) -/

theorem schedFieldWrite_refused {s : State} {n r : Nat} (v : Nat) (hn : n < 256) (hv : s.served (0x11000 + 32 * n) = true) (hr : r < 6)
    (hc : s.committed n = true) : ∃ t, exec (.schedFieldWrite n r v) s = .next t ∧ reported 25 1 n 0 t ∧ onlyReports [] s t := by
  have heff : effSchedFieldWrite n r v s = s.raise 25 1 n 0 0 := (if_pos (by simp [hv, hn, hr])).trans (if_pos hc)
  exact ⟨_, congrArg Host.Outcome.next heff, State.raise_reported s 25 1 n 0 0 (by decide) (by decide) (by decide) hn (by decide),
    State.raise_only [] s 25 1 n 0 0 (by decide)⟩

theorem schedFieldWrite_stores {s : State} {n r : Nat} (v : Nat) (hn : n < 256) (hv : s.served (0x11000 + 32 * n) = true) (hr : r < 6)
    (hc : s.committed n = false) : exec (.schedFieldWrite n r v) s = .next (s.writeEntry n r v) :=
  congrArg Host.Outcome.next ((if_pos (by simp [hv, hn, hr])).trans (if_neg (by simp [hc])))

/-- An entry with no occurrence to come is not dispatched. -/
theorem schedDispatch_none {s : State} {n : Nat} (h : s.dueOf n = none) : exec (.schedDispatch n) s = .next s := by
  change Host.Outcome.next (effSchedDispatch n s) = _
  rw [effSchedDispatch, h]

theorem State.settleCancel_dueOf (m : Nat) : (s.settleCancel n).dueOf m = s.dueOf m := by
  unfold State.settleCancel
  split
  · rfl
  · rfl

theorem State.settleCancel_of_not (h : Tbl.get false s.sched.cancel n = false) : s.settleCancel n = s :=
  if_neg (by simp [h])

/-- An entry cancelled and not waiting shows CANCELLED and is committed no longer. -/
theorem State.settleCancel_settles (h : Tbl.get false s.sched.cancel n = true) (hw : ∀ o ∈ s.sched.waiting, o.entry ≠ n) :
    (s.settleCancel n).fld (TIME.SCHED_STATUS.STATE n) = 5 ∧ (s.settleCancel n).committed n = false ∧
      onlyRegs [(TIME.SCHED_STATUS.STATE n).addr, (TIME.SCHED_CMD.COMMIT n).addr] s { s.settleCancel n with sched := s.sched } := by
  have heq : s.settleCancel n = { (s.setF (TIME.SCHED_STATUS.STATE n) 5).setF (TIME.SCHED_CMD.COMMIT n) 0 with
      sched := { s.sched with cancel := Tbl.set false s.sched.cancel n false } } := by
    refine if_pos ?_
    rw [h, Bool.true_and, Bool.not_eq_true', List.any_eq_false]
    exact fun o ho => by simpa using hw o ho
  rw [heq]
  have honly : onlyRegs [(TIME.SCHED_STATUS.STATE n).addr, (TIME.SCHED_CMD.COMMIT n).addr] s
      ((s.setF (TIME.SCHED_STATUS.STATE n) 5).setF (TIME.SCHED_CMD.COMMIT n) 0) :=
    ((onlyRegs_refl _ s).setF List.mem_cons_self).setF (List.mem_cons_of_mem _ List.mem_cons_self)
  refine ⟨?_, ?_, honly⟩
  · refine (State.fld_setF_ne _ (TIME.SCHED_CMD.COMMIT n) (TIME.SCHED_STATUS.STATE n) 0 ?_).trans (State.fld_setF_same s _ 5)
    simp only [TIME.SCHED_STATUS.STATE, TIME.SCHED_CMD.COMMIT]
    omega
  · exact State.not_committed_of_fld (State.fld_setF_same (s.setF (TIME.SCHED_STATUS.STATE n) 5) (TIME.SCHED_CMD.COMMIT n) 0)

/-- An entry with no occurrence to come, its cancelling asked for. -/
def State.withdraw (s : State) (n : Nat) : State :=
  let t := (s.setDue n none).setLate n 0
  { t with sched := { t.sched with cancel := Tbl.set false s.sched.cancel n true } }

theorem schedCancel_ends {s : State} {n : Nat} (hn : n < 256) (hv : s.served (0x11018 + 32 * n) = true) (hc : s.committed n = true) :
    ∃ t, exec (.schedCancel n) s = .next t ∧ t.dueOf n = none ∧ exec (.schedDispatch n) t = .next t ∧
      ((∀ o ∈ s.sched.waiting, o.entry ≠ n) → t.fld (TIME.SCHED_STATUS.STATE n) = 5 ∧ t.committed n = false ∧
        onlyRegs [(TIME.SCHED_STATUS.STATE n).addr, (TIME.SCHED_CMD.COMMIT n).addr] s { t with sched := s.sched }) := by
  have heff : effSchedCancel n s = (s.withdraw n).settleCancel n := if_pos (by simp [hv, hn, hc])
  have hdue : ((s.withdraw n).settleCancel n).dueOf n = none := (State.settleCancel_dueOf _ n n).trans (s.dueOf_setDue n none)
  refine ⟨_, congrArg Host.Outcome.next heff, hdue, schedDispatch_none hdue, fun hw => ?_⟩
  obtain ⟨hstate, hcommit, honly⟩ := (s.withdraw n).settleCancel_settles n (Tbl.get_set_same false s.sched.cancel n true) hw
  exact ⟨hstate, hcommit, honly.1, (congrArg (fun u : State => { u with sched := s.sched }) honly.2 : _)⟩

end

/-- Settles O16: a commit refused, kept or judged at once; a write refused or stored; a cancel, after which nothing is dispatched. -/
theorem entriesAreCommittedAndCancelled : Obligations.EntriesAreCommittedAndCancelled :=
  ⟨fun _ _ hv hn hc => ⟨schedCommit_refused hv hn hc, schedCommit_commits hv hn hc⟩,
    fun _ _ hn => ⟨fun _ v hv hr => ⟨schedFieldWrite_refused v hn hv hr, schedFieldWrite_stores v hn hv hr⟩, schedCancel_ends hn⟩⟩

end Sys2Proof.Machine
end

section
/-!
SUPPORT. Dispatch and outcome (R45 to R49): what an occurrence that joins, one that is STALE, one that ends and one whose window closes
leave.
-/

namespace Sys2Proof.Machine

section
variable {s : State} {n : Nat}

/-! ### Dispatch (R45, R46) -/

theorem State.precedes_none {d : Tick} (h : ∀ m < 256, s.precedes m n d = false) :
    ((List.range 256).any fun m => s.precedes m n d) = false :=
  List.any_eq_false.mpr fun m hm => Bool.eq_false_iff.mp (h m (List.mem_range.mp hm))

theorem schedDispatch_judges {d : Tick} (hd : s.dueOf n = some d) (hn : n < 256) (ha : s.active = true) (hp : duePast s.tick d = true)
    (hl : s.sched.lastDispatch ≠ some s.now) (hfirst : ∀ m < 256, s.precedes m n d = false) :
    exec (.schedDispatch n) s = .next (s.judge n d (Tbl.get 0 s.sched.late n)) := by
  change Host.Outcome.next (effSchedDispatch n s) = _
  rw [effSchedDispatch, hd]
  exact congrArg Host.Outcome.next (if_pos (by
    rw [State.precedes_none hfirst, ha, hp, decide_eq_true hn, decide_eq_true hl]
    rfl))

theorem schedDispatch_inactive (h : s.active = false) : exec (.schedDispatch n) s = .next s := by
  change Host.Outcome.next (effSchedDispatch n s) = _
  unfold effSchedDispatch
  split
  · rfl
  · rw [h]
    rfl

/-- The occurrence that a dispatch adds (R46, R47). -/
def State.newOcc (s : State) (n l : Nat) : Occ :=
  { entry := n, action := s.fld (TIME.SCHED_ACT.ACTION n), arg := s.fld (TIME.SCHED_ARG.ARG n), at_ := s.tick, from_ := s.now
    window := s.fld (TIME.SCHED_LIMIT.WINDOW n), lateBy := l
    groups := groupMask (s.fld (TIME.SCHED_ACT.ACTION n)) (s.fld (TIME.SCHED_ARG.ARG n)), missed := false }

theorem State.dispatchOcc_joins (n : Nat) (d : Tick) (l : Nat) :
    (s.dispatchOcc n d l).sched.waiting = s.sched.waiting ++ [s.newOcc n l] ∧ (s.dispatchOcc n d l).sched.lastDispatch = some s.now ∧
      (s.dispatchOcc n d l).dueOf n = (if s.fld (TIME.SCHED_PERIOD.PERIOD n) = 0 then none
        else some (d + BitVec.ofNat 48 (s.fld (TIME.SCHED_PERIOD.PERIOD n)))) ∧
      (s.dispatchOcc n d l).regs = s.regs ∧ { s.dispatchOcc n d l with sched := s.sched } = s := by
  have hdue := State.nextOccurrence_dueOf
    { s with sched := { s.sched with waiting := s.sched.waiting ++ [s.newOcc n l], lastDispatch := some s.now } } n d
  obtain ⟨due, late, heq⟩ := State.nextOccurrence_eq
    { s with sched := { s.sched with waiting := s.sched.waiting ++ [s.newOcc n l], lastDispatch := some s.now } } n d
  have hocc : s.dispatchOcc n d l = _ := heq
  rw [hocc]
  exact ⟨rfl, rfl, heq ▸ hdue, rfl, rfl⟩

/-! ### The outcome of an occurrence (R48, R49) -/

/-- The bits of the fields that an outcome writes. -/
def outcomeAddrs (n : Nat) : List Nat :=
  [(TIME.SCHED_STATUS.STATE n).addr, (TIME.SCHED_STATUS.CODE n).addr, (TIME.SCHED_CMD.COMMIT n).addr]

theorem outcomeAddrs_not_mem :
    (TIME.SCHED_STATUS.SKIPPED n).addr ∉ outcomeAddrs n ∧ (TIME.SCHED_STATUS.LATE_BY n).addr ∉ outcomeAddrs n := by
  simp only [outcomeAddrs, TIME.SCHED_STATUS.SKIPPED, TIME.SCHED_STATUS.LATE_BY, TIME.SCHED_STATUS.STATE, TIME.SCHED_STATUS.CODE,
    TIME.SCHED_CMD.COMMIT, List.mem_cons, List.not_mem_nil, or_false]
  omega

theorem schedCounts_not_mem :
    TIME.SCHED_COUNTS.STALE.addr ∉ outcomeAddrs n ∧ TIME.SCHED_COUNTS.DEADLINE.addr ∉ outcomeAddrs n := by
  simp only [outcomeAddrs, TIME.SCHED_COUNTS.STALE, TIME.SCHED_COUNTS.DEADLINE, TIME.SCHED_STATUS.STATE, TIME.SCHED_STATUS.CODE,
    TIME.SCHED_CMD.COMMIT, List.mem_cons, List.not_mem_nil, or_false]
  omega

/-- The STATE and the CODE written. -/
def State.outcomeFields (s : State) (n state code : Nat) : State :=
  s.setFs [(TIME.SCHED_STATUS.STATE n, state), (TIME.SCHED_STATUS.CODE n, code)]

section
variable (hc : Tbl.get false s.sched.cancel n = false) (state code : Nat)
include hc

/-- Where no cancel waits, an outcome writes STATE and CODE, and COMMIT of an entry with no occurrence to come. -/
theorem State.outcome_eq : s.outcome n state code =
    if s.dueOf n = none then (s.outcomeFields n state code).setF (TIME.SCHED_CMD.COMMIT n) 0 else s.outcomeFields n state code := by
  by_cases hd : s.dueOf n = none
  · rw [if_pos hd]
    exact (congrArg (State.settleCancel · n) (if_pos ⟨hd, hc⟩)).trans (State.settleCancel_of_not _ n hc)
  · rw [if_neg hd]
    exact (congrArg (State.settleCancel · n) (if_neg fun h => hd h.1)).trans (State.settleCancel_of_not _ n hc)

theorem State.outcome_only : onlyRegs (outcomeAddrs n) s (s.outcome n state code) := by
  have hfields : onlyRegs (outcomeAddrs n) s (s.outcomeFields n state code) :=
    ((onlyRegs_refl _ s).setF List.mem_cons_self).setF (List.mem_cons_of_mem _ List.mem_cons_self)
  rw [State.outcome_eq hc]
  split
  · exact hfields.setF (List.mem_cons_of_mem _ (List.mem_cons_of_mem _ List.mem_cons_self))
  · exact hfields

theorem State.outcome_fields : (s.outcome n state code).fld (TIME.SCHED_STATUS.STATE n) = state % 8 ∧
    (s.outcome n state code).fld (TIME.SCHED_STATUS.CODE n) = code % 16 := by
  have hne : (TIME.SCHED_STATUS.STATE n).addr ≠ (TIME.SCHED_CMD.COMMIT n).addr ∧
      (TIME.SCHED_STATUS.CODE n).addr ≠ (TIME.SCHED_CMD.COMMIT n).addr ∧
      (TIME.SCHED_STATUS.STATE n).addr ≠ (TIME.SCHED_STATUS.CODE n).addr := by
    simp only [TIME.SCHED_STATUS.STATE, TIME.SCHED_STATUS.CODE, TIME.SCHED_CMD.COMMIT]
    omega
  obtain ⟨hstate, hcode, hboth⟩ := hne
  have hs : (s.outcomeFields n state code).fld (TIME.SCHED_STATUS.STATE n) = state % 8 :=
    (State.fld_setF_ne _ _ _ _ hboth).trans (State.fld_setF_same s _ state)
  have hk : (s.outcomeFields n state code).fld (TIME.SCHED_STATUS.CODE n) = code % 16 := State.fld_setF_same _ _ code
  rw [State.outcome_eq hc]
  split
  · exact ⟨(State.fld_setF_ne _ _ _ _ hstate).trans hs, (State.fld_setF_ne _ _ _ _ hcode).trans hk⟩
  · exact ⟨hs, hk⟩

theorem State.outcome_uncommits (hd : s.dueOf n = none) : (s.outcome n state code).committed n = false := by
  rw [State.outcome_eq hc, if_pos hd]
  exact State.not_committed_of_fld (State.fld_setF_same _ _ 0)

theorem State.outcome_sched : (s.outcome n state code).sched = s.sched :=
  (congrArg (fun u : State => u.sched) (State.outcome_only hc state code).2 : _)

end

/-! ### STALE (R45, R49) -/

/-- The counts of a stale occurrence, before its outcome. -/
def State.countStale (s : State) (n : Nat) : State :=
  if s.fld (TIME.SCHED_PERIOD.PERIOD n) ≠ 0 then (s.bumpF TIME.SCHED_COUNTS.STALE 1).bumpF (TIME.SCHED_STATUS.SKIPPED n) 1
  else s.bumpF TIME.SCHED_COUNTS.STALE 1

theorem State.countStale_only (s : State) (n : Nat) :
    onlyRegs [TIME.SCHED_COUNTS.STALE.addr, (TIME.SCHED_STATUS.SKIPPED n).addr] s (s.countStale n) := by
  have hstale := (onlyRegs_refl [TIME.SCHED_COUNTS.STALE.addr, (TIME.SCHED_STATUS.SKIPPED n).addr] s).bumpF
    (f := TIME.SCHED_COUNTS.STALE) (n := 1) List.mem_cons_self
  unfold State.countStale
  split
  · exact hstale.bumpF (List.mem_cons_of_mem _ List.mem_cons_self)
  · exact hstale

theorem schedSkipped_ne_stale (n : Nat) : TIME.SCHED_COUNTS.STALE.addr ≠ (TIME.SCHED_STATUS.SKIPPED n).addr := by
  simp only [TIME.SCHED_COUNTS.STALE, TIME.SCHED_STATUS.SKIPPED]
  omega

theorem State.countStale_stale (s : State) (n : Nat) : counted TIME.SCHED_COUNTS.STALE s (s.countStale n) := by
  unfold State.countStale
  split
  · exact (State.fld_bumpF_ne _ _ _ _ (schedSkipped_ne_stale n)).trans (State.fld_bumpF_same s _ 1)
  · exact State.fld_bumpF_same s _ 1

theorem State.countStale_skipped (s : State) (n : Nat) (hp : s.fld (TIME.SCHED_PERIOD.PERIOD n) ≠ 0) :
    counted (TIME.SCHED_STATUS.SKIPPED n) s (s.countStale n) := by
  have hskip := State.fld_bumpF_ne s TIME.SCHED_COUNTS.STALE (TIME.SCHED_STATUS.SKIPPED n) 1 (schedSkipped_ne_stale n).symm
  rw [State.countStale, if_pos hp, counted, State.fld_bumpF_same, hskip]
  rfl

theorem State.countStale_period (s : State) (n : Nat) :
    (s.countStale n).fld (TIME.SCHED_PERIOD.PERIOD n) = s.fld (TIME.SCHED_PERIOD.PERIOD n) := by
  refine (s.countStale_only n).1 _ ?_
  simp only [TIME.SCHED_PERIOD.PERIOD, TIME.SCHED_COUNTS.STALE, TIME.SCHED_STATUS.SKIPPED, List.mem_cons, List.not_mem_nil, or_false]
  omega

theorem State.stale_eq (s : State) (n : Nat) (d : Tick) : s.stale n d =
    (((s.countStale n).nextOccurrence n d).outcome n 3 0).raise 23 0 n (s.fld (TIME.SCHED_ACT.ACTION n)) 0 := by
  have hper := State.fld_bumpF_ne s TIME.SCHED_COUNTS.STALE (TIME.SCHED_PERIOD.PERIOD n) 1 (by
    simp only [TIME.SCHED_PERIOD.PERIOD, TIME.SCHED_COUNTS.STALE]
    omega)
  unfold State.stale
  dsimp only
  rw [hper]
  rfl

theorem State.stale_ends (hn : n < 256) (d : Tick) (hc : Tbl.get false s.sched.cancel n = false)
    (ha : s.fld (TIME.SCHED_ACT.ACTION n) < 256) :
    (s.stale n d).fld (TIME.SCHED_STATUS.STATE n) = 3 ∧ counted TIME.SCHED_COUNTS.STALE s (s.stale n d) ∧
      reported 23 0 n (s.fld (TIME.SCHED_ACT.ACTION n)) (s.stale n d) ∧ (s.stale n d).sched.waiting = s.sched.waiting ∧
      (s.fld (TIME.SCHED_PERIOD.PERIOD n) = 0 → (s.stale n d).committed n = false ∧ (s.stale n d).dueOf n = none) ∧
      (s.fld (TIME.SCHED_PERIOD.PERIOD n) ≠ 0 → counted (TIME.SCHED_STATUS.SKIPPED n) s (s.stale n d) ∧
        (s.stale n d).dueOf n = some (d + BitVec.ofNat 48 (s.fld (TIME.SCHED_PERIOD.PERIOD n)))) := by
  have hdue := (s.countStale n).nextOccurrence_dueOf n d
  rw [State.countStale_period] at hdue
  obtain ⟨due, late, hnext⟩ := (s.countStale n).nextOccurrence_eq n d
  have hsched : (s.countStale n).sched = s.sched := (congrArg (fun u : State => u.sched) (s.countStale_only n).2 : _)
  have hcn : Tbl.get false ((s.countStale n).nextOccurrence n d).sched.cancel n = false := by rw [hnext, hsched]; exact hc
  have hout := State.outcome_only hcn 3 0
  have hfld : ∀ g : Fld, isReport g = false → g.addr ∉ outcomeAddrs n → (s.stale n d).fld g = (s.countStale n).fld g := fun g hg hm => by
    rw [State.stale_eq, State.raise_fld _ _ _ _ _ (by decide) hg, hout.1 g hm, hnext]
    rfl
  have hst : (s.stale n d).sched = ((s.countStale n).nextOccurrence n d).sched := by
    rw [State.stale_eq, State.raise_sched _ _ _ _ _ (by decide), State.outcome_sched hcn]
  have hdueOf : (s.stale n d).dueOf n = ((s.countStale n).nextOccurrence n d).dueOf n := congrArg (fun q : SchedSt =>
    State.dueOf { s with sched := q } n) hst
  refine ⟨?_, ?_, ?_, ?_, fun hp => ⟨?_, ?_⟩, fun hp => ⟨?_, ?_⟩⟩
  · rw [State.stale_eq, State.raise_fld _ _ _ _ _ (by decide) (isReport_schedState hn)]
    exact (State.outcome_fields hcn 3 0).1
  · exact (hfld _ (by decide) schedCounts_not_mem.1).trans (s.countStale_stale n)
  · rw [State.stale_eq]
    exact State.raise_reported _ 23 0 n _ 0 (by decide) (by decide) (by decide) hn (by omega)
  · rw [hst, hnext, hsched]
  · rw [if_pos hp] at hdue
    rw [State.stale_eq, State.committed, State.bit, State.raise_fld _ _ _ _ _ (by decide) (isReport_schedCommit hn)]
    exact State.outcome_uncommits hcn 3 0 hdue
  · rw [hdueOf, hdue, if_pos hp]
  · exact (hfld _ (isReport_schedSkipped hn) outcomeAddrs_not_mem.1).trans (s.countStale_skipped n hp)
  · rw [hdueOf, hdue, if_neg hp]

/-! ### The end of an occurrence (R45, R47, R48) -/

/-- An occurrence dropped, its lateness shown. -/
def State.leaveOcc (s : State) (o : Occ) : State := (s.dropOcc o).setF (TIME.SCHED_STATUS.LATE_BY o.entry) (min o.lateBy 65535)

theorem State.leaveOcc_lateBy (s : State) (o : Occ) :
    (s.leaveOcc o).fld (TIME.SCHED_STATUS.LATE_BY o.entry) = min o.lateBy 65535 :=
  (State.fld_setF_same _ _ _).trans (Nat.mod_eq_of_lt (Nat.lt_of_le_of_lt (Nat.min_le_right ..) (Nat.lt_succ_self 65535)))

theorem State.endOcc_none (s : State) (o : Occ) : s.endOcc o none = (s.leaveOcc o).outcome o.entry 2 0 := rfl

theorem State.endOcc_some (s : State) (o : Occ) (c : Nat) :
    s.endOcc o (some c) = ((s.leaveOcc o).outcome o.entry 6 c).raise 25 3 o.entry c 0 := rfl

section
variable {o : Occ} (ho : o.entry < 256) (hc : Tbl.get false (s.leaveOcc o).sched.cancel o.entry = false)
include hc

theorem State.endOcc_executed : (s.endOcc o none).fld (TIME.SCHED_STATUS.STATE o.entry) = 2 ∧
    (s.endOcc o none).fld (TIME.SCHED_STATUS.CODE o.entry) = 0 ∧
    (s.endOcc o none).fld (TIME.SCHED_STATUS.LATE_BY o.entry) = min o.lateBy 65535 ∧
    (s.endOcc o none).sched.waiting = s.sched.waiting.erase o := by
  rw [State.endOcc_none]
  obtain ⟨hstate, hcode⟩ := State.outcome_fields hc 2 0
  refine ⟨hstate, hcode, ((State.outcome_only hc 2 0).1 _ outcomeAddrs_not_mem.2).trans (s.leaveOcc_lateBy o), ?_⟩
  rw [State.outcome_sched hc]
  rfl

include ho

theorem State.endOcc_refused (c : Nat) (hlt : c < 16) : (s.endOcc o (some c)).fld (TIME.SCHED_STATUS.STATE o.entry) = 6 ∧
    (s.endOcc o (some c)).fld (TIME.SCHED_STATUS.CODE o.entry) = c ∧ reported 25 3 o.entry c (s.endOcc o (some c)) ∧
    (s.endOcc o (some c)).sched.waiting = s.sched.waiting.erase o := by
  obtain ⟨hstate, hcode⟩ := State.outcome_fields hc 6 c
  rw [State.endOcc_some, State.raise_fld _ _ _ _ _ (by decide) (isReport_schedState ho),
    State.raise_fld _ _ _ _ _ (by decide) (isReport_schedCode ho), State.raise_sched _ _ _ _ _ (by decide), State.outcome_sched hc, hcode]
  exact ⟨hstate, Nat.mod_eq_of_lt hlt, State.raise_reported _ 25 3 _ c 0 (by decide) (by decide) (by decide) ho (by omega), rfl⟩

end

/-! ### The window that closes (R47, R260) -/

/-- The deadline fault of a closed window: K = 1 with the channel for a retraining. -/
def State.raiseDeadline (o : Occ) (s : State) : State := if o.action = 10 then s.raise 24 1 (o.arg % 16) 0 0 else s.raise 24 0 o.entry 0 0

theorem State.raiseDeadline_only (o : Occ) (s : State) : onlyReports [] s (s.raiseDeadline o) := by
  unfold State.raiseDeadline
  split
  · exact State.raise_only [] s 24 1 _ 0 0 (by decide)
  · exact State.raise_only [] s 24 0 _ 0 0 (by decide)

/-- The faults of a closed window, one for each group that has not started. -/
def State.raiseDeadlines (o : Occ) (k : Nat) (s : State) : State := (List.range k).foldl (fun s _ => s.raiseDeadline o) s

theorem State.raiseDeadlines_only (o : Occ) (k : Nat) (s : State) : onlyReports [] s (s.raiseDeadlines o k) :=
  List.foldlRecOn (motive := onlyReports [] s) _ _ (onlyReports_refl _ s) fun u hu _ _ => onlyReports_trans hu (u.raiseDeadline_only o)

/-- Where there is one at all, the last is reported. -/
theorem State.raiseDeadlines_succ (o : Occ) (k : Nat) (s : State) : s.raiseDeadlines o (k + 1) = (s.raiseDeadlines o k).raiseDeadline o := by
  rw [State.raiseDeadlines, List.range_succ, List.foldl_append]
  rfl

/-- How many faults a closed window raises. -/
def Occ.deadlines (o : Occ) : Nat := if o.action = 4 ∨ o.action = 5 then ((List.range 4).filter (bitOf o.groups)).length else 1

theorem Occ.deadlines_pos {o : Occ} (h : o.action = 4 ∨ o.action = 5 → ∃ g < 4, bitOf o.groups g = true) : ∃ k, o.deadlines = k + 1 := by
  refine Nat.exists_eq_add_one.mpr ?_
  unfold Occ.deadlines
  split
  · next hm =>
    obtain ⟨g, hg, hbit⟩ := h hm
    exact List.length_pos_of_mem (List.mem_filter.mpr ⟨List.mem_range.mpr hg, hbit⟩)
  · exact Nat.one_pos

theorem State.raiseDeadlines_last {o : Occ} (h : o.action = 4 ∨ o.action = 5 → ∃ g < 4, bitOf o.groups g = true) (s : State) :
    ∃ u : State, s.raiseDeadlines o o.deadlines = u.raiseDeadline o := by
  obtain ⟨k, hk⟩ := Occ.deadlines_pos h
  rw [hk]
  exact ⟨_, s.raiseDeadlines_succ o k⟩

/-- An occurrence whose window has closed: dropped, counted, with STATE 4. -/
def State.missOcc (s : State) (o : Occ) : State := ((s.dropOcc o).bumpF TIME.SCHED_COUNTS.DEADLINE 1).outcome o.entry 4 0

theorem schedWindowClose_ends {o : Occ} (ho : o.entry < 256) (hc : Tbl.get false s.sched.cancel o.entry = false)
    (hf : s.sched.waiting.find? (fun x => x.entry == o.entry && !x.started && !s.inWindow x) = some o) :
    ∃ t, exec (.schedWindowClose o.entry) s = .next t ∧ t.fld (TIME.SCHED_STATUS.STATE o.entry) = 4 ∧
      counted TIME.SCHED_COUNTS.DEADLINE s t ∧ t.sched.waiting = s.sched.waiting.erase o ∧
      (o.action = 10 → reported 24 1 (o.arg % 16) 0 t) ∧
      (o.action ≠ 10 → (o.action = 4 ∨ o.action = 5 → ∃ g < 4, bitOf o.groups g = true) → reported 24 0 o.entry 0 t) := by
  have heff : effSchedWindowClose o.entry s = (s.missOcc o).raiseDeadlines o o.deadlines := by
    rw [effSchedWindowClose, hf]
    rfl
  have honly := State.raiseDeadlines_only o o.deadlines (s.missOcc o)
  have hcd : Tbl.get false ((s.dropOcc o).bumpF TIME.SCHED_COUNTS.DEADLINE 1).sched.cancel o.entry = false := hc
  refine ⟨_, congrArg Host.Outcome.next heff, ?_, ?_, ?_, fun ha => ?_, fun ha hg => ?_⟩
  · exact (honly.1 _ List.not_mem_nil (isReport_schedState ho)).trans (State.outcome_fields hcd 4 0).1
  · exact (honly.1 _ List.not_mem_nil (by decide)).trans (((State.outcome_only hcd 4 0).1 _ schedCounts_not_mem.2).trans
      (State.fld_bumpF_same (s.dropOcc o) _ 1))
  · rw [honly.sched_eq]
    exact congrArg SchedSt.waiting (State.outcome_sched hcd 4 0)
  · obtain ⟨u, hu⟩ := (s.missOcc o).raiseDeadlines_last (o := o) fun h => by omega
    rw [hu, State.raiseDeadline, if_pos ha]
    exact State.raise_reported _ 24 1 _ 0 0 (by decide) (by decide) (by decide) (by omega) (by decide)
  · obtain ⟨u, hu⟩ := (s.missOcc o).raiseDeadlines_last hg
    rw [hu, State.raiseDeadline, if_neg ha]
    exact State.raise_reported _ 24 0 _ 0 0 (by decide) (by decide) (by decide) ho (by decide)

end

/-- Settles O17: an occurrence joins or is STALE, nothing is dispatched outside READY and ACQUIRE, and each end drops it. -/
theorem dispatchedOccurrencesEndOnce : Obligations.DispatchedOccurrencesEndOnce := by
  refine ⟨fun s n d hd hn => ⟨fun ha hp hl hfirst => ?_, schedDispatch_inactive⟩,
    fun s o ho hc => ⟨State.endOcc_executed hc, State.endOcc_refused ho hc, ?_⟩⟩
  · have hexec := schedDispatch_judges hd hn ha hp hl hfirst
    refine ⟨fun l hlate hok => ?_, fun l hlate hne hbad hc hact => ?_⟩
    · rw [← hlate, State.judge, if_pos hok] at hexec
      obtain ⟨hwait, hlast, hdue, hregs, hrest⟩ := State.dispatchOcc_joins (s := s) n d l
      exact ⟨_, _, hexec, hwait, rfl, rfl, rfl, rfl, rfl, rfl, rfl, rfl, hlast, hdue, hregs, hrest⟩
    · have hstale : ¬(l = 0 ∨ (s.bit (TIME.SCHED_ACT.POLICY n) = true ∧ l ≤ s.fld (TIME.SCHED_LIMIT.LATE_MAX n))) := by
        rintro (h | ⟨hpol, hmax⟩)
        · exact hne h
        · exact hbad.elim (fun h => Bool.false_ne_true (h.symm.trans hpol)) fun h => Nat.not_le.mpr h hmax
      rw [← hlate, State.judge, if_neg hstale] at hexec
      exact ⟨_, hexec, State.stale_ends hn d hc hact⟩
  · rintro n rfl hf
    exact schedWindowClose_ends ho hc hf

end Sys2Proof.Machine
end

section
/-!
SUPPORT. Dispatched actions (R47, R48, R243, Table 02-4): what each does once it starts, and what an ARM asks for.
-/

namespace Sys2Proof.Machine

section
variable {s : State} {n : Nat} {o : Occ}

/-! ### Actions of one resource -/

section
variable (ha : s.active = true) (hw : s.inWindow o = true) (hl : s.firstInLine o = true)
include ha hw hl

theorem State.runAction_starts {action : Nat} {free : Occ → Bool} {act : Occ → State → Option Nat × State}
    (hf : s.findOcc n action = some o) (hfree : free o = true) : s.runAction n action free act = (act o s).2.endOcc o (act o s).1 := by
  rw [State.runAction, hf]
  exact if_pos (by rw [ha, hw, hl, hfree]; rfl)

theorem actionTimeMark_marks (hf : s.findOcc n 12 = some o) : exec (.actionTimeMark n) s = .next (State.endOcc { s with trg := { s.trg with
    marks := ((o.arg % 4, s.now / 10 * 10) :: s.trg.marks).take 64 } } o none) :=
  congrArg Host.Outcome.next (State.runAction_starts ha hw hl hf rfl)

theorem actionMonSeq_pends (hf : s.findOcc n 6 = some o) (hb : s.monBusy = false) : exec (.actionMonSeq n) s = .next (State.endOcc
    { s with mgt := { s.mgt with monPend := some (o.arg % 16, s.now + o.arg / 2 ^ 16 * 10) } } o none) :=
  congrArg Host.Outcome.next (State.runAction_starts ha hw hl hf (by rw [hb]; rfl))

theorem effActionPsrEnter_starts (hf : s.findOcc n 7 = some o) : effActionPsrEnter n s =
    if s.bit DSP.STATUS.PSR_CAP then (s.requestEntry false).endOcc o none else s.endPsrRefused o := by
  rw [effActionPsrEnter, hf]
  exact if_pos (by rw [ha, hw, hl]; rfl)

theorem actionPsrEnter_enters (hf : s.findOcc n 7 = some o) (hc : s.bit DSP.STATUS.PSR_CAP = true) :
    exec (.actionPsrEnter n) s = .next ((s.requestEntry false).endOcc o none) :=
  congrArg Host.Outcome.next ((effActionPsrEnter_starts ha hw hl hf).trans (if_pos hc))

theorem actionPsrEnter_refused (hf : s.findOcc n 7 = some o) (hc : s.bit DSP.STATUS.PSR_CAP = false) :
    exec (.actionPsrEnter n) s = .next (s.endPsrRefused o) :=
  congrArg Host.Outcome.next ((effActionPsrEnter_starts ha hw hl hf).trans (if_neg (Bool.eq_false_iff.mp hc)))

theorem actionPsrExit_exits (hf : s.findOcc n 8 = some o) : exec (.actionPsrExit n) s = .next ((s.requestExit false).endOcc o none) :=
  congrArg Host.Outcome.next (State.runAction_starts ha hw hl hf rfl)

/-- What a RDO_START does by the state of its queue (R48, R293). -/
theorem actionRdoStart_starts (hf : s.findOcc n 9 = some o) :
    (s.queueState (o.arg % 512) = queueIdle →
      exec (.actionRdoStart n) s = .next (if s.dev.outOk then (s.startQueue (o.arg % 512)).endOcc o none else s.endOcc o (some 4))) ∧
    (s.queueState (o.arg % 512) = queueHalted → exec (.actionRdoStart n) s = .next (if s.fld (RDO.Q_STATE.CAUSE (o.arg % 512)) = 8
      then (s.resumeQueue (o.arg % 512)).endOcc o none else s.endOcc o (some 4))) ∧
    (s.queueState (o.arg % 512) ≠ queueIdle → s.queueState (o.arg % 512) ≠ queueHalted →
      exec (.actionRdoStart n) s = .next ((s.ringDoorbell (o.arg % 512)).endOcc o none)) := by
  have heff : effActionRdoStart n s = _ := State.runAction_starts ha hw hl hf rfl
  dsimp only at heff
  refine ⟨fun h => congrArg Host.Outcome.next ?_, fun h => congrArg Host.Outcome.next ?_, fun h k => congrArg Host.Outcome.next ?_⟩
  · rw [heff, if_pos h]
    split
    · rfl
    · rfl
  · rw [heff, if_neg (by rw [h]; decide), if_pos h]
    split
    · rfl
    · rfl
  · rw [heff, if_neg h, if_neg k]

theorem actionDeal_deals (hf : s.findOcc n 3 = some o) : exec (.actionDeal n) s = .next (if s.actsAsDealer && s.portsRun
    then (s.deal (o.arg % 16) o.at_).endOcc o none else s.endOcc o (some 0)) := by
  have heff : effActionDeal n s = _ := State.runAction_starts ha hw hl hf rfl
  refine congrArg Host.Outcome.next ?_
  rw [heff]
  split
  · rfl
  · rfl

/-- What a DRAM_RETRAIN does by the service of its channel and the training sequencer (R260, R333). -/
theorem actionDramRetrain_starts (hf : s.findOcc n 10 = some o) (hi : s.chanIdle o = true) :
    (s.inService (o.arg % 16) = true → (s.sunit 68).st ≠ 3 → exec (.actionDramRetrain n) s = .next (((State.restartTraining { s with
      mem := { s.mem with pause := Tbl.set false s.mem.pause (o.arg % 16) true }
      seq := { s.seq with training := withBit s.seq.training (o.arg % 16) } }).seqRequest 68 1).endOcc o none)) ∧
    (s.inService (o.arg % 16) = true → (s.sunit 68).st = 3 → exec (.actionDramRetrain n) s = .next (s.endOcc o none)) ∧
    (s.inService (o.arg % 16) = false → exec (.actionDramRetrain n) s = .next (s.endOcc o (some 0))) := by
  have heff : effActionDramRetrain n s = _ := State.runAction_starts ha hw hl hf hi
  dsimp only at heff
  refine ⟨fun h k => congrArg Host.Outcome.next ?_, fun h k => congrArg Host.Outcome.next ?_, fun h => congrArg Host.Outcome.next ?_⟩
  · rw [heff, if_neg (by rw [h]; decide), if_neg k]
  · rw [heff, if_neg (by rw [h]; decide), if_pos k]
  · rw [heff, if_pos h]

theorem actionRefreshMakeup_starts (hf : s.findOcc n 11 = some o) (hi : s.chanIdle o = true) :
    (s.inService (o.arg % 16) = true → exec (.actionRefreshMakeup n) s = .next
      ((((List.range 4).filter (s.rankThere (o.arg % 16))).foldl (fun s r => s.startBurst (o.arg % 16) r) s).endOcc o none)) ∧
    (s.inService (o.arg % 16) = false → exec (.actionRefreshMakeup n) s = .next (s.endOcc o (some 0))) := by
  have heff : effActionRefreshMakeup n s = _ := State.runAction_starts ha hw hl hf hi
  dsimp only at heff
  refine ⟨fun h => congrArg Host.Outcome.next ?_, fun h => congrArg Host.Outcome.next ?_⟩
  · rw [heff, if_pos h]
  · rw [heff, if_neg (by rw [h]; decide)]

theorem actionDisarm_disarms (hf : s.findOcc n 2 = some o) (hb : s.disarmBar (o.arg % 64) = none) :
    exec (.actionDisarm n) s = .next ((s.disarmPlan (o.arg % 64)).endOcc o none) := by
  have heff : effActionDisarm n s = _ := State.runAction_starts ha hw hl hf rfl
  rw [hb] at heff
  exact congrArg Host.Outcome.next heff

theorem actionDisarm_refused (c : Nat) (hf : s.findOcc n 2 = some o) (hb : s.disarmBar (o.arg % 64) = some c) :
    exec (.actionDisarm n) s = .next (s.endOcc o (some c)) := by
  have heff : effActionDisarm n s = _ := State.runAction_starts ha hw hl hf rfl
  rw [hb] at heff
  exact congrArg Host.Outcome.next heff

end

/-! ### Masks of groups (R47) -/

section
variable (ha : s.active = true) {action : Nat} {act : State → Nat → State} (hf : s.findMask n action = some o)
include ha hf

theorem State.runMask_ends (hz : (s.startable o).foldl withoutBit o.groups = 0) :
    s.runMask n action act = ((s.startable o).foldl act s).endOcc o none := by
  rw [State.runMask, hf]
  exact (if_pos ha).trans (if_pos hz)

theorem State.runMask_waits (u : State) (left : Nat) (hu : u = (s.startable o).foldl act s)
    (hg : left = (s.startable o).foldl withoutBit o.groups) (hz : left ≠ 0) :
    s.runMask n action act = { u with sched := { u.sched with
      waiting := u.sched.waiting.map fun x => if x = o then { o with groups := left } else x } } := by
  subst hu hg
  rw [State.runMask, hf]
  exact (if_pos ha).trans (if_neg hz)

end

/-! ### ARM (R152, R190, R243) -/

/-- The occurrence marked as started. -/
def State.beginOcc (s : State) (o : Occ) : State :=
  { s with sched := { s.sched with waiting := s.sched.waiting.map (fun x => if x = o then { o with started := true } else x) } }

/-- The arm that an ARM asks for. -/
def Occ.armReq (o : Occ) (n : Nat) : AdmReq := { kind := 7, id := o.arg % 64, origin := 2, entry := n, val := o.lateBy }

section
variable (ha : s.active = true) (hf : s.findOcc n 1 = some o) (hw : s.inWindow o = true) (hl : s.firstInLine o = true)
include ha hf hw hl

theorem effActionArm_starts : effActionArm n s =
    if Tbl.get 0 s.ens.dealTick (o.arg % 64) = o.at_.toNat + 1 then s.endOcc o none
    else if s.planOf (o.arg % 64) ≠ none ∧ s.slotOfPlan (o.arg % 64) = none then (s.beginOcc o).submit { o.armReq n with kind := 0 }
    else match (s.beginOcc o).askArm (o.armReq n) (decide (o.lateBy ≠ 0)) with
      | (some c, s') => s'.answer (o.armReq n) 3 c
      | (none, s') => s' := by
  rw [effActionArm, hf]
  exact if_pos (by rw [ha, hw, hl]; rfl)

theorem actionArm_afterDeal (hd : Tbl.get 0 s.ens.dealTick (o.arg % 64) = o.at_.toNat + 1) :
    exec (.actionArm n) s = .next (s.endOcc o none) :=
  congrArg Host.Outcome.next ((effActionArm_starts ha hf hw hl).trans (if_pos hd))

variable (hd : Tbl.get 0 s.ens.dealTick (o.arg % 64) ≠ o.at_.toNat + 1)
include hd

theorem actionArm_submits (hp : s.planOf (o.arg % 64) ≠ none) (hk : s.slotOfPlan (o.arg % 64) = none) :
    exec (.actionArm n) s = .next ((s.beginOcc o).submit { o.armReq n with kind := 0 }) :=
  congrArg Host.Outcome.next ((effActionArm_starts ha hf hw hl).trans ((if_neg hd).trans (if_pos ⟨hp, hk⟩)))

theorem actionArm_asks (hp : s.planOf (o.arg % 64) ≠ none → s.slotOfPlan (o.arg % 64) ≠ none) : exec (.actionArm n) s =
    .next (match (s.beginOcc o).askArm (o.armReq n) (decide (o.lateBy ≠ 0)) with
      | (some c, s') => s'.answer (o.armReq n) 3 c
      | (none, s') => s') :=
  congrArg Host.Outcome.next ((effActionArm_starts ha hf hw hl).trans ((if_neg hd).trans (if_neg fun h => hp h.1 h.2)))

theorem actionArm_barred {c : Nat} (hp : s.planOf (o.arg % 64) ≠ none → s.slotOfPlan (o.arg % 64) ≠ none)
    (hb : s.armBar (o.arg % 64) = some c) : exec (.actionArm n) s = .next ((s.beginOcc o).answer (o.armReq n) 3 c) := by
  have hask : (s.beginOcc o).askArm (o.armReq n) (decide (o.lateBy ≠ 0)) = (some c, s.beginOcc o) := by
    have hbar : (s.beginOcc o).armBar (o.armReq n).id = some c := hb
    rw [State.askArm, hbar]
  rw [actionArm_asks ha hf hw hl hd hp, hask]

theorem actionArm_grows {k : Nat} {pl : Plan} (hp : s.planOf (o.arg % 64) = some pl) (hk : s.slotOfPlan (o.arg % 64) = some k)
    (hb : s.armBar (o.arg % 64) = none) (hg : (s.beginOcc o).armGrows k pl = true) :
    exec (.actionArm n) s = .next ((s.beginOcc o).submit (o.armReq n)) := by
  have hask : (s.beginOcc o).askArm (o.armReq n) (decide (o.lateBy ≠ 0)) = (none, (s.beginOcc o).submit (o.armReq n)) := by
    have hbar : (s.beginOcc o).armBar (o.armReq n).id = none := hb
    have hplan : (s.beginOcc o).planOf (o.armReq n).id = some pl := hp
    have hslot : (s.beginOcc o).slotOfPlan (o.armReq n).id = some k := hk
    rw [State.askArm, hbar, hplan, hslot]
    exact if_pos hg
  rw [actionArm_asks ha hf hw hl hd fun _ h => Option.some_ne_none k (hk.symm.trans h), hask]

theorem actionArm_arms {k : Nat} {pl : Plan} (hp : s.planOf (o.arg % 64) = some pl) (hk : s.slotOfPlan (o.arg % 64) = some k)
    (hb : s.armBar (o.arg % 64) = none) (hg : (s.beginOcc o).armGrows k pl = false) :
    exec (.actionArm n) s = .next (((s.beginOcc o).doArm k pl (decide (o.lateBy ≠ 0))).2.answer (o.armReq n) 3
      ((s.beginOcc o).doArm k pl (decide (o.lateBy ≠ 0))).1) := by
  have hask : (s.beginOcc o).askArm (o.armReq n) (decide (o.lateBy ≠ 0)) =
      (some ((s.beginOcc o).doArm k pl (decide (o.lateBy ≠ 0))).1, ((s.beginOcc o).doArm k pl (decide (o.lateBy ≠ 0))).2) := by
    have hbar : (s.beginOcc o).armBar (o.armReq n).id = none := hb
    have hplan : (s.beginOcc o).planOf (o.armReq n).id = some pl := hp
    have hslot : (s.beginOcc o).slotOfPlan (o.armReq n).id = some k := hk
    rw [State.askArm, hbar, hplan, hslot]
    exact if_neg (Bool.eq_false_iff.mp hg)
  rw [actionArm_asks ha hf hw hl hd fun _ h => Option.some_ne_none k (hk.symm.trans h), hask]

end

/-- A plan of no library is refused with 6. -/
theorem State.armBar_noPlan {p : Nat} (h : s.planOf p = none) : s.armBar p = some 6 := by
  rw [State.armBar, h]

/-- An armed plan is refused with 5. -/
theorem State.armBar_armed {p k : Nat} {sl : Slot} (hp : s.planOf p ≠ none) (hk : s.slotOfPlan p = some k) (hs : s.slotOf? k = some sl)
    (h : sl.armed = true) : s.armBar p = some 5 := by
  obtain ⟨pl, hpl⟩ := Option.ne_none_iff_exists'.mp hp
  unfold State.armBar
  simp only [hpl, hk, hs, h, Bool.true_or, if_true]

end

/-- Settles O18: an action of one resource by `runAction_starts`, a mask by what is left of it, an ARM by what it asks for. -/
theorem actionsStartOnTheirResources : Obligations.ActionsStartOnTheirResources := by
  refine ⟨fun s n o ha hw hl => ⟨actionTimeMark_marks ha hw hl, actionMonSeq_pends ha hw hl, actionPsrEnter_enters ha hw hl,
      actionPsrEnter_refused ha hw hl, actionPsrExit_exits ha hw hl, actionRdoStart_starts ha hw hl, actionDeal_deals ha hw hl,
      actionDramRetrain_starts ha hw hl, actionRefreshMakeup_starts ha hw hl, actionDisarm_disarms ha hw hl, actionDisarm_refused ha hw hl⟩,
    fun s n o ha => ⟨fun hf hz => congrArg Host.Outcome.next (State.runMask_ends ha hf hz),
      fun hf hz => congrArg Host.Outcome.next (State.runMask_ends ha hf hz),
      fun u left hu hg hf hz => congrArg Host.Outcome.next (State.runMask_waits ha hf u left hu hg hz),
      fun u left hu hg hf hz => congrArg Host.Outcome.next (State.runMask_waits ha hf u left hu hg hz),
      fun hf hw hl => ⟨actionArm_afterDeal ha hf hw hl, fun hd b hb => ?_⟩⟩⟩
  subst hb
  exact ⟨actionArm_submits ha hf hw hl hd, fun hp => actionArm_barred ha hf hw hl hd (fun h => absurd hp h) (State.armBar_noPlan hp),
    fun c _ hk hb => actionArm_barred ha hf hw hl hd (fun _ => hk) hb, fun k sl hp hk hs h => State.armBar_armed hp hk hs h,
    fun k pl hp hk hb hg => actionArm_grows ha hf hw hl hd hp hk hb hg, fun k pl hp hk hb hg => actionArm_arms ha hf hw hl hd hp hk hb hg⟩

end Sys2Proof.Machine
end

section
/-!
SUPPORT. Deals (R45, R47, R223, R235, R236): a copy that is accepted, the internal actions that a deal commits, and how one of them ends.
-/

namespace Sys2Proof.Machine

/-- Reports beside a change of the ensemble's own state. -/
theorem onlyReports.beside_ens {A : List Nat} {s t x : State} (h : onlyReports A x t) (k : onlyReports A s { x with ens := s.ens }) :
    onlyReports A s { t with ens := s.ens } :=
  ⟨fun g hg hr => (h.1 g hg hr).trans (k.1 g hg hr), (congrArg (fun u : State =>
    { u with regs := s.regs, mgt := s.mgt, host := s.host, evt := s.evt, out := s.out, ens := s.ens }) h.2 : _).trans k.2⟩

/-! ### A message taken (R215, R223) -/

theorem readCopy_nil : readCopy [] = none := by decide

theorem State.acceptMsg_eq (s : State) (m : Msg) : ∃ e, (s.acceptMsg m).2 = { s with ens := e } := by
  unfold State.acceptMsg
  split
  · dsimp only
    split
    · exact ⟨_, rfl⟩
    · exact ⟨_, rfl⟩
  · dsimp only
    split
    · exact ⟨_, rfl⟩
    · exact ⟨_, rfl⟩

/-- Whose a message is does not depend on what has been accepted. -/
theorem State.acceptMsg_ownMsg (s : State) (m : Msg) : (s.acceptMsg m).2.ownMsg m = s.ownMsg m := by
  obtain ⟨e, he⟩ := s.acceptMsg_eq m
  rw [he]
  rfl

/-- A copy that arrives, of the kind its command names, is acted on as accepted. -/
theorem State.takeMsg_arrives {s : State} {p typ : Nat} {op : Option Nat} {bl : List WireBlock} {m : Msg} {u : State}
    (act : Msg → Bool → State → State) (h : arrives s p typ bl m u) (hop : m.names typ op = true) :
    s.takeMsg p typ op bl act = act m true u ∧ u.ownMsg m = false := by
  obtain ⟨hport, hrun, hcopy, _, v, rfl, hown, hdst, hacc⟩ := h
  have hu : (((s.erroredBlocks p bl).forwardMsg p m).acceptMsg m).2 = u := congrArg Prod.snd hacc
  refine ⟨?_, hu ▸ (State.acceptMsg_ownMsg _ m).trans hown⟩
  have hdst' : ¬(m.dst ≠ 255 ∧ m.dst ≠ ((s.erroredBlocks p bl).forwardMsg p m).fld ENS.STATUS.ADDR) := fun hn => hdst.elim hn.1 hn.2
  rw [State.takeMsg, hport, hrun, hcopy]
  cases hbl : msgBlocks bl with
  | nil => exact absurd (hcopy.symm.trans ((congrArg readCopy hbl).trans readCopy_nil)) (Option.some_ne_none m)
  | cons b bs =>
    dsimp only
    rw [Bool.and_self, if_pos rfl, if_neg (by rw [hop]; decide), hown, if_neg (by decide), if_neg hdst', hacc]

/-! ### What a deal commits (R236) -/

theorem bitOf_two_pow (k p : Nat) : bitOf (2 ^ k) p = (p == k) := by
  have hzero : bitOf 0 p = false := by simp [bitOf]
  have h := bitOf_add_two_pow 0 k p (by simp [bitOf])
  rwa [Nat.zero_add, hzero, Bool.or_false] at h

/-- A mask of one plan of the library names that plan alone. -/
theorem State.dealPlans_one {s : State} {k : Nat} (hk : k < 64) (hp : (s.planOf k).isSome = true) :
    ((List.range 64).filter fun p => bitOf (2 ^ k) p && (s.planOf p).isSome) = [k] := by
  have hpred : ∀ p ∈ List.range 64, (bitOf (2 ^ k) p && (s.planOf p).isSome) = (p == k) := fun p _ => by
    rw [bitOf_two_pow]
    by_cases h : p = k
    · rw [h, hp, Bool.and_true]
    · rw [beq_eq_false_iff_ne.mpr h, Bool.false_and]
  rw [List.filter_congr hpred, List.filter_beq, List.count_eq_one_of_mem List.nodup_range (List.mem_range.mpr hk)]
  rfl

/-- The registers of a deal accepted: TRICK_NEXT and LAST_DEAL. -/
def State.showDeal (s : State) (op deal src base : Nat) : State :=
  ((((if laterTrick base (s.fld ENS.TRICK_NEXT.NEXT) then s.setTrickNext base else s).setF ENS.LAST_DEAL.OP op).setF
    ENS.LAST_DEAL.DEAL deal).setF ENS.LAST_DEAL.SRC src).clearFs [ENS.LAST_DEAL.OUTCOME, ENS.LAST_DEAL.LATE_BY]

theorem State.showDeal_eq (s : State) (op deal src base : Nat) : ∃ r, s.showDeal op deal src base = { s with regs := r } := by
  unfold State.showDeal
  split
  · exact ⟨_, rfl⟩
  · exact ⟨_, rfl⟩

theorem State.acceptDeal_one {s : State} (op deal src : Nat) {k : Nat} (base : Nat) (at_ : Tick) (hk : k < 64)
    (hp : (s.planOf k).isSome = true) : (s.acceptDeal op deal src (2 ^ k) base at_).ens.deals = s.ens.deals ++ [
      { id := s.ens.dealIds, deal := deal, op := op, plan := k, tick := at_,
        lateBy := if duePast s.tick at_ then (s.tick - at_).toNat else 0 }] := by
  have hacc : s.acceptDeal op deal src (2 ^ k) base at_ = ((List.range 64).filter fun p =>
      bitOf (2 ^ k) p && ((s.showDeal op deal src base).planOf p).isSome).foldl (fun (t : State) p =>
        { t with ens := { t.ens with dealIds := t.ens.dealIds + 1, deals := t.ens.deals ++ [
          { id := t.ens.dealIds, deal := deal, op := op, plan := p, tick := at_, lateBy :=
            if duePast (s.showDeal op deal src base).tick at_ then ((s.showDeal op deal src base).tick - at_).toNat else 0 }] } })
      (s.showDeal op deal src base) := rfl
  obtain ⟨r, hr⟩ := s.showDeal_eq op deal src base
  rw [hacc, hr, State.dealPlans_one hk (show (State.planOf { s with regs := r } k).isSome = true from hp)]
  rfl

/-! ### A deal that arrives (R236) -/

/-- The fields that a deal ignored writes. -/
def ignoredDealFields (op deal src : Nat) : List (Fld × Nat) :=
  [(ENS.LAST_DEAL.OP, op), (ENS.LAST_DEAL.DEAL, deal), (ENS.LAST_DEAL.SRC, src), (ENS.LAST_DEAL.OUTCOME, 3), (ENS.LAST_DEAL.LATE_BY, 0)]

theorem State.takeDeal_dealt (u : State) (m : Msg) : dealt u m (.next (u.takeDeal m)) := by
  refine ⟨fun h => ⟨_, rfl, ?_⟩, fun hg ha => congrArg Host.Outcome.next (if_neg fun h => h.elim (Nat.not_lt.mpr hg) ?_)⟩
  · have heq : u.takeDeal m = (u.setFs (ignoredDealFields (num m.data 0 1) (num m.data 1 1) m.src)).bumpF ENS.DEAL_COUNTS.IGNORED 1 := if_pos h
    have honly : onlyRegs [ENS.LAST_DEAL.OP.addr, ENS.LAST_DEAL.DEAL.addr, ENS.LAST_DEAL.SRC.addr, ENS.LAST_DEAL.OUTCOME.addr,
        ENS.LAST_DEAL.LATE_BY.addr] u (u.setFs (ignoredDealFields (num m.data 0 1) (num m.data 1 1) m.src)) :=
      onlyRegs_setFs u fun _ hw => List.mem_map_of_mem (f := fun w : Fld × Nat => w.1.addr) hw
    have hnd : [ENS.LAST_DEAL.OP.addr, ENS.LAST_DEAL.DEAL.addr, ENS.LAST_DEAL.SRC.addr, ENS.LAST_DEAL.OUTCOME.addr,
        ENS.LAST_DEAL.LATE_BY.addr].Nodup := by decide
    rw [heq]
    refine ⟨?_, ?_, (honly.weaken (List.subset_append_left _ [ENS.DEAL_COUNTS.IGNORED.addr])).bumpF
      (List.mem_append_right _ List.mem_cons_self)⟩
    · rw [State.fld_bumpF_ne _ _ _ _ (by decide)]
      exact fld_setFs (ws := ignoredDealFields (num m.data 0 1) (num m.data 1 1) m.src) hnd u (ENS.LAST_DEAL.OUTCOME, 3)
        (by simp [ignoredDealFields])
    · rw [counted, State.fld_bumpF_same, honly.1 _ (by decide)]
      rfl
  · rw [ha]
    decide

theorem deal_dealt {s : State} {p : Nat} {bl : List WireBlock} {m : Msg} {u : State} {op : Nat} (h : arrives s p 2 bl m u)
    (hop : num m.data 0 1 = op) :
    dealt u m (.next (s.takeMsg p 2 (some op) bl fun m fresh s => if fresh && !s.ownMsg m then s.takeDeal m else s)) := by
  have htyp : m.typ = 2 := h.2.2.2.1
  have hnames : m.names 2 (some op) = true := by simp [Msg.names, htyp, hop]
  obtain ⟨htake, hown⟩ := State.takeMsg_arrives (fun m fresh s => if fresh && !s.ownMsg m then s.takeDeal m else s) h hnames
  rw [htake, hown]
  exact u.takeDeal_dealt m

/-! ### DEAL_CMD (R235) -/

theorem dealCmd_refused {s : State} {v c : Nat} (hc : c < 4) (h : effDealCmd v s = s.setF ENS.DEAL_CMD.RESULT c) :
    ∃ t, exec (.dealCmd v) s = .next t ∧ t.fld ENS.DEAL_CMD.RESULT = c ∧ onlyRegs [ENS.DEAL_CMD.RESULT.addr] s t :=
  ⟨_, congrArg Host.Outcome.next h, (State.fld_setF_same s _ c).trans (Nat.mod_eq_of_lt (Nat.lt_of_lt_of_le hc (by decide))),
    onlyRegs_setF _ s _ c List.mem_cons_self⟩

section
variable {s : State} {v : Nat} (hv : s.served 0x8001C = true)
include hv

theorem effDealCmd_served : effDealCmd v s =
    if !s.actsAsDealer then s.setF ENS.DEAL_CMD.RESULT 1
    else if !s.bit (ENS.DEAL_DEF.VALID (v % 16)) then s.setF ENS.DEAL_CMD.RESULT 2
    else if !s.active then s.setF ENS.DEAL_CMD.RESULT 3
    else (s.deal (v % 16) s.tick).setF ENS.DEAL_CMD.RESULT 0 := if_pos hv

theorem dealCmd_notDealer (h : s.actsAsDealer = false) : ∃ t, exec (.dealCmd v) s = .next t ∧ t.fld ENS.DEAL_CMD.RESULT = 1 ∧
    onlyRegs [ENS.DEAL_CMD.RESULT.addr] s t :=
  dealCmd_refused (by decide) ((effDealCmd_served hv).trans (if_pos (by rw [h]; rfl)))

variable (hd : s.actsAsDealer = true)
include hd

theorem dealCmd_invalid (h : s.bit (ENS.DEAL_DEF.VALID (v % 16)) = false) : ∃ t, exec (.dealCmd v) s = .next t ∧
    t.fld ENS.DEAL_CMD.RESULT = 2 ∧ onlyRegs [ENS.DEAL_CMD.RESULT.addr] s t :=
  dealCmd_refused (by decide) ((effDealCmd_served hv).trans ((if_neg (by rw [hd]; decide)).trans (if_pos (by rw [h]; rfl))))

theorem dealCmd_inactive (h : s.bit (ENS.DEAL_DEF.VALID (v % 16)) = true) (ha : s.active = false) : ∃ t, exec (.dealCmd v) s = .next t ∧
    t.fld ENS.DEAL_CMD.RESULT = 3 ∧ onlyRegs [ENS.DEAL_CMD.RESULT.addr] s t :=
  dealCmd_refused (by decide) ((effDealCmd_served hv).trans ((if_neg (by rw [hd]; decide)).trans
    ((if_neg (by rw [h]; decide)).trans (if_pos (by rw [ha]; rfl)))))

theorem dealCmd_sends (h : s.bit (ENS.DEAL_DEF.VALID (v % 16)) = true) (ha : s.active = true) :
    exec (.dealCmd v) s = .next ((s.deal (v % 16) s.tick).setF ENS.DEAL_CMD.RESULT 0) :=
  congrArg Host.Outcome.next ((effDealCmd_served hv).trans ((if_neg (by rw [hd]; decide)).trans
    ((if_neg (by rw [h]; decide)).trans (if_neg (by rw [ha]; decide)))))

end

/-! ### An internal action (R45, R47, R236) -/

theorem State.endDeal_drops (s : State) (id c l : Nat) : ∀ x ∈ (s.endDeal id c l).ens.deals, x.id ≠ id := fun x hx => by
  have hmem : x ∈ s.ens.deals.filter fun d => d.id != id := hx
  exact bne_iff_ne.mp (List.mem_filter.mp hmem).2

/-- LAST_DEAL after an internal action has ended. -/
theorem State.endDeal_shows (s : State) (id c l : Nat) : (s.endDeal id c l).fld ENS.LAST_DEAL.OUTCOME = c % 8 ∧
    (s.endDeal id c l).fld ENS.LAST_DEAL.LATE_BY = min l 65535 ∧
    onlyRegs [ENS.LAST_DEAL.OUTCOME.addr, ENS.LAST_DEAL.LATE_BY.addr] s { s.endDeal id c l with ens := s.ens } := by
  refine ⟨(State.fld_setF_ne _ _ _ _ (by decide)).trans (State.fld_setF_same _ _ c), (State.fld_setF_same _ _ _).trans
    (Nat.mod_eq_of_lt (Nat.lt_of_le_of_lt (Nat.min_le_right ..) (by decide))), ?_⟩
  exact ((onlyRegs_refl [ENS.LAST_DEAL.OUTCOME.addr, ENS.LAST_DEAL.LATE_BY.addr] s).setF (f := ENS.LAST_DEAL.OUTCOME) (v := c)
    (by decide)).setF (f := ENS.LAST_DEAL.LATE_BY) (v := min l 65535) (by decide)

section
variable {s : State} {id : Nat} {d : DealAct} (hf : s.ens.deals.find? (fun d => d.id == id && !d.started) = some d)
  (ha : s.active = true)
include hf

theorem dealFound_id : d.id = id := by
  have h := List.find?_some hf
  simp only [Bool.and_eq_true, beq_iff_eq] at h
  exact h.1

theorem effDealActionDue_found : effDealActionDue id s =
    if s.active && duePast s.tick d.tick then
      if d.lateBy ≤ s.fld ENS.DEAL_CFG.LATE_MAX then
        if s.dealWaited d ≤ s.fld ENS.DEAL_CFG.LATE_MAX then s.dispatchDeal d else s.missDeal d
      else (s.endDeal d.id 2 d.lateBy).raise 118 0 d.deal (min d.lateBy 65535) 0
    else s := by
  rw [effDealActionDue, hf]

theorem dealActionDue_early (hp : duePast s.tick d.tick = false) : exec (.dealActionDue id) s = .next s :=
  congrArg Host.Outcome.next ((effDealActionDue_found hf).trans (if_neg (by rw [hp, Bool.and_false]; decide)))

include ha

variable (hp : duePast s.tick d.tick = true)
include hp

theorem effDealActionDue_due : effDealActionDue id s =
    if d.lateBy ≤ s.fld ENS.DEAL_CFG.LATE_MAX then
      if s.dealWaited d ≤ s.fld ENS.DEAL_CFG.LATE_MAX then s.dispatchDeal d else s.missDeal d
    else (s.endDeal d.id 2 d.lateBy).raise 118 0 d.deal (min d.lateBy 65535) 0 :=
  (effDealActionDue_found hf).trans (if_pos (by rw [ha, hp]; rfl))

theorem dealActionDue_runs (hl : d.lateBy ≤ s.fld ENS.DEAL_CFG.LATE_MAX) (hw : s.dealWaited d ≤ s.fld ENS.DEAL_CFG.LATE_MAX)
    (hn : s.dealWaits d = false) : exec (.dealActionDue id) s = .next (s.runDeal d) :=
  congrArg Host.Outcome.next ((effDealActionDue_due hf ha hp).trans ((if_pos hl).trans ((if_pos hw).trans
    (if_neg (Bool.eq_false_iff.mp hn)))))

theorem dealActionDue_waits (hl : d.lateBy ≤ s.fld ENS.DEAL_CFG.LATE_MAX) (hw : s.dealWaited d ≤ s.fld ENS.DEAL_CFG.LATE_MAX)
    (hn : s.dealWaits d = true) : ∃ t, exec (.dealActionDue id) s = .next t ∧ t.ens.deals = s.ens.deals.map (fun x =>
      if x.id = d.id then { x with from_ := some (d.from_.getD s.now) } else x) ∧ { t with ens := s.ens } = s :=
  ⟨_, congrArg Host.Outcome.next ((effDealActionDue_due hf ha hp).trans ((if_pos hl).trans ((if_pos hw).trans (if_pos hn)))), rfl, rfl⟩

theorem dealActionDue_misses (hl : d.lateBy ≤ s.fld ENS.DEAL_CFG.LATE_MAX) (hw : s.fld ENS.DEAL_CFG.LATE_MAX < s.dealWaited d) :
    ∃ t, exec (.dealActionDue id) s = .next t ∧ counted TIME.SCHED_COUNTS.DEADLINE s t ∧ t.latched 24 = true ∧
      (∀ x ∈ t.ens.deals, x.id ≠ id) := by
  have heff : effDealActionDue id s = (State.bumpF (State.endDeal s.free.2 d.id 2 d.lateBy) TIME.SCHED_COUNTS.DEADLINE 1).raise 24 0
    (s.free.1 % 256) 0 0 := (effDealActionDue_due hf ha hp).trans ((if_pos hl).trans (if_neg (Nat.not_le.mpr hw)))
  have hrep : reported 24 0 (s.free.1 % 256) 0 _ := State.raise_reported
    (State.bumpF (State.endDeal s.free.2 d.id 2 d.lateBy) TIME.SCHED_COUNTS.DEADLINE 1) 24 0 (s.free.1 % 256) 0 0 (by decide) (by decide)
    (by decide) (Nat.mod_lt _ (by decide)) (by decide)
  obtain ⟨-, -, honly⟩ := State.endDeal_shows s.free.2 d.id 2 d.lateBy
  refine ⟨_, congrArg Host.Outcome.next heff, ?_, hrep.1, ?_⟩
  · rw [counted, State.raise_fld _ _ _ _ _ (by decide) (by decide), State.fld_bumpF_same]
    have hcount : (State.endDeal s.free.2 d.id 2 d.lateBy).fld TIME.SCHED_COUNTS.DEADLINE = s.fld TIME.SCHED_COUNTS.DEADLINE :=
      honly.1 _ (by decide)
    rw [hcount]
    rfl
  · rw [State.raise_ens _ _ _ _ _ (by decide)]
    exact dealFound_id hf ▸ State.endDeal_drops s.free.2 d.id 2 d.lateBy

theorem dealActionDue_stale (hl : s.fld ENS.DEAL_CFG.LATE_MAX < d.lateBy) (hd : d.deal < 256) :
    ∃ t, exec (.dealActionDue id) s = .next t ∧
      t.fld ENS.LAST_DEAL.OUTCOME = 2 ∧ t.fld ENS.LAST_DEAL.LATE_BY = min d.lateBy 65535 ∧ reported 118 0 d.deal (min d.lateBy 65535) t ∧
      (∀ x ∈ t.ens.deals, x.id ≠ id) ∧
      onlyReports [ENS.LAST_DEAL.OUTCOME.addr, ENS.LAST_DEAL.LATE_BY.addr] s { t with ens := s.ens } := by
  have heff := (effDealActionDue_due hf ha hp).trans (if_neg (Nat.not_le.mpr hl))
  obtain ⟨hout, hlate, honly⟩ := s.endDeal_shows d.id 2 d.lateBy
  refine ⟨_, congrArg Host.Outcome.next heff, ?_, ?_, State.raise_reported _ 118 0 _ _ 0 (by decide) (by decide) (by decide) hd
    (Nat.lt_of_le_of_lt (Nat.min_le_right ..) (by decide)), ?_, ?_⟩
  · exact (State.raise_fld _ _ _ _ _ (by decide) (by decide)).trans hout
  · exact (State.raise_fld _ _ _ _ _ (by decide) (by decide)).trans hlate
  · rw [State.raise_ens _ _ _ _ _ (by decide)]
    exact dealFound_id hf ▸ s.endDeal_drops d.id 2 d.lateBy
  · exact (State.raise_only _ _ 118 0 _ _ 0 (by decide)).beside_ens (onlyReports_of_onlyRegs honly)

end

/-- Settles O35: DEAL_CMD by its refusals, a deal that arrives by `takeMsg_arrives`, an internal action by how it is judged. -/
theorem dealsArmEveryUnit : Obligations.DealsArmEveryUnit :=
  ⟨fun _ _ hv => ⟨dealCmd_notDealer hv, dealCmd_invalid hv, dealCmd_inactive hv, dealCmd_sends hv⟩,
    fun _ _ _ _ _ h => ⟨deal_dealt h, deal_dealt h⟩,
    fun _ op deal src _ base at_ hk hp => State.acceptDeal_one op deal src base at_ hk hp,
    fun _ _ _ hf ha => ⟨dealActionDue_early hf, fun hp hl =>
      ⟨fun hw => ⟨dealActionDue_runs hf ha hp hl hw, dealActionDue_waits hf ha hp hl hw⟩, dealActionDue_misses hf ha hp hl⟩, dealActionDue_stale hf ha⟩⟩

end Sys2Proof.Machine
end

section
/-!
SUPPORT. What a fabric cycle does besides passing takes no time (R32): each operation that State.pass runs, in the model's order and named
after it, leaves the tick, the cycle of the tick and the cycle count. Only `State.advance` moves them.
-/

namespace Sys2Proof.Machine

/-- The count, the cycle of its tick and the cycles since power-on are those of `s₀`. -/
def State.atTime (s s₀ : State) : Prop := s.tick = s₀.tick ∧ s.cyc = s₀.cyc ∧ s.now = s₀.now

theorem State.atTime.refl (s : State) : s.atTime s := ⟨rfl, rfl, rfl⟩

section
variable {s₀ s t : State}

/-- A change of components other than the three. -/
theorem State.atTime.frame
    {regs freeCount time sched nv mgt sec evt host dev bst cnv cal trg acq acc ens mem rdo dsp seq clearedAt cleared out pending}
    (h : s.atTime s₀) : State.atTime
      { s with regs := regs, freeCount := freeCount, time := time, sched := sched, nv := nv, mgt := mgt, sec := sec, evt := evt
               host := host, dev := dev, bst := bst, cnv := cnv, cal := cal, trg := trg, acq := acq, acc := acc, ens := ens
               mem := mem, rdo := rdo, dsp := dsp, seq := seq, clearedAt := clearedAt, cleared := cleared, out := out
               pending := pending } s₀ := h

theorem State.atTime.ite {c : Prop} {_ : Decidable c} (hs : s.atTime s₀) (ht : t.atTime s₀) : (if c then s else t).atTime s₀ := by
  split
  · exact hs
  · exact ht

theorem State.atTime.ite_snd {α : Type} {c : Prop} {_ : Decidable c} {p q : α × State} (hp : p.2.atTime s₀) (hq : q.2.atTime s₀) :
    (if c then p else q).2.atTime s₀ := by
  split
  · exact hp
  · exact hq

/-- A walk none of whose steps takes time. -/
theorem State.atTime.foldl {α : Type} {f : State → α → State} (h : s.atTime s₀) (hf : ∀ s x, s.atTime s₀ → (f s x).atTime s₀)
    {l : List α} : (l.foldl f s).atTime s₀ :=
  List.foldlRecOn (motive := fun u => u.atTime s₀) l f h fun u hu x _ => hf u x hu

theorem State.atTime.of_snd {α : Type} {p : α × State} {a : α} (e : p = (a, t)) (h : p.2.atTime s₀) : t.atTime s₀ := by
  subst e
  exact h

theorem State.atTime.pair {α : Type} {a : α} (h : s.atTime s₀) : (a, s).2.atTime s₀ := h

/-- A walk that carries a value beside the state. -/
theorem State.atTime.foldl_snd {α β : Type} {f : β × State → α → β × State} {p : β × State} (h : p.2.atTime s₀)
    (hf : ∀ p x, p.2.atTime s₀ → (f p x).2.atTime s₀) {l : List α} : (l.foldl f p).2.atTime s₀ :=
  List.foldlRecOn (motive := fun p => p.2.atTime s₀) l f h fun p hp x _ => hf p x hp

theorem State.atTime.setF {f : Fld} {v : Nat} (h : s.atTime s₀) : (s.setF f v).atTime s₀ := h

theorem State.atTime.bumpF {f : Fld} {n : Nat} (h : s.atTime s₀) : (s.bumpF f n).atTime s₀ := h

theorem State.atTime.wrapF {f : Fld} {n : Nat} (h : s.atTime s₀) : (s.wrapF f n).atTime s₀ := h

theorem State.atTime.setB {f : Fld} {b : Bool} (h : s.atTime s₀) : (s.setB f b).atTime s₀ := h.setF

theorem State.atTime.clearFs {fs : List Fld} (h : s.atTime s₀) : (s.clearFs fs).atTime s₀ := h.foldl fun _ _ h => h.setF

theorem State.atTime.setDramByte {c a : Nat} {b : Byte} (h : s.atTime s₀) : (s.setDramByte c a b).atTime s₀ := h

theorem State.atTime.emit {x : Out} (h : s.atTime s₀) : (s.emit x).atTime s₀ := h.frame

/-! ### Register fields and modes -/

theorem State.atTime.free (h : s.atTime s₀) : s.free.2.atTime s₀ := h.frame

/-! ### The event log -/

theorem State.atTime.stageRaw {typ source flags : Nat} {data : List Byte}
    (h : s.atTime s₀) : (s.stageRaw typ source flags data).atTime s₀ :=
    h.frame

theorem State.atTime.spendLog {n : Nat} (h : s.atTime s₀) : (s.spendLog n).atTime s₀ := h.frame

theorem State.atTime.dropEntry (h : s.atTime s₀) : s.dropEntry.atTime s₀ := h.bumpF.frame

theorem State.atTime.stageDropped (h : s.atTime s₀) : s.stageDropped.atTime s₀ := h.spendLog.stageRaw.frame.ite h

theorem State.atTime.stageLimited {typ source flags : Nat} {data : List Byte}
    (h : s.atTime s₀) : (s.stageLimited typ source flags data).2.atTime s₀ :=
    State.atTime.ite_snd h.stageDropped.spendLog.stageRaw h.stageDropped.dropEntry.frame

theorem State.atTime.showLog (h : s.atTime s₀) : s.showLog.atTime s₀ := h.setF.setF

theorem State.atTime.commitStaged {n : Nat} (h : s.atTime s₀) : (s.commitStaged n).atTime s₀ := by
  induction n generalizing s with
  | zero => exact h
  | succ n ih =>
    unfold State.commitStaged
    split
    · exact h
    · exact ih h.frame.showLog

theorem State.atTime.commitUnits {n : Nat} (h : s.atTime s₀) : (s.commitUnits n).atTime s₀ := h.commitStaged

theorem State.atTime.makeRoom {fuel n : Nat} (h : s.atTime s₀) : (s.makeRoom fuel n).atTime s₀ := by
  induction fuel generalizing s with
  | zero => exact h
  | succ fuel ih => exact h.ite (ih h.commitUnits)

theorem State.atTime.stageFiller {n : Nat} (h : s.atTime s₀) : (s.stageFiller n).atTime s₀ := by
  induction n generalizing s with
  | zero => exact h
  | succ n ih => exact ih h.makeRoom.frame

theorem State.atTime.restage {l : List LogEntry} (h : s.atTime s₀) : (s.restage l).atTime s₀ := by
  induction l generalizing s with
  | nil => exact h
  | cons e l ih => exact ih h.frame

theorem State.atTime.setAside {n : Nat} (h : s.atTime s₀) : (s.setAside n).atTime s₀ := h.frame

theorem State.atTime.padSeal {n : Nat} (h : s.atTime s₀) : (s.padSeal n).atTime s₀ := h.stageFiller.ite h

theorem State.atTime.stageTrust {payload : List Byte} (h : s.atTime s₀) : (s.stageTrust payload).2.atTime s₀ := by
  unfold State.stageTrust
  extract_lets parts n last s2 first go
  have hs2 : s2.atTime s₀ := h.setAside.spendLog.padSeal.makeRoom
  have hgo : (parts.foldl go (s2, false)).1.atTime s₀ :=
    List.foldlRecOn (motive := fun p => p.1.atTime s₀) parts go hs2 fun p hp d _ => by
      obtain ⟨s3, cont⟩ := p
      have hs3 : s3.atTime s₀ := hp
      exact hs3.stageRaw
  exact hgo.restage.pair

theorem State.atTime.message {vector : Nat} (h : s.atTime s₀) : (s.message vector).atTime s₀ := h.ite (h.frame.ite h.emit)

theorem State.atTime.showDetail {n k i a : Nat} (h : s.atTime s₀) : (s.showDetail n k i a).atTime s₀ := h.ite h.setF.setF.setF

theorem State.atTime.showEvent {n k i a : Nat} (h : s.atTime s₀) : (s.showEvent n k i a).atTime s₀ := h.showDetail.setF.bumpF.setF

theorem State.atTime.noteFirst {n : Nat} (h : s.atTime s₀) : (s.noteFirst n).atTime s₀ := h.setF.setF.setF.frame.ite h

theorem State.atTime.latchEvent {n k i a : Nat} (h : s.atTime s₀) : (s.latchEvent n k i a).atTime s₀ := h.showEvent.frame.noteFirst

theorem State.atTime.tell {n : Nat} (h : s.atTime s₀) : (s.tell n).atTime s₀ := h.frame.message

theorem State.atTime.announce {was : Bool} {n : Nat} (h : s.atTime s₀) : (s.announce was n).atTime s₀ := h.tell.ite h

theorem State.atTime.logDropped (h : s.atTime s₀) : s.logDropped.atTime s₀ := h.latchEvent.announce.dropEntry.ite h.latchEvent.announce

theorem State.atTime.logEntry {typ source flags : Nat} {data : List Byte}
    (h : s.atTime s₀) : (s.logEntry typ source flags data).atTime s₀ :=
    h.stageLimited.logDropped.ite h.stageLimited

theorem State.atTime.logEvent {n k i a a2 : Nat} (h : s.atTime s₀) : (s.logEvent n k i a a2).atTime s₀ := h.logEntry.ite h

theorem State.atTime.raise {n k i a a2 : Nat} (h : s.atTime s₀) : (s.raise n k i a a2).atTime s₀ := h.latchEvent.announce.logEvent

theorem State.atTime.logMode {left entered cause : Nat} (h : s.atTime s₀) : (s.logMode left entered cause).atTime s₀ := h.logEntry

/-! ### The scheduler -/

theorem State.atTime.schedRefused {n kind code : Nat} (h : s.atTime s₀) : (s.schedRefused n kind code).atTime s₀ := h.raise

theorem State.atTime.settleCancel {n : Nat} (h : s.atTime s₀) : (s.settleCancel n).atTime s₀ := h.setF.setF.frame.ite h

theorem State.atTime.outcome {n state code : Nat} (h : s.atTime s₀) : (s.outcome n state code).atTime s₀ :=
  (h.setF.setF.setF.ite h.setF.setF).settleCancel

theorem State.atTime.dropOcc {o : Occ} (h : s.atTime s₀) : (s.dropOcc o).atTime s₀ := h.frame

theorem State.atTime.endOcc {o : Occ} {refusal : Option Nat} (h : s.atTime s₀) : (s.endOcc o refusal).atTime s₀ := by
  unfold State.endOcc
  extract_lets s2 s3
  have hs2 : s2.atTime s₀ := h.dropOcc
  have hs3 : s3.atTime s₀ := hs2.setF
  split
  · exact hs3.outcome
  · exact hs3.outcome.schedRefused

/-! ### Converter slices and lane units -/

theorem State.atTime.setStep {g : Nat} {st : Option Step} (h : s.atTime s₀) : (s.setStep g st).atTime s₀ := h.frame

theorem State.atTime.abortStep {g : Nat} (h : s.atTime s₀) : (s.abortStep g).atTime s₀ := by
  unfold State.abortStep
  split
  · exact h
  · exact h.ite h.setStep.setF.bumpF

theorem State.atTime.abortSteps (h : s.atTime s₀) : s.abortSteps.atTime s₀ := h.foldl fun _ _ h => h.abortStep

theorem State.atTime.setUnit {u : Nat} {x : SeqUnit} (h : s.atTime s₀) : (s.setUnit u x).atTime s₀ := h.frame

theorem State.atTime.seqRequest {u i : Nat} (h : s.atTime s₀) : (s.seqRequest u i).atTime s₀ := h.ite h.setUnit.frame

theorem State.atTime.laneRequest {i lane : Nat} (h : s.atTime s₀) : (s.laneRequest i lane).atTime s₀ := by
  unfold State.laneRequest
  split
  · exact h.seqRequest
  · exact h

theorem State.atTime.chanRequest {i c : Nat} (h : s.atTime s₀) : (s.chanRequest i c).atTime s₀ := h.foldl fun _ _ h => h.laneRequest

theorem State.atTime.leadRequest {c : Nat} (h : s.atTime s₀) : (s.leadRequest c).atTime s₀ := by
  unfold State.leadRequest
  split
  · exact h.laneRequest
  · exact h

theorem State.atTime.snapLane {l : Nat} (h : s.atTime s₀) : (s.snapLane l).atTime s₀ := h.setF.setB.setF.setF.setF

theorem State.atTime.snapSlice {sl : Nat} (h : s.atTime s₀) : (s.snapSlice sl).atTime s₀ := h.setF.setB.setF.setF

theorem State.atTime.snapMap (h : s.atTime s₀) : s.snapMap.atTime s₀ := (h.foldl fun _ _ h => h.snapLane).foldl fun _ _ h => h.snapSlice

theorem State.atTime.seqSnap (h : s.atTime s₀) : s.seqSnap.atTime s₀ := h.foldl fun _ _ h => h.setF.setF.setF.setB.setF

/-! ### The memory system -/

theorem State.atTime.setPoison {c a : Nat} {p : Bool} (h : s.atTime s₀) : (s.setPoison c a p).atTime s₀ := h.ite h.frame

theorem State.atTime.unmappedAccess {req a : Nat} (h : s.atTime s₀) : (s.unmappedAccess req a).atTime s₀ :=
  h.raise.ite (h.raise.ite (h.raise.ite (h.free.raise.ite h.raise)))

theorem State.atTime.poke {a : Nat} {b : Byte} (h : s.atTime s₀) : (s.poke a b).atTime s₀ := by
  unfold State.poke
  split
  · exact h.setDramByte
  · exact h

theorem State.atTime.pokeN {a : Nat} {bs : List Byte} (h : s.atTime s₀) : (s.pokeN a bs).atTime s₀ := by
  induction bs generalizing s a with
  | nil => exact h
  | cons b bs ih => exact ih h.poke

theorem State.atTime.unpoison {a len : Nat} (h : s.atTime s₀) : (s.unpoison a len).atTime s₀ := by
  unfold State.unpoison
  extract_lets first
  refine h.foldl fun s2 i h2 => ?_
  split
  · exact h2.setPoison
  · exact h2

theorem State.atTime.touchPicture {a len : Nat} (h : s.atTime s₀) : (s.touchPicture a len).atTime s₀ := h.frame.ite h

theorem State.atTime.showResv (h : s.atTime s₀) : s.showResv.atTime s₀ :=
  (h.setF.setF.setF.foldl fun _ _ h => h.setF).foldl fun _ _ h => h.setF

theorem State.atTime.setResv {t : Tbl Resv} (h : s.atTime s₀) : (s.setResv t).atTime s₀ := h.frame.showResv

theorem State.atTime.submit {r : AdmReq} (h : s.atTime s₀) : (s.submit r).atTime s₀ := h.frame

theorem State.atTime.drawMeter {c req len : Nat} (h : s.atTime s₀) : (s.drawMeter c req len).atTime s₀ := h.frame.ite h

theorem State.atTime.activate {c n row req : Nat} (h : s.atTime s₀) : (s.activate c n row req).atTime s₀ := h.frame.bumpF.ite h.frame

theorem State.atTime.touchRow {c n row req : Nat} (h : s.atTime s₀) : (s.touchRow c n row req).atTime s₀ := (h.ite h.activate).frame

theorem State.atTime.access {c b len req : Nat} {wr : Bool} (h : s.atTime s₀) : (s.access c b len req wr).atTime s₀ :=
  h.drawMeter.foldl fun _ _ h => h.foldl fun _ _ h => h.touchRow

theorem State.atTime.store {a : Nat} {data : List Byte} {pre : Nat} (h : s.atTime s₀) : (s.store a data pre).atTime s₀ :=
  h.pokeN.unpoison.touchPicture

theorem State.atTime.moveBook {p a b : Nat} (h : s.atTime s₀) : (s.moveBook p a b).atTime s₀ := h.frame

theorem State.atTime.acknowledge {ack : Option (Nat × Nat × Nat)} (h : s.atTime s₀) : (s.acknowledge ack).atTime s₀ := by
  unfold State.acknowledge
  split
  · exact h.moveBook
  · exact h

theorem State.atTime.serveWrite {req a : Nat} {data : List Byte} {pre : Nat} {ack : Option (Nat × Nat × Nat)}
    (h : s.atTime s₀) : (s.serveWrite req a data pre ack).atTime s₀ := by
  unfold State.serveWrite
  split
  · exact h.access.store.acknowledge
  · exact h.unmappedAccess.acknowledge

theorem State.atTime.writeGranule {req a : Nat} {data : List Byte} {pre : Nat} {ack : Option (Nat × Nat × Nat)}
    (h : s.atTime s₀) : (s.writeGranule req a data pre ack).atTime s₀ := by
  unfold State.writeGranule
  split
  · exact h.frame
  · exact h.serveWrite

theorem State.atTime.dramWriteGo {fuel req a : Nat} {data : List Byte} {pre : Nat} (h : s.atTime s₀) :
    (State.dramWriteGo fuel s req a data pre).atTime s₀ := by
  induction fuel generalizing s a data pre with
  | zero => exact h
  | succ fuel ih => exact h.ite (ih h.writeGranule)

theorem State.atTime.dramWriteAfter {req a : Nat} {data : List Byte} {pre : Nat}
    (h : s.atTime s₀) : (s.dramWriteAfter req a data pre).atTime s₀ :=
    h.dramWriteGo

theorem State.atTime.dramWrite {req a : Nat} {data : List Byte} (h : s.atTime s₀) : (s.dramWrite req a data).atTime s₀ := h.dramWriteAfter

theorem State.atTime.readAccess {req a len : Nat} (h : s.atTime s₀) : (s.readAccess req a len).atTime s₀ := by
  unfold State.readAccess
  extract_lets gs s2
  have hs2 : s2.atTime s₀ := by
    unfold s2
    refine h.foldl fun s3 g h2 => ?_
    split
    · exact h2.access
    · exact h2
  split
  · exact hs2.unmappedAccess
  · exact hs2

theorem State.atTime.dramRead {req a len : Nat} (h : s.atTime s₀) : (s.dramRead req a len).2.2.atTime s₀ := h.readAccess

theorem State.atTime.bar2Read {a len at_ : Nat} (h : s.atTime s₀) : (s.bar2Read a len at_).atTime s₀ := by
  unfold State.bar2Read
  split
  · exact h.frame
  · exact h.dramRead.emit

theorem State.atTime.poisonGranuleAt {req a len : Nat} (h : s.atTime s₀) : (s.poisonGranuleAt req a len).atTime s₀ := by
  unfold State.poisonGranuleAt
  split
  · exact (h.access.foldl fun _ _ h => h.setPoison).touchPicture
  · exact h.unmappedAccess

theorem State.atTime.unitRead {req a len : Nat} (h : s.atTime s₀) : (s.unitRead req a len).atTime s₀ := by
  unfold State.unitRead
  refine h.foldl fun s2 g h2 => ?_
  dsimp only
  split
  · exact h2.frame
  · exact h2.readAccess

theorem State.atTime.serveOne {n : Waiting} (h : s.atTime s₀) : (s.serveOne n).atTime s₀ := by
  unfold State.serveOne
  split
  · exact h.poisonGranuleAt.ite h.serveWrite
  · exact h.bar2Read.ite h.readAccess

theorem State.atTime.serveWaiting {fuel c : Nat} {inOrder : Bool} (h : s.atTime s₀) : (State.serveWaiting fuel s c inOrder).atTime s₀ := by
  induction fuel generalizing s with
  | zero => exact h
  | succ fuel ih =>
    unfold State.serveWaiting
    split
    · exact h
    · split
      · exact h
      · exact ih h.frame.serveOne

theorem State.atTime.resumeChan {c : Nat} (h : s.atTime s₀) : (s.resumeChan c).atTime s₀ := h.serveWaiting

theorem State.atTime.resumeAll (h : s.atTime s₀) : s.resumeAll.atTime s₀ := h.foldl fun _ _ h => h.resumeChan

theorem State.atTime.setBurst {c r v : Nat} (h : s.atTime s₀) : (s.setBurst c r v).atTime s₀ := h.frame

theorem State.atTime.endBurst {c r : Nat} (h : s.atTime s₀) : (s.endBurst c r).atTime s₀ := h.setBurst.resumeChan

theorem State.atTime.afterPanic {before : Bool} (h : s.atTime s₀) : (s.afterPanic before).atTime s₀ := h.resumeAll.ite h

/-! ### The sample coder -/

theorem State.atTime.setSlot {k : Nat} {sl : Option Slot} (h : s.atTime s₀) : (s.setSlot k sl).atTime s₀ := h.frame

theorem State.atTime.writeCircular {lane base area off : Nat} {bs : List Byte}
    (h : s.atTime s₀) : (s.writeCircular lane base area off bs).atTime s₀ :=
    h.dramWriteAfter.dramWrite

theorem State.atTime.appendBlk {pl : Plan} {set pos ch seg : Nat} {g : Seg} {b : Blk} {hold : Bool}
    (h : s.atTime s₀) : (s.appendBlk pl set pos ch seg g b hold).2.atTime s₀ :=
    h.writeCircular

theorem State.atTime.putStored {k key : Nat} {st : Option Stored} (h : s.atTime s₀) : (s.putStored k key st).atTime s₀ := by
  unfold State.putStored
  split
  · exact h.setSlot
  · exact h

theorem State.atTime.showChan {c : Nat} (h : s.atTime s₀) : (s.showChan c).atTime s₀ := by
  unfold State.showChan
  split
  · exact h
  · split
    · exact h
    · exact h.setF.setF.setF.setF.setF.setF.setF.setF.setF.setF.setF.setF.setF.setF.setF.setB

theorem State.atTime.putPlan {pl : Plan} (h : s.atTime s₀) : (s.putPlan pl).atTime s₀ := h.frame

theorem State.atTime.putChan {pl : Plan} {c : Chan} (h : s.atTime s₀) : (s.putChan pl c).atTime s₀ := h.putPlan.frame.showChan

theorem State.atTime.codResult {c field r : Nat} (h : s.atTime s₀) : (s.codResult c field r).atTime s₀ :=
  h.setF.setF.setF.ite h.setF.setF.setF.raise

theorem State.atTime.acceptWrites {p : Nat} (h : s.atTime s₀) : (s.acceptWrites p).atTime s₀ := by
  unfold State.acceptWrites
  extract_lets l _ s2
  have hs2 : s2.atTime s₀ := h.frame
  refine hs2.foldl fun s3 w h2 => ?_
  split
  · exact h2
  · split
    · exact h2
    · exact h2.codResult.setF.submit.ite h2.putChan.codResult

/-! ### Trust sessions -/

theorem State.atTime.setSessions {k : Nat} {l : List Session} (h : s.atTime s₀) : (s.setSessions k l).atTime s₀ := by
  unfold State.setSessions
  extract_lets _ s2 leaving
  have hs2 : s2.atTime s₀ := h.frame
  split
  · exact hs2.setF.setF.setF
  · exact hs2.setF.setF.setF.setF

theorem State.atTime.putSession {k : Nat} {x : Session} (h : s.atTime s₀) : (s.putSession k x).atTime s₀ := h.setSessions

theorem State.atTime.logClose {k : Nat} {x : Session} {incomplete : Bool} {n : Nat} {td : List Byte}
    (h : s.atTime s₀) : (s.logClose k x incomplete n td).atTime s₀ :=
    h.stageTrust

theorem State.atTime.closeOld {k : Nat} (h : s.atTime s₀) : (s.closeOld k).atTime s₀ := by
  unfold State.closeOld
  split
  · exact h
  · exact (h.foldl fun _ _ h => h.logClose).setSessions

theorem State.atTime.openSession {k plan why : Nat} (h : s.atTime s₀) : (s.openSession k plan why).atTime s₀ :=
  h.stageTrust.setSessions.closeOld

theorem State.atTime.sessionCommit {k kk : Nat} (h : s.atTime s₀) : (s.sessionCommit k kk).2.atTime s₀ := by
  unfold State.sessionCommit
  split
  · exact h.pair
  · exact h.putSession.openSession.pair.ite_snd h.putSession.pair

theorem State.atTime.sessionResult {k lastAccession : Nat} {data : List Byte}
    (h : s.atTime s₀) : (s.sessionResult k lastAccession data).2.atTime s₀ := by
  unfold State.sessionResult
  split
  · exact h
  · exact h.putSession

theorem State.atTime.closeAll {k : Nat} (h : s.atTime s₀) : (s.closeAll k).atTime s₀ := (h.foldl fun _ _ h => h.logClose).setSessions

/-! ### The accumulator and the imager planes -/

theorem State.atTime.setAcc {k : Nat} {a : Acc} (h : s.atTime s₀) : (s.setAcc k a).atTime s₀ := h.frame

theorem State.atTime.showAcc {k : Nat} (h : s.atTime s₀) : (s.showAcc k).atTime s₀ := h.setF.setB

theorem State.atTime.freeBank {k b : Nat} (h : s.atTime s₀) : (s.freeBank k b).atTime s₀ := h.setAcc.setF.showAcc

theorem State.atTime.accSelect {k : Nat} {pl : Plan} {t : Trig} {accession : Nat} {lateArm : Bool}
    (h : s.atTime s₀) : (s.accSelect k pl t accession lateArm).2.atTime s₀ := by
  unfold State.accSelect
  split
  · exact h
  · extract_lets test
    split
    · exact h.bumpF
    · exact State.atTime.ite_snd h.bumpF (h.setAcc.setF.setF.setF.foldl fun _ _ h => h.leadRequest)

theorem State.atTime.setBin {pl : Plan} {b i : Nat} {v : Int} (h : s.atTime s₀) : (s.setBin pl b i v).atTime s₀ := h.dramWrite.ite h.frame

theorem State.atTime.addBin {k : Nat} {pl : Plan} {b i : Nat} {first : Bool} {a : Int}
    (h : s.atTime s₀) : (s.addBin k pl b i first a).atTime s₀ :=
    h.setBin.ite (h.ite (h.ite h.setAcc).setBin)

theorem State.atTime.beginBank {k : Nat} {pl : Plan} {b : Nat} (h : s.atTime s₀) : (s.beginBank k pl b).atTime s₀ := h.setAcc

theorem State.atTime.addChan {k : Nat} {pl : Plan} {b pos ch : Nat} {c rho : Int} {first : Bool} {n : Nat}
    (h : s.atTime s₀) : (s.addChan k pl b pos ch c rho first n).atTime s₀ :=
    h.foldl fun _ _ h => h.addBin

theorem State.atTime.endAdd {k : Nat} {pl : Plan} {d : Add} (h : s.atTime s₀) : (s.endAdd k pl d).atTime s₀ :=
  ((h.beginBank.ite (h.unitRead.ite h)).foldl fun _ _ h => h.addChan).setAcc.foldl fun _ _ h => h.leadRequest

theorem State.atTime.completeBank {k : Nat} {pl : Plan} {b : Nat} {trunc : Bool}
    (h : s.atTime s₀) : (s.completeBank k pl b trunc).atTime s₀ :=
    h.sessionResult.setAcc.setF.setF.showAcc.raise

theorem State.atTime.addPart {k : Nat} {pl : Plan} {d : Add} (h : s.atTime s₀) : (s.addPart k pl d).atTime s₀ :=
  h.foldl fun _ _ h => h.addChan

theorem State.atTime.interruptAdd {k : Nat} {pl : Plan} {d : Add} (h : s.atTime s₀) : (s.interruptAdd k pl d).atTime s₀ :=
  (h.addPart.setAcc.freeBank.ite h.addPart.setAcc.completeBank).raise

theorem State.atTime.effAccumAddEnd {k : Nat} (h : s.atTime s₀) : (effAccumAddEnd k s).atTime s₀ := by
  unfold Machine.effAccumAddEnd
  split
  · exact h
  · split
    · exact h.interruptAdd.ite (h.endAdd.ite h)
    · exact h

theorem State.atTime.cutAdds {k : Nat} (h : s.atTime s₀) : (s.cutAdds k).atTime s₀ := h.foldl fun _ _ h => h.effAccumAddEnd

theorem State.atTime.interruptAdds {k : Nat} (h : s.atTime s₀) : (s.interruptAdds k).atTime s₀ := by
  unfold State.interruptAdds
  extract_lets s2
  have hs2 : s2.atTime s₀ := h.cutAdds
  split
  · exact hs2
  · split
    · exact hs2
    · refine hs2.foldl fun s3 b h2 => ?_
      split
      · exact h2.interruptAdd
      · exact h2

theorem State.atTime.settleBanks {k : Nat} {pl : Plan} (h : s.atTime s₀) : (s.settleBanks k pl).atTime s₀ :=
  h.foldl fun _ _ h => (h.freeBank.ite h.completeBank).ite h

theorem State.atTime.setPlane {p : Nat} {x : Plane} (h : s.atTime s₀) : (s.setPlane p x).atTime s₀ := h.frame

theorem State.atTime.markChanged (h : s.atTime s₀) : s.markChanged.atTime s₀ := h.frame

theorem State.atTime.hitCell {p col row : Nat} (h : s.atTime s₀) : (s.hitCell p col row).atTime s₀ :=
  h.markChanged.setF.ite h.markChanged.setPlane

theorem State.atTime.hitRow {p col : Nat} {row : Int} (h : s.atTime s₀) : (s.hitRow p col row).atTime s₀ := h.hitCell.ite (h.hitCell.ite h)

theorem State.atTime.imageSample {j : Imaging} {x : Int} (h : s.atTime s₀) : (s.imageSample j x).2.atTime s₀ := by
  unfold State.imageSample
  extract_lets p at_ col row row2 s2
  have hs2 : s2.atTime s₀ := by
    unfold s2
    split
    · exact h
    · split
      · exact h.foldl fun _ _ h => h.hitCell
      · exact h.hitRow
  exact hs2

theorem State.atTime.imageRun {fuel ch : Nat} {j : Imaging} (h : s.atTime s₀) : (State.imageRun fuel s ch j).2.atTime s₀ := by
  induction fuel generalizing s j with
  | zero => exact h
  | succ fuel ih =>
    unfold State.imageRun
    split
    · exact h
    · split
      · exact ih h.imageSample
      · exact h

theorem State.atTime.pumpImages (h : s.atTime s₀) : s.pumpImages.atTime s₀ := by
  refine h.foldl fun s p h => ?_
  extract_lets ch jobs
  split
  next kept s2 e =>
    have hs2 : s2.atTime s₀ := State.atTime.of_snd e (State.atTime.foldl_snd (p := ([], s)) h fun _ _ h => h.imageRun)
    exact hs2.ite hs2.frame

theorem State.atTime.imageCommit {pl : Plan} {t : Trig} (h : s.atTime s₀) : (s.imageCommit pl t).atTime s₀ := by
  unfold State.imageCommit
  refine h.foldl fun s2 p h2 => ?_
  split
  · extract_lets +onlyGivenNames ch
    split
    split
    exact h2.bumpF.ite h2.setPlane.bumpF
  · exact h2

theorem State.atTime.dropImages {p : Nat} (h : s.atTime s₀) : (s.dropImages p).atTime s₀ := h.foldl fun _ _ h => h.setPlane.ite h

/-! ### Records and folios -/

theorem State.atTime.setBook {p i v : Nat} (h : s.atTime s₀) : (s.setBook p i v).atTime s₀ := h.frame

theorem State.atTime.countBook {p i : Nat} (h : s.atTime s₀) : (s.countBook p i).atTime s₀ := h.setBook

theorem State.atTime.writeCtrl {pl : Plan} {f v : Nat} {ack : Option (Nat × Nat × Nat)}
    (h : s.atTime s₀) : (s.writeCtrl pl f v ack).atTime s₀ :=
    h.writeGranule

theorem State.atTime.setSealTick {p f : Nat} {t : Option Tick} (h : s.atTime s₀) : (s.setSealTick p f t).atTime s₀ := h.frame

theorem State.atTime.moveFolio {pl : Plan} {f to_ : Nat} (h : s.atTime s₀) : (s.moveFolio pl f to_).atTime s₀ :=
  h.writeCtrl.ite h.writeCtrl.setSealTick

theorem State.atTime.reserveFolio {k : Nat} {pl : Plan} {i f : Nat} (h : s.atTime s₀) : (s.reserveFolio k pl i f).atTime s₀ :=
  (h.writeCtrl.setSealTick.countBook.raise.ite h.writeCtrl.setSealTick.countBook.raise).ite h.writeCtrl.setSealTick

theorem State.atTime.reserveSet {k : Nat} {pl : Plan} {j : Nat} (h : s.atTime s₀) : (s.reserveSet k pl j).atTime s₀ :=
  (h.foldl fun _ _ h => h.reserveFolio).frame

theorem State.atTime.releaseSet {pl : Plan} {j : Nat} (h : s.atTime s₀) : (s.releaseSet pl j).atTime s₀ := h.foldl fun _ _ h => h.moveFolio

theorem State.atTime.showFifo {k : Nat} (h : s.atTime s₀) : (s.showFifo k).atTime s₀ := by
  unfold State.showFifo
  split
  · exact h
  · extract_lets n s2 s3
    have hs2 : s2.atTime s₀ := h.setF
    have hs3 : s3.atTime s₀ := hs2.setF.ite hs2
    split
    · exact hs3.setF
    · exact hs3

theorem State.atTime.countT {k i : Nat} (h : s.atTime s₀) : (s.countT k i).atTime s₀ := h.frame

theorem State.atTime.writePersist {kind v : Nat} (h : s.atTime s₀) : (s.writePersist kind v).atTime s₀ := h.frame.logEntry

theorem State.atTime.showAccession (h : s.atTime s₀) : s.showAccession.atTime s₀ := h.setF

theorem State.atTime.reserveBlock (h : s.atTime s₀) : s.reserveBlock.atTime s₀ := h.writePersist.frame.showAccession

theorem State.atTime.takeAccession (h : s.atTime s₀) : s.takeAccession.2.atTime s₀ := (h.reserveBlock.ite h).frame.showAccession

theorem State.atTime.regather {k key : Nat} {pl : Plan} {st : Stored} {later : List (List Blk)}
    (h : s.atTime s₀) : (s.regather k key pl st later).atTime s₀ := by
  unfold State.regather
  extract_lets n st0 ch
  split
  · exact h
  · split
    · exact h.putStored
    · next set _ _ =>
      extract_lets r
      have hr : r.2.atTime s₀ := by
        refine State.atTime.foldl_snd h fun x seg hx => State.atTime.foldl_snd hx fun y b hy => ?_
        exact hy.appendBlk (pl := pl) (set := set) (hold := true)
      exact hr.putStored

theorem State.atTime.commitChan {k set : Nat} {pl : Plan} {t : Trig} {trick session : Nat} {accumulated lateArm : Bool} {c : Chan}
    (h : s.atTime s₀) : (s.commitChan k set pl t trick session accumulated lateArm c).atTime s₀ := by
  unfold State.commitChan
  split
  · exact h
  · extract_lets key
    split
    · exact h
    · exact h.takeAccession.frame.regather

theorem State.atTime.takeTrick {t : Trig} (h : s.atTime s₀) : (s.takeTrick t).2.atTime s₀ := by
  unfold State.takeTrick
  split
  · exact h
  · exact h.wrapF

theorem State.atTime.commitOne {k : Nat} (h : s.atTime s₀) : (s.commitOne k).atTime s₀ := by
  unfold State.commitOne
  split
  · exact h
  · split
    · split
      · exact h
      · extract_lets +onlyGivenNames late s2
        have hs2 : s2.atTime s₀ := h.setSlot
        split
        next trick s3 e =>
        have hs3 := State.atTime.of_snd e hs2.takeTrick
        extract_lets +onlyGivenNames first
        split
        next sel s4 e =>
        have hs4 := (State.atTime.of_snd e hs3.accSelect).imageCommit (pl := ‹Plan›) (t := ‹Trig›)
        extract_lets +onlyGivenNames s5
        split
        next sid s6 e =>
        have hs6 := State.atTime.of_snd e hs4.sessionCommit
        exact (hs6.foldl fun _ _ h => h.commitChan.chanRequest).pumpImages.showFifo
    · exact h

theorem State.atTime.dropStreams {k : Nat} (h : s.atTime s₀) : (s.dropStreams k).atTime s₀ := by
  unfold State.dropStreams
  split
  · exact h
  · exact h.setSlot

theorem State.atTime.holdFolio {pl : Plan} {f : Nat} (h : s.atTime s₀) : (s.holdFolio pl f).atTime s₀ :=
  h.moveFolio.setF.ite (h.frame.setF.ite h.setF)

theorem State.atTime.releaseFolio {pl : Plan} {f : Nat} (h : s.atTime s₀) : (s.releaseFolio pl f).atTime s₀ := h.moveFolio.setF.ite h.setF

theorem State.atTime.doFolioOp {x : Nat × Nat × Nat} (h : s.atTime s₀) : (s.doFolioOp x).atTime s₀ := by
  unfold State.doFolioOp
  split
  · exact h
  · exact h.holdFolio.ite h.releaseFolio

theorem State.atTime.doFolioOps (h : s.atTime s₀) : s.doFolioOps.atTime s₀ := h.ite (h.frame.foldl fun _ _ h => h.doFolioOp).setF

theorem State.atTime.closeSnap (h : s.atTime s₀) : s.closeSnap.atTime s₀ := by
  unfold State.closeSnap
  split
  · exact h
  · exact h.setF.frame.ite h

theorem State.atTime.alsoSnap {old : State} {k at_ : Nat} (h : s.atTime s₀) : (s.alsoSnap old k at_).atTime s₀ := by
  unfold State.alsoSnap
  split
  · exact h
  · exact (h.foldl fun _ _ h => h.setF.setF).ite h

/-! ### Plans -/

theorem State.atTime.changeMode {to_ cause : Nat} (h : s.atTime s₀) : (s.changeMode to_ cause).atTime s₀ :=
  h.setF.setF.setF.ite h.setF.setF.setF.setF.raise.logMode

theorem State.atTime.requestDone {target : Nat} (h : s.atTime s₀) : (s.requestDone target).atTime s₀ := h.setF.frame.ite h

theorem State.atTime.answerHost {plan op result : Nat} (h : s.atTime s₀) : (s.answerHost plan op result).atTime s₀ := h.setF.setF.ite h

theorem State.atTime.endDeal {id outcome lateBy : Nat} (h : s.atTime s₀) : (s.endDeal id outcome lateBy).atTime s₀ := h.frame.setF.setF

theorem State.atTime.answer {r : AdmReq} {op code : Nat} (h : s.atTime s₀) : (s.answer r op code).atTime s₀ := by
  unfold State.answer
  split
  · exact h.answerHost
  · split
    · exact h.endOcc
    · exact h
  · split
    · exact h.endDeal
    · exact h
  · exact h

theorem State.atTime.freeSlot {k : Nat} (h : s.atTime s₀) : (s.freeSlot k).atTime s₀ := by
  unfold State.freeSlot
  split
  · exact h.setSlot
  · extract_lets s2 s3 _ s4 s5 s6 s7 _
    have hs2 : s2.atTime s₀ := h.settleBanks.closeAll
    have hs3 : s3.atTime s₀ := hs2.foldl fun _ _ h => h.frame
    have hs4 : s4.atTime s₀ := hs3.frame
    have hs5 : s5.atTime s₀ := hs4.setSlot
    have hs6 : s6.atTime s₀ := hs5.setResv
    have hs7 : s7.atTime s₀ := hs6.clearFs
    split
    · exact hs7.frame.answer.ite hs7
    · exact hs7

theorem State.atTime.freeIfDone {k : Nat} (h : s.atTime s₀) : (s.freeIfDone k).atTime s₀ := by
  unfold State.freeIfDone
  split
  · exact h.freeSlot.ite h
  · exact h

theorem State.atTime.settle (h : s.atTime s₀) : s.settle.atTime s₀ := by
  unfold State.settle
  extract_lets s2 s3
  have hs2 : s2.atTime s₀ := h.foldl fun _ _ h => h.freeIfDone
  exact hs2.changeMode.snapMap.seqSnap.requestDone.ite hs2

theorem State.atTime.freeSets {k gen : Nat} (h : s.atTime s₀) : (s.freeSets k gen).atTime s₀ := by
  unfold State.freeSets
  split
  · exact h
  · split
    · exact h
    · exact h.setSlot.foldl fun _ _ h => h.releaseSet

theorem State.atTime.releaseIfJudged {k : Nat} (h : s.atTime s₀) : (s.releaseIfJudged k).atTime s₀ := by
  unfold State.releaseIfJudged
  split
  · exact h
  · extract_lets done late s2 s3
    have hs2 : s2.atTime s₀ := h.setSlot
    have hs3 : s3.atTime s₀ := hs2.foldl fun _ _ h => h.freeSets
    split
    · exact hs3.setSlot.freeSets.dropStreams.ite hs3
    · exact hs3.ite hs3.dropStreams

theorem State.atTime.clearForce {k : Nat} (h : s.atTime s₀) : (s.clearForce k).atTime s₀ := h.frame.setF

theorem State.atTime.disturb {pl : Plan} (h : s.atTime s₀) : (s.disturb pl).atTime s₀ := h.frame

theorem State.atTime.showArmed {k : Nat} {b : Bool} (h : s.atTime s₀) : (s.showArmed k b).atTime s₀ := h.setB.setB

theorem State.atTime.dropCalls {k : Nat} (h : s.atTime s₀) : (s.dropCalls k).atTime s₀ := h.frame

theorem State.atTime.disarm {k : Nat} (h : s.atTime s₀) : (s.disarm k).atTime s₀ := by
  unfold State.disarm
  split
  · split
    · extract_lets s2 s3 s4 s5
      have hs2 : s2.atTime s₀ := h.setSlot.dropCalls
      have hs3 : s3.atTime s₀ := (hs2.ite hs2.clearForce).showArmed.disturb
      have hs4 : s4.atTime s₀ := hs3.clearFs
      have hs5 : s5.atTime s₀ := hs4.foldl fun _ _ h => h.chanRequest
      exact hs5.releaseIfJudged.dropImages.acceptWrites
    · exact h
  · exact h

/-! ### The composer -/

theorem State.atTime.stopComposer (h : s.atTime s₀) : s.stopComposer.atTime s₀ := h.frame.setF.setResv

/-! ### The readout engine -/

theorem State.atTime.setQueue {q : Nat} {x : Queue} (h : s.atTime s₀) : (s.setQueue q x).atTime s₀ := h.frame

theorem State.atTime.setBankState {p b v : Nat} (h : s.atTime s₀) : (s.setBankState p b v).atTime s₀ := by
  unfold State.setBankState
  split
  · exact h.setF
  · exact h.frame

theorem State.atTime.showQueue {q : Nat} (h : s.atTime s₀) : (s.showQueue q).atTime s₀ := by
  unfold State.showQueue
  extract_lets x s2 s3 s4 s5 show_
  have hs2 : s2.atTime s₀ := h.setF.ite h
  have hs3 : s3.atTime s₀ := hs2.setB.setB
  have hs4 : s4.atTime s₀ := hs3.setB.setF
  have hs5 : s5.atTime s₀ := hs4.setF.setB
  split
  · exact hs5.setF.setF.setF
  · split
    · exact hs5.setF.setF.setF
    · exact hs5

theorem State.atTime.issue {q kind addr len be : Nat} {dev : Bool} (h : s.atTime s₀) : (s.issue q kind addr len be dev).atTime s₀ :=
  h.setQueue.ite h.setQueue.emit

theorem State.atTime.readBack {q kind : Nat} {d : Desc} (h : s.atTime s₀) : (s.readBack q kind d).atTime s₀ := h.issue

theorem State.atTime.endDesc {q : Nat} {d : Desc} (h : s.atTime s₀) : (s.endDesc q d).atTime s₀ := h.setQueue.readBack

theorem State.atTime.returnItem {q i : Nat} (h : s.atTime s₀) : (s.returnItem q i).atTime s₀ := by
  unfold State.returnItem
  split
  · exact h
  · exact h.frame.moveFolio.ite (h.setBankState.ite h)

theorem State.atTime.abandon {q : Nat} (h : s.atTime s₀) : (s.abandon q).atTime s₀ :=
  (h.foldl fun _ _ h => h.returnItem).setQueue.ite h.setQueue

theorem State.atTime.setQueueState {q v : Nat} (h : s.atTime s₀) : (s.setQueueState q v).atTime s₀ := h.setF.setF

theorem State.atTime.haltQueue {q cause : Nat} (h : s.atTime s₀) : (s.haltQueue q cause).atTime s₀ :=
  h.abandon.setQueueState.setF.setF.bumpF.showQueue.raise

theorem State.atTime.endFlush {q : Nat} (h : s.atTime s₀) : (s.endFlush q).atTime s₀ := h.setQueue

theorem State.atTime.paceOff {q : Nat} {since : Option Nat} (h : s.atTime s₀) : (s.paceOff q since).atTime s₀ := by
  unfold State.paceOff
  extract_lets x
  split
  · exact (h.setQueue.endDesc.ite h.setQueue).showQueue
  · exact h.setQueue.showQueue

theorem State.atTime.repaceQueue {q : Nat} (h : s.atTime s₀) : (s.repaceQueue q).atTime s₀ := by
  unfold State.repaceQueue
  extract_lets x st av since on
  split
  · split
    · extract_lets l s2 _
      have hs2 : s2.atTime s₀ := h.setQueue
      split
      · split
        · exact hs2.endFlush.showQueue.ite hs2.setQueue.endDesc.showQueue
        · exact hs2.endFlush.showQueue
      · exact hs2.showQueue
    · exact h.paceOff.ite h.setQueue.showQueue
  · exact h.showQueue.ite h

theorem State.atTime.repace (h : s.atTime s₀) : s.repace.atTime s₀ := h.foldl fun _ _ h => h.repaceQueue

theorem State.atTime.reissue {q : Nat} (h : s.atTime s₀) : (s.reissue q).atTime s₀ := by
  unfold State.reissue
  split
  · exact h
  · exact (h.setQueue.emit.ite h.setQueue).ite h

theorem State.atTime.reissueAll (h : s.atTime s₀) : s.reissueAll.atTime s₀ := h.foldl fun _ _ h => h.reissue

theorem State.atTime.haltQueues (h : s.atTime s₀) : s.haltQueues.atTime s₀ := h.foldl fun _ _ h => h.haltQueue.ite h

/-! ### The display -/

theorem State.atTime.setDspState {v : Nat} (h : s.atTime s₀) : (s.setDspState v).atTime s₀ := h.setF

theorem State.atTime.stopFetch (h : s.atTime s₀) : s.stopFetch.atTime s₀ := h.frame.setF

theorem State.atTime.showFetch (h : s.atTime s₀) : s.showFetch.atTime s₀ := h.setF.ite h

theorem State.atTime.displayOff (h : s.atTime s₀) : s.displayOff.atTime s₀ := h.stopFetch.frame.clearFs.setDspState.setResv.afterPanic

/-! ### Ensemble calls sent -/

theorem State.atTime.leaveToken {p t : Nat} {k : Nat × Nat × Nat × Nat} (h : s.atTime s₀) : (s.leaveToken p t k).atTime s₀ :=
  (h.frame.ite h).emit

theorem State.atTime.startTx {p : Nat} {x : TxItem} {t : Nat} (h : s.atTime s₀) : (s.startTx p x t).atTime s₀ := by
  unfold State.startTx
  extract_lets run full start stop rest msg _ ens s2
  have hs2 : s2.atTime s₀ := h.frame.foldl fun _ _ h => h.emit
  split
  · exact hs2.leaveToken
  · exact hs2

theorem State.atTime.pumpTx {fuel p : Nat} (h : s.atTime s₀) : (State.pumpTx fuel s p).atTime s₀ := by
  induction fuel generalizing s with
  | zero => exact h
  | succ fuel ih =>
    unfold State.pumpTx
    split
    · exact ih h.startTx
    · exact h

theorem State.atTime.pumpPort {p : Nat} (h : s.atTime s₀) : (s.pumpPort p).atTime s₀ := h.pumpTx

theorem State.atTime.overflow {p k : Nat} (h : s.atTime s₀) : (s.overflow p k).atTime s₀ := h.raise

theorem State.atTime.joinTx {p room : Nat} {x : TxItem} (h : s.atTime s₀) : (s.joinTx p room x).2.atTime s₀ :=
  State.atTime.ite_snd h.pumpPort h.pumpPort.frame.pumpPort

theorem State.atTime.queueCall {p : Nat} {forwarded more : Bool} {outs : List Out}
    (h : s.atTime s₀) : (s.queueCall p forwarded more outs).2.atTime s₀ :=
    State.atTime.ite_snd h.joinTx h.joinTx.bumpF.overflow

theorem State.atTime.queueMsg {p blocks : Nat} {forwarded : Bool} {outs : List Out}
    (h : s.atTime s₀) : (s.queueMsg p blocks forwarded outs).2.atTime s₀ :=
    State.atTime.ite_snd h.joinTx h.joinTx.bumpF.overflow

theorem State.atTime.compensate {p : Nat} (h : s.atTime s₀) : (s.compensate p).atTime s₀ :=
  (h.frame.bumpF.ite (h.frame.bumpF.ite h.frame)).ite h

theorem State.atTime.sendPair {c : Call} (h : s.atTime s₀) : (s.sendPair c).atTime s₀ := h.foldl fun _ _ h => h.queueCall.ite h

theorem State.atTime.setTrickNext {v : Nat} (h : s.atTime s₀) : (s.setTrickNext v).atTime s₀ := h.setF.setF

theorem State.atTime.localTrick (h : s.atTime s₀) : s.localTrick.2.atTime s₀ := State.atTime.ite_snd h h.setTrickNext

theorem State.atTime.sendCall {trick : Nat} {tick : Tick} {frac quality : Nat}
    (h : s.atTime s₀) : (s.sendCall trick tick frac quality).2.atTime s₀ :=
    State.atTime.ite_snd h.bumpF (State.atTime.ite_snd h h.wrapF.bumpF.sendPair)

/-! ### Triggers -/

theorem State.atTime.setOutPin {n : Nat} {p : OutPin} (h : s.atTime s₀) : (s.setOutPin n p).atTime s₀ := h.frame

theorem State.atTime.addPulse {n g : Nat} (h : s.atTime s₀) : (s.addPulse n g).atTime s₀ := h.setOutPin

theorem State.atTime.driveOut {k t : Nat} {plain : Bool} (h : s.atTime s₀) : (s.driveOut k t plain).atTime s₀ :=
  h.foldl fun _ _ h => (h.addPulse.ite (h.addPulse.ite h)).ite h

theorem State.atTime.listLost {k : Nat} {t : Trig} {cause : Nat} (h : s.atTime s₀) : (s.listLost k t cause).atTime s₀ := h.frame.wrapF

theorem State.atTime.takeTrig {k : Nat} {pl : Plan} {t : Trig} (h : s.atTime s₀) : (s.takeTrig k pl t).atTime s₀ := by
  unfold State.takeTrig
  split
  · exact h
  · extract_lets s2
    have hs2 : s2.atTime s₀ := h.setSlot
    split
    · extract_lets s3
      have hs3 : s3.atTime s₀ := hs2.reserveSet
      split
      · exact hs3.setSlot.showFifo
      · exact hs3
    · exact hs2.showFifo.setF.disarm.raise

theorem State.atTime.showLast {k : Nat} {a : Asked} (h : s.atTime s₀) : (s.showLast k a).atTime s₀ := h.setF.setF.frame.setF

theorem State.atTime.accept {k : Nat} {sl : Slot} {pl : Plan} {a : Asked} {inOrder : Bool}
    (h : s.atTime s₀) : (s.accept k sl pl a inOrder).2.atTime s₀ := by
  unfold State.accept
  extract_lets s2
  have hs2 : s2.atTime s₀ := h.countT
  split
  next trick s3 e =>
    have hs3 := State.atTime.of_snd e (State.atTime.ite_snd hs2 hs2.localTrick)
    split
    · extract_lets ea remembered sl' s4 s5 s6 _ s7 s8
      have hs4 : s4.atTime s₀ := hs3.setSlot.showLast
      have hs5 : s5.atTime s₀ := hs4.setF
      have hs6 : s6.atTime s₀ := hs5.setB.ite hs4
      have hs7 : s7.atTime s₀ := hs6.takeTrig
      have hs8 : s8.atTime s₀ := hs7.driveOut
      exact State.atTime.ite_snd hs8.sendCall hs8

theorem State.atTime.loseTrig {k : Nat} {sl : Slot} {a : Asked} {cause : Nat} (h : s.atTime s₀) : (s.loseTrig k sl a cause).atTime s₀ :=
  h.countT.setSlot.ite h.countT.setSlot.listLost

theorem State.atTime.judgeTail {k : Nat} {sl : Slot} {pl : Plan} {a : Asked} {inOrder : Bool}
    (h : s.atTime s₀) : (s.judgeTail k sl pl a inOrder).2.atTime s₀ :=
    State.atTime.ite_snd h.countT (State.atTime.ite_snd h.accept h.loseTrig)

theorem State.atTime.holdOff {k : Nat} {sl : Slot} {a : Asked} {inOrder : Bool}
    (h : s.atTime s₀) : (s.holdOff k sl a inOrder).atTime s₀ :=
    ((h.countT.setSlot.ite h.countT.setSlot.setF).ite h.countT.setSlot).ite h.countT

theorem State.atTime.judgeTrig {k : Nat} {a : Asked} (h : s.atTime s₀) : (s.judgeTrig k a).2.atTime s₀ := by
  unfold State.judgeTrig
  split
  · extract_lets s2 inOrder
    have hs2 : s2.atTime s₀ := h.ite h.countT
    split
    · exact State.atTime.ite_snd hs2.holdOff (State.atTime.ite_snd hs2.loseTrig hs2.judgeTail)
    · exact State.atTime.ite_snd hs2.holdOff hs2.judgeTail
  · exact h

theorem State.atTime.deliverCall {c : Call} {but : Option Nat} (h : s.atTime s₀) : (s.deliverCall c but).atTime s₀ := by
  unfold State.deliverCall
  refine h.foldl fun s2 k h2 => ?_
  dsimp only
  split
  · exact h2.frame.countT.ite h2
  · exact h2

theorem State.atTime.inArm {k gen : Nat} {f : State → State} (h : s.atTime s₀) (hf : ∀ s, s.atTime s₀ → (f s).atTime s₀) :
    (s.inArm k gen f).atTime s₀ := by
  unfold State.inArm
  split
  · exact h
  · split
    · exact (hf s h).ite h
    · extract_lets s2
      have hs2 : s2.atTime s₀ := hf _ h.setSlot
      split
      · exact hs2
      · exact hs2.setSlot.disarm.ite hs2.setSlot

theorem State.atTime.judgeCalls {k n : Nat} (h : s.atTime s₀) : (s.judgeCalls k n).atTime s₀ :=
  h.frame.foldl fun _ _ h => (h.inArm fun _ h => h.judgeTrig).alsoSnap

theorem State.atTime.judgeLocal {k : Nat} {a : Asked} (h : s.atTime s₀) : (s.judgeLocal k a).atTime s₀ := by
  unfold State.judgeLocal
  split
  next c s2 e =>
    have hs2 := State.atTime.of_snd e h.judgeTrig
    split
    · exact hs2.deliverCall
    · exact hs2

theorem State.atTime.decideIn {k n : Nat} (h : s.atTime s₀) : (s.decideIn k n).atTime s₀ := by
  unfold State.decideIn
  split
  · extract_lets start seen new ready fired s2 forced s3
    have hs2 : s2.atTime s₀ := h.setSlot
    have hs3 : s3.atTime s₀ := hs2.clearForce.ite hs2
    clear_value fired
    split
    · exact hs2
    · split
      · exact hs3.judgeLocal
      · exact hs3.judgeLocal.ite hs3
  · exact h

theorem State.atTime.decideInstant {k : Nat} {r : Raw} (h : s.atTime s₀) : (s.decideInstant k r).atTime s₀ := by
  unfold State.decideInstant
  split
  · extract_lets per x s2 s3
    have hs2 : s2.atTime s₀ := h.setSlot
    have hs3 : s3.atTime s₀ := by
      unfold s3
      split
      · exact (hs2.inArm fun _ h => h.decideIn).alsoSnap
      · exact hs2
    exact hs3.judgeCalls
  · exact h

/-! ### Stopping a slot -/

theorem State.atTime.commitEmpty {fuel k : Nat} (h : s.atTime s₀) : (State.commitEmpty fuel s k).atTime s₀ := by
  induction fuel generalizing s with
  | zero => exact h
  | succ fuel ih =>
    unfold State.commitEmpty
    split
    · exact h.ite (ih h.commitOne.frame)
    · exact h

theorem State.atTime.judgeRest {k : Nat} (h : s.atTime s₀) : (s.judgeRest k).atTime s₀ := by
  unfold State.judgeRest
  split
  · exact h
  · extract_lets s2
    have hs2 : s2.atTime s₀ := by
      unfold s2
      split
      · exact h.setSlot.decideInstant
      · exact h
    exact hs2.foldl fun _ _ h => h.judgeCalls

theorem State.atTime.stopSlot {k cause : Nat} {report : Bool} (h : s.atTime s₀) : (s.stopSlot k cause report).atTime s₀ := by
  unfold State.stopSlot
  split
  · split
    · extract_lets was s2 s3 _ s4 s5 s6 _ s7 s8 spare s9 s10 s11 s12 s13 s14
      have hs2 : s2.atTime s₀ := h.judgeRest
      have hs3 : s3.atTime s₀ := by
        unfold s3
        split
        · exact hs2.setSlot
        · exact hs2
      have hs4 : s4.atTime s₀ := hs3.frame
      have hs5 : s5.atTime s₀ := hs4.showArmed.clearForce.setF
      have hs6 : s6.atTime s₀ := hs5.disturb.ite hs5
      have hs7 : s7.atTime s₀ := hs6.frame
      have hs8 : s8.atTime s₀ := hs7.commitEmpty
      have hs9 : s9.atTime s₀ := by
        unfold s9
        split
        · exact hs8.setSlot
        · exact hs8
      have hs10 : s10.atTime s₀ := hs9.foldl fun _ _ h => h.releaseSet
      have hs11 : s11.atTime s₀ := hs10.interruptAdds.dropImages.showFifo
      have hs12 : s12.atTime s₀ := hs11.clearFs
      have hs13 : s13.atTime s₀ := hs12.foldl fun _ _ h => h.chanRequest
      have hs14 : s14.atTime s₀ := hs13.acceptWrites.ite hs13
      exact hs14.raise.ite hs14
    · exact h
  · exact h

theorem State.atTime.stopAllPlans {cause : Nat} {report : Bool} (h : s.atTime s₀) : (s.stopAllPlans cause report).atTime s₀ := by
  unfold State.stopAllPlans
  refine .settle ?_
  refine h.foldl fun s2 k h2 => ?_
  split
  · exact h2.stopSlot.ite h2
  · exact h2

/-! ### The ensemble -/

theorem State.atTime.sendOn {p : Nat} {forwarded : Bool} {m : Msg} (h : s.atTime s₀) : (s.sendOn p forwarded m).atTime s₀ := h.queueMsg

theorem State.atTime.takeSeq (h : s.atTime s₀) : s.takeSeq.2.atTime s₀ := h.frame

theorem State.atTime.originateOn {ports : List Nat} {typ dst : Nat} {data : List Byte}
    (h : s.atTime s₀) : (s.originateOn ports typ dst data).atTime s₀ :=
    h.takeSeq.foldl fun _ _ h => h.sendOn.ite h

theorem State.atTime.originate {typ dst : Nat} {data : List Byte} (h : s.atTime s₀) : (s.originate typ dst data).atTime s₀ := h.originateOn

theorem State.atTime.countPair {p : Nat} {first second : Bool} (h : s.atTime s₀) : (s.countPair p first second).atTime s₀ :=
  h.ite (h.bumpF.ite h.bumpF)

theorem State.atTime.endPair {p : Nat} (h : s.atTime s₀) : (s.endPair p).atTime s₀ := by
  unfold State.endPair
  split
  · exact h
  · exact h.frame.countPair

theorem State.atTime.missPair {p : Nat} (h : s.atTime s₀) : (s.missPair p).atTime s₀ := h.endPair.ite h

theorem State.atTime.pumpAssigns {fuel : Nat} (h : s.atTime s₀) : (State.pumpAssigns fuel s).atTime s₀ := by
  induction fuel generalizing s with
  | zero => exact h
  | succ fuel ih =>
    unfold State.pumpAssigns
    split
    · exact h
    · exact h.ite (ih h.frame.originate)

theorem State.atTime.flushAssigns (h : s.atTime s₀) : s.flushAssigns.atTime s₀ := h.pumpAssigns

/-! ### Flash and control records -/

theorem State.atTime.flashOp {code addr len : Nat} (h : s.atTime s₀) : (s.flashOp code addr len).atTime s₀ := h.emit.emit.emit

theorem State.atTime.showSlots (h : s.atTime s₀) : s.showSlots.atTime s₀ := h.foldl fun _ _ h => h.setF.setF

theorem State.atTime.finishCtl (h : s.atTime s₀) : s.finishCtl.atTime s₀ := by
  unfold State.finishCtl
  split
  · exact h.frame.flashOp
  · exact h

theorem State.atTime.writeCtl {r : CtlRec} (h : s.atTime s₀) : (s.writeCtl r).atTime s₀ := h.finishCtl.frame.flashOp.showSlots

/-! ### Modes -/

theorem State.atTime.showOwner (h : s.atTime s₀) : s.showOwner.atTime s₀ := (h.foldl fun _ _ h => h.setF).setF.setF

theorem State.atTime.restDisplay (h : s.atTime s₀) : s.restDisplay.atTime s₀ := h.ite h.displayOff

theorem State.atTime.beginDormant (h : s.atTime s₀) : s.beginDormant.atTime s₀ :=
  h.frame.abortSteps.stopAllPlans.haltQueues.stopComposer.restDisplay.frame

theorem State.atTime.dormantNext (h : s.atTime s₀) : s.dormantNext.atTime s₀ := h.beginDormant.ite h

/-! ### The monitor -/

theorem State.atTime.writeDwords {f : Nat → Fld} {bs : List Byte} {n : Nat} (h : s.atTime s₀) : (s.writeDwords f bs n).atTime s₀ := by
  induction n with
  | zero => exact h
  | succ n ih => exact ih.setF

/-! ### Boot -/

theorem State.atTime.showStage {n : Nat} (h : s.atTime s₀) : (s.showStage n).atTime s₀ := h.frame.setF

theorem State.atTime.finishEnrol (h : s.atTime s₀) : s.finishEnrol.atTime s₀ := h.frame.showOwner.setF.stageTrust.raise.ite h

/-! ### The mailbox -/

theorem State.atTime.respond {r : MbxReq} {status : Nat} {payload : List Byte}
    (h : s.atTime s₀) : (s.respond r status payload).atTime s₀ :=
    (h.ite h.writeDwords.setF.setF.raise).ite h.emit

theorem State.atTime.flushBad {n : Nat} (h : s.atTime s₀) : (s.flushBad n).atTime s₀ := by
  induction n generalizing s with
  | zero => exact h
  | succ n ih =>
    unfold State.flushBad
    split
    · exact h
    · exact h.ite ((ih h.frame.respond).ite (h.ite (ih h.frame.respond)))

theorem State.atTime.flushReqs (h : s.atTime s₀) : s.flushReqs.atTime s₀ := h.flushBad.ite h

theorem State.atTime.answerHead {status : Nat} (h : s.atTime s₀) : (s.answerHead status).atTime s₀ := by
  unfold State.answerHead
  split
  · exact h.frame.respond.flushReqs
  · exact h

theorem State.atTime.commitTrial {slot : Nat} (h : s.atTime s₀) : (s.commitTrial slot).atTime s₀ := h.writeCtl

theorem State.atTime.blowFuse (h : s.atTime s₀) : s.blowFuse.atTime s₀ := h.frame.setF

theorem State.atTime.reportRollback {old : Nat} (h : s.atTime s₀) : (s.reportRollback old).atTime s₀ := h.stageTrust.raise

theorem State.atTime.burnFuses (h : s.atTime s₀) : s.burnFuses.atTime s₀ := by
  unfold State.burnFuses
  split
  · exact h.ite (h.blowFuse.frame.ite h.blowFuse.frame.commitTrial.reportRollback.answerHead)
  · exact h

/-! ### Transitions the device makes by itself -/

theorem State.atTime.showCal (h : s.atTime s₀) : s.showCal.atTime s₀ := h.setF.setF.setF.setF.ite h

theorem State.atTime.showBg (h : s.atTime s₀) : s.showBg.atTime s₀ := by
  unfold State.showBg
  refine h.foldl fun s2 x h2 => ?_
  split
  · exact h2.setF
  · exact h2

theorem State.atTime.showShadow {g : Nat} (h : s.atTime s₀) : (s.showShadow g).atTime s₀ := by
  unfold State.showShadow
  split
  · split
    · exact h.setF.ite h
    · exact h
  · exact h

theorem State.atTime.showSteps (h : s.atTime s₀) : s.showSteps.atTime s₀ := h.showStage.ite h

theorem State.atTime.boundBursts (h : s.atTime s₀) : s.boundBursts.atTime s₀ := h.foldl fun _ _ h => h.endBurst.ite h

theorem State.atTime.runPort {p : Nat} (h : s.atTime s₀) : (s.runPort p).atTime s₀ := h.pumpPort.missPair.compensate

end

end Sys2Proof.Machine
end

section
/-!
SUPPORT. A fabric cycle (R32): the count moves on by a tenth of a tick, and nothing else happens to a state in which nothing waits.
-/

namespace Sys2Proof.Machine

/-! ### The time that a cycle takes -/

section
variable {s : State}

theorem State.atTime.advance {s₀ : State} (h : s.atTime s₀) : s.advance.atTime s₀.advance := by
  obtain ⟨htick, hcyc, hnow⟩ := h
  unfold State.advance
  rw [hcyc]
  split
  · exact ⟨htick, rfl, congrArg (· + 1) hnow⟩
  · exact ⟨congrArg (· + 1) htick, rfl, congrArg (· + 1) hnow⟩

/-- A cycle takes the time of `State.advance`. -/
theorem State.pass_atTime (s : State) : s.pass.atTime s.advance := by
  have hbefore : s.doFolioOps.repace.finishCtl.finishEnrol.atTime s := (State.atTime.refl s).doFolioOps.repace.finishCtl.finishEnrol
  have hafter := ((hbefore.advance.reissueAll.runPort (p := 0)).runPort (p := 1)).flushAssigns.boundBursts
  have hshown := hafter.showBg.showCal.showFetch.showSteps.flushReqs.burnFuses.stageDropped.closeSnap.dormantNext
  exact hshown.foldl fun _ _ h => h.showShadow

theorem State.advance_within (h : s.cyc < 9) : s.advance.tick = s.tick ∧ s.advance.cyc = s.cyc + 1 := by
  have hlt : s.cyc + 1 < cyclesPerTick := Nat.succ_lt_succ h
  rw [State.advance, if_pos hlt]
  exact ⟨rfl, rfl⟩

theorem State.advance_wraps (h : s.cyc = 9) : s.advance.tick = s.tick + 1 ∧ s.advance.cyc = 0 := by
  rw [State.advance, if_neg (by rw [h]; decide)]
  exact ⟨rfl, rfl⟩

theorem State.advance_rest (s : State) : { s.advance with tick := s.tick, cyc := s.cyc, now := s.now } = s := by
  unfold State.advance
  split
  · rfl
  · rfl

end

/-! ### A state in which nothing waits -/

/-- Nothing waits and nothing that takes time is under way, beside the Quoda ports. -/
structure State.Quiet (s : State) : Prop where
  burst : s.mem.burst = []
  bgRun : s.cal.bgRun = []
  noStep : s.cnv.step = []
  notCalibrate : s.mode ≠ modeCalibrate
  notLoad : s.mode ≠ modeLoad
  reqs : s.mgt.reqs = []
  burn : s.mgt.burn = none
  dropPend : s.mgt.dropPend = 0
  ctlBusy : s.nv.ctlBusy = none
  enrolDue : s.dev.enrolDue = false
  dormantDue : s.dev.dormantDue = false
  folioOps : s.acq.folioOps = []
  snapAt : s.acq.snapAt = none
  queues : s.rdo.q = []
  assignDue : s.ens.assignDue = []
  notFetching : s.fetching = false

section
variable {s : State} (h : s.Quiet)
include h

/-- Time alone starts nothing. -/
theorem State.Quiet.advance : s.advance.Quiet := by
  unfold State.advance
  split
  · exact { h with }
  · exact { h with }

theorem State.Quiet.doFolioOps_eq : s.doFolioOps = s := if_pos (List.isEmpty_iff.mpr h.folioOps)

theorem State.Quiet.repace_eq : s.repace = s := by
  rw [State.repace, h.queues]
  rfl

theorem State.Quiet.finishCtl_eq : s.finishCtl = s := by
  rw [State.finishCtl, h.ctlBusy]

theorem State.Quiet.finishEnrol_eq : s.finishEnrol = s := if_neg (Bool.eq_false_iff.mp h.enrolDue)

theorem State.Quiet.reissueAll_eq : s.reissueAll = s := by
  rw [State.reissueAll, h.queues]
  rfl

theorem State.Quiet.flushAssigns_eq : s.flushAssigns = s := by
  rw [State.flushAssigns, h.assignDue]
  rfl

theorem State.Quiet.boundBursts_eq : s.boundBursts = s := by
  rw [State.boundBursts, h.burst]
  rfl

theorem State.Quiet.showBg_eq : s.showBg = s := by
  rw [State.showBg, h.bgRun]
  rfl

theorem State.Quiet.showCal_eq : s.showCal = s := if_neg fun hc => h.notCalibrate hc.1

theorem State.Quiet.showFetch_eq : s.showFetch = s := if_neg (by rw [h.notFetching]; exact Bool.false_ne_true)

theorem State.Quiet.showSteps_eq : s.showSteps = s := if_neg fun hc => h.notLoad hc.1

theorem State.Quiet.flushReqs_eq : s.flushReqs = s := by
  rw [State.flushReqs, h.reqs]
  split
  · rfl
  · rfl

theorem State.Quiet.burnFuses_eq : s.burnFuses = s := by
  rw [State.burnFuses, h.burn]

theorem State.Quiet.stageDropped_eq : s.stageDropped = s := if_neg fun hc => hc.1 h.dropPend

theorem State.Quiet.closeSnap_eq : s.closeSnap = s := by
  rw [State.closeSnap, h.snapAt]

theorem State.Quiet.dormantNext_eq : s.dormantNext = s := State.dormantNext_notDue h.dormantDue

theorem State.Quiet.showShadow_eq (g : Nat) : s.showShadow g = s := by
  rw [State.showShadow, State.stepOf, h.noStep]
  rfl

/-- Where the ports are quiet too, a cycle is the time that it takes. -/
theorem State.Quiet.pass_eq (hports : ∀ p < 2, s.advance.runPort p = s.advance) : s.pass = s.advance := by
  have ha := h.advance
  have hbefore : s.doFolioOps.repace.finishCtl.finishEnrol = s := by
    rw [h.doFolioOps_eq, h.repace_eq, h.finishCtl_eq, h.finishEnrol_eq]
  have hports01 : ((s.advance.reissueAll.runPort 0).runPort 1).flushAssigns.boundBursts = s.advance := by
    rw [ha.reissueAll_eq, hports 0 (by decide), hports 1 (by decide), ha.flushAssigns_eq, ha.boundBursts_eq]
  have hshown : s.advance.showBg.showCal.showFetch.showSteps.flushReqs.burnFuses.stageDropped.closeSnap.dormantNext = s.advance := by
    rw [ha.showBg_eq, ha.showCal_eq, ha.showFetch_eq, ha.showSteps_eq, ha.flushReqs_eq, ha.burnFuses_eq, ha.stageDropped_eq,
      ha.closeSnap_eq, ha.dormantNext_eq]
  rw [State.pass, hbefore, hports01, hshown]
  exact List.foldlRecOn (motive := fun u => u = s.advance) _ _ rfl fun u hu g _ => hu ▸ ha.showShadow_eq g

end

/-! ### Steps -/

/-- Every command is executed and answers a next state: one arm per command, and each goes on. -/
theorem exec_goesOn (c : Instr) (s : State) : ∃ t, exec c s = .next t := by
  cases c with
  | _ => exact ⟨_, rfl⟩

theorem step_goesOn (s : State) : goesOn s := by
  cases hp : s.pending with
  | nil =>
    refine ⟨s.pass, ?_⟩
    rw [step, hp]
  | cons c rest =>
    obtain ⟨t, ht⟩ := exec_goesOn c { s with pending := rest }
    refine ⟨t, ?_⟩
    rw [step, hp]
    exact ht

/-- Settles O4: a step on an empty queue is a cycle, which takes a tenth of a tick and, where nothing waits, does nothing else. -/
theorem timePassesOnAnEmptyQueue : Obligations.TimePassesOnAnEmptyQueue := by
  refine ⟨fun s hp _ => ?_, step_goesOn⟩
  obtain ⟨htick, hcyc, hnow⟩ := s.pass_atTime
  refine ⟨s.pass, by rw [step, hp], hnow.trans s.advance_now, fun h => ?_, fun h => ?_, fun hports h1 h2 h3 h4 h5 h6 h7 h8 h9 h10 h11 h12
    h13 h14 h15 h16 => ?_⟩
  · rw [htick, hcyc]
    exact State.advance_within h
  · rw [htick, hcyc]
    exact State.advance_wraps h
  · have hquiet : s.Quiet := ⟨h1, h2, h3, h4, h5, h6, h7, h8, h9, h10, h11, h12, h13, h14, h15, h16⟩
    rw [hquiet.pass_eq hports]
    exact s.advance_rest

end Sys2Proof.Machine
end

section
/-!
SUPPORT. A machine check of the training sequencer (R333): why it need not leave the sequencer in its handler. The pauses it runs fail with it
(R260), a fourth failure in a row loses the channel (R268), and the loss of the last one is fatal (R418): a device in CALIBRATE from a TRIAL
slot is then reset (R365).
-/

namespace Sys2Proof.Machine

/-! ### A table after a write whose value is open -/

theorem Tbl.set_cases {α : Type} [DecidableEq α] (d : α) (t : Tbl α) (k : Nat) (v : α) :
    Tbl.set d t k v = Tbl.erase t k ∨ Tbl.set d t k v = Tbl.insert k v (Tbl.erase t k) := by
  unfold Tbl.set
  split
  · exact .inl rfl
  · exact .inr rfl

/-! ### The check and the pauses that fail with it (R260, R330, R333) -/

/-- A machine check noted, the training sequencer stopped and the check counted and reported. -/
def State.stopTraining (s : State) (cause : Nat) : State :=
  let s := s.noteCheck 68 cause
  let n := (s.sunit 68).checks + 1
  let s := s.stopUnit 68
  (s.setUnit 68 { s.sunit 68 with checks := n }).raise 229 0 0 0 0

/-- Outside LOAD a check before the third does no more than stop the sequencer and fail its pauses. -/
theorem State.machineCheck_training {s : State} {cause : Nat} (hst : (s.sunit 68).st = 1) (hn : (s.sunit 68).checks = 0) (hc : cause ≠ 2)
    (ht : (s.stopTraining cause).failPauses.testing = false) : s.machineCheck 68 cause = (s.stopTraining cause).failPauses := by
  have hn' : ((s.noteCheck 68 cause).sunit 68).checks = 0 := by
    unfold State.noteCheck
    split
    · exact hn
    · exact hn
  simp only [State.stopTraining, hn'] at ht
  simp [State.machineCheck, hst, hc, State.trainingCheck, State.stopTraining, ht, hn']

theorem State.failPauses_one {s : State} {c : Nat} (h : (List.range 12).filter (bitOf s.seq.training) = [c]) :
    s.failPauses = s.free.2.endPause c (s.free.1 % 1501) false := by
  simp [State.failPauses, h]

/-- The pause of a channel is over and counted. -/
def State.countPause (s : State) (c : Nat) : State :=
  State.bumpF { s with mem := { s.mem with pause := Tbl.set false s.mem.pause c false }
                       seq := { s.seq with training := withoutBit s.seq.training c } } (MEM.CH_RETRAIN.COUNT c) 1

/-- A pause has failed: the channel is lost with the fourth failure in a row (R260). -/
def State.pauseFailed (s : State) (c : Nat) : State :=
  let s := (s.bumpF (MEM.CH_CAPAR.RETRAIN_FAIL c) 1).bumpF (MEM.CH_CAPAR.CONSEC c) 1
  if 4 ≤ s.fld (MEM.CH_CAPAR.CONSEC c) then s.loseChannel c 1 else (s.startWaiting c).resumeChan c

theorem State.endPause_failed (s : State) (c ns : Nat) :
    s.endPause c ns false = ((s.countPause c).setF (MEM.CH_RETRAIN.LAST_NS c) (min 2047 ns)).pauseFailed c := rfl

/-! ### The last channel, lost in CALIBRATE from a TRIAL slot -/

/-- CALIBRATE from TRIAL slot 0, with one memory channel, whose retraining the training sequencer runs after three failures in a row. -/
def lastPauseRuns : State :=
  { regs := [(DEV.MODE.MODE.addr, modeCalibrate), (TIME.STATUS.SPLL_LOCK.addr, 1), (MEM.CFG.RANKS.addr, 1),
      (MEM.STATUS.IN_SERVICE.addr, 1), ((MEM.CH_CAPAR.CONSEC 0).addr, 3)]
    mem := { ways := [0], pause := [(0, true)] }
    seq := { training := 1, units := [(68, { st := 1 })] }
    dev := { slot := some 0, imageOk := true, trained := true }
    nv := { ctlBusy := some (0, { wseq := 1, stateA := 4, stateB := 6, seenA := false, seenB := true, wdog := 0 }) } }

/-- It has every service before the check. -/
theorem lastPauseRuns_served : lastPauseRuns.missing = 0 ∧ lastPauseRuns.trialSlot = some 0 ∧ lastPauseRuns.pausing 0 = true := by decide

/-- How long the failing pause took is open, and whatever it was the device is reset. -/
theorem lastPauseRuns_resets (ns : Nat) (hns : ns = Config.freeValue 0) :
    let t := (((lastPauseRuns.stopTraining 3).free.2.countPause 0).setF (MEM.CH_RETRAIN.LAST_NS 0) (min 2047 (ns % 1501))).pauseFailed 0
    t.seq = {} ∧ t.testing = false := by
  subst hns
  rcases Tbl.set_cases (MEM.CH_RETRAIN.LAST_NS 0).reset ((lastPauseRuns.stopTraining 3).free.2.countPause 0).regs (MEM.CH_RETRAIN.LAST_NS 0).addr
    (min 2047 (Config.freeValue 0 % 1501) % 2 ^ (MEM.CH_RETRAIN.LAST_NS 0).width) with h | h
  all_goals
    rw [State.setF, h]
    decide +kernel

theorem lastPauseRuns_check : (lastPauseRuns.machineCheck 68 3).seq = {} := by
  have hfree : (lastPauseRuns.stopTraining 3).free.1 = Config.freeValue 0 := rfl
  obtain ⟨hseq, htest⟩ := lastPauseRuns_resets _ hfree
  rw [← State.endPause_failed, ← State.failPauses_one (by decide)] at hseq htest
  rw [State.machineCheck_training rfl rfl (by decide) htest, hseq]

/-- Refutes O46: in CALIBRATE from a TRIAL slot a machine check of the training sequencer fails the retraining of the last memory channel, whose
fourth failure in a row resets the device, and with it the count of machine checks. -/
theorem not_machineChecksStopAndAreTakenOver : ¬ Obligations.MachineChecksStopAndAreTakenOver := by
  intro h
  obtain ⟨-, htraining, -⟩ := h lastPauseRuns
  obtain ⟨t, ht, -, -, hchecks, -⟩ := htraining 3 0 rfl (by decide) (by decide) (by decide) (.inr rfl)
  rw [← ht, State.sunit, lastPauseRuns_check] at hchecks
  exact absurd hchecks (by decide)

end Sys2Proof.Machine
end

section
/-!
SUPPORT. What the raising of an event leaves (R411): the registers of the blocks below the management block, the state of the other blocks,
what other sources report, and the counts.
-/

namespace Sys2Proof.Machine

/-- The registers of the blocks below the management block (Table 19-3) report nothing. -/
theorem isReport_below {g : Fld} (h : g.addr < 14 * 524288) : isReport g = false := by
  simp only [isReport, MGT.LOG_STATUS.DROPPED, Bool.or_eq_false_iff, beq_eq_false_iff_ne]
  omega

/-! ### The components that a frame leaves -/

section
variable {A : List Nat} {s t : State}

theorem onlyReports.cnv_eq (h : onlyReports A s t) : t.cnv = s.cnv := (congrArg (fun u : State => u.cnv) h.2 : _)

theorem onlyReports.cal_eq (h : onlyReports A s t) : t.cal = s.cal := (congrArg (fun u : State => u.cal) h.2 : _)

theorem onlyReports.now_eq (h : onlyReports A s t) : t.now = s.now := (congrArg (fun u : State => u.now) h.2 : _)

theorem onlyReports.justCleared_eq (h : onlyReports A s t) (f : Fld) : t.justCleared f = s.justCleared f :=
  (congrArg (fun u : State => u.justCleared f) h.2 : _)

end

section
variable (s : State) {n : Nat} (k i a a2 : Nat) (hn : n < 256)
include hn

theorem State.raise_cnv : (s.raise n k i a a2).cnv = s.cnv := (State.raise_only [] s n k i a a2 hn).cnv_eq

theorem State.raise_cal : (s.raise n k i a a2).cal = s.cal := (State.raise_only [] s n k i a a2 hn).cal_eq

theorem State.raise_below {g : Fld} (hg : g.addr < 14 * 524288) : (s.raise n k i a a2).fld g = s.fld g :=
  State.raise_fld s k i a a2 hn (isReport_below hg)

end

/-! ### Counts -/

theorem State.bumpF_counted (s : State) (f : Fld) : counted f s (s.bumpF f 1) := State.fld_bumpF_same s f 1

theorem counted.congr {f : Fld} {s t u : State} (h : counted f s t) (hf : u.fld f = t.fld f) : counted f s u := hf.trans h

/-- A count of a state that holds the counter as another does. -/
theorem counted.of_same {f : Fld} {s v t : State} (h : counted f v t) (hf : v.fld f = s.fld f) (hc : v.justCleared f = s.justCleared f) :
    counted f s t := by
  unfold counted at h ⊢
  rw [h, hf, hc]

/-! ### What other sources report -/

section
variable {s t : State} {n k i a : Nat}

/-- The reports of a source are held by the registers of the event block and by what it knows of the occurrences. -/
theorem reported.frame (hn : n < 256) (r : reported n k i a s) (hf : ∀ g : Fld, isReport g = true → t.fld g = s.fld g)
    (hevt : t.evt = s.evt) (hnow : t.now = s.now) : reported n k i a t := by
  refine reported_of_same (fun g hg => hf g ?_) (by rw [hevt]) (by rw [hevt]) hnow r
  simp only [EVT.STATUS.STATUS, EVT.DETAIL.KIND, EVT.DETAIL.INDEX, EVT.DETAIL.ARG] at hg
  simp only [isReport, Bool.or_eq_true, beq_iff_eq]
  omega

theorem reported.setF (hn : n < 256) (r : reported n k i a s) {f : Fld} (hf : isReport f = false) (v : Nat) : reported n k i a (s.setF f v) :=
  r.frame hn (fun g hg => State.fld_setF_ne s f g v fun e => by
    simp only [isReport, e] at hg hf
    rw [hg] at hf
    cases hf) rfl rfl

/-- A latch of another source leaves what this one reports. -/
theorem reported.latchEvent (hn : n < 256) (r : reported n k i a s) {m : Nat} (hm : m < 256) (h : n ≠ m) (k' i' a' : Nat) :
    reported n k i a (s.latchEvent m k' i' a') := by
  obtain ⟨hfld, hseen, hkept, hnow⟩ := State.latchEvent_shows s m k' i' a'
  have hdetail : ∀ g : Fld, g.addr = (EVT.DETAIL.KIND n).addr ∨ g.addr = (EVT.DETAIL.INDEX n).addr ∨ g.addr = (EVT.DETAIL.ARG n).addr →
      (s.latchEvent m k' i' a').fld g = s.fld g := by
    intro g hg
    simp only [EVT.DETAIL.KIND, EVT.DETAIL.INDEX, EVT.DETAIL.ARG] at hg
    rw [hfld _ (by simp only [EVT.FIRST.SOURCE]; omega) (by simp only [EVT.FIRST.VALID]; omega) (by simp only [EVT.FIRST_TICK_LO.TICK]; omega)]
    unfold State.showEvent
    dsimp only
    rw [State.fld_setF_ne _ _ _ _ (by simp only [EVT.LAST_TICK.TICK]; omega),
      State.fld_bumpF_ne _ _ _ _ (by simp only [EVT.COUNT.COUNT]; omega),
      State.fld_setF_ne _ _ _ _ (by simp only [EVT.STATUS.STATUS]; omega),
      State.showDetail_ne _ _ _ _ _ _ (by simp only [EVT.DETAIL.KIND]; omega) (by simp only [EVT.DETAIL.INDEX]; omega)
        (by simp only [EVT.DETAIL.ARG]; omega)]
  obtain ⟨hlatched, hjust, hshown⟩ := r
  refine ⟨?_, ?_, ?_⟩
  · rw [State.latched_latchEvent s m k' i' a' n hm hn, hlatched, Bool.or_true]
  · simp only [State.justSeen, hseen, hnow, Tbl.get_set_ne _ _ _ _ _ _ h] at hjust ⊢
    exact hjust
  · rw [hdetail _ (.inl rfl), hdetail _ (.inr (.inl rfl)), hdetail _ (.inr (.inr rfl)), hkept, hnow, Tbl.get_set_ne _ _ _ _ _ _ h]
    exact hshown

/-- An event leaves what every other source reports, but for the log-dropped notice. -/
theorem reported.raise (hn : n < 256) (hlog : n ≠ 240) (r : reported n k i a s) {m : Nat} (hm : m < 256) (h : n ≠ m) (k' i' a' a2 : Nat) :
    reported n k i a (s.raise m k' i' a' a2) := by
  have hlatch := r.latchEvent hn hm h k' i' a'
  have hann : reported n k i a ((s.latchEvent m k' i' a').announce (s.latched m) m) := by
    obtain ⟨hseen, hkept, hnow⟩ := State.announce_seen (s.latchEvent m k' i' a') (s.latched m) m
    exact reported_of_same (fun g _ => by simp only [State.fld, State.announce_regs]) (by rw [hseen]) (by rw [hkept]) hnow hlatch
  have hstage : ∀ (u : State) (typ source flags : Nat) (data : List Byte), reported n k i a u →
      reported n k i a (u.stageLimited typ source flags data).2 := fun u typ source flags data hu => by
    obtain ⟨hevt, hnow⟩ := State.stageLimited_seen u typ source flags data
    refine reported_of_same (fun g hg => State.stageLimited_fld u typ source flags data g ?_) (by rw [hevt]) (by rw [hevt]) hnow hu
    simp only [EVT.STATUS.STATUS, EVT.DETAIL.KIND, EVT.DETAIL.INDEX, EVT.DETAIL.ARG, MGT.LOG_STATUS.DROPPED] at hg ⊢
    omega
  unfold State.raise State.logEvent State.logEntry
  dsimp only
  split
  · split
    · exact State.logDropped_keeps _ n k i a hn hlog (hstage _ _ _ _ _ hann)
    · exact hstage _ _ _ _ _ hann
  · exact hann

end

end Sys2Proof.Machine
end

section
/-!
SUPPORT. The start of a shuffle step (R74 to R76): the lane and the slice it moves, and the step that is skipped.
-/

namespace Sys2Proof.Machine

/-! ### The move (R74, R75) -/

section
variable {g r : Nat}

theorem stepMove_down (h : 0 < r) : stepMove g r false = (16 * g + (r - 1), 17 * g + (r - 1), true) := by simp [stepMove, h]

theorem stepMove_up (h : r < 16) : stepMove g r true = (16 * g + r, 17 * g + r + 1, false) := by simp [stepMove, Nat.ne_of_lt h]

/-- The direction turns at the upper end. -/
theorem stepMove_top (up : Bool) : stepMove g 16 up = (16 * g + 15, 17 * g + 15, true) := by cases up <;> rfl

/-- The direction turns at the lower end. -/
theorem stepMove_bottom (up : Bool) : stepMove g 0 up = (16 * g, 17 * g + 1, false) := by cases up <;> rfl

end

/-! ### A step that starts -/

section
variable {s : State} {n g : Nat}

theorem State.stepOf_setStep (s : State) (g : Nat) (st : Option Step) : (s.setStep g st).stepOf g = st := Tbl.get_set_same _ _ _ _

/-- A step that starts moves what `stepMove` says for the group's position and direction. -/
theorem State.shuffleGroup_moves (n : Nat) (hfix : s.fixed g = false) (hfail : s.restFails g = false)
    (hready : s.sliceReady (s.restSlice g) = true) {lane out : Nat} {down : Bool}
    (h : stepMove g (s.restPos g) (s.bit (CNV.GROUP_STATUS.DIR g)) = (lane, out, down)) :
    ∃ st, (s.shuffleGroup n g).stepOf g = some st ∧ st.incoming = 17 * g + s.restPos g ∧ st.outgoing = out ∧ st.lane = lane ∧
      st.down = down ∧ st.startAt = s.now := by
  have hstarts : s.shuffleGroup n g = s.startStep g n := by simp [State.shuffleGroup, hfix, hfail, hready]
  rw [hstarts, State.startStep, h]
  exact ⟨_, State.stepOf_setStep _ _ _, rfl, rfl, rfl, rfl, rfl⟩

theorem State.shuffleGroup_fixed (h : s.fixed g = true) : s.shuffleGroup n g = s.bumpF (CNV.SHUFFLE_COUNT.SKIPS g) 1 := if_pos h

/-! ### A step that is skipped (R76) -/

/-- A slice whose background run has not failed stays as it is. -/
theorem State.skipStep_eq (hg : g < 4) (hr : s.restPos g ≤ 16) (hbg : s.fld (CAL.SLICE_STATE.BG_STATE (s.restSlice g)) ≠ 5) :
    s.skipStep g = (s.bumpF (CNV.SHUFFLE_COUNT.SKIPS g) 1).raise (40 + g) 0 (s.restSlice g) 0 0 := by
  have hsl : s.restSlice g ≤ 67 := by
    unfold State.restSlice
    omega
  refine if_neg fun h => hbg (h.1.symm.trans ?_).symm
  rw [State.raise_below _ _ _ _ _ (by omega) (by simp only [CAL.SLICE_STATE.BG_STATE]; omega),
    State.fld_bumpF_ne _ _ _ _ (by simp only [CAL.SLICE_STATE.BG_STATE, CNV.SHUFFLE_COUNT.SKIPS]; omega)]

theorem State.shuffleGroup_skips (hg : g < 4) (hr : s.restPos g ≤ 16) (hfix : s.fixed g = false)
    (hready : s.sliceReady (s.restSlice g) = false) (hbg : s.fld (CAL.SLICE_STATE.BG_STATE (s.restSlice g)) ≠ 5) :
    s.shuffleGroup n g = (s.bumpF (CNV.SHUFFLE_COUNT.SKIPS g) 1).raise (40 + g) 0 (s.restSlice g) 0 0 := by
  rw [← State.skipStep_eq hg hr hbg]
  simp [State.shuffleGroup, hfix, hready]

/-- The skip is counted and reported, and no step starts. -/
theorem State.skipped_shows (s : State) (hg : g < 4) {sl : Nat} (hsl : sl < 256) :
    let t := (s.bumpF (CNV.SHUFFLE_COUNT.SKIPS g) 1).raise (40 + g) 0 sl 0 0
    counted (CNV.SHUFFLE_COUNT.SKIPS g) s t ∧ reported (40 + g) 0 sl 0 t ∧ t.stepOf g = s.stepOf g := by
  refine ⟨(s.bumpF_counted _).congr (State.raise_below _ _ _ _ _ (by omega) (by simp only [CNV.SHUFFLE_COUNT.SKIPS]; omega)),
    State.raise_reported _ _ _ _ _ _ (by omega) (by omega) (by decide) hsl (by decide), ?_⟩
  rw [State.stepOf, State.raise_cnv _ _ _ _ _ (by omega)]
  rfl

end

/-- Settles O20: a step that starts moves what `stepMove` says for the position it starts from; one that does not start is counted. -/
theorem shuffleStepMovesItsLane : Obligations.ShuffleStepMovesItsLane := by
  intro s n g hg hr
  refine ⟨fun hfix hfail hready hdir hpos => ?_, fun hfix hfail hready hdir hpos => ?_, fun hfix hfail hready hpos => ?_,
    fun hfix hfail hready hpos => ?_, fun hfix => ?_, fun hfix hready hbg => ?_⟩
  · obtain ⟨st, hst, hin, hout, hlane, hdown, hat⟩ :=
      State.shuffleGroup_moves n hfix hfail hready ((congrArg (stepMove g _) hdir).trans (stepMove_down hpos))
    exact ⟨st, hst, hin, by omega, by omega, hdown, hat⟩
  · obtain ⟨st, hst, hin, hout, hlane, hdown, hat⟩ :=
      State.shuffleGroup_moves n hfix hfail hready ((congrArg (stepMove g _) hdir).trans (stepMove_up hpos))
    exact ⟨st, hst, hin, hout, hlane, hdown, hat⟩
  · obtain ⟨st, hst, -, hout, hlane, hdown, -⟩ :=
      State.shuffleGroup_moves n hfix hfail hready ((congrArg (stepMove g · _) hpos).trans (stepMove_top _))
    exact ⟨st, hst, hout, hlane, hdown⟩
  · obtain ⟨st, hst, -, hout, hlane, hdown, -⟩ :=
      State.shuffleGroup_moves n hfix hfail hready ((congrArg (stepMove g · _) hpos).trans (stepMove_bottom _))
    exact ⟨st, hst, hout, hlane, hdown⟩
  · rw [State.shuffleGroup_fixed hfix]
    exact ⟨s.bumpF_counted _, (onlyRegs_refl _ s).bumpF (List.mem_singleton_self _)⟩
  · rw [State.shuffleGroup_skips hg hr hfix hready hbg]
    exact s.skipped_shows hg (by unfold State.restSlice; omega)

end Sys2Proof.Machine
end

section
/-!
SUPPORT. The rest of a shuffle step (R77, R78, R80, R97, Table 03-4): what the layout and a switch instant depend on, what a slice retired, a
frame judged, a switch and a release leave.
-/

namespace Sys2Proof.Machine

/-! ### The layout (R57, R63, R68) -/

/-- Two states have the same layout. -/
def sameLayout (s t : State) : Prop := t.fld CNV.LAYOUT.MODE = s.fld CNV.LAYOUT.MODE ∧ t.fld CNV.LAYOUT.JOIN = s.fld CNV.LAYOUT.JOIN

section
variable {s t : State}

theorem sameLayout.trunk (h : sameLayout s t) (g : Nat) : t.trunk g = s.trunk g := by
  rw [State.trunk, State.trunk, h.1]

theorem sameLayout.chanGroups (h : sameLayout s t) (c : Nat) : t.chanGroups c = s.chanGroups c := by
  rw [State.chanGroups, State.chanGroups, h.trunk, h.2]

theorem sameLayout.slotLane (h : sameLayout s t) (c j : Nat) : t.slotLane c j = s.slotLane c j := by
  rw [State.slotLane, State.slotLane, h.chanGroups]

theorem sameLayout.lanes (h : sameLayout s t) (c : Nat) : t.lanes c = s.lanes c := by
  rw [State.lanes, State.lanes, h.chanGroups, h.trunk]

theorem sameLayout.lanesOf (h : sameLayout s t) (c : Nat) : t.lanesOf c = s.lanesOf c := by
  rw [State.lanesOf, State.lanesOf, h.lanes, funext (h.slotLane c)]

theorem sameLayout.chanOf (h : sameLayout s t) (lane : Nat) : t.chanOf lane = s.chanOf lane := by
  rw [State.chanOf, State.chanOf, h.trunk, h.2]

/-- A switch instant depends on the layout, the time and the records under way. -/
theorem sameLayout.switchInstant (h : sameLayout s t) (hacq : t.acq = s.acq) (hnow : t.now = s.now) (htick : t.tick = s.tick)
    (hcyc : t.cyc = s.cyc) (lane : Nat) : t.switchInstant lane = s.switchInstant lane := by
  simp only [State.switchInstant, State.to64, State.slotHolding, State.slotOf?, State.planOf, State.spt, State.nextSample, h.chanOf, h.lanes,
    hacq, hnow, htick, hcyc]

end

/-! ### A slice retired (R80) -/

/-- What the retirement of a slice changes before it is reported. -/
def State.markRetired (s : State) (sl : Nat) : State :=
  let s := { s with cnv := { s.cnv with retired := Tbl.set false s.cnv.retired sl true } }
  let s := (s.setF (CNV.GROUP_STATUS.FIXED (sl / 17)) 1).setF (CNV.GROUP_STATUS.REST (sl / 17)) (sl % 17)
  (s.setBg sl none).setF (CAL.SLICE_STATE.BG_STATE sl) 5

theorem State.retire_eq (s : State) (sl kind : Nat) :
    s.retire sl kind = (s.markRetired sl).raise (48 + sl / 17) kind sl 0 0 := rfl

def retireAddrs (sl : Nat) : List Nat :=
  [(CNV.GROUP_STATUS.FIXED (sl / 17)).addr, (CNV.GROUP_STATUS.REST (sl / 17)).addr, (CAL.SLICE_STATE.BG_STATE sl).addr]

theorem State.markRetired_fld (s : State) (sl : Nat) {f : Fld} (hf : f.addr ∉ retireAddrs sl) : (s.markRetired sl).fld f = s.fld f := by
  simp only [retireAddrs, List.mem_cons, List.not_mem_nil, or_false, not_or] at hf
  obtain ⟨hfixed, hrest, hbg⟩ := hf
  exact (State.fld_setF_ne _ _ f _ hbg).trans ((State.fld_setF_ne _ _ f _ hrest).trans (State.fld_setF_ne _ _ f _ hfixed))

section
variable (s : State) {sl : Nat} (kind : Nat) (hsl : sl < 68)
include hsl

theorem State.retire_fld {f : Fld} (hf : f.addr ∉ retireAddrs sl) (hb : f.addr < 14 * 524288) : (s.retire sl kind).fld f = s.fld f :=
  (State.raise_below _ _ _ _ _ (by omega) hb).trans (s.markRetired_fld sl hf)

theorem State.retire_cnv : (s.retire sl kind).cnv = { s.cnv with retired := Tbl.set false s.cnv.retired sl true } :=
  State.raise_cnv (s.markRetired sl) _ _ _ _ (by omega)

theorem State.retire_cal : (s.retire sl kind).cal = { s.cal with bgRun := Tbl.set none s.cal.bgRun sl none } :=
  State.raise_cal (s.markRetired sl) _ _ _ _ (by omega)

theorem State.retire_isRetired : (s.retire sl kind).isRetired sl = true := by
  rw [State.isRetired, State.retire_cnv s kind hsl, Tbl.get_set_same]

theorem State.retire_fixed : (s.retire sl kind).fixed (sl / 17) = true := by
  rw [State.fixed, State.bit, State.retire_eq, State.raise_below _ _ _ _ _ (by omega) (by simp only [CNV.GROUP_STATUS.FIXED]; omega),
    State.markRetired, State.fld_setF_ne _ _ _ _ (by simp only [CNV.GROUP_STATUS.FIXED, CAL.SLICE_STATE.BG_STATE]; omega)]
  exact beq_iff_eq.mpr ((State.fld_setF_ne _ _ _ _ (by simp only [CNV.GROUP_STATUS.FIXED, CNV.GROUP_STATUS.REST]; omega)).trans
    (State.fld_setF_same _ _ _))

theorem State.retire_restPos : (s.retire sl kind).restPos (sl / 17) = sl % 17 := by
  rw [State.restPos, State.retire_eq, State.raise_below _ _ _ _ _ (by omega) (by simp only [CNV.GROUP_STATUS.REST]; omega),
    State.markRetired, State.fld_setF_ne _ _ _ _ (by simp only [CNV.GROUP_STATUS.REST, CAL.SLICE_STATE.BG_STATE]; omega)]
  exact (State.fld_setF_same _ _ _).trans (Nat.mod_eq_of_lt (by simp only [CNV.GROUP_STATUS.REST]; omega))

variable {kind} in
theorem State.retire_reported (hk : kind < 256) : reported (48 + sl / 17) kind sl 0 (s.retire sl kind) :=
  State.raise_reported _ _ _ _ _ _ (by omega) (by omega) hk (by omega) (by decide)

variable {s} in
theorem reported.retire {n k i a : Nat} (hn : n < 256) (hlog : n ≠ 240) (h : n ≠ 48 + sl / 17) (r : reported n k i a s) :
    reported n k i a (s.retire sl kind) := by
  refine reported.raise hn hlog (r.frame hn (fun g hg => s.markRetired_fld sl ?_) rfl rfl) (by omega) h _ _ _ _
  simp only [isReport, MGT.LOG_STATUS.DROPPED, Bool.or_eq_true, beq_iff_eq] at hg
  simp only [retireAddrs, CNV.GROUP_STATUS.FIXED, CNV.GROUP_STATUS.REST, CAL.SLICE_STATE.BG_STATE, List.mem_cons, List.not_mem_nil,
    or_false]
  omega

end

end Sys2Proof.Machine
end

section
/-!
SUPPORT. A shuffle step under way (R77, R78, R80, R97, Table 03-4): the shadow frame, the switch and the release.
-/

namespace Sys2Proof.Machine

/-! ### The shadow frame (R77, R78) -/

section
variable (s : State) {g : Nat} {st : Step}

theorem shadowFrameStart_starts (hst : s.stepOf g = some st) (hsh : st.shadowAt = none) (hsw : st.switchAt = none)
    (hat : st.startAt + 32 ≤ s.now) (h64 : s.at64 = true) : exec (.shadowFrameStart g) s =
      .next ((s.setStep g (some { st with shadowAt := some s.now })).setF (CNV.GROUP_STATUS.STEP g) 2) := by
  simp [exec, execShadowFrameStart, effShadowFrameStart, hst, hsh, hsw, hat, h64]

theorem State.noteShadow_only (g : Nat) (ds : List Int) :
    onlyRegs [(CNV.SHADOW_LAST.MEAN g).addr, (CNV.SHADOW_LAST.RMS g).addr] s (s.noteShadow g ds) :=
  onlyRegs_trans (onlyRegs_setF _ s _ _ (by simp)) (onlyRegs_setF _ _ _ _ (by simp))

/-- The registers of a step that a frame's means do not touch. -/
theorem State.noteShadow_fld (ds : List Int) {f : Fld} (hmean : f.addr ≠ (CNV.SHADOW_LAST.MEAN g).addr)
    (hrms : f.addr ≠ (CNV.SHADOW_LAST.RMS g).addr) : (s.noteShadow g ds).fld f = s.fld f :=
  (s.noteShadow_only g ds).1 f (by simp [hmean, hrms])

/-- The incoming slice's offset takes the mean difference of its frame, and its run of failures ends. -/
def State.correctOffset (s : State) (sl : Nat) (ds : List Int) : State :=
  { s with cal := { s.cal with offset := Tbl.set 0 s.cal.offset sl (satI (Tbl.get 0 s.cal.offset sl - frameMean ds) (-32768) 32767) }
           cnv := { s.cnv with shadowFail := Tbl.set 0 s.cnv.shadowFail sl 0 } }

/-- A frame is accepted: the incoming slice's offset is corrected, and the switch instant is fixed. -/
def State.acceptShadow (s : State) (g : Nat) (st : Step) (ds : List Int) : State :=
  let s := s.correctOffset st.incoming ds
  (s.setStep g (some { st with switchAt := some (s.switchInstant st.lane) })).setF (CNV.GROUP_STATUS.STEP g) 4

/-- A failure of the shadow frame is counted against the slice. -/
def State.countShadowFail (s : State) (sl : Nat) : State :=
  { s with cnv := { s.cnv with shadowFail := Tbl.set 0 s.cnv.shadowFail sl (min 3 (Tbl.get 0 s.cnv.shadowFail sl + 1)) } }

/-- A frame fails: the step is aborted, and the third failure in a row retires the slice. -/
def State.rejectShadow (s : State) (g sl : Nat) : State :=
  if 3 ≤ Tbl.get 0 s.cnv.shadowFail sl + 1 then ((s.countShadowFail sl).abortShadow g sl 1).retire sl 0
  else (s.countShadowFail sl).abortShadow g sl 1

variable {s} in
theorem shadowFrameEnd_judges {c : Nat} {as bs : List Nat} {ds : List Int} (hst : s.stepOf g = some st) (hsh : st.shadowAt = some c)
    (hsw : st.switchAt = none) (hc : c + 1088 ≤ s.now) (hds : s.frameDiffs st as bs = ds) :
    exec (.shadowFrameEnd g (4 * c) as bs) s = .next (if ds.length < 3072 then (s.noteShadow g ds).abortShadow g st.incoming 0
      else if frameAgrees ds then (s.noteShadow g ds).acceptShadow g st ds else (s.noteShadow g ds).rejectShadow g st.incoming) := by
  subst hds
  obtain ⟨entry, lane, incoming, outgoing, startAt, shadowAt, switchAt, switched, down⟩ := st
  cases hsh
  cases hsw
  refine congrArg Host.Outcome.next ?_
  rw [effShadowFrameEnd, hst]
  dsimp only
  rw [if_pos ⟨hc, rfl⟩]
  rfl

theorem frameAgrees_iff (ds : List Int) : frameAgrees ds = true ↔
    ds.sum.natAbs ≤ 2 ^ 23 * ds.length ∧ (ds.map fun d => d.natAbs ^ 2).sum ≤ 144 * 2 ^ 42 * ds.length := by
  refine Bool.and_eq_true_iff.trans (and_congr decide_eq_true_iff decide_eq_true_iff)

/-- The means of a frame leave the instant at which its step would switch. -/
theorem State.noteShadow_layout (g : Nat) (ds : List Int) : sameLayout s (s.noteShadow g ds) :=
  ⟨s.noteShadow_fld ds (by simp only [CNV.LAYOUT.MODE, CNV.SHADOW_LAST.MEAN]; omega)
      (by simp only [CNV.LAYOUT.MODE, CNV.SHADOW_LAST.RMS]; omega),
    s.noteShadow_fld ds (by simp only [CNV.LAYOUT.JOIN, CNV.SHADOW_LAST.MEAN]; omega)
      (by simp only [CNV.LAYOUT.JOIN, CNV.SHADOW_LAST.RMS]; omega)⟩

theorem shadowFrame_accepted (g : Nat) (st : Step) (ds : List Int) :
    let t := (s.noteShadow g ds).acceptShadow g st ds
    t.fld (CNV.GROUP_STATUS.STEP g) = 4 ∧ Tbl.get 0 t.cal.offset st.incoming =
        satI (Tbl.get 0 s.cal.offset st.incoming - Int.tdiv ds.sum (2 ^ 15 * ds.length)) (-32768) 32767 ∧
      Tbl.get 0 t.cnv.shadowFail st.incoming = 0 ∧ t.stepOf g = some { st with switchAt := some (s.switchInstant st.lane) } := by
  have hlay : sameLayout s ((s.noteShadow g ds).correctOffset st.incoming ds) := s.noteShadow_layout g ds
  refine ⟨State.fld_setF_same _ _ _, Tbl.get_set_same (0 : Int) _ _ _, ?_, (State.stepOf_setStep _ _ _).trans ?_⟩
  · exact Tbl.get_set_same (0 : Nat) (s.noteShadow g ds).cnv.shadowFail st.incoming 0
  · rw [hlay.switchInstant rfl rfl rfl rfl]

/-! ### A step aborted (R78) -/

/-- A step of group `g` ends aborted: counted, with its notice about slice `sl`, no step left. -/
def shadowAborted (g sl kind : Nat) (s t : State) : Prop :=
  t.stepOf g = none ∧ t.fld (CNV.GROUP_STATUS.STEP g) = 0 ∧ counted (CNV.SHUFFLE_COUNT.ABORTS g) s t ∧ reported (44 + g) kind sl 0 t ∧
    t.cal.offset = s.cal.offset ∧ t.cnv.shadowFail = s.cnv.shadowFail

variable {sl kind : Nat} (hg : g < 4) (hsl : sl < 68)
include hg

theorem State.abortShadow_cal : (s.abortShadow g sl kind).cal = s.cal := State.raise_cal _ _ _ _ _ (by omega)

include hsl

variable {s} in
theorem State.abortShadow_aborts (hk : kind < 256) : shadowAborted g sl kind s (s.abortShadow g sl kind) := by
  have hcnv : (s.abortShadow g sl kind).cnv = (s.setStep g none).cnv := State.raise_cnv _ _ _ _ _ (by omega)
  refine ⟨?_, ?_, ?_, State.raise_reported _ _ _ _ _ _ (by omega) (by omega) hk (by omega) (by decide), ?_, ?_⟩
  · rw [State.stepOf, hcnv]
    exact State.stepOf_setStep _ _ _
  · rw [State.abortShadow, State.raise_below _ _ _ _ _ (by omega) (by simp only [CNV.GROUP_STATUS.STEP]; omega),
      State.fld_bumpF_ne _ _ _ _ (by simp only [CNV.GROUP_STATUS.STEP, CNV.SHUFFLE_COUNT.ABORTS]; omega)]
    exact State.fld_setF_same _ _ _
  · refine counted.of_same (v := (s.setStep g none).setF (CNV.GROUP_STATUS.STEP g) 0) ((State.bumpF_counted _ _).congr
      (State.raise_below _ _ _ _ _ (by omega) (by simp only [CNV.SHUFFLE_COUNT.ABORTS]; omega))) ?_ rfl
    exact State.fld_setF_ne _ _ _ _ (by simp only [CNV.GROUP_STATUS.STEP, CNV.SHUFFLE_COUNT.ABORTS]; omega)
  · rw [State.abortShadow_cal s hg]
  · rw [hcnv]
    rfl

omit hg hsl in
theorem step_not_retireAddrs : (CNV.GROUP_STATUS.STEP g).addr ∉ retireAddrs sl := by
  simp only [retireAddrs, CNV.GROUP_STATUS.STEP, CNV.GROUP_STATUS.FIXED, CNV.GROUP_STATUS.REST, CAL.SLICE_STATE.BG_STATE,
    List.mem_cons, List.not_mem_nil, or_false]
  omega

omit hg hsl in
theorem aborts_not_retireAddrs : (CNV.SHUFFLE_COUNT.ABORTS g).addr ∉ retireAddrs sl := by
  simp only [retireAddrs, CNV.SHUFFLE_COUNT.ABORTS, CNV.GROUP_STATUS.FIXED, CNV.GROUP_STATUS.REST, CAL.SLICE_STATE.BG_STATE,
    List.mem_cons, List.not_mem_nil, or_false]
  omega

/-- The retirement of the slice leaves the step aborted. -/
theorem shadowAborted.retire {s t : State} (h : shadowAborted g sl kind s t) (k : Nat) : shadowAborted g sl kind s (t.retire sl k) := by
  obtain ⟨hstep, hst, hcount, hrep, hoff, hfail⟩ := h
  refine ⟨?_, ?_, hcount.congr ?_, hrep.retire k hsl (by omega) (by omega) (by omega), ?_, ?_⟩
  · rw [State.stepOf, State.retire_cnv t k hsl]
    exact hstep
  · rw [State.retire_fld t k hsl step_not_retireAddrs (by simp only [CNV.GROUP_STATUS.STEP]; omega), hst]
  · exact State.retire_fld t k hsl aborts_not_retireAddrs (by simp only [CNV.SHUFFLE_COUNT.ABORTS]; omega)
  · rw [State.retire_cal t k hsl]
    exact hoff
  · rw [State.retire_cnv t k hsl]
    exact hfail

theorem State.rejectShadow_aborts : shadowAborted g sl 1 (s.countShadowFail sl) (s.rejectShadow g sl) ∧
    (2 ≤ Tbl.get 0 s.cnv.shadowFail sl → (s.rejectShadow g sl).isRetired sl = true) := by
  have habort : shadowAborted g sl 1 (s.countShadowFail sl) ((s.countShadowFail sl).abortShadow g sl 1) :=
    State.abortShadow_aborts hg hsl (by decide)
  by_cases h : 3 ≤ Tbl.get 0 s.cnv.shadowFail sl + 1
  · rw [State.rejectShadow, if_pos h]
    exact ⟨habort.retire hg hsl 0, fun _ => State.retire_isRetired _ 0 hsl⟩
  · rw [State.rejectShadow, if_neg h]
    exact ⟨habort, fun h' => absurd (Nat.succ_le_succ h') h⟩

end

end Sys2Proof.Machine
end

section
/-!
SUPPORT. The switch and the release of a shuffle step (R77 steps 4 and 5, R97).
-/

namespace Sys2Proof.Machine

section
variable {s : State} {g c : Nat} {st : Step}

/-! ### The switch -/

/-- The incoming slice serves its lane from `c` on. -/
def State.switchLane (s : State) (g : Nat) (st : Step) (c : Nat) : State :=
  let s := s.setStep g (some { st with switched := true })
  { s with cnv := { s.cnv with switches := (st.lane, c) :: s.cnv.switches
                               served := (st.lane, st.outgoing, c) :: s.cnv.served
                               lastSwitch := Tbl.set 0 s.cnv.lastSwitch g s.tick.toNat } }

/-- A switch's requests are held by the sequencers alone. -/
theorem State.switchRequests_eq (s : State) (st : Step) : ∃ q, (if (s.laneRequest 5 st.lane).flagTurns st then
    (s.laneRequest 5 st.lane).laneRequest 6 st.lane else s.laneRequest 5 st.lane) = { s with seq := q } := by
  obtain ⟨q, hq⟩ := s.laneRequest_eq 5 st.lane
  rw [hq]
  split
  · exact State.laneRequest_eq { s with seq := q } 6 st.lane
  · exact ⟨q, rfl⟩

/-- A switch leaves, of the sequencers, their requests alone. -/
theorem shuffleSwitch_switches (hst : s.stepOf g = some st) (hsw : st.switchAt = some c) (hc : c / finePerNs = s.now)
    (hnot : st.switched = false) : ∃ q, exec (.shuffleSwitch g) s = .next { (((s.switchLane g st c).setF (CNV.GROUP_STATUS.STEP g) 5).setF
      (CAL.SLICE_STATE.BG_STATE st.incoming) 0) with seq := q } := by
  obtain ⟨entry, lane, incoming, outgoing, startAt, shadowAt, switchAt, switched, down⟩ := st
  cases hsw
  cases hnot
  change ∃ q, Host.Outcome.next (effShuffleSwitch g s) = _
  rw [effShuffleSwitch, hst]
  dsimp only
  rw [if_pos ⟨rfl, hc, rfl⟩]
  obtain ⟨q, hq⟩ := State.switchRequests_eq ((s.setStep g (some ⟨entry, lane, incoming, outgoing, startAt, shadowAt, some c, true, down⟩)).setF
    (CNV.GROUP_STATUS.STEP g) 5) ⟨entry, lane, incoming, outgoing, startAt, shadowAt, some c, false, down⟩
  exact ⟨q, by rw [hq]; rfl⟩

/-- From its latest switch on, a lane's slice is the one that serves it now. -/
theorem State.sliceWhen_of_lastServed {lane left x : Nat} {rest : List (Nat × Nat × Nat)} (h : s.cnv.served = (lane, left, c) :: rest)
    (hx : c ≤ x) : s.sliceWhen lane x = s.sliceOf lane := by
  rw [State.sliceWhen, State.servers, h, List.filter_cons_of_pos (by simp), List.map_cons, servedIn, if_pos hx]
  rfl

theorem State.switchLane_regs (s : State) (g : Nat) (st : Step) (c : Nat) (f : Fld) : (s.switchLane g st c).fld f = s.fld f := rfl

/-! ### The release -/

/-- The outgoing slice of a step comes to rest. -/
def State.restOutgoing (s : State) (g : Nat) (st : Step) : State :=
  let s := (s.setStep g none).setF (CNV.GROUP_STATUS.STEP g) 0
  let s := (s.setF (CNV.GROUP_STATUS.REST g) (st.outgoing % 17)).setB (CNV.GROUP_STATUS.DIR g) (!st.down)
  let s := s.setF (CNV.LAST_SWITCH_LO.TICK g) (Tbl.get 0 s.cnv.lastSwitch g)
  let s := { s with cnv := { s.cnv with lastSwitch := Tbl.set 0 s.cnv.lastSwitch (4 + g) (Tbl.get 0 s.cnv.lastSwitch g) } }
  s.bumpF (CNV.SHUFFLE_COUNT.STEPS g) 1

theorem shuffleRelease_rests (hst : s.stepOf g = some st) (hsw : st.switchAt = some c) (hdone : st.switched = true)
    (hc : c / finePerNs + 16 ≤ s.now) : exec (.shuffleRelease g) s = .next ((s.restOutgoing g st).startBg st.outgoing) := by
  refine congrArg Host.Outcome.next ?_
  rw [effShuffleRelease, hst]
  dsimp only
  rw [hsw]
  dsimp only
  rw [if_pos ⟨hdone, hc⟩]
  rfl

theorem State.restOutgoing_stepOf (s : State) (g : Nat) (st : Step) : (s.restOutgoing g st).stepOf g = none := State.stepOf_setStep s g none

theorem State.restOutgoing_fixed (s : State) (g : Nat) (st : Step) : (s.restOutgoing g st).fixed g = s.fixed g := by
  unfold State.restOutgoing State.fixed State.bit
  refine congrArg (· == 1) ?_
  rw [State.fld_bumpF_ne _ _ _ _ (by simp only [CNV.GROUP_STATUS.FIXED, CNV.SHUFFLE_COUNT.STEPS]; omega)]
  refine (State.fld_setF_ne _ _ _ _ (by simp only [CNV.GROUP_STATUS.FIXED, CNV.LAST_SWITCH_LO.TICK]; omega)).trans ?_
  rw [State.fld_setB_ne _ _ _ _ (by simp only [CNV.GROUP_STATUS.FIXED, CNV.GROUP_STATUS.DIR]; omega),
    State.fld_setF_ne _ _ _ _ (by simp only [CNV.GROUP_STATUS.FIXED, CNV.GROUP_STATUS.REST]; omega)]
  exact State.fld_setF_ne _ _ _ _ (by simp only [CNV.GROUP_STATUS.FIXED, CNV.GROUP_STATUS.STEP]; omega)

theorem State.restOutgoing_restPos (s : State) (g : Nat) (st : Step) : (s.restOutgoing g st).restPos g = st.outgoing % 17 := by
  unfold State.restOutgoing State.restPos
  rw [State.fld_bumpF_ne _ _ _ _ (by simp only [CNV.GROUP_STATUS.REST, CNV.SHUFFLE_COUNT.STEPS]; omega)]
  refine (State.fld_setF_ne _ _ _ _ (by simp only [CNV.GROUP_STATUS.REST, CNV.LAST_SWITCH_LO.TICK]; omega)).trans ?_
  rw [State.fld_setB_ne _ _ _ _ (by simp only [CNV.GROUP_STATUS.REST, CNV.GROUP_STATUS.DIR]; omega), State.fld_setF_same]
  exact Nat.mod_eq_of_lt (by simp only [CNV.GROUP_STATUS.REST]; omega)

theorem State.restOutgoing_dir (s : State) (g : Nat) (st : Step) : (s.restOutgoing g st).bit (CNV.GROUP_STATUS.DIR g) = !st.down := by
  unfold State.restOutgoing State.bit
  rw [State.fld_bumpF_ne _ _ _ _ (by simp only [CNV.GROUP_STATUS.DIR, CNV.SHUFFLE_COUNT.STEPS]; omega)]
  refine (congrArg (· == 1) ((State.fld_setF_ne _ _ _ _ (by simp only [CNV.GROUP_STATUS.DIR, CNV.LAST_SWITCH_LO.TICK]; omega)).trans
    (State.fld_setF_same _ _ _))).trans ?_
  cases st.down <;> rfl

theorem State.restOutgoing_counted (s : State) (g : Nat) (st : Step) : counted (CNV.SHUFFLE_COUNT.STEPS g) s (s.restOutgoing g st) := by
  unfold State.restOutgoing
  refine (State.bumpF_counted _ _).of_same ?_ rfl
  refine (State.fld_setF_ne _ _ _ _ (by simp only [CNV.SHUFFLE_COUNT.STEPS, CNV.LAST_SWITCH_LO.TICK]; omega)).trans ?_
  rw [State.fld_setB_ne _ _ _ _ (by simp only [CNV.SHUFFLE_COUNT.STEPS, CNV.GROUP_STATUS.DIR]; omega),
    State.fld_setF_ne _ _ _ _ (by simp only [CNV.SHUFFLE_COUNT.STEPS, CNV.GROUP_STATUS.REST]; omega)]
  exact State.fld_setF_ne _ _ _ _ (by simp only [CNV.SHUFFLE_COUNT.STEPS, CNV.GROUP_STATUS.STEP]; omega)

/-- A background run's start leaves the registers of the converter fabric. -/
theorem State.startBg_fld (s : State) (sl : Nat) {f : Fld} (hf : f.addr < 3 * 524288) : (s.startBg sl).fld f = s.fld f := by
  unfold State.startBg
  split
  · rfl
  · exact State.fld_setF_ne _ _ _ _ (by simp only [CAL.SLICE_STATE.BG_STATE]; omega)

theorem State.startBg_cnv (s : State) (sl : Nat) : (s.startBg sl).cnv = s.cnv := by
  unfold State.startBg
  split <;> rfl

theorem State.startBg_fixed {sl : Nat} (h : s.fixed (sl / 17) = true) : s.startBg sl = s := if_pos h

theorem State.startBg_free {sl : Nat} (h : s.fixed (sl / 17) = false) :
    s.startBg sl = (s.setBg sl (some s.now)).setF (CAL.SLICE_STATE.BG_STATE sl) 1 := if_neg (by simp [h])

end

end Sys2Proof.Machine
end

section
/-!
SUPPORT. Background runs (R96, R98, R99): what a run that passes and one that fails leave.
-/

namespace Sys2Proof.Machine

section
variable {s : State} {sl : Nat} {f : Fld} {att : List (List (Int × Int))} {lb : LoopBack}

/-! ### The run's end -/

/-- A run counts and is over before it is judged. -/
def State.endRun (s : State) (sl : Nat) : State := (s.setBg sl none).bumpF CAL.COUNTS.BG_RUNS 1

theorem State.endRun_fld (s : State) (sl : Nat) (hf : f.addr ≠ CAL.COUNTS.BG_RUNS.addr) : (s.endRun sl).fld f = s.fld f :=
  State.fld_bumpF_ne _ _ _ _ hf

theorem State.endRun_counted (s : State) (sl : Nat) : counted CAL.COUNTS.BG_RUNS s (s.endRun sl) := (s.setBg sl none).bumpF_counted _

theorem State.endRun_bgRun (s : State) (sl : Nat) : Tbl.get none (s.endRun sl).cal.bgRun sl = none :=
  Tbl.get_set_same (none : Option Nat) s.cal.bgRun sl none

section
variable (hsl : sl < 68) (hbg : Tbl.get none s.cal.bgRun sl ≠ none) (hrun : s.running = true) (hbist : Tbl.get none s.bst.run (sl / 17) = none)
include hsl hbg hrun hbist

theorem bgRunComplete_decides : exec (.bgRunComplete sl att lb) s = .next (match decideRun att with
    | none => s
    | some js => if js.all Option.isSome && loopPasses lb then (s.endRun sl).passRun sl js else (s.endRun sl).failRun sl) := by
  refine congrArg Host.Outcome.next (if_pos ?_)
  simp [Option.isSome_iff_ne_none, hsl, hbg, hrun, hbist]

theorem bgRunComplete_goesOn (h : decideRun att = none) : exec (.bgRunComplete sl att lb) s = .next s := by
  rw [bgRunComplete_decides hsl hbg hrun hbist, h]

theorem bgRunComplete_passes {js : List (Option (List Int))} (h : decideRun att = some js)
    (hp : (js.all Option.isSome && loopPasses lb) = true) : exec (.bgRunComplete sl att lb) s = .next ((s.endRun sl).passRun sl js) := by
  rw [bgRunComplete_decides hsl hbg hrun hbist, h]
  exact congrArg Host.Outcome.next (if_pos hp)

theorem bgRunComplete_fails {js : List (Option (List Int))} (h : decideRun att = some js)
    (hf : js.all Option.isSome = false ∨ loopPasses lb = false) :
    exec (.bgRunComplete sl att lb) s = .next ((s.endRun sl).failRun sl) := by
  rw [bgRunComplete_decides hsl hbg hrun hbist, h]
  exact congrArg Host.Outcome.next (if_neg (by simpa [← Bool.not_eq_true, imp_iff_not_or] using hf))

end

/-! ### A run that passes (R98, R99) -/

/-- The history takes a run's values and leaves the registers of the blocks and the calibration in force. -/
theorem State.storeBg_only (s : State) (sl : Nat) (values : List (List Int)) :
    ∃ u : State, u.regs = s.regs ∧ u.cal = s.cal ∧ onlyReports [] u (s.storeBg sl values) := by
  unfold State.storeBg State.logCal
  refine ⟨_, ?_, ?_, State.logEntry_only _ _ _ _ _ _⟩ <;> rfl

theorem State.storeBg_fld (s : State) (sl : Nat) (values : List (List Int)) (hf : f.addr < 14 * 524288) :
    (s.storeBg sl values).fld f = s.fld f := by
  obtain ⟨u, hregs, -, honly⟩ := s.storeBg_only sl values
  rw [honly.1 f List.not_mem_nil (isReport_below hf), State.fld, State.fld, hregs]

theorem State.storeBg_cal (s : State) (sl : Nat) (values : List (List Int)) : (s.storeBg sl values).cal = s.cal := by
  obtain ⟨u, -, hcal, honly⟩ := s.storeBg_only sl values
  exact honly.cal_eq.trans hcal

/-- The marks of a slice (R99). -/
def sliceMarks (sl : Nat) : List Fld := [CAL.SLICE_STATE.OFF_SUSP sl, CAL.SLICE_STATE.GAIN_SUSP sl, CAL.SLICE_STATE.WT_SUSP sl,
  CAL.SLICE_STATE.AP_SUSP sl, CAL.SLICE_STATE.LB_FAIL sl, CAL.SLICE_STATE.SUSPECT sl]

theorem State.clearSliceMarks_fld (s : State) (sl : Nat) (f : Fld) : (s.clearSliceMarks sl).fld f = (s.clearFs (sliceMarks sl)).fld f := by
  unfold State.clearSliceMarks
  dsimp only
  split <;> rfl

/-- Clearing a slice's marks leaves every value. -/
theorem State.clearSliceMarks_values (s : State) (sl : Nat) : (s.clearSliceMarks sl).cal.bgRun = s.cal.bgRun ∧
    (s.clearSliceMarks sl).cal.offset = s.cal.offset ∧ (s.clearSliceMarks sl).cal.gain = s.cal.gain ∧
    (s.clearSliceMarks sl).cal.weight = s.cal.weight := by
  unfold State.clearSliceMarks
  dsimp only
  split <;> simp only [State.clearFs_cal, and_self]

/-- A slice takes the weights, the offset and the gain of a run. -/
def State.takeValues (s : State) (sl : Nat) (v0 v1 v2 : List Int) : State :=
  ((s.setSliceValue sl 0 v0).setSliceValue sl 1 v1).setSliceValue sl 2 v2

/-- A slice whose run has passed is ready. -/
def State.readySlice (s : State) (sl : Nat) : State :=
  let s := s.clearSliceMarks sl
  let s := s.setF (CAL.SLICE_STATE.SRC sl) (max 1 (Tbl.get 0 s.cal.apSrc sl))
  (s.setF (CAL.SLICE_STATE.BG_FAILS sl) 0).setF (CAL.SLICE_STATE.BG_STATE sl) 4

theorem State.passRun_eq (s : State) (sl : Nat) (v0 v1 v2 : List Int) :
    s.passRun sl [some v0, some v1, some v2] = ((s.takeValues sl v0 v1 v2).readySlice sl).storeBg sl [v0, v1, v2] := rfl

theorem State.readySlice_state (s : State) (sl : Nat) : (s.readySlice sl).fld (CAL.SLICE_STATE.BG_STATE sl) = 4 := State.fld_setF_same _ _ _

theorem State.readySlice_fails (s : State) (sl : Nat) : (s.readySlice sl).fld (CAL.SLICE_STATE.BG_FAILS sl) = 0 :=
  (State.fld_setF_ne _ _ _ _ (by simp only [CAL.SLICE_STATE.BG_FAILS, CAL.SLICE_STATE.BG_STATE]; omega)).trans (State.fld_setF_same _ _ _)

theorem State.readySlice_suspect (s : State) (sl : Nat) : (s.readySlice sl).fld (CAL.SLICE_STATE.SUSPECT sl) = 0 := by
  unfold State.readySlice
  dsimp only
  rw [State.fld_setF_ne _ _ _ _ (by simp only [CAL.SLICE_STATE.SUSPECT, CAL.SLICE_STATE.BG_STATE]; omega),
    State.fld_setF_ne _ _ _ _ (by simp only [CAL.SLICE_STATE.SUSPECT, CAL.SLICE_STATE.BG_FAILS]; omega),
    State.fld_setF_ne _ _ _ _ (by simp only [CAL.SLICE_STATE.SUSPECT, CAL.SLICE_STATE.SRC]; omega), State.clearSliceMarks_fld]
  refine State.fld_clearFs_nodup _ ?_ _ (by simp [sliceMarks]) s
  simp [sliceMarks, CAL.SLICE_STATE.OFF_SUSP, CAL.SLICE_STATE.GAIN_SUSP, CAL.SLICE_STATE.WT_SUSP, CAL.SLICE_STATE.AP_SUSP,
    CAL.SLICE_STATE.LB_FAIL, CAL.SLICE_STATE.SUSPECT]

theorem State.readySlice_runs (s : State) (sl : Nat) : (s.readySlice sl).fld CAL.COUNTS.BG_RUNS = s.fld CAL.COUNTS.BG_RUNS := by
  unfold State.readySlice
  dsimp only
  rw [State.fld_setF_ne _ _ _ _ (by simp only [CAL.COUNTS.BG_RUNS, CAL.SLICE_STATE.BG_STATE]; omega),
    State.fld_setF_ne _ _ _ _ (by simp only [CAL.COUNTS.BG_RUNS, CAL.SLICE_STATE.BG_FAILS]; omega),
    State.fld_setF_ne _ _ _ _ (by simp only [CAL.COUNTS.BG_RUNS, CAL.SLICE_STATE.SRC]; omega), State.clearSliceMarks_fld]
  refine State.fld_clearFs_ne _ _ _ fun x hx => ?_
  simp only [sliceMarks, List.mem_cons, List.not_mem_nil, or_false] at hx
  rcases hx with rfl | rfl | rfl | rfl | rfl | rfl <;>
    simp only [CAL.COUNTS.BG_RUNS, CAL.SLICE_STATE.OFF_SUSP, CAL.SLICE_STATE.GAIN_SUSP, CAL.SLICE_STATE.WT_SUSP, CAL.SLICE_STATE.AP_SUSP,
      CAL.SLICE_STATE.LB_FAIL, CAL.SLICE_STATE.SUSPECT] <;> omega

/-- Entries of a table set one after another: one that is among them holds its value. -/
theorem get_foldl_set {α : Type} [DecidableEq α] (d : α) (i : Nat → Nat) (v : Nat → α) (hi : ∀ a b, i a = i b → a = b) (b : Nat) :
    ∀ (l : List Nat) (t : Tbl α), b ∈ l → Tbl.get d (l.foldl (fun t b => Tbl.set d t (i b) (v b)) t) (i b) = v b := by
  intro l
  induction l using List.reverseRecOn with
  | nil => exact fun _ h => absurd h List.not_mem_nil
  | append_singleton l x ih =>
    intro t hb
    rw [List.foldl_append, List.foldl_cons, List.foldl_nil]
    by_cases hx : x = b
    · rw [hx, Tbl.get_set_same]
    · rw [Tbl.get_set_ne _ _ _ _ _ _ fun e => hx (hi _ _ e).symm]
      exact ih t (by simpa [Ne.symm hx] using hb)

/-- The values of a run, in force at the slice. -/
theorem State.takeValues_takes (s : State) (sl : Nat) (v0 v1 v2 : List Int) :
    Tbl.get 0 (s.takeValues sl v0 v1 v2).cal.offset sl = v1.headD 0 ∧
    Tbl.get 0x8000 (s.takeValues sl v0 v1 v2).cal.gain sl = v2.headD 0x8000 ∧
    ∀ b < 14, Tbl.get none (s.takeValues sl v0 v1 v2).cal.weight (16 * sl + b) = v0[b]? :=
  ⟨Tbl.get_set_same (0 : Int) s.cal.offset sl _, Tbl.get_set_same (0x8000 : Int) s.cal.gain sl _, fun b hb =>
    get_foldl_set none (fun b => 16 * sl + b) (fun b => v0[b]?) (fun _ _ e => by omega) b _ s.cal.weight (List.mem_range.mpr hb)⟩

/-- A run that passes makes its slice ready with its values. -/
theorem State.passRun_readies (s : State) (hsl : sl < 68) (v0 v1 v2 : List Int) :
    let t := s.passRun sl [some v0, some v1, some v2]
    (t.fld (CAL.SLICE_STATE.BG_STATE sl) = 4 ∧ t.fld (CAL.SLICE_STATE.BG_FAILS sl) = 0 ∧ t.fld (CAL.SLICE_STATE.SUSPECT sl) = 0) ∧
      t.fld CAL.COUNTS.BG_RUNS = s.fld CAL.COUNTS.BG_RUNS ∧ t.cal.bgRun = s.cal.bgRun ∧ Tbl.get 0 t.cal.offset sl = v1.headD 0 ∧
      Tbl.get 0x8000 t.cal.gain sl = v2.headD 0x8000 ∧ ∀ b < 14, Tbl.get none t.cal.weight (16 * sl + b) = v0[b]? := by
  dsimp only
  obtain ⟨hbg, hoff, hgain, hwt⟩ := (s.takeValues sl v0 v1 v2).clearSliceMarks_values sl
  have hready : ∀ u : State, (u.readySlice sl).cal = (u.clearSliceMarks sl).cal := fun _ => rfl
  rw [State.passRun_eq, State.storeBg_cal, hready, hbg, hoff, hgain, hwt]
  refine ⟨⟨?_, ?_, ?_⟩, ?_, rfl, s.takeValues_takes sl v0 v1 v2⟩
  · rw [State.storeBg_fld _ _ _ (by simp only [CAL.SLICE_STATE.BG_STATE]; omega), State.readySlice_state]
  · rw [State.storeBg_fld _ _ _ (by simp only [CAL.SLICE_STATE.BG_FAILS]; omega), State.readySlice_fails]
  · rw [State.storeBg_fld _ _ _ (by simp only [CAL.SLICE_STATE.SUSPECT]; omega), State.readySlice_suspect]
  · rw [State.storeBg_fld _ _ _ (by decide), State.readySlice_runs]
    rfl

/-! ### A run that fails (R98, R80) -/

/-- The failure of a run is counted, shown and reported. -/
def State.noteFailedRun (s : State) (sl : Nat) : State :=
  let n := s.fld (CAL.SLICE_STATE.BG_FAILS sl) + 1
  let s := (s.setF (CAL.SLICE_STATE.BG_FAILS sl) (min 3 n)).setF (CAL.SLICE_STATE.BG_STATE sl) 5
  (s.bumpF CAL.COUNTS.BG_FAILED 1).raise (56 + sl / 17) 0 sl 0 0

theorem State.failRun_eq (s : State) (sl : Nat) : s.failRun sl =
    if 3 ≤ s.fld (CAL.SLICE_STATE.BG_FAILS sl) + 1 then (s.noteFailedRun sl).retire sl 1 else s.noteFailedRun sl := rfl

variable (s) (hsl : sl < 68)
include hsl

theorem State.noteFailedRun_cal : (s.noteFailedRun sl).cal = s.cal := State.raise_cal _ _ _ _ _ (by omega)

theorem State.noteFailedRun_state : (s.noteFailedRun sl).fld (CAL.SLICE_STATE.BG_STATE sl) = 5 := by
  unfold State.noteFailedRun
  rw [State.raise_below _ _ _ _ _ (by omega) (by simp only [CAL.SLICE_STATE.BG_STATE]; omega),
    State.fld_bumpF_ne _ _ _ _ (by simp only [CAL.SLICE_STATE.BG_STATE, CAL.COUNTS.BG_FAILED]; omega)]
  exact State.fld_setF_same _ _ _

theorem State.noteFailedRun_fails (h : s.fld (CAL.SLICE_STATE.BG_FAILS sl) < 2) :
    (s.noteFailedRun sl).fld (CAL.SLICE_STATE.BG_FAILS sl) = s.fld (CAL.SLICE_STATE.BG_FAILS sl) + 1 := by
  unfold State.noteFailedRun
  rw [State.raise_below _ _ _ _ _ (by omega) (by simp only [CAL.SLICE_STATE.BG_FAILS]; omega),
    State.fld_bumpF_ne _ _ _ _ (by simp only [CAL.SLICE_STATE.BG_FAILS, CAL.COUNTS.BG_FAILED]; omega),
    State.fld_setF_ne _ _ _ _ (by simp only [CAL.SLICE_STATE.BG_FAILS, CAL.SLICE_STATE.BG_STATE]; omega), State.fld_setF_same,
    show (CAL.SLICE_STATE.BG_FAILS sl).width = 2 from rfl]
  omega

theorem State.noteFailedRun_counted : counted CAL.COUNTS.BG_FAILED s (s.noteFailedRun sl) := by
  refine ((State.bumpF_counted _ _).congr (State.raise_below _ _ _ _ _ (by omega) (by decide))).of_same ?_ rfl
  rw [State.fld_setF_ne _ _ _ _ (by simp only [CAL.COUNTS.BG_FAILED, CAL.SLICE_STATE.BG_STATE]; omega),
    State.fld_setF_ne _ _ _ _ (by simp only [CAL.COUNTS.BG_FAILED, CAL.SLICE_STATE.BG_FAILS]; omega)]

theorem State.noteFailedRun_runs : (s.noteFailedRun sl).fld CAL.COUNTS.BG_RUNS = s.fld CAL.COUNTS.BG_RUNS := by
  unfold State.noteFailedRun
  rw [State.raise_below _ _ _ _ _ (by omega) (by decide), State.fld_bumpF_ne _ _ _ _ (by decide),
    State.fld_setF_ne _ _ _ _ (by simp only [CAL.COUNTS.BG_RUNS, CAL.SLICE_STATE.BG_STATE]; omega),
    State.fld_setF_ne _ _ _ _ (by simp only [CAL.COUNTS.BG_RUNS, CAL.SLICE_STATE.BG_FAILS]; omega)]

theorem State.noteFailedRun_reported : reported (56 + sl / 17) 0 sl 0 (s.noteFailedRun sl) :=
  State.raise_reported _ _ _ _ _ _ (by omega) (by omega) (by decide) (by omega) (by decide)

end

end Sys2Proof.Machine
end

section
/-!
SUPPORT. Tracking (R101 to R104): what a window judged leaves, and what the changes applied at a boundary leave.
-/

namespace Sys2Proof.Machine

section
variable {s t u : State} {c : Nat} {w : TrackWin}

/-! ### A window judged -/

theorem State.setWin_win (s : State) (c : Nat) (x : Option TrackWin) : Tbl.get none (s.setWin c x).cal.win c = x :=
  Tbl.get_set_same none s.cal.win c x

theorem State.setTrack_track (s : State) (c : Nat) (ch : List (Int × Int × Int)) (full : Bool) :
    Tbl.get [] (s.setTrack c ch full).cal.track c = ch := Tbl.get_set_same [] s.cal.track c ch

theorem State.setTrack_full (s : State) (c : Nat) (ch : List (Int × Int × Int)) (full : Bool) :
    Tbl.get false (s.setTrack c ch full).cal.trackFull c = full := Tbl.get_set_same false s.cal.trackFull c full

/-- A window of a tracked channel that is complete is judged, and the next one follows it. -/
theorem trackWindowEnd_judges (hw : Tbl.get none s.cal.win c = some w) (ht : s.tracked c = true) (hn : w.from_ + s.winLen + 4 ≤ w.top) :
    exec (.trackWindowEnd c w.from_) s = .next ((s.judgeWin c w).setWin c (some (s.nextWin w))) := by
  refine congrArg Host.Outcome.next ?_
  rw [effTrackWindowEnd, hw]
  exact if_pos (by simp [ht, hn])

theorem onlyRegs.setTrack {A : List Nat} {ch : List (Int × Int × Int)} {full : Bool} (h : onlyRegs A s u) :
    onlyRegs A s { u.setTrack c ch full with cal := s.cal } := ⟨h.1, (congrArg (fun v : State => { v with cal := s.cal }) h.2 : _)⟩

theorem State.judgeWin_disturbed (h : s.trackDisturbed c w = true) :
    s.judgeWin c w = (s.setTrack c [] false).bumpF CAL.COUNTS.DISCARDS 1 := if_pos h

theorem State.judgeWin_sufficient (h : s.trackDisturbed c w = false) (hr : s.trackReason c w = 0) :
    s.judgeWin c w = s.setTrack c ((s.estimates c w w.from_ s.winLen).map (trackChange true)) true :=
  (if_neg (by simp [h])).trans (if_pos hr)

theorem State.judgeWin_insufficient (h : s.trackDisturbed c w = false) (hr : s.trackReason c w ≠ 0) :
    s.judgeWin c w = ((s.bumpF (CAL.TRACK_STATUS.INSUFF c) 1).setF (CAL.TRACK_STATUS.REASON c) (s.trackReason c w)).setTrack c
      (if s.trackReason c w % 2 = 0 then (s.estimates c w w.from_ s.winLen).map (trackChange false) else []) false :=
  (if_neg (by simp [h])).trans (if_neg hr)

theorem State.trackReason_lt (s : State) (c : Nat) (w : TrackWin) : s.trackReason c w < 16 := by
  unfold State.trackReason
  split <;> split <;> split <;> split <;> decide

/-- What a window judged leaves. -/
theorem State.judgeWin_leaves (s : State) (c : Nat) (w : TrackWin) {es : List (Int × Int × Int)} (hes : es = s.estimates c w w.from_ s.winLen) :
    let t := s.judgeWin c w
    (s.trackDisturbed c w = true → counted CAL.COUNTS.DISCARDS s t ∧ Tbl.get [] t.cal.track c = [] ∧
      onlyRegs [CAL.COUNTS.DISCARDS.addr] s { t with cal := s.cal }) ∧
    (s.trackDisturbed c w = false → s.trackReason c w = 0 → Tbl.get [] t.cal.track c = es.map (trackChange true) ∧
      Tbl.get false t.cal.trackFull c = true ∧ onlyRegs [] s { t with cal := s.cal }) ∧
    (s.trackDisturbed c w = false → s.trackReason c w ≠ 0 → counted (CAL.TRACK_STATUS.INSUFF c) s t ∧
      t.fld (CAL.TRACK_STATUS.REASON c) = s.trackReason c w ∧
      Tbl.get [] t.cal.track c = (if s.trackReason c w % 2 = 0 then es.map (trackChange false) else []) ∧
      onlyRegs [(CAL.TRACK_STATUS.INSUFF c).addr, (CAL.TRACK_STATUS.REASON c).addr] s { t with cal := s.cal }) := by
  subst hes
  refine ⟨fun hd => ?_, fun hd hr => ?_, fun hd hr => ?_⟩
  · rw [State.judgeWin_disturbed hd]
    exact ⟨State.bumpF_counted _ _, s.setTrack_track c [] false, (onlyRegs_refl _ s).bumpF (List.mem_singleton_self _)⟩
  · rw [State.judgeWin_sufficient hd hr]
    exact ⟨State.setTrack_track _ _ _ _, State.setTrack_full _ _ _ _, onlyRegs_refl _ s⟩
  · rw [State.judgeWin_insufficient hd hr]
    have hne : (CAL.TRACK_STATUS.INSUFF c).addr ≠ (CAL.TRACK_STATUS.REASON c).addr := by
      simp only [CAL.TRACK_STATUS.INSUFF, CAL.TRACK_STATUS.REASON]
      omega
    have hcount := (s.bumpF_counted (CAL.TRACK_STATUS.INSUFF c)).congr (State.fld_setF_ne _ (CAL.TRACK_STATUS.REASON c) _ (s.trackReason c w) hne)
    have hreason := (State.fld_setF_same (s.bumpF (CAL.TRACK_STATUS.INSUFF c) 1) (CAL.TRACK_STATUS.REASON c) (s.trackReason c w)).trans
      (Nat.mod_eq_of_lt (s.trackReason_lt c w))
    exact ⟨hcount, hreason, State.setTrack_track _ _ _ _, (((onlyRegs_refl _ s).bumpF (by simp)).setF (by simp)).setTrack⟩

/-! ### What the changes of a channel leave (R103) -/

/-- What the changes of a channel leave: the registers of the blocks below the management block, and which counters are cleared. -/
def trackKeeps (s t : State) : Prop :=
  (∀ f : Fld, f.addr < 14 * 524288 → t.fld f = s.fld f) ∧ ∀ f : Fld, t.justCleared f = s.justCleared f

theorem trackKeeps_refl (s : State) : trackKeeps s s := ⟨fun _ _ => rfl, fun _ => rfl⟩

theorem trackKeeps.trans (h : trackKeeps s t) (k : trackKeeps t u) : trackKeeps s u :=
  ⟨fun f hf => (k.1 f hf).trans (h.1 f hf), fun f => (k.2 f).trans (h.2 f)⟩

theorem trackKeeps.layout (h : trackKeeps s t) : sameLayout s t := ⟨h.1 _ (by decide), h.1 _ (by decide)⟩

/-- The offset, the gain and the skew of a lane's slot. -/
def State.slotValues (s : State) (l : Nat) : Int × Int × Int :=
  (Tbl.get 0 s.cal.slotOffset l, Tbl.get 1073741824 s.cal.slotGain l, Tbl.get 0 s.cal.slotSkew l)

/-- A change added to a slot's values, within their limits (R103). -/
def addWithin (v e : Int × Int × Int) : Int × Int × Int :=
  (satI (v.1 + e.1) (-33554432) 33553408, satI (v.2.1 + e.2.1) 0 2147450880, satI (v.2.2 + e.2.2) (-512000) 512000)

/-- Holding a quantity at its limit leaves the values. -/
theorem State.holdLimit_keeps (s : State) (c j l q : Nat) (stopped : Bool) :
    trackKeeps s (s.holdLimit c j l q stopped) ∧ (s.holdLimit c j l q stopped).slotValues = s.slotValues := by
  unfold State.holdLimit
  dsimp only
  split
  · refine ⟨⟨fun f hf => State.raise_below _ _ _ _ _ (by decide) hf,
      fun f => (State.raise_only [] _ 62 0 c j 0 (by decide)).justCleared_eq f⟩, funext fun m => ?_⟩
    rw [State.slotValues, State.raise_cal _ _ _ _ _ (by decide)]
    rfl
  · exact ⟨⟨fun _ _ => rfl, fun _ => rfl⟩, rfl⟩

theorem State.applySlot_values (s : State) (l m : Nat) (e : Int × Int × Int) :
    (s.applySlot l e).2.slotValues m = if m = l then addWithin (s.slotValues l) e else s.slotValues m := by
  unfold State.slotValues State.applySlot
  dsimp only
  split
  · next h =>
    subst h
    rw [Tbl.get_set_same, Tbl.get_set_same, Tbl.get_set_same]
    rfl
  · next h => rw [Tbl.get_set_ne _ _ _ _ _ _ h, Tbl.get_set_ne _ _ _ _ _ _ h, Tbl.get_set_ne _ _ _ _ _ _ h]

theorem State.trackSlot_keeps (s : State) (c j : Nat) (e : Int × Int × Int) : trackKeeps s (s.trackSlot c j e) := by
  have happly : trackKeeps s (s.applySlot (s.slotLane c j) e).2 := ⟨fun _ _ => rfl, fun _ => rfl⟩
  exact (happly.trans (State.holdLimit_keeps _ _ _ _ _ _).1).trans (State.holdLimit_keeps _ _ _ _ _ _).1

theorem State.trackSlot_values (s : State) (c j m : Nat) (e : Int × Int × Int) : (s.trackSlot c j e).slotValues m =
    if m = s.slotLane c j then addWithin (s.slotValues m) e else s.slotValues m := by
  unfold State.trackSlot
  dsimp only
  rw [(State.holdLimit_keeps _ _ _ _ _ _).2, (State.holdLimit_keeps _ _ _ _ _ _).2, State.applySlot_values]
  split
  · next h => rw [h]
  · rfl

/-- The slots of a channel apply their changes one after another. -/
def State.trackSlots (s : State) (c : Nat) (xs : List ((Int × Int × Int) × Nat)) : State :=
  xs.foldl (fun (s : State) x => s.trackSlot c x.2 x.1) s

theorem State.trackSlots_keeps (c : Nat) (xs : List ((Int × Int × Int) × Nat)) : ∀ s : State, trackKeeps s (s.trackSlots c xs) := by
  induction xs with
  | nil => exact trackKeeps_refl
  | cons x xs ih => exact fun s => (s.trackSlot_keeps c x.2 x.1).trans (ih _)

/-- A lane that no slot of the list serves keeps its values. -/
theorem State.trackSlots_other {c l : Nat} (xs : List ((Int × Int × Int) × Nat)) : ∀ s : State, (∀ x ∈ xs, s.slotLane c x.2 ≠ l) →
    (s.trackSlots c xs).slotValues l = s.slotValues l := by
  induction xs with
  | nil => exact fun _ _ => rfl
  | cons x xs ih =>
    intro s h
    obtain ⟨hx, hxs⟩ := List.forall_mem_cons.mp h
    refine (ih (s.trackSlot c x.2 x.1) fun y hy => ?_).trans ?_
    · rw [(s.trackSlot_keeps c x.2 x.1).layout.slotLane]
      exact hxs y hy
    · rw [State.trackSlot_values, if_neg fun e => hx e.symm]

/-- A slot of the list that alone serves its lane adds its change to the lane's values. -/
theorem State.trackSlots_one {c j l : Nat} {e : Int × Int × Int} (xs : List ((Int × Int × Int) × Nat)) : ∀ s : State,
    (xs.map Prod.snd).Nodup → (e, j) ∈ xs → s.slotLane c j = l → (∀ x ∈ xs, x.2 ≠ j → s.slotLane c x.2 ≠ l) →
    (s.trackSlots c xs).slotValues l = addWithin (s.slotValues l) e := by
  induction xs with
  | nil => exact fun _ _ h => absurd h List.not_mem_nil
  | cons x xs ih =>
    intro s hnd hmem hl hother
    rw [List.map_cons, List.nodup_cons] at hnd
    obtain ⟨hx, hxs⟩ := List.forall_mem_cons.mp hother
    have hlay := (s.trackSlot_keeps c x.2 x.1).layout
    rcases List.mem_cons.mp hmem with rfl | hmem
    · refine (State.trackSlots_other xs (s.trackSlot c j e) fun y hy => ?_).trans ?_
      · rw [hlay.slotLane]
        exact hxs y hy fun hj => hnd.1 (List.mem_map.mpr ⟨y, hy, hj⟩)
      · rw [State.trackSlot_values, if_pos hl.symm]
    · have hne : x.2 ≠ j := fun hj => hnd.1 (List.mem_map.mpr ⟨(e, j), hmem, hj.symm⟩)
      refine (ih (s.trackSlot c x.2 x.1) hnd.2 hmem ((hlay.slotLane c j).trans hl) fun y hy hj => ?_).trans ?_
      · rw [hlay.slotLane]
        exact hxs y hy hj
      · rw [State.trackSlot_values, if_neg fun e => hx hne e.symm]

/-- Each change of a channel reaches its own lane. -/
theorem State.trackSlots_zipIdx (s : State) {c j l : Nat} {ch : List (Int × Int × Int)} {e : Int × Int × Int} (he : ch[j]? = some e)
    (hl : l = s.slotLane c j) (hother : ∀ i < ch.length, i ≠ j → s.slotLane c i ≠ l) :
    (s.trackSlots c ch.zipIdx).slotValues l = addWithin (s.slotValues l) e := by
  refine State.trackSlots_one _ s ?_ (List.mk_mem_zipIdx_iff_getElem?.mpr he) hl.symm fun x hx hj => ?_
  · rw [List.zipIdx_map_snd]
    exact List.nodup_range'
  · have hlt := List.snd_lt_of_mem_zipIdx hx
    exact hother x.2 (by omega) hj

/-! ### The boundary -/

/-- The changes of a channel have been applied: its state of the limits is shown, and a full set of changes counts. -/
def State.showTracked (s : State) (c : Nat) (full : Bool) : State :=
  let s := s.setB (CAL.TRACK_STATUS.LIMIT c) ((s.lanesOf c).any fun l => Tbl.get false s.cal.limits (2 * l) || Tbl.get false s.cal.limits (2 * l + 1))
  let s := if full then s.bumpF (CAL.TRACK_STATUS.UPDATES c) 1 else s
  s.setTrack c [] false

theorem trackUpdateApply_applies {ch : List (Int × Int × Int)} (hc : c < 64) (hch : Tbl.get [] s.cal.track c = ch) (hne : ch ≠ [])
    (h64 : s.at64 = true) : exec (.trackUpdateApply c) s =
      .next ((s.trackSlots c ch.zipIdx).showTracked c (Tbl.get false s.cal.trackFull c)) := by
  subst hch
  exact congrArg Host.Outcome.next (if_pos (by simp [hne, h64, hc]))

theorem State.showTracked_track (s : State) (c : Nat) (full : Bool) : Tbl.get [] (s.showTracked c full).cal.track c = [] :=
  State.setTrack_track _ c [] false

theorem State.showTracked_cal (s : State) (c : Nat) (full : Bool) : (s.showTracked c full).cal.limits = s.cal.limits ∧
    (s.showTracked c full).slotValues = s.slotValues := by
  cases full <;> exact ⟨rfl, rfl⟩

theorem State.showTracked_limit (s : State) (c : Nat) (full : Bool) : (s.showTracked c full).bit (CAL.TRACK_STATUS.LIMIT c) =
    (s.lanesOf c).any fun l => Tbl.get false s.cal.limits (2 * l) || Tbl.get false s.cal.limits (2 * l + 1) := by
  have hset : ∀ b : Bool, (s.setB (CAL.TRACK_STATUS.LIMIT c) b).bit (CAL.TRACK_STATUS.LIMIT c) = b := fun b =>
    (congrArg (· == 1) (State.fld_setF_same _ _ _)).trans (by cases b <;> rfl)
  cases full with
  | false => exact hset _
  | true => exact (congrArg (· == 1) (State.fld_bumpF_ne _ _ _ _
      (by simp only [CAL.TRACK_STATUS.LIMIT, CAL.TRACK_STATUS.UPDATES]; omega))).trans (hset _)

theorem State.showTracked_counted (s : State) (c : Nat) : counted (CAL.TRACK_STATUS.UPDATES c) s (s.showTracked c true) := by
  refine counted.of_same (State.bumpF_counted _ _) ?_ rfl
  exact State.fld_setB_ne _ _ _ _ (by simp only [CAL.TRACK_STATUS.LIMIT, CAL.TRACK_STATUS.UPDATES]; omega)

end

end Sys2Proof.Machine
end

section
/-!
The obligation about shuffle steps, background runs and tracking (R77 to R104), assembled from what each command leaves.
-/

namespace Sys2Proof.Machine

section
variable {s : State} {g c : Nat} {st : Step} {as bs : List Nat} {ds : List Int}

/-! ### The shadow frame -/

section
variable (hst : s.stepOf g = some st) (hsh : st.shadowAt = some c) (hsw : st.switchAt = none) (hc : c + 1088 ≤ s.now)
  (hds : s.frameDiffs st as bs = ds)
include hst hsh hsw hc hds

theorem shadowFrameEnd_few (hg : g < 4) (hlen : ds.length < 3072) (hin : st.incoming < 68) :
    ∃ t, exec (.shadowFrameEnd g (4 * c) as bs) s = .next t ∧ t.stepOf g = none ∧ t.fld (CNV.GROUP_STATUS.STEP g) = 0 ∧
      counted (CNV.SHUFFLE_COUNT.ABORTS g) s t ∧ reported (44 + g) 0 st.incoming 0 t ∧ t.cal = s.cal := by
  obtain ⟨hstep, hshow, hcount, hrep, -, -⟩ : shadowAborted g st.incoming 0 (s.noteShadow g ds) _ :=
    State.abortShadow_aborts hg hin (by decide)
  refine ⟨_, (shadowFrameEnd_judges hst hsh hsw hc hds).trans (congrArg _ (if_pos hlen)), hstep, hshow, hcount.of_same ?_ rfl, hrep,
    State.abortShadow_cal _ hg⟩
  exact s.noteShadow_fld ds (by simp only [CNV.SHUFFLE_COUNT.ABORTS, CNV.SHADOW_LAST.MEAN]; omega)
    (by simp only [CNV.SHUFFLE_COUNT.ABORTS, CNV.SHADOW_LAST.RMS]; omega)

theorem shadowFrameEnd_accepts (hlen : 3072 ≤ ds.length) (hok : frameAgrees ds = true) :
    exec (.shadowFrameEnd g (4 * c) as bs) s = .next ((s.noteShadow g ds).acceptShadow g st ds) :=
  (shadowFrameEnd_judges hst hsh hsw hc hds).trans (congrArg _ ((if_neg (by omega)).trans (if_pos hok)))

theorem shadowFrameEnd_rejects (hg : g < 4) (hlen : 3072 ≤ ds.length) (hbad : ¬ frameAgrees ds = true) (hin : st.incoming < 68) :
    ∃ t, exec (.shadowFrameEnd g (4 * c) as bs) s = .next t ∧ t.stepOf g = none ∧ t.fld (CNV.GROUP_STATUS.STEP g) = 0 ∧
      counted (CNV.SHUFFLE_COUNT.ABORTS g) s t ∧ reported (44 + g) 1 st.incoming 0 t ∧ t.cal.offset = s.cal.offset ∧
      Tbl.get 0 t.cnv.shadowFail st.incoming = min 3 (Tbl.get 0 s.cnv.shadowFail st.incoming + 1) ∧
      (2 ≤ Tbl.get 0 s.cnv.shadowFail st.incoming → t.isRetired st.incoming = true) := by
  obtain ⟨⟨hstep, hshow, hcount, hrep, hoff, hfail⟩, hretire⟩ := (s.noteShadow g ds).rejectShadow_aborts hg hin
  refine ⟨_, (shadowFrameEnd_judges hst hsh hsw hc hds).trans (congrArg _ ((if_neg (by omega)).trans (if_neg hbad))), hstep, hshow,
    hcount.of_same ?_ rfl, hrep, hoff, ?_, hretire⟩
  · exact s.noteShadow_fld ds (by simp only [CNV.SHUFFLE_COUNT.ABORTS, CNV.SHADOW_LAST.MEAN]; omega)
      (by simp only [CNV.SHUFFLE_COUNT.ABORTS, CNV.SHADOW_LAST.RMS]; omega)
  · rw [hfail]
    exact Tbl.get_set_same (0 : Nat) s.cnv.shadowFail st.incoming _

end

/-! ### The switch and the release -/

theorem shuffleSwitch_serves (hst : s.stepOf g = some st) (hsw : st.switchAt = some c) (hc : c / finePerNs = s.now)
    (hnot : st.switched = false) : ∃ t, exec (.shuffleSwitch g) s = .next t ∧
      t.stepOf g = some { st with switched := true } ∧ t.fld (CNV.GROUP_STATUS.STEP g) = 5 ∧
      t.cnv.switches = (st.lane, c) :: s.cnv.switches ∧ (∀ x, c ≤ x → t.sliceWhen st.lane x = t.sliceOf st.lane) ∧
      onlyRegs [(CNV.GROUP_STATUS.STEP g).addr, (CAL.SLICE_STATE.BG_STATE st.incoming).addr] s { t with cnv := s.cnv, seq := s.seq } := by
  obtain ⟨q, hq⟩ := shuffleSwitch_switches hst hsw hc hnot
  have hne : (CNV.GROUP_STATUS.STEP g).addr ≠ (CAL.SLICE_STATE.BG_STATE st.incoming).addr := by
    simp only [CNV.GROUP_STATUS.STEP, CAL.SLICE_STATE.BG_STATE]
    omega
  refine ⟨_, hq, s.stepOf_setStep g (some { st with switched := true }), ?_, rfl, fun x hx => State.sliceWhen_of_lastServed rfl hx, ?_⟩
  · exact (State.fld_setF_ne ((s.switchLane g st c).setF (CNV.GROUP_STATUS.STEP g) 5) _ _ 0 hne).trans (State.fld_setF_same _ _ _)
  · exact ((onlyRegs_refl _ s).setF (f := CNV.GROUP_STATUS.STEP g) (v := 5) (by simp)).setF (f := CAL.SLICE_STATE.BG_STATE st.incoming)
      (v := 0) (by simp)

theorem shuffleRelease_releases (hst : s.stepOf g = some st) (hsw : st.switchAt = some c) (hdone : st.switched = true)
    (hc : c / finePerNs + 16 ≤ s.now) (hg : g < 4) (hout : st.outgoing / 17 = g) :
    ∃ t, exec (.shuffleRelease g) s = .next t ∧ t.stepOf g = none ∧ t.restSlice g = st.outgoing ∧
      t.bit (CNV.GROUP_STATUS.DIR g) = !st.down ∧ counted (CNV.SHUFFLE_COUNT.STEPS g) s t ∧
      (s.fixed g = false → Tbl.get none t.cal.bgRun st.outgoing = some s.now ∧ t.fld (CAL.SLICE_STATE.BG_STATE st.outgoing) = 1) ∧
      (s.fixed g = true → t.cal = s.cal) := by
  have hkeep : ∀ f : Fld, f.addr < 3 * 524288 → ((s.restOutgoing g st).startBg st.outgoing).fld f = (s.restOutgoing g st).fld f :=
    fun f hf => State.startBg_fld _ _ hf
  have hfix : (s.restOutgoing g st).fixed (st.outgoing / 17) = s.fixed g := by rw [hout, State.restOutgoing_fixed]
  refine ⟨_, shuffleRelease_rests hst hsw hdone hc, ?_, ?_, ?_, ?_, fun hfree => ?_, fun hfixed => ?_⟩
  · rw [State.stepOf, State.startBg_cnv]
    exact s.restOutgoing_stepOf g st
  · have hrest := s.restOutgoing_restPos g st
    rw [State.restPos] at hrest
    rw [State.restSlice, State.restPos, hkeep _ (by simp only [CNV.GROUP_STATUS.REST]; omega), hrest]
    omega
  · have hdir := s.restOutgoing_dir g st
    rwa [State.bit, hkeep _ (by simp only [CNV.GROUP_STATUS.DIR]; omega)]
  · exact (s.restOutgoing_counted g st).congr (hkeep _ (by simp only [CNV.SHUFFLE_COUNT.STEPS]; omega))
  · rw [State.startBg_free (hfix.trans hfree)]
    exact ⟨Tbl.get_set_same (none : Option Nat) s.cal.bgRun st.outgoing (some s.now), State.fld_setF_same _ _ _⟩
  · rw [State.startBg_fixed (hfix.trans hfixed)]
    rfl

end

/-! ### Background runs that fail -/

section
variable {s : State} {sl : Nat} {u : State}

theorem State.failRun_again (s : State) (hsl : sl < 68) (hn : s.fld (CAL.SLICE_STATE.BG_FAILS sl) < 2) :
    (s.endRun sl).failRun sl = (s.endRun sl).noteFailedRun sl := by
  refine if_neg ?_
  rw [State.endRun_fld _ _ (by simp only [CAL.SLICE_STATE.BG_FAILS, CAL.COUNTS.BG_RUNS]; omega)]
  omega

theorem State.failRun_last (s : State) (hsl : sl < 68) (hn : 2 ≤ s.fld (CAL.SLICE_STATE.BG_FAILS sl)) :
    (s.endRun sl).failRun sl = ((s.endRun sl).noteFailedRun sl).retire sl 1 := by
  refine if_pos ?_
  rw [State.endRun_fld _ _ (by simp only [CAL.SLICE_STATE.BG_FAILS, CAL.COUNTS.BG_RUNS]; omega)]
  omega

/-- A failed run leaves its slice's values. -/
theorem State.noteFailedRun_values (s : State) (hsl : sl < 68) : ((s.endRun sl).noteFailedRun sl).cal.offset = s.cal.offset ∧
    ((s.endRun sl).noteFailedRun sl).cal.gain = s.cal.gain ∧ ((s.endRun sl).noteFailedRun sl).cal.weight = s.cal.weight := by
  rw [State.noteFailedRun_cal _ hsl]
  exact ⟨rfl, rfl, rfl⟩

theorem State.noteFailedRun_shows (s : State) (hsl : sl < 68) (hn : s.fld (CAL.SLICE_STATE.BG_FAILS sl) < 2) :
    let t := (s.endRun sl).noteFailedRun sl
    t.fld (CAL.SLICE_STATE.BG_STATE sl) = 5 ∧ t.fld (CAL.SLICE_STATE.BG_FAILS sl) = s.fld (CAL.SLICE_STATE.BG_FAILS sl) + 1 ∧
      counted CAL.COUNTS.BG_FAILED s t ∧ counted CAL.COUNTS.BG_RUNS s t := by
  have hfails : (s.endRun sl).fld (CAL.SLICE_STATE.BG_FAILS sl) = s.fld (CAL.SLICE_STATE.BG_FAILS sl) :=
    s.endRun_fld sl (by simp only [CAL.SLICE_STATE.BG_FAILS, CAL.COUNTS.BG_RUNS]; omega)
  refine ⟨State.noteFailedRun_state _ hsl, ?_, (State.noteFailedRun_counted _ hsl).of_same (s.endRun_fld sl (by decide)) rfl,
    (s.endRun_counted sl).congr (State.noteFailedRun_runs _ hsl)⟩
  rw [State.noteFailedRun_fails _ hsl (hfails.symm ▸ hn), hfails]

end

/-- Settles O21: each command by the state it answers, read field by field. -/
theorem stepsBackgroundRunsAndTrackingFollowTheirTables : Obligations.StepsBackgroundRunsAndTrackingFollowTheirTables := by
  refine ⟨fun s g st hg hst => ⟨fun hsh hsw hat h64 => ?_, fun c as bs ds hsh hsw hc hds => ⟨?_, fun hlen hmean hrms => ?_, ?_⟩, ?_, ?_⟩,
    fun s sl att lb hsl hbg hrun hbist => ⟨?_, fun v0 v1 v2 hdec hlb => ?_, fun js hdec hfail => ⟨fun hn => ?_, fun hn => ?_⟩⟩,
    fun s c hc => ⟨fun w es hw ht hn hes => ?_, fun ch hch hne h64 => ?_⟩⟩
  · exact ⟨_, shadowFrameStart_starts s hst hsh hsw hat h64, s.stepOf_setStep g _, State.fld_setF_same _ _ _,
      (onlyRegs_refl _ s).setF (f := CNV.GROUP_STATUS.STEP g) (v := 2) (List.mem_singleton_self _)⟩
  · exact shadowFrameEnd_few hst hsh hsw hc hds hg
  · exact ⟨_, shadowFrameEnd_accepts hst hsh hsw hc hds hlen ((frameAgrees_iff ds).mpr ⟨hmean, hrms⟩), shadowFrame_accepted s g st ds⟩
  · refine fun hlen hbad => shadowFrameEnd_rejects hst hsh hsw hc hds hg hlen fun hok => ?_
    obtain ⟨hmean, hrms⟩ := (frameAgrees_iff ds).mp hok
    exact hbad.elim (not_lt.mpr hmean) (not_lt.mpr hrms)
  · exact fun c => shuffleSwitch_serves hst
  · exact fun c hsw hdone hc hout => shuffleRelease_releases hst hsw hdone hc hg hout
  · exact bgRunComplete_goesOn hsl hbg hrun hbist
  · obtain ⟨⟨hstate, hfails, hsusp⟩, hruns, hover, hoff, hgain, hwt⟩ := (s.endRun sl).passRun_readies hsl v0 v1 v2
    exact ⟨_, bgRunComplete_passes hsl hbg hrun hbist hdec (by simpa using hlb), hstate, hfails, hsusp,
      (s.endRun_counted sl).congr hruns, (congrArg (Tbl.get none · sl) hover).trans (s.endRun_bgRun sl), hoff, hgain, hwt⟩
  · obtain ⟨hstate, hfails, hfailed, hruns⟩ := s.noteFailedRun_shows hsl hn
    exact ⟨_, (bgRunComplete_fails hsl hbg hrun hbist hdec hfail).trans (congrArg _ (s.failRun_again hsl hn)), hstate, hfails, hfailed,
      hruns, State.noteFailedRun_reported _ hsl, s.noteFailedRun_values hsl⟩
  · refine ⟨_, (bgRunComplete_fails hsl hbg hrun hbist hdec hfail).trans (congrArg _ (s.failRun_last hsl hn)),
      State.retire_isRetired _ 1 hsl, State.retire_fixed _ 1 hsl, State.retire_restPos _ 1 hsl, State.retire_reported _ hsl (by decide), ?_⟩
    rw [State.retire_cal _ 1 hsl]
    exact s.noteFailedRun_values hsl
  · exact ⟨_, trackWindowEnd_judges hw ht hn, State.setWin_win _ c _, s.judgeWin_leaves c w hes⟩
  · obtain ⟨hlim, hval⟩ := (s.trackSlots c ch.zipIdx).showTracked_cal c (Tbl.get false s.cal.trackFull c)
    have hkeeps := State.trackSlots_keeps c ch.zipIdx s
    refine ⟨_, trackUpdateApply_applies hc hch hne h64, State.showTracked_track _ _ _, fun hfull => ?_, ?_, fun j e l he hl hother => ?_⟩
    · rw [hfull]
      exact (State.showTracked_counted _ c).of_same (hkeeps.1 _ (by simp only [CAL.TRACK_STATUS.UPDATES]; omega)) (hkeeps.2 _)
    · rw [State.showTracked_limit, hlim, hkeeps.layout.lanesOf]
    · have hone := (congrFun hval l).trans (s.trackSlots_zipIdx he hl hother)
      obtain ⟨hoff, hrest⟩ := Prod.mk.injEq .. ▸ hone
      obtain ⟨hgain, hskew⟩ := Prod.mk.injEq .. ▸ hrest
      exact ⟨hoff, hgain, hskew⟩

end Sys2Proof.Machine
end

section
/-!
SUPPORT. Live writes of the trigger fabric (R110, R136): values that are pending, values refused, and how pending values take effect.
-/

namespace Sys2Proof.Machine

section
variable {s t u : State} {i k : Nat}

/-! ### Detectors: pending and refused values -/

theorem State.det_setDet (s : State) (i : Nat) (d : Det) : (s.setDet i d).det i = d := by
  unfold State.setDet State.det
  dsimp only
  rw [Tbl.get_set_same]

theorem State.pendDet_pend (s : State) (i : Nat) (lh ll h : Int) : ((s.pendDet i lh ll h).det i).pend = some (lh, ll, h) :=
  congrArg Det.pend (s.det_setDet i _)

/-- A pending change is shown, and nothing else changes. -/
theorem State.pendDet_shows (s : State) (i : Nat) (lh ll h : Int) : (s.pendDet i lh ll h).fld (TRG.DET_STATUS.PEND i) = 1 ∧
    onlyRegs [(TRG.DET_STATUS.PEND i).addr] s { s.pendDet i lh ll h with trg := s.trg } :=
  ⟨State.fld_setF_same _ _ _, (onlyRegs_refl _ s).setF (f := TRG.DET_STATUS.PEND i) (v := 1) (List.mem_singleton_self _)⟩

theorem State.slotHolding_lt {c : Nat} (h : s.slotHolding c = some k) : k < 8 := List.mem_range.mp (List.mem_of_find?_eq_some h)

/-- A notice about a detector goes to the slot that holds its channel, else to the device. -/
theorem State.detNotice_told (s : State) {kind : Nat} (hi : i < 128) (hk : kind < 255) :
    detTold s i kind (s.detNotice i kind) ∧ onlyReports [] s (s.detNotice i kind) := by
  unfold detTold State.detNotice
  cases hs : s.slotHolding (i / 2) with
  | some k =>
    have hk8 := State.slotHolding_lt hs
    exact ⟨State.raise_reported _ _ _ _ _ _ (by omega) (by omega) (by omega) (by omega) (by decide), State.raise_only _ _ _ _ _ _ _ (by omega)⟩
  | none => exact ⟨State.raise_reported _ _ _ _ _ _ (by decide) (by decide) (by omega) (by omega) (by decide), State.raise_only _ _ _ _ _ _ _ (by decide)⟩

section
variable {lh ll h : Nat}

theorem detLevelWrite_pends (hs : s.served (0x42004 + 32 * i) = true) (hi : i < 128) (hlh : s.inBound i (ofTwos 12 lh) = true)
    (hll : usesLL (s.fld (TRG.DET_MODE.TYPE i)) = true → s.inBound i (ofTwos 12 ll) = true ∧ ofTwos 12 ll ≤ ofTwos 12 lh) :
    exec (.detLevelWrite i lh ll) s = .next (s.pendDet i (ofTwos 12 lh) (ofTwos 12 ll) (s.detNext i).2.2) := by
  refine congrArg Host.Outcome.next ((if_pos (by simp [hs, hi])).trans (if_neg ?_))
  simpa [hlh] using hll

theorem detLevelWrite_refuses (hs : s.served (0x42004 + 32 * i) = true) (hi : i < 128)
    (hbad : s.inBound i (ofTwos 12 lh) = false ∨ (usesLL (s.fld (TRG.DET_MODE.TYPE i)) = true ∧
      (s.inBound i (ofTwos 12 ll) = false ∨ ofTwos 12 lh < ofTwos 12 ll))) :
    exec (.detLevelWrite i lh ll) s = .next (s.detNotice i 1) := by
  refine congrArg Host.Outcome.next ((if_pos (by simp [hs, hi])).trans (if_pos ?_))
  simpa using hbad

theorem detHystWrite_pends (hs : s.served (0x42008 + 32 * i) = true) (hi : i < 128) (hh : h < 256)
    (hmax : h ≤ s.fld (TRG.DET_STATUS.HYST_MAX i)) :
    exec (.detHystWrite i h) s = .next (s.pendDet i (s.detNext i).1 (s.detNext i).2.1 (h : Int)) := by
  refine congrArg Host.Outcome.next ((if_pos (by simp [hs, hi])).trans ?_)
  rw [Nat.mod_eq_of_lt hh]
  exact if_neg (not_lt.mpr hmax)

theorem detHystWrite_refuses (hs : s.served (0x42008 + 32 * i) = true) (hi : i < 128) (hh : h < 256)
    (hmax : s.fld (TRG.DET_STATUS.HYST_MAX i) < h) : exec (.detHystWrite i h) s = .next (s.detNotice i 1) := by
  refine congrArg Host.Outcome.next ((if_pos (by simp [hs, hi])).trans (if_pos ?_))
  rwa [Nat.mod_eq_of_lt hh]

end

/-! ### Detectors: pending values taken -/

theorem toTwos_lt (w : Nat) (i : Int) : toTwos w i < 2 ^ w := by
  have hpos : (0 : Int) < 2 ^ w := by positivity
  have hlt := Int.emod_lt_of_pos i hpos
  have hge := Int.emod_nonneg i hpos.ne'
  unfold toTwos
  zify
  omega

/-- A signed field of 12 bits written holds the value, saturated. -/
theorem State.fld_setS_level (s : State) {f : Fld} (hw : f.width = 12) (v : Int) :
    (s.setS f v).fld f = toTwos 12 (satI v (-2048) 2047) := by
  rw [State.setS, State.fld_setF_same, hw]
  exact Nat.mod_eq_of_lt (toTwos_lt 12 _)

/-- The pending levels and hysteresis of a detector in its registers. -/
def State.setLevels (s : State) (i : Nat) (lh ll h : Int) : State :=
  ((s.setS (TRG.DET_LEVEL.LH i) lh).setS (TRG.DET_LEVEL.LL i) ll).setF (TRG.DET_HYST.H i) h.toNat

/-- A detector restarted. -/
def Det.restarted (d : Det) : Det := { fresh := true, changeAt := d.changeAt, before := some d.key }

/-- A detector restarts and shows no pending change. -/
def State.restartDet (s : State) (i : Nat) : State := (s.setDet i (s.det i).restarted).setF (TRG.DET_STATUS.PEND i) 0

theorem State.applyDet_idle (h : (s.det i).pend = none) : s.applyDet i = s := by
  rw [State.applyDet, h]

theorem State.applyDet_takes {lh ll h : Int} (hp : (s.det i).pend = some (lh, ll, h)) :
    s.applyDet i = (s.setLevels i lh ll h).restartDet i := by
  rw [State.applyDet, hp]
  rfl

theorem State.restartDet_det (s : State) (i : Nat) : ((s.restartDet i).det i).pend = none ∧ ((s.restartDet i).det i).fresh = true := by
  have hdet : (s.restartDet i).det i = (s.det i).restarted := s.det_setDet i _
  rw [hdet]
  exact ⟨rfl, rfl⟩

theorem State.restartDet_pend (s : State) (i : Nat) : (s.restartDet i).fld (TRG.DET_STATUS.PEND i) = 0 := State.fld_setF_same _ _ _

theorem State.restartDet_fld (s : State) {f : Fld} (hf : f.addr ≠ (TRG.DET_STATUS.PEND i).addr) : (s.restartDet i).fld f = s.fld f :=
  State.fld_setF_ne _ _ _ _ hf

theorem State.setLevels_levels (s : State) (i : Nat) (lh ll h : Int) :
    (s.setLevels i lh ll h).fld (TRG.DET_LEVEL.LH i) = toTwos 12 (satI lh (-2048) 2047) ∧
    (s.setLevels i lh ll h).fld (TRG.DET_LEVEL.LL i) = toTwos 12 (satI ll (-2048) 2047) ∧
    (s.setLevels i lh ll h).fld (TRG.DET_HYST.H i) = h.toNat % 256 := by
  refine ⟨?_, ?_, State.fld_setF_same _ _ _⟩
  · refine (State.fld_setF_ne _ _ _ _ (by simp only [TRG.DET_LEVEL.LH, TRG.DET_HYST.H]; omega)).trans ?_
    refine (State.fld_setF_ne _ _ _ _ (by simp only [TRG.DET_LEVEL.LH, TRG.DET_LEVEL.LL]; omega)).trans ?_
    exact State.fld_setS_level s rfl lh
  · refine (State.fld_setF_ne _ _ _ _ (by simp only [TRG.DET_LEVEL.LL, TRG.DET_HYST.H]; omega)).trans ?_
    exact State.fld_setS_level _ rfl ll

/-- A pending change taken: the registers hold it, and the detector restarts. -/
theorem State.applyDet_shows {lh ll h : Int} (hp : (s.det i).pend = some (lh, ll, h)) : ∃ t, s.applyDet i = t ∧ (t.det i).pend = none ∧
    (t.det i).fresh = true ∧ t.fld (TRG.DET_LEVEL.LH i) = toTwos 12 (satI lh (-2048) 2047) ∧
    t.fld (TRG.DET_LEVEL.LL i) = toTwos 12 (satI ll (-2048) 2047) ∧ t.fld (TRG.DET_HYST.H i) = h.toNat % 256 ∧
    t.fld (TRG.DET_STATUS.PEND i) = 0 ∧ onlyRegs [(TRG.DET_LEVEL.LH i).addr, (TRG.DET_LEVEL.LL i).addr, (TRG.DET_HYST.H i).addr,
      (TRG.DET_STATUS.PEND i).addr] s { t with trg := s.trg } := by
  obtain ⟨hnone, hfresh⟩ := (s.setLevels i lh ll h).restartDet_det i
  obtain ⟨hlh, hll, hh⟩ := s.setLevels_levels i lh ll h
  have hkeep : ∀ f : Fld, f.addr ≠ (TRG.DET_STATUS.PEND i).addr →
      ((s.setLevels i lh ll h).restartDet i).fld f = (s.setLevels i lh ll h).fld f := fun f hf => State.restartDet_fld _ hf
  refine ⟨_, State.applyDet_takes hp, hnone, hfresh, (hkeep _ ?_).trans hlh, (hkeep _ ?_).trans hll, (hkeep _ ?_).trans hh,
    State.restartDet_pend _ i, ?_⟩
  · simp only [TRG.DET_LEVEL.LH, TRG.DET_STATUS.PEND]
    omega
  · simp only [TRG.DET_LEVEL.LL, TRG.DET_STATUS.PEND]
    omega
  · simp only [TRG.DET_HYST.H, TRG.DET_STATUS.PEND]
    omega
  · exact ((((onlyRegs_refl _ s).setF (f := TRG.DET_LEVEL.LH i) (by simp)).setF (f := TRG.DET_LEVEL.LL i) (by simp)).setF
      (f := TRG.DET_HYST.H i) (v := h.toNat) (by simp)).setF (f := TRG.DET_STATUS.PEND i) (v := 0) (by simp)

/-! ### Holdoff values: pending and refused -/

theorem State.pendHold_pends (s : State) (k j v : Nat) : (j, v) ∈ Tbl.get [] (s.pendHold k j v).trg.hold k ∧
    (s.pendHold k j v).fld (TRG.SLOT_STATUS.PEND k) = 1 ∧
    onlyRegs [(TRG.SLOT_STATUS.PEND k).addr] s { s.pendHold k j v with trg := s.trg } := by
  refine ⟨?_, State.fld_setF_same _ _ _, (onlyRegs_refl _ s).setF (f := TRG.SLOT_STATUS.PEND k) (v := 1) (List.mem_singleton_self _)⟩
  have hhold : Tbl.get [] (s.pendHold k j v).trg.hold k = ((Tbl.get [] s.trg.hold k).filter fun x => x.1 != j) ++ [(j, v)] :=
    Tbl.get_set_same ([] : List (Nat × Nat)) s.trg.hold k _
  rw [hhold]
  exact List.mem_append_right _ (List.mem_singleton_self _)

/-- The parameter notice of a slot. -/
theorem State.slotRefusal_told (s : State) (hk : k < 8) : reported (76 + 5 * k) 1 0 0 (s.raise (76 + 5 * k) 1 0 0 0) ∧
    onlyReports [] s (s.raise (76 + 5 * k) 1 0 0 0) :=
  ⟨State.raise_reported _ _ _ _ _ _ (by omega) (by omega) (by decide) (by decide) (by decide), State.raise_only _ _ _ _ _ _ _ (by omega)⟩

section
variable {v : Nat} (hk : k < 8)
include hk

theorem holdTicksWrite_refuses (hs : s.served (0x4300C + 64 * k) = true) (hv : v < 2 ^ 32) (hmax : s.fld (TRG.HOLD_MAX_TICKS.MAX k) < v) :
    exec (.holdTicksWrite k v) s = .next (s.raise (76 + 5 * k) 1 0 0 0) := by
  refine congrArg Host.Outcome.next ((if_pos (by simp [hs, hk])).trans (if_pos ?_))
  rwa [Nat.mod_eq_of_lt hv]

theorem holdTicksWrite_pends (hs : s.served (0x4300C + 64 * k) = true) (hv : v < 2 ^ 32) (hmax : v ≤ s.fld (TRG.HOLD_MAX_TICKS.MAX k)) :
    exec (.holdTicksWrite k v) s = .next (s.pendHold k 0 v) := by
  refine congrArg Host.Outcome.next ((if_pos (by simp [hs, hk])).trans ?_)
  rw [Nat.mod_eq_of_lt hv]
  exact if_neg (not_lt.mpr hmax)

theorem holdSamplesWrite_pends (hs : s.served (0x43010 + 64 * k) = true) (hv : v < 4096) :
    exec (.holdSamplesWrite k v) s = .next (s.pendHold k 1 v) := by
  refine congrArg Host.Outcome.next ((if_pos (by simp [hs, hk])).trans ?_)
  rw [Nat.mod_eq_of_lt hv]

theorem holdCountWrite_pends (hs : s.served (0x43014 + 64 * k) = true) (hpos : 0 < v) (hv : v < 2 ^ 24) :
    exec (.holdCountWrite k v) s = .next (s.pendHold k 2 v) := by
  refine congrArg Host.Outcome.next ((if_pos (by simp [hs, hk])).trans ?_)
  rw [Nat.mod_eq_of_lt hv]
  exact if_neg hpos.ne'

theorem holdCountWrite_refuses (hs : s.served (0x43014 + 64 * k) = true) :
    exec (.holdCountWrite k 0) s = .next (s.raise (76 + 5 * k) 1 0 0 0) :=
  congrArg Host.Outcome.next ((if_pos (by simp [hs, hk])).trans (if_pos (Nat.zero_mod _)))

end

/-! ### Holdoff values taken -/

/-- Values written one after another, each to the field of its key: a field keeps the last of its key's. -/
theorem lastFor_foldl {p : Nat → Bool} {f : Fld} {w : State → Nat × Nat → State}
    (hw : ∀ s x, p x.1 = true → (w s x).fld f = x.2 % 2 ^ f.width) (hn : ∀ s x, p x.1 = false → (w s x).fld f = s.fld f)
    (s : State) (l : List (Nat × Nat)) : lastFor p l f s (l.foldl w s) := by
  induction l using List.reverseRecOn with
  | nil => exact rfl
  | append_singleton l x ih =>
    unfold lastFor at ih ⊢
    rw [List.foldl_append, List.foldl_cons, List.foldl_nil, List.filter_append]
    cases hp : p x.1 with
    | true =>
      rw [List.filter_cons_of_pos (by simpa using hp), List.filter_nil, List.getLast?_append_of_ne_nil _ (List.cons_ne_nil _ _)]
      exact hw _ _ hp
    | false =>
      rw [List.filter_cons_of_neg (by simpa using hp), List.filter_nil, List.append_nil, hn _ _ hp]
      exact ih

theorem lastFor.congr {p : Nat → Bool} {l : List (Nat × Nat)} {f : Fld} (h : lastFor p l f s t) (hf : u.fld f = t.fld f) :
    lastFor p l f s u := by
  unfold lastFor at h ⊢
  rwa [hf]

/-- One pending holdoff value in its register. -/
def State.setHold (k : Nat) (s : State) (x : Nat × Nat) : State :=
  if x.1 = 0 then s.setF (TRG.HOLD_TICKS.TICKS k) x.2
  else if x.1 = 1 then s.setF (TRG.HOLD_SAMPLES.SAMPLES k) x.2
  else s.setF (TRG.HOLD_COUNT.COUNT k) x.2

/-- The pending holdoff values of a slot in their registers. -/
def State.setHolds (s : State) (k : Nat) : State := (Tbl.get [] s.trg.hold k).foldl (State.setHold k) s

/-- The pending values of a slot are gone. -/
def State.clearHolds (s : State) (k : Nat) : State :=
  State.setF { s with trg := { s.trg with hold := Tbl.set [] s.trg.hold k [] } } (TRG.SLOT_STATUS.PEND k) 0

theorem State.applyHold_eq (s : State) (k : Nat) : s.applyHold k = (s.setHolds k).clearHolds k := rfl

theorem State.clearHolds_fld (s : State) {f : Fld} (hf : f.addr ≠ (TRG.SLOT_STATUS.PEND k).addr) : (s.clearHolds k).fld f = s.fld f :=
  State.fld_setF_ne _ _ _ _ hf

theorem State.setHolds_ticks (s : State) (k : Nat) :
    lastFor (fun j => j == 0) (Tbl.get [] s.trg.hold k) (TRG.HOLD_TICKS.TICKS k) s (s.setHolds k) := by
  refine lastFor_foldl (fun t x hx => ?_) (fun t x hx => ?_) s _ <;> unfold State.setHold
  · rw [if_pos (by simpa using hx)]
    exact State.fld_setF_same _ _ _
  · rw [if_neg (by simpa using hx)]
    split <;> exact State.fld_setF_ne _ _ _ _ (by simp only [TRG.HOLD_TICKS.TICKS, TRG.HOLD_SAMPLES.SAMPLES, TRG.HOLD_COUNT.COUNT]; omega)

theorem State.setHolds_samples (s : State) (k : Nat) :
    lastFor (fun j => j == 1) (Tbl.get [] s.trg.hold k) (TRG.HOLD_SAMPLES.SAMPLES k) s (s.setHolds k) := by
  refine lastFor_foldl (fun t x hx => ?_) (fun t x hx => ?_) s _ <;> unfold State.setHold
  · have hone : x.1 = 1 := by simpa using hx
    rw [if_neg (by omega), if_pos hone]
    exact State.fld_setF_same _ _ _
  · rw [if_neg (c := x.1 = 1) (by simpa using hx)]
    split <;> exact State.fld_setF_ne _ _ _ _ (by simp only [TRG.HOLD_TICKS.TICKS, TRG.HOLD_SAMPLES.SAMPLES, TRG.HOLD_COUNT.COUNT]; omega)

theorem State.setHolds_count (s : State) (k : Nat) :
    lastFor (fun j => j != 0 && j != 1) (Tbl.get [] s.trg.hold k) (TRG.HOLD_COUNT.COUNT k) s (s.setHolds k) := by
  refine lastFor_foldl (fun t x hx => ?_) (fun t x hx => ?_) s _ <;> unfold State.setHold
  · obtain ⟨hzero, hone⟩ : x.1 ≠ 0 ∧ x.1 ≠ 1 := by simpa using hx
    rw [if_neg hzero, if_neg hone]
    exact State.fld_setF_same _ _ _
  · have hkey : x.1 = 0 ∨ x.1 = 1 := by simpa [imp_iff_not_or] using hx
    rcases hkey with hzero | hone
    · rw [if_pos hzero]
      exact State.fld_setF_ne _ _ _ _ (by simp only [TRG.HOLD_TICKS.TICKS, TRG.HOLD_COUNT.COUNT]; omega)
    · rw [if_neg (by omega), if_pos hone]
      exact State.fld_setF_ne _ _ _ _ (by simp only [TRG.HOLD_SAMPLES.SAMPLES, TRG.HOLD_COUNT.COUNT]; omega)

/-- The registers of a slot's holdoff values. -/
def holdAddrs (k : Nat) : List Nat :=
  [(TRG.HOLD_TICKS.TICKS k).addr, (TRG.HOLD_SAMPLES.SAMPLES k).addr, (TRG.HOLD_COUNT.COUNT k).addr, (TRG.SLOT_STATUS.PEND k).addr]

theorem State.setHolds_only (s : State) (k : Nat) : onlyRegs (holdAddrs k) s (s.setHolds k) := by
  refine List.foldlRecOn (motive := onlyRegs (holdAddrs k) s) _ _ (onlyRegs_refl _ s) fun t ht x _ => ?_
  unfold State.setHold
  split
  · exact ht.setF (by simp [holdAddrs])
  · split
    · exact ht.setF (by simp [holdAddrs])
    · exact ht.setF (by simp [holdAddrs])

/-- The pending holdoff values of a slot taken. -/
theorem State.applyHold_shows (s : State) (k : Nat) : ∃ t, s.applyHold k = t ∧
    lastFor (fun j => j == 0) (Tbl.get [] s.trg.hold k) (TRG.HOLD_TICKS.TICKS k) s t ∧
    lastFor (fun j => j == 1) (Tbl.get [] s.trg.hold k) (TRG.HOLD_SAMPLES.SAMPLES k) s t ∧
    lastFor (fun j => j != 0 && j != 1) (Tbl.get [] s.trg.hold k) (TRG.HOLD_COUNT.COUNT k) s t ∧
    t.fld (TRG.SLOT_STATUS.PEND k) = 0 ∧ Tbl.get [] t.trg.hold k = [] ∧ onlyRegs (holdAddrs k) s { t with trg := s.trg } := by
  refine ⟨_, s.applyHold_eq k, (s.setHolds_ticks k).congr (State.clearHolds_fld _ ?_), (s.setHolds_samples k).congr (State.clearHolds_fld _ ?_),
    (s.setHolds_count k).congr (State.clearHolds_fld _ ?_), State.fld_setF_same _ _ _,
    Tbl.get_set_same ([] : List (Nat × Nat)) (s.setHolds k).trg.hold k [], ?_⟩
  · simp only [TRG.HOLD_TICKS.TICKS, TRG.SLOT_STATUS.PEND]
    omega
  · simp only [TRG.HOLD_SAMPLES.SAMPLES, TRG.SLOT_STATUS.PEND]
    omega
  · simp only [TRG.HOLD_COUNT.COUNT, TRG.SLOT_STATUS.PEND]
    omega
  · obtain ⟨hfld, hrest⟩ := (s.setHolds_only k).setF (f := TRG.SLOT_STATUS.PEND k) (v := 0) (by simp [holdAddrs])
    exact ⟨hfld, (congrArg (fun u : State => { u with trg := s.trg }) hrest : _)⟩

/-! ### Re-arm points -/

/-- A re-arm point leaves the plans that are active. -/
theorem State.applyHold_slotPlan (s : State) (k : Nat) : ((s.setF (TRG.SLOT_STATUS.REARM k) 0).applyHold k).slotPlan k = s.slotPlan k := by
  have hacq : ((s.setF (TRG.SLOT_STATUS.REARM k) 0).setHolds k).acq = s.acq :=
    (congrArg (fun u : State => u.acq) ((s.setF (TRG.SLOT_STATUS.REARM k) 0).setHolds_only k).2 : _)
  have hsame : ((s.setF (TRG.SLOT_STATUS.REARM k) 0).applyHold k).acq = s.acq := hacq
  rw [State.slotPlan, State.slotPlan, State.slotOf?, State.slotOf?, hsame]
  simp only [State.planOf, hsame]

/-- A slot's re-arm point taken, with plan `o` active in it: its holdoff values and its channels' detectors take theirs. -/
def State.rearmed (s : State) (k : Nat) (o : Option Plan) : State :=
  o.elim ((s.setF (TRG.SLOT_STATUS.REARM k) 0).applyHold k) fun pl =>
    pl.chans.foldl (fun (t : State) (c : Chan) => (t.applyDet (2 * c.ch)).applyDet (2 * c.ch + 1))
      ((s.setF (TRG.SLOT_STATUS.REARM k) 0).applyHold k)

theorem rearmPoint_takes (hk : k < 8) (hin : s.inRearm k = false) (hat : s.bit (TRG.SLOT_STATUS.REARM k) = true ∨ s.cyc = 0) :
    exec (.rearmPoint (some k)) s = .next (s.rearmed k (s.slotPlan k)) := by
  refine congrArg Host.Outcome.next ((if_pos (by simpa [hk, hin] using hat)).trans
    (Eq.trans ?_ (congrArg (s.rearmed k) (s.applyHold_slotPlan k))))
  cases ((s.setF (TRG.SLOT_STATUS.REARM k) 0).applyHold k).slotPlan k <;> rfl

theorem rearmPoint_waits (hin : s.inRearm k = true) : exec (.rearmPoint (some k)) s = .next s :=
  congrArg Host.Outcome.next (if_neg (by simp [hin]))

/-! ### Evaluation instants -/

section
variable {l : List (Nat × List Nat)}

theorem evaluationInstant_runs {sl : Slot} {pl : Plan} (hrun : s.running = true) (hsl : s.slotOf? k = some sl) (hpl : s.slotPlan k = some pl)
    (hover : (sl.inst + 1) * 10 ≤ s.now * instPerTick (s.fld (TRG.SLOT_CFG.TE k)))
    (hpins : s.pinsKnown (instPerTick (s.fld (TRG.SLOT_CFG.TE k))) sl.inst = true)
    (hfit : s.samplesFit pl (instPerTick (s.fld (TRG.SLOT_CFG.TE k))) sl.inst l = true) :
    exec (.evaluationInstant (some k) l) s = .next (s.runInstant k sl.inst pl l) := by
  refine congrArg Host.Outcome.next ?_
  rw [effEvaluationInstant, if_neg (by simp [hrun]), hsl, hpl]
  exact if_pos (by simp [hover, hpins, hfit])

theorem evaluationInstant_runsFree (hrun : s.running = true) (hnow : 0 < s.now) (hfit : l.all s.freeFits = true) :
    exec (.evaluationInstant none l) s = .next (l.foldl State.runFree s) := by
  refine congrArg Host.Outcome.next ?_
  rw [effEvaluationInstant, if_neg (by simp [hrun])]
  exact if_pos (by rw [hfit]; simp [hnow])

theorem evaluationInstant_idle (j : Option Nat) (hrun : s.running = false) : exec (.evaluationInstant j l) s = .next s :=
  congrArg Host.Outcome.next (if_pos (by simp [hrun]))

end

end

/-- Settles O23: each write by whether its value is within its bound, each re-arm point and instant by its conditions. -/
theorem liveWritesAndEvaluationsKeepTheirOrder : Obligations.LiveWritesAndEvaluationsKeepTheirOrder := by
  refine ⟨fun s l => ⟨fun k sl pl => evaluationInstant_runs, evaluationInstant_runsFree, evaluationInstant_idle⟩,
    fun s => ⟨fun i lh ll hs hi => ⟨fun hok => ?_, fun hbad => ?_⟩, fun i h hs hi hh => ⟨fun hmax => ?_, fun hmax => ?_⟩,
      fun k v hk => ⟨fun hs hv hmax => ?_, fun hs hv hmax => ?_, fun hs hv => ?_, fun hs hpos hv => ?_, fun hs hv => ?_,
        fun hin hat => (rearmPoint_takes hk hin hat).trans (congrArg _ ?_), rearmPoint_waits, s.applyHold_shows k⟩, fun h => congrArg Host.Outcome.next (if_pos h),
      fun i => State.applyDet_idle, fun i lh ll h => State.applyDet_shows⟩⟩
  · exact ⟨_, detLevelWrite_pends hs hi hok.1 hok.2, s.pendDet_pend i _ _ _, s.pendDet_shows i _ _ _⟩
  · exact ⟨_, detLevelWrite_refuses hs hi hbad, s.detNotice_told hi (by decide)⟩
  · exact ⟨_, detHystWrite_pends hs hi hh hmax, s.pendDet_pend i _ _ _, s.pendDet_shows i _ _ _⟩
  · exact ⟨_, detHystWrite_refuses hs hi hh hmax, s.detNotice_told hi (by decide)⟩
  · exact ⟨_, holdTicksWrite_refuses hk hs hv hmax, s.slotRefusal_told hk⟩
  · exact ⟨_, holdTicksWrite_pends hk hs hv hmax, s.pendHold_pends k 0 v⟩
  · exact ⟨_, holdSamplesWrite_pends hk hs hv, s.pendHold_pends k 1 v⟩
  · exact ⟨_, holdCountWrite_pends hk hs hpos hv, s.pendHold_pends k 2 v⟩
  · subst hv
    exact ⟨_, holdCountWrite_refuses hk hs, s.slotRefusal_told hk⟩
  · cases s.slotPlan k <;> rfl

end Sys2Proof.Machine
end

section
/-!
SUPPORT. CLR_COUNTS (R85 and its neighbours): counters cleared, and held at 0 for the rest of the cycle.
-/

namespace Sys2Proof.Machine

section
variable {s t : State} {fs gs : List Fld}

/-! ### Fields whose reset value is 0 -/

/-- Every field of the list resets to 0. -/
def resetsToZero (fs : List Fld) : Prop := ∀ f ∈ fs, f.reset = 0

theorem resetsToZero_of_all (h : fs.all (fun f => f.reset == 0) = true) : resetsToZero fs := fun f hf =>
  beq_iff_eq.mp (List.all_eq_true.mp h f hf)

theorem resetsToZero.append (h : resetsToZero fs) (k : resetsToZero gs) : resetsToZero (fs ++ gs) := List.forall_mem_append.mpr ⟨h, k⟩

theorem resetsToZero_flatMap {F : Nat → List Fld} {l : List Nat} (h : ∀ i, resetsToZero (F i)) : resetsToZero (l.flatMap F) :=
  List.forall_mem_flatMap.mpr fun i _ => h i

/-- A field at 0 stays so when another one is cleared, wherever the two start. -/
theorem State.setF_zero_keeps {f g : Fld} (hf : f.reset = 0) (hg : g.reset = 0) (h : s.fld f = 0) : (s.setF g 0).fld f = 0 := by
  by_cases ha : f.addr = g.addr
  · have hsame : (s.setF g 0).fld f = (s.setF g 0).fld g := by rw [State.fld, State.fld, ha, hf, hg]
    rw [hsame, State.fld_setF_same, Nat.zero_mod]
  · rw [State.fld_setF_ne _ _ _ _ ha, h]

theorem State.clearFs_zero_keeps {f : Fld} (hf : f.reset = 0) (hz : resetsToZero fs) : ∀ s : State, s.fld f = 0 → (s.clearFs fs).fld f = 0 := by
  induction fs with
  | nil => exact fun _ h => h
  | cons g fs ih =>
    obtain ⟨hg, hfs⟩ := List.forall_mem_cons.mp hz
    exact fun s h => ih hfs (s.setF g 0) (State.setF_zero_keeps hf hg h)

/-- Clearing fields that reset to 0 leaves each of them at 0. -/
theorem State.clearFs_zero (hz : resetsToZero fs) : ∀ s : State, ∀ f ∈ fs, (s.clearFs fs).fld f = 0 := by
  induction fs with
  | nil => exact fun _ _ h => absurd h List.not_mem_nil
  | cons g fs ih =>
    obtain ⟨hg, hfs⟩ := List.forall_mem_cons.mp hz
    refine fun s => List.forall_mem_cons.mpr ⟨?_, ih hfs (s.setF g 0)⟩
    exact State.clearFs_zero_keeps hg hfs (s.setF g 0) ((State.fld_setF_same _ _ _).trans (Nat.zero_mod _))

/-! ### Counters cleared -/

/-- The counters `fs` of `t` stand at 0 and are held there for the rest of the cycle; else `t` is `s`. -/
def countersCleared (fs : List Fld) (s t : State) : Prop :=
  (∀ f ∈ fs, t.fld f = 0) ∧ (∀ f ∈ fs, t.justCleared f = true) ∧
    onlyRegs (fs.map Fld.addr) s { t with cleared := s.cleared, clearedAt := s.clearedAt }

theorem countersCleared_nil (s : State) : countersCleared [] s s :=
  ⟨fun _ h => absurd h List.not_mem_nil, fun _ h => absurd h List.not_mem_nil, onlyRegs_refl _ s⟩

theorem State.clearCounts_eq (s : State) (fs : List Fld) : s.clearCounts fs = { s with
    regs := (s.clearFs fs).regs, clearedAt := s.now + 1
    cleared := fs.map Fld.addr ++ (if s.clearedAt = s.now + 1 then s.cleared else []) } := by
  unfold State.clearCounts
  rw [State.clearFs_eq]

theorem State.clearCounts_fld (s : State) (fs : List Fld) (f : Fld) : (s.clearCounts fs).fld f = (s.clearFs fs).fld f := by
  rw [State.clearCounts_eq]
  rfl

theorem State.clearCounts_justCleared (s : State) (fs : List Fld) (f : Fld) :
    (s.clearCounts fs).justCleared f = true ↔ f.addr ∈ fs.map Fld.addr ∨ s.justCleared f = true := by
  rw [State.clearCounts_eq]
  simp only [State.justCleared, beq_self_eq_true, Bool.true_and, List.contains_iff_mem, List.mem_append, Bool.and_eq_true, beq_iff_eq]
  by_cases h : s.clearedAt = s.now + 1 <;> simp [h]

/-- Further counters cleared in the same cycle. -/
theorem countersCleared.clearCounts (h : countersCleared fs s t) (hfs : resetsToZero fs) (hgs : resetsToZero gs) :
    countersCleared (fs ++ gs) s (t.clearCounts gs) := by
  obtain ⟨hzero, hjust, honly⟩ := h
  refine ⟨List.forall_mem_append.mpr ⟨fun f hf => ?_, fun f hf => ?_⟩, List.forall_mem_append.mpr ⟨fun f hf => ?_, fun f hf => ?_⟩, ?_, ?_⟩
  · rw [State.clearCounts_fld]
    exact State.clearFs_zero_keeps (hfs f hf) hgs t (hzero f hf)
  · rw [State.clearCounts_fld]
    exact State.clearFs_zero hgs t f hf
  · exact (t.clearCounts_justCleared gs f).mpr (.inr (hjust f hf))
  · exact (t.clearCounts_justCleared gs f).mpr (.inl (List.mem_map_of_mem hf))
  · intro g hg
    rw [List.map_append, List.mem_append, not_or] at hg
    refine Eq.trans ?_ (honly.1 g hg.1)
    refine (State.clearCounts_fld t gs g).trans (State.fld_clearFs_ne _ _ _ fun f hf e => ?_)
    exact hg.2 (e ▸ List.mem_map_of_mem hf)
  · rw [State.clearCounts_eq]
    exact honly.2

/-- The counters of one block after another. -/
theorem countersCleared_foldl {F : Nat → List Fld} (hF : ∀ i, resetsToZero (F i)) (l : List Nat) (s : State) :
    countersCleared (l.flatMap F) s (l.foldl (fun t i => t.clearCounts (F i)) s) := by
  induction l using List.reverseRecOn with
  | nil => exact countersCleared_nil s
  | append_singleton l i ih =>
    rw [List.foldl_append, List.flatMap_append, List.flatMap_singleton]
    exact ih.clearCounts (resetsToZero_flatMap hF) (hF i)

/-! ### The commands -/

theorem clears_of_countersCleared {off : Nat} (h : countersCleared fs s t) :
    clears s off fs (.next (if s.served off then t else s)) := by
  obtain ⟨hzero, hjust, honly⟩ := h
  exact ⟨fun hs => ⟨t, congrArg _ (if_pos hs), hzero, fun _ => hjust, honly⟩, fun hs => congrArg _ (if_neg (by simp [hs]))⟩

/-- A command that clears its counters where its block is served. -/
theorem clears_of_clearCounts (s : State) (off : Nat) (hz : resetsToZero fs) :
    clears s off fs (.next (if s.served off then s.clearCounts fs else s)) :=
  clears_of_countersCleared ((countersCleared_nil s).clearCounts (fun _ h => absurd h List.not_mem_nil) hz)

/-- The timeline's counters, whose clear holds nothing for the rest of the cycle. -/
theorem clears_of_clearFs (s : State) (hz : resetsToZero fs) : clears s 0x10008 fs (.next (if s.served 0x10008 then s.clearFs fs else s)) := by
  refine ⟨fun hs => ⟨s.clearFs fs, congrArg _ (if_pos hs), State.clearFs_zero hz s, fun h => absurd rfl h, ?_⟩,
    fun hs => congrArg _ (if_neg (by simp [hs]))⟩
  obtain ⟨hfld, hrest⟩ := onlyRegs_clearFs (fs.map Fld.addr) fs s fun f hf => List.mem_map_of_mem hf
  exact ⟨hfld, (congrArg (fun u : State => { u with cleared := s.cleared, clearedAt := s.clearedAt }) hrest : _)⟩

end

theorem timeClrCounts_clears (s : State) : clears s 0x10008 [TIME.COUNTS.REF_LOSS, TIME.COUNTS.PHASE_HIT, TIME.COUNTS.SLIP,
    TIME.COUNTS.EPOCH_MISSING, TIME.SCHED_COUNTS.STALE, TIME.SCHED_COUNTS.DEADLINE] (exec .timeClrCounts s) :=
  clears_of_clearFs s (resetsToZero_of_all rfl)

theorem cnvClrCounts_clears (s : State) : clears s 0x2000C cnvCounters (exec .cnvClrCounts s) :=
  clears_of_clearCounts s _ ((resetsToZero_flatMap fun _ => resetsToZero_of_all rfl).append
    (resetsToZero_flatMap fun _ => resetsToZero_of_all rfl))

theorem calClrCounts_clears (s : State) : clears s 0x30008 calCounters (exec .calClrCounts s) :=
  clears_of_clearCounts s _ ((resetsToZero_of_all rfl).append (resetsToZero_flatMap fun _ => resetsToZero_of_all rfl))

theorem trgClrCounts_clears (s : State) : clears s 0x40000 trgCounters (exec .trgClrCounts s) :=
  clears_of_clearCounts s _ (((resetsToZero_flatMap fun _ => resetsToZero_of_all rfl).append
    (resetsToZero_flatMap fun _ => resetsToZero_of_all rfl)).append (resetsToZero_of_all rfl))

theorem codClrCounts_clears (s : State) : clears s 0x60000 ((List.range 64).flatMap fun c => [COD.CNT_FULL.COUNT c, COD.CNT_BOUNDED.COUNT c,
    COD.CNT_HALVED.COUNT c, COD.CNT_RFRAMES.COUNT c, COD.CH_MAXK.MAXK c]) (exec .codClrCounts s) :=
  clears_of_countersCleared (countersCleared_foldl (fun _ => resetsToZero_of_all rfl) _ s)

theorem accClrCounts_clears (s : State) : clears s 0x70000 accCounters (exec .accClrCounts s) :=
  clears_of_clearCounts s _ (((resetsToZero_flatMap fun _ => resetsToZero_of_all rfl).append
    (resetsToZero_flatMap fun _ => resetsToZero_of_all rfl)).append (resetsToZero_of_all rfl))

theorem ensClrCounts_clears (s : State) : clears s 0x80018 ensCounters (exec .ensClrCounts s) :=
  clears_of_clearCounts s _ ((resetsToZero_of_all rfl).append (resetsToZero_flatMap fun _ => resetsToZero_of_all rfl))

theorem memClrCounts_clears (s : State) : clears s 0x90008 memCounters (exec .memClrCounts s) :=
  clears_of_clearCounts s _ (List.forall_mem_cons.mpr ⟨rfl, resetsToZero_flatMap fun _ => resetsToZero_of_all rfl⟩)

theorem rdoClrCounts_clears (s : State) : clears s 0xA0000 rdoCounters (exec .rdoClrCounts s) :=
  clears_of_clearCounts s _ (resetsToZero_flatMap fun _ => resetsToZero_of_all rfl)

theorem dspClrCounts_clears (s : State) : clears s 0xC0004 dspCounters (exec .dspClrCounts s) :=
  clears_of_clearCounts s _ (resetsToZero_of_all rfl)

theorem seqClrCounts_clears (s : State) : clears s 0xD0010 ([SEQ.PATCH_ECC.CE, SEQ.PATCH_ECC.UE] ++ (List.range 69).flatMap fun u =>
    [SEQ.UNIT_COUNTS.ELASTIC_OVF u, SEQ.UNIT_COUNTS.CTX_PARITY u, SEQ.UNIT_COUNTS.PROXY u, SEQ.UNIT_LAT.MAX_LAT u, SEQ.UNIT_LAT.MAX_LEN u])
    (exec .seqClrCounts s) :=
  clears_of_clearCounts s _ ((resetsToZero_of_all rfl).append (resetsToZero_flatMap fun _ => resetsToZero_of_all rfl))

theorem mgtClrCounts_clears (s : State) : clears s 0xE0008 [MGT.MON_COUNTS.PW_EVENTS, MGT.MON_COUNTS.INTERRUPTED, MGT.MON_COUNTS.INJ_OVERRUN,
    MGT.MON_COUNTS.UNSETTLED, MGT.LOG_STATUS.DROPPED, MGT.MBX_STATUS.REFUSED, MGT.MBX_STATUS.UART_ERR] (exec .mgtClrCounts s) :=
  clears_of_clearCounts s _ (resetsToZero_of_all rfl)

theorem bstClrCounts_clears (s : State) : clears s 0x10000C ((List.range 4).flatMap fun g => [BST.GROUP_COUNTS.SLICES g,
    BST.GROUP_COUNTS.FAILS g, BST.GROUP_COUNTS.SKIPS g, BST.GROUP_COUNTS.ABANDONED g]) (exec .bstClrCounts s) :=
  clears_of_clearCounts s _ (resetsToZero_flatMap fun _ => resetsToZero_of_all rfl)

theorem evtClrCounts_clears (s : State) : clears s 0x110004 ((List.range 256).map EVT.COUNT.COUNT) (exec .evtClrCounts s) :=
  clears_of_clearCounts s _ (List.forall_mem_map.mpr fun _ _ => rfl)

end Sys2Proof.Machine
end

section
/-!
SUPPORT. Snapshots (R32, R35, R85, R107, R170, R298, R338): what copying live values into registers leaves.
-/

namespace Sys2Proof.Machine

section
variable {s t u : State} {bs : List Nat}

/-! ### Writes within blocks -/

/-- `t` is `s` but for register fields of the blocks `bs` (Table 19-3). -/
def onlyBlocks (bs : List Nat) (s t : State) : Prop :=
  (∀ g : Fld, g.addr / 524288 ∉ bs → t.fld g = s.fld g) ∧ { t with regs := s.regs } = s

theorem onlyBlocks_refl (bs : List Nat) (s : State) : onlyBlocks bs s s := ⟨fun _ _ => rfl, rfl⟩

theorem onlyBlocks.single {b : Nat} (h : onlyBlocks [b] s t) : onlyBlock b s t :=
  ⟨fun g hg => h.1 g (by simpa using hg), h.2⟩

theorem onlyBlocks.setF (h : onlyBlocks bs s t) {f : Fld} {v : Nat} (hf : f.addr / 524288 ∈ bs) : onlyBlocks bs s (t.setF f v) :=
  ⟨fun g hg => (State.fld_setF_ne t f g v fun e => hg (e ▸ hf)).trans (h.1 g hg), h.2⟩

theorem onlyBlocks.setB (h : onlyBlocks bs s t) {f : Fld} {v : Bool} (hf : f.addr / 524288 ∈ bs) : onlyBlocks bs s (t.setB f v) := h.setF hf

theorem onlyBlocks.setS (h : onlyBlocks bs s t) {f : Fld} {v : Int} (hf : f.addr / 524288 ∈ bs) : onlyBlocks bs s (t.setS f v) := h.setF hf

theorem onlyBlocks.foldl {F : State → Nat → State} {l : List Nat} (h : onlyBlocks bs s t)
    (hF : ∀ u, ∀ i ∈ l, onlyBlocks bs s u → onlyBlocks bs s (F u i)) : onlyBlocks bs s (l.foldl F t) :=
  List.foldlRecOn l F h fun u hu i hi => hF u i hi hu

section
variable (h : onlyBlocks bs s t)
include h

theorem onlyBlocks.cnv_eq : t.cnv = s.cnv := (congrArg (fun u : State => u.cnv) h.2 : _)

theorem onlyBlocks.cal_eq : t.cal = s.cal := (congrArg (fun u : State => u.cal) h.2 : _)

theorem onlyBlocks.acq_eq : t.acq = s.acq := (congrArg (fun u : State => u.acq) h.2 : _)

theorem onlyBlocks.seq_eq : t.seq = s.seq := (congrArg (fun u : State => u.seq) h.2 : _)

theorem onlyBlocks.tick_eq : t.tick = s.tick := (congrArg (fun u : State => u.tick) h.2 : _)

theorem onlyBlocks.rdo_eq : t.rdo = s.rdo := (congrArg (fun u : State => u.rdo) h.2 : _)

end

/-- One step for each index: what the step for an index establishes stands at the end, when the steps for the others keep it. -/
theorem foldl_establishes {F : State → Nat → State} {P : Nat → State → Prop} (Inv : State → Prop) (l : List Nat)
    (hinv : ∀ t, ∀ i ∈ l, Inv t → Inv (F t i)) (hset : ∀ t, ∀ i ∈ l, Inv t → P i (F t i))
    (hkeep : ∀ t i j, i ∈ l → j ∈ l → i ≠ j → P j t → P j (F t i)) (s : State) (hs : Inv s) : ∀ i ∈ l, P i (l.foldl F s) := by
  induction l using List.reverseRecOn with
  | nil => exact fun _ h => absurd h List.not_mem_nil
  | append_singleton l x ih =>
    have hl : ∀ i ∈ l, i ∈ l ++ [x] := fun i hi => List.mem_append_left _ hi
    have hx : x ∈ l ++ [x] := List.mem_append_right _ (List.mem_singleton_self x)
    have hmid : Inv (l.foldl F s) := List.foldlRecOn l F hs fun u hu i hi => hinv u i (hl i hi) hu
    intro i hi
    rw [List.foldl_append, List.foldl_cons, List.foldl_nil]
    by_cases hix : i = x
    · rw [hix]
      exact hset _ x hx hmid
    · have hil : i ∈ l := by simpa [hix] using hi
      exact hkeep _ x i hx hi (fun e => hix e.symm) (ih (fun t i hi => hinv t i (hl i hi)) (fun t i hi => hset t i (hl i hi))
        (fun t i j hi hj => hkeep t i j (hl i hi) (hl j hj)) i hil)

/-! ### The timestamp (R32, R35) -/

/-- On a unit without a role the timestamp is the count and the cycle's fraction. -/
theorem State.stamp_now (hrole : s.fld ENS.CFG.ROLE = 0) (hlog : ∀ x ∈ s.time.jumpLog, x.1 ≤ s.now) :
    s.stamp (s.now * finePerNs) = (s.tick, (s.now % 10 * 2 ^ 24 + 5) / 10) := by
  have hindex : s.now * finePerNs / finePerTick = s.now / 10 := by
    simp only [finePerNs, finePerTick]
    omega
  have hlater : (s.time.jumpLog.filter fun x => decide (s.now / 10 < x.1 / cyclesPerTick)) = [] := by
    refine List.filter_eq_nil_iff.mpr fun x hx => ?_
    have hle := Nat.div_le_div_right (c := 10) (hlog x hx)
    exact fun h => absurd (of_decide_eq_true h) (not_lt.mpr hle)
  have hcount : s.countAt (s.now / 10) = s.tick := by
    unfold State.countAt
    rw [hlater]
    simp [State.tickIndex, cyclesPerTick, tickAdd]
  have hint : ((s.now * finePerNs : Nat) : Int) = (s.now : Int) * 8388608 := by simp [finePerNs]
  have hfrac : (s.now % 10 * 2 ^ 24 + 5) / 10 < 2 ^ 24 := by omega
  have hsteps : (2 * ((s.now : Int) * 8388608) + 5) / 10 - 0 = ((s.now / 10 : Nat) : Int) * 2 ^ 24 + (((s.now % 10 * 2 ^ 24 + 5) / 10 : Nat) : Int) := by
    omega
  unfold State.stamp
  simp only [hindex, hcount, State.refDelay, if_pos hrole, hint, hsteps, Prod.mk.injEq]
  generalize (s.now % 10 * 2 ^ 24 + 5) / 10 = frac at hfrac ⊢
  refine ⟨?_, by omega⟩
  have hwhole : (((s.now / 10 : Nat) : Int) * 2 ^ 24 + (frac : Int)) / 2 ^ 24 - ((s.now / 10 : Nat) : Int) = 0 := by omega
  rw [hwhole]
  simp [tickAdd]

theorem State.stamp_frac_lt (s : State) (t : Nat) : (s.stamp t).2 < 2 ^ 24 := by
  unfold State.stamp
  dsimp only
  omega

theorem timeSnap_shows (hs : s.served 0x10008 = true) : ∃ t, exec .timeSnap s = .next t ∧
    t.fld TIME.SNAP_TICK_LO.TICK = (s.stamp (s.now * finePerNs)).1.toNat % 2 ^ 32 ∧
    t.fld TIME.SNAP_TICK_HI.TICK = (s.stamp (s.now * finePerNs)).1.toNat / 2 ^ 32 ∧
    t.fld TIME.SNAP_FRAC.FRAC = (s.stamp (s.now * finePerNs)).2 ∧
    onlyRegs [TIME.SNAP_TICK_LO.TICK.addr, TIME.SNAP_TICK_HI.TICK.addr, TIME.SNAP_FRAC.FRAC.addr] s t := by
  refine ⟨_, congrArg Host.Outcome.next (if_pos hs), ?_, ?_, ?_, ?_⟩
  · rw [State.fld_setF_ne _ _ _ _ (by decide), State.fld_setF_ne _ _ _ _ (by decide), State.fld_setF_same]
    rfl
  · rw [State.fld_setF_ne _ _ _ _ (by decide), State.fld_setF_same]
    have htick := (s.stamp (s.now * finePerNs)).1.isLt
    exact Nat.mod_eq_of_lt (show _ < 2 ^ 16 by omega)
  · rw [State.fld_setF_same]
    exact Nat.mod_eq_of_lt (s.stamp_frac_lt _)
  · exact (((onlyRegs_refl _ s).setF (by simp)).setF (by simp)).setF (by simp)

/-! ### The map of the fabric (R85) -/

/-- What the map's snapshot reads stays while it is taken. -/
def mapReads (s t : State) : Prop := onlyBlocks [2] s t ∧ ∀ g < 4, t.restPos g = s.restPos g

section
variable (h : mapReads s t)
include h

theorem mapReads.stepOf (g : Nat) : t.stepOf g = s.stepOf g := by rw [State.stepOf, State.stepOf, h.1.cnv_eq]

theorem mapReads.sliceOf {l : Nat} (hl : l < 64) : t.sliceOf l = s.sliceOf l := by
  unfold State.sliceOf
  dsimp only
  rw [h.1.cnv_eq, h.stepOf, h.2 _ (by omega)]

theorem mapReads.roleOf {sl : Nat} (hsl : sl < 68) : t.roleOf sl = s.roleOf sl := by
  unfold State.roleOf State.restSlice State.isRetired
  dsimp only
  rw [h.1.cnv_eq, h.stepOf, h.2 _ (by omega)]

theorem mapReads.setF {f : Fld} {v : Nat} (hlo : 8 * 0x20100 ≤ f.addr) (hhi : f.addr < 3 * 524288) : mapReads s (t.setF f v) :=
  ⟨h.1.setF (by simp only [List.mem_singleton]; omega), fun g hg =>
    (State.fld_setF_ne _ _ _ _ (by simp only [CNV.GROUP_STATUS.REST]; omega)).trans (h.2 g hg)⟩

theorem mapReads.snapLane {l : Nat} (hl : l < 64) : mapReads s (t.snapLane l) := by
  unfold State.snapLane
  refine ((((h.setF ?_ ?_).setF ?_ ?_).setF ?_ ?_).setF ?_ ?_).setF ?_ ?_ <;>
    simp only [CNV.LANE_MAP.SLICE, CNV.LANE_MAP.UNUSED, CNV.LANE_MAP.CHANNEL, CNV.LANE_MAP.SLOT, CNV.LANE_MAP.PHASE] <;> omega

theorem mapReads.snapSlice {sl : Nat} (hsl : sl < 68) : mapReads s (t.snapSlice sl) := by
  unfold State.snapSlice
  refine (((h.setF ?_ ?_).setF ?_ ?_).setF ?_ ?_).setF ?_ ?_ <;>
    simp only [CNV.SLICE_STATUS.ROLE, CNV.SLICE_STATUS.POWERED, CNV.SLICE_STATUS.LANE, CNV.SLICE_STATUS.SHADOW_FAIL] <;> omega

end

/-- A lane's entry leaves the fields outside its own register. -/
theorem State.snapLane_fld (s : State) {l : Nat} {f : Fld} (hf : f.addr < 8 * (0x20100 + 4 * l) ∨ 8 * (0x20100 + 4 * l) + 32 ≤ f.addr) :
    (s.snapLane l).fld f = s.fld f := by
  have hout : ∀ d < 32, f.addr ≠ 8 * (0x20100 + 4 * l) + d := fun d hd => by omega
  exact (State.fld_setF_ne _ _ _ _ (hout 24 (by decide))).trans <| (State.fld_setF_ne _ _ _ _ (hout 16 (by decide))).trans <|
    (State.fld_setF_ne _ _ _ _ (hout 8 (by decide))).trans <| (State.fld_setF_ne _ _ _ _ (hout 7 (by decide))).trans <|
      State.fld_setF_ne _ _ _ _ (hout 0 (by decide))

theorem State.snapLane_slice (s : State) (l : Nat) :
    (s.snapLane l).fld (CNV.LANE_MAP.SLICE l) = s.sliceOf l % 2 ^ (CNV.LANE_MAP.SLICE l).width := by
  unfold State.snapLane
  rw [State.fld_setF_ne _ _ _ _ (by simp only [CNV.LANE_MAP.SLICE, CNV.LANE_MAP.PHASE]; omega),
    State.fld_setF_ne _ _ _ _ (by simp only [CNV.LANE_MAP.SLICE, CNV.LANE_MAP.SLOT]; omega),
    State.fld_setF_ne _ _ _ _ (by simp only [CNV.LANE_MAP.SLICE, CNV.LANE_MAP.CHANNEL]; omega),
    State.fld_setB_ne _ _ _ _ (by simp only [CNV.LANE_MAP.SLICE, CNV.LANE_MAP.UNUSED]; omega), State.fld_setF_same]

/-- A slice's entry leaves the fields outside its own register. -/
theorem State.snapSlice_fld (s : State) {sl : Nat} {f : Fld} (hf : f.addr < 8 * (0x20200 + 4 * sl) ∨ 8 * (0x20200 + 4 * sl) + 32 ≤ f.addr) :
    (s.snapSlice sl).fld f = s.fld f := by
  have hout : ∀ d < 32, f.addr ≠ 8 * (0x20200 + 4 * sl) + d := fun d hd => by omega
  exact (State.fld_setF_ne _ _ _ _ (hout 16 (by decide))).trans <| (State.fld_setF_ne _ _ _ _ (hout 8 (by decide))).trans <|
    (State.fld_setF_ne _ _ _ _ (hout 2 (by decide))).trans <| State.fld_setF_ne _ _ _ _ (hout 0 (by decide))

theorem State.roleOf_lt (s : State) (sl : Nat) : s.roleOf sl < 4 := by
  unfold State.roleOf
  dsimp only
  split
  · decide
  · split
    · split
      · decide
      · split
        · decide
        · split <;> decide
    · split <;> decide

theorem State.snapSlice_role (s : State) (sl : Nat) : (s.snapSlice sl).fld (CNV.SLICE_STATUS.ROLE sl) = s.roleOf sl := by
  unfold State.snapSlice
  rw [State.fld_setF_ne _ _ _ _ (by simp only [CNV.SLICE_STATUS.ROLE, CNV.SLICE_STATUS.SHADOW_FAIL]; omega),
    State.fld_setF_ne _ _ _ _ (by simp only [CNV.SLICE_STATUS.ROLE, CNV.SLICE_STATUS.LANE]; omega),
    State.fld_setB_ne _ _ _ _ (by simp only [CNV.SLICE_STATUS.ROLE, CNV.SLICE_STATUS.POWERED]; omega), State.fld_setF_same]
  exact Nat.mod_eq_of_lt (s.roleOf_lt sl)

/-- The entries of all lanes. -/
def State.snapLanes (s : State) : State := (List.range 64).foldl State.snapLane s

/-- The entries of all slices. -/
def State.snapSlices (s : State) : State := (List.range 68).foldl State.snapSlice s

theorem State.snapLanes_reads (s : State) : mapReads s s.snapLanes :=
  List.foldlRecOn (motive := mapReads s) _ _ ⟨onlyBlocks_refl _ s, fun _ _ => rfl⟩ fun _ hu _ hl => hu.snapLane (List.mem_range.mp hl)

theorem mapReads.snapSlices (h : mapReads s t) : mapReads s t.snapSlices :=
  List.foldlRecOn (motive := mapReads s) _ _ h fun _ hu _ hsl => hu.snapSlice (List.mem_range.mp hsl)

theorem State.snapLanes_slice (s : State) : ∀ l ∈ List.range 64,
    s.snapLanes.fld (CNV.LANE_MAP.SLICE l) = s.sliceOf l % 2 ^ (CNV.LANE_MAP.SLICE l).width := by
  refine foldl_establishes (P := fun l t => t.fld (CNV.LANE_MAP.SLICE l) = s.sliceOf l % 2 ^ (CNV.LANE_MAP.SLICE l).width) (mapReads s) _ (fun t l hl ht => ht.snapLane (List.mem_range.mp hl)) (fun t l hl ht => ?_)
    (fun t i j _ _ hij hj => ?_) s ⟨onlyBlocks_refl _ s, fun _ _ => rfl⟩
  · rw [State.snapLane_slice, ht.sliceOf (List.mem_range.mp hl)]
  · rw [State.snapLane_fld _ (by simp only [CNV.LANE_MAP.SLICE]; omega), hj]

theorem mapReads.snapSlices_role (h : mapReads s t) : ∀ sl ∈ List.range 68, t.snapSlices.fld (CNV.SLICE_STATUS.ROLE sl) = s.roleOf sl := by
  refine foldl_establishes (P := fun sl t => t.fld (CNV.SLICE_STATUS.ROLE sl) = s.roleOf sl) (mapReads s) _ (fun t sl hsl ht => ht.snapSlice (List.mem_range.mp hsl)) (fun t sl hsl ht => ?_)
    (fun t i j _ _ hij hj => ?_) t h
  · rw [State.snapSlice_role, ht.roleOf (List.mem_range.mp hsl)]
  · rw [State.snapSlice_fld _ (by simp only [CNV.SLICE_STATUS.ROLE]; omega), hj]

/-- The slices' entries leave those of the lanes. -/
theorem State.snapSlices_lanes (s : State) {l : Nat} (hl : l < 64) : s.snapSlices.fld (CNV.LANE_MAP.SLICE l) = s.fld (CNV.LANE_MAP.SLICE l) :=
  List.foldlRecOn (motive := fun t : State => t.fld (CNV.LANE_MAP.SLICE l) = s.fld (CNV.LANE_MAP.SLICE l)) _ _ rfl fun t ht sl _ => by
    rw [State.snapSlice_fld _ (by simp only [CNV.LANE_MAP.SLICE]; omega), ht]

theorem cnvSnapMap_shows (hs : s.served 0x2000C = true) : ∃ t, exec .cnvSnapMap s = .next t ∧ onlyBlock 2 s t ∧
    (∀ sl < 68, t.fld (CNV.SLICE_STATUS.ROLE sl) = s.roleOf sl) ∧
    (∀ l < 64, t.fld (CNV.LANE_MAP.SLICE l) = s.sliceOf l % 2 ^ (CNV.LANE_MAP.SLICE l).width) := by
  have hreads := s.snapLanes_reads
  exact ⟨s.snapLanes.snapSlices, congrArg Host.Outcome.next (if_pos hs), hreads.snapSlices.1.single,
    fun sl hsl => hreads.snapSlices_role sl (List.mem_range.mpr hsl),
    fun l hl => (State.snapSlices_lanes _ hl).trans (s.snapLanes_slice l (List.mem_range.mpr hl))⟩

end

end Sys2Proof.Machine
end

section
/-!
SUPPORT. The snapshots of the calibration values, the books and the sequencers (R107, R170, R298, R338), and the obligation about clears
and snapshots.
-/

namespace Sys2Proof.Machine

section
variable {s t u : State}

/-! ### Signed fields -/

theorem State.fldS_congr {f : Fld} (h : t.fld f = s.fld f) : t.fldS f = s.fldS f := by
  rw [State.fldS, State.fldS, h]

/-- A signed field of 12 bits reads the value written, saturated. -/
theorem State.fldS_setS_level (s : State) {f : Fld} (hw : f.width = 12) (v : Int) : (s.setS f v).fldS f = satI v (-2048) 2047 := by
  have hfld := s.fld_setS_level hw v
  have hrange : -2048 ≤ satI v (-2048) 2047 ∧ satI v (-2048) 2047 ≤ 2047 := by
    unfold satI
    omega
  rw [State.fldS, hfld, hw, toTwos]
  split <;> omega

/-! ### The calibration values (R107) -/

/-- A slice's values in their registers. -/
def State.snapSliceValues (s : State) (sl : Nat) : State :=
  let s := (s.setS (CAL.SLICE_OG.OFFSET sl) (Tbl.get 0 s.cal.offset sl)).setF (CAL.SLICE_OG.GAIN sl) (Tbl.get 0x8000 s.cal.gain sl).toNat
  let s := s.setS (CAL.SLICE_APERTURE.TRIM sl) (Tbl.get 0 s.cal.aperture sl)
  (List.range 14).foldl (fun s b => s.setF (CAL.SLICE_WEIGHT.WEIGHT (16 * sl + b)) (s.weightOf (16 * sl + b)).toNat) s

/-- A phase trim in its register. -/
def State.snapPhase (s : State) (i : Nat) : State :=
  (s.setS (CAL.PHASE_TRIM.TRIM i) (Tbl.get 0 s.cal.phase i)).setB (CAL.PHASE_TRIM.SUSP i) (Tbl.get false s.cal.phaseSusp i)

/-- A trunk's trims in their register. -/
def State.snapTrunk (s : State) (g : Nat) : State :=
  (s.setS (CAL.TRUNK_TRIM.DELAY g) (Tbl.get 0 s.cal.trunkDelay g)).setS (CAL.TRUNK_TRIM.GAIN g) (Tbl.get 0 s.cal.trunkGain g)

/-- A slot's offset and gain in their register. -/
def State.snapSlotLevels (s : State) (l : Nat) : State :=
  (s.setS (CAL.SLOT_OG.OFFSET l) (roundDiv (Tbl.get 0 s.cal.slotOffset l) 1024)).setF (CAL.SLOT_OG.GAIN l)
    (min 65535 (roundDiv (Tbl.get 1073741824 s.cal.slotGain l) 32768).toNat)

/-- A slot's bandwidth taps in their registers. -/
def State.snapSlotTaps (s : State) (l : Nat) : State :=
  let s := s.setS (CAL.SLOT_BW0.B0 l) (Tbl.get 0x4000 s.cal.bw0 l)
  (s.setS (CAL.SLOT_BW1.BM1 l) (Tbl.get 0 s.cal.bwM l)).setS (CAL.SLOT_BW1.BP1 l) (Tbl.get 0 s.cal.bwP l)

/-- A slot's values in their registers. -/
def State.snapSlot (s : State) (l : Nat) : State :=
  ((s.snapSlotLevels l).setS (CAL.SLOT_SKEW.SKEW l) (s.skewFs l)).snapSlotTaps l

/-- The values of slices, phases and trunks in their registers. -/
def State.snapUnslotted (s : State) : State :=
  (List.range 4).foldl State.snapTrunk ((List.range 256).foldl State.snapPhase ((List.range 68).foldl State.snapSliceValues s))

theorem State.calSnap_eq (s : State) : s.calSnap = (List.range 64).foldl State.snapSlot s.snapUnslotted := rfl

section
variable (h : onlyBlocks [3] s t)
include h

theorem onlyBlocks.snapSliceValues {sl : Nat} (hsl : sl < 68) : onlyBlocks [3] s (t.snapSliceValues sl) := by
  refine onlyBlocks.foldl (((h.setS ?_).setF ?_).setS ?_) fun u b hb hu => hu.setF ?_
  case refine_4 =>
    have hb14 := List.mem_range.mp hb
    simp only [CAL.SLICE_WEIGHT.WEIGHT, List.mem_singleton]
    omega
  all_goals
    simp only [CAL.SLICE_OG.OFFSET, CAL.SLICE_OG.GAIN, CAL.SLICE_APERTURE.TRIM, List.mem_singleton]
    omega

theorem onlyBlocks.snapPhase {i : Nat} (hi : i < 256) : onlyBlocks [3] s (t.snapPhase i) := by
  refine (h.setS ?_).setB ?_ <;> simp only [CAL.PHASE_TRIM.TRIM, CAL.PHASE_TRIM.SUSP, List.mem_singleton] <;> omega

theorem onlyBlocks.snapTrunk {g : Nat} (hg : g < 4) : onlyBlocks [3] s (t.snapTrunk g) := by
  refine (h.setS ?_).setS ?_ <;> simp only [CAL.TRUNK_TRIM.DELAY, CAL.TRUNK_TRIM.GAIN, List.mem_singleton] <;> omega

theorem onlyBlocks.snapSlot {l : Nat} (hl : l < 64) : onlyBlocks [3] s (t.snapSlot l) := by
  refine (((((h.setS ?_).setF ?_).setS ?_).setS ?_).setS ?_).setS ?_ <;>
    simp only [CAL.SLOT_OG.OFFSET, CAL.SLOT_OG.GAIN, CAL.SLOT_SKEW.SKEW, CAL.SLOT_BW0.B0, CAL.SLOT_BW1.BM1, CAL.SLOT_BW1.BP1,
      List.mem_singleton] <;> omega

end

theorem State.snapUnslotted_only (s : State) : onlyBlocks [3] s s.snapUnslotted :=
  (((onlyBlocks_refl _ s).foldl fun _ _ hsl hu => hu.snapSliceValues (List.mem_range.mp hsl)).foldl fun _ _ hi hu =>
    hu.snapPhase (List.mem_range.mp hi)).foldl fun _ _ hg hu => hu.snapTrunk (List.mem_range.mp hg)

theorem State.snapSlotTaps_skew (s : State) {l m : Nat} (hm : m < 64) :
    (s.snapSlotTaps l).fld (CAL.SLOT_SKEW.SKEW m) = s.fld (CAL.SLOT_SKEW.SKEW m) :=
  (State.fld_setF_ne _ _ _ _ (by simp only [CAL.SLOT_SKEW.SKEW, CAL.SLOT_BW1.BP1]; omega)).trans <|
    (State.fld_setF_ne _ _ _ _ (by simp only [CAL.SLOT_SKEW.SKEW, CAL.SLOT_BW1.BM1]; omega)).trans <|
      State.fld_setF_ne _ _ _ _ (by simp only [CAL.SLOT_SKEW.SKEW, CAL.SLOT_BW0.B0]; omega)

theorem State.snapSlot_skew (s : State) {l : Nat} (hl : l < 64) :
    (s.snapSlot l).fldS (CAL.SLOT_SKEW.SKEW l) = satI (s.skewFs l) (-2048) 2047 :=
  (State.fldS_congr (State.snapSlotTaps_skew _ hl)).trans (State.fldS_setS_level _ rfl _)

theorem State.snapSlot_other (s : State) {l m : Nat} (hl : l < 64) (hm : m < 64) (hlm : l ≠ m) :
    (s.snapSlot l).fldS (CAL.SLOT_SKEW.SKEW m) = s.fldS (CAL.SLOT_SKEW.SKEW m) := by
  refine State.fldS_congr ((State.snapSlotTaps_skew _ hm).trans ?_)
  refine (State.fld_setF_ne _ _ _ _ (by simp only [CAL.SLOT_SKEW.SKEW]; omega)).trans ?_
  refine (State.fld_setF_ne _ _ _ _ (by simp only [CAL.SLOT_SKEW.SKEW, CAL.SLOT_OG.GAIN]; omega)).trans ?_
  exact State.fld_setF_ne _ _ _ _ (by simp only [CAL.SLOT_SKEW.SKEW, CAL.SLOT_OG.OFFSET]; omega)

theorem calSnap_shows (hs : s.served 0x30008 = true) : ∃ t, exec .calSnap s = .next t ∧ onlyBlock 3 s t ∧
    ∀ l < 64, t.fldS (CAL.SLOT_SKEW.SKEW l) = satI (s.skewFs l) (-2048) 2047 := by
  have hstart := s.snapUnslotted_only
  refine ⟨s.calSnap, congrArg Host.Outcome.next (if_pos hs), ?_, fun l hl => ?_⟩ <;> rw [State.calSnap_eq]
  · exact (hstart.foldl fun u l hl hu => hu.snapSlot (List.mem_range.mp hl)).single
  · refine foldl_establishes (P := fun l t => t.fldS (CAL.SLOT_SKEW.SKEW l) = satI (s.skewFs l) (-2048) 2047) (onlyBlocks [3] s) _
      (fun u l hl hu => hu.snapSlot (List.mem_range.mp hl)) (fun u l hl hu => ?_) (fun u i j hi hj hij hu => ?_) _ hstart l
      (List.mem_range.mpr hl)
    · rw [u.snapSlot_skew (List.mem_range.mp hl), State.skewFs, State.skewFs, hu.cal_eq]
    · rw [State.snapSlot_other u (List.mem_range.mp hi) (List.mem_range.mp hj) hij, hu]

/-! ### The books of triggers and folios (R170) -/

/-- The high half of a count fits its register. -/
theorem tick_high_lt (x : Tick) : x.toNat / 2 ^ 32 < 2 ^ 16 := by
  have hlt := x.isLt
  omega

theorem State.snapBooks_only (s : State) : onlyBlocks [5] s s.snapBooks := by
  have htrig : onlyBlocks [5] s ((List.range 8).foldl (fun x k => (List.range 6).foldl (fun y i =>
      (y.setF (ACQ.TBOOK_LO.COUNT k i) (s.tbook k i)).setF (ACQ.TBOOK_HI.COUNT k i) (s.tbook k i / 2 ^ 32)) x) s) := by
    refine (onlyBlocks_refl _ s).foldl fun u k hk hu => hu.foldl fun u i hi hu => (hu.setF ?_).setF ?_
    all_goals
      have hk8 := List.mem_range.mp hk
      have hi6 := List.mem_range.mp hi
      simp only [ACQ.TBOOK_LO.COUNT, ACQ.TBOOK_HI.COUNT, List.mem_singleton]
      omega
  refine ((htrig.foldl fun u p hp hu => hu.foldl fun u i hi hu => hu.setF ?_).setF (by decide)).setF (by decide)
  have hp64 := List.mem_range.mp hp
  have hi8 := List.mem_range.mp hi
  simp only [ACQ.FBOOK.COUNT, List.mem_singleton]
  omega

theorem State.snapBooks_tick (s : State) : s.snapBooks.fld ACQ.SNAP_TICK_LO.TICK = s.tick.toNat % 2 ^ 32 ∧
    s.snapBooks.fld ACQ.SNAP_TICK_HI.TICK = s.tick.toNat / 2 ^ 32 := by
  unfold State.snapBooks
  refine ⟨?_, ?_⟩
  · rw [State.fld_setF_ne _ _ _ _ (by decide), State.fld_setF_same]
    rfl
  · rw [State.fld_setF_same]
    exact Nat.mod_eq_of_lt (tick_high_lt s.tick)

/-- A snapshot taken at cycle `c` waits for what is in transit. -/
def State.openAt (s : State) (c : Nat) : State := { s.setF ACQ.CMD.SNAP 1 with acq := { s.acq with snapAt := some c } }

/-- The books copied, with what is in transit still to be added. -/
def State.openSnap (s : State) : State := s.snapBooks.openAt s.now

/-- A snapshot from which nothing is missing. -/
def State.completeSnap (s : State) : State := { s.setF ACQ.CMD.SNAP 0 with acq := { s.acq with snapAt := none } }

theorem State.closeSnap_openSnap (s : State) : s.openSnap.closeSnap = s.openSnap ∨ s.openSnap.closeSnap = s.openSnap.completeSnap := by
  have hclose : s.openSnap.closeSnap = if s.openSnap.snapDone s.now then s.openSnap.completeSnap else s.openSnap := rfl
  rw [hclose]
  split
  · exact .inr rfl
  · exact .inl rfl

/-- What a snapshot of the books leaves, open or complete. -/
def booksSnapped (s t : State) : Prop :=
  onlyBlock 5 s { t with acq := s.acq } ∧ (t.bit ACQ.CMD.SNAP = true ↔ t.acq.snapAt = some s.now) ∧
    { t.acq with snapAt := s.acq.snapAt } = s.acq ∧ t.fld ACQ.SNAP_TICK_LO.TICK = s.tick.toNat % 2 ^ 32 ∧
    t.fld ACQ.SNAP_TICK_HI.TICK = s.tick.toNat / 2 ^ 32

theorem State.openAt_fld (s : State) (c : Nat) {f : Fld} (hf : f.addr ≠ ACQ.CMD.SNAP.addr) : (s.openAt c).fld f = s.fld f :=
  State.fld_setF_ne s ACQ.CMD.SNAP f 1 hf

theorem State.openAt_snap (s : State) (c : Nat) : (s.openAt c).bit ACQ.CMD.SNAP = true := by
  have hfld : (s.openAt c).fld ACQ.CMD.SNAP = 1 := State.fld_setF_same s ACQ.CMD.SNAP 1
  rw [State.bit, hfld]
  rfl

theorem onlyBlocks.openAt (h : onlyBlocks [5] s t) (c : Nat) :
    onlyBlock 5 s { t.openAt c with acq := s.acq } ∧ { (t.openAt c).acq with snapAt := s.acq.snapAt } = s.acq := by
  obtain ⟨hfld, hrest⟩ := (h.setF (f := ACQ.CMD.SNAP) (v := 1) (by decide)).single
  exact ⟨⟨hfld, (congrArg (fun u : State => { u with acq := s.acq }) hrest : _)⟩,
    (congrArg (fun a : AcqSt => { a with snapAt := s.acq.snapAt }) h.acq_eq : _)⟩

theorem State.openSnap_snapped (s : State) : booksSnapped s s.openSnap := by
  obtain ⟨hlo, hhi⟩ := s.snapBooks_tick
  obtain ⟨honly, hacq⟩ := s.snapBooks_only.openAt s.now
  exact ⟨honly, iff_of_true (State.openAt_snap _ _) rfl, hacq, (State.openAt_fld _ _ (by decide)).trans hlo,
    (State.openAt_fld _ _ (by decide)).trans hhi⟩

theorem booksSnapped.complete (h : booksSnapped s t) : booksSnapped s t.completeSnap := by
  obtain ⟨⟨hfld, hrest⟩, -, hacq, hlo, hhi⟩ := h
  have hkeep : ∀ g : Fld, g.addr ≠ ACQ.CMD.SNAP.addr → t.completeSnap.fld g = t.fld g := fun g hg => State.fld_setF_ne t _ g 0 hg
  have hzero : t.completeSnap.fld ACQ.CMD.SNAP = 0 := State.fld_setF_same t ACQ.CMD.SNAP 0
  have hbit : t.completeSnap.bit ACQ.CMD.SNAP = false := by
    rw [State.bit, hzero]
    rfl
  refine ⟨⟨fun g hg => ?_, hrest⟩, ?_, hacq, (hkeep _ (by decide)).trans hlo, (hkeep _ (by decide)).trans hhi⟩
  · refine (hkeep g fun e => hg ?_).trans (hfld g hg)
    rw [e]
    decide
  · rw [hbit]
    exact iff_of_false (by decide) (by simp [State.completeSnap])

theorem bookSnap_shows (hs : s.served 0x50000 = true) : ∃ t, exec .bookSnap s = .next t ∧ booksSnapped s t := by
  refine ⟨s.openSnap.closeSnap, congrArg Host.Outcome.next (if_pos hs), ?_⟩
  rcases s.closeSnap_openSnap with h | h <;> rw [h]
  · exact s.openSnap_snapped
  · exact s.openSnap_snapped.complete

/-! ### The books of the queues (R298) -/

/-- The books of a queue in their registers. -/
def State.snapQueue (s : State) (q : Nat) : State :=
  (List.range 8).foldl (fun (t : State) i => t.setF (RDO.Q_BOOK.COUNT q i) ((s.queue q).books.getD i 0)) s

/-- The books of all queues in their registers. -/
def State.snapQueues (s : State) : State := (List.range 512).foldl State.snapQueue s

theorem qBook_block {q i : Nat} (hq : q < 512) (hi : i < 8) : (RDO.Q_BOOK.COUNT q i).addr / 524288 ∈ [10, 11] := by
  have h11 : (RDO.Q_BOOK.COUNT q i).addr / 524288 = 11 := by
    simp only [RDO.Q_BOOK.COUNT]
    omega
  rw [h11]
  decide

theorem onlyBlocks.snapQueue (h : onlyBlocks [10, 11] s t) {q : Nat} (hq : q < 512) : onlyBlocks [10, 11] s (t.snapQueue q) :=
  h.foldl fun _ _ hi hu => hu.setF (qBook_block hq (List.mem_range.mp hi))

theorem State.snapQueue_books (s : State) (q : Nat) : ∀ i ∈ List.range 8,
    (s.snapQueue q).fld (RDO.Q_BOOK.COUNT q i) = (s.queue q).books.getD i 0 % 2 ^ (RDO.Q_BOOK.COUNT q i).width :=
  foldl_establishes (P := fun i t => t.fld (RDO.Q_BOOK.COUNT q i) = (s.queue q).books.getD i 0 % 2 ^ (RDO.Q_BOOK.COUNT q i).width)
    (fun _ => True) _ (fun _ _ _ _ => trivial) (fun _ _ _ _ => State.fld_setF_same _ _ _)
    (fun _ _ _ _ _ hij hj => (State.fld_setF_ne _ _ _ _ (by simp only [RDO.Q_BOOK.COUNT]; omega)).trans hj) s trivial

/-- The books of one queue leave those of the others. -/
theorem State.snapQueue_other (s : State) {p q i : Nat} (hi : i < 8) (hpq : p ≠ q) :
    (s.snapQueue p).fld (RDO.Q_BOOK.COUNT q i) = s.fld (RDO.Q_BOOK.COUNT q i) :=
  List.foldlRecOn (motive := fun t : State => t.fld (RDO.Q_BOOK.COUNT q i) = s.fld (RDO.Q_BOOK.COUNT q i)) _ _ rfl fun t ht j hj => by
    have hj8 := List.mem_range.mp hj
    rw [State.fld_setF_ne _ _ _ _ (by simp only [RDO.Q_BOOK.COUNT]; omega), ht]

theorem State.snapQueues_only (s : State) : onlyBlocks [10, 11] s s.snapQueues :=
  (onlyBlocks_refl _ s).foldl fun _ _ hq hu => hu.snapQueue (List.mem_range.mp hq)

theorem State.snapQueues_books (s : State) : ∀ q ∈ List.range 512, ∀ i < 8,
    s.snapQueues.fld (RDO.Q_BOOK.COUNT q i) = (s.queue q).books.getD i 0 % 2 ^ (RDO.Q_BOOK.COUNT q i).width := by
  refine foldl_establishes (P := fun q t => ∀ i < 8, t.fld (RDO.Q_BOOK.COUNT q i) =
    (s.queue q).books.getD i 0 % 2 ^ (RDO.Q_BOOK.COUNT q i).width) (onlyBlocks [10, 11] s) _
    (fun u q hq hu => hu.snapQueue (List.mem_range.mp hq)) (fun u q _ hu i hi => ?_) (fun u p q _ _ hpq hu i hi => ?_) s (onlyBlocks_refl _ s)
  · have hqueue : u.queue q = s.queue q := by rw [State.queue, State.queue, hu.rdo_eq]
    rw [u.snapQueue_books q i (List.mem_range.mpr hi), hqueue]
  · rw [State.snapQueue_other u hi hpq, hu i hi]

theorem rdoSnap_shows (hs : s.served 0xA0000 = true) : ∃ t, exec .rdoSnap s = .next t ∧
    (∀ g : Fld, g.addr / 524288 ≠ 10 → g.addr / 524288 ≠ 11 → t.fld g = s.fld g) ∧ { t with regs := s.regs } = s ∧
    t.fld RDO.SNAP_TICK_LO.TICK = s.tick.toNat % 2 ^ 32 ∧
    ∀ q < 512, ∀ i < 8, t.fld (RDO.Q_BOOK.COUNT q i) = (s.queue q).books.getD i 0 % 2 ^ (RDO.Q_BOOK.COUNT q i).width := by
  have htick : s.snapQueues.tick = s.tick := s.snapQueues_only.tick_eq
  obtain ⟨hfld, hrest⟩ := (s.snapQueues_only.setF (f := RDO.SNAP_TICK_LO.TICK) (v := s.snapQueues.tick.toNat) (by decide)).setF
    (f := RDO.SNAP_TICK_HI.TICK) (v := s.snapQueues.tick.toNat / 2 ^ 32) (by decide)
  refine ⟨(s.snapQueues.setF RDO.SNAP_TICK_LO.TICK s.snapQueues.tick.toNat).setF RDO.SNAP_TICK_HI.TICK (s.snapQueues.tick.toNat / 2 ^ 32),
    congrArg Host.Outcome.next (if_pos hs), fun g h10 h11 => hfld g (by simp [h10, h11]), hrest, ?_, fun q hq i hi => ?_⟩
  · refine (State.fld_setF_ne _ _ _ _ (by decide)).trans ((State.fld_setF_same s.snapQueues _ _).trans ?_)
    rw [htick]
    rfl
  · refine (State.fld_setF_ne _ _ _ _ (by simp only [RDO.Q_BOOK.COUNT, RDO.SNAP_TICK_HI.TICK]; omega)).trans ?_
    refine (State.fld_setF_ne s.snapQueues _ _ _ (by simp only [RDO.Q_BOOK.COUNT, RDO.SNAP_TICK_LO.TICK]; omega)).trans ?_
    exact s.snapQueues_books q (List.mem_range.mpr hq) i hi

/-! ### The sequencers (R338) -/

/-- A sequencer's state in its register. -/
def State.snapUnit (s : State) (u : Nat) : State :=
  let x := s.sunit u
  let s := (s.setF (SEQ.UNIT_STATE.STATE u) x.st).setF (SEQ.UNIT_STATE.LANE u) x.lane
  let s := (s.setF (SEQ.UNIT_STATE.DEPTH u) x.stack.length).setB (SEQ.UNIT_STATE.IN_HANDLER u) (x.handler != 0)
  s.setF (SEQ.UNIT_STATE.LAST_SRC u) (x.last.getD 0)

theorem State.seqSnap_eq (s : State) : s.seqSnap = (List.range 69).foldl State.snapUnit s := rfl

theorem onlyBlocks.snapUnit (h : onlyBlocks [13] s t) {u : Nat} (hu : u < 69) : onlyBlocks [13] s (t.snapUnit u) := by
  refine ((((h.setF ?_).setF ?_).setF ?_).setB ?_).setF ?_ <;>
    simp only [SEQ.UNIT_STATE.STATE, SEQ.UNIT_STATE.LANE, SEQ.UNIT_STATE.DEPTH, SEQ.UNIT_STATE.IN_HANDLER, SEQ.UNIT_STATE.LAST_SRC,
      List.mem_singleton] <;> omega

/-- A sequencer's registers show its state and the depth of its stack. -/
def showsUnit (u : Nat) (x : SeqUnit) (t : State) : Prop :=
  t.fld (SEQ.UNIT_STATE.STATE u) = x.st % 2 ^ (SEQ.UNIT_STATE.STATE u).width ∧
    t.fld (SEQ.UNIT_STATE.DEPTH u) = x.stack.length % 2 ^ (SEQ.UNIT_STATE.DEPTH u).width

theorem State.snapUnit_shows (s : State) (u : Nat) : showsUnit u (s.sunit u) (s.snapUnit u) := by
  unfold State.snapUnit
  refine ⟨?_, ?_⟩ <;> dsimp only
  · rw [State.fld_setF_ne _ _ _ _ (by simp only [SEQ.UNIT_STATE.STATE, SEQ.UNIT_STATE.LAST_SRC]; omega),
      State.fld_setB_ne _ _ _ _ (by simp only [SEQ.UNIT_STATE.STATE, SEQ.UNIT_STATE.IN_HANDLER]; omega),
      State.fld_setF_ne _ _ _ _ (by simp only [SEQ.UNIT_STATE.STATE, SEQ.UNIT_STATE.DEPTH]; omega),
      State.fld_setF_ne _ _ _ _ (by simp only [SEQ.UNIT_STATE.STATE, SEQ.UNIT_STATE.LANE]; omega), State.fld_setF_same]
  · rw [State.fld_setF_ne _ _ _ _ (by simp only [SEQ.UNIT_STATE.DEPTH, SEQ.UNIT_STATE.LAST_SRC]; omega),
      State.fld_setB_ne _ _ _ _ (by simp only [SEQ.UNIT_STATE.DEPTH, SEQ.UNIT_STATE.IN_HANDLER]; omega), State.fld_setF_same]

/-- A sequencer's entry leaves the fields outside its own register. -/
theorem State.snapUnit_fld (s : State) {u : Nat} {f : Fld} (hf : f.addr < 8 * (0xD1000 + 16 * u) ∨ 8 * (0xD1000 + 16 * u) + 32 ≤ f.addr) :
    (s.snapUnit u).fld f = s.fld f := by
  have hout : ∀ d < 32, f.addr ≠ 8 * (0xD1000 + 16 * u) + d := fun d hd => by omega
  exact (State.fld_setF_ne _ _ _ _ (hout 21 (by decide))).trans <| (State.fld_setF_ne _ _ _ _ (hout 20 (by decide))).trans <|
    (State.fld_setF_ne _ _ _ _ (hout 16 (by decide))).trans <| (State.fld_setF_ne _ _ _ _ (hout 8 (by decide))).trans <|
      State.fld_setF_ne _ _ _ _ (hout 0 (by decide))

theorem seqSnap_shows (hs : s.served 0xD0010 = true) : ∃ t, exec .seqSnap s = .next t ∧ onlyBlock 13 s t ∧
    ∀ u < 69, showsUnit u (s.sunit u) t := by
  refine ⟨s.seqSnap, congrArg Host.Outcome.next (if_pos hs), ?_, fun u hu => ?_⟩ <;> rw [State.seqSnap_eq]
  · exact ((onlyBlocks_refl _ s).foldl fun t u hu ht => ht.snapUnit (List.mem_range.mp hu)).single
  · refine foldl_establishes (P := fun u t => showsUnit u (s.sunit u) t) (onlyBlocks [13] s) _
      (fun t u hu ht => ht.snapUnit (List.mem_range.mp hu)) (fun t u _ ht => ?_) (fun t i j _ _ hij hj => ?_) s (onlyBlocks_refl _ s) u
      (List.mem_range.mpr hu)
    · have hunit : t.sunit u = s.sunit u := by rw [State.sunit, State.sunit, ht.seq_eq]
      rw [← hunit]
      exact t.snapUnit_shows u
    · refine ⟨(State.snapUnit_fld _ ?_).trans hj.1, (State.snapUnit_fld _ ?_).trans hj.2⟩ <;>
        simp only [SEQ.UNIT_STATE.STATE, SEQ.UNIT_STATE.DEPTH] <;> omega

end

/-- Settles O19: each clear by its list of counters, each snapshot by the registers it writes. -/
theorem clearsAndSnapshotsActOnTheirRegisters : Obligations.ClearsAndSnapshotsActOnTheirRegisters :=
  ⟨fun s => ⟨timeClrCounts_clears s, cnvClrCounts_clears s, calClrCounts_clears s, trgClrCounts_clears s, codClrCounts_clears s,
      accClrCounts_clears s, ensClrCounts_clears s, memClrCounts_clears s, rdoClrCounts_clears s, dspClrCounts_clears s,
      seqClrCounts_clears s, mgtClrCounts_clears s, bstClrCounts_clears s, evtClrCounts_clears s⟩,
    fun _ => ⟨timeSnap_shows, State.stamp_now, cnvSnapMap_shows, calSnap_shows, bookSnap_shows, rdoSnap_shows, seqSnap_shows⟩⟩

end Sys2Proof.Machine
end

section
/-!
SUPPORT. The judging of triggers (R127, R132): why an accepted trigger need not add one to the count of qualified triggers. Under
STOP_WHEN_FULL the trigger that takes the last set disarms its slot (R154), and a call delivered in the cycle of the disarm instant then is
not qualified after all (R126): the same cycle takes one back from that count.
-/

namespace Sys2Proof.Machine

/-- A plan with one channel and one set, under STOP_WHEN_FULL, whose slots receive calls. -/
def stopPlan : Plan :=
  { num := 1, autostart := false, ring := false, callRx := true, callTx := false, deficit := false, prio := 0, sets := 1, f := 4
    deadline := 0, ringBase := 0, catBase := 64, rmax := 0, hold := 0, termSel := 1, holdTicks := 0, holdSamples := 0, holdCount := 0
    holdMax := 0, accEn := false, accDram := false, accSplit := false, accAlign := false, qmask := 0, accPre := 0, accL := 8, target := 0
    accBase := 0
    chans := [{ ch := 0, p := 64, q := 64, h := 0, dm1 := 0, phi := 0, g := 2112, gMin := 2112, gMax := 6208, dMin := 0, dMax := 15 }] }

/-- It is armed in a slot, with its set reserved. -/
def armedSlot : Slot := { plan := 1, order := 0, armed := true, gen := 1, unbound := [(0, 1)] }

/-- Slot 0 is armed, and the set's folio is FILLING. -/
def lastSetLeft : State :=
  { regs := [(MEM.MAPG.MAPG.addr, 256), (MEM.STATUS.IN_SERVICE.addr, 8), (DEV.MODE.MODE.addr, modeAcquire)]
    tick := 1, now := 10
    mem := { ways := [3], bytes := [(2 ^ 40 * 3 + stopPlan.entryAddr 0 + 12, folioFilling)] }
    acq := { lib := [(1, some stopPlan)], slots := [(0, some armedSlot)], ring := [(1, 1)] } }

/-- A call has been delivered in the present cycle. -/
def callHeld : State := lastSetLeft.deliverCall { src := 1, seq := 0, trick := 0, tick := 0, frac := 0, quality := 0 } none

/-- A term's trigger half a tick before it. -/
def midTickTrigger : Asked :=
  { t := 5 * finePerNs, tick := 0, frac := 2 ^ 23, quality := 4, origin := 0, term := 0, trick := none }

theorem callHeld_slot : callHeld.slotOf? 0 = some armedSlot ∧ callHeld.slotPlan 0 = some stopPlan := by decide

/-- No step of Table 05-6 before the last applies to the trigger. -/
theorem callHeld_accepts : callHeld.holding 0 armedSlot midTickTrigger = false ∧ callHeld.canTake armedSlot stopPlan = true := by decide

/-- The call counts as qualified, and the slot has no set to reserve after this one. -/
theorem callHeld_qualified : callHeld.tbook 0 0 = 1 ∧ callHeld.reservable stopPlan = none := by decide

/-- The trigger is accepted and the slot disarms: the trigger counts as qualified, the call no longer. -/
theorem callHeld_judged : (callHeld.judgeTrig 0 midTickTrigger).2.tbook 0 0 = 1 ∧
    (callHeld.judgeTrig 0 midTickTrigger).2.tbook 0 1 = 1 := by decide

/-- Refutes O22: an accepted trigger that takes the last set under STOP_WHEN_FULL disarms its slot, and a call delivered in that cycle leaves
the count of qualified triggers, which so stands as it stood. -/
theorem not_triggerTakesTheFirstStepThatApplies : ¬ Obligations.TriggerTakesTheFirstStepThatApplies := by
  intro h
  obtain ⟨hslot, hplan⟩ := callHeld_slot
  obtain ⟨hfree, htake⟩ := callHeld_accepts
  obtain ⟨-, -, hsteps⟩ := (h callHeld 0 armedSlot stopPlan midTickTrigger hslot hplan).1 (fun _ hl => nomatch hl)
  obtain ⟨-, -, haccept⟩ := hsteps hfree (fun _ hl => nomatch hl)
  obtain ⟨hqualified, -⟩ := haccept rfl htake
  rw [callHeld_judged.1, callHeld_qualified.1] at hqualified
  exact absurd hqualified (by decide)

end Sys2Proof.Machine
end

section
/-!
SUPPORT. The TRIG_IN and TRIG_OUT pins, stuck sources, the holdoff's end, the lost-trigger list and the force (R111, R128, R133, R137 to
R140), and the obligation about them.
-/

namespace Sys2Proof.Machine

/-! ### Counts by more than one -/

theorem State.bumpF_countedBy (s : State) (f : Fld) (n : Nat) : countedBy n f s (s.bumpF f n) := State.fld_bumpF_same s f n

/-- A count seen from a state that holds the counter as the one before it, to one that holds it as the one after it. -/
theorem countedBy.of_same {n : Nat} {f : Fld} {s u v t : State} (h : countedBy n f u v) (hu : u.fld f = s.fld f)
    (hc : u.justCleared f = s.justCleared f) (hv : t.fld f = v.fld f) : countedBy n f s t := by
  unfold countedBy at h ⊢
  rw [hv, h, hu, hc]

/-! ### TRIG_IN pins (R138) -/

section
variable {s : State} {i ago n : Nat}

theorem State.pin_setPin (s : State) (i : Nat) (p : Pin) : (s.setPin i p).pin i = p := Tbl.get_set_same ({} : Pin) s.trg.pins i p

/-- The filtered level of a pin is `b`, which ends its being stuck. -/
def State.showLevel (s : State) (i b : Nat) : State := (s.setF (TRG.PIN_STATUS.LEVEL i) b).setF (TRG.PIN_STATUS.STUCK i) 0

theorem pinLevel_lt_stuck (i : Nat) : (TRG.PIN_STATUS.LEVEL i).addr < (TRG.PIN_STATUS.STUCK i).addr := Nat.lt_succ_self _

theorem State.showLevel_level (s : State) (i : Nat) {b : Nat} (hb : b < 2) : (s.showLevel i b).fld (TRG.PIN_STATUS.LEVEL i) = b :=
  (State.fld_setF_ne _ _ _ _ (pinLevel_lt_stuck i).ne).trans ((State.fld_setF_same _ _ _).trans (Nat.mod_eq_of_lt hb))

theorem State.showLevel_stuck (s : State) (i b : Nat) : (s.showLevel i b).fld (TRG.PIN_STATUS.STUCK i) = 0 := State.fld_setF_same _ _ _

/-- The level of a pin leaves its counters. -/
theorem State.showLevel_fld (s : State) {b : Nat} {f : Fld} (hf : (TRG.PIN_STATUS.STUCK i).addr < f.addr) :
    (s.showLevel i b).fld f = s.fld f :=
  (State.fld_setF_ne _ _ _ _ hf.ne').trans (State.fld_setF_ne _ _ _ _ ((pinLevel_lt_stuck i).trans hf).ne')

theorem onlyRegs.showLevel {A : List Nat} {t : State} {b : Nat} (h : onlyRegs A s t) (hl : (TRG.PIN_STATUS.LEVEL i).addr ∈ A)
    (hs : (TRG.PIN_STATUS.STUCK i).addr ∈ A) : onlyRegs A s (t.showLevel i b) := (h.setF hl).setF hs

/-- A pin whose activation, which began `ago` samples back, is confirmed. -/
def State.risenPin (s : State) (i ago : Nat) : Pin :=
  { s.pin i with level := true, runs := ((s.pinNow - ago, none) :: (s.pin i).runs).take 64, changeAt := s.now }

/-- A pin's activation is confirmed after `n` glitches. -/
def State.raisePin (s : State) (i ago n : Nat) : State :=
  (((s.setPin i (s.risenPin i ago)).showLevel i 1).bumpF (TRG.PIN_COUNT.EDGES i) 1).bumpF (TRG.PIN_FILTER.GLITCH i) n

/-- A pin whose run has ended `ago` samples back. -/
def State.fallenPin (s : State) (i ago : Nat) : Pin :=
  { s.pin i with
    level := false
    runs := match (s.pin i).runs with
      | (a, none) :: rest => (a, some (max a (s.pinNow - ago))) :: rest
      | l => l
    changeAt := s.now }

/-- A pin's run has ended, `n` gaps having been bridged in it. -/
def State.lowerPin (s : State) (i ago n : Nat) : State :=
  ((s.setPin i (s.fallenPin i ago)).showLevel i 0).bumpF (TRG.PIN_FILTER.COALESCED i) n

theorem State.raisePin_shows (s : State) (i ago n : Nat) : ((s.raisePin i ago n).pin i).level = true ∧
    ((s.raisePin i ago n).pin i).runs.head? = some (16 * s.now - ago, none) ∧ (s.raisePin i ago n).fld (TRG.PIN_STATUS.LEVEL i) = 1 ∧
    (s.raisePin i ago n).fld (TRG.PIN_STATUS.STUCK i) = 0 ∧ counted (TRG.PIN_COUNT.EDGES i) s (s.raisePin i ago n) ∧
    countedBy n (TRG.PIN_FILTER.GLITCH i) s (s.raisePin i ago n) ∧
    onlyRegs [(TRG.PIN_STATUS.LEVEL i).addr, (TRG.PIN_STATUS.STUCK i).addr, (TRG.PIN_COUNT.EDGES i).addr, (TRG.PIN_FILTER.GLITCH i).addr]
      s { s.raisePin i ago n with trg := s.trg } := by
  have hpin : (s.raisePin i ago n).pin i = s.risenPin i ago := s.pin_setPin i _
  have hedges : (TRG.PIN_STATUS.STUCK i).addr < (TRG.PIN_COUNT.EDGES i).addr := by
    simp only [TRG.PIN_STATUS.STUCK, TRG.PIN_COUNT.EDGES]
    omega
  have hglitch : (TRG.PIN_COUNT.EDGES i).addr < (TRG.PIN_FILTER.GLITCH i).addr := by
    simp only [TRG.PIN_COUNT.EDGES, TRG.PIN_FILTER.GLITCH]
    omega
  have hkeep : ∀ f : Fld, f.addr < (TRG.PIN_COUNT.EDGES i).addr →
      (s.raisePin i ago n).fld f = ((s.setPin i (s.risenPin i ago)).showLevel i 1).fld f := fun f hf =>
    (State.fld_bumpF_ne _ _ _ _ (hf.trans hglitch).ne).trans (State.fld_bumpF_ne _ _ _ _ hf.ne)
  rw [hpin]
  refine ⟨rfl, rfl, (hkeep _ ((pinLevel_lt_stuck i).trans hedges)).trans (State.showLevel_level _ i (by decide)),
    (hkeep _ hedges).trans (State.showLevel_stuck _ i 1), ?_, ?_, ?_⟩
  · exact (State.bumpF_countedBy _ _ 1).of_same (State.showLevel_fld _ hedges) rfl (State.fld_bumpF_ne _ _ _ _ hglitch.ne)
  · exact (State.bumpF_countedBy _ _ n).of_same
      ((State.fld_bumpF_ne _ _ _ _ hglitch.ne').trans (State.showLevel_fld _ (hedges.trans hglitch))) rfl rfl
  · exact (((onlyRegs_refl _ s).showLevel (b := 1) (by simp) (by simp)).bumpF (f := TRG.PIN_COUNT.EDGES i) (n := 1) (by simp)).bumpF
      (f := TRG.PIN_FILTER.GLITCH i) (n := n) (by simp)

theorem State.lowerPin_shows (s : State) (i ago n : Nat) : ((s.lowerPin i ago n).pin i).level = false ∧
    (s.lowerPin i ago n).fld (TRG.PIN_STATUS.LEVEL i) = 0 ∧ (s.lowerPin i ago n).fld (TRG.PIN_STATUS.STUCK i) = 0 ∧
    countedBy n (TRG.PIN_FILTER.COALESCED i) s (s.lowerPin i ago n) ∧
    onlyRegs [(TRG.PIN_STATUS.LEVEL i).addr, (TRG.PIN_STATUS.STUCK i).addr, (TRG.PIN_FILTER.COALESCED i).addr] s
      { s.lowerPin i ago n with trg := s.trg } := by
  have hpin : (s.lowerPin i ago n).pin i = s.fallenPin i ago := s.pin_setPin i _
  have hgaps : (TRG.PIN_STATUS.STUCK i).addr < (TRG.PIN_FILTER.COALESCED i).addr := by
    simp only [TRG.PIN_STATUS.STUCK, TRG.PIN_FILTER.COALESCED]
    omega
  rw [hpin]
  refine ⟨rfl, ?_, (State.fld_bumpF_ne _ _ _ _ hgaps.ne).trans (State.showLevel_stuck _ i 0),
    (State.bumpF_countedBy _ _ n).of_same (State.showLevel_fld _ hgaps) rfl rfl, ?_⟩
  · exact (State.fld_bumpF_ne _ _ _ _ ((pinLevel_lt_stuck i).trans hgaps).ne).trans (State.showLevel_level _ i (by decide))
  · exact ((onlyRegs_refl _ s).showLevel (b := 0) (by simp) (by simp)).bumpF (f := TRG.PIN_FILTER.COALESCED i) (n := n) (by simp)

section
variable (hr : s.running = true) (hi : i < 4) (hu : s.bit (TRG.PIN_CFG.IN_USE i) = true)
include hr hi hu

theorem trigInActivation_confirms (hl : (s.pin i).level = false) (hago : 4 ≤ ago) (hpast : ago ≤ 16 * s.now) :
    exec (.trigInActivation i ago n) s = .next (s.raisePin i ago n) :=
  congrArg Host.Outcome.next ((if_neg (by simp; omega)).trans (if_pos (by simp [hr, hi, hu, hl, hago, hpast, State.pinNow])))

theorem trigInActivation_counts (hl : (s.pin i).level = false) :
    exec (.trigInActivation i 0 n) s = .next (s.bumpF (TRG.PIN_FILTER.GLITCH i) n) :=
  congrArg Host.Outcome.next (if_pos (by simp [hr, hi, hu, hl]))

theorem trigInDeactivation_ends (hl : (s.pin i).level = true) (hago : 4 ≤ ago) (hpast : ago ≤ 16 * s.now) :
    exec (.trigInDeactivation i ago n) s = .next (s.lowerPin i ago n) :=
  congrArg Host.Outcome.next ((if_neg (by simp; omega)).trans (if_pos (by simp [hr, hi, hu, hl, hago, hpast, State.pinNow])))

theorem trigInDeactivation_counts (hl : (s.pin i).level = true) :
    exec (.trigInDeactivation i 0 n) s = .next (s.bumpF (TRG.PIN_FILTER.COALESCED i) n) :=
  congrArg Host.Outcome.next (if_pos (by simp [hr, hi, hu, hl]))

end

/-! ### Stuck sources (R111, R138) -/

/-- A flag set with a notice stays set, and the notice is all that comes with it. -/
theorem onlyReports.of_flag {f : Fld} {t : State} (hw : f.width = 1) (hf : isReport f = false) (h : onlyReports [] (s.setF f 1) t) :
    t.bit f = true ∧ onlyReports [f.addr] s t := by
  refine ⟨?_, onlyReports_trans (onlyReports_setF _ s f 1 (.inr (List.mem_singleton_self _))) (onlyReports_weaken h (by simp))⟩
  rw [State.bit, h.1 f List.not_mem_nil hf, State.fld_setF_same, hw]
  rfl

theorem pinStuck_idle (h : s.bit (TRG.PIN_STATUS.STUCK i) = true) : exec (.pinStuck i) s = .next s :=
  congrArg Host.Outcome.next (if_neg (by simp [h]))

theorem detectorStuck_idle (h : s.bit (TRG.DET_STATUS.STUCK i) = true) : exec (.detectorStuck i) s = .next s :=
  congrArg Host.Outcome.next (if_neg (by simp [h]))

theorem pinStuck_notices (hr : s.running = true) (hi : i < 4) (hu : s.bit (TRG.PIN_CFG.IN_USE i) = true)
    (htime : s.fld (TRG.PIN_STUCK.TIME i) ≠ 0) (hnot : s.bit (TRG.PIN_STATUS.STUCK i) = false)
    (hlong : (s.pin i).changeAt + 10 * s.fld (TRG.PIN_STUCK.TIME i) ≤ s.now) :
    ∃ t, exec (.pinStuck i) s = .next t ∧ t.bit (TRG.PIN_STATUS.STUCK i) = true ∧ reported 8 0 i 0 t ∧
      onlyReports [(TRG.PIN_STATUS.STUCK i).addr] s t ∧ exec (.pinStuck i) t = .next t := by
  have hf : isReport (TRG.PIN_STATUS.STUCK i) = false := isReport_below (by simp only [TRG.PIN_STATUS.STUCK]; omega)
  obtain ⟨hbit, honly⟩ := onlyReports.of_flag rfl hf (State.raise_only [] (s.setF (TRG.PIN_STATUS.STUCK i) 1) 8 0 i 0 0 (by decide))
  exact ⟨_, congrArg Host.Outcome.next (if_pos (by simp [hr, hi, hu, htime, hnot, hlong])), hbit,
    State.raise_reported _ _ _ _ _ _ (by decide) (by decide) (by decide) (by omega) (by decide), honly, pinStuck_idle hbit⟩

theorem detectorStuck_notices (hr : s.running = true) (hi : i < 128) (hch : s.chanExists (i / 2) = true)
    (htype : s.fld (TRG.DET_MODE.TYPE i) ≠ 0) (htime : s.fld (TRG.DET_STUCK.TIME i) ≠ 0)
    (hnot : s.bit (TRG.DET_STATUS.STUCK i) = false) (hlong : (s.det i).changeAt + 10 * s.fld (TRG.DET_STUCK.TIME i) ≤ s.now) :
    ∃ t, exec (.detectorStuck i) s = .next t ∧ t.bit (TRG.DET_STATUS.STUCK i) = true ∧ detTold s i 0 t ∧
      onlyReports [(TRG.DET_STATUS.STUCK i).addr] s t ∧ exec (.detectorStuck i) t = .next t := by
  have hf : isReport (TRG.DET_STATUS.STUCK i) = false := isReport_below (by simp only [TRG.DET_STATUS.STUCK]; omega)
  obtain ⟨htold, hnotice⟩ := (s.setF (TRG.DET_STATUS.STUCK i) 1).detNotice_told (kind := 0) hi (by decide)
  obtain ⟨hbit, honly⟩ := onlyReports.of_flag rfl hf hnotice
  exact ⟨_, congrArg Host.Outcome.next (if_pos (by simp [hr, hi, hch, htype, htime, hnot, hlong])), hbit, htold, honly,
    detectorStuck_idle hbit⟩

end

/-! ### TRIG_OUT pins (R139, R140) -/

section
variable {s : State} {n g e : Nat} {rest : List Nat}

theorem State.outPin_setOutPin (s : State) (n : Nat) (p : OutPin) : (s.setOutPin n p).outPin n = p :=
  Tbl.get_set_same ({} : OutPin) s.trg.outs n p

/-- The first pulse due on a pin is taken: the pin is active until grid point `stop`. -/
def State.takePulse (s : State) (n stop : Nat) (rest : List Nat) : State := s.setOutPin n { due := rest, endsAt := some stop }

theorem State.takePulse_outPin (s : State) (n stop : Nat) (rest : List Nat) :
    (s.takePulse n stop rest).outPin n = { due := rest, endsAt := some stop } := s.outPin_setOutPin n _

/-- The inactive level of a pin whose last pulse is over but not yet ended. -/
def State.endPulse (s : State) (n : Nat) : State :=
  if (s.outPin n).endsAt.isSome then s.emit (.trigOut n (s.outLevel n false)) else s

theorem State.endPulse_eq (s : State) (n : Nat) : s.endPulse n =
    { s with out := (if (s.outPin n).endsAt.isSome then [.trigOut n (s.bit (TRG.OUT_CFG.POL n))] else []) ++ s.out } := by
  unfold State.endPulse State.emit State.outLevel
  split
  · rw [Bool.false_xor]
    rfl
  · rfl

/-- A pulse starts on a pin that is not active, or whose last pulse is over. -/
def State.startPulse (s : State) (n stop : Nat) (rest : List Nat) : State :=
  ((s.takePulse n stop rest).bumpF (TRG.OUT_COUNT.PULSES n) 1).emit (.trigOut n (s.outLevel n true))

section
variable (hn : n < 2) (hr : s.running = true) (hon : s.trg.outOn = true) (hdue : (s.outPin n).due = g :: rest) (hg : g ≤ 16 * s.now)
include hn hr hon hdue hg

theorem trigOutPulse_starts (hover : ∀ e, (s.outPin n).endsAt = some e → e ≤ g) :
    exec (.trigOutPulse n) s = .next ((s.endPulse n).startPulse n (g + 16 * s.fld (TRG.OUT_CFG.WIDTH n)) rest) := by
  refine congrArg Host.Outcome.next ?_
  rw [effTrigOutPulse, hdue]
  refine (if_pos (by simp [hr, hon, hn, hg])).trans ?_
  dsimp only
  refine if_neg ?_
  cases he : (s.outPin n).endsAt with
  | none => exact Bool.false_ne_true
  | some e => simpa using hover e he

theorem trigOutPulse_extends (he : (s.outPin n).endsAt = some e) (hin : g < e) :
    exec (.trigOutPulse n) s = .next ((s.takePulse n (g + 16 * s.fld (TRG.OUT_CFG.WIDTH n)) rest).bumpF (TRG.OUT_COUNT.MERGED n) 1) := by
  refine congrArg Host.Outcome.next ?_
  rw [effTrigOutPulse, hdue]
  refine (if_pos (by simp [hr, hon, hn, hg])).trans (if_pos ?_)
  rw [he]
  exact decide_eq_true hin

end

theorem State.endPulse_startPulse_shows (s : State) (n stop : Nat) (rest : List Nat) :
    ((s.endPulse n).startPulse n stop rest).outPin n = { due := rest, endsAt := some stop } ∧
    counted (TRG.OUT_COUNT.PULSES n) s ((s.endPulse n).startPulse n stop rest) ∧
    ((s.endPulse n).startPulse n stop rest).out = .trigOut n (!s.bit (TRG.OUT_CFG.POL n)) ::
      (if (s.outPin n).endsAt.isSome then [.trigOut n (s.bit (TRG.OUT_CFG.POL n))] else []) ++ s.out ∧
    onlyRegs [(TRG.OUT_COUNT.PULSES n).addr] s { (s.endPulse n).startPulse n stop rest with trg := s.trg, out := s.out } := by
  rw [State.endPulse_eq]
  refine ⟨State.takePulse_outPin _ n stop rest, State.bumpF_counted _ _, ?_,
    (onlyRegs_refl _ s).bumpF (f := TRG.OUT_COUNT.PULSES n) (n := 1) (List.mem_singleton_self _)⟩
  exact congrArg (fun b => Out.trigOut n b :: _) (Bool.true_xor _)

theorem State.takePulse_merged (s : State) (n stop : Nat) (rest : List Nat) :
    counted (TRG.OUT_COUNT.MERGED n) s ((s.takePulse n stop rest).bumpF (TRG.OUT_COUNT.MERGED n) 1) ∧
    onlyRegs [(TRG.OUT_COUNT.MERGED n).addr] s { (s.takePulse n stop rest).bumpF (TRG.OUT_COUNT.MERGED n) 1 with trg := s.trg } :=
  ⟨State.bumpF_counted _ _, (onlyRegs_refl _ s).bumpF (f := TRG.OUT_COUNT.MERGED n) (n := 1) (List.mem_singleton_self _)⟩

theorem trigOutPulseEnd_ends (he : (s.outPin n).endsAt = some e) (hover : e ≤ 16 * s.now) (hdue : ∀ g ∈ (s.outPin n).due, e ≤ g) :
    ∃ t, exec (.trigOutPulseEnd n) s = .next t ∧ (t.outPin n).endsAt = none ∧ (t.outPin n).due = (s.outPin n).due ∧
      t.out = .trigOut n (s.bit (TRG.OUT_CFG.POL n)) :: s.out ∧ { t with trg := s.trg, out := s.out } = s := by
  have heff : effTrigOutPulseEnd n s = (s.setOutPin n { s.outPin n with endsAt := none }).emit (.trigOut n (s.outLevel n false)) := by
    rw [effTrigOutPulseEnd, he]
    exact if_pos (by simpa [hover] using hdue)
  have hpin : ((s.setOutPin n { s.outPin n with endsAt := none }).emit (.trigOut n (s.outLevel n false))).outPin n =
      { s.outPin n with endsAt := none } := s.outPin_setOutPin n _
  refine ⟨_, congrArg Host.Outcome.next heff, ?_, ?_, congrArg (fun b => Out.trigOut n b :: s.out) (Bool.false_xor _), rfl⟩ <;> rw [hpin]

end

/-! ### The holdoff's end (R128) -/

section
variable {s : State} {k : Nat} {sl : Slot}

theorem holdoffEnd_shows {h : Nat} (hsl : s.slotOf? k = some sl) (hh : sl.holdEnd = some h) (hover : h ≤ s.now * finePerNs) :
    exec (.holdoffEnd k) s = .next (s.setF (TRG.SLOT_STATUS.HOLDOFF k) 0) := by
  refine congrArg Host.Outcome.next ?_
  rw [effHoldoffEnd, hsl]
  dsimp only
  rw [hh]
  exact if_pos hover

/-! ### The lost-trigger list (R137) -/

/-- The fields that a write of LL_SEL writes: the slot, the index, and the entry `e` that they name. -/
def lostFields (v : Nat) (e : List Nat) : List (Fld × Nat) :=
  (TRG.LL_SEL.SLOT, v % 8) :: (TRG.LL_SEL.INDEX, v / 2 ^ 16 % 4096) :: (List.range 4).map fun j => (TRG.LL_DATA.DATA j, e.getD j 0)

theorem lostFields_addrs (v : Nat) (e : List Nat) : (lostFields v e).map (fun w => w.1.addr) =
    [TRG.LL_SEL.SLOT.addr, TRG.LL_SEL.INDEX.addr] ++ (List.range 4).map fun j => (TRG.LL_DATA.DATA j).addr := rfl

theorem llSelWrite_copies {v : Nat} (hs : s.served 0x40008 = true) :
    exec (.llSelWrite v) s = .next (s.setFs (lostFields v (Tbl.get [] (Tbl.get [] s.trg.list (v % 8)) (v / 2 ^ 16 % 4096)))) :=
  congrArg Host.Outcome.next (if_pos hs)

/-- Each field written holds its value. -/
theorem setFs_lostFields (s : State) (v : Nat) (e : List Nat) : ∀ w ∈ lostFields v e,
    (s.setFs (lostFields v e)).fld w.1 = w.2 % 2 ^ w.1.width :=
  fld_setFs (by rw [lostFields_addrs]; decide) s

theorem llSelWrite_shows {v : Nat} {e : List Nat} (hs : s.served 0x40008 = true)
    (he : e = Tbl.get [] (Tbl.get [] s.trg.list (v % 8)) (v / 2 ^ 16 % 4096)) :
    ∃ t, exec (.llSelWrite v) s = .next t ∧ t.fld TRG.LL_SEL.SLOT = v % 8 ∧ t.fld TRG.LL_SEL.INDEX = v / 2 ^ 16 % 4096 ∧
      (∀ j < 4, t.fld (TRG.LL_DATA.DATA j) = e.getD j 0 % 2 ^ 32) ∧
      onlyRegs ([TRG.LL_SEL.SLOT.addr, TRG.LL_SEL.INDEX.addr] ++ (List.range 4).map fun j => (TRG.LL_DATA.DATA j).addr) s t := by
  subst he
  have hfld := setFs_lostFields s v (Tbl.get [] (Tbl.get [] s.trg.list (v % 8)) (v / 2 ^ 16 % 4096))
  refine ⟨_, llSelWrite_copies hs, ?_, ?_, fun j hj => ?_, ?_⟩
  · exact (hfld _ List.mem_cons_self).trans (Nat.mod_mod _ 8)
  · exact (hfld _ (List.mem_cons_of_mem _ List.mem_cons_self)).trans (Nat.mod_mod _ 4096)
  · exact hfld (TRG.LL_DATA.DATA j, _)
      (List.mem_cons_of_mem _ (List.mem_cons_of_mem _ (List.mem_map_of_mem (List.mem_range.mpr hj))))
  · rw [← lostFields_addrs v]
    exact onlyRegs_setFs s fun w hw => List.mem_map_of_mem (f := fun w => w.1.addr) hw

/-! ### The force (R133) -/

/-- A force of slot `k` is requested, to reach the fabric `d` ns after it. -/
def State.requestForce (s : State) (k d : Nat) : State :=
  State.setF { s with freeCount := s.freeCount + 1, trg := { s.trg with forceAt := Tbl.set 0 s.trg.forceAt k (s.now + d + 1) } }
    TRG.FORCE.FORCE (withBit (s.fld TRG.FORCE.FORCE) k)

theorem State.requestForce_shows (s : State) (d : Nat) (hk : k < 8) : bitOf ((s.requestForce k d).fld TRG.FORCE.FORCE) k = true ∧
    Tbl.get 0 (s.requestForce k d).trg.forceAt k = s.now + d + 1 ∧ (s.requestForce k d).freeCount = s.freeCount + 1 ∧
    onlyRegs [TRG.FORCE.FORCE.addr] s { s.requestForce k d with trg := s.trg, freeCount := s.freeCount } := by
  refine ⟨?_, Tbl.get_set_same (0 : Nat) s.trg.forceAt k (s.now + d + 1), rfl,
    (onlyRegs_refl _ s).setF (f := TRG.FORCE.FORCE) (v := withBit (s.fld TRG.FORCE.FORCE) k) (List.mem_singleton_self _)⟩
  have hfld : (s.requestForce k d).fld TRG.FORCE.FORCE = withBit (s.fld TRG.FORCE.FORCE) k % 2 ^ 8 := State.fld_setF_same _ _ _
  rw [hfld, bitOf_mod _ _ _ hk, bitOf_withBit, decide_eq_true rfl, Bool.true_or]

section
variable (hk : k < 8) (hs : s.served 0x40004 = true)
include hk hs

theorem force_requests (hsl : s.slotOf? k = some sl) (harm : sl.armed = true) (hnot : bitOf (s.fld TRG.FORCE.FORCE) k = false) :
    exec (.force k) s = .next (s.requestForce k (s.free.1 % 201)) := by
  refine congrArg Host.Outcome.next ((if_pos (by simp [hs, hk])).trans ?_)
  rw [hsl]
  exact if_pos (by simp [harm, hnot])

theorem force_noSlot (hsl : s.slotOf? k = none) : exec (.force k) s = .next s := by
  refine congrArg Host.Outcome.next ((if_pos (by simp [hs, hk])).trans ?_)
  rw [hsl]

theorem force_idle (hsl : s.slotOf? k = some sl) (hno : sl.armed = false ∨ bitOf (s.fld TRG.FORCE.FORCE) k = true) :
    exec (.force k) s = .next s := by
  refine congrArg Host.Outcome.next ((if_pos (by simp [hs, hk])).trans ?_)
  rw [hsl]
  refine if_neg ?_
  rcases hno with harm | hpend
  · simp [harm]
  · simp [hpend]

end

end

/-- Settles O24: each command by the state it answers, each stuck source by its flag and notice. -/
theorem pinsListsAndForcesAct : Obligations.PinsListsAndForcesAct := by
  refine ⟨fun s hr => ⟨fun i ago n hi hu => ⟨fun hl h4 hp => ?_, fun hl h0 => ?_, fun hl h4 hp => ?_, fun hl h0 => ?_⟩,
      fun i hi hu ht hn hl => pinStuck_notices hr hi hu ht hn hl, fun i hi hc hty ht hn hl => detectorStuck_notices hr hi hc hty ht hn hl⟩,
    fun s => ⟨fun n g rest hn hr ho hd hg => ⟨fun hover => ?_, fun e he hin => ?_⟩, fun n e => trigOutPulseEnd_ends,
      fun k sl h hsl hh hover => ?_, fun v e => llSelWrite_shows,
      fun k hk hs => ⟨fun sl hsl ha hb => ?_, force_noSlot hk hs, fun sl => force_idle hk hs⟩⟩⟩
  · exact ⟨_, trigInActivation_confirms hr hi hu hl h4 hp, s.raisePin_shows i ago n⟩
  · subst h0
    exact ⟨_, trigInActivation_counts hr hi hu hl, s.bumpF_countedBy _ n, (onlyRegs_refl _ s).bumpF (List.mem_singleton_self _)⟩
  · exact ⟨_, trigInDeactivation_ends hr hi hu hl h4 hp, s.lowerPin_shows i ago n⟩
  · subst h0
    exact ⟨_, trigInDeactivation_counts hr hi hu hl, s.bumpF_countedBy _ n, (onlyRegs_refl _ s).bumpF (List.mem_singleton_self _)⟩
  · exact ⟨_, trigOutPulse_starts hn hr ho hd hg hover, s.endPulse_startPulse_shows n _ rest⟩
  · exact ⟨_, trigOutPulse_extends hn hr ho hd hg he hin, s.takePulse_outPin n _ rest, s.takePulse_merged n _ rest⟩
  · exact ⟨_, holdoffEnd_shows hsl hh hover, State.fld_setF_same _ _ _, (onlyRegs_refl _ s).setF (List.mem_singleton_self _)⟩
  · obtain ⟨hbit, hat, hfree, honly⟩ := s.requestForce_shows (s.free.1 % 201) hk
    exact ⟨_, force_requests hk hs hsl ha hb, hbit, ⟨_, Nat.le_of_lt_succ (Nat.mod_lt _ (by decide)), hat⟩, hfree, honly⟩

end Sys2Proof.Machine
end

section
/-!
SUPPORT. The overflow of a lane's elastic buffer (R23): why the lane-deadline fault need not show the lane that its unit's state names. INDEX
of a source's detail has eight bits, and the statement is about every state, also one in which a unit names a lane beyond the device's 64.
Looking at the levels of the readout queues, which ends the command, leaves the details as they are.
-/

namespace Sys2Proof.Machine

/-! ### What looking at the queues' levels leaves (R289, R291) -/

/-- The detail of every event source shows the same INDEX in `s` as in `s₀`, and the two know the same of the occurrences. -/
structure State.indexAs (s s₀ : State) : Prop where
  evt : s.evt = s₀.evt
  index : ∀ n, s.fld (EVT.DETAIL.INDEX n) = s₀.fld (EVT.DETAIL.INDEX n)

theorem State.indexAs.refl (s : State) : s.indexAs s := ⟨rfl, fun _ => rfl⟩

/-- The fields at which a queue is shown begin at other bits of their registers than INDEX of a detail. -/
theorem detailIndex_notMem_queueShown (n q : Nat) : (EVT.DETAIL.INDEX n).addr ∉ queueShown q := by
  simp only [queueShown, List.mem_cons, List.not_mem_nil, or_false, EVT.DETAIL.INDEX, RDO.Q_STATE.STATE, RDO.Q_STATE.FLUSHING,
    RDO.Q_CMD.FLUSH, RDO.Q_STATE.RING_FULL, RDO.Q_LEVEL.LEVEL, RDO.Q_CUR_LO.ADDR, RDO.Q_CUR_LO.DEV, RDO.Q_PROG_POS.POS,
    RDO.Q_PROG_TOTAL.TOTAL, RDO.Q_STATE.PCT]
  omega

section
variable {s t s₀ : State} {q : Nat}

theorem State.indexAs.ite {c : Prop} {_ : Decidable c} (hs : s.indexAs s₀) (ht : t.indexAs s₀) : (if c then s else t).indexAs s₀ := by
  split
  · exact hs
  · exact ht

theorem State.indexAs.setQueue {x : Queue} (h : s.indexAs s₀) : (s.setQueue q x).indexAs s₀ := ⟨h.evt, h.index⟩

theorem State.indexAs.showQueue (h : s.indexAs s₀) : (s.showQueue q).indexAs s₀ := by
  obtain ⟨hfld, hrest⟩ := s.showQueue_only q
  have hevt := (congrArg (fun u : State => u.evt) hrest : _)
  exact ⟨hevt.trans h.evt, fun n => (hfld _ (detailIndex_notMem_queueShown n q)).trans (h.index n)⟩

theorem State.indexAs.issue {kind addr len be : Nat} {dev : Bool} (h : s.indexAs s₀) : (s.issue q kind addr len be dev).indexAs s₀ :=
  State.indexAs.ite h.setQueue ⟨h.evt, h.index⟩

theorem State.indexAs.endDesc {d : Desc} (h : s.indexAs s₀) : (s.endDesc q d).indexAs s₀ := h.setQueue.issue

theorem State.indexAs.endFlush (h : s.indexAs s₀) : (s.endFlush q).indexAs s₀ := h.setQueue

theorem State.indexAs.paceOff {since : Option Nat} (h : s.indexAs s₀) : (s.paceOff q since).indexAs s₀ := by
  unfold State.paceOff
  extract_lets x
  split
  · exact (h.setQueue.endDesc.ite h.setQueue).showQueue
  · exact h.setQueue.showQueue

theorem State.indexAs.repaceQueue (h : s.indexAs s₀) : (s.repaceQueue q).indexAs s₀ := by
  unfold State.repaceQueue
  extract_lets x st av since on
  split
  · split
    · extract_lets l s2 _
      have hs2 : s2.indexAs s₀ := h.setQueue
      split
      · split
        · exact hs2.endFlush.showQueue.ite hs2.setQueue.endDesc.showQueue
        · exact hs2.endFlush.showQueue
      · exact hs2.showQueue
    · exact h.paceOff.ite h.setQueue.showQueue
  · exact h.showQueue.ite h

theorem State.indexAs.repace (h : s.indexAs s₀) : s.repace.indexAs s₀ :=
  List.foldlRecOn (motive := fun u => u.indexAs s₀) _ State.repaceQueue h fun _ hu _ _ => hu.repaceQueue

/-- Two states that end alike when the levels are looked at show the same details. -/
theorem State.indexAs.of_repace_eq (h : t.repace = s.repace) : t.indexAs s := by
  have ht := (State.indexAs.refl t).repace
  have hs := (State.indexAs.refl s).repace
  rw [h] at ht
  exact ⟨ht.evt.symm.trans hs.evt, fun n => (ht.index n).symm.trans (hs.index n)⟩

end

/-! ### A unit whose state names no lane of the device -/

/-- An occurrence that has left its detail to no other unit's is reported with the unit its detail shows. -/
theorem reported.index {n k i a : Nat} {t : State} (r : reported n k i a t) (h : Tbl.get 0 t.evt.kept n = 0) :
    t.fld (EVT.DETAIL.INDEX n) = i := by
  obtain ⟨-, -, hdetail⟩ := r
  rw [if_neg (by rw [h]; exact (Nat.succ_ne_zero _).symm)] at hdetail
  exact hdetail.2.1

/-- In ACQUIRE unit 0 serves lane 0 and runs no handler, and its state names lane 256. The device has the lanes 0 to 63 alone, and no command
binds a unit to another. -/
def strayUnit : State :=
  { regs := [(DEV.MODE.MODE.addr, modeAcquire), ((SEQ.LANE_UNIT.VALID 0).addr, 1)]
    seq := { units := [(0, { st := 1, lane := 256 })] } }

theorem strayUnit_serves : strayUnit.mode = modeAcquire ∧ strayUnit.unitOf 0 = some 0 ∧ (strayUnit.sunit 0).st = 1 ∧
    (strayUnit.sunit 0).lane = 256 ∧ (strayUnit.sunit 0).handler = 0 := by decide

/-- The overflow's fault shows the low eight bits of the lane. -/
theorem strayUnit_overflows : (effElasticOvf 0 1 strayUnit).fld (EVT.DETAIL.INDEX 228) = 0 ∧
    Tbl.get 0 (effElasticOvf 0 1 strayUnit).evt.kept 228 = 0 := by decide

/-- Refutes O27: the elastic buffer of a lane overflows whose unit's state names lane 256, and the lane-deadline fault shows lane 0. -/
theorem not_foliosAndRecordsMoveOneStep : ¬ Obligations.FoliosAndRecordsMoveOneStep := by
  rintro ⟨-, hrecords, -⟩
  obtain ⟨-, -, -, -, -, -, hoverflow, -⟩ := hrecords strayUnit
  obtain ⟨hmode, hunit, hst, hlane, hhandler⟩ := strayUnit_serves
  obtain ⟨t, ht, -, htrap, -⟩ := hoverflow 0 1 (by decide) hmode
  obtain ⟨htaken, -⟩ := htrap 0 hunit (by rw [hst]; decide) (by rw [hst]; decide) (by decide)
  obtain ⟨hreport, -⟩ := htaken hhandler
  have hsame : t.indexAs (effElasticOvf 0 1 strayUnit) := .of_repace_eq (Host.Outcome.next.inj ht).symm
  obtain ⟨hindex, hkept⟩ := strayUnit_overflows
  have hshown := hreport.index (by rw [hsame.evt, hkept])
  rw [hsame.index, hindex, hlane] at hshown
  exact absurd hshown (by decide)

end Sys2Proof.Machine
end

section
/-!
SUPPORT. The sample coder's stream (R178 to R180): a bit list packed into bytes is read back bit for bit, a fixed-width field gives its value
back, and so does a unary quotient with its low bits. A coded block is the header byte and the packed bits of one form.
-/

namespace Sys2Proof.Machine

/-! ### Bits of a number -/

/-- Adding up the powers of the bits set gives the low bits of the number. -/
theorem foldl_testBit (v w : Nat) :
    (List.range w).foldl (fun a i => if v.testBit i then a + 2 ^ i else a) 0 = v % 2 ^ w := by
  induction w with
  | zero => simp [Nat.mod_one]
  | succ w ih =>
    rw [List.range_succ, List.foldl_append, ih, Nat.mod_pow_succ]
    rcases Nat.mod_two_eq_zero_or_one (v / 2 ^ w) with h | h <;> simp [Nat.testBit_eq_decide_div_mod_eq, h]

theorem foldl_bits_eq {f : Nat → Bool} {v w : Nat} (h : ∀ i < w, f i = v.testBit i) :
    (List.range w).foldl (fun a i => if f i then a + 2 ^ i else a) 0 = v % 2 ^ w := by
  rw [← foldl_testBit]
  exact List.foldl_ext _ _ _ fun a i hi => by rw [h i (List.mem_range.mp hi)]

@[simp] theorem bitsLsb_length (w v : Nat) : (bitsLsb w v).length = w := by simp [bitsLsb]

@[simp] theorem bitsLsb_getElem (w v i : Nat) (h : i < (bitsLsb w v).length) : (bitsLsb w v)[i] = v.testBit i := by simp [bitsLsb]

/-! ### Bits in a stream -/

/-- The bits `l` stand in the stream of a block from bit `j` on. -/
def bitsAt (body : List Byte) (j : Nat) (l : List Bool) : Prop := ∀ i (h : i < l.length), streamBit body (j + i) = l[i]

section
variable {body : List Byte} {j : Nat}

theorem bitsAt_append {l₁ l₂ : List Bool} :
    bitsAt body j (l₁ ++ l₂) ↔ bitsAt body j l₁ ∧ bitsAt body (j + l₁.length) l₂ := by
  constructor
  · intro h
    refine ⟨fun i hi => ?_, fun i hi => ?_⟩
    · rw [h i (by simp; omega), List.getElem_append_left hi]
    · rw [Nat.add_assoc, h (l₁.length + i) (by simpa using hi)]
      simp
  · rintro ⟨h₁, h₂⟩ i hi
    by_cases hlt : i < l₁.length
    · rw [h₁ i hlt, List.getElem_append_left hlt]
    · have hi2 : i - l₁.length < l₂.length := by simp at hi; omega
      rw [List.getElem_append_right (by omega), ← h₂ _ hi2]
      congr 1
      omega

/-- No bit is set past the end of the stream. -/
theorem lt_of_streamBit (h : streamBit body j = true) : j < 8 * body.length := by
  by_contra hge
  rw [streamBit, List.getD_eq_default _ _ (by omega)] at h
  simp at h

theorem readBits_of_bitsAt {w v : Nat} (h : bitsAt body j (bitsLsb w v)) : readBits body j w = v % 2 ^ w :=
  foldl_bits_eq fun i hi => (h i (by simpa using hi)).trans (bitsLsb_getElem ..)

/-- A unary run is counted to its end when the count may go so far. -/
theorem zerosAt_of_run {q fuel : Nat} (h : bitsAt body j (List.replicate q false ++ [true])) (hq : q ≤ fuel) :
    zerosAt body j fuel = q := by
  induction q generalizing j fuel with
  | zero =>
    cases fuel with
    | zero => rfl
    | succ fuel => exact if_pos (by simpa using h 0)
  | succ q ih =>
    obtain ⟨fuel, rfl⟩ : ∃ m, fuel = m + 1 := ⟨fuel - 1, by omega⟩
    rw [List.replicate_succ, List.cons_append, ← List.singleton_append, bitsAt_append, List.length_singleton] at h
    obtain ⟨hzero, hrest⟩ := h
    have hbit : streamBit body j = false := by simpa using hzero 0
    rw [zerosAt, hbit, if_neg Bool.false_ne_true, ih hrest (by omega), Nat.add_comm]

/-- The stream itself is long enough for the decoder to count any run in it. -/
theorem zerosAt_of_bitsAt {q : Nat} (h : bitsAt body j (List.replicate q false ++ [true])) :
    zerosAt body j (8 * body.length) = q := by
  have hend : streamBit body (j + q) = true := by simpa using h q
  have := lt_of_streamBit hend
  exact zerosAt_of_run h (by omega)

end

/-! ### Packing -/

@[simp] theorem packBits_length (n : Nat) (bs : List Bool) : (packBits n bs).length = n := by
  induction n generalizing bs with
  | zero => rfl
  | succ n ih => simp [packBits, ih]

/-- Bit `i` of a packed byte. -/
theorem packedByte_testBit (bs : List Bool) {i : Nat} (hi : i < 8) :
    (BitVec.ofNat 8 ((List.range 8).foldl (fun a i => if bs.getD i false then a + 2 ^ i else a) 0)).toNat.testBit i =
      bs.getD i false := by
  have hbits : ∀ i < 8, bs.getD i false = (Nat.ofBits fun i : Fin 8 => bs.getD i false).testBit i := fun i hi =>
    (Nat.testBit_ofBits_lt (fun i : Fin 8 => bs.getD i false) i hi).symm
  rw [foldl_bits_eq hbits, BitVec.toNat_ofNat, Nat.mod_mod, Nat.testBit_mod_two_pow, hbits i hi]
  simp [hi]

theorem streamBit_packBits {n j : Nat} (bs : List Bool) (hj : j < 8 * n) : streamBit (packBits n bs) j = bs.getD j false := by
  induction n generalizing bs j with
  | zero => omega
  | succ n ih =>
    rw [packBits]
    by_cases hlt : j < 8
    · rw [streamBit, Nat.div_eq_of_lt hlt, Nat.mod_eq_of_lt hlt, List.getD_cons_zero]
      exact packedByte_testBit bs hlt
    · obtain ⟨i, rfl⟩ : ∃ i, j = i + 8 := ⟨j - 8, by omega⟩
      have hnext := ih (bs.drop 8) (j := i) (by omega)
      rw [streamBit] at hnext ⊢
      rw [Nat.add_div_right _ (by decide), Nat.add_mod_right, List.getD_cons_succ, hnext]
      simp [Nat.add_comm]

/-- A bit list packed stands in the stream from its first bit on. -/
theorem bitsAt_packBits (bits : List Bool) : bitsAt (packBits (bytesOf bits.length) bits) 0 bits := by
  intro i hi
  rw [Nat.zero_add, streamBit_packBits bits (by unfold bytesOf; omega), List.getD_eq_getElem _ _ hi]

end Sys2Proof.Machine
end

section
/-!
SUPPORT. The two forms of a coded block (R176 to R180): wrapped differences and two's-complement fields undone, the values read back from the
packed and from the Rice form, and the positions they are put in.
-/

namespace Sys2Proof.Machine

/-! ### Wrapped values -/

/-- The values of a field of `w` bits in two's complement (R177). -/
def fitsTwos (w : Nat) (y : Int) : Prop := -2 ^ (w - 1) ≤ y ∧ y < 2 ^ (w - 1)

section
variable {w : Nat} {y : Int}

theorem fitsTwos.bmod_eq (h : fitsTwos w y) (hw : 0 < w) : y.bmod (2 ^ w) = y := by
  obtain ⟨w, rfl⟩ := Nat.exists_eq_add_one.mpr hw
  obtain ⟨hlo, hhi⟩ := h
  rw [Nat.add_sub_cancel] at hlo hhi
  refine Int.bmod_eq_of_le_mul_two ?_ ?_ <;> push_cast <;> rw [pow_succ] <;> omega

theorem wrapW_fitsTwos (hw : 0 < w) : fitsTwos w (wrapW y w) := by
  obtain ⟨w, rfl⟩ := Nat.exists_eq_add_one.mpr hw
  have hpos : (0 : Int) < 2 ^ (w + 1) := by positivity
  have hlo := Int.emod_nonneg (y + 2 ^ w) hpos.ne'
  have hhi := Int.emod_lt_of_pos (y + 2 ^ w) hpos
  unfold fitsTwos wrapW
  rw [Nat.add_sub_cancel]
  constructor <;> rw [pow_succ] at * <;> omega

theorem wrapW_eq_bmod (hw : 0 < w) : wrapW y w = y.bmod (2 ^ w) := by
  have hcast : (2 : Int) ^ w = (2 ^ w : Nat) := by push_cast; rfl
  rw [← (wrapW_fitsTwos hw).bmod_eq hw, wrapW, hcast, Int.emod_sub_bmod, Int.add_sub_cancel]

theorem ofTwos_eq_bmod {v : Nat} (hw : 0 < w) : ofTwos w v = (v : Int).bmod (2 ^ w) := by
  obtain ⟨w, rfl⟩ := Nat.exists_eq_add_one.mpr hw
  have hhalf : (((2 ^ (w + 1) : Nat) : Int) + 1) / 2 = (2 ^ w : Nat) := by rw [pow_succ]; omega
  rw [ofTwos, Int.bmod_def, Nat.add_sub_cancel, ← Int.natCast_emod, hhalf]
  simp only [Int.ofNat_lt]
  push_cast
  rfl

/-- A value that fits a field is read back from it (R178, sext of R180). -/
theorem ofTwos_toTwos (h : fitsTwos w y) (hw : 0 < w) : ofTwos w (toTwos w y) = y := by
  have hcast : (toTwos w y : Int) = y % (2 ^ w : Nat) := by
    rw [toTwos, Int.toNat_of_nonneg (Int.emod_nonneg _ (by positivity))]
    push_cast
    rfl
  rw [ofTwos_eq_bmod hw, hcast, Int.emod_bmod, h.bmod_eq hw]

/-- The decoder undoes a wrapped difference with the coder's own wrap (R180). -/
theorem wrapW_add_wrapW_sub (h : fitsTwos w y) (hw : 0 < w) (prev : Int) : wrapW (prev + wrapW (y - prev) w) w = y := by
  rw [wrapW_eq_bmod hw, wrapW_eq_bmod hw, Int.add_bmod_bmod, add_sub_cancel, h.bmod_eq hw]

end

/-! ### Mapped differences -/

/-- A difference as the number written for it (R178 step 3). -/
def mapDiff (d : Int) : Nat := if 0 ≤ d then (2 * d).toNat else (-2 * d - 1).toNat

theorem mappedDiffs_cons_cons (w : Nat) (a b : Int) (t : List Int) :
    mappedDiffs w (a :: b :: t) = mapDiff (wrapW (b - a) w) :: mappedDiffs w (b :: t) := rfl

theorem unmap_mapDiff (d : Int) :
    (if mapDiff d % 2 = 0 then ((mapDiff d / 2 : Nat) : Int) else -(((mapDiff d + 1) / 2 : Nat) : Int)) = d := by
  unfold mapDiff
  split <;> split <;> omega

/-! ### The values of a form -/

/-- One number in the Rice form: its quotient in unary, then its low `p` bits (R178 steps 4 and 5). -/
def riceBits (p u : Nat) : List Bool := List.replicate (u / 2 ^ p) false ++ [true] ++ bitsLsb p (u % 2 ^ p)

@[simp] theorem riceBits_length (p u : Nat) : (riceBits p u).length = u / 2 ^ p + 1 + p := by
  simp [riceBits]
  omega

/-- The stream of a block with the coded values `ys` of `w` bits (R178). -/
def formBits (w p : Nat) (ys : List Int) : List Bool :=
  if p = 15 then ys.flatMap fun y => bitsLsb w (toTwos w y)
  else bitsLsb w (toTwos w (ys.headD 0)) ++ (mappedDiffs w ys).flatMap (riceBits p)

/-- The `n` coded values that a decoder reads from a stream (R180). -/
def formValues (body : List Byte) (w p n : Nat) : List Int :=
  if p = 15 then (List.range n).map fun m => ofTwos w (readBits body (m * w) w)
  else ofTwos w (readBits body 0 w) :: riceValues body w p (n - 1) w (ofTwos w (readBits body 0 w))

section
variable {body : List Byte} {j w p : Nat} {y : Int} {ys : List Int}

theorem readBits_toTwos (h : bitsAt body j (bitsLsb w (toTwos w y))) (hy : fitsTwos w y) (hw : 0 < w) :
    ofTwos w (readBits body j w) = y := by
  rw [readBits_of_bitsAt h, Nat.mod_eq_of_lt (toTwos_lt w y), ofTwos_toTwos hy hw]

/-- Field `m` of the packed form begins at bit `m * w`. -/
theorem bitsAt_packed_getElem (h : bitsAt body j (ys.flatMap fun y => bitsLsb w (toTwos w y))) (m : Nat) (hm : m < ys.length) :
    bitsAt body (j + m * w) (bitsLsb w (toTwos w ys[m])) := by
  induction ys generalizing j m with
  | nil => simp at hm
  | cons y ys ih =>
    rw [List.flatMap_cons, bitsAt_append, bitsLsb_length] at h
    obtain ⟨hfirst, hrest⟩ := h
    cases m with
    | zero => simpa using hfirst
    | succ m =>
      have := ih hrest m (by simpa using hm)
      rwa [Nat.add_assoc, Nat.add_comm w, ← Nat.succ_mul] at this

/-- One number of the Rice form is read back whole. -/
theorem rice_read {u : Nat} (h : bitsAt body j (riceBits p u)) :
    zerosAt body j (8 * body.length) = u / 2 ^ p ∧ readBits body (j + u / 2 ^ p + 1) p = u % 2 ^ p := by
  rw [riceBits, bitsAt_append] at h
  obtain ⟨hrun, hlow⟩ := h
  refine ⟨zerosAt_of_bitsAt hrun, ?_⟩
  have := readBits_of_bitsAt hlow
  rw [Nat.mod_mod] at this
  simpa [Nat.add_assoc] using this

theorem riceValues_of_bitsAt {prev : Int} (hw : 0 < w) (hys : ∀ y ∈ ys, fitsTwos w y)
    (h : bitsAt body j ((mappedDiffs w (prev :: ys)).flatMap (riceBits p))) :
    riceValues body w p ys.length j prev = ys := by
  induction ys generalizing j prev with
  | nil => rfl
  | cons y ys ih =>
    rw [mappedDiffs_cons_cons, List.flatMap_cons, bitsAt_append, riceBits_length] at h
    obtain ⟨hfirst, hrest⟩ := h
    obtain ⟨hquot, hlow⟩ := rice_read hfirst
    rw [List.forall_mem_cons] at hys
    obtain ⟨hy, hys⟩ := hys
    rw [List.length_cons, riceValues]
    simp only [hquot, hlow, Nat.div_add_mod', unmap_mapDiff, wrapW_add_wrapW_sub hy hw]
    rw [ih hys (by rwa [← Nat.add_assoc, ← Nat.add_assoc] at hrest)]

/-- A stream that holds a form of a block gives the block's coded values back. -/
theorem formValues_of_bitsAt (hw : 0 < w) (hne : ys ≠ []) (hys : ∀ y ∈ ys, fitsTwos w y) (h : bitsAt body 0 (formBits w p ys)) :
    formValues body w p ys.length = ys := by
  unfold formBits at h
  unfold formValues
  split at h
  next hp =>
    rw [if_pos hp]
    refine List.ext_getElem (by simp) fun m hm hm' => ?_
    have hfield := bitsAt_packed_getElem h m hm'
    rw [Nat.zero_add] at hfield
    simpa using readBits_toTwos hfield (hys _ (List.getElem_mem hm')) hw
  next hp =>
    rw [if_neg hp]
    obtain ⟨y, ys, rfl⟩ := List.exists_cons_of_ne_nil hne
    rw [bitsAt_append, bitsLsb_length, Nat.zero_add] at h
    obtain ⟨hfirst, hrest⟩ := h
    rw [List.forall_mem_cons] at hys
    obtain ⟨hy, hys⟩ := hys
    rw [readBits_toTwos hfirst hy hw]
    exact congrArg (y :: ·) (riceValues_of_bitsAt hw hys hrest)

theorem formValues_packBits (hw : 0 < w) (hne : ys ≠ []) (hys : ∀ y ∈ ys, fitsTwos w y) :
    formValues (packBits (bytesOf (formBits w p ys).length) (formBits w p ys)) w p ys.length = ys :=
  formValues_of_bitsAt hw hne hys (bitsAt_packBits _)

end

/-! ### The coded values -/

section
variable {x : List Int} {k h : Nat}

theorem codedValues_length (hx : x.length = 64) : (codedValues x k h).length = if h = 0 then 64 else 32 := by
  unfold codedValues
  split <;> simp [hx]

theorem shifted_fitsTwos {v : Int} (hv : -2048 ≤ v ∧ v < 2048) (hk : k ≤ 4) : fitsTwos (12 - k) (v / 2 ^ k) := by
  unfold fitsTwos
  interval_cases k <;> norm_num <;> omega

theorem getD_inRange (hx : ∀ v ∈ x, -2048 ≤ v ∧ v < 2048) (i : Nat) : -2048 ≤ x.getD i 0 ∧ x.getD i 0 < 2048 := by
  by_cases hi : i < x.length
  · rw [List.getD_eq_getElem _ _ hi]
    exact hx _ (List.getElem_mem hi)
  · rw [List.getD_eq_default _ _ (by omega)]
    decide

theorem codedValues_fitsTwos (hx : ∀ v ∈ x, -2048 ≤ v ∧ v < 2048) (hk : k ≤ 4) :
    ∀ y ∈ codedValues x k h, fitsTwos (12 - k) y := by
  unfold codedValues
  split <;> simp only [List.forall_mem_map]
  · exact fun v hv => shifted_fitsTwos (hx v hv) hk
  · exact fun m _ => shifted_fitsTwos (getD_inRange hx _) hk

end

/-! ### The block -/

section
variable {x : List Int} {k h p : Nat}

theorem encodeBlock_eq (x : List Int) (k h p : Nat) :
    encodeBlock x k h p = BitVec.ofNat 8 (p + 16 * k + 128 * h) ::
      packBits (bytesOf (formBits (12 - k) p (codedValues x k h)).length) (formBits (12 - k) p (codedValues x k h)) := rfl

/-- A coded value as the decoder restores it, in the middle of its step (R180). -/
def restored (k : Nat) (y : Int) : Int := if k = 0 then y else y * 2 ^ k + 2 ^ (k - 1)

/-- The coded values put at their positions (R180). -/
def placed (k h : Nat) (ys : List Int) : List (Option Int) :=
  if h = 0 then (ys.map (restored k)).map some else (ys.map (restored k)).flatMap fun v => [some v, none]

/-- The decoder takes P, K and H from the header (Table 07-1). -/
theorem decodeBlock_cons (hp : p < 16) (hk : k < 8) (hh : h < 2) (body : List Byte) :
    decodeBlock (BitVec.ofNat 8 (p + 16 * k + 128 * h) :: body) =
      placed k h (formValues body (12 - k) p (if h = 0 then 64 else 32)) := by
  have hhdr : (BitVec.ofNat 8 (p + 16 * k + 128 * h)).toNat = p + 16 * k + 128 * h := by
    rw [BitVec.toNat_ofNat]
    omega
  have hP : (p + 16 * k + 128 * h) % 16 = p := by omega
  have hK : (p + 16 * k + 128 * h) / 16 % 8 = k := by omega
  have hH : (p + 16 * k + 128 * h) / 128 = h := by omega
  simp only [decodeBlock, List.headD_cons, List.drop_one, List.tail_cons, hhdr, hP, hK, hH]
  rfl

theorem range_two_mul_map {α : Type} (f : Nat → α) (n : Nat) :
    (List.range (2 * n)).map f = (List.range n).flatMap fun m => [f (2 * m), f (2 * m + 1)] := by
  induction n with
  | zero => rfl
  | succ n ih => simp [Nat.mul_succ, List.range_succ, ih]

theorem keptSample_of_kept {i : Nat} (hi : ¬(h = 1 ∧ i % 2 = 1)) :
    keptSample x k h i = some (restored k (x.getD i 0 / 2 ^ k)) := by
  unfold keptSample restored
  rw [if_neg hi]
  split
  next hk => rw [hk, pow_zero, Int.ediv_one]
  next => rfl

theorem map_getD_range (hx : x.length = 64) : x = (List.range 64).map fun i => x.getD i 0 :=
  List.ext_getElem (by simp [hx]) fun i hi _ => by simp [hi]

/-- The coded values of a block put at their positions are the samples it keeps. -/
theorem placed_codedValues (hx : x.length = 64) (hh : h ≤ 1) :
    placed k h (codedValues x k h) = (List.range 64).map (keptSample x k h) := by
  unfold placed codedValues
  split
  next h0 =>
    conv_lhs => rw [map_getD_range hx]
    simp only [List.map_map]
    exact List.map_congr_left fun i _ => (keptSample_of_kept (by omega)).symm
  next h0 =>
    have h1 : h = 1 := by omega
    rw [range_two_mul_map _ 32]
    simp only [List.map_map, List.flatMap_map]
    refine List.flatMap_congr fun m _ => ?_
    rw [keptSample_of_kept (by omega), keptSample, if_pos ⟨h1, by omega⟩]
    rfl

theorem decodeBlock_encodeBlock (hx : x.length = 64) (hrange : ∀ v ∈ x, -2048 ≤ v ∧ v < 2048) (hk : k ≤ 4) (hh : h ≤ 1)
    (hp : p < 16) : decodeBlock (encodeBlock x k h p) = (List.range 64).map (keptSample x k h) := by
  have hlen := codedValues_length (k := k) (h := h) hx
  have hne : codedValues x k h ≠ [] := by
    rw [← List.length_pos_iff, hlen]
    split <;> decide
  rw [encodeBlock_eq, decodeBlock_cons hp (by omega) (by omega), ← hlen,
    formValues_packBits (by omega) hne (codedValues_fitsTwos hrange hk), placed_codedValues hx hh]

/-! ### The size of a form (R179) -/

theorem encodeBlock_length (x : List Int) (k h p : Nat) : (encodeBlock x k h p).length =
    if p = 15 then packedSize (codedValues x k h).length (12 - k)
    else riceSize (mappedDiffs (12 - k) (codedValues x k h)) (12 - k) p := by
  rw [encodeBlock_eq, List.length_cons, packBits_length, formBits]
  split <;> simp [packedSize, riceSize, List.length_flatMap, Nat.add_comm]

end

end Sys2Proof.Machine
end

section
/-!
SUPPORT. The choice of a block's form and mode (R179, R183) and the budget of a frame (R182 to R184). The packed form bounds every size: 33
bytes at worst at the last mode and 97 at the first, which is why 33 bytes a block always do and 97 always code in full.
-/

namespace Sys2Proof.Machine

/-! ### The smallest form (R179) -/

/-- `f` is the size and the P of a form of the coded values `ys` of `w` bits. -/
def formOf (w : Nat) (ys : List Int) (f : Nat × Nat) : Prop :=
  f = (packedSize ys.length w, 15) ∨ ∃ p < w, f = (riceSize (mappedDiffs w ys) w p, p)

section
variable {x : List Int} {k h : Nat}

theorem bestForm_formOf (x : List Int) (k h : Nat) : formOf (12 - k) (codedValues x k h) (bestForm x k h) := by
  refine List.foldlRecOn (motive := formOf (12 - k) (codedValues x k h)) _ _ (.inl rfl) fun f hf p hp => ?_
  split
  · exact .inr ⟨p, List.mem_range.mp hp, rfl⟩
  · exact hf

theorem bestForm_le_packed (hx : x.length = 64) : (bestForm x k h).1 ≤ packedSize (if h = 0 then 64 else 32) (12 - k) := by
  rw [← codedValues_length hx]
  refine List.foldlRecOn (motive := fun f : Nat × Nat => f.1 ≤ packedSize (codedValues x k h).length (12 - k)) _ _ le_rfl
    fun f hf p _ => ?_
  split
  next hlt => exact hlt.le.trans hf
  next => exact hf

theorem bestForm_last_le (hx : x.length = 64) : (bestForm x 4 1).1 ≤ 33 := bestForm_le_packed hx

theorem bestForm_first_le (hx : x.length = 64) : (bestForm x 0 0).1 ≤ 97 := bestForm_le_packed hx

theorem bestForm_snd_lt (x : List Int) (k h : Nat) : (bestForm x k h).2 < 16 := by
  rcases bestForm_formOf x k h with heq | ⟨p, hp, heq⟩ <;> rw [heq]
  · exact Nat.lt_succ_self 15
  · exact hp.trans (by omega)

/-- A block coded in its smallest form has the size that the choice counts (R183). -/
theorem encodeBlock_bestForm_length (x : List Int) (k h : Nat) :
    (encodeBlock x k h (bestForm x k h).2).length = (bestForm x k h).1 := by
  rcases bestForm_formOf x k h with heq | ⟨p, hp, heq⟩ <;> rw [heq, encodeBlock_length]
  · exact if_pos rfl
  · exact if_neg (by omega)

end

/-- Settles O58: the stream holds the form's bits, the decoder reads each field and each run back, and every form's bits are as many as
R179 counts. -/
theorem blocksDecodeToWhatTheyEncode : Obligations.BlocksDecodeToWhatTheyEncode := by
  intro x k h p hx hrange hk hh hp
  refine ⟨decodeBlock_encodeBlock hx hrange hk hh (by omega), encodeBlock_bestForm_length x k h, fun hpacked => ?_⟩
  rw [encodeBlock_length, if_pos hpacked, codedValues_length hx]
  rfl

/-! ### The mode of a block (R183) -/

section
variable {x : List Int} {r b : Nat}

/-- The chosen mode fits what may be spent on the block, or it is the last one. -/
theorem chooseMode_cases (x : List Int) (r b : Nat) :
    (bestForm x (chooseMode x r b).1 (chooseMode x r b).2).1 ≤ r - 33 * (63 - b) ∨ chooseMode x r b = (4, 1) := by
  unfold chooseMode
  dsimp only
  cases hfind : modeOrder.find? fun m => decide ((bestForm x m.1 m.2).1 ≤ r - 33 * (63 - b)) with
  | none => exact .inr rfl
  | some m => exact .inl (by simpa using List.find?_some hfind)

/-- The full form is the first choice: a block is reduced only when it does not fit (R184). -/
theorem chooseMode_eq_full_iff (x : List Int) (r b : Nat) : chooseMode x r b = (0, 0) ↔ (bestForm x 0 0).1 ≤ r - 33 * (63 - b) := by
  constructor
  · intro hfull
    rcases chooseMode_cases x r b with hfits | hlast
    · rwa [hfull] at hfits
    · rw [hfull] at hlast
      exact absurd hlast (by decide)
  · intro hfits
    simp [chooseMode, modeOrder, hfits]

/-- With 33 bytes for each block left, the block fits and leaves 33 for each later one (R184). -/
theorem chooseMode_leaves (hx : x.length = 64) (hr : 33 * (63 - b) + 33 ≤ r) :
    (bestForm x (chooseMode x r b).1 (chooseMode x r b).2).1 ≤ r - 33 * (63 - b) := by
  rcases chooseMode_cases x r b with hfits | hlast
  · exact hfits
  · rw [hlast]
    exact (bestForm_last_le hx).trans (by omega)

theorem chooseMode_full (hx : x.length = 64) (hr : 33 * (63 - b) + 97 ≤ r) : chooseMode x r b = (0, 0) :=
  (chooseMode_eq_full_iff x r b).mpr ((bestForm_first_le hx).trans (by omega))

end

/-! ### The blocks of a frame -/

/-- The size of a block coded in mode `m`. -/
def sizeIn (x : List Int) (m : Nat × Nat) : Nat := (bestForm x m.1 m.2).1

section
variable {x : List Int} {xs : List (List Int)} {r b : Nat}

theorem codeFrame_cons (x : List Int) (xs : List (List Int)) (r b : Nat) : codeFrame (x :: xs) r b =
    (chooseMode x r b :: (codeFrame xs (r - sizeIn x (chooseMode x r b)) (b + 1)).1,
      (codeFrame xs (r - sizeIn x (chooseMode x r b)) (b + 1)).2) := rfl

theorem codeFrame_length (xs : List (List Int)) (r b : Nat) : (codeFrame xs r b).1.length = xs.length := by
  induction xs generalizing r b with
  | nil => rfl
  | cons x xs ih => rw [codeFrame_cons, List.length_cons, List.length_cons, ih]

/-- The blocks to the end of a frame and what they leave make up the bytes there were. -/
theorem codeFrame_sum (hx : ∀ x ∈ xs, x.length = 64) (hb : b + xs.length = 64) (hr : 33 * xs.length ≤ r) :
    (List.zipWith sizeIn xs (codeFrame xs r b).1).sum + (codeFrame xs r b).2 = r := by
  induction xs generalizing r b with
  | nil => exact Nat.zero_add r
  | cons x xs ih =>
    rw [List.forall_mem_cons] at hx
    obtain ⟨hx, hxs⟩ := hx
    rw [List.length_cons] at hb hr
    have hfits : sizeIn x (chooseMode x r b) ≤ r - 33 * (63 - b) := chooseMode_leaves hx (by omega)
    have hrest := ih (r := r - sizeIn x (chooseMode x r b)) (b := b + 1) hxs (by omega) (by omega)
    rw [codeFrame_cons, List.zipWith_cons_cons, List.sum_cons]
    omega

/-- With 97 bytes for each block left none is reduced. -/
theorem codeFrame_full (hx : ∀ x ∈ xs, x.length = 64) (hb : b + xs.length = 64) (hr : 97 * xs.length ≤ r) :
    ∀ m ∈ (codeFrame xs r b).1, m = (0, 0) := by
  induction xs generalizing r b with
  | nil => exact fun m hm => absurd hm List.not_mem_nil
  | cons x xs ih =>
    rw [List.forall_mem_cons] at hx
    obtain ⟨hx, hxs⟩ := hx
    rw [List.length_cons] at hb hr
    have hfull : chooseMode x r b = (0, 0) := chooseMode_full hx (by omega)
    have hsize : sizeIn x (0, 0) ≤ 97 := bestForm_first_le hx
    rw [codeFrame_cons, hfull, List.forall_mem_cons]
    exact ⟨rfl, ih hxs (by omega) (by omega)⟩

theorem keptSample_full (x : List Int) (i : Nat) : keptSample x 0 0 i = some (x.getD i 0) := by simp [keptSample]

/-- A block coded in full is exact. -/
theorem decodeBlock_full (hx : x.length = 64) (hrange : ∀ v ∈ x, -2048 ≤ v ∧ v < 2048) :
    decodeBlock (encodeBlock x 0 0 (bestForm x 0 0).2) = x.map some := by
  rw [decodeBlock_encodeBlock hx hrange (Nat.zero_le 4) (Nat.zero_le 1) (bestForm_snd_lt x 0 0)]
  conv_rhs => rw [map_getD_range hx, List.map_map]
  exact List.map_congr_left fun i _ => keptSample_full x i

end

/-- A frame's share of a budget of `n` bytes or more for each block of a whole frame has `n` for each of its own (R183). -/
theorem mul_le_share {n g nb : Nat} (hg : n * 64 ≤ g) : n * nb ≤ g * nb / 64 := by
  rw [Nat.le_div_iff_mul_le (by decide)]
  calc n * nb * 64 = n * 64 * nb := Nat.mul_right_comm ..
    _ ≤ g * nb := Nat.mul_le_mul_right nb hg

/-- Settles O59: the last mode takes 33 bytes at most, so each block fits and leaves as much for each later one; 97 bytes hold any block
in full. -/
theorem everyBlockFitsItsBudget : Obligations.EveryBlockFitsItsBudget := by
  refine ⟨?_, ?_⟩
  · intro x r b m hx hb hr hm
    have hfits := chooseMode_leaves (r := r) (b := b) hx (by omega)
    rw [← hm] at hfits
    exact ⟨hfits, by omega, by rw [hm, Ne, chooseMode_eq_full_iff, Nat.not_le]⟩
  · rintro xs g nb r hlen hnb hxs hg rfl
    have hblocks : ∀ x ∈ xs, x.length = 64 := fun x hx => (hxs x hx).1
    have hend : 64 - nb + xs.length = 64 := by omega
    have hshare : 33 * nb ≤ g * nb / 64 := mul_le_share hg
    refine ⟨hshare, (codeFrame_length ..).trans hlen, codeFrame_sum hblocks hend (hlen ▸ hshare), fun hfull => ⟨?_, ?_⟩⟩
    · exact codeFrame_full hblocks hend (hlen ▸ mul_le_share hfull)
    · exact fun x hx => decodeBlock_full (hblocks x hx) (hxs x hx).2

end Sys2Proof.Machine
end

section
/-!
SUPPORT. What the rest of the device leaves of the accumulator: accesses of memory, requests of the sequencers, results of the sessions and reports
touch no bank, plane or frame (R193, R252, R369, R411).
-/

namespace Sys2Proof.Machine

/-- A walk none of whose steps touches the accumulator. -/
theorem foldl_acc {α : Type} {f : State → α → State} (hf : ∀ s x, (f s x).acc = s.acc) (l : List α) (s : State) :
    (l.foldl f s).acc = s.acc :=
  List.foldlRecOn (motive := fun u => u.acc = s.acc) l f rfl fun u hu x _ => (hf u x).trans hu

theorem ite_acc {c : Prop} {_ : Decidable c} {s t u : State} (ht : t.acc = s.acc) (hu : u.acc = s.acc) :
    (if c then t else u).acc = s.acc := by
  split
  · exact ht
  · exact hu

/-! ### Reports -/

theorem onlyReports.acc_eq {A : List Nat} {s t : State} (h : onlyReports A s t) : t.acc = s.acc := (congrArg (fun u : State => u.acc) h.2 : _)

theorem State.raise_acc (s : State) {n : Nat} (k i a a2 : Nat) (hn : n < 256) : (s.raise n k i a a2).acc = s.acc :=
  (State.raise_only [] s n k i a a2 hn).acc_eq

@[simp] theorem State.unmappedAccess_acc (s : State) (req a : Nat) : (s.unmappedAccess req a).acc = s.acc := by
  have hraise : ∀ (u : State) (k : Nat), (u.raise 4 k 0 0 (a / 256)).acc = u.acc := fun u k => u.raise_acc k 0 0 _ (by decide)
  exact ite_acc (hraise s 0) (ite_acc (hraise s 1) (ite_acc (hraise s 2) (ite_acc (hraise s.free.2 _) (hraise s 3))))

/-! ### Accesses of memory -/

@[simp] theorem State.setPoison_acc (s : State) (c a : Nat) (p : Bool) : (s.setPoison c a p).acc = s.acc := by
  unfold State.setPoison
  split <;> rfl

@[simp] theorem State.poke_acc (s : State) (a : Nat) (b : Byte) : (s.poke a b).acc = s.acc := by
  unfold State.poke
  split <;> rfl

@[simp] theorem State.pokeN_acc (bs : List Byte) : ∀ (s : State) (a : Nat), (s.pokeN a bs).acc = s.acc := by
  induction bs with
  | nil => exact fun _ _ => rfl
  | cons b bs ih => exact fun s a => (ih _ _).trans (s.poke_acc a b)

@[simp] theorem State.unpoison_acc (s : State) (a len : Nat) : (s.unpoison a len).acc = s.acc :=
  foldl_acc (fun u i => by
    split
    · exact u.setPoison_acc _ _ _
    · rfl) _ s

@[simp] theorem State.touchPicture_acc (s : State) (a len : Nat) : (s.touchPicture a len).acc = s.acc := by
  unfold State.touchPicture
  split <;> rfl

@[simp] theorem State.store_acc (s : State) (a : Nat) (bs : List Byte) (pre : Nat) : (s.store a bs pre).acc = s.acc := by
  simp only [State.store, State.touchPicture_acc, State.unpoison_acc, State.pokeN_acc]

@[simp] theorem State.drawMeter_acc (s : State) (c req len : Nat) : (s.drawMeter c req len).acc = s.acc := by
  unfold State.drawMeter
  split <;> rfl

@[simp] theorem State.activate_acc (s : State) (c n row req : Nat) : (s.activate c n row req).acc = s.acc := by
  unfold State.activate
  dsimp only
  split <;> rfl

@[simp] theorem State.touchRow_acc (s : State) (c n row req : Nat) : (s.touchRow c n row req).acc = s.acc := by
  unfold State.touchRow
  dsimp only
  split
  · rfl
  · exact s.activate_acc c n row req

@[simp] theorem State.access_acc (s : State) (c b len req : Nat) (wr : Bool) : (s.access c b len req wr).acc = s.acc :=
  (foldl_acc (fun u _ => foldl_acc (fun v _ => v.touchRow_acc _ _ _ _) _ u) _ _).trans (s.drawMeter_acc _ _ _)

@[simp] theorem State.acknowledge_acc (s : State) (ack : Option (Nat × Nat × Nat)) : (s.acknowledge ack).acc = s.acc := by
  unfold State.acknowledge
  split <;> rfl

@[simp] theorem State.writeGranule_acc (s : State) (req a : Nat) (bs : List Byte) (pre : Nat) (ack : Option (Nat × Nat × Nat)) :
    (s.writeGranule req a bs pre ack).acc = s.acc := by
  unfold State.writeGranule
  split
  · rfl
  · unfold State.serveWrite
    split
    · simp only [State.acknowledge_acc, State.store_acc, State.access_acc]
    · simp only [State.acknowledge_acc, State.unmappedAccess_acc]

@[simp] theorem State.dramWrite_acc (s : State) (req a : Nat) (bs : List Byte) : (s.dramWrite req a bs).acc = s.acc := by
  have all : ∀ (n : Nat) (s : State) (a : Nat) (bs : List Byte) (pre : Nat), (State.dramWriteGo n s req a bs pre).acc = s.acc := by
    intro n
    induction n with
    | zero => exact fun _ _ _ _ => rfl
    | succ n ih =>
      intro s a bs pre
      unfold State.dramWriteGo
      split
      · rfl
      · exact (ih _ _ _ _).trans (s.writeGranule_acc _ _ _ _ _)
  exact all _ s a bs 0

@[simp] theorem State.readAccess_acc (s : State) (req a len : Nat) : (s.readAccess req a len).acc = s.acc := by
  unfold State.readAccess
  extract_lets gs u
  have hu : u.acc = s.acc := by
    refine foldl_acc (fun v g => ?_) gs s
    split
    · exact v.access_acc _ _ _ _ _
    · rfl
  split
  · exact (u.unmappedAccess_acc _ _).trans hu
  · exact hu

@[simp] theorem State.unitRead_acc (s : State) (req a len : Nat) : (s.unitRead req a len).acc = s.acc :=
  foldl_acc (fun u g => by
    split
    · rfl
    · exact u.readAccess_acc _ _ _) _ s

/-! ### Requests and results -/

@[simp] theorem State.leadRequest_acc (s : State) (c : Nat) : (s.leadRequest c).acc = s.acc := by
  unfold State.leadRequest
  split
  · next l _ =>
    obtain ⟨q, hq⟩ := s.laneRequest_eq 4 l
    rw [hq]
  · rfl

theorem State.setSessions_acc (s : State) (k : Nat) (l : List Session) : (s.setSessions k l).acc = s.acc := by
  cases l <;> rfl

theorem State.sessionResult_acc (s : State) (k last : Nat) (data : List Byte) : (s.sessionResult k last data).2.acc = s.acc := by
  unfold State.sessionResult
  split
  · rfl
  · exact s.setSessions_acc k _

end Sys2Proof.Machine
end

section
/-!
SUPPORT. Bins and adds of the accumulator (R196 to R199): what an add does to the bins of its bank, how it ends, and how it is interrupted.
-/

namespace Sys2Proof.Machine

section
variable {s t s₀ : State} {k : Nat} {pl : Plan} {b i : Nat}

/-! ### Accumulations read after a write -/

@[simp] theorem State.accOf_setAcc (s : State) (k : Nat) (a : Acc) : (s.setAcc k a).accOf k = a := Tbl.get_set_same _ _ _ _

theorem State.accOf_congr (h : t.acc = s.acc) (k : Nat) : t.accOf k = s.accOf k := by rw [State.accOf, State.accOf, h]

@[simp] theorem State.accOf_setBin (s : State) (pl : Plan) (b i : Nat) (v : Int) (k : Nat) : (s.setBin pl b i v).accOf k = s.accOf k := by
  unfold State.setBin
  split
  · exact State.accOf_congr (s.dramWrite_acc _ _ _) k
  · rfl

/-! ### Bins on die (R192, R196, R197) -/

section
variable (hdie : pl.accDram = false)
include hdie

theorem State.bin_setBin_same (s : State) (b i : Nat) (v : Int) : (s.setBin pl b i v).bin pl b i = v := by
  simp [State.bin, State.setBin, hdie]

theorem State.bin_setBin_ne (s : State) {c j : Nat} (v : Int) (h : pl.binAt c j ≠ pl.binAt b i) :
    (s.setBin pl b i v).bin pl c j = s.bin pl c j := by
  simp [State.bin, State.setBin, hdie, Tbl.get_set_ne _ _ _ _ _ _ h]

end

theorem State.bin_setAcc (s : State) (k : Nat) (a : Acc) (pl : Plan) (b i : Nat) : (s.setAcc k a).bin pl b i = s.bin pl b i := rfl

/-- A sum saturated in 32 bits. -/
def sat32 (v : Int) : Int := satI v (-(2 ^ 31)) (2 ^ 31 - 1)

theorem sat32_eq (v : Int) : sat32 v = max (-2147483648) (min v 2147483647) := rfl

theorem sat32_ne_iff (v : Int) : v ≠ sat32 v ↔ 2147483647 < v ∨ v < -2147483648 := by
  rw [sat32_eq]
  omega

theorem State.addBin_saturated (a : Int) (h : b * pl.k * pl.accL + i ∈ (s.accOf k).satBins) : s.addBin k pl b i false a = s :=
  if_pos (List.contains_iff_mem.mpr h)

/-- A later add, to a bin that has not saturated: the bin takes the saturated sum, and is noted when that is not the sum. -/
theorem State.addBin_adds (a : Int) (h : b * pl.k * pl.accL + i ∉ (s.accOf k).satBins) : s.addBin k pl b i false a =
    (if s.bin pl b i + a = sat32 (s.bin pl b i + a) then s else s.setAcc k { s.accOf k with
      satBins := (b * pl.k * pl.accL + i) :: (s.accOf k).satBins }).setBin pl b i (sat32 (s.bin pl b i + a)) :=
  if_neg (mt List.contains_iff_mem.mp h)

theorem State.addBin_sums (hdie : pl.accDram = false) (a : Int) (h : b * pl.k * pl.accL + i ∉ (s.accOf k).satBins) :
    (s.addBin k pl b i false a).bin pl b i = sat32 (s.bin pl b i + a) ∧
      (b * pl.k * pl.accL + i ∈ ((s.addBin k pl b i false a).accOf k).satBins ↔ s.bin pl b i + a ≠ sat32 (s.bin pl b i + a)) := by
  rw [State.addBin_adds a h]
  refine ⟨State.bin_setBin_same hdie _ _ _ _, ?_⟩
  rw [State.accOf_setBin]
  by_cases hv : s.bin pl b i + a = sat32 (s.bin pl b i + a)
  · rw [if_pos hv]
    exact iff_of_false h (not_not_intro hv)
  · rw [if_neg hv, State.accOf_setAcc]
    exact iff_of_true List.mem_cons_self hv

/-- Only the bin added to changes. -/
theorem State.addBin_other (hdie : pl.accDram = false) (first : Bool) (a : Int) {c j : Nat} (h : pl.binAt c j ≠ pl.binAt b i) :
    (s.addBin k pl b i first a).bin pl c j = s.bin pl c j := by
  cases first with
  | true => exact State.bin_setBin_ne hdie s a h
  | false =>
    by_cases hsat : b * pl.k * pl.accL + i ∈ (s.accOf k).satBins
    · rw [State.addBin_saturated a hsat]
    · rw [State.addBin_adds a hsat, State.bin_setBin_ne hdie _ _ h]
      split
      · rfl
      · exact State.bin_setAcc s k _ pl c j

theorem addBin_saturates (s : State) (k : Nat) (pl : Plan) (b i : Nat) (a : Int) (hdie : pl.accDram = false) :
    (s.addBin k pl b i true a).bin pl b i = a ∧
    (b * pl.k * pl.accL + i ∉ (s.accOf k).satBins →
      (s.addBin k pl b i false a).bin pl b i = max (-2147483648) (min (s.bin pl b i + a) 2147483647) ∧
      (b * pl.k * pl.accL + i ∈ ((s.addBin k pl b i false a).accOf k).satBins ↔
        2147483647 < s.bin pl b i + a ∨ s.bin pl b i + a < -2147483648)) ∧
    (b * pl.k * pl.accL + i ∈ (s.accOf k).satBins → s.addBin k pl b i false a = s) ∧
    ∀ first c j, pl.binAt c j ≠ pl.binAt b i → (s.addBin k pl b i first a).bin pl c j = s.bin pl c j := by
  refine ⟨State.bin_setBin_same hdie s b i a, fun h => ?_, State.addBin_saturated a, fun first c j => State.addBin_other hdie first a⟩
  obtain ⟨hsum, hnoted⟩ := State.addBin_sums hdie a h
  exact ⟨hsum, hnoted.trans (sat32_ne_iff _)⟩

/-! ### What an add leaves of the banks -/

/-- Slot `k` accumulates in `s` as in `s₀`, but for the bins that have saturated. -/
def State.banksAs (s s₀ : State) (k : Nat) : Prop := ∃ sat, s.accOf k = { s₀.accOf k with satBins := sat }

theorem State.banksAs.refl (s : State) (k : Nat) : s.banksAs s k := ⟨_, rfl⟩

theorem State.banksAs.of_accOf (h : s.banksAs s₀ k) (e : t.accOf k = s.accOf k) : t.banksAs s₀ k := by
  obtain ⟨sat, hs⟩ := h
  exact ⟨sat, e.trans hs⟩

/-- The saturated bins noted anew. -/
theorem State.banksAs.note (h : s.banksAs s₀ k) (sat : List Nat) : (s.setAcc k { s.accOf k with satBins := sat }).banksAs s₀ k := by
  obtain ⟨old, hs⟩ := h
  exact ⟨sat, by rw [State.accOf_setAcc, hs]⟩

theorem State.banksAs.foldl {α : Type} {f : State → α → State} (h : s.banksAs s₀ k) (hf : ∀ s x, s.banksAs s₀ k → (f s x).banksAs s₀ k)
    {l : List α} : (l.foldl f s).banksAs s₀ k :=
  List.foldlRecOn (motive := fun u => u.banksAs s₀ k) l f h fun u hu x _ => hf u x hu

theorem State.banksAs.setBin (h : s.banksAs s₀ k) {v : Int} : (s.setBin pl b i v).banksAs s₀ k := h.of_accOf (s.accOf_setBin pl b i v k)

theorem State.banksAs.addBin (h : s.banksAs s₀ k) {first : Bool} {a : Int} : (s.addBin k pl b i first a).banksAs s₀ k := by
  cases first with
  | true => exact h.setBin
  | false =>
    by_cases hsat : b * pl.k * pl.accL + i ∈ (s.accOf k).satBins
    · rwa [State.addBin_saturated a hsat]
    · rw [State.addBin_adds a hsat]
      split
      · exact h.setBin
      · exact (h.note _).setBin

theorem State.banksAs.addChan (h : s.banksAs s₀ k) {pos ch : Nat} {c rho : Int} {first : Bool} {n : Nat} :
    (s.addChan k pl b pos ch c rho first n).banksAs s₀ k := h.foldl fun _ _ h => h.addBin

theorem State.banksAs.addPart (h : s.banksAs s₀ k) {d : Add} : (s.addPart k pl d).banksAs s₀ k := h.foldl fun _ _ h => h.addChan

theorem State.banksAs.unitRead (h : s.banksAs s₀ k) {req a len : Nat} : (s.unitRead req a len).banksAs s₀ k :=
  h.of_accOf (State.accOf_congr (s.unitRead_acc req a len) k)

/-! ### An add ends (R196, R198) -/

/-- The add leaves the slot's list, and its bank's result counts one more, with the accession numbers of its first and last records. -/
theorem State.accOf_endAdd (s : State) (k : Nat) (pl : Plan) (d : Add) : ∃ (r : Result) (sat : List Nat),
    (s.endAdd k pl d).accOf k = { s.accOf k with
      adds := (s.accOf k).adds.tail, banks := Tbl.set {} (s.accOf k).banks d.bank r, satBins := sat } ∧
    r.count = (Tbl.get {} (s.accOf k).banks d.bank).count + 1 ∧ r.last = d.accession ∧
    r.first = if (Tbl.get {} (s.accOf k).banks d.bank).count = 0 then d.accession else (Tbl.get {} (s.accOf k).banks d.bank).first := by
  unfold State.endAdd
  extract_lets b r first begun added r' a stored
  have hbegun : begun.banksAs s k := by
    unfold begun
    split
    · exact (State.banksAs.refl s k).note _
    · split
      · exact (State.banksAs.refl s k).unitRead
      · exact State.banksAs.refl s k
  have hadded : added.banksAs s k := hbegun.foldl fun _ _ h => h.addChan
  obtain ⟨sat, hsat⟩ := hadded
  refine ⟨r', sat, (State.accOf_congr (foldl_acc (fun u _ => u.leadRequest_acc _) _ _) k).trans ?_, rfl, rfl, ?_⟩
  · simp only [stored, State.accOf_setAcc, a, hsat, b]
    rfl
  · simp only [r', first, decide_eq_true_eq, r, b]

end

end Sys2Proof.Machine
end

section
/-!
SUPPORT. The banks of a slot (R198, R199, Table 08-4): what freeing and completing one leaves, and what the slot's registers show of it.
-/

namespace Sys2Proof.Machine

section
variable {s t : State} {k : Nat} {pl : Plan} {b : Nat}

/-! ### Registers -/

/-- The states of the banks start at the first bits of SLOT_STATE. -/
theorem bankFld_place (k b : Nat) : 8 * (0x71018 + 32 * k) ≤ (bankFld k b).addr ∧ (bankFld k b).addr ≤ 8 * (0x71018 + 32 * k) + 2 := by
  unfold bankFld
  split <;> simp only [ACC.SLOT_STATE.BANK0, ACC.SLOT_STATE.BANK1] <;> omega

theorem bankFld_width (k b : Nat) : (bankFld k b).width = 2 := by
  unfold bankFld
  split <;> rfl

theorem State.fld_setF_bank (s : State) (k b : Nat) {v : Nat} (hv : v < 4) : (s.setF (bankFld k b) v).fld (bankFld k b) = v := by
  rw [State.fld_setF_same, bankFld_width]
  exact Nat.mod_eq_of_lt hv

/-- Showing an accumulation writes COUNT and FINISH. -/
theorem State.showAcc_only (s : State) (k : Nat) : onlyRegs [(ACC.SLOT_STATE.COUNT k).addr, (ACC.SLOT_CMD.FINISH k).addr] s (s.showAcc k) :=
  ((onlyRegs_refl _ s).setF (f := ACC.SLOT_STATE.COUNT k) (by simp)).setB (by simp)

theorem State.showAcc_bank (s : State) (k b : Nat) : (s.showAcc k).fld (bankFld k b) = s.fld (bankFld k b) := by
  refine (s.showAcc_only k).1 _ ?_
  have hplace := bankFld_place k b
  simp only [List.mem_cons, List.not_mem_nil, or_false, ACC.SLOT_STATE.COUNT, ACC.SLOT_CMD.FINISH]
  omega

theorem State.showAcc_cur (s : State) (k : Nat) : (s.showAcc k).fld (ACC.SLOT_STATE.CUR k) = s.fld (ACC.SLOT_STATE.CUR k) := by
  refine (s.showAcc_only k).1 _ ?_
  simp only [List.mem_cons, List.not_mem_nil, or_false, ACC.SLOT_STATE.CUR, ACC.SLOT_STATE.COUNT, ACC.SLOT_CMD.FINISH]
  omega

theorem State.showAcc_count (s : State) (k : Nat) :
    (s.showAcc k).fld (ACC.SLOT_STATE.COUNT k) = Tbl.get 0 (s.accOf k).selected (s.fld (ACC.SLOT_STATE.CUR k)) % 2 ^ 21 := by
  refine (State.fld_setB_ne _ _ _ _ ?_).trans (State.fld_setF_same _ _ _)
  simp only [ACC.SLOT_STATE.COUNT, ACC.SLOT_CMD.FINISH]
  omega

theorem State.showAcc_finish (s : State) (k : Nat) :
    (s.showAcc k).fld (ACC.SLOT_CMD.FINISH k) = if (s.accOf k).finish = [] then 0 else 1 := by
  refine (State.fld_setF_same _ _ _).trans ?_
  cases (s.accOf k).finish <;> rfl

@[simp] theorem State.accOf_setF (s : State) (f : Fld) (v k : Nat) : (s.setF f v).accOf k = s.accOf k := rfl

/-! ### A bank freed -/

/-- The accumulation of a slot that has forgotten a bank. -/
def Acc.free (a : Acc) (b : Nat) : Acc :=
  { a with banks := Tbl.set {} a.banks b {}, selected := Tbl.set 0 a.selected b 0, finish := a.finish.filter (· != b) }

theorem State.freeBank_eq (s : State) (k b : Nat) :
    s.freeBank k b = ((s.setAcc k ((s.accOf k).free b)).setF (bankFld k b) 0).showAcc k := rfl

theorem State.accOf_freeBank (s : State) (k b : Nat) : (s.freeBank k b).accOf k = (s.accOf k).free b := s.accOf_setAcc k _

theorem State.freeBank_bank (s : State) (k b : Nat) : (s.freeBank k b).fld (bankFld k b) = 0 :=
  (State.showAcc_bank _ k b).trans (State.fld_setF_bank _ k b (by decide))

theorem State.freeBank_only (s : State) (k b : Nat) :
    onlyRegs [(bankFld k b).addr, (ACC.SLOT_STATE.COUNT k).addr, (ACC.SLOT_CMD.FINISH k).addr] s { s.freeBank k b with acc := s.acc } :=
  (((onlyRegs_refl _ s).setF (f := bankFld k b) (v := 0) (by simp)).setF (f := ACC.SLOT_STATE.COUNT k) (by simp)).setB (by simp)

/-! ### A bank completed -/

/-- The result that completes a bank, before its tag is known. -/
def State.finalResult (s : State) (k : Nat) (pl : Plan) (b : Nat) (trunc : Bool) : Result :=
  { Tbl.get {} (s.accOf k).banks b with
    seq := (s.accOf k).seq % 65536, flags := orFlags (Tbl.get {} (s.accOf k).banks b).flags (if trunc then 256 else 0)
    sat := min 65535 (s.satCount k pl b) }

/-- The accumulation of a slot of which bank `b` has completed with result `r`. -/
def Acc.complete (a : Acc) (b : Nat) (r : Result) : Acc :=
  { a with banks := Tbl.set {} a.banks b r, seq := a.seq + 1, lastDone := some b, finish := a.finish.filter (· != b)
           selected := Tbl.set 0 a.selected b 0 }

/-- A result in the session of its slot, with its tag. -/
def State.tagResult (s : State) (k : Nat) (pl : Plan) (b : Nat) (r : Result) : List Byte × State :=
  s.sessionResult k r.last (resultHead pl r ++ s.resultBins pl b)

/-- A bank is COMPLETE and its slot goes on to the next one; the notice is not raised yet. -/
def State.closeBank (s : State) (k : Nat) (pl : Plan) (b : Nat) (trunc : Bool) : State :=
  let r := s.finalResult k pl b trunc
  let x := s.tagResult k pl b r
  (((x.2.setAcc k ((s.accOf k).complete b { r with tag := x.1 })).setF (bankFld k b) 2).setF (ACC.SLOT_STATE.CUR k)
    (if pl.accSplit then 1 - b else 0)).showAcc k

theorem State.completeBank_eq (s : State) (k : Nat) (pl : Plan) (b : Nat) (trunc : Bool) :
    s.completeBank k pl b trunc = (s.closeBank k pl b trunc).raise (75 + 5 * k) 0 pl.num b 0 := rfl

theorem State.accOf_closeBank (s : State) (k : Nat) (pl : Plan) (b : Nat) (trunc : Bool) : ∃ tag,
    (s.closeBank k pl b trunc).accOf k = (s.accOf k).complete b { s.finalResult k pl b trunc with tag := tag } :=
  ⟨_, State.accOf_setAcc _ k _⟩

theorem State.closeBank_bank (s : State) (k : Nat) (pl : Plan) (b : Nat) (trunc : Bool) :
    (s.closeBank k pl b trunc).fld (bankFld k b) = 2 := by
  refine (State.showAcc_bank _ k b).trans ((State.fld_setF_ne _ _ _ _ ?_).trans (State.fld_setF_bank _ k b (by decide)))
  have hplace := bankFld_place k b
  simp only [ACC.SLOT_STATE.CUR]
  omega

theorem State.closeBank_cur (s : State) (k : Nat) (pl : Plan) (b : Nat) (trunc : Bool) :
    (s.closeBank k pl b trunc).fld (ACC.SLOT_STATE.CUR k) = if pl.accSplit then 1 - b else 0 := by
  refine (State.showAcc_cur _ k).trans ((State.fld_setF_same _ _ _).trans (Nat.mod_eq_of_lt ?_))
  simp only [ACC.SLOT_STATE.CUR]
  split <;> omega

section
variable (hk : k < 8)
include hk

theorem bankFld_below (b : Nat) : (bankFld k b).addr < 14 * 524288 := by
  have hplace := bankFld_place k b
  omega

theorem State.completeBank_bank (s : State) (pl : Plan) (b : Nat) (trunc : Bool) : (s.completeBank k pl b trunc).fld (bankFld k b) = 2 :=
  (State.raise_below _ _ _ _ _ (by omega) (bankFld_below hk b)).trans (s.closeBank_bank k pl b trunc)

theorem State.accOf_completeBank (s : State) (pl : Plan) (b : Nat) (trunc : Bool) : ∃ tag,
    (s.completeBank k pl b trunc).accOf k = (s.accOf k).complete b { s.finalResult k pl b trunc with tag := tag } := by
  obtain ⟨tag, htag⟩ := s.accOf_closeBank k pl b trunc
  exact ⟨tag, (State.accOf_congr (State.raise_acc _ _ _ _ _ (by omega)) k).trans htag⟩

end

/-! ### An add interrupted (R199) -/

/-- The bins have taken a part of an add, and the adds of its bank are forgotten. -/
def State.cutBank (s : State) (k : Nat) (pl : Plan) (d : Add) : State :=
  let u := s.addPart k pl d
  u.setAcc k { u.accOf k with adds := (u.accOf k).adds.filter fun x => x.bank != d.bank }

theorem State.accOf_cutBank (s : State) (k : Nat) (pl : Plan) (d : Add) : ∃ sat, (s.cutBank k pl d).accOf k =
    { s.accOf k with adds := (s.accOf k).adds.filter fun x => x.bank != d.bank, satBins := sat } := by
  obtain ⟨sat, hsat⟩ := (State.banksAs.refl s k).addPart (pl := pl) (d := d)
  exact ⟨sat, (State.accOf_setAcc _ k _).trans (by rw [hsat])⟩

theorem State.addsDone_of_filter {l : List Add} (h : (t.accOf k).adds = l.filter fun x => x.bank != b) : t.addsDone k b = true := by
  simp [State.addsDone, h]

/-- A bank of which no add had ended is freed. -/
theorem State.interruptAdd_empty {d : Add} (h : (Tbl.get {} (s.accOf k).banks d.bank).count = 0) :
    s.interruptAdd k pl d = ((s.cutBank k pl d).freeBank k d.bank).raise (72 + 5 * k) 1 pl.num 0 0 := by
  obtain ⟨sat, hsat⟩ := (State.banksAs.refl s k).addPart (pl := pl) (d := d)
  exact congrArg (fun u : State => u.raise (72 + 5 * k) 1 pl.num 0 0) (if_pos (by rw [hsat]; exact h))

/-- Any other completes with what it holds. -/
theorem State.interruptAdd_begun {d : Add} (h : (Tbl.get {} (s.accOf k).banks d.bank).count ≠ 0) :
    s.interruptAdd k pl d = ((s.cutBank k pl d).completeBank k pl d.bank true).raise (72 + 5 * k) 1 pl.num 0 0 := by
  obtain ⟨sat, hsat⟩ := (State.banksAs.refl s k).addPart (pl := pl) (d := d)
  exact congrArg (fun u : State => u.raise (72 + 5 * k) 1 pl.num 0 0) (if_neg (by rw [hsat]; exact h))

/-- A flag of 256 is bit 8. -/
theorem bitOf_orFlags_truncated (f : Nat) : bitOf (orFlags f 256) 8 = true := by
  have h : (Nat.lor f 256).testBit 8 = true := by
    show (f ||| 256).testBit 8 = true
    rw [Nat.testBit_or, show Nat.testBit 256 8 = true from rfl, Bool.or_true]
  simpa [bitOf, orFlags, Nat.testBit_eq_decide_div_mod_eq, beq_eq_decide] using h

section
variable {d : Add} (hk : k < 8)
include hk

theorem State.interruptAdd_frees (hcount : (Tbl.get {} (s.accOf k).banks d.bank).count = 0) :
    (s.interruptAdd k pl d).addsDone k d.bank = true ∧ (s.interruptAdd k pl d).fld (bankFld k d.bank) = 0 ∧
      Tbl.get {} ((s.interruptAdd k pl d).accOf k).banks d.bank = {} := by
  obtain ⟨sat, hcut⟩ := s.accOf_cutBank k pl d
  have hacc : (s.interruptAdd k pl d).accOf k = ((s.cutBank k pl d).accOf k).free d.bank := by
    rw [State.interruptAdd_empty hcount, State.accOf_congr (State.raise_acc _ _ _ _ _ (by omega)) k, State.accOf_freeBank]
  refine ⟨State.addsDone_of_filter (by rw [hacc, hcut]; rfl), ?_, ?_⟩
  · rw [State.interruptAdd_empty hcount, State.raise_below _ _ _ _ _ (by omega) (bankFld_below hk _), State.freeBank_bank]
  · rw [hacc, Acc.free, Tbl.get_set_same]

theorem State.interruptAdd_completes (hcount : (Tbl.get {} (s.accOf k).banks d.bank).count ≠ 0) :
    (s.interruptAdd k pl d).addsDone k d.bank = true ∧ (s.interruptAdd k pl d).fld (bankFld k d.bank) = 2 ∧
      bitOf (Tbl.get {} ((s.interruptAdd k pl d).accOf k).banks d.bank).flags 8 = true := by
  obtain ⟨sat, hcut⟩ := s.accOf_cutBank k pl d
  obtain ⟨tag, htag⟩ := State.accOf_completeBank hk (s.cutBank k pl d) pl d.bank true
  have hacc : (s.interruptAdd k pl d).accOf k = ((s.cutBank k pl d).accOf k).complete d.bank
      { (s.cutBank k pl d).finalResult k pl d.bank true with tag := tag } := by
    rw [State.interruptAdd_begun hcount, State.accOf_congr (State.raise_acc _ _ _ _ _ (by omega)) k, htag]
  refine ⟨State.addsDone_of_filter (by rw [hacc, hcut]; rfl), ?_, ?_⟩
  · rw [State.interruptAdd_begun hcount, State.raise_below _ _ _ _ _ (by omega) (bankFld_below hk _), State.completeBank_bank hk]
  · rw [hacc, Acc.complete, Tbl.get_set_same]
    exact bitOf_orFlags_truncated _

end

/-! ### The command -/

section
variable {sl : Slot} {d : Add} {rest : List Add} (hsl : s.slotOf? k = some sl) (hpl : s.planOf sl.plan = some pl)
  (hadds : (s.accOf k).adds = d :: rest)
include hsl hpl hadds

theorem effAccumAddEnd_oldest : effAccumAddEnd k s = if s.addLost pl d then s.interruptAdd k pl d
    else if s.addReady pl d && !s.binsWait k pl d.bank then s.endAdd k pl d else s := by
  unfold effAccumAddEnd
  rw [hsl]
  simp only [hpl, hadds]

theorem accumAddEnd_interrupts (hlost : s.addLost pl d = true) (hnum : pl.num < 256) (hk : k < 8) : ∃ u : State,
    exec (.accumAddEnd k) s = .next u.settle ∧ reported (72 + 5 * k) 1 pl.num 0 u ∧ u.addsDone k d.bank = true ∧
      ((Tbl.get {} (s.accOf k).banks d.bank).count = 0 → u.fld (bankFld k d.bank) = 0 ∧ Tbl.get {} (u.accOf k).banks d.bank = {}) ∧
      ((Tbl.get {} (s.accOf k).banks d.bank).count ≠ 0 → u.fld (bankFld k d.bank) = 2 ∧
        bitOf (Tbl.get {} (u.accOf k).banks d.bank).flags 8 = true) := by
  refine ⟨s.interruptAdd k pl d, ?_, State.raise_reported _ _ _ _ _ _ (by omega) (by omega) (by decide) hnum (by decide), ?_⟩
  · exact congrArg (fun u : State => Host.Outcome.next u.settle) ((effAccumAddEnd_oldest hsl hpl hadds).trans (if_pos hlost))
  by_cases hcount : (Tbl.get {} (s.accOf k).banks d.bank).count = 0
  · obtain ⟨hdone, hfreed⟩ := State.interruptAdd_frees (s := s) (pl := pl) hk hcount
    exact ⟨hdone, fun _ => hfreed, fun h => absurd hcount h⟩
  · obtain ⟨hdone, hcomplete⟩ := State.interruptAdd_completes (s := s) (pl := pl) hk hcount
    exact ⟨hdone, fun h => absurd h hcount, fun _ => hcomplete⟩

theorem accumAddEnd_ends (hlost : s.addLost pl d = false) (hready : s.addReady pl d = true) (hwait : s.binsWait k pl d.bank = false) :
    ∃ u : State, exec (.accumAddEnd k) s = .next u.settle ∧ (u.accOf k).adds = rest ∧
      (Tbl.get {} (u.accOf k).banks d.bank).count = (Tbl.get {} (s.accOf k).banks d.bank).count + 1 ∧
      (Tbl.get {} (u.accOf k).banks d.bank).last = d.accession ∧
      ((Tbl.get {} (s.accOf k).banks d.bank).count = 0 → (Tbl.get {} (u.accOf k).banks d.bank).first = d.accession) ∧
      ((Tbl.get {} (s.accOf k).banks d.bank).count ≠ 0 →
        (Tbl.get {} (u.accOf k).banks d.bank).first = (Tbl.get {} (s.accOf k).banks d.bank).first) ∧
      ∀ c ≠ d.bank, Tbl.get {} (u.accOf k).banks c = Tbl.get {} (s.accOf k).banks c := by
  obtain ⟨r, sat, hacc, hcount, hlast, hfirst⟩ := s.accOf_endAdd k pl d
  refine ⟨s.endAdd k pl d, ?_, ?_⟩
  · exact congrArg (fun u : State => Host.Outcome.next u.settle)
      ((effAccumAddEnd_oldest hsl hpl hadds).trans ((if_neg (by simp [hlost])).trans (if_pos (by simp [hready, hwait]))))
  rw [hacc]
  dsimp only
  rw [Tbl.get_set_same]
  exact ⟨congrArg List.tail hadds, hcount, hlast, fun h => hfirst.trans (if_pos h), fun h => hfirst.trans (if_neg h),
    fun c hc => Tbl.get_set_ne _ _ _ _ _ _ hc⟩

theorem accumAddEnd_waits (hlost : s.addLost pl d = false) (h : s.addReady pl d = false ∨ s.binsWait k pl d.bank = true) :
    exec (.accumAddEnd k) s = .next s.settle := by
  refine congrArg (fun u : State => Host.Outcome.next u.settle)
    ((effAccumAddEnd_oldest hsl hpl hadds).trans ((if_neg (by simp [hlost])).trans (if_neg ?_)))
  rcases h with h | h <;> simp [h]

end

end

end Sys2Proof.Machine
end

section
/-!
SUPPORT. The imager's planes (R203 to R206, R211): live writes that are refused or pending, planes marked for a clear, hits and decay.
-/

namespace Sys2Proof.Machine

section
variable {s : State} {p r v : Nat}

/-! ### ACC.RESULT -/

theorem accResult_addrs : ACC.RESULT.PLANE.addr ≠ ACC.RESULT.RESULT.addr := by decide

/-- The answer to a live write, without its notice. -/
def State.answerPlane (s : State) (p r : Nat) : State := (s.setF ACC.RESULT.PLANE p).setF ACC.RESULT.RESULT r

theorem State.answerPlane_shows (s : State) (hp : p < 4) (hr : r < 16) :
    (s.answerPlane p r).fld ACC.RESULT.RESULT = r ∧ (s.answerPlane p r).fld ACC.RESULT.PLANE = p :=
  ⟨(State.fld_setF_same _ _ _).trans (Nat.mod_eq_of_lt hr),
    (State.fld_setF_ne _ _ _ _ accResult_addrs).trans ((State.fld_setF_same _ _ _).trans (Nat.mod_eq_of_lt hp))⟩

theorem onlyRegs.answerPlane {A : List Nat} {t : State} (h : onlyRegs A s t) (hresult : ACC.RESULT.RESULT.addr ∈ A)
    (hplane : ACC.RESULT.PLANE.addr ∈ A) : onlyRegs A s (t.answerPlane p r) := (h.setF hplane).setF hresult

theorem State.accResult_refuses (s : State) (hp : p < 4) (hr : 0 < r ∧ r < 16) : (s.accResult p r).fld ACC.RESULT.RESULT = r ∧
    (s.accResult p r).fld ACC.RESULT.PLANE = p ∧ reported 222 r p 0 (s.accResult p r) ∧
    onlyReports [ACC.RESULT.RESULT.addr, ACC.RESULT.PLANE.addr] s (s.accResult p r) := by
  have heq : s.accResult p r = (s.answerPlane p r).raise 222 r p 0 0 := if_neg hr.1.ne'
  obtain ⟨hresult, hplane⟩ := s.answerPlane_shows hp hr.2
  have hfld : ∀ {g : Fld}, g.addr < 14 * 524288 → (s.accResult p r).fld g = (s.answerPlane p r).fld g := fun hg => by
    rw [heq, State.raise_below _ _ _ _ _ (by decide) hg]
  refine ⟨(hfld (by decide)).trans hresult, (hfld (by decide)).trans hplane, ?_, ?_⟩
  · rw [heq]
    exact State.raise_reported _ _ _ _ _ _ (by decide) (by decide) (by omega) (by omega) (by decide)
  · rw [heq]
    exact onlyReports_trans (onlyReports_of_onlyRegs ((onlyRegs_refl _ s).answerPlane (by simp) (by simp)))
      (State.raise_only _ _ _ _ _ _ _ (by decide))

/-! ### Live writes (R211) -/

@[simp] theorem State.plane_setPlane (s : State) (p : Nat) (x : Plane) : (s.setPlane p x).plane p = x := Tbl.get_set_same _ _ _ _

theorem State.plane_setPlane_ne (s : State) {p q : Nat} (x : Plane) (h : q ≠ p) : (s.setPlane p x).plane q = s.plane q :=
  Tbl.get_set_ne _ _ _ _ _ _ h

/-- Writes that wait, of which the latest of a key replaces any earlier one. -/
def latest (l : List (Nat × Nat)) (key v : Nat) : List (Nat × Nat) := (l.filter fun e => e.1 != key) ++ [(key, v)]

theorem latest_last (l : List (Nat × Nat)) (key v : Nat) : (latest l key v).getLast? = some (key, v) := List.getLast?_concat

theorem latest_once (l : List (Nat × Nat)) (key v : Nat) : ((latest l key v).filter fun e => e.1 == key).length = 1 := by
  have hold : (l.filter fun e => e.1 != key).filter (fun e => e.1 == key) = [] := by
    rw [List.filter_filter, List.filter_eq_nil_iff]
    simp
  rw [latest, List.filter_append, hold]
  simp

/-- A live write that has been accepted. -/
def State.pendPlane (s : State) (p r v : Nat) : State :=
  ((s.setPlane p { s.plane p with pend := latest (s.plane p).pend r v }).setF (ACC.PLANE_STATUS.PEND p) 1).answerPlane p 0

theorem State.pendPlane_shows (s : State) (hp : p < 4) (r v : Nat) : (s.pendPlane p r v).fld ACC.RESULT.RESULT = 0 ∧
    (s.pendPlane p r v).fld ACC.RESULT.PLANE = p ∧ (s.pendPlane p r v).fld (ACC.PLANE_STATUS.PEND p) = 1 ∧
    ((s.pendPlane p r v).plane p).pend = latest (s.plane p).pend r v ∧
    onlyRegs [ACC.RESULT.RESULT.addr, ACC.RESULT.PLANE.addr, (ACC.PLANE_STATUS.PEND p).addr] s { s.pendPlane p r v with acc := s.acc } := by
  obtain ⟨hresult, hplane⟩ := State.answerPlane_shows
    ((s.setPlane p { s.plane p with pend := latest (s.plane p).pend r v }).setF (ACC.PLANE_STATUS.PEND p) 1) hp (r := 0) (by decide)
  refine ⟨hresult, hplane, ?_, congrArg Plane.pend (s.plane_setPlane p _),
    ((onlyRegs_refl _ s).setF (f := ACC.PLANE_STATUS.PEND p) (v := 1) (by simp)).answerPlane (p := p) (r := 0) (by simp) (by simp)⟩
  have hne : (ACC.PLANE_STATUS.PEND p).addr ≠ ACC.RESULT.RESULT.addr ∧ (ACC.PLANE_STATUS.PEND p).addr ≠ ACC.RESULT.PLANE.addr := by
    simp only [ACC.PLANE_STATUS.PEND, ACC.RESULT.RESULT, ACC.RESULT.PLANE]
    omega
  exact (State.fld_setF_ne _ _ _ _ hne.1).trans ((State.fld_setF_ne _ _ _ _ hne.2).trans (State.fld_setF_same _ _ _))

/-- Every live write of the imager is taken as `planeTaken` says. -/
theorem planeTaken_planeWrite (s : State) (hp : p < 4) (r v : Nat) {cause : Nat} (hc : cause < 16) :
    planeTaken s p r v cause (.next (s.planeWrite p r v cause)) := by
  intro hs
  have heq : s.planeWrite p r v cause = if s.bit (ACC.PLANE_CFG.ENABLE p) = false then s.accResult p 3
      else if cause ≠ 0 then s.accResult p cause else s.pendPlane p r v := if_pos (by simp [hs, hp])
  refine ⟨fun hoff => ?_, fun hon hbad => ?_, fun hon hok => ?_⟩
  · exact ⟨_, congrArg _ (heq.trans (if_pos hoff)), s.accResult_refuses hp (by decide)⟩
  · exact ⟨_, congrArg _ (heq.trans ((if_neg (by simp [hon])).trans (if_pos hbad))),
      s.accResult_refuses hp ⟨Nat.pos_of_ne_zero hbad, hc⟩⟩
  · obtain ⟨hresult, hplane, hpend, hlist, honly⟩ := s.pendPlane_shows hp r v
    refine ⟨_, congrArg _ (heq.trans ((if_neg (by simp [hon])).trans (if_neg (not_not_intro hok)))), hresult, hplane, hpend, ?_, ?_, honly⟩
    · rw [hlist, latest_last]
    · rw [hlist, latest_once]

theorem curveWrite_pends {i : Nat} (hi : i < 256) (hs : s.served (0x73400 + 4 * i) = true) : ∃ t, exec (.curveWrite i v) s = .next t ∧
    t.regs = s.regs ∧ t.acc.curve.getLast? = some (i, v % 1024) ∧ (t.acc.curve.filter fun x => x.1 == i).length = 1 ∧
    { t with acc := s.acc } = s :=
  ⟨{ s with acc := { s.acc with curve := latest s.acc.curve i (v % 1024) } }, congrArg Host.Outcome.next (if_pos (by simp [hs, hi])), rfl,
    latest_last _ _ _, latest_once _ _ _, rfl⟩

/-! ### Clears asked for (R206) -/

/-- Plane `p` is marked for a clear when the mask names it. -/
def State.markClear (mask : Nat) (s : State) (p : Nat) : State :=
  if bitOf mask p then (s.setPlane p { s.plane p with clear := true }).setF ACC.CMD.CLR_PLANE (withBit (s.fld ACC.CMD.CLR_PLANE) p) else s

theorem State.markClear_clear (mask : Nat) (s : State) (p q : Nat) :
    ((s.markClear mask p).plane q).clear = (decide (q = p) && bitOf mask p || (s.plane q).clear) := by
  unfold State.markClear
  by_cases hm : bitOf mask p = true
  · rw [if_pos hm, hm, Bool.and_true]
    by_cases hq : q = p
    · rw [hq, decide_eq_true rfl, Bool.true_or]
      exact congrArg Plane.clear (s.plane_setPlane p _)
    · rw [decide_eq_false hq, Bool.false_or]
      exact congrArg Plane.clear (s.plane_setPlane_ne _ hq)
  · rw [if_neg hm, Bool.eq_false_iff.mpr hm, Bool.and_false, Bool.false_or]

theorem State.markClear_shown (mask : Nat) (s : State) (p : Nat) {q : Nat} (hq : q < 4) :
    bitOf ((s.markClear mask p).fld ACC.CMD.CLR_PLANE) q = (decide (q = p) && bitOf mask p || bitOf (s.fld ACC.CMD.CLR_PLANE) q) := by
  unfold State.markClear
  by_cases hm : bitOf mask p = true
  · rw [if_pos hm, hm, Bool.and_true, State.fld_setF_same, show ACC.CMD.CLR_PLANE.width = 4 from rfl, bitOf_mod _ _ _ hq, bitOf_withBit]
  · rw [if_neg hm, Bool.eq_false_iff.mpr hm, Bool.and_false, Bool.false_or]

/-- After a walk over the planes of a list, those of them that the mask names are marked, beside those that were. -/
theorem State.markClears_mark (mask : Nat) (l : List Nat) : ∀ (s : State) {q : Nat}, q < 4 →
    ((l.foldl (State.markClear mask) s).plane q).clear = (decide (q ∈ l) && bitOf mask q || (s.plane q).clear) ∧
    bitOf ((l.foldl (State.markClear mask) s).fld ACC.CMD.CLR_PLANE) q = (decide (q ∈ l) && bitOf mask q || bitOf (s.fld ACC.CMD.CLR_PLANE) q) := by
  induction l with
  | nil => exact fun _ _ _ => ⟨rfl, rfl⟩
  | cons p l ih =>
    intro s q hq
    obtain ⟨hclear, hshown⟩ := ih (s.markClear mask p) hq
    rw [State.markClear_clear] at hclear
    rw [State.markClear_shown mask s p hq] at hshown
    refine ⟨hclear.trans ?_, hshown.trans ?_⟩
    all_goals
      by_cases hqp : q = p
      · subst hqp
        cases bitOf mask q <;> simp
      · simp [hqp]

theorem State.markClears_only (mask : Nat) (l : List Nat) (s : State) :
    onlyRegs [ACC.CMD.CLR_PLANE.addr] s { l.foldl (State.markClear mask) s with acc := s.acc } :=
  List.foldlRecOn (motive := fun u : State => onlyRegs [ACC.CMD.CLR_PLANE.addr] s { u with acc := s.acc }) l _ (onlyRegs_refl _ s)
    fun u hu p _ => by
      unfold State.markClear
      split
      · exact hu.setF (f := ACC.CMD.CLR_PLANE) (List.mem_singleton_self _)
      · exact hu

theorem accClrPlane_marks (hs : s.served 0x70000 = true) : ∃ t, exec (.accClrPlane v) s = .next t ∧
    (∀ q < 4, (t.plane q).clear = (bitOf v q || (s.plane q).clear) ∧ (bitOf v q = true → bitOf (t.fld ACC.CMD.CLR_PLANE) q = true)) ∧
    onlyRegs [ACC.CMD.CLR_PLANE.addr] s { t with acc := s.acc } := by
  refine ⟨(List.range 4).foldl (State.markClear v) s, congrArg Host.Outcome.next (if_pos hs), fun q hq => ?_, State.markClears_only v _ s⟩
  obtain ⟨hclear, hshown⟩ := State.markClears_mark v (List.range 4) s hq
  rw [decide_eq_true (List.mem_range.mpr hq), Bool.true_and] at hclear hshown
  exact ⟨hclear, fun hv => by rw [hshown, hv, Bool.true_or]⟩

/-! ### Hits (R204) -/

section
variable {col row : Nat}

theorem State.hitCell_counts (h : Tbl.get 0 (s.plane p).hits (2048 * row + col) ≠ 65535) : s.hitCell p col row =
    s.markChanged.setPlane p { s.plane p with
      hits := Tbl.set 0 (s.plane p).hits (2048 * row + col) (Tbl.get 0 (s.plane p).hits (2048 * row + col) + 1) } := if_neg h

theorem State.hitCell_stays (h : Tbl.get 0 (s.plane p).hits (2048 * row + col) = 65535) :
    s.hitCell p col row = s.markChanged.setF (ACC.PLANE_STATUS.SAT p) 1 := if_pos h

/-- Every other cell of the plane keeps its count. -/
theorem State.hitCell_other (s : State) (p : Nat) {c r : Nat} (hcol : col < 2048) (hc : c < 2048) (h : (c, r) ≠ (col, row)) :
    Tbl.get 0 ((s.hitCell p col row).plane p).hits (2048 * r + c) = Tbl.get 0 (s.plane p).hits (2048 * r + c) := by
  have hkey : 2048 * r + c ≠ 2048 * row + col := fun e => h (by rw [Prod.mk.injEq]; omega)
  by_cases hn : Tbl.get 0 (s.plane p).hits (2048 * row + col) = 65535
  · rw [State.hitCell_stays hn]
    rfl
  · rw [State.hitCell_counts hn, State.plane_setPlane, Tbl.get_set_ne _ _ _ _ _ _ hkey]

theorem hitCell_hits (s : State) (p : Nat) (hcol : col < 2048) :
    (Tbl.get 0 (s.plane p).hits (2048 * row + col) ≠ 65535 →
      Tbl.get 0 ((s.hitCell p col row).plane p).hits (2048 * row + col) = Tbl.get 0 (s.plane p).hits (2048 * row + col) + 1 ∧
      (s.hitCell p col row).regs = s.regs) ∧
    (Tbl.get 0 (s.plane p).hits (2048 * row + col) = 65535 →
      (s.hitCell p col row).plane p = s.plane p ∧ (s.hitCell p col row).fld (ACC.PLANE_STATUS.SAT p) = 1) ∧
    (∀ c r, c < 2048 → (c, r) ≠ (col, row) →
      Tbl.get 0 ((s.hitCell p col row).plane p).hits (2048 * r + c) = Tbl.get 0 (s.plane p).hits (2048 * r + c)) ∧
    (s.hitCell p col row).acc.changed = true := by
  refine ⟨fun hn => ?_, fun hn => ?_, fun c r => State.hitCell_other s p hcol, ?_⟩
  · rw [State.hitCell_counts hn, State.plane_setPlane, Tbl.get_set_same]
    exact ⟨rfl, rfl⟩
  · rw [State.hitCell_stays hn]
    exact ⟨rfl, State.fld_setF_same _ _ _⟩
  · by_cases hn : Tbl.get 0 (s.plane p).hits (2048 * row + col) = 65535
    · rw [State.hitCell_stays hn]
      rfl
    · rw [State.hitCell_counts hn]
      rfl

end

/-! ### Decay (R205) -/

/-- What a decay takes is no more than the count, and not 0 unless the count is. -/
theorem decayed_spec (ds n : Nat) : decayed ds n + (n + 2 ^ ds - 1) / 2 ^ ds = n ∧ (0 < n → decayed ds n < n) ∧ decayed 0 n = 0 := by
  have hpos : 0 < 2 ^ ds := Nat.two_pow_pos ds
  have hle : (n + 2 ^ ds - 1) / 2 ^ ds ≤ n := by
    have hmul : n ≤ 2 ^ ds * n := Nat.le_mul_of_pos_left n hpos
    rw [Nat.div_le_iff_le_mul_add_pred hpos]
    omega
  refine ⟨Nat.sub_add_cancel hle, fun hn => ?_, ?_⟩
  · have hfall : 0 < (n + 2 ^ ds - 1) / 2 ^ ds := Nat.div_pos (by omega) hpos
    exact Nat.sub_lt hn hfall
  · simp [decayed]

end

/-- Settles O28: a bin by whether it has saturated, an add by whether its samples were lost, have come or are waited for, each live write through
`State.planeWrite`, a hit by the count of its cell. -/
theorem accumulatorsSaturateAndPlaneWritesWait : Obligations.AccumulatorsSaturateAndPlaneWritesWait := by
  refine ⟨⟨addBin_saturates, fun s k sl pl d rest hsl hpl hadds => ⟨accumAddEnd_interrupts hsl hpl hadds, accumAddEnd_ends hsl hpl hadds,
    accumAddEnd_waits hsl hpl hadds⟩⟩, fun s p v hp => ?_, fun s p col row _ hcol => hitCell_hits s p hcol, decayed_spec⟩
  have htaken : ∀ (r : Nat) {c : Prop} [Decidable c] {a b : Nat}, a < 16 → b < 16 →
      planeTaken s p r v (if c then a else b) (.next (s.planeWrite p r v (if c then a else b))) := fun r c _ a b ha hb =>
    planeTaken_planeWrite s hp r v (by split <;> assumption)
  exact ⟨htaken 0 (by decide) (by decide), htaken 1 (by decide) (by decide), htaken 2 (by decide) (by decide), htaken 3 (by decide) (by decide),
    planeTaken_planeWrite s hp 4 v (by decide), fun i => curveWrite_pends, accClrPlane_marks⟩

end Sys2Proof.Machine
end

section
/-!
SUPPORT. How the banks of a slot change state (R198, Table 08-4): completion, FINISH and DISCARD.
-/

namespace Sys2Proof.Machine

section
variable {s : State} {k : Nat} {pl : Plan} {b : Nat}

/-! ### Completion -/

theorem Plan.banks_le (pl : Plan) : pl.banks ≤ 2 := by
  unfold Plan.banks
  split <;> decide

theorem Plan.banks_single (h : pl.accSplit = false) : pl.banks = 1 := by simp [Plan.banks, h]

/-- FINISH shows whether a FINISH is noted for another bank than the one that completes. -/
theorem State.closeBank_finish (s : State) (k : Nat) (pl : Plan) (b : Nat) (trunc : Bool) :
    (s.closeBank k pl b trunc).fld (ACC.SLOT_CMD.FINISH k) = if ∃ c ∈ (s.accOf k).finish, c ≠ b then 1 else 0 := by
  refine (State.showAcc_finish _ k).trans ?_
  have hleft : ((s.accOf k).finish.filter (· != b) = []) ↔ ¬ ∃ c ∈ (s.accOf k).finish, c ≠ b := by
    simp [List.filter_eq_nil_iff]
  rw [State.accOf_setF, State.accOf_setF, State.accOf_setAcc, Acc.complete]
  by_cases h : ∃ c ∈ (s.accOf k).finish, c ≠ b
  · rw [if_pos h, if_neg (mt hleft.mp (not_not_intro h))]
  · rw [if_neg h, if_pos (hleft.mpr h)]

/-- The bank that is to go on has no trigger selected into it, where there is one bank. -/
theorem State.closeBank_count (s : State) (k : Nat) (hone : pl.accSplit = false) (trunc : Bool) :
    (s.closeBank k pl 0 trunc).fld (ACC.SLOT_STATE.COUNT k) = 0 := by
  refine (State.showAcc_count _ k).trans ?_
  rw [State.fld_setF_same, hone, if_neg Bool.false_ne_true, Nat.zero_mod, State.accOf_setF, State.accOf_setF, State.accOf_setAcc, Acc.complete,
    Tbl.get_set_same, Nat.zero_mod]

/-- Whether bank `b` of slot `k` can complete, as the command looks at it. -/
def State.bankDone (s : State) (k : Nat) (pl : Plan) (b : Nat) : Bool :=
  s.fld (bankFld k b) == 1 && s.addsDone k b && decide (0 < (Tbl.get {} (s.accOf k).banks b).count) &&
    (decide ((Tbl.get {} (s.accOf k).banks b).count = pl.target) || (s.accOf k).finish.contains b)

theorem State.bankDone_iff : s.bankDone k pl b = true ↔ bankEnds s k pl b := by
  simp [State.bankDone, bankEnds, and_assoc]

section
variable {sl : Slot} (hsl : s.slotOf? k = some sl) (hpl : s.planOf sl.plan = some pl)
include hsl hpl

theorem effBankComplete_looks : effBankComplete k s = ((List.range pl.banks).find? (s.bankDone k pl)).elim s fun b => s.completeBank k pl b false := by
  unfold effBankComplete
  rw [hsl]
  simp only [hpl]
  change (match (List.range pl.banks).find? (s.bankDone k pl) with | some b => _ | none => _) = _
  cases (List.range pl.banks).find? (s.bankDone k pl) <;> rfl

theorem effBankComplete_completes (hb : b < pl.banks) (hends : bankEnds s k pl b) (hfirst : ∀ c < b, ¬ bankEnds s k pl c) :
    effBankComplete k s = s.completeBank k pl b false := by
  have hfind : (List.range pl.banks).find? (s.bankDone k pl) = some b := by
    rw [List.find?_range_eq_some]
    refine ⟨State.bankDone_iff.mpr hends, List.mem_range.mpr hb, fun c hc => ?_⟩
    rw [Bool.not_eq_true', ← Bool.not_eq_true, State.bankDone_iff]
    exact hfirst c hc
  rw [effBankComplete_looks hsl hpl, hfind]
  rfl

theorem effBankComplete_waits (hnone : ∀ b < pl.banks, ¬ bankEnds s k pl b) : effBankComplete k s = s := by
  have hfind : (List.range pl.banks).find? (s.bankDone k pl) = none := by
    rw [List.find?_eq_none]
    intro b hb
    rw [State.bankDone_iff]
    exact hnone b (List.mem_range.mp hb)
  rw [effBankComplete_looks hsl hpl, hfind]
  rfl

end

/-- What the completion of a bank leaves. -/
theorem State.completeBank_shows (s : State) (hk : k < 8) (hnum : pl.num < 256) (hb : b < pl.banks) :
    ∃ t, s.completeBank k pl b false = t ∧ t.fld (bankFld k b) = 2 ∧
      t.fld (ACC.SLOT_STATE.CUR k) = (if pl.accSplit then 1 - b else 0) ∧
      (pl.accSplit = false → t.fld (ACC.SLOT_STATE.COUNT k) = 0) ∧
      (t.accOf k).finish = (s.accOf k).finish.filter (· != b) ∧
      t.fld (ACC.SLOT_CMD.FINISH k) = (if ∃ c ∈ (s.accOf k).finish, c ≠ b then 1 else 0) ∧
      (t.accOf k).lastDone = some b ∧ reported (75 + 5 * k) 0 pl.num b t := by
  have hbanks := pl.banks_le
  have hfld : ∀ {g : Fld}, g.addr < 14 * 524288 → (s.completeBank k pl b false).fld g = (s.closeBank k pl b false).fld g := fun hg =>
    State.raise_below _ _ _ _ _ (by omega) hg
  obtain ⟨tag, hacc⟩ := State.accOf_completeBank hk s pl b false
  refine ⟨_, rfl, State.completeBank_bank hk s pl b false, ?_, fun hone => ?_, ?_, ?_, ?_, ?_⟩
  · rw [hfld (by simp only [ACC.SLOT_STATE.CUR]; omega), State.closeBank_cur]
  · have hzero : b = 0 := by
      rw [Plan.banks_single hone] at hb
      omega
    rw [hfld (by simp only [ACC.SLOT_STATE.COUNT]; omega), hzero, State.closeBank_count s k hone]
  · rw [hacc]
    rfl
  · rw [hfld (by simp only [ACC.SLOT_CMD.FINISH]; omega), State.closeBank_finish]
  · rw [hacc]
    rfl
  · exact State.raise_reported _ _ _ _ _ _ (by omega) (by omega) (by decide) hnum (by omega)

/-! ### FINISH and DISCARD (Table 08-9) -/

/-- CUR names one of the two banks, whatever it holds. -/
theorem bankFld_cur (k cur : Nat) : (bankFld k cur = ACC.SLOT_STATE.BANK0 k ∧ bankFld k (1 - cur) = ACC.SLOT_STATE.BANK1 k) ∨
    (bankFld k cur = ACC.SLOT_STATE.BANK1 k ∧ bankFld k (1 - cur) = ACC.SLOT_STATE.BANK0 k) := by
  rcases cur with _ | n
  · exact .inl ⟨rfl, rfl⟩
  · exact .inr ⟨rfl, by rw [show 1 - (n + 1) = 0 by omega]; rfl⟩

theorem State.accumulating_isSome (h : s.fld (ACC.SLOT_STATE.BANK0 k) = 1 ∨ s.fld (ACC.SLOT_STATE.BANK1 k) = 1) :
    ∃ b, s.accumulating k = some b := by
  unfold State.accumulating
  dsimp only
  rcases bankFld_cur k (s.fld (ACC.SLOT_STATE.CUR k)) with ⟨h0, h1⟩ | ⟨h0, h1⟩
  all_goals
    rw [h0, h1]
    split
    · exact ⟨_, rfl⟩
    · next hcur => exact ⟨_, if_pos (by tauto)⟩

theorem State.accumulating_eq_none (h0 : s.fld (ACC.SLOT_STATE.BANK0 k) ≠ 1) (h1 : s.fld (ACC.SLOT_STATE.BANK1 k) ≠ 1) :
    s.accumulating k = none := by
  unfold State.accumulating
  dsimp only
  rcases bankFld_cur k (s.fld (ACC.SLOT_STATE.CUR k)) with ⟨e0, e1⟩ | ⟨e0, e1⟩
  · rw [e0, e1, if_neg h0, if_neg h1]
  · rw [e0, e1, if_neg h1, if_neg h0]

/-- The banks for which FINISH is noted, with bank `b` among them. -/
def noteFinish (l : List Nat) (b : Nat) : List Nat := if l.contains b then l else l ++ [b]

theorem mem_noteFinish (l : List Nat) (b : Nat) : b ∈ noteFinish l b ∧ ∀ c ∈ l, c ∈ noteFinish l b := by
  unfold noteFinish
  split
  · next h => exact ⟨List.contains_iff_mem.mp h, fun _ hc => hc⟩
  · exact ⟨List.mem_append_right _ (List.mem_singleton_self b), fun _ => List.mem_append_left _⟩

section
variable (hk : k < 8) (hs : s.served (0x71014 + 32 * k) = true)
include hk hs

theorem accFinish_notes (h : s.accumulating k = some b) : ∃ t, exec (.accFinish k) s = .next t ∧ t.fld (ACC.SLOT_CMD.FINISH k) = 1 ∧
    b ∈ (t.accOf k).finish ∧ (∀ c ∈ (s.accOf k).finish, c ∈ (t.accOf k).finish) ∧
    onlyRegs [(ACC.SLOT_CMD.FINISH k).addr] s { t with acc := s.acc } := by
  obtain ⟨hin, hkeep⟩ := mem_noteFinish (s.accOf k).finish b
  have hacc : ((s.setAcc k { s.accOf k with finish := noteFinish (s.accOf k).finish b }).setF (ACC.SLOT_CMD.FINISH k) 1).accOf k =
      { s.accOf k with finish := noteFinish (s.accOf k).finish b } := s.accOf_setAcc k _
  refine ⟨(s.setAcc k { s.accOf k with finish := noteFinish (s.accOf k).finish b }).setF (ACC.SLOT_CMD.FINISH k) 1, ?_,
    State.fld_setF_same _ _ _, by rwa [hacc], by rwa [hacc], onlyRegs_setF _ s _ 1 (List.mem_singleton_self _)⟩
  refine congrArg Host.Outcome.next ((if_pos (by simp [hs, hk])).trans ?_)
  rw [h]
  rfl

theorem accFinish_ignored (h0 : s.fld (ACC.SLOT_STATE.BANK0 k) ≠ 1) (h1 : s.fld (ACC.SLOT_STATE.BANK1 k) ≠ 1) :
    exec (.accFinish k) s = .next s := by
  refine congrArg Host.Outcome.next ((if_pos (by simp [hs, hk])).trans ?_)
  rw [State.accumulating_eq_none h0 h1]

theorem accDiscard_frees (hb : b < 2) (h : s.fld (bankFld k b) = 2) : ∃ t : State, exec (.accDiscard k b) s = .next t.repace ∧
    t.fld (bankFld k b) = 0 ∧ Tbl.get {} (t.accOf k).banks b = {} ∧ b ∉ (t.accOf k).finish ∧
    onlyRegs [(bankFld k b).addr, (ACC.SLOT_STATE.COUNT k).addr, (ACC.SLOT_CMD.FINISH k).addr] s { t with acc := s.acc } := by
  refine ⟨s.freeBank k b, congrArg (fun u : State => Host.Outcome.next u.repace) (if_pos (by simp [hs, hk, hb, h])), s.freeBank_bank k b,
    ?_, ?_, s.freeBank_only k b⟩
  · rw [State.accOf_freeBank, Acc.free, Tbl.get_set_same]
  · rw [State.accOf_freeBank]
    simp [Acc.free]

end

theorem accDiscard_ignored (h : s.fld (bankFld k b) ≠ 2) : exec (.accDiscard k b) s = .next s.repace :=
  congrArg (fun u : State => Host.Outcome.next u.repace) (if_neg (by simp [h]))

end

end Sys2Proof.Machine
end

section
/-!
SUPPORT. The composer's frames (R206, R314, Table 08-8): boundaries taken and dropped, frames begun, and frames whose writes have ended.
-/

namespace Sys2Proof.Machine

/-! ### No step of a frame takes time -/

section
variable {s s₀ : State} {p : Nat}

theorem State.atTime.zeroPlane (h : s.atTime s₀) : (s.zeroPlane p).atTime s₀ := h.setPlane.setF.markChanged

theorem State.atTime.take {f : Fld} {v : Nat} (h : s.atTime s₀) : (s.take f v).2.atTime s₀ := h.setF

theorem State.atTime.applyPlane {r v : Nat} (h : s.atTime s₀) : (s.applyPlane p r v).atTime s₀ := by
  unfold State.applyPlane
  extract_lets zeroIf
  split
  · exact (h.take.setPlane.ite h.take).zeroPlane.ite (h.take.setPlane.ite h.take)
  · exact h.take.take.zeroPlane.ite h.take.take
  · exact h.take.take.zeroPlane.ite h.take.take
  · exact h.setF.setF.setF.setF
  · exact h.setF

theorem State.atTime.applyPending (h : s.atTime s₀) : s.applyPending.atTime s₀ := by
  unfold State.applyPending
  extract_lets planes curve
  have hplanes : planes.atTime s₀ := h.foldl fun _ _ h => by
    extract_lets x written shown
    have hshown : shown.atTime s₀ := (h.foldl fun _ _ h => h.applyPlane.markChanged).setF
    exact (hshown.zeroPlane.ite hshown).setPlane
  have hcurve : curve.atTime s₀ := hplanes.foldl fun _ _ h => h.setF.markChanged
  exact hcurve.frame.setF

theorem State.atTime.decayPlane (h : s.atTime s₀) : (s.decayPlane p).atTime s₀ :=
  h.ite (h.setPlane.ite (h.setPlane.ite (h.ite h.markChanged).setPlane))

end

/-! ### Boundaries -/

section
variable {s : State}

/-- Reports beside a change of the accumulator's own state. -/
theorem onlyReports.beside_acc {A : List Nat} {s t x : State} (h : onlyReports A x t) (k : onlyReports A s { x with acc := s.acc }) :
    onlyReports A s { t with acc := s.acc } :=
  ⟨fun g hg hr => (h.1 g hg hr).trans (k.1 g hg hr), (congrArg (fun u : State =>
    { u with regs := s.regs, mgt := s.mgt, host := s.host, evt := s.evt, out := s.out, acc := s.acc }) h.2 : _).trans k.2⟩

theorem composerFrame_idle (h : s.composing = false ∨ s.boundaryDue = false) : exec .composerFrame s = .next s :=
  congrArg Host.Outcome.next (if_neg (by rcases h with h | h <;> simp [h]))

/-- Steps 1 and 2 of a frame. -/
def State.decayedPlanes (s : State) : State := (List.range 4).foldl State.decayPlane s.applyPending

theorem State.decayedPlanes_now (s : State) : s.decayedPlanes.now = s.now :=
  ((State.atTime.refl s).applyPending.foldl fun _ _ h => h.decayPlane).2.2

/-! ### Steps 3 and 4 of a frame -/

/-- A frame is begun in the surface that is not LAST. -/
def State.beginFrame (s : State) : State :=
  State.setF { s with acc := { s.acc with changed := false, frame := some { boundary := s.now, surface := 1 - s.fld ACC.COMP_STATUS.LAST } } }
    ACC.COMP_STATUS.BUSY 1

theorem State.beginFrame_busy (s : State) : s.beginFrame.bit ACC.COMP_STATUS.BUSY = true := beq_iff_eq.mpr (State.fld_setF_same _ _ _)

/-- Whether a surface is scanned does not depend on the frame. -/
theorem State.beginFrame_scanned (s : State) (surf : Nat) : s.beginFrame.scanned surf = s.scanned surf := by
  have hfld : ∀ g : Fld, g.addr ≠ ACC.COMP_STATUS.BUSY.addr → s.beginFrame.fld g = s.fld g := fun g hg => State.fld_setF_ne _ _ _ _ hg
  unfold State.scanned State.bit
  rw [hfld _ (by decide), hfld _ (by decide), hfld _ (by decide)]
  rfl

/-- A frame that has begun waits for the display to leave its surface. -/
def State.holdFrame (s : State) : State := { s with acc := { s.acc with heldFrame := some s.counts } }

/-- What follows the decay: a frame that has changed writes its surface, or waits while that is scanned; any other ends. -/
def State.finishFrame (s : State) : State :=
  if s.acc.changed then
    if s.beginFrame.scanned (1 - s.fld ACC.COMP_STATUS.LAST) then s.beginFrame.holdFrame
    else s.beginFrame.composeStep4 s.beginFrame.counts (1 - s.fld ACC.COMP_STATUS.LAST)
  else s.bumpF ACC.COMP_COUNTS.UNCHANGED 1

theorem State.composeFrame_eq (s : State) : s.composeFrame = s.decayedPlanes.finishFrame := by
  unfold State.composeFrame
  extract_lets u
  change _ = u.finishFrame
  clear_value u
  rfl

theorem State.finishFrame_unchanged (h : s.acc.changed = false) : s.finishFrame = s.bumpF ACC.COMP_COUNTS.UNCHANGED 1 := if_neg (by simp [h])

theorem State.finishFrame_writes (h : s.acc.changed = true) (hscan : s.scanned (1 - s.fld ACC.COMP_STATUS.LAST) = false) :
    s.finishFrame = s.beginFrame.composeStep4 s.beginFrame.counts (1 - s.fld ACC.COMP_STATUS.LAST) := by
  rw [← s.beginFrame_scanned] at hscan
  exact (if_pos h).trans (if_neg (by simp [hscan]))

theorem State.finishFrame_waits (h : s.acc.changed = true) (hscan : s.scanned (1 - s.fld ACC.COMP_STATUS.LAST) = true) :
    s.finishFrame = s.beginFrame.holdFrame := by
  rw [← s.beginFrame_scanned] at hscan
  exact (if_pos h).trans (if_pos hscan)

section
variable (hc : s.composing = true) (hd : s.boundaryDue = true)
include hc hd

theorem composerFrame_drops (hf : s.acc.frame ≠ none) : ∃ t, exec .composerFrame s = .next t ∧ counted ACC.COMP_OVERRUN.OVERRUN s t ∧
    reported 221 0 0 0 t ∧ t.acc.frame = s.acc.frame ∧ onlyReports [ACC.COMP_OVERRUN.OVERRUN.addr] s { t with acc := s.acc } := by
  have hcount : counted ACC.COMP_OVERRUN.OVERRUN s (s.takeBoundary.bumpF ACC.COMP_OVERRUN.OVERRUN 1) :=
    (State.bumpF_counted _ _).of_same rfl rfl
  refine ⟨(s.takeBoundary.bumpF ACC.COMP_OVERRUN.OVERRUN 1).raise 221 0 0 0 0, ?_, ?_, ?_, ?_, ?_⟩
  · exact congrArg Host.Outcome.next ((if_pos (by simp [hc, hd])).trans (if_pos (Option.isSome_iff_ne_none.mpr hf)))
  · exact hcount.congr (State.raise_below _ _ _ _ _ (by decide) (by decide))
  · exact State.raise_reported _ _ _ _ _ _ (by decide) (by decide) (by decide) (by decide) (by decide)
  · rw [State.raise_acc _ _ _ _ _ (by decide)]
    rfl
  · exact (State.raise_only _ _ _ _ _ _ _ (by decide)).beside_acc
      (onlyReports_bumpF [ACC.COMP_OVERRUN.OVERRUN.addr] s ACC.COMP_OVERRUN.OVERRUN 1 (.inr (List.mem_singleton_self _)))

/-- A boundary outside a frame begins one. -/
theorem composerFrame_composes (hf : s.acc.frame = none) : exec .composerFrame s = .next s.takeBoundary.decayedPlanes.finishFrame := by
  rw [← State.composeFrame_eq]
  exact congrArg Host.Outcome.next ((if_pos (by simp [hc, hd])).trans (if_neg (by simp [State.takeBoundary, hf])))

end

/-! ### Frames whose writes have ended (Table 08-8 step 5) -/

theorem State.fld_wrapF_same (s : State) (f : Fld) (n : Nat) :
    (s.wrapF f n).fld f = if s.justCleared f then s.fld f else (s.fld f + n) % 2 ^ f.width := by
  have hset := State.fld_setF_same s f (s.fld f + n)
  simp only [State.fld, State.wrapF] at hset ⊢
  split
  · rfl
  · exact hset

theorem onlyRegs.wrapF {A : List Nat} {s t : State} (h : onlyRegs A s t) {f : Fld} {n : Nat} (hf : f.addr ∈ A) : onlyRegs A s (t.wrapF f n) :=
  onlyRegs_trans h ⟨fun g hg => State.fld_wrapF_ne t f g n fun e => hg (e ▸ hf), rfl⟩

/-- A frame is over, its surface `surf` LAST. -/
def State.endFrame (s : State) (surf : Nat) : State :=
  State.wrapF (State.setF (State.setF { s with acc := { s.acc with frame := none, composed := true } } ACC.COMP_STATUS.LAST surf)
    ACC.COMP_STATUS.BUSY 0) ACC.COMP_COUNTS.FRAMES 1

theorem State.endFrame_shows (s : State) {surf : Nat} (hs : surf < 2) : (s.endFrame surf).fld ACC.COMP_STATUS.LAST = surf ∧
    (s.endFrame surf).fld ACC.COMP_STATUS.BUSY = 0 ∧
    (s.endFrame surf).fld ACC.COMP_COUNTS.FRAMES = (if s.justCleared ACC.COMP_COUNTS.FRAMES then s.fld ACC.COMP_COUNTS.FRAMES
      else (s.fld ACC.COMP_COUNTS.FRAMES + 1) % 2 ^ ACC.COMP_COUNTS.FRAMES.width) ∧
    onlyRegs [ACC.COMP_STATUS.LAST.addr, ACC.COMP_STATUS.BUSY.addr, ACC.COMP_COUNTS.FRAMES.addr] s { s.endFrame surf with acc := s.acc } := by
  refine ⟨?_, ?_, ?_, ?_⟩
  · refine (State.fld_wrapF_ne _ _ _ _ (by decide)).trans ((State.fld_setF_ne _ _ _ _ (by decide)).trans ?_)
    exact (State.fld_setF_same _ _ _).trans (Nat.mod_eq_of_lt hs)
  · exact (State.fld_wrapF_ne _ _ _ _ (by decide)).trans (State.fld_setF_same _ _ _)
  · refine (State.fld_wrapF_same _ _ 1).trans ?_
    rw [State.fld_setF_ne _ _ _ _ (by decide), State.fld_setF_ne _ _ _ _ (by decide)]
    rfl
  · exact (((onlyRegs_refl _ s).setF (f := ACC.COMP_STATUS.LAST) (v := surf) (by simp)).setF (f := ACC.COMP_STATUS.BUSY) (v := 0)
      (by simp)).wrapF (f := ACC.COMP_COUNTS.FRAMES) (n := 1) (by simp)

theorem composerFrameDone_ends {f : CompFrame} (hf : s.acc.frame = some f) (hheld : s.acc.heldFrame = none)
    (hwrites : ∀ h ∈ s.mem.held, h.req ≠ reqComposer) : exec .composerFrameDone s = .next (s.endFrame f.surface) := by
  have hnone : ¬ (s.mem.held.any fun h => h.req == reqComposer) = true := by simpa using hwrites
  refine congrArg Host.Outcome.next ?_
  unfold effComposerFrameDone
  rw [hf, hheld]
  exact if_neg hnone

theorem composerFrameDone_waits (h : s.acc.frame = none ∨ s.acc.heldFrame ≠ none ∨ ∃ h ∈ s.mem.held, h.req = reqComposer) :
    exec .composerFrameDone s = .next s := by
  refine congrArg Host.Outcome.next ?_
  unfold effComposerFrameDone
  split
  · rfl
  · rfl
  · next f hf hheld =>
    refine if_pos ?_
    simpa [hf, hheld] using h

end

/-- Settles O29: a bank by whether it can complete, accumulates or is COMPLETE, a boundary by the frame under way and by what has changed, a frame's
end by the writes that wait. -/
theorem banksAndComposerFollowTheirTables : Obligations.BanksAndComposerFollowTheirTables := by
  refine ⟨fun s k hk => ⟨?_, ?_, fun hs => ⟨State.accumulating_isSome, fun b => accFinish_notes hk hs, accFinish_ignored hk hs,
    fun b hb => ⟨accDiscard_frees hk hs hb, accDiscard_ignored⟩⟩⟩,
    fun s => ⟨composerFrame_drops, fun hc hd hf => ?_, composerFrame_idle, fun f hf hheld hsurf hwrites => ?_, composerFrameDone_waits⟩⟩
  · rintro u sl pl b rfl hsl hpl hnum hb hends hfirst
    obtain ⟨t, ht, hshows⟩ := s.repace.completeBank_shows hk hnum hb
    exact ⟨t, congrArg (fun u : State => Host.Outcome.next u.repace) ((effBankComplete_completes hsl hpl hb hends hfirst).trans ht), hshows⟩
  · rintro u sl pl rfl hsl hpl hnone
    exact congrArg (fun u : State => Host.Outcome.next u.repace) (effBankComplete_waits hsl hpl hnone)
  · have hexec := composerFrame_composes hc hd hf
    have hnow : s.takeBoundary.decayedPlanes.now = s.now := State.decayedPlanes_now _
    refine ⟨s.takeBoundary.decayedPlanes, rfl, ?_⟩
    generalize s.takeBoundary.decayedPlanes = u at hexec hnow ⊢
    refine ⟨fun h => ?_, fun h => ⟨u.beginFrame, rfl, ?_, u.beginFrame_busy, rfl, rfl, fun hscan => ?_, fun hscan => ?_⟩⟩
    · rw [hexec, State.finishFrame_unchanged h]
    · rw [← hnow]
      rfl
    · rw [hexec, State.finishFrame_writes h hscan]
    · exact ⟨u.beginFrame.holdFrame, hexec.trans (congrArg _ (State.finishFrame_waits h hscan)), rfl, rfl⟩
  · obtain ⟨hlast, hbusy, hframes, honly⟩ := s.endFrame_shows hsurf
    exact ⟨_, composerFrameDone_ends hf hheld hwrites, hlast, hbusy, rfl, rfl, hframes, honly⟩

end Sys2Proof.Machine
end

section
/-!
SUPPORT. The addresses of an enumeration (R232): reports sorted into ring order, stored addresses kept along it, and new ones given to the
units that keep none.
-/

namespace Sys2Proof.Machine

/-! ### Ring order -/

/-- Report `x` stands before `y` in ring order: by ascending HOPS_B, those without HOPS_B last and by descending HOPS_A. -/
def Report.before (x y : Report) : Prop :=
  (0 < x.hopsB ∧ (y.hopsB = 0 ∨ x.hopsB ≤ y.hopsB)) ∨ (x.hopsB = 0 ∧ y.hopsB = 0 ∧ y.hopsA ≤ x.hopsA)

theorem Report.before.trans {x y z : Report} (h : x.before y) (k : y.before z) : x.before z := by
  unfold Report.before at *
  omega

/-- The test of an insertion: report `r` goes before `x`. -/
def Report.precedes (r x : Report) : Bool :=
  if r.hopsB = 0 then x.hopsB == 0 && decide (x.hopsA < r.hopsA) else x.hopsB == 0 || decide (r.hopsB < x.hopsB)

theorem ringInsert_cons (r x : Report) (t : List Report) :
    ringInsert r (x :: t) = if r.precedes x then r :: x :: t else x :: ringInsert r t := rfl

theorem Report.before_of_precedes {r x : Report} (h : r.precedes x = true) : r.before x := by
  unfold Report.precedes at h
  unfold Report.before
  split at h
  · simp only [Bool.and_eq_true, beq_iff_eq, decide_eq_true_eq] at h
    omega
  · simp only [Bool.or_eq_true, beq_iff_eq, decide_eq_true_eq] at h
    omega

theorem Report.before_of_not_precedes {r x : Report} (h : ¬ r.precedes x = true) : x.before r := by
  unfold Report.precedes at h
  unfold Report.before
  split at h
  · simp only [Bool.and_eq_true, beq_iff_eq, decide_eq_true_eq] at h
    omega
  · simp only [Bool.or_eq_true, beq_iff_eq, decide_eq_true_eq] at h
    omega

theorem ringInsert_perm (r : Report) (l : List Report) : (ringInsert r l).Perm (r :: l) := by
  induction l with
  | nil => exact .refl _
  | cons x t ih =>
    rw [ringInsert_cons]
    split
    · exact .refl _
    · exact (ih.cons x).trans (.swap r x t)

theorem ringInsert_pairwise (r : Report) {l : List Report} (h : l.Pairwise Report.before) : (ringInsert r l).Pairwise Report.before := by
  induction l with
  | nil => exact List.pairwise_singleton _ _
  | cons x t ih =>
    obtain ⟨hx, ht⟩ := List.pairwise_cons.mp h
    rw [ringInsert_cons]
    split
    · next hr =>
      have hrx := Report.before_of_precedes hr
      exact List.pairwise_cons.mpr ⟨List.forall_mem_cons.mpr ⟨hrx, fun y hy => hrx.trans (hx y hy)⟩, h⟩
    · next hr =>
      have hxr := Report.before_of_not_precedes hr
      exact List.pairwise_cons.mpr ⟨fun y hy =>
        List.forall_mem_cons.mpr ⟨hxr, hx⟩ y ((ringInsert_perm r t).mem_iff.mp hy), ih ht⟩

theorem ringOrder_perm (l : List Report) : (ringOrder l).Perm l := by
  have hfold : ∀ (l a : List Report), (l.foldl (fun a r => ringInsert r a) a).Perm (a ++ l) := by
    intro l
    induction l with
    | nil => exact fun a => .of_eq (List.append_nil a).symm
    | cons r l ih => exact fun a => (ih _).trans (((ringInsert_perm r a).append_right l).trans List.perm_middle.symm)
  exact hfold l []

theorem ringOrder_pairwise (l : List Report) : (ringOrder l).Pairwise Report.before :=
  List.foldlRecOn (motive := List.Pairwise Report.before) l _ .nil fun _ h r _ => ringInsert_pairwise r h

/-! ### Addresses kept -/

/-- The addresses in use, the reports with the address each keeps, or 0, and the addresses in conflict. -/
abbrev KeptAddrs := List Nat × List (Report × Nat) × List Nat

/-- One report of `keepAddrs`. -/
def keepStep (x : KeptAddrs) (r : Report) : KeptAddrs :=
  if r.stored && decide (1 ≤ r.addr) && decide (r.addr ≤ 254) then
    if x.1.contains r.addr then (x.1, x.2.1 ++ [(r, 0)], x.2.2 ++ [r.addr])
    else (r.addr :: x.1, x.2.1 ++ [(r, r.addr)], x.2.2)
  else (x.1, x.2.1 ++ [(r, 0)], x.2.2)

theorem keepAddrs_eq (dealer : Nat) (l : List Report) : keepAddrs dealer l = l.foldl keepStep ([dealer], [], []) := rfl

/-- A report keeps a free address of its own from 1 to 254, or none. -/
theorem keepStep_cases (x : KeptAddrs) (r : Report) :
    ((keepStep x r).1 = x.1 ∧ (keepStep x r).2.1 = x.2.1 ++ [(r, 0)]) ∨
    ((1 ≤ r.addr ∧ r.addr ≤ 254) ∧ r.addr ∉ x.1 ∧ (keepStep x r).1 = r.addr :: x.1 ∧ (keepStep x r).2.1 = x.2.1 ++ [(r, r.addr)]) := by
  unfold keepStep
  split
  · next h =>
    split
    · exact .inl ⟨rfl, rfl⟩
    · next hc =>
      simp only [Bool.and_eq_true, decide_eq_true_eq] at h
      exact .inr ⟨⟨h.1.2, h.2⟩, by simpa using hc, rfl, rfl⟩
  · exact .inl ⟨rfl, rfl⟩

/-- What holds once the reports `done` have been looked at. -/
structure KeptAfter (dealer : Nat) (done : List Report) (x : KeptAddrs) : Prop where
  reports : x.2.1.map Prod.fst = done
  used : x.1.Perm (dealer :: (x.2.1.map Prod.snd).filter (· ≠ 0))
  nodup : x.1.Nodup
  range : ∀ a ∈ x.1, 1 ≤ a ∧ a ≤ 254

theorem KeptAfter.step {dealer : Nat} {done : List Report} {x : KeptAddrs} (h : KeptAfter dealer done x) (r : Report) :
    KeptAfter dealer (done ++ [r]) (keepStep x r) := by
  rcases keepStep_cases x r with ⟨hused, hkept⟩ | ⟨hr, hfree, hused, hkept⟩
  · exact ⟨by simp [hkept, h.reports], by simpa [hused, hkept] using h.used, hused ▸ h.nodup, hused ▸ h.range⟩
  · refine ⟨by simp [hkept, h.reports], ?_, hused ▸ List.nodup_cons.mpr ⟨hfree, h.nodup⟩, hused ▸ List.forall_mem_cons.mpr ⟨hr, h.range⟩⟩
    have hne : r.addr ≠ 0 := by omega
    have hlist : ((keepStep x r).2.1.map Prod.snd).filter (· ≠ 0) = (x.2.1.map Prod.snd).filter (· ≠ 0) ++ [r.addr] := by simp [hkept, hne]
    rw [hused, hlist]
    exact (h.used.cons r.addr).trans (List.perm_append_singleton r.addr (dealer :: _)).symm

theorem keepAddrs_keeps {dealer : Nat} (hd : 1 ≤ dealer ∧ dealer ≤ 254) (l : List Report) : KeptAfter dealer l (keepAddrs dealer l) := by
  have hfold : ∀ (l done : List Report) (x : KeptAddrs), KeptAfter dealer done x → KeptAfter dealer (done ++ l) (l.foldl keepStep x) := by
    intro l
    induction l with
    | nil => exact fun done x h => (List.append_nil done).symm ▸ h
    | cons r l ih => exact fun done x h => List.append_cons done r l ▸ ih _ _ (h.step r)
  rw [keepAddrs_eq]
  exact hfold l [] _ ⟨rfl, .refl _, List.nodup_singleton _, by simpa using hd⟩

/-! ### Addresses given -/

/-- The addresses in use, the assignments, and whether a unit went without one. -/
abbrev GivenAddrs := List Nat × List Assign × Bool

/-- One report of `giveAddrs`. -/
def giveStep (x : GivenAddrs) (r : Report × Nat) : GivenAddrs :=
  if r.2 ≠ 0 then x
  else if lowestFree x.1 = 0 then (x.1, x.2.1, true)
  else (lowestFree x.1 :: x.1, x.2.1 ++ [⟨r.1.serial, lowestFree x.1, false⟩], x.2.2)

theorem giveAddrs_eq (used : List Nat) (l : List (Report × Nat)) : giveAddrs used l = l.foldl giveStep (used, [], false) := rfl

theorem lowestFree_free {used : List Nat} (h : lowestFree used ≠ 0) :
    (1 ≤ lowestFree used ∧ lowestFree used ≤ 254) ∧ lowestFree used ∉ used := by
  have hdef : lowestFree used = (((List.range 254).map (· + 1)).find? fun a => !used.contains a).getD 0 := rfl
  cases hfind : ((List.range 254).map (· + 1)).find? fun a => !used.contains a with
  | none => exact absurd (hdef.trans (congrArg (Option.getD · 0) hfind)) h
  | some a =>
    have ha : lowestFree used = a := hdef.trans (congrArg (Option.getD · 0) hfind)
    have hmem := List.mem_of_find?_eq_some hfind
    have hfree := List.find?_some hfind
    simp only [List.mem_map, List.mem_range] at hmem
    rw [ha]
    exact ⟨by omega, by simpa using hfree⟩

/-- What holds once the reports `done`, with the addresses they keep, have been looked at. -/
structure GivenAfter (used : List Nat) (done : List (Report × Nat)) (x : GivenAddrs) : Prop where
  all : x.1.Perm (used ++ x.2.1.map Assign.addr)
  nodup : x.1.Nodup
  range : ∀ a ∈ x.1, 1 ≤ a ∧ a ≤ 254
  served : x.2.2 = false → x.2.1.length = ((done.map Prod.snd).filter (· = 0)).length

theorem GivenAfter.step {used : List Nat} {done : List (Report × Nat)} {x : GivenAddrs} (h : GivenAfter used done x) (r : Report × Nat) :
    GivenAfter used (done ++ [r]) (giveStep x r) := by
  unfold giveStep
  split
  · next hr => exact ⟨h.all, h.nodup, h.range, by simpa [hr] using h.served⟩
  · next hr =>
    split
    · exact ⟨h.all, h.nodup, h.range, by simp⟩
    · next ha =>
      obtain ⟨hrange, hfree⟩ := lowestFree_free ha
      refine ⟨?_, List.nodup_cons.mpr ⟨hfree, h.nodup⟩, List.forall_mem_cons.mpr ⟨hrange, h.range⟩, fun hfull => ?_⟩
      · rw [List.map_append, ← List.append_assoc]
        exact (h.all.cons _).trans (List.perm_append_singleton _ _).symm
      · simp [h.served hfull, not_not.mp hr]

theorem giveAddrs_gives {used : List Nat} (hnd : used.Nodup) (hr : ∀ a ∈ used, 1 ≤ a ∧ a ≤ 254) (l : List (Report × Nat)) :
    GivenAfter used l (giveAddrs used l) := by
  have hfold : ∀ (l done : List (Report × Nat)) (x : GivenAddrs), GivenAfter used done x →
      GivenAfter used (done ++ l) (l.foldl giveStep x) := by
    intro l
    induction l with
    | nil => exact fun done x h => (List.append_nil done).symm ▸ h
    | cons r l ih => exact fun done x h => List.append_cons done r l ▸ ih _ _ (h.step r)
  rw [giveAddrs_eq]
  exact hfold l [] _ ⟨by simp, hnd, hr, fun _ => rfl⟩

/-- Settles O34: an insertion keeps ring order, and what `keepAddrs` and `giveAddrs` have used is at every report the dealer's address, the
kept and the given ones, none twice. -/
theorem addressesAreDistinct : Obligations.AddressesAreDistinct := by
  intro l dealer used used' clash kept given full hlo hhi hkeep hgive
  have hk : KeptAfter dealer (ringOrder l) (used, kept, clash) := hkeep ▸ keepAddrs_keeps ⟨hlo, hhi⟩ _
  have hg : GivenAfter used kept (used', given, full) := hgive ▸ giveAddrs_gives hk.nodup hk.range kept
  have hall : used'.Perm (dealer :: ((kept.map Prod.snd).filter (· ≠ 0) ++ given.map Assign.addr)) :=
    hg.all.trans (hk.used.append_right _)
  exact ⟨ringOrder_perm l, ringOrder_pairwise l, hk.reports, hall.nodup_iff.mp hg.nodup,
    fun a ha => hg.range a (hall.mem_iff.mpr (List.mem_cons_of_mem _ ha)), hg.served⟩

end Sys2Proof.Machine
end

section
/-!
SUPPORT. The transmit queues of the Quoda ports (R217, R218, R222, R228): what sending leaves as it was, and what an idle port does with
one item.
-/

namespace Sys2Proof.Machine

/-! ### What sending leaves -/

/-- `s` is `s₀` but for what its ports have sent and hold to be sent, and for a message that was dropped and reported. -/
def State.sentFrom (s s₀ : State) : Prop :=
  onlyReports [ENS.DEAL_COUNTS.MSG_DROPPED.addr] s₀ { s with ens := s₀.ens } ∧
  { s.ens with tx := s₀.ens.tx, callEnd := s₀.ens.callEnd, msgEnd := s₀.ens.msgEnd, runLen := s₀.ens.runLen, asked := s₀.ens.asked,
               msgSeq := s₀.ens.msgSeq } = s₀.ens

section
variable {s s₀ : State}

theorem State.sentFrom.refl (s : State) : s.sentFrom s := ⟨onlyReports_refl _ s, rfl⟩

theorem State.sentFrom.emit {x : Out} (h : s.sentFrom s₀) : (s.emit x).sentFrom s₀ := ⟨onlyReports_trans h.1 (onlyReports_emit _ _ x), h.2⟩

theorem State.sentFrom.foldl {α : Type} {f : State → α → State} (h : s.sentFrom s₀) (hf : ∀ s x, s.sentFrom s₀ → (f s x).sentFrom s₀)
    {l : List α} : (l.foldl f s).sentFrom s₀ :=
  List.foldlRecOn (motive := fun s => State.sentFrom s s₀) l f h fun s h x _ => hf s x h

theorem State.sentFrom.leaveToken {p t : Nat} {k : Nat × Nat × Nat × Nat} (h : s.sentFrom s₀) : (s.leaveToken p t k).sentFrom s₀ := by
  refine State.sentFrom.emit ?_
  split
  · exact h
  · exact h

theorem State.sentFrom.startTx {p : Nat} {x : TxItem} {t : Nat} (h : s.sentFrom s₀) : (s.startTx p x t).sentFrom s₀ := by
  unfold State.startTx
  extract_lets run full start stop rest msg _ ens u
  have hstart : State.sentFrom { s with ens := ens } s₀ := h
  have hu : u.sentFrom s₀ := hstart.foldl fun _ _ h => h.emit
  split
  · exact hu.leaveToken
  · exact hu

theorem State.sentFrom.pumpTx {fuel p : Nat} (h : s.sentFrom s₀) : (State.pumpTx fuel s p).sentFrom s₀ := by
  induction fuel generalizing s with
  | zero => exact h
  | succ fuel ih =>
    unfold State.pumpTx
    split
    · exact ih h.startTx
    · exact h

theorem State.sentFrom.pumpPort {p : Nat} (h : s.sentFrom s₀) : (s.pumpPort p).sentFrom s₀ := h.pumpTx

theorem State.sentFrom.joinTx {p room : Nat} {x : TxItem} (h : s.sentFrom s₀) : (s.joinTx p room x).2.sentFrom s₀ := by
  unfold State.joinTx
  extract_lets u l
  have hu : u.sentFrom s₀ := h.pumpPort
  split
  · exact hu
  · exact State.sentFrom.pumpPort (s := { u with ens := { u.ens with tx := Tbl.set [] u.ens.tx p (l ++ [x]) } }) hu

/-- A message dropped at a full queue is counted and reported (R218). -/
theorem State.sentFrom.dropMsg {p : Nat} (h : s.sentFrom s₀) : ((s.bumpF ENS.DEAL_COUNTS.MSG_DROPPED 1).overflow p 1).sentFrom s₀ := by
  have hraise := State.raise_only [ENS.DEAL_COUNTS.MSG_DROPPED.addr] (s.bumpF ENS.DEAL_COUNTS.MSG_DROPPED 1) 116 1 p 0 0 (by decide)
  refine ⟨hraise.beside_ens ?_, ?_⟩
  · exact onlyReports_trans h.1 (onlyReports_bumpF _ { s with ens := s₀.ens } _ 1 (.inr (List.mem_singleton_self _)))
  · rw [State.overflow, hraise.ens_eq]
    exact h.2

theorem State.sentFrom.queueMsg {p blocks : Nat} {forwarded : Bool} {outs : List Out} (h : s.sentFrom s₀) :
    (s.queueMsg p blocks forwarded outs).2.sentFrom s₀ := by
  unfold State.queueMsg
  extract_lets r
  split
  · exact h.joinTx
  · exact h.joinTx.dropMsg

theorem State.sentFrom.sendOn {p : Nat} {forwarded : Bool} {m : Msg} (h : s.sentFrom s₀) : (s.sendOn p forwarded m).sentFrom s₀ := h.queueMsg

theorem State.sentFrom.originateOn {ports : List Nat} {typ dst : Nat} {data : List Byte} (h : s.sentFrom s₀) :
    (s.originateOn ports typ dst data).sentFrom s₀ :=
  State.sentFrom.foldl (s := s.takeSeq.2) h fun s p h => by
    split
    · exact h.sendOn
    · exact h

theorem State.sentFrom.originate {typ dst : Nat} {data : List Byte} (h : s.sentFrom s₀) : (s.originate typ dst data).sentFrom s₀ :=
  h.originateOn

/-- The registers of the ensemble block but for the count of dropped messages. -/
theorem State.sentFrom.fld (h : s.sentFrom s₀) {g : Fld} (hg : g.addr ≠ ENS.DEAL_COUNTS.MSG_DROPPED.addr) (hr : isReport g = false) :
    s.fld g = s₀.fld g := h.1.1 g (List.mem_singleton.not.mpr hg) hr

/-- A port that is UP stays so while messages are sent. -/
theorem State.sentFrom.portUp (h : s.sentFrom s₀) {p : Nat} (hp : p < 2) : s.portUp p = s₀.portUp p := by
  have hne : (ENS.PORT_STATUS.STATE p).addr ≠ ENS.DEAL_COUNTS.MSG_DROPPED.addr := by
    simp only [ENS.PORT_STATUS.STATE, ENS.DEAL_COUNTS.MSG_DROPPED]
    omega
  have hbelow : isReport (ENS.PORT_STATUS.STATE p) = false := isReport_below (by simp only [ENS.PORT_STATUS.STATE]; omega)
  rw [State.portUp, State.portUp, h.fld hne hbelow]

end

/-! ### An idle port -/

section
variable {s : State} {p : Nat}

/-- The queue of port `p` holds `x` alone. -/
def State.putTx (s : State) (p : Nat) (x : TxItem) : State := { s with ens := { s.ens with tx := Tbl.set [] s.ens.tx p [x] } }

theorem State.putTx_waits (s : State) (p : Nat) (x : TxItem) : (s.putTx p x).txWaits p = [x] := Tbl.get_set_same [] s.ens.tx p [x]

theorem State.pumpPort_idle (h : s.nextTx p = none) : s.pumpPort p = s := by
  unfold State.pumpPort
  cases (s.txWaits p).length with
  | zero => rfl
  | succ fuel =>
    unfold State.pumpTx
    rw [h]

theorem State.pumpTx_starts {x : TxItem} {t : Nat} (fuel : Nat) (h : s.nextTx p = some (x, t)) :
    State.pumpTx (fuel + 1) s p = State.pumpTx fuel (s.startTx p x t) p := by
  simp only [State.pumpTx, h]

theorem State.nextTx_nothing (h : s.txWaits p = []) : s.nextTx p = none := by
  unfold State.nextTx
  rw [h]
  rfl

/-- An ordinary message that waits alone starts when the port is free and its time has come. -/
theorem State.nextTx_alone {x : TxItem} (hx : x.call = false) : (s.putTx p x).nextTx p =
    if max (s.txEnds p) x.at_ ≤ s.fifths then some (x, max (s.txEnds p) x.at_) else none := by
  have hcall : startOf true ((s.putTx p x).callEnds p) [x] = none := by simp [startOf, hx]
  have hmsg : startOf false ((s.putTx p x).txEnds p) [x] = some (max (s.txEnds p) x.at_) := by
    simp only [startOf, List.find?_cons, hx, beq_self_eq_true, Option.map_some]
    rfl
  have hfirst : firstOf false (max (s.txEnds p) x.at_) [x] = some x := by
    simp only [firstOf, List.filter_cons, hx, Nat.le_max_right, beq_self_eq_true, decide_true, Bool.and_self, if_true, List.filter_nil,
      List.find?_cons, List.find?_nil]
    split
    · next y hy =>
      split at hy
      · exact hy.symm
      · cases hy
    · rfl
  unfold State.nextTx
  simp only [State.putTx_waits, hcall, hmsg, hfirst, Option.map_some]
  rfl

/-- An item joins the queue of a port that can start nothing, where there is room. -/
theorem State.joinTx_idle {x : TxItem} {room : Nat} (h : s.nextTx p = none) : s.joinTx p room x =
    if room ≤ ((s.txWaits p).filter fun y => y.call == x.call).length then (false, s)
    else (true, State.pumpPort { s with ens := { s.ens with tx := Tbl.set [] s.ens.tx p (s.txWaits p ++ [x]) } } p) := by
  unfold State.joinTx
  rw [State.pumpPort_idle h]

/-- An item that joins an empty queue is pumped as the one item of it. -/
theorem State.joinTx_empty {x : TxItem} {room : Nat} (h : s.txWaits p = []) (hr : 0 < room) :
    s.joinTx p room x = (true, (s.putTx p x).pumpPort p) := by
  rw [State.joinTx_idle (State.nextTx_nothing h), h]
  exact if_neg (Nat.not_le.mpr hr)

theorem State.joinTx_leaves {x : TxItem} {room : Nat} (h : s.txWaits p = []) (hr : 0 < room) (hx : x.call = false)
    (hfree : s.txEnds p ≤ x.at_) (hat : x.at_ ≤ s.fifths) : s.joinTx p room x = (true, (s.putTx p x).startTx p x x.at_) := by
  have hnext := State.nextTx_alone (s := s) (p := p) hx
  rw [Nat.max_eq_right hfree, if_pos hat] at hnext
  rw [State.joinTx_empty h hr, State.pumpPort, State.putTx_waits]
  exact congrArg (Prod.mk true) (State.pumpTx_starts 0 hnext)

theorem State.joinTx_waits {x : TxItem} {room : Nat} (h : s.txWaits p = []) (hr : 0 < room) (hx : x.call = false)
    (hlate : s.fifths < max (s.txEnds p) x.at_) : s.joinTx p room x = (true, s.putTx p x) := by
  rw [State.joinTx_empty h hr, State.pumpPort_idle ((State.nextTx_alone hx).trans (if_neg (Nat.not_le.mpr hlate)))]

theorem State.joinTx_full {x : TxItem} {room : Nat} (h : s.nextTx p = none)
    (hf : room ≤ ((s.txWaits p).filter fun y => y.call == x.call).length) : s.joinTx p room x = (false, s) :=
  (State.joinTx_idle h).trans (if_pos hf)

theorem State.foldl_emit (l : List Out) (s : State) : l.foldl State.emit s = { s with out := l.reverse ++ s.out } := by
  induction l generalizing s with
  | nil => rfl
  | cons x l ih => rw [List.foldl_cons, ih, List.reverse_cons, List.append_assoc]; rfl

/-- What an item that is no TOKEN carries goes out when it starts. -/
theorem State.startTx_message {x : TxItem} (t : Nat) (hx : x.token = none) :
    ∃ e, s.startTx p x t = { s with ens := e, out := x.outs.reverse ++ s.out } ∧ e.msgSeq = s.ens.msgSeq := by
  unfold State.startTx
  extract_lets run full start stop rest msg _ ens u
  have hu : u = { s with ens := ens, out := x.outs.reverse ++ s.out } := State.foldl_emit _ _
  rw [hx, hu]
  exact ⟨_, rfl, rfl⟩

/-- A TOKEN leaves a free port at the time it starts, stamped then (R228). -/
theorem State.startTx_token {x : TxItem} {t : Nat} {k : Nat × Nat × Nat × Nat} (hx : x.token = some k) (hlen : x.len ≤ 31) (houts : x.outs = [])
    (hfree : s.txEnds p < t) : ∃ e, s.startTx p x t = State.leaveToken { s with ens := e } p t k ∧ e.asked = s.ens.asked := by
  unfold State.startTx
  extract_lets run full start stop rest msg _ ens u
  have hrun : run = 0 := if_neg (Nat.not_le.mpr hfree)
  have hstart : start = t := if_neg (by unfold full; rw [hrun]; simpa using hlen)
  have hu : u = { s with ens := ens } := by
    unfold u
    rw [houts]
    rfl
  rw [hx, hstart, hu]
  exact ⟨_, rfl, rfl⟩

end

end Sys2Proof.Machine
end

section
/-!
SUPPORT. Messages sent and copies received (R215, R217, R218, R221, R222): how a message leaves, waits or is dropped, and what a copy does
whose check fails.
-/

namespace Sys2Proof.Machine

/-! ### A message originated -/

/-- An ordinary message of the unit, as its pair leaves a port (R217, R222). -/
def TxItem.pair (p at_ : Nat) (m : Msg) : TxItem :=
  { call := false, forwarded := false, at_ := at_, len := 2 * (1 + m.nblk) + 2,
    outs := [.quoda p ({ m with copy := 0 } : Msg).bytes, .guards p, .quoda p ({ m with copy := 1 } : Msg).bytes] }

section
variable {s : State} {typ dst : Nat} {data : List Byte} {m : Msg} (hup : s.portUp 0 = true) (hdown : s.portUp 1 = false)
  (hm : m = { typ := typ, dst := dst, src := s.fld ENS.STATUS.ADDR, hops := 0, seq := s.ens.msgSeq, copy := 0, nblk := nblkOf typ,
              data := data })
include hup hdown hm

/-- With one port UP, a message goes out of that port alone. -/
theorem State.originate_onePort : s.originate typ dst data = s.takeSeq.2.sendOn 0 false m := by
  have hdown' : (s.takeSeq.2.sendOn 0 false m).portUp 1 = false :=
    ((State.sentFrom.refl s.takeSeq.2).sendOn.portUp (by decide)).trans hdown
  subst hm
  exact (congrArg (fun u : State => if u.portUp 1 then u.sendOn 1 false _ else u) (if_pos hup)).trans (if_neg (Bool.eq_false_iff.mp hdown'))

theorem originate_leaves (hw : s.txWaits 0 = []) (hfree : s.txEnds 0 ≤ s.fifths) :
    (s.originate typ dst data).out = .quoda 0 ({ m with copy := 1 } : Msg).bytes :: .guards 0 :: .quoda 0 m.bytes :: s.out ∧
    (s.originate typ dst data).ens.msgSeq = (s.ens.msgSeq + 1) % 2 ^ 15 ∧ (s.originate typ dst data).regs = s.regs := by
  have hjoin := State.joinTx_leaves (s := s.takeSeq.2) (p := 0) (room := 4) (x := .pair 0 s.fifths m) hw (by decide) rfl hfree (Nat.le_refl _)
  obtain ⟨e, hstart, hseq⟩ := State.startTx_message (s := s.takeSeq.2.putTx 0 (.pair 0 s.fifths m)) (p := 0) (x := .pair 0 s.fifths m)
    s.fifths rfl
  have hsent : s.originate typ dst data = (s.takeSeq.2.putTx 0 (.pair 0 s.fifths m)).startTx 0 (.pair 0 s.fifths m) s.fifths := by
    rw [State.originate_onePort hup hdown hm]
    exact congrArg (fun r : Bool × State =>
      (if r.1 then r else (false, (r.2.bumpF ENS.DEAL_COUNTS.MSG_DROPPED 1).overflow 0 1)).2) hjoin
  have hcopy : ({ m with copy := 0 } : Msg) = m := by rw [hm]
  rw [hsent, hstart]
  refine ⟨?_, hseq, rfl⟩
  rw [TxItem.pair, hcopy]
  rfl

theorem originate_waits (hw : s.txWaits 0 = []) (hbusy : s.fifths < s.txEnds 0) : (s.originate typ dst data).out = s.out ∧
    ((s.originate typ dst data).txWaits 0).map TxItem.outs = [[.quoda 0 m.bytes, .guards 0, .quoda 0 ({ m with copy := 1 } : Msg).bytes]] := by
  have hjoin := State.joinTx_waits (s := s.takeSeq.2) (p := 0) (room := 4) (x := .pair 0 s.fifths m) hw (by decide) rfl
    (Nat.lt_of_lt_of_le hbusy (Nat.le_max_left ..))
  have hsent : s.originate typ dst data = s.takeSeq.2.putTx 0 (.pair 0 s.fifths m) := by
    rw [State.originate_onePort hup hdown hm]
    exact congrArg (fun r : Bool × State =>
      (if r.1 then r else (false, (r.2.bumpF ENS.DEAL_COUNTS.MSG_DROPPED 1).overflow 0 1)).2) hjoin
  have hcopy : ({ m with copy := 0 } : Msg) = m := by rw [hm]
  rw [hsent]
  refine ⟨rfl, ?_⟩
  rw [State.putTx_waits, List.map_singleton, TxItem.pair, hcopy]

theorem originate_dropped (hnext : s.nextTx 0 = none) (hfull : 4 ≤ ((s.txWaits 0).filter fun x => x.call == false).length) :
    counted ENS.DEAL_COUNTS.MSG_DROPPED s (s.originate typ dst data) ∧ reported 116 1 0 0 (s.originate typ dst data) ∧
    (s.originate typ dst data).ens.tx = s.ens.tx := by
  have hjoin := State.joinTx_full (s := s.takeSeq.2) (p := 0) (room := 4) (x := .pair 0 s.fifths m) hnext hfull
  have hsent : s.originate typ dst data = (s.takeSeq.2.bumpF ENS.DEAL_COUNTS.MSG_DROPPED 1).raise 116 1 0 0 0 := by
    rw [State.originate_onePort hup hdown hm]
    exact congrArg (fun r : Bool × State =>
      (if r.1 then r else (false, (r.2.bumpF ENS.DEAL_COUNTS.MSG_DROPPED 1).overflow 0 1)).2) hjoin
  have hcount : counted ENS.DEAL_COUNTS.MSG_DROPPED s (s.takeSeq.2.bumpF ENS.DEAL_COUNTS.MSG_DROPPED 1) :=
    (State.bumpF_counted s.takeSeq.2 _).of_same rfl rfl
  rw [hsent]
  refine ⟨hcount.congr (State.raise_below _ _ _ _ _ (by decide) (by decide)),
    State.raise_reported _ _ _ _ _ _ (by decide) (by decide) (by decide) (by decide) (by decide), ?_⟩
  rw [State.raise_ens _ _ _ _ _ (by decide)]
  rfl

end

/-! ### A copy that arrives damaged (R215, R221) -/

section
variable {s : State} {p sub : Nat} {bl : List WireBlock}

theorem State.erroredBlocks_counts (s : State) (p : Nat) (bl : List WireBlock) :
    countedBy (bl.filter wireErrored).length (ENS.PORT_ERR.BLOCK_ERR p) s (s.erroredBlocks p bl) ∧
    onlyRegs [(ENS.PORT_ERR.BLOCK_ERR p).addr] s (s.erroredBlocks p bl) :=
  ⟨s.bumpF_countedBy _ _, (onlyRegs_refl _ s).bumpF (List.mem_singleton_self _)⟩

/-- A copy that fails its check. -/
def State.failCopy (s : State) (p : Nat) (bl : List WireBlock) : State := (s.erroredBlocks p bl).bumpF (ENS.PORT_ERR.CRC_ERR p) 1

theorem State.failCopy_counts (s : State) (p : Nat) (bl : List WireBlock) : counted (ENS.PORT_ERR.CRC_ERR p) s (s.failCopy p bl) ∧
    countedBy (bl.filter wireErrored).length (ENS.PORT_ERR.BLOCK_ERR p) s (s.failCopy p bl) ∧
    onlyRegs [(ENS.PORT_ERR.CRC_ERR p).addr, (ENS.PORT_ERR.BLOCK_ERR p).addr] s (s.failCopy p bl) := by
  obtain ⟨hblocks, honly⟩ := s.erroredBlocks_counts p bl
  have hne : (ENS.PORT_ERR.CRC_ERR p).addr ≠ (ENS.PORT_ERR.BLOCK_ERR p).addr := by
    simp only [ENS.PORT_ERR.CRC_ERR, ENS.PORT_ERR.BLOCK_ERR]
    omega
  refine ⟨(State.bumpF_counted _ _).of_same (honly.1 _ (List.mem_singleton.not.mpr hne)) rfl,
    hblocks.of_same rfl rfl (State.fld_bumpF_ne _ _ _ _ hne.symm), ?_⟩
  exact (honly.weaken (List.subset_cons_self _ _)).bumpF List.mem_cons_self

section
variable (hup : s.portUp p = true) (hrun : s.portsRun = true)
include hup hrun

theorem State.takeMsg_nothing {typ : Nat} {op : Option Nat} {act : Msg → Bool → State → State} (h : msgBlocks bl = []) :
    s.takeMsg p typ op bl act = s.erroredBlocks p bl := by
  simp [State.takeMsg, hup, hrun, h]

theorem State.takeMsg_fails {typ : Nat} {op : Option Nat} {act : Msg → Bool → State → State} (h : msgBlocks bl ≠ [])
    (hc : readCopy (msgBlocks bl) = none) : s.takeMsg p typ op bl act = s.failCopy p bl := by
  unfold State.takeMsg
  rw [hup, hrun, hc]
  cases hbl : msgBlocks bl with
  | nil => exact absurd hbl h
  | cons b bs => rfl

end

/-- What is done with a STAT that the unit takes. -/
def takeStat (m : Msg) (fresh : Bool) (s : State) : State := if s.ownMsg m then s else if fresh then s.useStat m else s.fewerHops m

theorem effStatMessage_unread (h : readCopy (msgBlocks bl) = none) : effStatMessage p bl s = s.takeMsg p 4 none bl takeStat := by
  unfold effStatMessage
  rw [h]
  rfl

theorem State.portUp_state (h : s.portUp p = true) : p < 2 ∧ s.fld (ENS.PORT_STATUS.STATE p) = 2 := by
  simpa [State.portUp] using h

section
variable (hup : s.portUp p = true) (hrun : s.portsRun = true)
include hup hrun

theorem effTokenRequest_nothing (h : msgBlocks bl = []) : effTokenRequest p bl sub s = s.erroredBlocks p bl := by
  obtain ⟨hp, hst⟩ := State.portUp_state hup
  simp [effTokenRequest, hp, hst, hrun, h]

theorem effTokenReply_nothing (h : msgBlocks bl = []) : effTokenReply p bl sub s = s.erroredBlocks p bl := by
  obtain ⟨hp, hst⟩ := State.portUp_state hup
  simp [effTokenReply, hp, hst, hrun, h]

theorem effTokenRequest_fails (h : msgBlocks bl ≠ []) (hc : readCopy (msgBlocks bl) = none) :
    effTokenRequest p bl sub s = s.failCopy p bl := by
  obtain ⟨hp, hst⟩ := State.portUp_state hup
  simp [effTokenRequest, hp, hst, hrun, hc, State.failCopy]

/-- A copy whose check fails counts at its port and does nothing else, whichever message its command names. -/
theorem copy_fails (h : msgBlocks bl ≠ []) (hc : readCopy (msgBlocks bl) = none) :
    ∀ c ∈ [Instr.enumScan p bl, .enumReport p bl, .enumAssign p bl, .enumAck p bl, .enumDone p bl, .dealArm p bl, .dealDisarm p bl,
      .timeMessage p bl, .statMessage p bl, .tokenRequest p bl sub], exec c s = .next (s.failCopy p bl) := by
  have htake : ∀ typ op act, (Host.Outcome.next (s.takeMsg p typ op bl act) : Res) = .next (s.failCopy p bl) :=
    fun _ _ _ => congrArg Host.Outcome.next (State.takeMsg_fails hup hrun h hc)
  have hstat : (Host.Outcome.next (effStatMessage p bl s) : Res) = .next (s.failCopy p bl) :=
    (congrArg Host.Outcome.next (effStatMessage_unread hc)).trans (htake _ _ _)
  have htoken := congrArg (Host.Outcome.next : State → Res) (effTokenRequest_fails (sub := sub) hup hrun h hc)
  simp only [List.forall_mem_cons]
  exact ⟨htake _ _ _, htake _ _ _, htake _ _ _, htake _ _ _, htake _ _ _, htake _ _ _, htake _ _ _, htake _ _ _, hstat, htoken,
    fun _ hn => absurd hn List.not_mem_nil⟩

/-- Blocks outside a message count where they are errored, and do nothing else. -/
theorem noMessage_counts (h : msgBlocks bl = []) :
    ∀ c ∈ [Instr.enumScan p bl, .enumReport p bl, .enumAssign p bl, .enumAck p bl, .enumDone p bl, .dealArm p bl, .dealDisarm p bl,
      .timeMessage p bl, .statMessage p bl, .tokenRequest p bl sub, .tokenReply p bl sub], exec c s = .next (s.erroredBlocks p bl) := by
  have htake : ∀ typ op act, (Host.Outcome.next (s.takeMsg p typ op bl act) : Res) = .next (s.erroredBlocks p bl) :=
    fun _ _ _ => congrArg Host.Outcome.next (State.takeMsg_nothing hup hrun h)
  have hstat : (Host.Outcome.next (effStatMessage p bl s) : Res) = .next (s.erroredBlocks p bl) :=
    (congrArg Host.Outcome.next (effStatMessage_unread ((congrArg readCopy h).trans readCopy_nil))).trans (htake _ _ _)
  have hrequest := congrArg (Host.Outcome.next : State → Res) (effTokenRequest_nothing (sub := sub) hup hrun h)
  have hreply := congrArg (Host.Outcome.next : State → Res) (effTokenReply_nothing (sub := sub) hup hrun h)
  simp only [List.forall_mem_cons]
  exact ⟨htake _ _ _, htake _ _ _, htake _ _ _, htake _ _ _, htake _ _ _, htake _ _ _, htake _ _ _, htake _ _ _, hstat, hrequest, hreply,
    fun _ hn => absurd hn List.not_mem_nil⟩

end

end

end Sys2Proof.Machine
end

section
/-!
SUPPORT. Calls (R215, R218, R220, R223, R224, R237, R240): a copy received, the call it spells taken once, its pair judged, its delivery to
the slots, and a call lost.
-/

namespace Sys2Proof.Machine

theorem onlyRegs.ens_eq {A : List Nat} {s t : State} (h : onlyRegs A s t) : t.ens = s.ens := (congrArg (fun u : State => u.ens) h.2 : _)

/-- A change of registers beside one of the ensemble's own state. -/
theorem onlyRegs.beside_ens {A : List Nat} {s t : State} {e : EnsSt} (h : onlyRegs A { s with ens := e } t) :
    onlyRegs A s { t with ens := s.ens } :=
  ⟨h.1, congrArg (fun u : State => { u with ens := s.ens }) h.2⟩

/-! ### A copy received (R215, R218, R220) -/

section
variable {s : State} {p : Nat} {second : Bool} {bl : List WireBlock}

/-- What a copy of a call does whose errored blocks have been counted: it is forwarded and judged with its pair, and it is taken where it is
intact, else it counts. -/
def State.takeCopy (u : State) (p : Nat) (second : Bool) (three : List WireBlock) (intact : Bool) : State :=
  if intact then ((u.forwardCall p second ((callTypes three).headD false) (three.flatMap WireBlock.bytes) intact).judgePair p second
    intact).acceptCall (readCall (callBody (three.flatMap WireBlock.bytes)))
  else ((u.forwardCall p second ((callTypes three).headD false) (three.flatMap WireBlock.bytes) intact).judgePair p second intact).bumpF
    (ENS.PORT_ERR.CRC_ERR p) 1

/-- A copy is intact whose blocks are of the types of a call and whose check passes. -/
def callIntact (three : List WireBlock) : Bool :=
  decide (callTypes three = [true, true, true]) &&
    callCrc (three.flatMap WireBlock.bytes) == crc24 (callBody (three.flatMap WireBlock.bytes))

theorem effCallReceive_takes (hup : s.portUp p = true) (hrun : s.portsRun = true) (hlen : 3 ≤ bl.length) :
    effCallReceive p second bl s = (s.erroredBlocks p bl).takeCopy p second (bl.drop (bl.length - 3))
      (callIntact (bl.drop (bl.length - 3))) := by
  unfold effCallReceive
  rw [if_pos (by simp [hup, hrun, hlen])]
  unfold State.takeCopy callIntact
  with_reducible rfl

variable {three : List WireBlock} {bs : List Byte} (hbs : bs = three.flatMap WireBlock.bytes)
include hbs

theorem State.takeCopy_intact (u : State) (ht : callTypes three = [true, true, true]) (hc : callCrc bs = crc24 (callBody bs)) :
    u.takeCopy p second three (callIntact three) =
      ((u.forwardCall p second true bs true).judgePair p second true).acceptCall (readCall (callBody bs)) := by
  subst hbs
  have hintact : callIntact three = true := by simp [callIntact, ht, hc]
  rw [hintact, State.takeCopy, if_pos rfl, ht, List.headD_cons]

theorem State.takeCopy_damaged (u : State) (h : callTypes three ≠ [true, true, true] ∨ callCrc bs ≠ crc24 (callBody bs)) :
    u.takeCopy p second three (callIntact three) = ((u.forwardCall p second ((callTypes three).headD false) bs false).judgePair p second
      false).bumpF (ENS.PORT_ERR.CRC_ERR p) 1 := by
  subst hbs
  have hdamaged : callIntact three = false := by
    rcases h with h | h
    · simp [callIntact, h]
    · simp [callIntact, h]
  rw [hdamaged, State.takeCopy, if_neg (by decide)]

end

/-! ### A call taken (R223, R224, R237) -/

/-- A SEQ just entered in a window is no longer accepted. -/
theorem accepts_pushSeq (w : List Nat) (q : Nat) : accepts (pushSeq w q) q = false := by
  have hcontains : (pushSeq w q).contains q = true := by simp [pushSeq]
  unfold accepts
  split
  · next hnone => simp [pushSeq] at hnone
  · rw [hcontains, Bool.not_true, Bool.and_false]

theorem State.knowCalls_eq (s : State) (src q : Nat) (including : Bool) :
    ∃ e, s.knowCalls src q including = { s with ens := e } ∧ e.deliver = s.ens.deliver ∧ e.callSeen = s.ens.callSeen := by
  unfold State.knowCalls
  split
  · exact ⟨_, rfl, rfl, rfl⟩
  · split
    · exact ⟨_, rfl, rfl, rfl⟩
    · exact ⟨_, rfl, rfl, rfl⟩

theorem State.setTrickNext_only (s : State) (v : Nat) :
    onlyRegs [ENS.TRICK_NEXT.NEXT.addr, ACQ.TRICK_NEXT.TRICK.addr] s (s.setTrickNext v) :=
  ((onlyRegs_refl _ s).setF (by simp)).setF (by simp)

/-- The trick counters after a trick number is seen. -/
theorem State.seeTrick_shows (s : State) {t : Nat} (ht : t < 2 ^ 32) :
    (s.seeTrick t).fld ENS.TRICK_HIGH.HIGH = (if laterTrick t (s.fld ENS.TRICK_HIGH.HIGH) then t else s.fld ENS.TRICK_HIGH.HIGH) ∧
    onlyRegs [ENS.TRICK_HIGH.HIGH.addr, ENS.TRICK_NEXT.NEXT.addr, ACQ.TRICK_NEXT.TRICK.addr] s (s.seeTrick t) := by
  have hhigh : ∃ u : State, u = (if laterTrick t (s.fld ENS.TRICK_HIGH.HIGH) then s.setF ENS.TRICK_HIGH.HIGH t else s) ∧
      u.fld ENS.TRICK_HIGH.HIGH = (if laterTrick t (s.fld ENS.TRICK_HIGH.HIGH) then t else s.fld ENS.TRICK_HIGH.HIGH) ∧
      onlyRegs [ENS.TRICK_HIGH.HIGH.addr, ENS.TRICK_NEXT.NEXT.addr, ACQ.TRICK_NEXT.TRICK.addr] s u := by
    refine ⟨_, rfl, ?_, ?_⟩
    · split
      · exact (State.fld_setF_same _ _ _).trans (Nat.mod_eq_of_lt ht)
      · rfl
    · split
      · exact (onlyRegs_refl _ s).setF List.mem_cons_self
      · exact onlyRegs_refl _ s
  obtain ⟨u, hu, hfld, honly⟩ := hhigh
  have hnext := (u.setTrickNext_only ((t + 1) % 2 ^ 32)).weaken (List.subset_cons_self ENS.TRICK_HIGH.HIGH.addr _)
  unfold State.seeTrick
  rw [← hu]
  dsimp only
  split
  · exact ⟨((u.setTrickNext_only _).1 _ (by decide)).trans hfld, onlyRegs_trans honly hnext⟩
  · exact ⟨hfld, honly⟩

section
variable {s : State} {c : Call}

/-- A call entered in its source's window and set out for delivery. -/
def State.noteCall (s : State) (c : Call) : State :=
  let u := s.knowCalls c.src c.seq false
  { u with ens := { u.ens with
    callSeen := Tbl.set [] u.ens.callSeen c.src (pushSeq (Tbl.get [] s.ens.callSeen c.src) c.seq)
    pend := Tbl.set 0 u.ens.pend (callKey c.src c.seq) 0, deliver := u.ens.deliver ++ [(c, u.now)] } }

/-- Whether a call is turned away: the unit's own, a lost one or a duplicate. -/
def State.turnsAway (s : State) (c : Call) : Prop :=
  c.src = s.fld ENS.STATUS.ADDR ∨ Tbl.get false s.ens.lost (callKey c.src c.seq) = true ∨
    accepts (Tbl.get [] s.ens.callSeen c.src) c.seq = false

theorem State.acceptCall_refused (h : s.turnsAway c) : s.acceptCall c = s := if_pos h

theorem State.acceptCall_taken (h : ¬ s.turnsAway c) : s.acceptCall c = (s.noteCall c).seeTrick c.trick := if_neg h

theorem State.noteCall_eq (s : State) (c : Call) : ∃ e, s.noteCall c = { s with ens := e } ∧
    e.deliver = s.ens.deliver ++ [(c, s.now)] ∧ Tbl.get 0 e.pend (callKey c.src c.seq) = 0 ∧
    Tbl.get [] e.callSeen c.src = pushSeq (Tbl.get [] s.ens.callSeen c.src) c.seq := by
  obtain ⟨e, he, hdeliver, -⟩ := s.knowCalls_eq c.src c.seq false
  unfold State.noteCall
  rw [he]
  exact ⟨_, rfl, congrArg (· ++ [(c, s.now)]) hdeliver, Tbl.get_set_same 0 e.pend _ 0,
    Tbl.get_set_same [] e.callSeen c.src (pushSeq (Tbl.get [] s.ens.callSeen c.src) c.seq)⟩

/-- A call taken is set out for delivery and raises the trick counters; the same call is a duplicate from then on. -/
theorem State.acceptCall_takes (ht : c.trick < 2 ^ 32) (h : ¬ s.turnsAway c) : ∃ t, s.acceptCall c = t ∧
    t.ens.deliver = s.ens.deliver ++ [(c, s.now)] ∧ Tbl.get 0 t.ens.pend (callKey c.src c.seq) = 0 ∧
    t.fld ENS.TRICK_HIGH.HIGH =
      (if laterTrick c.trick (s.fld ENS.TRICK_HIGH.HIGH) then c.trick else s.fld ENS.TRICK_HIGH.HIGH) ∧
    onlyRegs [ENS.TRICK_HIGH.HIGH.addr, ENS.TRICK_NEXT.NEXT.addr, ACQ.TRICK_NEXT.TRICK.addr] s { t with ens := s.ens } ∧
    t.acceptCall c = t := by
  obtain ⟨e, he, hdeliver, hpend, hseen⟩ := s.noteCall_eq c
  obtain ⟨hhigh, honly⟩ := State.seeTrick_shows { s with ens := e } ht
  have hens : (State.seeTrick { s with ens := e } c.trick).ens = e := honly.ens_eq
  refine ⟨_, (State.acceptCall_taken h).trans (congrArg (State.seeTrick · c.trick) he), ?_, ?_, hhigh, ?_, ?_⟩
  · rw [hens, hdeliver]
  · rw [hens, hpend]
  · exact honly.beside_ens
  · refine State.acceptCall_refused (.inr (.inr ?_))
    rw [hens, hseen]
    exact accepts_pushSeq _ _

end

/-! ### A pair judged (R224) -/

theorem State.countPair_ens (s : State) (p : Nat) (first second : Bool) : (s.countPair p first second).ens = s.ens := by
  cases first <;> cases second <;> rfl

theorem State.countPair_counts {s : State} {p : Nat} {first second : Bool} :
    (first = true → second = true → s.countPair p first second = s) ∧
    (first ≠ second → s.countPair p first second = s.bumpF (ENS.PORT_COPY.SINGLE p) 1) ∧
    (first = false → second = false → s.countPair p first second = s.bumpF (ENS.PORT_COPY.PAIR_LOST p) 1) := by
  cases first <;> cases second <;> simp [State.countPair]

/-- A port waits for the next pair. -/
def State.forgetPair (s : State) (p : Nat) : State :=
  { s with ens := { s.ens with firstIn := Tbl.set 0 s.ens.firstIn p 0, firstAt := Tbl.set 0 s.ens.firstAt p 0 } }

theorem State.forgetPair_firstIn (s : State) (p : Nat) : Tbl.get 0 (s.forgetPair p).ens.firstIn p = 0 := Tbl.get_set_same 0 s.ens.firstIn p 0

/-- A count at a port that has forgotten its pair. -/
theorem State.forgetPair_counts (s : State) (p : Nat) (f : Fld) : counted f s ((s.forgetPair p).bumpF f 1) ∧
    onlyRegs [f.addr] s { (s.forgetPair p).bumpF f 1 with ens := s.ens } :=
  ⟨(State.bumpF_counted _ f).of_same rfl rfl, (onlyRegs_refl [f.addr] s).bumpF (List.mem_singleton_self _)⟩

section
variable {s : State} {p : Nat} {first intact : Bool} (h : Tbl.get 0 s.ens.firstIn p = (if first then 1 else 2))
include h

/-- A pair whose second copy has come is judged. -/
theorem State.judgePair_second : s.judgePair p true intact = (s.forgetPair p).countPair p first intact := by
  have hfirst : (Tbl.get 0 s.ens.firstIn p == 1) = first := by rw [h]; cases first <;> rfl
  unfold State.judgePair
  rw [if_pos rfl, hfirst]
  rfl

theorem State.judgePair_judges : ∃ t, s.judgePair p true intact = t ∧ Tbl.get 0 t.ens.firstIn p = 0 ∧
    (first = true → intact = true → t.regs = s.regs) ∧
    (first ≠ intact → counted (ENS.PORT_COPY.SINGLE p) s t ∧ onlyRegs [(ENS.PORT_COPY.SINGLE p).addr] s { t with ens := s.ens }) ∧
    (first = false → intact = false → counted (ENS.PORT_COPY.PAIR_LOST p) s t ∧
      onlyRegs [(ENS.PORT_COPY.PAIR_LOST p).addr] s { t with ens := s.ens }) := by
  obtain ⟨hboth, hone, hnone⟩ := State.countPair_counts (s := s.forgetPair p) (p := p) (first := first) (second := intact)
  refine ⟨_, State.judgePair_second h, ?_, fun hf hi => ?_, fun hne => ?_, fun hf hi => ?_⟩
  · rw [State.countPair_ens]
    exact s.forgetPair_firstIn p
  · rw [hboth hf hi]
    rfl
  · rw [hone hne]
    exact s.forgetPair_counts p _
  · rw [hnone hf hi]
    exact s.forgetPair_counts p _

end

/-! ### A call delivered (R240) -/

section
variable {s : State} {c : Call}

/-- What a call delivered does in one slot: it qualifies in an armed slot with CALL_RX. -/
def State.qualifyCall (s : State) (c : Call) (but : Option Nat) (k : Nat) : State :=
  match s.slotOf? k, s.slotPlan k with
  | some sl, some pl =>
    if sl.armed && pl.callRx && but != some k then
      State.countT { s with trg := { s.trg with calls := s.trg.calls ++ [
        { slot := k, inst := s.now * instPerTick (s.fld (TRG.SLOT_CFG.TE k)) / 10, call := c, gen := sl.gen, at_ := s.now }] } } k 0
    else s
  | _, _ => s

theorem State.deliverCall_eq (s : State) (c : Call) (but : Option Nat) :
    s.deliverCall c but = (List.range 8).foldl (fun s k => s.qualifyCall c but k) s := rfl

theorem State.countT_tbook (s : State) (k i : Nat) : (s.countT k i).tbook k i = (s.tbook k i + 1) % 2 ^ 64 := Tbl.get_set_same _ _ _ _

/-- A slot that a call qualifies in changes neither the slots nor the plans, nor the book of another slot. -/
theorem State.qualifyCall_keeps (s : State) (c : Call) (but : Option Nat) (j : Nat) :
    (s.qualifyCall c but j).acq.slots = s.acq.slots ∧ (s.qualifyCall c but j).acq.lib = s.acq.lib ∧
    ∀ k, k ≠ j → (s.qualifyCall c but j).tbook k 0 = s.tbook k 0 := by
  unfold State.qualifyCall
  split
  · split
    · exact ⟨rfl, rfl, fun k hk => Tbl.get_set_ne _ _ _ _ _ _ (by omega)⟩
    · exact ⟨rfl, rfl, fun _ _ => rfl⟩
  · exact ⟨rfl, rfl, fun _ _ => rfl⟩

theorem State.slotPlan_congr {u : State} (hslots : u.acq.slots = s.acq.slots) (hlib : u.acq.lib = s.acq.lib) (k : Nat) :
    u.slotOf? k = s.slotOf? k ∧ u.slotPlan k = s.slotPlan k := by
  have hslot : u.slotOf? k = s.slotOf? k := congrArg (Tbl.get none · k) hslots
  have hplan : ∀ p, u.planOf p = s.planOf p := fun p => congrArg (Tbl.get none · p) hlib
  refine ⟨hslot, ?_⟩
  unfold State.slotPlan
  rw [hslot]
  split
  · exact hplan _
  · rfl

section
variable {k : Nat} {sl : Slot} {pl : Plan} (harmed : sl.armed = true) (hrx : pl.callRx = true)
include harmed hrx

theorem State.qualifyCall_counts (hsl : s.slotOf? k = some sl) (hpl : s.slotPlan k = some pl) :
    (s.qualifyCall c none k).tbook k 0 = (s.tbook k 0 + 1) % 2 ^ 64 := by
  unfold State.qualifyCall
  rw [hsl, hpl]
  dsimp only
  rw [if_pos (by simp [harmed, hrx])]
  exact State.countT_tbook _ k 0

/-- A call qualifies once in each slot it comes to. -/
theorem State.foldl_qualifyCall {l : List Nat} (hnd : l.Nodup) : ∀ s : State, s.slotOf? k = some sl → s.slotPlan k = some pl →
    (l.foldl (fun s j => s.qualifyCall c none j) s).tbook k 0 = if k ∈ l then (s.tbook k 0 + 1) % 2 ^ 64 else s.tbook k 0 := by
  induction l with
  | nil => exact fun _ _ _ => rfl
  | cons j l ih =>
    intro s hsl hpl
    obtain ⟨hj, hl⟩ := List.nodup_cons.mp hnd
    obtain ⟨hslots, hlib, hbook⟩ := s.qualifyCall_keeps c none j
    obtain ⟨hslot, hplan⟩ := State.slotPlan_congr hslots hlib k
    rw [List.foldl_cons, ih hl _ (hslot.trans hsl) (hplan.trans hpl)]
    by_cases hk : k = j
    · subst hk
      rw [if_neg hj, if_pos List.mem_cons_self]
      exact State.qualifyCall_counts harmed hrx hsl hpl
    · rw [hbook k hk]
      simp [hk]

theorem State.deliverCall_qualifies (hk : k < 8) (hsl : s.slotOf? k = some sl) (hpl : s.slotPlan k = some pl) :
    (s.deliverCall c none).tbook k 0 = (s.tbook k 0 + 1) % 2 ^ 64 := by
  rw [State.deliverCall_eq, State.foldl_qualifyCall harmed hrx List.nodup_range s hsl hpl, if_pos (List.mem_range.mpr hk)]

end

section
variable {t0 : Nat} {rest : List (Call × Nat)} (h : s.ens.deliver = (c, t0) :: rest)
include h

theorem effCallDeliver_first : effCallDeliver s =
    if t0 + 8 ≤ s.now then (({ s with ens := { s.ens with deliver := rest } } : State).bumpF ENS.CALL_RX.COUNT 1).deliverCall c none
    else s := by
  unfold effCallDeliver
  rw [h]

theorem callDeliver_delivers (ht : t0 + 8 ≤ s.now) : exec .callDeliver s =
    .next ((({ s with ens := { s.ens with deliver := rest } } : State).bumpF ENS.CALL_RX.COUNT 1).deliverCall c none) :=
  congrArg Host.Outcome.next ((effCallDeliver_first h).trans (if_pos ht))

theorem callDeliver_waits (ht : s.now < t0 + 8) : exec .callDeliver s = .next s :=
  congrArg Host.Outcome.next ((effCallDeliver_first h).trans (if_neg (Nat.not_le.mpr ht)))

end

end

/-! ### A call lost (R224) -/

/-- A call is no longer pending but lost. -/
def State.loseCall (s : State) (src q : Nat) : State :=
  { s with ens := { s.ens with
    pend := Tbl.set 0 s.ens.pend (callKey src q) 0, lost := Tbl.set false s.ens.lost (callKey src q) true } }

theorem callLost_reports {s : State} {src q t0 : Nat} (hsrc : src < 256) (hq : q < 2 ^ 15)
    (hpend : Tbl.get 0 s.ens.pend (callKey src q) = t0 + 1) (hdue : t0 + 100 * s.fld ENS.TIMING.LOST_WAIT ≤ s.now) :
    ∃ t, exec (.callLost src q) s = .next t ∧ counted ENS.CALL_LOSS.LOST s t ∧ reported 117 0 src q t ∧
      Tbl.get false t.ens.lost (callKey src q) = true ∧ Tbl.get 0 t.ens.pend (callKey src q) = 0 ∧
      onlyReports [ENS.CALL_LOSS.LOST.addr] s { t with ens := s.ens } := by
  have heff : effCallLost src q s = ((s.loseCall src q).bumpF ENS.CALL_LOSS.LOST 1).raise 117 0 src q 0 := by
    unfold effCallLost
    rw [hpend]
    exact if_pos ⟨hdue, hsrc, hq⟩
  refine ⟨_, congrArg Host.Outcome.next heff, ?_, ?_, ?_, ?_, ?_⟩
  · exact ((State.bumpF_counted _ _).of_same rfl rfl).congr (State.raise_below _ _ _ _ _ (by decide) (by decide))
  · exact State.raise_reported _ _ _ _ _ _ (by decide) (by decide) (by decide) hsrc (by omega)
  · rw [State.raise_ens _ _ _ _ _ (by decide)]
    exact Tbl.get_set_same false s.ens.lost _ true
  · rw [State.raise_ens _ _ _ _ _ (by decide)]
    exact Tbl.get_set_same 0 s.ens.pend _ 0
  · exact (State.raise_only _ _ 117 0 _ _ 0 (by decide)).beside_ens
      (onlyReports_bumpF [ENS.CALL_LOSS.LOST.addr] s ENS.CALL_LOSS.LOST 1 (.inr (List.mem_singleton_self _)))

/-- Settles O30: a copy of a call by its types and its check, a call by what turns it away, a pair by its two copies; a message sent by what
its port holds, a copy of a message by its check. -/
theorem callsAndMessagesAreTakenAndChecked : Obligations.CallsAndMessagesAreTakenAndChecked := by
  refine ⟨fun s => ⟨?_, fun c ht => ⟨State.acceptCall_refused, fun ha hl hs => ?_⟩, fun p first intact => State.judgePair_judges,
    fun c t0 rest h => ⟨callDeliver_delivers h, fun k sl pl hk hsl hpl ha hr => State.deliverCall_qualifies ha hr hk hsl hpl,
      callDeliver_waits h⟩,
    fun src q t0 => callLost_reports⟩, ?_, ?_⟩
  · rintro p second bl three bs u hup hrun hlen rfl hbs rfl
    obtain ⟨hblocks, honly⟩ := s.erroredBlocks_counts p bl
    refine ⟨hblocks, honly, fun ht hc => ?_, fun h => ?_⟩
    · exact congrArg Host.Outcome.next ((effCallReceive_takes hup hrun hlen).trans (State.takeCopy_intact hbs _ ht hc))
    · exact congrArg Host.Outcome.next ((effCallReceive_takes hup hrun hlen).trans (State.takeCopy_damaged hbs _ h))
  · refine State.acceptCall_takes ht fun h => ?_
    rcases h with h | h | h
    · exact ha h
    · simp [hl] at h
    · simp [hs] at h
  · exact fun s typ dst data m hup hdown hm => ⟨originate_leaves hup hdown hm, originate_waits hup hdown hm, originate_dropped hup hdown hm⟩
  · exact fun s p sub bl hup hrun => ⟨fun c hc hne hnone => ⟨_, copy_fails hup hrun hne hnone c hc, s.failCopy_counts p bl⟩,
      fun c hc hnil => ⟨_, noMessage_counts hup hrun hnil c hc, s.erroredBlocks_counts p bl⟩⟩

end Sys2Proof.Machine
end

section
/-!
SUPPORT. Links (R222, R225, R226, R228, Table 09-5): how a port trains and falls, and the TOKENs it sends and answers.
-/

namespace Sys2Proof.Machine

theorem onlyRegs.justCleared_eq {A : List Nat} {s t : State} (h : onlyRegs A s t) (f : Fld) : t.justCleared f = s.justCleared f :=
  (congrArg (fun u : State => u.justCleared f) h.2 : _)

/-! ### Block lock (Table 09-5) -/

section
variable {s : State} {p : Nat}

/-- The fields of a port's status lie apart. -/
theorem portStatus_ne (p : Nat) : (ENS.PORT_STATUS.STATE p).addr ≠ (ENS.PORT_STATUS.LOCK p).addr ∧
    (ENS.PORT_STATUS.STATE p).addr ≠ (ENS.PORT_STATUS.DOWNS p).addr ∧ (ENS.PORT_STATUS.LOCK p).addr ≠ (ENS.PORT_STATUS.DOWNS p).addr := by
  simp only [ENS.PORT_STATUS.STATE, ENS.PORT_STATUS.LOCK, ENS.PORT_STATUS.DOWNS]
  omega

/-- A port's state and lock written. -/
def State.setLink (s : State) (p st lock : Nat) : State := (s.setF (ENS.PORT_STATUS.STATE p) st).setF (ENS.PORT_STATUS.LOCK p) lock

theorem State.setLink_shows (s : State) (p : Nat) {st lock : Nat} (hst : st < 4) (hlock : lock < 2) :
    (s.setLink p st lock).fld (ENS.PORT_STATUS.STATE p) = st ∧ (s.setLink p st lock).fld (ENS.PORT_STATUS.LOCK p) = lock ∧
    onlyRegs [(ENS.PORT_STATUS.STATE p).addr, (ENS.PORT_STATUS.LOCK p).addr] s (s.setLink p st lock) := by
  obtain ⟨hne, -, -⟩ := portStatus_ne p
  refine ⟨?_, (State.fld_setF_same _ _ _).trans (Nat.mod_eq_of_lt hlock), ((onlyRegs_refl _ s).setF (by simp)).setF (by simp)⟩
  exact (State.fld_setF_ne _ _ _ _ hne).trans ((State.fld_setF_same _ _ _).trans (Nat.mod_eq_of_lt hst))

theorem blockLockAcquired_trains (hp : p < 2) (hrun : s.portsRun = true) (h : s.fld (ENS.PORT_STATUS.STATE p) = 0) :
    ∃ t, exec (.blockLockAcquired p) s = .next t ∧ t.fld (ENS.PORT_STATUS.STATE p) = 1 ∧
      t.fld (ENS.PORT_STATUS.LOCK p) = 1 ∧ Tbl.get 0 t.ens.lockAt p = s.now + 1 ∧ Tbl.get 0 t.ens.exch p = 0 ∧
      onlyRegs [(ENS.PORT_STATUS.STATE p).addr, (ENS.PORT_STATUS.LOCK p).addr] s { t with ens := s.ens } := by
  obtain ⟨hstate, hlock, honly⟩ := s.setLink_shows p (st := 1) (lock := 1) (by decide) (by decide)
  exact ⟨_, congrArg Host.Outcome.next (if_pos (by simp [hp, hrun, h])), hstate, hlock,
    Tbl.get_set_same 0 s.ens.lockAt p (s.now + 1), Tbl.get_set_same 0 s.ens.exch p 0, honly⟩

/-! ### A link lost (R226) -/

theorem State.endPair_only (s : State) (p : Nat) :
    onlyRegs [(ENS.PORT_COPY.SINGLE p).addr, (ENS.PORT_COPY.PAIR_LOST p).addr] s { s.endPair p with ens := s.ens } := by
  unfold State.endPair
  split
  · exact onlyRegs_refl _ s
  · unfold State.countPair
    split
    · exact onlyRegs_refl _ s
    · split
      · exact (onlyRegs_refl _ s).bumpF List.mem_cons_self
      · exact (onlyRegs_refl _ s).bumpF (List.mem_cons_of_mem _ List.mem_cons_self)

/-- The fields a port that goes DOWN writes but for its count. -/
def downAddrs (p : Nat) : List Nat := [(ENS.PORT_STATUS.STATE p).addr, (ENS.PORT_STATUS.LOCK p).addr, (ENS.PORT_STATUS.DOWNS p).addr,
  (ENS.PORT_COPY.SINGLE p).addr, (ENS.PORT_COPY.PAIR_LOST p).addr]

theorem State.forgetPort_shows (s : State) (p : Nat) : (s.forgetPort p).fld (ENS.PORT_STATUS.STATE p) = 0 ∧
    (s.forgetPort p).fld (ENS.PORT_STATUS.LOCK p) = 0 ∧
    (s.forgetPort p).fld (ENS.PORT_STATUS.DOWNS p) = s.fld (ENS.PORT_STATUS.DOWNS p) ∧ (s.forgetPort p).txWaits p = [] ∧
    onlyRegs (downAddrs p) s { s.forgetPort p with ens := s.ens } := by
  obtain ⟨hstate, hlock, honly⟩ := (s.endPair p).setLink_shows p (st := 0) (lock := 0) (by decide) (by decide)
  obtain ⟨-, hdowns, hdowns'⟩ := portStatus_ne p
  have hpair := s.endPair_only p
  refine ⟨hstate, hlock, ?_, Tbl.get_set_same [] (s.endPair p).ens.tx p [], ?_⟩
  · refine (honly.1 _ (by simp [hdowns.symm, hdowns'.symm])).trans (hpair.1 _ ?_)
    simp only [ENS.PORT_STATUS.DOWNS, ENS.PORT_COPY.SINGLE, ENS.PORT_COPY.PAIR_LOST, List.mem_cons, List.not_mem_nil, or_false]
    omega
  · have hpair' : onlyRegs (downAddrs p) s { s.endPair p with ens := s.ens } := hpair.weaken (by simp [downAddrs])
    exact (hpair'.setF (f := ENS.PORT_STATUS.STATE p) (v := 0) (by simp [downAddrs])).setF (f := ENS.PORT_STATUS.LOCK p) (v := 0)
      (by simp [downAddrs])

/-- A port that has gone DOWN, counted and reported. -/
def State.dropPort (s : State) (p : Nat) : State :=
  ((s.forgetPort p).bumpF (ENS.PORT_STATUS.DOWNS p) 1).raise (112 + p) 0 (s.fld (ENS.PORT_STATUS.NEIGH_ADDR p)) 0 0

theorem neighbourAbsent_drops (hp : p < 2) (hrun : s.portsRun = true) (h : s.fld (ENS.PORT_STATUS.STATE p) ≠ 0) :
    exec (.neighbourAbsent p) s = .next ((s.dropPort p).sendStat [1 - p]) :=
  congrArg Host.Outcome.next (if_pos (by simp [hp, hrun, h]))

theorem State.dropPort_shows (hp : p < 2) (hn : s.fld (ENS.PORT_STATUS.NEIGH_ADDR p) < 256) :
    (s.dropPort p).fld (ENS.PORT_STATUS.STATE p) = 0 ∧ (s.dropPort p).fld (ENS.PORT_STATUS.LOCK p) = 0 ∧
    counted (ENS.PORT_STATUS.DOWNS p) s (s.dropPort p) ∧
    reported (112 + p) 0 (s.fld (ENS.PORT_STATUS.NEIGH_ADDR p)) 0 (s.dropPort p) ∧ (s.dropPort p).txWaits p = [] ∧
    onlyReports (downAddrs p) s { s.dropPort p with ens := s.ens } := by
  obtain ⟨hstate, hlock, hdowns, hwaits, honly⟩ := s.forgetPort_shows p
  obtain ⟨-, hne, hne'⟩ := portStatus_ne p
  have hsource : 112 + p < 256 := by omega
  have hraise : ∀ g : Fld, g.addr < 14 * 524288 → (s.dropPort p).fld g = ((s.forgetPort p).bumpF (ENS.PORT_STATUS.DOWNS p) 1).fld g :=
    fun g hg => State.raise_below _ _ _ _ _ hsource hg
  obtain ⟨hbelow, hbelow', hbelow''⟩ : (ENS.PORT_STATUS.STATE p).addr < 14 * 524288 ∧ (ENS.PORT_STATUS.LOCK p).addr < 14 * 524288 ∧
      (ENS.PORT_STATUS.DOWNS p).addr < 14 * 524288 := by
    simp only [ENS.PORT_STATUS.STATE, ENS.PORT_STATUS.LOCK, ENS.PORT_STATUS.DOWNS]
    omega
  refine ⟨?_, ?_, ?_, State.raise_reported _ _ _ _ _ _ hsource (by omega) (by decide) hn (by decide), ?_, ?_⟩
  · exact (hraise _ hbelow).trans ((State.fld_bumpF_ne _ _ _ _ hne).trans hstate)
  · exact (hraise _ hbelow').trans ((State.fld_bumpF_ne _ _ _ _ hne').trans hlock)
  · exact ((State.bumpF_counted _ _).of_same hdowns (honly.justCleared_eq _)).congr (hraise _ hbelow'')
  · rw [State.txWaits, State.dropPort, State.raise_ens _ _ _ _ _ hsource]
    exact hwaits
  · exact (State.raise_only _ _ _ _ _ _ _ hsource).beside_ens
      (onlyReports_of_onlyRegs (honly.bumpF (f := ENS.PORT_STATUS.DOWNS p) (n := 1) (by simp [downAddrs])))

end

/-! ### TOKENs sent (R222, R228) -/

/-- A TOKEN as it waits at its port. -/
def TxItem.ofToken (at_ : Nat) (k : Nat × Nat × Nat × Nat) : TxItem :=
  { call := false, forwarded := false, at_ := at_, len := 5, token := some k, outs := [] }

section
variable {s : State} {p op t1 t2 at_ : Nat}

/-- A TOKEN that its port's queue takes. -/
theorem State.sendToken_joins {u : State} (h : s.takeSeq.2.joinTx p 4 (.ofToken at_ (op, s.ens.msgSeq, t1, t2)) = (true, u)) :
    s.sendToken p op t1 t2 at_ = u :=
  congrArg (fun r : Bool × State => if r.1 then r.2 else (r.2.bumpF ENS.DEAL_COUNTS.MSG_DROPPED 1).overflow p 1) h

theorem State.leaveToken_request (s : State) (p t q t1 t2 : Nat) {v : Nat} (hv : v = stampValue (s.stamp (t * finePerNs / 5))) :
    s.leaveToken p t (0, q, t1, t2) = { s with ens := { s.ens with asked := Tbl.set none s.ens.asked p (some v) },
                                               out := .quoda p (tokenMsg (s.fld ENS.STATUS.ADDR) p 0 q v 0 0).bytes :: s.out } := by
  subst hv
  rfl

theorem State.leaveToken_reply (s : State) (p t q t1 t2 : Nat) {v : Nat} (hv : v = stampValue (s.stamp (t * finePerNs / 5))) :
    s.leaveToken p t (1, q, t1, t2) =
      { s with out := .quoda p (tokenMsg (s.fld ENS.STATUS.ADDR) p 1 q t1 t2 v).bytes :: s.out } := by
  subst hv
  rfl

section
variable (hw : s.txWaits p = [])
include hw

theorem State.sendToken_leaves (hfree : s.txEnds p < s.fifths) : ∃ e, e.asked = s.ens.asked ∧
    s.sendToken p op t1 t2 s.fifths = State.leaveToken { s with ens := e } p s.fifths (op, s.ens.msgSeq, t1, t2) := by
  have hjoin := State.joinTx_leaves (s := s.takeSeq.2) (room := 4) (x := .ofToken s.fifths (op, s.ens.msgSeq, t1, t2)) hw (by decide) rfl
    (Nat.le_of_lt hfree) (Nat.le_refl _)
  obtain ⟨e, he, hasked⟩ := State.startTx_token (s := s.takeSeq.2.putTx p (.ofToken s.fifths (op, s.ens.msgSeq, t1, t2))) (p := p)
    (x := .ofToken s.fifths (op, s.ens.msgSeq, t1, t2)) (t := s.fifths) rfl (by simp [TxItem.ofToken]) rfl hfree
  exact ⟨e, hasked, (State.sendToken_joins hjoin).trans he⟩

theorem State.sendToken_waits (hlate : s.fifths < at_) :
    s.sendToken p op t1 t2 at_ = s.takeSeq.2.putTx p (.ofToken at_ (op, s.ens.msgSeq, t1, t2)) :=
  State.sendToken_joins (State.joinTx_waits (s := s.takeSeq.2) hw (by decide) rfl (Nat.lt_of_lt_of_le hlate (Nat.le_max_right ..)))

/-- A TOKEN that may leave a free port does so, stamped with its leaving. -/
theorem sendToken_stamps {v : Nat} (hfree : s.txEnds p < s.fifths) (hv : v = stampValue (s.stamp (s.now * finePerNs))) :
    ∃ a b : State, s.sendToken p 0 t1 t2 s.fifths = a ∧
      a.out = .quoda p (tokenMsg (s.fld ENS.STATUS.ADDR) p 0 s.ens.msgSeq v 0 0).bytes :: s.out ∧
      Tbl.get none a.ens.asked p = some v ∧ { a with ens := s.ens, out := s.out } = s ∧
      s.sendToken p 1 t1 t2 s.fifths = b ∧ b.out = .quoda p (tokenMsg (s.fld ENS.STATUS.ADDR) p 1 s.ens.msgSeq t1 t2 v).bytes :: s.out ∧
      b.ens.asked = s.ens.asked ∧ { b with ens := s.ens, out := s.out } = s := by
  have hstamp : ∀ e : EnsSt, v = stampValue (State.stamp { s with ens := e } (s.fifths * finePerNs / 5)) := fun e => by
    have htime : s.fifths * finePerNs / 5 = s.now * finePerNs := by
      rw [State.fifths, Nat.mul_assoc, Nat.mul_div_cancel_left _ (by decide)]
    rw [htime]
    exact hv
  obtain ⟨e, -, hrequest⟩ := State.sendToken_leaves (op := 0) (t1 := t1) (t2 := t2) hw hfree
  obtain ⟨f, hasked, hreply⟩ := State.sendToken_leaves (op := 1) (t1 := t1) (t2 := t2) hw hfree
  rw [State.leaveToken_request _ _ _ _ _ _ (hstamp e)] at hrequest
  rw [State.leaveToken_reply _ _ _ _ _ _ (hstamp f)] at hreply
  exact ⟨_, _, hrequest, rfl, Tbl.get_set_same none e.asked p (some v), rfl, hreply, rfl, hasked, rfl⟩

theorem sendToken_queues (hlate : s.fifths < at_) (op : Nat) : ∃ t : State, s.sendToken p op t1 t2 at_ = t ∧
    (t.txWaits p).map (fun x => (x.at_, x.token)) = [(at_, some (op, s.ens.msgSeq, t1, t2))] ∧ { t with ens := s.ens } = s := by
  refine ⟨_, State.sendToken_waits hw hlate, ?_, rfl⟩
  rw [State.putTx_waits]
  rfl

end

end

/-! ### REQUESTs (R225, R228) -/

section
variable {s : State} {p sub : Nat} {bl : List WireBlock} {m : Msg} (hp : p < 2) (hrun : s.portsRun = true)
include hp hrun

/-- The port as a REQUEST falls due: the one before it, where it is unanswered, ends the row of exchanges. -/
def State.askAgain (s : State) (p : Nat) : State :=
  { s with ens := { s.ens with asked := Tbl.set none s.ens.asked p none, tokAt := Tbl.set 0 s.ens.tokAt p (s.now + 1)
                               exch := if (Tbl.get none s.ens.asked p).isSome then Tbl.set 0 s.ens.exch p 0 else s.ens.exch } }

/-- A REQUEST goes out where the gap of the port's state has passed since the last one. -/
theorem effTokenSend_due {st gap : Nat} (hgap : st = 1 ∧ gap = 10000 ∨ st = 2 ∧ gap = 1000000) (hst : s.fld (ENS.PORT_STATUS.STATE p) = st)
    (hdue : ∀ c, Tbl.get 0 s.ens.tokAt p = c + 1 → c + gap ≤ s.now) : effTokenSend p s = (s.askAgain p).sendToken p 0 0 0 s.fifths := by
  have hstate : (st == 1 || st == 2) = true := by rcases hgap with ⟨rfl, -⟩ | ⟨rfl, -⟩ <;> rfl
  have hif : (if st = 1 then 10000 else 1000000) = gap := by rcases hgap with ⟨rfl, rfl⟩ | ⟨rfl, rfl⟩ <;> rfl
  unfold effTokenSend
  dsimp only
  rw [hst, hif]
  cases htok : Tbl.get 0 s.ens.tokAt p with
  | zero => exact if_pos (by simp [hp, hrun, hstate])
  | succ c => exact if_pos (by simp [hp, hrun, hstate, hdue c htok])

theorem tokenSend_asks (h : (s.fld (ENS.PORT_STATUS.STATE p) = 1 ∧ (∀ c, Tbl.get 0 s.ens.tokAt p = c + 1 → c + 10000 ≤ s.now)) ∨
      (s.fld (ENS.PORT_STATUS.STATE p) = 2 ∧ (∀ c, Tbl.get 0 s.ens.tokAt p = c + 1 → c + 1000000 ≤ s.now))) :
    ∃ u : State, exec (.tokenSend p) s = .next (u.sendToken p 0 0 0 s.fifths) ∧ Tbl.get none u.ens.asked p = none ∧
      Tbl.get 0 u.ens.tokAt p = s.now + 1 ∧ u.ens.tx = s.ens.tx ∧ { u with ens := s.ens } = s := by
  refine ⟨s.askAgain p, congrArg Host.Outcome.next ?_, Tbl.get_set_same none s.ens.asked p none, Tbl.get_set_same 0 s.ens.tokAt p (s.now + 1),
    rfl, rfl⟩
  rcases h with ⟨hst, hdue⟩ | ⟨hst, hdue⟩
  · exact effTokenSend_due hp hrun (.inl ⟨rfl, rfl⟩) hst hdue
  · exact effTokenSend_due hp hrun (.inr ⟨rfl, rfl⟩) hst hdue

theorem tokenRequest_answers (hst : s.fld (ENS.PORT_STATUS.STATE p) ≠ 0) (hcopy : readCopy (msgBlocks bl) = some m)
    (hnames : m.names 5 (some 0) = true) : exec (.tokenRequest p bl sub) s = .next ((s.erroredBlocks p bl).sendToken p 1 (readStamp m.data 4)
      (stampValue ((s.erroredBlocks p bl).stamp (s.now * finePerNs + sub % finePerNs))) (s.fifths + 5)) := by
  refine congrArg Host.Outcome.next ?_
  unfold effTokenRequest
  rw [if_pos (by simp [hp, hrun, hst]), hcopy]
  cases hbl : msgBlocks bl with
  | nil => exact absurd (hcopy.symm.trans ((congrArg readCopy hbl).trans readCopy_nil)) (Option.some_ne_none m)
  | cons b bs => exact if_neg (by rw [hnames]; decide)

/-! ### REPLYs (R225, R228) -/

/-- The REQUEST of a port is answered. -/
def State.answered (s : State) (p : Nat) : State := { s with ens := { s.ens with asked := Tbl.set none s.ens.asked p none } }

variable {t1 : Nat} {u : State} (hst : s.fld (ENS.PORT_STATUS.STATE p) = 1 ∨ s.fld (ENS.PORT_STATUS.STATE p) = 2)
  (hcopy : readCopy (msgBlocks bl) = some m) (hnames : m.names 5 (some 1) = true) (hasked : Tbl.get none s.ens.asked p = some t1)
  (hstamp : readStamp m.data 4 = t1)
  (hu : u = (s.erroredBlocks p bl).answered p)
include hst hcopy hnames hasked hstamp hu

/-- A REPLY to the last REQUEST. -/
theorem effTokenReply_answered : effTokenReply p bl sub s =
    if s.fld (ENS.PORT_STATUS.STATE p) = 1 ∧ num m.data 1 1 = p then (u.setF (ENS.PORT_STATUS.STATE p) 3).raise 114 0 p 0 0
    else (u.noteExchange p
      (fsOf (stampDiff (stampValue (u.stamp (s.now * finePerNs + sub % finePerNs))) t1 -
        stampDiff (readStamp m.data 18) (readStamp m.data 11)) / 2)
      (fsOf (stampDiff (readStamp m.data 11) t1 - stampDiff (stampValue (u.stamp (s.now * finePerNs + sub % finePerNs)))
        (readStamp m.data 18)) / 2)).portComesUp p m.src (num m.data 1 1) := by
  have hlive : (decide (p < 2) && s.portsRun &&
      (s.fld (ENS.PORT_STATUS.STATE p) == 1 || s.fld (ENS.PORT_STATUS.STATE p) == 2)) = true := by
    simpa [hp, hrun] using hst
  have hasked' : Tbl.get none (s.erroredBlocks p bl).ens.asked p = some t1 := hasked
  subst hu
  unfold effTokenReply
  dsimp only
  rw [if_pos hlive, hcopy, hasked']
  cases hbl : msgBlocks bl with
  | nil => exact absurd (hcopy.symm.trans ((congrArg readCopy hbl).trans readCopy_nil)) (Option.some_ne_none m)
  | cons b bs => exact if_pos ⟨hnames, hstamp⟩

theorem tokenReply_miswired (htrain : s.fld (ENS.PORT_STATUS.STATE p) = 1) (hport : num m.data 1 1 = p) :
    ∃ t, exec (.tokenReply p bl sub) s = .next t ∧ t.fld (ENS.PORT_STATUS.STATE p) = 3 ∧ reported 114 0 p 0 t ∧
      onlyReports [(ENS.PORT_STATUS.STATE p).addr] u t := by
  have heff := (effTokenReply_answered (sub := sub) hp hrun hst hcopy hnames hasked hstamp hu).trans (if_pos ⟨htrain, hport⟩)
  have hbelow : (ENS.PORT_STATUS.STATE p).addr < 14 * 524288 := by simp only [ENS.PORT_STATUS.STATE]; omega
  refine ⟨_, congrArg Host.Outcome.next heff, ?_, ?_, ?_⟩
  · exact (State.raise_below _ _ _ _ _ (by decide) hbelow).trans (State.fld_setF_same _ _ 3)
  · exact State.raise_reported _ _ _ _ _ _ (by decide) (by decide) (by decide) (by omega) (by decide)
  · exact onlyReports_trans (onlyReports_setF _ u _ 3 (.inr (List.mem_singleton_self _))) (State.raise_only _ _ 114 0 p 0 0 (by decide))

theorem tokenReply_completes (h : s.fld (ENS.PORT_STATUS.STATE p) = 2 ∨ (s.fld (ENS.PORT_STATUS.STATE p) = 1 ∧ num m.data 1 1 ≠ p)) :
    exec (.tokenReply p bl sub) s = .next ((u.noteExchange p
      (fsOf (stampDiff (stampValue (u.stamp (s.now * finePerNs + sub % finePerNs))) t1 -
        stampDiff (readStamp m.data 18) (readStamp m.data 11)) / 2)
      (fsOf (stampDiff (readStamp m.data 11) t1 - stampDiff (stampValue (u.stamp (s.now * finePerNs + sub % finePerNs)))
        (readStamp m.data 18)) / 2)).portComesUp p m.src (num m.data 1 1)) := by
  refine congrArg Host.Outcome.next ((effTokenReply_answered hp hrun hst hcopy hnames hasked hstamp hu).trans (if_neg fun hn => ?_))
  rcases h with h | h
  · exact absurd (hn.1.symm.trans h) (by decide)
  · exact h.2 hn.2

end

/-- Settles O31: block lock and its loss by what the port's registers show, a TOKEN by when it may leave, a REPLY by the state of its port. -/
theorem linksTrainAndFall : Obligations.LinksTrainAndFall := by
  intro s p hp hrun
  refine ⟨blockLockAcquired_trains hp hrun, fun hst hn => ⟨s.dropPort p, neighbourAbsent_drops hp hrun hst, State.dropPort_shows hp hn⟩,
    fun t1 t2 at_ v hw hfree hv => ⟨?_, fun hlate op => sendToken_queues hw hlate op⟩, tokenSend_asks hp hrun, ?_, ?_⟩
  · rintro rfl
    exact sendToken_stamps hw hfree hv
  · rintro bl sub m u hst hcopy hnames rfl
    exact tokenRequest_answers hp hrun hst hcopy hnames
  · rintro bl sub m t1 u v hcopy hnames hasked hstamp rfl hu
    refine ⟨fun htrain hport => tokenReply_miswired hp hrun (.inl htrain) hcopy hnames hasked hstamp hu htrain hport, ?_⟩
    rintro t2 t3 t4 rfl rfl rfl h
    exact tokenReply_completes hp hrun (h.symm.imp And.left id) hcopy hnames hasked hstamp hu h

end Sys2Proof.Machine
end

section
/-!
SUPPORT. The unit table, the dealer and TIME (R223, R230, R234, R238): what a STAT writes, when a unit, a dealer and the RESTART periods
are over, and who acts as dealer.
-/

namespace Sys2Proof.Machine

/-! ### Changes beside the ensemble's own state -/

/-- `s` is `s₀` but for the register fields at the bits `A`, for reports and for the ensemble's own state. -/
def State.reportsFrom (A : List Nat) (s s₀ : State) : Prop := onlyReports A s₀ { s with ens := s₀.ens }

section
variable {A : List Nat} {s t s₀ : State}

theorem State.reportsFrom.refl (A : List Nat) (s : State) : s.reportsFrom A s := onlyReports_refl A s

theorem State.reportsFrom.setF {f : Fld} {v : Nat} (h : s.reportsFrom A s₀) (hf : f.addr ∈ A) : (s.setF f v).reportsFrom A s₀ :=
  onlyReports_trans h (onlyReports_setF A { s with ens := s₀.ens } f v (.inr hf))

theorem State.reportsFrom.withEns {e : EnsSt} (h : s.reportsFrom A s₀) : State.reportsFrom A { s with ens := e } s₀ := h

theorem State.reportsFrom.raise {n k i a a2 : Nat} (h : s.reportsFrom A s₀) (hn : n < 256) : (s.raise n k i a a2).reportsFrom A s₀ :=
  (State.raise_only A s n k i a a2 hn).beside_ens h

theorem State.reportsFrom.ite {c : Prop} {_ : Decidable c} (hs : s.reportsFrom A s₀) (ht : t.reportsFrom A s₀) :
    (if c then s else t).reportsFrom A s₀ := by
  split
  · exact hs
  · exact ht

end

/-! ### STATs sent (R238) -/

section
variable {s : State}

theorem statSend_sends (hrun : s.portsRun = true) (hdue : ∀ t0, s.ens.sentAt = some t0 → t0 + s.statPeriod ≤ s.now) :
    exec .statSend s = .next (State.sendStat { s with ens := { s.ens with sentAt := some s.now } } [0, 1]) := by
  refine congrArg Host.Outcome.next ?_
  unfold effStatSend
  cases hsent : s.ens.sentAt with
  | none => exact if_pos (by simp [hrun])
  | some t0 => exact if_pos (by simp [hrun, hdue t0 hsent])

theorem statSend_waits {t0 : Nat} (hsent : s.ens.sentAt = some t0) (h : s.now < t0 + s.statPeriod) : exec .statSend s = .next s := by
  refine congrArg Host.Outcome.next ?_
  unfold effStatSend
  rw [hsent]
  exact if_neg (by simp [h])

/-! ### STATs received (R223, R238) -/

theorem State.clearWindows_eq (s : State) (m : Msg) : ∃ e, s.clearWindows m = { s with ens := e } := by
  unfold State.clearWindows
  split
  · exact ⟨_, rfl⟩
  · exact ⟨_, rfl⟩

/-- A STAT with RESTART clears its source's windows before it is judged. -/
def State.beforeStat (s : State) (p : Nat) (m : Msg) : State :=
  if s.portUp p && s.portsRun && m.typ == 4 && bitOf (num m.data 2 1) 5 && !s.ownMsg m then s.clearWindows m else s

theorem State.beforeStat_live {p : Nat} {m : Msg} (hup : s.portUp p = true) (hrun : s.portsRun = true) (htyp : m.typ = 4)
    (hown : s.ownMsg m = false) : s.beforeStat p m = if bitOf (num m.data 2 1) 5 then s.clearWindows m else s := by
  have hread : (s.portUp p && s.portsRun && m.typ == 4 && bitOf (num m.data 2 1) 5 && !s.ownMsg m) = bitOf (num m.data 2 1) 5 := by
    simp [hup, hrun, htyp, hown]
  rw [State.beforeStat, hread]

theorem effStatMessage_read {p : Nat} {bl : List WireBlock} {m : Msg} (hcopy : readCopy (msgBlocks bl) = some m) :
    effStatMessage p bl s = (s.beforeStat p m).takeMsg p 4 none bl takeStat := by
  unfold effStatMessage takeStat State.beforeStat
  rw [hcopy]

theorem statMessage_takes {p : Nat} {bl : List WireBlock} {m : Msg} {r u : State}
    (hr : r = (if bitOf (num m.data 2 1) 5 then s.clearWindows m else s)) (hown : s.ownMsg m = false) (h : arrives r p 4 bl m u) :
    exec (.statMessage p bl) s = .next (u.useStat m) := by
  have hens : ∃ e, r = { s with ens := e } := by
    rw [hr]
    split
    · exact s.clearWindows_eq m
    · exact ⟨_, rfl⟩
  obtain ⟨hup, hrun, hcopy, htyp, -⟩ := id h
  have hlive : s.portUp p = true ∧ s.portsRun = true := by
    obtain ⟨e, rfl⟩ := hens
    exact ⟨hup, hrun⟩
  obtain ⟨htake, hown'⟩ := State.takeMsg_arrives (op := none) takeStat h (by simp [Msg.names, htyp])
  have heff : effStatMessage p bl s = r.takeMsg p 4 none bl takeStat := by
    rw [effStatMessage_read hcopy, State.beforeStat_live hlive.1 hlive.2 htyp hown, hr]
  have htaken : takeStat m true u = u.useStat m := (if_neg (by rw [hown']; decide)).trans (if_pos rfl)
  exact congrArg Host.Outcome.next ((heff.trans htake).trans htaken)

/-- The fields of the unit table that a STAT writes. -/
def statFields (m : Msg) (tick : Tick) : List (Fld × Nat) :=
  [(ENS.UNIT_STATE.PRESENT m.src, 1), (ENS.UNIT_STATE.ROLE m.src, num m.data 0 1), (ENS.UNIT_STATE.MODE m.src, num m.data 1 1),
    (ENS.UNIT_STATE.FLAGS m.src, num m.data 2 1), (ENS.UNIT_STATE.ARMED m.src, num m.data 3 1), (ENS.UNIT_STATE.HOPS m.src, m.hops + 1),
    (ENS.UNIT_TRICK.NEXT m.src, num m.data 8 4), (ENS.UNIT_SEEN.TICK m.src, tick.toNat)]

theorem statFields_nodup (m : Msg) (tick : Tick) : ((statFields m tick).map fun w => w.1.addr).Nodup := by
  simp [statFields, ENS.UNIT_STATE.PRESENT, ENS.UNIT_STATE.ROLE, ENS.UNIT_STATE.MODE, ENS.UNIT_STATE.FLAGS, ENS.UNIT_STATE.ARMED,
    ENS.UNIT_STATE.HOPS, ENS.UNIT_TRICK.NEXT, ENS.UNIT_SEEN.TICK]
  omega

/-- The unit table lies above the other registers of the ensemble block and within it. -/
theorem statFields_place {m : Msg} {tick : Tick} (ha : m.src ≤ 254) :
    ∀ w ∈ statFields m tick, 8 * 0x81000 ≤ w.1.addr ∧ w.1.addr < 14 * 524288 := by
  simp only [statFields, ENS.UNIT_STATE.PRESENT, ENS.UNIT_STATE.ROLE, ENS.UNIT_STATE.MODE, ENS.UNIT_STATE.FLAGS, ENS.UNIT_STATE.ARMED,
    ENS.UNIT_STATE.HOPS, ENS.UNIT_TRICK.NEXT, ENS.UNIT_SEEN.TICK, List.forall_mem_cons, List.not_mem_nil, false_implies, implies_true]
  refine ⟨?_, ?_, ?_, ?_, ?_, ?_, ?_, ?_, trivial⟩ <;> omega

theorem State.notePorts_eq (s : State) (a flags : Nat) : ∃ e, s.notePorts a flags = { s with ens := e } := by
  unfold State.notePorts
  dsimp only
  split
  · exact ⟨_, rfl⟩
  · exact ⟨_, rfl⟩

theorem State.tabulate_eq (s : State) (m : Msg) : ∃ e, s.tabulate m = { s.setFs (statFields m s.tick) with ens := e } := by
  obtain ⟨e, he⟩ := State.notePorts_eq { s.setFs (statFields m s.tick) with ens := { s.ens with
    statAt := Tbl.set 0 s.ens.statAt m.src (s.now + 1), statSeq := Tbl.set 0 s.ens.statSeq m.src (m.seq + 1) } } m.src (num m.data 2 1)
  exact ⟨e, he⟩

/-- The registers in which a unit shows what it knows of dealers and trick numbers. -/
def dealerAddrs : List Nat := [ENS.TRICK_HIGH.HIGH.addr, ENS.TRICK_NEXT.NEXT.addr, ACQ.TRICK_NEXT.TRICK.addr, ENS.GEN.GEN.addr,
  ENS.STATUS.ACT_ROLE.addr, ENS.STATUS.DEALER.addr]

section
variable {s₀ : State}

theorem State.reportsFrom.seeTrick {t : Nat} (h : s.reportsFrom dealerAddrs s₀) : (s.seeTrick t).reportsFrom dealerAddrs s₀ := by
  have hhigh : (if laterTrick t (s.fld ENS.TRICK_HIGH.HIGH) then s.setF ENS.TRICK_HIGH.HIGH t else s).reportsFrom dealerAddrs s₀ :=
    (h.setF (by simp [dealerAddrs])).ite h
  exact ((hhigh.setF (f := ENS.TRICK_NEXT.NEXT) (by simp [dealerAddrs])).setF (f := ACQ.TRICK_NEXT.TRICK)
    (by simp [dealerAddrs])).ite hhigh

theorem State.reportsFrom.seeGen {g : Nat} (h : s.reportsFrom dealerAddrs s₀) : (s.seeGen g).reportsFrom dealerAddrs s₀ :=
  (h.setF (by simp [dealerAddrs])).ite h

theorem State.reportsFrom.demote {a : Nat} (h : s.reportsFrom dealerAddrs s₀) : (s.demote a).reportsFrom dealerAddrs s₀ :=
  (h.setF (f := ENS.STATUS.ACT_ROLE) (v := 1) (by simp [dealerAddrs])).withEns.raise (by decide)

theorem State.reportsFrom.takeDealer {a g : Nat} (h : s.reportsFrom dealerAddrs s₀) : (s.takeDealer a g).reportsFrom dealerAddrs s₀ :=
  (h.setF (f := ENS.STATUS.DEALER) (v := a) (by simp [dealerAddrs])).withEns

theorem State.reportsFrom.meetDealer {a g : Nat} (h : s.reportsFrom dealerAddrs s₀) : (s.meetDealer a g).reportsFrom dealerAddrs s₀ := by
  have hgives : ∀ {c : Prop} {_ : Decidable c},
      (if c then (s.seeGen g).demote a else s.seeGen g).reportsFrom dealerAddrs s₀ := fun {_ _} => h.seeGen.demote.ite h.seeGen
  exact (h.seeGen.demote.takeDealer.ite h.seeGen).ite (hgives.takeDealer.ite hgives)

theorem State.reportsFrom.knowCalls {src q : Nat} {including : Bool} (h : s.reportsFrom dealerAddrs s₀) :
    (s.knowCalls src q including).reportsFrom dealerAddrs s₀ := by
  obtain ⟨e, he, -⟩ := s.knowCalls_eq src q including
  exact he ▸ h.withEns

end

/-- An accepted STAT of a unit with an address fills its row of the table. -/
theorem State.useStat_tabulates {u : State} {m : Msg} (hlo : 1 ≤ m.src) (hhi : m.src ≤ 254) :
    ∀ w ∈ statFields m u.tick, (u.useStat m).fld w.1 = w.2 % 2 ^ w.1.width := by
  intro w hw
  have hrow : u.useStat m = (if num m.data 0 1 = 1 ∧ m.src ≠ 0 then
      ((((u.tabulate m).knowCalls m.src (num m.data 4 2 % 2 ^ 15) true).seeTrick (num m.data 12 4))).meetDealer m.src (num m.data 6 2)
      else (((u.tabulate m).knowCalls m.src (num m.data 4 2 % 2 ^ 15) true).seeTrick (num m.data 12 4))) := by
    have hunit : ¬ (m.src = 0 ∨ 254 < m.src) := by omega
    unfold State.useStat
    rw [if_neg hunit]
  have hfrom : (u.useStat m).reportsFrom dealerAddrs (u.tabulate m) := by
    have hseen := ((State.reportsFrom.refl dealerAddrs (u.tabulate m)).knowCalls (src := m.src) (q := num m.data 4 2 % 2 ^ 15)
      (including := true)).seeTrick (t := num m.data 12 4)
    rw [hrow]
    exact hseen.meetDealer.ite hseen
  obtain ⟨hplace, hbelow⟩ := statFields_place hhi w hw
  have houtside : w.1.addr ∉ dealerAddrs := fun hn =>
    absurd ((show ∀ a ∈ dealerAddrs, a < 8 * 0x81000 by decide) _ hn) (Nat.not_lt.mpr hplace)
  obtain ⟨e, he⟩ := u.tabulate_eq m
  refine (hfrom.1 w.1 houtside (isReport_below hbelow)).trans ?_
  rw [he]
  exact fld_setFs (statFields_nodup m u.tick) u w hw

theorem ofLe_lt (bs : List Byte) : ofLe bs < 256 ^ bs.length := by
  induction bs with
  | nil => decide
  | cons b t ih =>
    have hb := b.isLt
    rw [ofLe, List.length_cons, Nat.pow_succ]
    omega

/-- A number read from `len` bytes fits them. -/
theorem num_lt (bs : List Byte) (off len : Nat) : num bs off len < 256 ^ len :=
  Nat.lt_of_lt_of_le (ofLe_lt _) (Nat.pow_le_pow_right (by decide) (by simp [slice]))

theorem statMessage_tabulates {p : Nat} {bl : List WireBlock} {m : Msg} {r u : State}
    (hr : r = (if bitOf (num m.data 2 1) 5 then s.clearWindows m else s)) (hown : s.ownMsg m = false) (h : arrives r p 4 bl m u)
    (hlo : 1 ≤ m.src) (hhi : m.src ≤ 254) : ∃ t, exec (.statMessage p bl) s = .next t ∧ t.fld (ENS.UNIT_STATE.PRESENT m.src) = 1 ∧
      t.fld (ENS.UNIT_STATE.ROLE m.src) = num m.data 0 1 % 4 ∧ t.fld (ENS.UNIT_STATE.MODE m.src) = num m.data 1 1 % 16 ∧
      t.fld (ENS.UNIT_STATE.FLAGS m.src) = num m.data 2 1 ∧ t.fld (ENS.UNIT_STATE.ARMED m.src) = num m.data 3 1 ∧
      t.fld (ENS.UNIT_STATE.HOPS m.src) = (m.hops + 1) % 256 ∧ t.fld (ENS.UNIT_TRICK.NEXT m.src) = num m.data 8 4 ∧
      t.fld (ENS.UNIT_SEEN.TICK m.src) = u.tick.toNat % 2 ^ 32 := by
  have hfld := State.useStat_tabulates (u := u) hlo hhi
  simp only [statFields, List.forall_mem_cons] at hfld
  obtain ⟨hpresent, hrole, hmode, hflags, harmed, hhops, htrick, hseen, -⟩ := hfld
  exact ⟨_, statMessage_takes hr hown h, hpresent, hrole, hmode, hflags.trans (Nat.mod_eq_of_lt (num_lt _ _ 1)),
    harmed.trans (Nat.mod_eq_of_lt (num_lt _ _ 1)), hhops, htrick.trans (Nat.mod_eq_of_lt (num_lt _ _ 4)), hseen⟩

/-! ### Periods that are over (R223, R238) -/

theorem unitPresenceTimeout_clears {a t0 : Nat} (hlo : 1 ≤ a) (hhi : a ≤ 254) (hstat : Tbl.get 0 s.ens.statAt a = t0 + 1)
    (hdue : t0 + 3 * s.statPeriod ≤ s.now) : ∃ t, exec (.unitPresenceTimeout a) s = .next t ∧ t.fld (ENS.UNIT_STATE.PRESENT a) = 0 ∧
      onlyRegs [(ENS.UNIT_STATE.PRESENT a).addr] s t := by
  have heff : effUnitPresenceTimeout a s = s.setF (ENS.UNIT_STATE.PRESENT a) 0 := by
    unfold effUnitPresenceTimeout
    rw [hstat]
    exact if_pos ⟨hlo, hhi, hdue⟩
  exact ⟨_, congrArg Host.Outcome.next heff, State.fld_setF_same _ _ _, onlyRegs_setF _ s _ 0 (List.mem_singleton_self _)⟩

theorem restartWindowEnd_ends (hrestart : s.ens.restart = true) (hdue : s.ens.startAt + 10 * s.statPeriod ≤ s.now)
    (hheld : s.dev.held = false) : exec .restartWindowEnd s = .next { s with ens := { s.ens with restart := false } } :=
  congrArg Host.Outcome.next (if_pos (by simp [hrestart, hdue, hheld]))

/-! ### The dealer (R234, R238) -/

/-- This unit is shown as the acting dealer. -/
def State.showActing (s : State) : State := (s.setF ENS.STATUS.ACT_ROLE 2).setF ENS.STATUS.DEALER (s.fld ENS.STATUS.ADDR)

theorem State.showActing_shows (ha : s.fld ENS.STATUS.ADDR < 256) : s.showActing.actsAsDealer = true ∧
    s.showActing.fld ENS.STATUS.DEALER = s.fld ENS.STATUS.ADDR ∧
    onlyRegs [ENS.STATUS.ACT_ROLE.addr, ENS.STATUS.DEALER.addr] s s.showActing := by
  refine ⟨beq_iff_eq.mpr ?_, (State.fld_setF_same _ _ _).trans (Nat.mod_eq_of_lt ha), ((onlyRegs_refl _ s).setF (by simp)).setF (by simp)⟩
  exact (State.fld_setF_ne _ _ _ _ (by decide)).trans (State.fld_setF_same _ _ _)

theorem dealerWaitEnd_acts {t0 : Nat} (hrun : s.portsRun = true) (hup : s.ens.firstUp = some t0) (hrole : s.fld ENS.CFG.ROLE = 2)
    (hacting : s.ens.acting = false) (hdemoted : s.ens.demoted = false) (hdue : t0 + 2 * s.statPeriod ≤ s.now)
    (ha : s.fld ENS.STATUS.ADDR < 256) : ∃ t : State, exec .dealerWaitEnd s = .next t.commitDeals ∧ t.actsAsDealer = true ∧
      t.fld ENS.STATUS.DEALER = s.fld ENS.STATUS.ADDR ∧ t.ens.acting = true ∧
      onlyRegs [ENS.STATUS.ACT_ROLE.addr, ENS.STATUS.DEALER.addr] s { t with ens := s.ens } := by
  obtain ⟨hacts, hdealer, honly⟩ := State.showActing_shows ha
  have heff : effDealerWaitEnd s = State.commitDeals { s.showActing with ens := { s.ens with
      acting := true, dealerSeen := none, dealerLost := none } } := by
    unfold effDealerWaitEnd
    rw [hup]
    exact if_pos (by simp [hrun, hrole, hacting, hdemoted, hdue])
  exact ⟨_, congrArg Host.Outcome.next heff, hacts, hdealer, rfl, honly⟩

/-- The fields that show no dealer and no enumeration. -/
def dealerFields : List (Fld × Nat) := [(ENS.STATUS.ENUM_BUSY, 0), (ENS.CMD.ENUM, 0), (ENS.STATUS.DEALER, 0)]

/-- An enumeration under way is abandoned, and no dealer is known. -/
def State.loseDealer (s : State) : State :=
  { s.setFs dealerFields with ens := { s.abandonEnum.ens with dealerLost := some s.now, dealerSeen := none } }

theorem State.loseDealer_shows (s : State) : s.loseDealer.fld ENS.STATUS.DEALER = 0 ∧ s.loseDealer.fld ENS.STATUS.ENUM_BUSY = 0 ∧
    s.loseDealer.fld ENS.CMD.ENUM = 0 ∧
    s.loseDealer.reportsFrom [ENS.STATUS.DEALER.addr, ENS.STATUS.ENUM_BUSY.addr, ENS.CMD.ENUM.addr] s := by
  have hfld := fld_setFs (ws := dealerFields) (by decide) s
  simp only [dealerFields, List.forall_mem_cons] at hfld
  obtain ⟨hbusy, henum, hdealer, -⟩ := hfld
  exact ⟨hdealer, hbusy, henum, onlyReports_of_onlyRegs (onlyRegs_setFs s (ws := dealerFields) (by simp [dealerFields]))⟩

theorem dealerLost_reports {t0 a : Nat} (hrun : s.portsRun = true) (hseen : s.ens.dealerSeen = some t0) (hmember : s.actsAsDealer = false)
    (ha : a = s.fld ENS.STATUS.DEALER) (hne : a ≠ 0) (hlt : a < 256) (hlost : s.ens.dealerLost = none)
    (hdue : t0 + 3 * s.statPeriod ≤ s.now) : ∃ t, exec .dealerLost s = .next t ∧ t.fld ENS.STATUS.DEALER = 0 ∧
      t.fld ENS.STATUS.ENUM_BUSY = 0 ∧ t.fld ENS.CMD.ENUM = 0 ∧ t.ens.dealerLost = some s.now ∧ reported 124 0 a 0 t ∧
      onlyReports [ENS.STATUS.DEALER.addr, ENS.STATUS.ENUM_BUSY.addr, ENS.CMD.ENUM.addr] s { t with ens := s.ens } := by
  have heff : effDealerLost s = s.loseDealer.raise 124 0 a 0 0 := by
    unfold effDealerLost
    rw [hseen, ha]
    exact if_pos (by simp [hrun, hmember, ← ha, hne, hlost, hdue])
  obtain ⟨hdealer, hbusy, henum, hfrom⟩ := s.loseDealer_shows
  have hraise : ∀ g : Fld, g.addr < 14 * 524288 → (s.loseDealer.raise 124 0 a 0 0).fld g = s.loseDealer.fld g :=
    fun g hg => State.raise_below _ _ _ _ _ (by decide) hg
  refine ⟨_, congrArg Host.Outcome.next heff, (hraise _ (by decide)).trans hdealer, (hraise _ (by decide)).trans hbusy,
    (hraise _ (by decide)).trans henum, ?_, State.raise_reported _ 124 0 a 0 0 (by decide) (by decide) (by decide) hlt (by decide),
    hfrom.raise (by decide)⟩
  rw [State.raise_ens _ _ _ _ _ (by decide)]
  rfl

/-- The standby takes the next generation and skips 1024 trick numbers (R238). -/
def State.takeOver (s : State) : State :=
  let t := (s.setF ENS.GEN.GEN (s.fld ENS.GEN.GEN + 1)).setTrickNext (s.fld ENS.TRICK_HIGH.HIGH + 1024)
  let t := t.showActing
  { t with ens := { t.ens with acting := true, own := (s.fld ENS.GEN.GEN + 1) % 2 ^ 16, dealerGen := (s.fld ENS.GEN.GEN + 1) % 2 ^ 16
                               dealerLost := none, enumDue := true, timeSent := t.time.previous } }

theorem State.takeOver_shows (hgen : s.fld ENS.GEN.GEN + 1 < 2 ^ 16) (ha : s.fld ENS.STATUS.ADDR < 256) :
    s.takeOver.fld ENS.GEN.GEN = s.fld ENS.GEN.GEN + 1 ∧ s.takeOver.actsAsDealer = true ∧
    s.takeOver.fld ENS.STATUS.DEALER = s.fld ENS.STATUS.ADDR ∧
    s.takeOver.fld ENS.TRICK_NEXT.NEXT = (s.fld ENS.TRICK_HIGH.HIGH + 1024) % 2 ^ 32 ∧ s.takeOver.ens.own = s.fld ENS.GEN.GEN + 1 ∧
    s.takeOver.ens.enumDue = true ∧ onlyRegs [ENS.GEN.GEN.addr, ENS.STATUS.ACT_ROLE.addr, ENS.STATUS.DEALER.addr,
      ENS.TRICK_NEXT.NEXT.addr, ACQ.TRICK_NEXT.TRICK.addr] s { s.takeOver with ens := s.ens } := by
  generalize hu : (s.setF ENS.GEN.GEN (s.fld ENS.GEN.GEN + 1)).setTrickNext (s.fld ENS.TRICK_HIGH.HIGH + 1024) = u
  have htrick := (s.setF ENS.GEN.GEN (s.fld ENS.GEN.GEN + 1)).setTrickNext_only (s.fld ENS.TRICK_HIGH.HIGH + 1024)
  have honly : onlyRegs [ENS.GEN.GEN.addr, ENS.STATUS.ACT_ROLE.addr, ENS.STATUS.DEALER.addr, ENS.TRICK_NEXT.NEXT.addr,
      ACQ.TRICK_NEXT.TRICK.addr] s u := hu ▸ onlyRegs_trans (onlyRegs_setF _ s _ _ (by simp)) (htrick.weaken (by simp))
  have hgen' : u.fld ENS.GEN.GEN = s.fld ENS.GEN.GEN + 1 := by
    rw [← hu, htrick.1 _ (by decide), State.fld_setF_same]
    exact Nat.mod_eq_of_lt hgen
  have hnext : u.fld ENS.TRICK_NEXT.NEXT = (s.fld ENS.TRICK_HIGH.HIGH + 1024) % 2 ^ 32 := by
    rw [← hu]
    exact (State.fld_setF_ne _ _ _ _ (by decide)).trans (State.fld_setF_same _ _ _)
  have haddr : u.fld ENS.STATUS.ADDR = s.fld ENS.STATUS.ADDR := honly.1 _ (by decide)
  obtain ⟨hacts, hdealer, hshow⟩ := State.showActing_shows (s := u) (haddr ▸ ha)
  have htake : s.takeOver = { u.showActing with ens := s.takeOver.ens } := by rw [← hu]; rfl
  have hframe : onlyRegs [ENS.GEN.GEN.addr, ENS.STATUS.ACT_ROLE.addr, ENS.STATUS.DEALER.addr, ENS.TRICK_NEXT.NEXT.addr,
      ACQ.TRICK_NEXT.TRICK.addr] s u.showActing := onlyRegs_trans honly (hshow.weaken (by simp))
  refine ⟨?_, ?_, ?_, ?_, Nat.mod_eq_of_lt hgen, rfl, ?_⟩
  · rw [htake]
    exact (hshow.1 _ (by decide)).trans hgen'
  · rw [htake]
    exact hacts
  · rw [htake]
    exact hdealer.trans haddr
  · rw [htake]
    exact (hshow.1 _ (by decide)).trans hnext
  · rw [htake]
    exact onlyRegs.beside_ens (t := u.showActing) (e := s.ens) hframe

theorem effDealerTakeover_eq {c : Nat} (hlost : s.ens.dealerLost = some c) : effDealerTakeover s =
    if s.portsRun && s.fld ENS.STATUS.ACT_ROLE == 3 &&
      (if s.bit TIME.CFG.EPOCH_EN then s.epochSince c else decide (c + 100000000 * cyclesPerTick ≤ s.now)) then
      ((s.takeOver.sendStat [0, 1]).commitDeals).raise 125 0 0 (s.fld ENS.GEN.GEN + 1) 0
    else s := by
  unfold effDealerTakeover
  rw [hlost]
  unfold State.takeOver State.showActing
  with_reducible rfl

theorem dealerTakeover_takes {c : Nat} (hrun : s.portsRun = true) (hlost : s.ens.dealerLost = some c)
    (hrole : s.fld ENS.STATUS.ACT_ROLE = 3) (hepoch : s.bit TIME.CFG.EPOCH_EN = true → s.epochSince c = true)
    (hfree : s.bit TIME.CFG.EPOCH_EN = false → c + 100000000 * cyclesPerTick ≤ s.now) :
    exec .dealerTakeover s = .next (((s.takeOver.sendStat [0, 1]).commitDeals).raise 125 0 0 (s.fld ENS.GEN.GEN + 1) 0) := by
  have hdue : (if s.bit TIME.CFG.EPOCH_EN then s.epochSince c else decide (c + 100000000 * cyclesPerTick ≤ s.now)) = true := by
    by_cases hen : s.bit TIME.CFG.EPOCH_EN = true
    · rw [if_pos hen]
      exact hepoch hen
    · rw [if_neg hen]
      exact decide_eq_true (hfree (Bool.eq_false_of_not_eq_true hen))
  have htake : effDealerTakeover s = ((s.takeOver.sendStat [0, 1]).commitDeals).raise 125 0 0 (s.fld ENS.GEN.GEN + 1) 0 := by
    rw [effDealerTakeover_eq hlost, if_pos (by rw [hdue, hrun, hrole]; rfl)]
  exact congrArg Host.Outcome.next htake

/-! ### TIME (R230) -/

theorem timeSend_sends {e : Tick} (hrun : s.portsRun = true) (hprev : s.time.previous = some e) (hacts : s.actsAsDealer = true)
    (hen : s.bit TIME.CFG.EPOCH_EN = true) (hsent : s.ens.timeSent ≠ some e)
    (hdue : duePast s.tick (e + BitVec.ofNat 48 (s.fld TIME.EPOCH_PERIOD.PERIOD / 2)) = true) :
    exec .timeSend s = .next (State.originate { s with ens := { s.ens with timeSent := some e } } 3 255
      (le 4 (s.fld TIME.EPOCH_NUM.NUM) ++ le 6 e.toNat ++ le 2 s.ens.own ++ le 4 (s.fld TIME.EPOCH_PERIOD.PERIOD))) := by
  refine congrArg Host.Outcome.next ?_
  unfold effTimeSend
  rw [hprev]
  exact if_pos (by simp [hrun, hacts, hen, hsent, hdue])

theorem timeMessage_takes {p : Nat} {bl : List WireBlock} {m : Msg} {u : State} (h : arrives s p 3 bl m u) :
    exec (.timeMessage p bl) s = .next (u.takeTime m) := by
  obtain ⟨-, -, -, htyp, -⟩ := id h
  obtain ⟨htake, hown⟩ := State.takeMsg_arrives (op := none) (fun m fresh s => if fresh && !s.ownMsg m then s.takeTime m else s) h
    (by simp [Msg.names, htyp])
  exact congrArg Host.Outcome.next (htake.trans (if_pos (by rw [hown]; rfl)))

section
variable {m : Msg}

theorem State.takeTime_older (h : num m.data 10 2 < s.fld ENS.GEN.GEN) : s.takeTime m = s := if_pos h

variable (hgen : num m.data 10 2 = s.fld ENS.GEN.GEN)
include hgen

/-- A TIME of the dealer's generation is compared with an aligned unit's epochs, and arms the next one elsewhere. -/
theorem State.takeTime_current : s.takeTime m =
    if s.bit TIME.STATUS.EPOCH_ALIGNED then
      if num m.data 0 4 ≠ s.fld TIME.EPOCH_NUM.NUM ∨ some (BitVec.ofNat 48 (num m.data 4 6)) ≠ s.time.previous ∨
        num m.data 12 4 ≠ s.fld TIME.EPOCH_PERIOD.PERIOD then s.raise 119 0 m.src 0 0 else s
    else if s.bit ENS.CFG.TIME_LOAD then
      if s.bit TIME.CFG.EPOCH_EN then
        { s.setF TIME.CMD.EPOCH_ARM 1 with time := { s.time with armed := some ((num m.data 0 4 + 1) % 2 ^ 32,
          BitVec.ofNat 48 (num m.data 4 6) + BitVec.ofNat 48 (num m.data 12 4)) } }
      else s.raise 21 1 0 0 0
    else s := by
  have hsee : s.seeGen (num m.data 10 2) = s := if_neg (by omega)
  unfold State.takeTime
  dsimp only
  rw [if_neg (by omega), hsee]
  rfl

theorem State.takeTime_differs (hal : s.bit TIME.STATUS.EPOCH_ALIGNED = true) (hnum : num m.data 0 4 ≠ s.fld TIME.EPOCH_NUM.NUM) :
    s.takeTime m = s.raise 119 0 m.src 0 0 :=
  (State.takeTime_current hgen).trans ((if_pos hal).trans (if_pos (.inl hnum)))

theorem State.takeTime_arms (hal : s.bit TIME.STATUS.EPOCH_ALIGNED = false) (hload : s.bit ENS.CFG.TIME_LOAD = true)
    (hen : s.bit TIME.CFG.EPOCH_EN = true) : (s.takeTime m).fld TIME.CMD.EPOCH_ARM = 1 ∧
      (s.takeTime m).time.armed = some ((num m.data 0 4 + 1) % 2 ^ 32, BitVec.ofNat 48 (num m.data 4 6) + BitVec.ofNat 48 (num m.data 12 4)) ∧
      onlyRegs [TIME.CMD.EPOCH_ARM.addr] s { s.takeTime m with time := s.time } := by
  rw [State.takeTime_current hgen, if_neg (by rw [hal]; decide), if_pos hload, if_pos hen]
  exact ⟨State.fld_setF_same s _ 1, rfl, onlyRegs_setF _ s _ 1 (List.mem_singleton_self _)⟩

end

end

/-- Settles O32: STATs by `statSend_sends` and `statMessage_tabulates`, the periods and the dealer by what each shows, a TIME by its
generation and by whether the unit is aligned. -/
theorem unitTableAndDealerAreKept : Obligations.UnitTableAndDealerAreKept := by
  refine ⟨fun s => ⟨statSend_sends, fun t0 => statSend_waits, fun p bl m r u => statMessage_tabulates, fun a t0 => unitPresenceTimeout_clears,
    restartWindowEnd_ends⟩, fun s hrun => ⟨fun t0 => dealerWaitEnd_acts hrun, fun t0 a => dealerLost_reports hrun,
    fun c hlost hrole hepoch hfree hgen ha => ⟨s.takeOver, dealerTakeover_takes hrun hlost hrole hepoch hfree, State.takeOver_shows hgen ha⟩,
    fun e => timeSend_sends hrun, fun p bl m u h => ?_⟩⟩
  have hexec := timeMessage_takes h
  exact ⟨hexec, fun hlt => hexec.trans (congrArg Host.Outcome.next (State.takeTime_older hlt)),
    fun hgen hal hnum => hexec.trans (congrArg Host.Outcome.next (State.takeTime_differs hgen hal hnum)),
    fun hgen hal hload hen => ⟨_, hexec, State.takeTime_arms hgen hal hload hen⟩⟩

end Sys2Proof.Machine
end

section
/-!
SUPPORT. Enumeration (R231 to R233, Table 09-6): SCAN, the REPORTs, the ASSIGNs in rounds and DONE, on the dealer and on a unit.
-/

namespace Sys2Proof.Machine

/-! ### Sources that stay latched -/

section
variable {s t : State} {m : Nat}

theorem latched_of_status (h : t.fld (EVT.STATUS.STATUS (m / 32)) = s.fld (EVT.STATUS.STATUS (m / 32))) (hs : s.latched m = true) :
    t.latched m = true := by
  rw [State.latched] at hs ⊢
  rw [h, hs]

theorem status_ne_dropped : (EVT.STATUS.STATUS (m / 32)).addr ≠ MGT.LOG_STATUS.DROPPED.addr := by
  simp only [EVT.STATUS.STATUS, MGT.LOG_STATUS.DROPPED]
  omega

theorem latched_announce {was : Bool} {n : Nat} (hs : s.latched m = true) : (s.announce was n).latched m = true :=
  latched_of_status (by simp only [State.fld, State.announce_regs]) hs

theorem latched_latch {n k i a : Nat} (hn : n < 256) (hm : m < 256) (hs : s.latched m = true) : (s.latchEvent n k i a).latched m = true := by
  rw [State.latched_latchEvent s n k i a m hn hm, hs, Bool.or_true]

theorem latched_logDropped (hm : m < 256) (hs : s.latched m = true) : s.logDropped.latched m = true := by
  have hann := latched_announce (was := s.latched 240) (n := 240) (latched_latch (n := 240) (k := 0) (i := 0) (a := 0) (by decide) hm hs)
  unfold State.logDropped
  dsimp only
  split
  · exact latched_of_status (State.dropEntry_fld _ _ status_ne_dropped) hann
  · exact hann

theorem latched_logEvent {n k i a a2 : Nat} (hm : m < 256) (hs : s.latched m = true) : (s.logEvent n k i a a2).latched m = true := by
  have hstage := fun typ source flags data =>
    latched_of_status (State.stageLimited_fld s typ source flags data (EVT.STATUS.STATUS (m / 32)) status_ne_dropped) hs
  unfold State.logEvent State.logEntry
  dsimp only
  split
  · split
    · exact latched_logDropped hm (hstage _ _ _ _)
    · exact hstage _ _ _ _
  · exact hs

/-- An occurrence latches its source. -/
theorem latched_raise_self (s : State) {n : Nat} (k i a a2 : Nat) (hn : n < 256) : (s.raise n k i a a2).latched n = true :=
  latched_logEvent hn (latched_announce (by rw [State.latched_latchEvent s n k i a n hn hn, decide_eq_true rfl, Bool.true_or]))

/-- An occurrence clears no source. -/
theorem latched_raise {n k i a a2 : Nat} (hn : n < 256) (hm : m < 256) (hs : s.latched m = true) : (s.raise n k i a a2).latched m = true :=
  latched_logEvent hm (latched_announce (latched_latch hn hm hs))

/-- One report for each element of a list. -/
theorem foldl_reports {α : Type} {f : State → α → State} (hf : ∀ s x, onlyReports [] s (f s x) ∧ (f s x).latched m = true)
    (l : List α) (s : State) : onlyReports [] s (l.foldl f s) ∧ (l ≠ [] → (l.foldl f s).latched m = true) := by
  refine ⟨List.foldlRecOn (motive := onlyReports [] s) _ _ (onlyReports_refl _ s) fun u hu x _ => onlyReports_trans hu (hf u x).1, fun hne => ?_⟩
  rw [← List.dropLast_append_getLast hne, List.foldl_append]
  exact (hf _ _).2

end

section
variable {s : State}

/-! ### SCAN on the dealer (Table 09-6 step 1) -/

/-- The dealer is about to send SCAN. -/
def State.scanning (s : State) : State :=
  let s := s.setF ENS.STATUS.ENUM_BUSY 1
  { s with ens := { s.ens with scanAt := some s.now, reports := [], assigns := [], assignDue := [], assigned := false, assignRound := 0
                               closed := false, reported := true, enumDue := false, portChange := none } }

theorem State.startEnum_eq (s : State) : s.startEnum =
    (if s.fld ENS.STATUS.ADDR = 0 then (s.storeAddr 1).setF ENS.STATUS.DEALER 1 else s).scanning.originate 1 255
      (enumData 0 0 0 0 0 Config.serial) := by
  unfold State.startEnum State.scanning
  with_reducible rfl

theorem State.startEnum_addressed (h : s.fld ENS.STATUS.ADDR ≠ 0) :
    s.startEnum = s.scanning.originate 1 255 (enumData 0 0 0 0 0 Config.serial) := by
  rw [State.startEnum_eq, if_neg h]

theorem State.scanning_only (s : State) : onlyRegs [ENS.STATUS.ENUM_BUSY.addr] s { s.scanning with ens := s.ens } :=
  onlyRegs_setF _ s _ 1 (List.mem_singleton_self _)

theorem State.scanning_busy (s : State) : s.scanning.fld ENS.STATUS.ENUM_BUSY = 1 := State.fld_setF_same s ENS.STATUS.ENUM_BUSY 1

/-! ### A stored address (R231) -/

/-- A record written to the log memory stands first among the persistent ones; what else comes of it are reports. -/
theorem State.writePersist_only (s : State) (kind v : Nat) : onlyReports []
    { s with nv := { s.nv with persist := ((kind, v) :: s.nv.persist).take 8192, persistCount := s.nv.persistCount + 1 } }
    (s.writePersist kind v) := State.logEntry_only [] _ _ _ _ _

theorem onlyReports.nv_eq {A : List Nat} {t : State} (h : onlyReports A s t) : t.nv = s.nv := (congrArg (fun u : State => u.nv) h.2 : _)

theorem State.storeAddr_addr {a : Nat} (ha : a < 256) : (s.storeAddr a).fld ENS.STATUS.ADDR = a :=
  (((s.setF ENS.STATUS.ADDR a).writePersist_only 0 _).1 ENS.STATUS.ADDR List.not_mem_nil (by decide)).trans
    ((State.fld_setF_same s ENS.STATUS.ADDR a).trans (Nat.mod_eq_of_lt ha))

theorem State.storeAddr_persist (a : Nat) : (s.storeAddr a).nv.persist =
    ((0, addrRecord a (s.fld ENS.ID.ENSEMBLE_ID)) :: s.nv.persist).take 8192 :=
  (congrArg NvSt.persist ((s.setF ENS.STATUS.ADDR a).writePersist_only 0 (addrRecord a (s.fld ENS.ID.ENSEMBLE_ID))).nv_eq : _)

/-- A dealer without an address takes address 1 first. -/
theorem State.startEnum_first (h : s.fld ENS.STATUS.ADDR = 0) :
    s.startEnum = ((s.storeAddr 1).setF ENS.STATUS.DEALER 1).startEnum := by
  have haddr : ((s.storeAddr 1).setF ENS.STATUS.DEALER 1).fld ENS.STATUS.ADDR = 1 :=
    (State.fld_setF_ne _ _ _ _ (by decide)).trans (State.storeAddr_addr (by decide))
  rw [State.startEnum_addressed (s := (s.storeAddr 1).setF ENS.STATUS.DEALER 1) (by rw [haddr]; decide), State.startEnum_eq, if_pos h]

theorem enumerationStart_starts (hrun : s.portsRun = true) (hdealer : s.actsAsDealer = true) (hidle : s.fld ENS.STATUS.ENUM_BUSY = 0)
    (hdue : s.ens.enumDue = true ∨ (∃ c, s.ens.portChange = some c ∧ (s.bit TIME.CFG.EPOCH_EN = true → s.epochSince c = true) ∧
      (s.bit TIME.CFG.EPOCH_EN = false → c + 10000000 ≤ s.now))) : exec .enumerationStart s = .next s.startEnum := by
  refine congrArg Host.Outcome.next ?_
  have hbusy : s.bit ENS.STATUS.ENUM_BUSY = false := by rw [State.bit, hidle]; rfl
  unfold effEnumerationStart
  rcases hdue with hdue | ⟨c, hchange, hepoch, hfree⟩
  · exact if_pos (by simp [hrun, hdealer, hbusy, hdue])
  · rw [hchange]
    cases hen : s.bit TIME.CFG.EPOCH_EN with
    | true => exact if_pos (by simp [hrun, hdealer, hbusy, hepoch hen])
    | false => exact if_pos (by simp [hrun, hdealer, hbusy, hfree hen])

theorem ensEnum_served (hrun : s.portsRun = true) (hdealer : s.actsAsDealer = true) (hserved : s.served 0x80018 = true) :
    exec .ensEnum s = .next (if s.bit ENS.STATUS.ENUM_BUSY then s.setF ENS.CMD.ENUM 1 else (s.setF ENS.CMD.ENUM 1).startEnum) := by
  have hbusy : (s.setF ENS.CMD.ENUM 1).bit ENS.STATUS.ENUM_BUSY = s.bit ENS.STATUS.ENUM_BUSY :=
    congrArg (· == 1) (State.fld_setF_ne _ _ _ _ (by decide))
  refine congrArg Host.Outcome.next ?_
  rw [← hbusy]
  unfold effEnsEnum
  exact if_pos (by simp [hrun, hdealer, hserved])

/-! ### REPORTs and ACKs (Table 09-6 steps 2 and 4) -/

section
variable {p : Nat} {bl : List WireBlock} {m : Msg} {u : State}

theorem arrives.takesEnum {op : Nat} {act : Msg → Bool → State → State} (h : arrives s p 1 bl m u) (hop : num m.data 0 1 = op) :
    s.takeMsg p 1 (some op) bl act = act m true u ∧ u.ownMsg m = false := by
  obtain ⟨-, -, -, htyp, -⟩ := id h
  exact State.takeMsg_arrives act h (by simp [Msg.names, htyp, hop])

theorem enumReport_notes (h : arrives s p 1 bl m u) (hdealer : u.actsAsDealer = true) (hop : num m.data 0 1 = 1)
    (hbusy : u.fld ENS.STATUS.ENUM_BUSY = 1) (hopen : u.ens.assigned = false) :
    exec (.enumReport p bl) s = .next { u with ens := { u.ens with reports := (u.ens.reports.filter fun x => x.serial != m.serial) ++ [
      { serial := m.serial, addr := num m.data 1 1, stored := bitOf (num m.data 4 1) 0, hopsB := num m.data 2 1, hopsA := num m.data 3 1 }] } } := by
  obtain ⟨htake, hown⟩ := h.takesEnum hop
  exact congrArg Host.Outcome.next (htake.trans (if_pos (by simp [hdealer, State.bit, hbusy, hopen, hown])))

theorem enumAck_notes (h : arrives s p 1 bl m u) (hdealer : u.actsAsDealer = true) (hop : num m.data 0 1 = 3) :
    exec (.enumAck p bl) s = .next { u with ens := { u.ens with
      assigns := u.ens.assigns.map fun a => if a.serial = m.serial ∧ a.addr = num m.data 1 1 then { a with acked := true } else a
      assignDue := u.ens.assignDue.filter fun a => a.serial != m.serial || a.addr != num m.data 1 1 } } := by
  obtain ⟨htake, hown⟩ := h.takesEnum hop
  exact congrArg Host.Outcome.next (htake.trans (if_pos (by simp [hdealer, hown])))

end

/-! ### Addresses assigned (Table 09-6 steps 3 and 4) -/

/-- The conflicts that an assignment of addresses reports, and that no address is left. -/
def State.reportClashes (s : State) (clash : List Nat) (full : Bool) : State :=
  let s := clash.foldl (fun (s : State) a => s.raise 122 0 a 0 0) s
  if full then s.raise 123 0 0 0 0 else s

theorem State.reportClashes_reports (s : State) (clash : List Nat) (full : Bool) : onlyReports [] s (s.reportClashes clash full) ∧
    (clash ≠ [] → (s.reportClashes clash full).latched 122 = true) ∧ (full = true → (s.reportClashes clash full).latched 123 = true) := by
  obtain ⟨honly, hlatched⟩ := foldl_reports (m := 122) (f := fun (s : State) a => s.raise 122 0 a 0 0)
    (fun s a => ⟨State.raise_only [] s 122 0 a 0 0 (by decide), latched_raise_self s 0 a 0 0 (by decide)⟩) clash s
  unfold State.reportClashes
  dsimp only
  split
  · exact ⟨onlyReports_trans honly (State.raise_only [] _ 123 0 0 0 0 (by decide)),
      fun hne => latched_raise (by decide) (by decide) (hlatched hne), fun _ => latched_raise_self _ 0 0 0 0 (by decide)⟩
  · next hnot => exact ⟨honly, hlatched, fun hfull => absurd hfull hnot⟩

/-- The addresses given are to be sent. -/
def State.noteAssigns (s : State) (order : List Report) (given : List Assign) : State :=
  { s with ens := { s.ens with
    assigned := true, assigns := given, units := min 254 (1 + order.length)
    closed := s.ens.closed || order.any fun r => decide (0 < r.hopsA) && decide (0 < r.hopsB) } }

theorem effEnumAssignDue_eq {t0 : Nat} {used used' clash : List Nat} {kept : List (Report × Nat)} {given : List Assign} {full : Bool}
    (hscan : s.ens.scanAt = some t0) (hkeep : keepAddrs (s.fld ENS.STATUS.ADDR) (ringOrder s.ens.reports) = (used, kept, clash))
    (hgive : giveAddrs used kept = (used', given, full)) : effEnumAssignDue s =
      if s.portsRun && s.actsAsDealer && s.bit ENS.STATUS.ENUM_BUSY && !s.ens.assigned && decide (t0 + 1000000 ≤ s.now) then
        ((s.reportClashes clash full).noteAssigns (ringOrder s.ens.reports) given).sendAssigns
      else s := by
  unfold effEnumAssignDue
  rw [hscan]
  dsimp only
  rw [hkeep]
  dsimp only
  rw [hgive]
  unfold State.reportClashes State.noteAssigns
  with_reducible rfl

theorem enumAssignDue_assigns {t0 : Nat} {used used' clash : List Nat} {kept : List (Report × Nat)} {given : List Assign} {full : Bool}
    (hrun : s.portsRun = true) (hdealer : s.actsAsDealer = true) (hscan : s.ens.scanAt = some t0)
    (hbusy : s.fld ENS.STATUS.ENUM_BUSY = 1) (hopen : s.ens.assigned = false) (hdue : t0 + 1000000 ≤ s.now)
    (hkeep : keepAddrs (s.fld ENS.STATUS.ADDR) (ringOrder s.ens.reports) = (used, kept, clash))
    (hgive : giveAddrs used kept = (used', given, full)) : ∃ u : State, exec .enumAssignDue s = .next u.sendAssigns ∧
      u.ens.assigned = true ∧ u.ens.assigns = given ∧ u.ens.units = min 254 (1 + s.ens.reports.length) ∧
      (clash ≠ [] → u.latched 122 = true) ∧ (full = true → u.latched 123 = true) ∧ onlyReports [] s { u with ens := s.ens } := by
  have hassign : effEnumAssignDue s = ((s.reportClashes clash full).noteAssigns (ringOrder s.ens.reports) given).sendAssigns := by
    rw [effEnumAssignDue_eq hscan hkeep hgive, if_pos (by simp [hrun, hdealer, State.bit, hbusy, hopen, hdue])]
  obtain ⟨honly, hclash, hfull⟩ := s.reportClashes_reports clash full
  refine ⟨_, congrArg Host.Outcome.next hassign, rfl, rfl, ?_, hclash, hfull,
    onlyReports.beside_ens (t := s.reportClashes clash full) honly (onlyReports_refl _ s)⟩
  rw [← (ringOrder_perm s.ens.reports).length_eq]
  rfl

section
variable (hrun : s.portsRun = true) (hdealer : s.actsAsDealer = true) (hassigned : s.ens.assigned = true) (hwait : s.unacked ≠ [])
  (hdue : s.ens.assignAt + 200000 ≤ s.now)
include hrun hdealer hassigned hwait hdue

theorem enumAckTimeout_repeats (hround : s.ens.assignRound < 3) : exec .enumAckTimeout s = .next s.sendAssigns := by
  have hlt : s.ens.assignRound < 4 := by omega
  refine congrArg Host.Outcome.next ?_
  unfold effEnumAckTimeout
  rw [if_pos (by simp [hrun, hdealer, hassigned, hwait, hdue, hlt]), if_pos hround]

theorem enumAckTimeout_ends (hround : s.ens.assignRound = 3) : ∃ t, exec .enumAckTimeout s = .next t ∧ t.ens.assignRound = 4 ∧
    t.latched 120 = true ∧ onlyReports [] s { t with ens := s.ens } := by
  have heff : effEnumAckTimeout s = s.unacked.foldl (fun (s : State) (a : Assign) => s.raise 120 0 0 0 (num a.serial 0 4))
      { s with ens := { s.ens with assignRound := 4 } } := by
    unfold effEnumAckTimeout
    rw [if_pos (by simp [hrun, hdealer, hassigned, hwait, hdue, hround]), if_neg (by omega)]
  obtain ⟨honly, hlatched⟩ := foldl_reports (m := 120) (f := fun (s : State) (a : Assign) => s.raise 120 0 0 0 (num a.serial 0 4))
    (fun s a => ⟨State.raise_only [] s 120 0 0 0 _ (by decide), latched_raise_self s 0 0 0 _ (by decide)⟩) s.unacked
    { s with ens := { s.ens with assignRound := 4 } }
  exact ⟨_, congrArg Host.Outcome.next heff, congrArg EnsSt.assignRound honly.ens_eq, hlatched hwait,
    onlyReports.beside_ens honly (onlyReports_refl _ s)⟩

end

/-! ### DONE (Table 09-6 step 5) -/

/-- The code of a topology: alone, a ring or a line. -/
def State.topology (s : State) (line : Bool) : Nat := if !(s.portUp 0 || s.portUp 1) then 0 else if line then 2 else 1

/-- The fields that DONE writes. -/
def State.doneFields (s : State) (units : Nat) (line : Bool) : List (Fld × Nat) :=
  [(ENS.STATUS.UNITS, units), (ENS.STATUS.TOPO, s.topology line), (ENS.STATUS.ENUM_BUSY, 0), (ENS.CMD.ENUM, 0)]

theorem State.showUnits_eq (s : State) (units : Nat) (line : Bool) :
    ∃ e, s.showUnits units line = { s.setFs (s.doneFields units line) with ens := e } := ⟨_, rfl⟩

theorem State.topology_eq (s : State) (line : Bool) :
    s.topology line % 4 = if s.portUp 0 || s.portUp 1 then (if line then 2 else 1) else 0 := by
  unfold State.topology
  cases s.portUp 0 || s.portUp 1 <;> cases line <;> rfl

/-- Where the number of units fits, DONE shows it, with the topology, and the enumeration is over. -/
theorem State.showUnits_shows {units : Nat} (hlt : units < 256) (line : Bool) :
    (s.showUnits units line).fld ENS.STATUS.UNITS = units ∧ (s.showUnits units line).fld ENS.STATUS.ENUM_BUSY = 0 ∧
    (s.showUnits units line).fld ENS.CMD.ENUM = 0 ∧
    (s.showUnits units line).fld ENS.STATUS.TOPO = (if s.portUp 0 || s.portUp 1 then (if line then 2 else 1) else 0) ∧
    (s.showUnits units line).reportsFrom [ENS.STATUS.UNITS.addr, ENS.STATUS.TOPO.addr, ENS.STATUS.ENUM_BUSY.addr, ENS.CMD.ENUM.addr] s := by
  obtain ⟨e, he⟩ := s.showUnits_eq units line
  have hnodup : ((s.doneFields units line).map fun w => w.1.addr).Nodup := by
    simp only [State.doneFields, List.map_cons, List.map_nil]
    decide
  have hfld := fld_setFs hnodup s
  rw [State.doneFields] at hfld
  simp only [List.forall_mem_cons] at hfld
  obtain ⟨hunits, htopo, hbusy, henum, -⟩ := hfld
  rw [he]
  exact ⟨hunits.trans (Nat.mod_eq_of_lt hlt), hbusy, henum, htopo.trans (s.topology_eq line),
    onlyReports_of_onlyRegs (onlyRegs_setFs s (by simp [State.doneFields]))⟩

theorem State.sentFrom.units {u : State} (h : u.sentFrom s) : u.ens.units = s.ens.units := (congrArg EnsSt.units h.2 : _)

theorem enumDoneDue_sends (hrun : s.portsRun = true) (hdealer : s.actsAsDealer = true) (hbusy : s.fld ENS.STATUS.ENUM_BUSY = 1)
    (hassigned : s.ens.assigned = true) (hover : s.unacked = [] ∨ s.ens.assignRound = 4) (hunits : s.ens.units < 256) : ∃ t u : State,
      exec .enumDoneDue s = .next t ∧ u = s.originate 1 255 (enumData 4 s.ens.units 0 0 (if s.ens.closed then 0 else 2) Config.serial) ∧
      t.fld ENS.STATUS.UNITS = s.ens.units ∧ t.fld ENS.STATUS.ENUM_BUSY = 0 ∧ t.fld ENS.CMD.ENUM = 0 ∧
      t.fld ENS.STATUS.TOPO = (if u.portUp 0 || u.portUp 1 then (if s.ens.closed then 1 else 2) else 0) ∧
      reported 121 0 s.ens.units 0 t ∧ onlyReports [ENS.STATUS.UNITS.addr, ENS.STATUS.TOPO.addr, ENS.STATUS.ENUM_BUSY.addr,
        ENS.CMD.ENUM.addr] u { t with ens := u.ens } := by
  generalize hu : s.originate 1 255 (enumData 4 s.ens.units 0 0 (if s.ens.closed then 0 else 2) Config.serial) = u
  have hunitsOf : u.ens.units = s.ens.units := (hu ▸ (State.sentFrom.refl s).originate : u.sentFrom s).units
  have hbits : (if !s.ens.closed then 2 else 0) = (if s.ens.closed then 0 else 2) := by cases s.ens.closed <;> rfl
  have hline : (if !s.ens.closed then 2 else 1) = (if s.ens.closed then 1 else 2) := by cases s.ens.closed <;> rfl
  have heff : effEnumDoneDue s = (u.showUnits s.ens.units !s.ens.closed).raise 121 0 s.ens.units 0 0 := by
    have hunitsKept : (u.showUnits u.ens.units !s.ens.closed).ens.units = u.ens.units := rfl
    unfold effEnumDoneDue
    rw [if_pos (by simpa [hrun, hdealer, State.bit, hbusy, hassigned] using hover)]
    dsimp only
    rw [hbits, hu, hunitsKept, hunitsOf]
  obtain ⟨hshown, hidle, henum, htopo, hfrom⟩ := State.showUnits_shows (s := u) hunits (!s.ens.closed)
  have hraise : ∀ g : Fld, g.addr < 14 * 524288 → ((u.showUnits s.ens.units !s.ens.closed).raise 121 0 s.ens.units 0 0).fld g =
      (u.showUnits s.ens.units !s.ens.closed).fld g := fun g hg => State.raise_below _ _ _ _ _ (by decide) hg
  exact ⟨_, u, congrArg Host.Outcome.next heff, rfl, (hraise _ (by decide)).trans hshown, (hraise _ (by decide)).trans hidle,
    (hraise _ (by decide)).trans henum, (hraise _ (by decide)).trans (htopo.trans (by rw [hline])),
    State.raise_reported _ 121 0 _ 0 0 (by decide) (by decide) (by decide) hunits (by decide), hfrom.raise (by decide)⟩

/-! ### A unit (Table 09-6) -/

section
variable {p : Nat} {bl : List WireBlock} {m : Msg} {u : State}

theorem State.noteScan_eq (s : State) (p hops : Nat) : s.noteScan p hops =
    { s with ens := { s.ens with scanA := if p = 0 then hops else s.ens.scanA, scanB := if p = 0 then s.ens.scanB else hops } } := by
  unfold State.noteScan
  split
  · rfl
  · rfl

theorem enumScan_notes (h : arrives s p 1 bl m u) (hop : num m.data 0 1 = 0) :
    ∃ t, exec (.enumScan p bl) s = .next t ∧ t.fld ENS.STATUS.ENUM_BUSY = 1 ∧ t.ens.scanAt = some u.now ∧
      t.ens.scanSrc = m.src ∧ t.ens.reported = false ∧ t.ens.scanA = (if p = 0 then m.hops + 1 else 0) ∧
      t.ens.scanB = (if p = 0 then 0 else m.hops + 1) ∧ onlyRegs [ENS.STATUS.ENUM_BUSY.addr] u { t with ens := u.ens } := by
  obtain ⟨htake, hown⟩ := h.takesEnum hop
  exact ⟨_, congrArg Host.Outcome.next (htake.trans ((if_neg (by rw [hown]; decide)).trans ((if_pos rfl).trans (State.noteScan_eq _ p _)))),
    State.fld_setF_same u _ 1, rfl, rfl, rfl, rfl, rfl, onlyRegs_setF _ u _ 1 (List.mem_singleton_self _)⟩

theorem enumAssign_stores {a : Nat} (h : arrives s p 1 bl m u) (hunit : u.actsAsDealer = false) (hop : num m.data 0 1 = 2)
    (ha : a = num m.data 1 1) (hserial : m.serial = padTo Config.serial 16) (hlo : 1 ≤ a) (hhi : a ≤ 254) :
    exec (.enumAssign p bl) s = .next (State.originate (if u.fld ENS.STATUS.ADDR = a then u else u.storeAddr a) 1 m.src
        (enumData 3 a 0 0 0 Config.serial)) ∧ (u.storeAddr a).fld ENS.STATUS.ADDR = a ∧
      (u.storeAddr a).nv.persist = ((0, addrRecord a (u.fld ENS.ID.ENSEMBLE_ID)) :: u.nv.persist).take 8192 := by
  obtain ⟨htake, -⟩ := h.takesEnum hop
  refine ⟨congrArg Host.Outcome.next (htake.trans ?_), State.storeAddr_addr (by omega), State.storeAddr_persist a⟩
  subst ha
  exact if_pos (by simp [hserial, hlo, hhi, hunit])

theorem enumDone_takes (h : arrives s p 1 bl m u) (hunit : u.actsAsDealer = false) (hop : num m.data 0 1 = 4) :
    ∃ t, exec (.enumDone p bl) s = .next t ∧ t.fld ENS.STATUS.UNITS = num m.data 1 1 ∧ t.fld ENS.STATUS.ENUM_BUSY = 0 ∧
      t.fld ENS.STATUS.TOPO = (if u.portUp 0 || u.portUp 1 then (if bitOf (num m.data 4 1) 1 then 2 else 1) else 0) := by
  obtain ⟨htake, hown⟩ := h.takesEnum hop
  obtain ⟨hunits, hbusy, -, htopo, -⟩ := State.showUnits_shows (s := u) (num_lt m.data 1 1) (bitOf (num m.data 4 1) 1)
  exact ⟨_, congrArg Host.Outcome.next (htake.trans (if_pos (by simp [hown, hunit]))), hunits, hbusy, htopo⟩

end

theorem enumReportDue_sends {t0 : Nat} (hunit : s.actsAsDealer = false) (hscan : s.ens.scanAt = some t0) (hrun : s.portsRun = true)
    (hrep : s.ens.reported = false) (hdue : t0 + 100000 ≤ s.now) :
    exec .enumReportDue s = .next (State.originate { s with ens := { s.ens with reported := true } } 1 s.ens.scanSrc
      (enumData 1 (s.fld ENS.STATUS.ADDR) s.ens.scanB s.ens.scanA (if s.fld ENS.STATUS.ADDR = 0 then 0 else 1) Config.serial)) := by
  refine congrArg Host.Outcome.next ?_
  unfold effEnumReportDue
  rw [hscan]
  exact if_pos (by simp [hunit, hrun, hrep, hdue])

end

/-- Settles O33: on the dealer by what SCAN, each REPORT and ACK, the assignment, its rounds and DONE leave; on a unit by what each message
of an enumeration does once it is accepted. -/
theorem enumerationRunsItsTable : Obligations.EnumerationRunsItsTable := by
  refine ⟨fun s hrun hdealer => ⟨enumerationStart_starts hrun hdealer, fun hserved hidle => ?_, fun hserved hbusy => ?_,
      fun h => ⟨State.startEnum_first h, State.storeAddr_addr (by decide)⟩,
      fun h => ⟨_, State.startEnum_addressed h, s.scanning_busy, rfl, rfl, rfl, rfl, rfl, s.scanning_only⟩,
      fun p bl m u h hd => ⟨enumReport_notes h hd, enumAck_notes h hd⟩,
      fun t0 used kept clash used' given full => enumAssignDue_assigns hrun hdealer,
      fun ha hw ht => ⟨enumAckTimeout_repeats hrun hdealer ha hw ht, enumAckTimeout_ends hrun hdealer ha hw ht⟩,
      enumDoneDue_sends hrun hdealer⟩,
    fun s hunit => ⟨fun p bl m u h hu => ⟨enumScan_notes h, fun a => enumAssign_stores h hu, enumDone_takes h hu⟩,
      fun t0 => enumReportDue_sends hunit⟩⟩
  · rw [ensEnum_served hrun hdealer hserved, if_neg (by rw [State.bit, hidle]; decide)]
  · rw [ensEnum_served hrun hdealer hserved, if_pos (by rw [State.bit, hbusy]; rfl)]

end Sys2Proof.Machine
end

section
/-!
SUPPORT. The address map (R249, R251): where a device address lies in a channel, why no two lie at one byte, and what storing bytes does to
every byte.
-/

namespace Sys2Proof.Machine

/-! ### Where an address lies -/

/-- The way of the granule that holds an address (R249). -/
def State.wayOf (s : State) (a : Nat) : Nat := a / 4096 % s.mem.ways.length

/-- The place of that granule among the granules of its way. -/
def State.turnOf (s : State) (a : Nat) : Nat := a / 4096 / s.mem.ways.length

/-- DRAM holds the bytes of different addresses under different keys. -/
def State.keysApart (s : State) : Prop :=
  ∀ a b p q, s.phys a = some p → s.phys b = some q → 2 ^ 40 * p.1 + p.2 = 2 ^ 40 * q.1 + q.2 → a = b

section
variable {s : State} {a b c x : Nat}

/-- A mapped address lies in its way's channel at the granule of its turn (R249), or, its way re-homed, in one of the other ways' channels
above the mapped granules (R251); the bytes of a granule stay in order. -/
theorem State.phys_cases (h : s.phys a = some (c, x)) : s.turnOf a < s.fld MEM.MAPG.MAPG ∧ s.inService c = true ∧ x % 4096 = a % 4096 ∧
    (s.mem.ways.getD (s.wayOf a) 0 = c ∧ x / 4096 = s.turnOf a ∨
      s.fld MEM.STATUS.REHOMED_WAY = s.wayOf a ∧
        (s.mem.ways.eraseIdx (s.wayOf a)).getD (s.turnOf a % (s.mem.ways.length - 1)) 0 = c ∧
        x / 4096 = s.fld MEM.MAPG.MAPG + s.turnOf a / (s.mem.ways.length - 1)) := by
  have hplace : ∀ g : Nat, (g * 4096 + a % 4096) % 4096 = a % 4096 ∧ (g * 4096 + a % 4096) / 4096 = g := fun g => by omega
  unfold State.phys at h
  dsimp only at h
  split at h
  · cases h
  · next hmapped =>
    have hturn : s.turnOf a < s.fld MEM.MAPG.MAPG := Nat.div_lt_of_lt_mul (Nat.lt_of_not_le hmapped)
    split at h
    · next hserved =>
      obtain ⟨rfl, rfl⟩ := Prod.mk.inj (Option.some.inj h)
      exact ⟨hturn, hserved, (hplace _).1, .inl ⟨rfl, (hplace _).2⟩⟩
    · split at h
      · next hrehomed =>
        split at h
        · next hserved =>
          obtain ⟨rfl, rfl⟩ := Prod.mk.inj (Option.some.inj h)
          exact ⟨hturn, hserved, (hplace _).1, .inr ⟨eq_of_beq (Bool.and_eq_true_iff.mp hrehomed).2, rfl, (hplace _).2⟩⟩
        · cases h
      · cases h

/-- A list without repetitions holds one entry at one place. -/
theorem getD_inj_of_nodup {l : List Nat} (hl : l.Nodup) {i j : Nat} (hi : i < l.length) (hj : j < l.length)
    (h : l.getD i 0 = l.getD j 0) : i = j := by
  rw [List.getD_eq_getElem _ _ hi, List.getD_eq_getElem _ _ hj] at h
  exact (List.Nodup.getElem_inj_iff hl).mp h

theorem getD_mem {l : List Nat} {i : Nat} (hi : i < l.length) : l.getD i 0 ∈ l := by
  rw [List.getD_eq_getElem _ _ hi]
  exact List.getElem_mem hi

/-- Every byte of a channel that is mapped lies below twice its mapped granules. -/
theorem State.phys_lt (h : s.phys a = some (c, x)) : x / 4096 < 2 * s.fld MEM.MAPG.MAPG := by
  obtain ⟨hturn, -, -, hplace⟩ := State.phys_cases h
  have := Nat.div_le_self (s.turnOf a) (s.mem.ways.length - 1)
  rcases hplace with ⟨-, hx⟩ | ⟨-, -, hx⟩ <;> omega

/-- Way, turn and place within the granule say the address. -/
theorem eq_of_turnOf_wayOf (hway : s.wayOf a = s.wayOf b) (hturn : s.turnOf a = s.turnOf b) (h : a % 4096 = b % 4096) : a = b := by
  have hgranule : a / 4096 = b / 4096 := by
    rw [← Nat.div_add_mod (a / 4096) s.mem.ways.length, ← Nat.div_add_mod (b / 4096) s.mem.ways.length]
    exact congrArg₂ (fun t w => s.mem.ways.length * t + w) hturn hway
  omega

section
variable (htwo : 2 ≤ s.mem.ways.length)
include htwo

theorem State.wayOf_lt (a : Nat) : s.wayOf a < s.mem.ways.length := Nat.mod_lt _ (by omega)

/-- The place in the other ways at which a re-homed granule lies. -/
theorem State.rehomed_lt (a : Nat) : s.turnOf a % (s.mem.ways.length - 1) < (s.mem.ways.eraseIdx (s.wayOf a)).length := by
  rw [List.length_eraseIdx_of_lt (State.wayOf_lt htwo a)]
  exact Nat.mod_lt _ (by omega)

/-- No two addresses lie at one byte of a channel. -/
theorem State.phys_injective (hways : s.mem.ways.Nodup) {p : Nat × Nat} (ha : s.phys a = some p) (hb : s.phys b = some p) : a = b := by
  obtain ⟨c, x⟩ := p
  obtain ⟨hta, -, hxa, hpa⟩ := State.phys_cases ha
  obtain ⟨htb, -, hxb, hpb⟩ := State.phys_cases hb
  have hbytes : a % 4096 = b % 4096 := hxa.symm.trans hxb
  rcases hpa with ⟨hca, hga⟩ | ⟨hra, hca, hga⟩ <;> rcases hpb with ⟨hcb, hgb⟩ | ⟨hrb, hcb, hgb⟩
  · exact eq_of_turnOf_wayOf (getD_inj_of_nodup hways (State.wayOf_lt htwo a) (State.wayOf_lt htwo b) (hca.trans hcb.symm))
      (hga.symm.trans hgb) hbytes
  · exact absurd hta (Nat.not_lt.mpr (hga ▸ hgb ▸ Nat.le_add_right _ _))
  · exact absurd htb (Nat.not_lt.mpr (hgb ▸ hga ▸ Nat.le_add_right _ _))
  · have hway : s.wayOf a = s.wayOf b := hra.symm.trans hrb
    have hround : s.turnOf a / (s.mem.ways.length - 1) = s.turnOf b / (s.mem.ways.length - 1) := by omega
    have hplace : s.turnOf a % (s.mem.ways.length - 1) = s.turnOf b % (s.mem.ways.length - 1) := by
      refine getD_inj_of_nodup (hways.sublist (List.eraseIdx_sublist _ _)) (State.rehomed_lt htwo a) ?_ (hca.trans ?_)
      · rw [hway]
        exact State.rehomed_lt htwo b
      · rw [hway]
        exact hcb.symm
    refine eq_of_turnOf_wayOf hway ?_ hbytes
    rw [← Nat.div_add_mod (s.turnOf a) (s.mem.ways.length - 1), hround, hplace, Nat.div_add_mod]

/-- An address lies in a channel of the map that is in service, within its mapped granules or its re-home reserve. -/
theorem State.phys_within (h : s.phys a = some (c, x)) : c ∈ s.mem.ways ∧ s.inService c = true ∧
    x / 4096 < s.fld MEM.MAPG.MAPG + (s.fld MEM.MAPG.MAPG + s.mem.ways.length - 2) / (s.mem.ways.length - 1) ∧ x % 4096 = a % 4096 := by
  obtain ⟨hturn, hserved, hx, hplace⟩ := State.phys_cases h
  rcases hplace with ⟨hc, hg⟩ | ⟨-, hc, hg⟩
  · exact ⟨hc ▸ getD_mem (State.wayOf_lt htwo a), hserved, by rw [hg]; exact Nat.lt_add_right _ hturn, hx⟩
  · refine ⟨(List.eraseIdx_sublist _ _).subset (hc ▸ getD_mem (State.rehomed_lt htwo a)), hserved, ?_, hx⟩
    rw [hg]
    refine Nat.add_lt_add_left ?_ _
    rw [Nat.lt_iff_add_one_le, Nat.le_div_iff_mul_le (by omega), Nat.add_mul, Nat.one_mul]
    have := Nat.div_mul_le_self (s.turnOf a) (s.mem.ways.length - 1)
    omega

theorem State.keysApart_of_map (hways : s.mem.ways.Nodup) (hmapg : s.fld MEM.MAPG.MAPG < 2 ^ 25) : s.keysApart := by
  intro a b p q ha hb h
  have hp := State.phys_lt (c := p.1) (x := p.2) ha
  have hq := State.phys_lt (c := q.1) (x := q.2) hb
  have hpq : p = q := Prod.ext (by omega) (by omega)
  exact State.phys_injective htwo hways ha (hpq ▸ hb)

end

end

/-! ### Bytes stored -/

theorem State.setPoison_phys (s : State) (c a : Nat) (p : Bool) (x : Nat) : (s.setPoison c a p).phys x = s.phys x := by
  unfold State.setPoison
  split <;> rfl

theorem State.unpoison_phys (s : State) (a len x : Nat) : (s.unpoison a len).phys x = s.phys x :=
  List.foldlRecOn (motive := fun u => u.phys x = s.phys x) _ _ rfl fun (u : State) hu i _ => by
    split
    · exact (u.setPoison_phys _ _ _ x).trans hu
    · exact hu

theorem State.touchPicture_phys (s : State) (a len x : Nat) : (s.touchPicture a len).phys x = s.phys x := by
  unfold State.touchPicture
  split <;> rfl

/-- A byte read depends on the map and the bytes held. -/
theorem State.peek_congr {s t : State} {b : Nat} (hphys : t.phys b = s.phys b) (hbytes : t.mem.bytes = s.mem.bytes) : t.peek b = s.peek b := by
  unfold State.peek State.dramByte
  rw [hphys, hbytes]

/-- Of a store the bytes written alone show in what is read. -/
theorem State.peek_store (s : State) (a : Nat) (bs : List Byte) (pre b : Nat) : (s.store a bs pre).peek b = (s.pokeN a bs).peek b :=
  State.peek_congr ((State.touchPicture_phys _ _ _ b).trans (State.unpoison_phys _ _ _ b))
    ((congrArg MemSt.bytes (State.touchPicture_mem _ _ _)).trans (State.unpoison_bytes _ _ _))

section
variable {s : State}

/-- A byte written where it is mapped is read; every other address reads as before. -/
theorem State.peek_poke (hkey : s.keysApart) (a : Nat) (v : Byte) (b : Nat) : (s.poke a v).peek b = if b = a ∧ (s.phys b).isSome = true then v else s.peek b := by
  unfold State.peek State.poke
  cases ha : s.phys a with
  | none =>
    rw [if_neg]
    rintro ⟨rfl, hb⟩
    rw [ha] at hb
    cases hb
  | some p =>
    dsimp only
    rw [State.setDramByte_phys]
    cases hb : s.phys b with
    | none => exact (if_neg fun h => nomatch h.2).symm
    | some q =>
      dsimp only
      rw [State.dramByte_setDramByte]
      by_cases hba : b = a
      · subst hba
        obtain rfl := Option.some.inj (ha.symm.trans hb)
        rw [if_pos rfl, if_pos ⟨rfl, rfl⟩]
      · rw [if_neg fun h => hba (hkey _ _ _ _ hb ha h), if_neg fun h => hba h.1]

/-- Bytes written one after another are read back where they are mapped; every other address reads as before. -/
theorem State.peek_pokeN (bs : List Byte) : ∀ {s : State}, s.keysApart → ∀ a b : Nat, (s.pokeN a bs).peek b =
    if a ≤ b ∧ b < a + bs.length ∧ (s.phys b).isSome = true then bs.getD (b - a) 0 else s.peek b := by
  induction bs with
  | nil => exact fun _ a b => (if_neg fun ⟨hle, hlt, _⟩ => by simp only [List.length_nil] at hlt; omega).symm
  | cons v bs ih =>
    intro s hkey a b
    rw [State.pokeN, ih (s := s.poke a v) (fun c d p q => by simpa only [State.poke_phys] using hkey c d p q), State.peek_poke hkey,
      State.poke_phys, List.length_cons]
    cases (s.phys b).isSome with
    | false => simp
    | true =>
      simp only [and_true]
      rcases Nat.lt_trichotomy b a with h | rfl | h
      · rw [if_neg (by omega), if_neg (by omega), if_neg (by omega)]
      · rw [if_neg (by omega), if_pos rfl, if_pos (by omega), Nat.sub_self, List.getD_cons_zero]
      · obtain ⟨n, rfl⟩ : ∃ n, b = a + 1 + n := ⟨b - (a + 1), by omega⟩
        rw [show a + 1 + n - (a + 1) = n by omega, show a + 1 + n - a = n + 1 by omega, List.getD_cons_succ]
        by_cases hn : n < bs.length
        · rw [if_pos (by omega), if_pos (by omega)]
        · rw [if_neg (by omega), if_neg (by omega), if_neg (by omega)]

end

/-- Settles O36: an address is its way, its turn and its byte, which the place it lies at says back; so bytes stored are held apart. -/
theorem everyAddressHasItsOwnByte : Obligations.EveryAddressHasItsOwnByte := fun s hways htwo hmapg =>
  ⟨fun _ _ _ => State.phys_injective htwo hways, fun _ _ _ => State.phys_within htwo,
    fun a bs pre b => (s.peek_store a bs pre b).trans (State.peek_pokeN bs (State.keysApart_of_map htwo hways hmapg) a b)⟩

end Sys2Proof.Machine
end

section
/-!
SUPPORT. What accesses of memory leave (R253, R254, R262), what the serving of requests that waited leaves (R253, R260), and what a change of
the memory's own state stands beside.
-/

namespace Sys2Proof.Machine

/-! ### Changes beside the memory's own state -/

section
variable {A : List Nat} {s x t : State}

theorem onlyRegs.besideMem (h : onlyRegs A x t) (k : onlyRegs A s { x with mem := s.mem }) : onlyRegs A s { t with mem := s.mem } :=
  ⟨fun g hg => (h.1 g hg).trans (k.1 g hg), (congrArg (fun u : State => { u with regs := s.regs, mem := s.mem }) h.2 : _).trans k.2⟩

theorem onlyReports.besideMem (h : onlyReports A x t) (k : onlyReports A s { x with mem := s.mem }) :
    onlyReports A s { t with mem := s.mem } :=
  ⟨fun g hg hr => (h.1 g hg hr).trans (k.1 g hg hr), (congrArg (fun u : State =>
    { u with regs := s.regs, mgt := s.mgt, host := s.host, evt := s.evt, out := s.out, mem := s.mem }) h.2 : _).trans k.2⟩

theorem onlyRegs.fld_eq (h : onlyRegs A s t) {g : Fld} (hg : g.addr ∉ A) : t.fld g = s.fld g := h.1 g hg

theorem onlyRegs.seq_eq (h : onlyRegs A s t) : t.seq = s.seq := (congrArg (fun u : State => u.seq) h.2 : _)

theorem onlyRegs.dev_eq (h : onlyRegs A s t) : t.dev = s.dev := (congrArg (fun u : State => u.dev) h.2 : _)

theorem onlyReports.seq_eq (h : onlyReports A s t) : t.seq = s.seq := (congrArg (fun u : State => u.seq) h.2 : _)

theorem onlyReports.dev_eq (h : onlyReports A s t) : t.dev = s.dev := (congrArg (fun u : State => u.dev) h.2 : _)

end

/-! ### Accesses of one channel -/

/-- `s` is `s₀` but for what accesses of channel `c` leave: the meters, the open rows, the activations counted and, among the registers, the
count of refresh managements. -/
structure State.accessedFrom (c : Nat) (s s₀ : State) : Prop where
  regs : onlyRegs [(MEM.CH_RH.RFM c).addr] s₀ { s with mem := s₀.mem }
  mem : { s.mem with meters := s₀.mem.meters, open_ := s₀.mem.open_, acts := s₀.mem.acts, actWin := s₀.mem.actWin, raa := s₀.mem.raa } = s₀.mem

section
variable {c : Nat} {s t s₀ : State}

theorem State.accessedFrom.refl (c : Nat) (s : State) : s.accessedFrom c s := ⟨onlyRegs_refl _ s, rfl⟩

theorem State.accessedFrom.ite {p : Prop} {_ : Decidable p} (hs : s.accessedFrom c s₀) (ht : t.accessedFrom c s₀) :
    (if p then s else t).accessedFrom c s₀ := by
  split
  · exact hs
  · exact ht

theorem State.accessedFrom.foldl {α : Type} {f : State → α → State} {l : List α} (h : s.accessedFrom c s₀)
    (hf : ∀ u x, u.accessedFrom c s₀ → (f u x).accessedFrom c s₀) : (l.foldl f s).accessedFrom c s₀ :=
  List.foldlRecOn (motive := fun u => u.accessedFrom c s₀) l f h fun u hu x _ => hf u x hu

theorem State.accessedFrom.withOpen (h : s.accessedFrom c s₀) (o : Tbl Nat) :
    State.accessedFrom c { s with mem := { s.mem with open_ := o } } s₀ := ⟨h.regs, h.mem⟩

theorem State.accessedFrom.drawMeter {d req len : Nat} (h : s.accessedFrom c s₀) : (s.drawMeter d req len).accessedFrom c s₀ :=
  State.accessedFrom.ite ⟨h.regs, h.mem⟩ h

theorem State.accessedFrom.activate {n row req : Nat} (h : s.accessedFrom c s₀) : (s.activate c n row req).accessedFrom c s₀ :=
  State.accessedFrom.ite ⟨h.regs.bumpF (List.mem_singleton_self _), h.mem⟩ ⟨h.regs, h.mem⟩

theorem State.accessedFrom.touchRow {n row req : Nat} (h : s.accessedFrom c s₀) : (s.touchRow c n row req).accessedFrom c s₀ :=
  (h.ite h.activate).withOpen _

theorem State.accessedFrom.access {b len req : Nat} {wr : Bool} (h : s.accessedFrom c s₀) : (s.access c b len req wr).accessedFrom c s₀ :=
  h.drawMeter.foldl fun _ _ hu => hu.foldl fun _ _ hv => hv.touchRow

theorem State.accessedFrom.fld_eq (h : s.accessedFrom c s₀) {g : Fld} (hg : g.addr ≠ (MEM.CH_RH.RFM c).addr) : s.fld g = s₀.fld g :=
  h.regs.1 g fun hm => hg (List.mem_singleton.mp hm)

theorem State.accessedFrom.justCleared_eq (h : s.accessedFrom c s₀) (f : Fld) : s.justCleared f = s₀.justCleared f :=
  (congrArg (fun u : State => u.justCleared f) h.regs.2 : _)

end

/-! ### Requests that waited -/

/-- The refresh managements of no channel are counted in the field. -/
def countsNoRfm (g : Fld) : Prop := ∀ c, g.addr ≠ (MEM.CH_RH.RFM c).addr

/-- `s` is as `s₀` to the retraining pauses: the pauses that run, and every register field that reports nothing and counts no refresh
management. -/
structure State.servedFrom (s s₀ : State) : Prop where
  fld : ∀ g : Fld, isReport g = false → countsNoRfm g → s.fld g = s₀.fld g
  pause : s.mem.pause = s₀.mem.pause

section
variable {s t s₀ : State}

theorem State.servedFrom.refl (s : State) : s.servedFrom s := ⟨fun _ _ _ => rfl, rfl⟩

theorem State.servedFrom.ite {p : Prop} {_ : Decidable p} (hs : s.servedFrom s₀) (ht : t.servedFrom s₀) :
    (if p then s else t).servedFrom s₀ := by
  split
  · exact hs
  · exact ht

theorem State.servedFrom.foldl {α : Type} {f : State → α → State} {l : List α} (h : s.servedFrom s₀)
    (hf : ∀ u x, u.servedFrom s₀ → (f u x).servedFrom s₀) : (l.foldl f s).servedFrom s₀ :=
  List.foldlRecOn (motive := fun u => u.servedFrom s₀) l f h fun u hu x _ => hf u x hu

/-- What keeps the registers and the pauses. -/
theorem State.servedFrom.keep (h : s.servedFrom s₀) (hregs : t.regs = s.regs) (hpause : t.mem.pause = s.mem.pause) : t.servedFrom s₀ :=
  ⟨fun g hr hm => (congrArg (fun regs => Tbl.get g.reset regs g.addr) hregs).trans (h.fld g hr hm), hpause.trans h.pause⟩

theorem State.servedFrom.access {c b len req : Nat} {wr : Bool} (h : s.servedFrom s₀) : (s.access c b len req wr).servedFrom s₀ :=
  have k : (s.access c b len req wr).accessedFrom c s := (State.accessedFrom.refl c s).access
  ⟨fun g hr hm => (k.fld_eq (hm c)).trans (h.fld g hr hm), (congrArg MemSt.pause k.mem).trans h.pause⟩

theorem State.servedFrom.raise {n k i a a2 : Nat} (h : s.servedFrom s₀) (hn : n < 256) : (s.raise n k i a a2).servedFrom s₀ :=
  ⟨fun g hr hm => (s.raise_fld k i a a2 hn hr).trans (h.fld g hr hm),
    (congrArg MemSt.pause (State.raise_only [] s n k i a a2 hn).mem_eq).trans h.pause⟩

theorem State.servedFrom.unmappedAccess {req a : Nat} (h : s.servedFrom s₀) : (s.unmappedAccess req a).servedFrom s₀ :=
  have hraise : ∀ {u : State} {k : Nat}, u.servedFrom s₀ → (u.raise 4 k 0 0 (a / 256)).servedFrom s₀ := fun hu => hu.raise (by decide)
  (hraise h).ite ((hraise h).ite ((hraise h).ite ((hraise (h.keep (t := s.free.2) rfl rfl)).ite (hraise h))))

theorem State.servedFrom.setPoison {c a : Nat} {p : Bool} (h : s.servedFrom s₀) : (s.setPoison c a p).servedFrom s₀ :=
  h.ite (h.keep rfl rfl)

theorem State.servedFrom.poke {a : Nat} {b : Byte} (h : s.servedFrom s₀) : (s.poke a b).servedFrom s₀ := by
  unfold State.poke
  split
  · exact h.keep rfl rfl
  · exact h

theorem State.servedFrom.pokeN {bs : List Byte} {a : Nat} (h : s.servedFrom s₀) : (s.pokeN a bs).servedFrom s₀ := by
  induction bs generalizing s a with
  | nil => exact h
  | cons b bs ih => exact ih h.poke

theorem State.servedFrom.unpoison {a len : Nat} (h : s.servedFrom s₀) : (s.unpoison a len).servedFrom s₀ :=
  h.foldl fun u i hu => by
    split
    · exact hu.setPoison
    · exact hu

theorem State.servedFrom.touchPicture {a len : Nat} (h : s.servedFrom s₀) : (s.touchPicture a len).servedFrom s₀ :=
  State.servedFrom.ite (h.keep rfl rfl) h

theorem State.servedFrom.acknowledge {ack : Option (Nat × Nat × Nat)} (h : s.servedFrom s₀) : (s.acknowledge ack).servedFrom s₀ := by
  unfold State.acknowledge
  split
  · exact h.keep rfl rfl
  · exact h

theorem State.servedFrom.serveWrite {req a : Nat} {bs : List Byte} {pre : Nat} {ack : Option (Nat × Nat × Nat)} (h : s.servedFrom s₀) :
    (s.serveWrite req a bs pre ack).servedFrom s₀ := by
  unfold State.serveWrite
  split
  · exact h.access.pokeN.unpoison.touchPicture.acknowledge
  · exact h.unmappedAccess.acknowledge

theorem State.servedFrom.poisonGranuleAt {req a len : Nat} (h : s.servedFrom s₀) : (s.poisonGranuleAt req a len).servedFrom s₀ := by
  unfold State.poisonGranuleAt
  split
  · exact (h.access.foldl fun _ _ hu => hu.setPoison).touchPicture
  · exact h.unmappedAccess

theorem State.servedFrom.readAccess {req a len : Nat} (h : s.servedFrom s₀) : (s.readAccess req a len).servedFrom s₀ := by
  unfold State.readAccess
  extract_lets gs u
  have hu : u.servedFrom s₀ := h.foldl fun v g hv => by
    split
    · exact hv.access
    · exact hv
  split
  · exact hu.unmappedAccess
  · exact hu

theorem State.servedFrom.bar2Read {a len at_ : Nat} (h : s.servedFrom s₀) : (s.bar2Read a len at_).servedFrom s₀ := by
  unfold State.bar2Read
  split
  · exact h.keep rfl rfl
  · exact (h.readAccess (req := reqBar2) (a := a) (len := len)).keep rfl rfl

theorem State.servedFrom.serveOne {w : Waiting} (h : s.servedFrom s₀) : (s.serveOne w).servedFrom s₀ := by
  unfold State.serveOne
  split
  · exact h.poisonGranuleAt.ite h.serveWrite
  · exact h.bar2Read.ite h.readAccess

/-- Serving what waited touches no pause. -/
theorem State.servedFrom.serveWaiting {fuel c : Nat} {inOrder : Bool} (h : s.servedFrom s₀) :
    (State.serveWaiting fuel s c inOrder).servedFrom s₀ := by
  induction fuel generalizing s with
  | zero => exact h
  | succ fuel ih =>
    unfold State.serveWaiting
    split
    · exact h
    · split
      · exact h
      · next i _ _ w _ => exact ih (State.servedFrom.serveOne (h.keep rfl rfl))

end

section
variable {s : State} (h : s.mem.held = [])
include h

/-- Where nothing waits, serving changes nothing. -/
theorem State.resumeChan_of_none (c : Nat) : s.resumeChan c = s := by
  unfold State.resumeChan
  rw [h]
  rfl

theorem State.resumeAll_of_none : s.resumeAll = s :=
  List.foldlRecOn (motive := fun u => u = s) _ State.resumeChan rfl fun _ hu c _ => by
    subst hu
    exact State.resumeChan_of_none h c

end

end Sys2Proof.Machine
end

section
/-!
SUPPORT. Refresh (R254, R259): refreshes issued, postponed and made up. Retraining pauses (R260): how one ends. Row disturbance (R262):
deferred requesters.
-/

namespace Sys2Proof.Machine

/-! ### Refresh (R254, R259) -/

/-- The registers that show the refreshes postponed on the ranks of channel `c`. -/
def postponedAddrs (c : Nat) : List Nat := [(MEM.CH_REFRESH.POSTPONED c).addr, (MEM.CH_REFRESH.MAX c).addr]

/-- They and the count of make-up bursts. -/
def burstAddrs (c : Nat) : List Nat :=
  [(MEM.CH_REFRESH.POSTPONED c).addr, (MEM.CH_REFRESH.MAX c).addr, (MEM.CH_REFRESH.MAKEUP c).addr]

section
variable {s : State} {c r n : Nat}

theorem State.closeRank_closed (s : State) (c r : Nat) : ∀ e ∈ (s.closeRank c r).mem.open_, e.1 / 256 ≠ c ∨ e.1 % 128 / 32 ≠ r := by
  intro e he
  obtain ⟨-, hne⟩ := List.mem_filter.mp he
  by_cases hc : e.1 / 256 = c
  · exact .inr fun hr => by simp [hc, hr] at hne
  · exact .inl hc

theorem State.showPostponed_only (s : State) (c : Nat) : onlyRegs (postponedAddrs c) s (s.showPostponed c) := by
  have hset : ∀ p, onlyRegs (postponedAddrs c) s (s.setF (MEM.CH_REFRESH.POSTPONED c) p) :=
    fun p => onlyRegs_setF _ s _ p List.mem_cons_self
  unfold State.showPostponed
  dsimp only
  split
  · exact (hset _).setF (List.mem_cons_of_mem _ List.mem_cons_self)
  · exact hset _

/-- The refreshes postponed on a rank are held, and shown in the registers of its channel. -/
theorem State.setPostponed_shows (s : State) (c r n : Nat) : Tbl.get 0 (s.setPostponed c r n).mem.postponed (rankKey c r) = n ∧
    (s.setPostponed c r n).mem = { s.mem with postponed := Tbl.set 0 s.mem.postponed (rankKey c r) n } ∧
    onlyRegs (postponedAddrs c) s { s.setPostponed c r n with mem := s.mem } := by
  have honly := State.showPostponed_only { s with mem := { s.mem with postponed := Tbl.set 0 s.mem.postponed (rankKey c r) n } } c
  refine ⟨?_, honly.mem_eq, honly.besideMem (onlyRegs_refl _ s)⟩
  rw [State.setPostponed, honly.mem_eq]
  exact Tbl.get_set_same _ _ _ _

/-- The postponed refreshes of a rank issued in a make-up burst, which is counted. -/
def State.makeUpRank (s : State) (c r : Nat) : State := ((s.setBurst c r 2).bumpF (MEM.CH_REFRESH.MAKEUP c) 1).setPostponed c r 0

theorem State.makeUpRank_shows (s : State) (c r : Nat) : Tbl.get 0 (s.makeUpRank c r).mem.burst (rankKey c r) = 2 ∧
    Tbl.get 0 (s.makeUpRank c r).mem.postponed (rankKey c r) = 0 ∧ (s.makeUpRank c r).mem.pause = s.mem.pause ∧
    counted (MEM.CH_REFRESH.MAKEUP c) s (s.makeUpRank c r) ∧ onlyRegs (burstAddrs c) s { s.makeUpRank c r with mem := s.mem } := by
  have hburst : Tbl.get 0 ((s.setBurst c r 2).bumpF (MEM.CH_REFRESH.MAKEUP c) 1).mem.burst (rankKey c r) = 2 :=
    Tbl.get_set_same 0 s.mem.burst _ 2
  have hpause : ((s.setBurst c r 2).bumpF (MEM.CH_REFRESH.MAKEUP c) 1).mem.pause = s.mem.pause := rfl
  have hcount : counted (MEM.CH_REFRESH.MAKEUP c) s ((s.setBurst c r 2).bumpF (MEM.CH_REFRESH.MAKEUP c) 1) :=
    State.bumpF_counted (s.setBurst c r 2) _
  have hbump : onlyRegs (burstAddrs c) s { (s.setBurst c r 2).bumpF (MEM.CH_REFRESH.MAKEUP c) 1 with mem := s.mem } :=
    (onlyRegs_refl _ s).bumpF (by simp [burstAddrs])
  unfold State.makeUpRank
  generalize (s.setBurst c r 2).bumpF (MEM.CH_REFRESH.MAKEUP c) 1 = x at *
  obtain ⟨hpost, hmem, honly⟩ := x.setPostponed_shows c r 0
  refine ⟨by rw [hmem]; exact hburst, hpost, by rw [hmem]; exact hpause, hcount.congr (honly.1 (MEM.CH_REFRESH.MAKEUP c) ?_),
    (honly.weaken (by simp [postponedAddrs, burstAddrs])).besideMem hbump⟩
  simp only [postponedAddrs, List.mem_cons, List.not_mem_nil, or_false, MEM.CH_REFRESH.MAKEUP, MEM.CH_REFRESH.POSTPONED, MEM.CH_REFRESH.MAX]
  omega

theorem State.startBurst_eq (hb : Tbl.get 0 s.mem.burst (rankKey c r) ≠ 2) (hp : s.pausing c = false) :
    ∃ at_ o, s.startBurst c r = { s.makeUpRank c r with mem := { (s.makeUpRank c r).mem with burstAt := at_, open_ := o } } := by
  unfold State.startBurst
  rw [if_neg hb, if_neg (by rw [hp]; decide)]
  exact ⟨_, _, rfl⟩

theorem State.startBurst_waits (hb : Tbl.get 0 s.mem.burst (rankKey c r) ≠ 2) (hp : s.pausing c = true) :
    s.startBurst c r = s.setBurst c r 1 := by
  unfold State.startBurst
  rw [if_neg hb, if_pos hp]

/-- A make-up burst starts on a rank outside a retraining pause: its refreshes are issued, and it is counted. -/
theorem State.startBurst_runs (hb : Tbl.get 0 s.mem.burst (rankKey c r) = 0) (hp : s.pausing c = false) :
    Tbl.get 0 (s.startBurst c r).mem.burst (rankKey c r) = 2 ∧ Tbl.get 0 (s.startBurst c r).mem.postponed (rankKey c r) = 0 ∧
      counted (MEM.CH_REFRESH.MAKEUP c) s (s.startBurst c r) ∧ onlyRegs (burstAddrs c) s { s.startBurst c r with mem := s.mem } := by
  obtain ⟨at_, o, hstart⟩ := State.startBurst_eq (s := s) (c := c) (r := r) (by omega) hp
  obtain ⟨hburst, hpost, -, hcount, honly⟩ := s.makeUpRank_shows c r
  rw [hstart]
  generalize s.makeUpRank c r = x at *
  exact ⟨hburst, hpost, hcount, honly⟩

/-- A burst that is to start leaves the pauses, and of the registers all but those of refresh. -/
theorem State.startBurst_only (s : State) (c r : Nat) : (s.startBurst c r).mem.pause = s.mem.pause ∧
    onlyRegs (burstAddrs c) s { s.startBurst c r with mem := s.mem } := by
  by_cases hb : Tbl.get 0 s.mem.burst (rankKey c r) = 2
  · rw [State.startBurst, if_pos hb]
    exact ⟨rfl, onlyRegs_refl _ s⟩
  · cases hp : s.pausing c with
    | true =>
      rw [State.startBurst_waits hb hp]
      exact ⟨rfl, onlyRegs_refl _ s⟩
    | false =>
      obtain ⟨at_, o, hstart⟩ := State.startBurst_eq hb hp
      obtain ⟨-, -, hpause, -, honly⟩ := s.makeUpRank_shows c r
      rw [hstart]
      generalize s.makeUpRank c r = x at *
      exact ⟨hpause, honly⟩

end

/-! ### Due refreshes and make-up bursts, as commands -/

section
variable {s : State} {c r n : Nat} (hrank : s.rankThere c r = true)
include hrank

theorem refreshDue_closes (hawake : s.dev.sleepMem = false) : exec (.refreshDue c r false) s = .next (s.closeRank c r) :=
  congrArg Host.Outcome.next (if_pos (by simp [hrank, hawake]))

section
variable (hn : n = Tbl.get 0 s.mem.postponed (rankKey c r))
include hn

theorem refreshDue_busy (hawake : s.dev.sleepMem = false) :
    exec (.refreshDue c r true) s = .next (if n < 8 then s.setPostponed c r (n + 1) else s.startBurst c r) := by
  subst hn
  exact congrArg Host.Outcome.next (if_pos (by simp [hrank, hawake]))

theorem makeupBurst_starts (hpos : 0 < n) : exec (.makeupBurst c r) s = .next (s.startBurst c r) := by
  subst hn
  exact congrArg Host.Outcome.next (if_pos (by simp [hrank, hpos]))

end

end

theorem makeupBurstEnd_ends {s : State} {c r : Nat} (hb : s.rankBursts c r = true)
    (hdue : s.now < Tbl.get 0 s.mem.burstAt (rankKey c r) + 4000) :
    exec (.makeupBurstEnd c r) s = .next ((s.setBurst c r 0).resumeChan c) ∧ (s.setBurst c r 0).rankBursts c r = false :=
  ⟨congrArg Host.Outcome.next (if_pos (by simp [hb, hdue])), by simp [State.rankBursts, State.setBurst]⟩

/-! ### Retraining pauses (R260) -/

/-- The registers that show the pauses of channel `c` and how they ended. -/
def pauseFlds (c : Nat) : List Fld :=
  [MEM.CH_RETRAIN.COUNT c, MEM.CH_RETRAIN.LAST_NS c, MEM.CH_CAPAR.CONSEC c, MEM.CH_CAPAR.RETRAIN_FAIL c]

section
variable {s : State} {c : Nat}

theorem pauseFlds_apart (hc : c < 12) {g : Fld} (hg : g ∈ pauseFlds c) : isReport g = false ∧ countsNoRfm g ∧ g.addr ∉ burstAddrs c := by
  have haddr : g.addr < 14 * 524288 ∧ (∀ d, g.addr ≠ (MEM.CH_RH.RFM d).addr) ∧ g.addr ∉ burstAddrs c := by
    simp only [pauseFlds, List.mem_cons, List.not_mem_nil, or_false, MEM.CH_RETRAIN.COUNT, MEM.CH_RETRAIN.LAST_NS, MEM.CH_CAPAR.CONSEC,
      MEM.CH_CAPAR.RETRAIN_FAIL] at hg
    simp only [burstAddrs, List.mem_cons, List.not_mem_nil, or_false, MEM.CH_RH.RFM, MEM.CH_REFRESH.POSTPONED, MEM.CH_REFRESH.MAX,
      MEM.CH_REFRESH.MAKEUP]
    rcases hg with rfl | rfl | rfl | rfl <;> exact ⟨by simp only; omega, fun d => by simp only; omega, by simp only; omega⟩
  exact ⟨isReport_below haddr.1, haddr.2⟩

theorem State.startWaiting_keeps (s : State) (c : Nat) : (s.startWaiting c).mem.pause = s.mem.pause ∧
    ∀ g : Fld, g.addr ∉ burstAddrs c → (s.startWaiting c).fld g = s.fld g :=
  List.foldlRecOn (motive := fun u : State => u.mem.pause = s.mem.pause ∧ ∀ g : Fld, g.addr ∉ burstAddrs c → u.fld g = s.fld g) _ _
    ⟨rfl, fun _ _ => rfl⟩ fun u ⟨hpause, hfld⟩ r _ => by
      obtain ⟨hstart, honly⟩ := u.startBurst_only c r
      split
      · exact ⟨hstart.trans hpause, fun g hg => (honly.1 g hg).trans (hfld g hg)⟩
      · exact ⟨hpause, hfld⟩

/-- What goes on once a pause is over leaves what the pause showed, and begins no other. -/
theorem State.resumed_keeps (hc : c < 12) (s : State) : ((s.startWaiting c).resumeChan c).pausing c = s.pausing c ∧
    ∀ g ∈ pauseFlds c, ((s.startWaiting c).resumeChan c).fld g = s.fld g := by
  obtain ⟨hpause, hfld⟩ := s.startWaiting_keeps c
  have hserve : ((s.startWaiting c).resumeChan c).servedFrom (s.startWaiting c) := (State.servedFrom.refl _).serveWaiting
  refine ⟨congrArg (fun p => Tbl.get false p c) (hserve.pause.trans hpause), fun g hg => ?_⟩
  obtain ⟨hrep, hrfm, hburst⟩ := pauseFlds_apart hc hg
  exact (hserve.fld g hrep hrfm).trans (hfld g hburst)

/-- A pause that has ended is counted, with how long it took. -/
def State.pauseOver (s : State) (c ns : Nat) : State := (s.countPause c).setF (MEM.CH_RETRAIN.LAST_NS c) (min 2047 ns)

theorem pauseFlds_ne (c : Nat) : (MEM.CH_RETRAIN.COUNT c).addr ≠ (MEM.CH_RETRAIN.LAST_NS c).addr ∧
    (MEM.CH_RETRAIN.COUNT c).addr ≠ (MEM.CH_CAPAR.CONSEC c).addr ∧ (MEM.CH_RETRAIN.COUNT c).addr ≠ (MEM.CH_CAPAR.RETRAIN_FAIL c).addr ∧
    (MEM.CH_RETRAIN.LAST_NS c).addr ≠ (MEM.CH_CAPAR.CONSEC c).addr ∧ (MEM.CH_CAPAR.CONSEC c).addr ≠ (MEM.CH_CAPAR.RETRAIN_FAIL c).addr ∧
    (MEM.CH_CAPAR.RETRAIN_FAIL c).addr ≠ (MEM.CH_RETRAIN.LAST_NS c).addr := by
  simp only [MEM.CH_RETRAIN.COUNT, MEM.CH_RETRAIN.LAST_NS, MEM.CH_CAPAR.CONSEC, MEM.CH_CAPAR.RETRAIN_FAIL]
  omega

theorem State.pauseOver_shows (s : State) (c : Nat) {ns : Nat} (hns : ns ≤ 1500) : (s.pauseOver c ns).pausing c = false ∧
    counted (MEM.CH_RETRAIN.COUNT c) s (s.pauseOver c ns) ∧ (s.pauseOver c ns).fld (MEM.CH_RETRAIN.LAST_NS c) = ns ∧
    (s.pauseOver c ns).fld (MEM.CH_CAPAR.CONSEC c) = s.fld (MEM.CH_CAPAR.CONSEC c) ∧
    (s.pauseOver c ns).fld (MEM.CH_CAPAR.RETRAIN_FAIL c) = s.fld (MEM.CH_CAPAR.RETRAIN_FAIL c) := by
  obtain ⟨hlast, hconsec, hfail, hlastConsec, -, hfailLast⟩ := pauseFlds_ne c
  have hcount : ∀ {g : Fld}, g.addr ≠ (MEM.CH_RETRAIN.COUNT c).addr → (s.countPause c).fld g = s.fld g := fun hg =>
    State.fld_bumpF_ne _ _ _ _ hg
  refine ⟨Tbl.get_set_same false s.mem.pause c false, ?_, ?_, ?_, ?_⟩
  · exact counted.congr (t := s.countPause c) (State.bumpF_counted _ _) (State.fld_setF_ne _ _ _ _ hlast)
  · rw [State.pauseOver, State.fld_setF_same, Nat.min_eq_right (by omega)]
    exact Nat.mod_eq_of_lt (by show ns < 2 ^ 11; omega)
  · exact (State.fld_setF_ne _ _ _ _ hlastConsec.symm).trans (hcount hconsec.symm)
  · exact (State.fld_setF_ne _ _ _ _ hfailLast).trans (hcount hfail.symm)

theorem State.endPause_passed (s : State) (c ns : Nat) :
    s.endPause c ns true = (((s.pauseOver c ns).setF (MEM.CH_CAPAR.CONSEC c) 0).startWaiting c).resumeChan c := by
  unfold State.endPause State.pauseOver State.countPause
  exact if_pos rfl

/-- The failure of a pause counted. -/
def State.countFailure (s : State) (c : Nat) : State := (s.bumpF (MEM.CH_CAPAR.RETRAIN_FAIL c) 1).bumpF (MEM.CH_CAPAR.CONSEC c) 1

theorem State.countFailure_shows (s : State) (c : Nat) : counted (MEM.CH_CAPAR.CONSEC c) s (s.countFailure c) ∧
    counted (MEM.CH_CAPAR.RETRAIN_FAIL c) s (s.countFailure c) ∧
    (s.countFailure c).fld (MEM.CH_RETRAIN.COUNT c) = s.fld (MEM.CH_RETRAIN.COUNT c) := by
  obtain ⟨-, hconsec, hfail, -, hboth, -⟩ := pauseFlds_ne c
  refine ⟨(State.bumpF_counted _ _).of_same (State.fld_bumpF_ne _ _ _ _ hboth) rfl,
    (State.bumpF_counted s _).congr (State.fld_bumpF_ne _ _ _ _ hboth.symm), ?_⟩
  exact (State.fld_bumpF_ne _ _ _ _ hconsec).trans (State.fld_bumpF_ne _ _ _ _ hfail)

section
variable {ns : Nat} (hc : c < 12) (hin : s.inService c = true) (hp : s.pausing c = true) (hns : ns ≤ 1500)
include hin hp hns

theorem retrainPauseDone_ends (ok : Bool) : exec (.retrainPauseDone c ok ns) s = .next (s.endPause c ns ok) :=
  congrArg Host.Outcome.next (if_pos (by simp [hin, hp, hns]))

theorem retrainPauseDone_fails : exec (.retrainPauseDone c false ns) s = .next
    (if 4 ≤ ((s.pauseOver c ns).countFailure c).fld (MEM.CH_CAPAR.CONSEC c) then ((s.pauseOver c ns).countFailure c).loseChannel c 1
    else (((s.pauseOver c ns).countFailure c).startWaiting c).resumeChan c) :=
  retrainPauseDone_ends hin hp hns false

include hc

theorem retrainPauseDone_passes : ∃ t, exec (.retrainPauseDone c true ns) s = .next t ∧ t.pausing c = false ∧
    t.fld (MEM.CH_CAPAR.CONSEC c) = 0 ∧ counted (MEM.CH_RETRAIN.COUNT c) s t ∧ t.fld (MEM.CH_RETRAIN.LAST_NS c) = ns := by
  obtain ⟨hover, hcount, hlast, -, -⟩ := s.pauseOver_shows c hns
  obtain ⟨-, hconsec, -, hlastConsec, -⟩ := pauseFlds_ne c
  obtain ⟨hpause, hfld⟩ := State.resumed_keeps hc ((s.pauseOver c ns).setF (MEM.CH_CAPAR.CONSEC c) 0)
  refine ⟨_, (retrainPauseDone_ends hin hp hns true).trans (congrArg Host.Outcome.next (s.endPause_passed c ns)), hpause.trans hover, ?_, hcount.congr ?_, ?_⟩
  · exact (hfld _ (by simp [pauseFlds])).trans (State.fld_setF_same _ _ _)
  · exact (hfld _ (by simp [pauseFlds])).trans (State.fld_setF_ne _ _ _ _ hconsec)
  · exact (hfld _ (by simp [pauseFlds])).trans ((State.fld_setF_ne _ _ _ _ hlastConsec).trans hlast)

/-- A failure that is not the fourth in a row is counted, and the channel goes on with its previous values. -/
theorem retrainPauseDone_counts (hrow : s.fld (MEM.CH_CAPAR.CONSEC c) < 3) : ∃ t, exec (.retrainPauseDone c false ns) s = .next t ∧
    t.pausing c = false ∧ counted (MEM.CH_CAPAR.CONSEC c) s t ∧ counted (MEM.CH_CAPAR.RETRAIN_FAIL c) s t ∧
    counted (MEM.CH_RETRAIN.COUNT c) s t := by
  obtain ⟨hover, hcount, -, hconsec, hfail⟩ := s.pauseOver_shows c hns
  obtain ⟨hconsecs, hfails, hkept⟩ := (s.pauseOver c ns).countFailure_shows c
  obtain ⟨hpause, hfld⟩ := State.resumed_keeps hc ((s.pauseOver c ns).countFailure c)
  have hfew : ¬ 4 ≤ ((s.pauseOver c ns).countFailure c).fld (MEM.CH_CAPAR.CONSEC c) := by
    rw [hconsecs, hconsec]
    split <;> omega
  refine ⟨_, (retrainPauseDone_fails hin hp hns).trans (congrArg Host.Outcome.next (if_neg hfew)), hpause.trans hover, ?_, ?_, ?_⟩
  · exact (hconsecs.of_same hconsec rfl).congr (hfld _ (by simp [pauseFlds]))
  · exact (hfails.of_same hfail rfl).congr (hfld _ (by simp [pauseFlds]))
  · exact hcount.congr ((hfld _ (by simp [pauseFlds])).trans hkept)

omit hc in
/-- The fourth failure in a row loses the channel. -/
theorem retrainPauseDone_loses (hrow : s.fld (MEM.CH_CAPAR.CONSEC c) = 3) (hclear : s.justCleared (MEM.CH_CAPAR.CONSEC c) = false) :
    ∃ u : State, exec (.retrainPauseDone c false ns) s = .next (u.loseChannel c 1) ∧ u.fld (MEM.CH_CAPAR.CONSEC c) = 4 ∧
      counted (MEM.CH_CAPAR.RETRAIN_FAIL c) s u := by
  obtain ⟨-, -, -, hconsec, hfail⟩ := s.pauseOver_shows c hns
  obtain ⟨hconsecs, hfails, -⟩ := (s.pauseOver c ns).countFailure_shows c
  have hfour : ((s.pauseOver c ns).countFailure c).fld (MEM.CH_CAPAR.CONSEC c) = 4 := by
    have hclear' : (s.pauseOver c ns).justCleared (MEM.CH_CAPAR.CONSEC c) = false := hclear
    rw [hconsecs, hclear', hconsec, hrow]
    rfl
  exact ⟨_, (retrainPauseDone_fails hin hp hns).trans (congrArg Host.Outcome.next (if_pos hfour.ge)), hfour, hfails.of_same hfail rfl⟩

end

end

/-! ### Row disturbance (R262) -/

section
variable {s : State} {c n req row : Nat}

theorem rowThrottle_without (h : s.classOf req = 0 ∨ s.overActive c n req row = false ∨ s.bankDeferred c n req = true) :
    exec (.rowThrottle c n req row) s = .next s := by
  refine congrArg Host.Outcome.next (if_neg ?_)
  rcases h with h | h | h <;> simp [h]

theorem rowThrottle_defers (hc : c < 12) (hin : s.inService c = true) (hn : n < 256) (hcls : s.classOf req ≠ 0)
    (hover : s.overActive c n req row = true) (hnew : s.bankDeferred c n req = false) :
    ∃ t, exec (.rowThrottle c n req row) s = .next t ∧ counted (MEM.CH_RH.THROTTLES c) s t ∧ reported 5 0 c n t ∧
      t.mem.throttled = (bankKey c n, req, s.now + s.fld MEM.LIMITS.THROTTLE * cyclesPerUs) :: s.mem.throttled ∧
      onlyReports [(MEM.CH_RH.THROTTLES c).addr] s { t with mem := s.mem } := by
  have hraise : ∀ u : State, onlyReports [(MEM.CH_RH.THROTTLES c).addr] u (u.raise 5 0 c n 0) := fun u =>
    State.raise_only _ u 5 0 c n 0 (by decide)
  have hbelow : (MEM.CH_RH.THROTTLES c).addr < 14 * 524288 := by
    simp only [MEM.CH_RH.THROTTLES]
    omega
  refine ⟨_, congrArg Host.Outcome.next (if_pos (by simp [hin, hn, hcls, hover, hnew])), ?_,
    State.raise_reported _ 5 0 c n 0 (by decide) (by decide) (by decide) (by omega) (by omega), ?_, (hraise _).besideMem ?_⟩
  · exact (State.bumpF_counted { s with mem := _ } _).congr (State.raise_below _ _ _ _ _ (by decide) hbelow)
  · exact congrArg MemSt.throttled (hraise _).mem_eq
  · exact onlyReports_bumpF _ _ _ 1 (.inr (List.mem_singleton_self _))

end

/-- Settles O37: a refresh due and a burst by what `refreshDue_busy` and `State.startBurst_runs` say, a pause by how it ends, a requester by
whether it is deferred. -/
theorem refreshIsPostponedThenMadeUp : Obligations.RefreshIsPostponedThenMadeUp := by
  refine fun s c hc => ⟨fun r n _ hrank hn => ⟨fun hawake => ⟨refreshDue_closes hrank hawake, s.closeRank_closed c r, rfl⟩,
      fun hawake hlt => ?_, fun hpos _ => makeupBurst_starts hrank hn hpos, fun hge hawake => ?_, fun hb => ⟨_, rfl,
      State.startBurst_runs hb, fun hp => ?_⟩, fun hb hdue => ?_⟩,
    fun ns hin hp hns => ⟨retrainPauseDone_passes hc hin hp hns, retrainPauseDone_counts hc hin hp hns,
      retrainPauseDone_loses hin hp hns⟩,
    fun n req row hin hn => ⟨rowThrottle_without, rowThrottle_defers hc hin hn⟩,
    ⟨_, rfl, rfl, rfl, fun hheld => State.resumeAll_of_none hheld⟩⟩
  · obtain ⟨hpost, -, honly⟩ := s.setPostponed_shows c r (n + 1)
    exact ⟨_, (refreshDue_busy hrank hn hawake).trans (congrArg Host.Outcome.next (if_pos hlt)), hpost, honly⟩
  · exact (refreshDue_busy hrank hn hawake).trans (congrArg Host.Outcome.next (if_neg (by omega)))
  · rw [State.startBurst_waits (by omega) hp]
    exact ⟨Tbl.get_set_same 0 s.mem.burst _ 1, rfl⟩
  · obtain ⟨hends, hover⟩ := makeupBurstEnd_ends hb hdue
    exact ⟨hends, hover, fun hheld => State.resumeChan_of_none (s := s.setBurst c r 0) hheld c⟩

end Sys2Proof.Machine
end

section
/-!
SUPPORT. The release of panic (R309): why the fetch level it shows need not be the panic level. DSP.FETCH.LEVEL has eight bits, and the statement is
about every state, also one that holds a panic level beyond eight bits.
-/

namespace Sys2Proof.Machine

/-- Panic is raised, nothing waits, and the panic level reads 256. The field has eight bits, and no write puts that value there. -/
def widePanicLevel : State := { regs := [(MEM.STATUS.PANIC.addr, 1), (DSP.FETCH.PANIC.addr, 256)] }

/-- The release shows the low eight bits of the panic level. -/
theorem widePanicLevel_released : widePanicLevel.bit MEM.STATUS.PANIC = true ∧ widePanicLevel.fld DSP.FETCH.PANIC = 256 ∧
    (effDisplayPanicRelease widePanicLevel).fld DSP.FETCH.LEVEL = 0 := by decide

/-- Refutes O44: panic is released in a state whose panic level is 256, and the fetch level shows 0. -/
theorem not_panelLinkTrainsAndFails : ¬ Obligations.PanelLinkTrainsAndFails := by
  intro h
  obtain ⟨-, -, hrelease, -⟩ := h widePanicLevel
  obtain ⟨hpanic, hwide, hshown⟩ := widePanicLevel_released
  obtain ⟨u, hu, -, -, hlevel, honly⟩ := hrelease hpanic
  rw [State.resumeAll_of_none (congrArg MemSt.held honly.mem_eq)] at hu
  rw [← Host.Outcome.next.inj hu, hwide, hshown] at hlevel
  exact absurd hlevel (by decide)

end Sys2Proof.Machine
end

section
/-!
SUPPORT. Errors in device DRAM (R264 to R267, R269): what a corrected, an uncorrectable and a parity error leave, and a row migrated.
-/

namespace Sys2Proof.Machine

/-! ### Corrected errors (R264) -/

section
variable {s : State} {c r : Nat}

/-- A corrected error noted at rank `r`, the times of the last second `l` with it, and counted. -/
def State.noteCorrected (s : State) (c r : Nat) (l : List Nat) : State :=
  State.bumpF { s with mem := { s.mem with ceTimes := Tbl.set [] s.mem.ceTimes (rankKey c r) l } } (MEM.CH_ECC.CE c) 1

theorem State.noteCorrected_counted (s : State) (c r : Nat) (l : List Nat) : counted (MEM.CH_ECC.CE c) s (s.noteCorrected c r l) :=
  State.bumpF_counted { s with mem := _ } _

theorem State.noteCorrected_times (s : State) (c r : Nat) (l : List Nat) :
    Tbl.get [] (s.noteCorrected c r l).mem.ceTimes (rankKey c r) = l :=
  Tbl.get_set_same [] s.mem.ceTimes _ l

theorem State.noteCorrected_only (s : State) (c r : Nat) (l : List Nat) :
    onlyReports [(MEM.CH_ECC.CE c).addr] s { s.noteCorrected c r l with mem := s.mem } :=
  onlyReports_of_onlyRegs ((onlyRegs_refl _ s).bumpF (List.mem_singleton_self _))

theorem correctedError_counts (hc : c < 12) (hr : r < 4) (hrank : s.rankThere c r = true) {l : List Nat}
    (hl : l = s.now :: lastSecond s.now (Tbl.get [] s.mem.ceTimes (rankKey c r))) :
    ∃ t, exec (.correctedError c r) s = .next t ∧ counted (MEM.CH_ECC.CE c) s t ∧ Tbl.get [] t.mem.ceTimes (rankKey c r) = l ∧
      (l.length = 1001 → reported (136 + 4 * c) 0 r 0 t) ∧ (l.length ≠ 1001 → t.evt = s.evt ∧ t.mgt = s.mgt ∧ t.out = s.out) ∧
      onlyReports [(MEM.CH_ECC.CE c).addr] s { t with mem := s.mem } := by
  have hexec : exec (.correctedError c r) s =
      .next (if l.length = 1001 then (s.noteCorrected c r l).raise (136 + 4 * c) 0 r 0 0 else s.noteCorrected c r l) := by
    subst hl
    exact congrArg Host.Outcome.next (if_pos hrank)
  have hcount := s.noteCorrected_counted c r l
  have htimes := s.noteCorrected_times c r l
  have honly := s.noteCorrected_only c r l
  by_cases hmany : l.length = 1001
  · have hraise := State.raise_only [(MEM.CH_ECC.CE c).addr] (s.noteCorrected c r l) (136 + 4 * c) 0 r 0 0 (by omega)
    refine ⟨_, hexec.trans (congrArg Host.Outcome.next (if_pos hmany)), hcount.congr (State.raise_below _ _ _ _ _ (by omega) ?_),
      ?_, fun _ => State.raise_reported _ _ 0 r 0 0 (by omega) (by omega) (by omega) (by omega) (by omega),
      fun hne => absurd hmany hne, hraise.besideMem honly⟩
    · simp only [MEM.CH_ECC.CE]
      omega
    · rw [hraise.mem_eq]
      exact htimes
  · exact ⟨_, hexec.trans (congrArg Host.Outcome.next (if_neg hmany)), hcount, htimes, fun h => absurd h hmany,
      fun _ => ⟨rfl, rfl, rfl⟩, honly⟩

end

/-! ### Poison (R265) -/

section
variable {s t : State} {c a x : Nat}

/-- What a burst's poison is read from. -/
theorem State.poisoned_of_same (hpoison : t.mem.poison = s.mem.poison) (hcap : t.mem.capg = s.mem.capg)
    (hmap : t.fld MEM.MAPG.MAPG = s.fld MEM.MAPG.MAPG) (c a : Nat) : t.poisoned c a = s.poisoned c a := by
  simp only [State.poisoned, hpoison, hcap, hmap]

theorem State.poisoned_of_burst (s : State) (c : Nat) (h : a / 64 = x / 64) : s.poisoned c a = s.poisoned c x := by
  have hgranule : a / 4096 = x / 4096 := by omega
  simp only [State.poisoned, h, hgranule]

theorem State.setPoison_poisons (s : State) (c a : Nat) : (s.setPoison c a true).poisoned c a = true := by
  by_cases h : s.poisoned c a = true
  · rw [State.setPoison, if_pos h, h]
  · rw [State.setPoison, if_neg h]
    rw [Bool.not_eq_true] at h
    refine (congrArg (fun p => xor p _) (Tbl.get_set_same false s.mem.poison (burstKey c (a / 64)) _)).trans ?_
    rw [Bool.not_xor]
    exact congrArg Bool.not h

/-- A burst poisoned leaves every burst poisoned that was. -/
theorem State.setPoison_keeps (h : s.poisoned c x = true) (a : Nat) : (s.setPoison c a true).poisoned c x = true := by
  by_cases hb : a / 64 = x / 64
  · rw [← State.poisoned_of_burst _ c hb]
    exact s.setPoison_poisons c a
  · have hkey : burstKey c (x / 64) ≠ burstKey c (a / 64) := by
      unfold burstKey
      omega
    unfold State.setPoison
    split
    · exact h
    · exact (congrArg (fun p => xor p _) (Tbl.get_set_ne false false s.mem.poison _ _ _ hkey)).trans h

theorem State.poisonBursts_poison (c : Nat) (f : Nat → Nat) (l : List Nat) (s : State) :
    ∀ i ∈ l, (l.foldl (fun (s : State) i => s.setPoison c (f i) true) s).poisoned c (f i) = true := by
  induction l generalizing s with
  | nil => exact fun i hi => absurd hi List.not_mem_nil
  | cons j l ih =>
    intro i hi
    rcases List.mem_cons.mp hi with rfl | hi
    · exact List.foldlRecOn (motive := fun u : State => u.poisoned c (f i) = true) l _ (s.setPoison_poisons c (f i))
        fun _ hu k _ => State.setPoison_keeps hu (f k)
    · exact ih _ i hi

theorem State.poisonGranule_poisons (s : State) (c a : Nat) : ∀ i < 64, (s.poisonGranule c a).poisoned c (a / 4096 * 4096 + 64 * i) = true :=
  fun i hi => State.poisonBursts_poison c (fun i => a / 4096 * 4096 + 64 * i) (List.range 64) s i (List.mem_range.mpr hi)

theorem State.setPoison_eq (s : State) (c a : Nat) (b : Bool) : ∃ p, s.setPoison c a b = { s with mem := { s.mem with poison := p } } := by
  unfold State.setPoison
  split
  · exact ⟨_, rfl⟩
  · exact ⟨_, rfl⟩

theorem State.poisonGranule_eq (s : State) (c a : Nat) : ∃ p, s.poisonGranule c a = { s with mem := { s.mem with poison := p } } :=
  List.foldlRecOn (motive := fun u : State => ∃ p, u = { s with mem := { s.mem with poison := p } }) _ _ ⟨_, rfl⟩ fun u hu i _ => by
    obtain ⟨p, rfl⟩ := hu
    exact State.setPoison_eq { s with mem := { s.mem with poison := p } } _ _ _

/-! ### Records that poison meets (R163, R265) -/

theorem State.chanRequest_eq (s : State) (i c : Nat) : ∃ q, s.chanRequest i c = { s with seq := q } :=
  List.foldlRecOn (motive := fun u : State => ∃ q, u = { s with seq := q }) _ _ ⟨_, rfl⟩ fun _ hu l _ => by
    obtain ⟨q, rfl⟩ := hu
    exact State.laneRequest_eq { s with seq := q } i l

theorem State.poisonRecs_eq (s : State) (hit : Rec → Bool) : ∃ q r, s.poisonRecs hit = { s with seq := q, acq := r } :=
  List.foldlRecOn (motive := fun u : State => ∃ q r, u = { s with seq := q, acq := r }) _ _ ⟨_, _, rfl⟩ fun _ hu c _ => by
    obtain ⟨q, r, rfl⟩ := hu
    obtain ⟨p, hp⟩ := State.chanRequest_eq { s with seq := q, acq := r } 6 c
    exact ⟨p, r, hp⟩

theorem State.spoilGathered_eq (s : State) (hit : Nat × Nat → Bool) : ∃ r, s.spoilGathered hit = { s with acq := r } :=
  List.foldlRecOn (motive := fun u : State => ∃ r, u = { s with acq := r }) _ _ ⟨_, rfl⟩ fun _ hu k _ => by
    obtain ⟨r, rfl⟩ := hu
    split <;> exact ⟨_, rfl⟩

/-- The poison of records and of what slots have gathered is held by the acquisition alone, its requests by the sequencers. -/
theorem State.spoilRecs_eq (s : State) (hit : Rec → Bool) (range : Nat × Nat → Bool) :
    ∃ q r, (s.poisonRecs hit).spoilGathered range = { s with seq := q, acq := r } := by
  obtain ⟨q, r, h⟩ := s.poisonRecs_eq hit
  obtain ⟨r', h'⟩ := (s.poisonRecs hit).spoilGathered_eq range
  exact ⟨q, r', h'.trans (by rw [h])⟩

end

/-! ### Uncorrectable errors (R265) -/

/-- The granule of an uncorrectable error at byte `b` of channel `c` is poisoned, and so is every record that wrote into it. -/
def State.poisonError (s : State) (c b a : Nat) : State :=
  let s := (s.access c (b / 4096 * 4096) 4096 reqPoison true).poisonGranule c b
  (s.poisonRecs fun r => rangesMeet (s.recRanges r) [(a / 4096 * 4096, 4096)]).spoilGathered fun y => rangesMeet [y] [(a / 4096 * 4096, 4096)]

/-- An uncorrectable error of rank `p` at address `a` counted. -/
def State.countUncorrectable (s : State) (c p a : Nat) : State :=
  State.bumpF (State.bumpF { s with mem := { s.mem with ue := Tbl.set 0 s.mem.ue (rankKey c p) (Tbl.get 0 s.mem.ue (rankKey c p) + 1)
                                                        errAddr := Tbl.set 0 s.mem.errAddr c a } }
    (MEM.CH_ECC.UE c) 1) (MEM.CH_POISON.GRANULES c) 1

/-- Its address and rank shown. -/
def State.showUncorrectable (s : State) (c p a : Nat) : State :=
  ((s.countUncorrectable c p a).setF (MEM.CH_ERR_LO.ADDR c) a).setF (MEM.CH_ERR_HI.RANK c) p

section
variable {s : State} {c r a b : Nat}

theorem State.poisonError_shows (s : State) (c b a : Nat) :
    (∀ g : Fld, g.addr ≠ (MEM.CH_RH.RFM c).addr → (s.poisonError c b a).fld g = s.fld g) ∧
    (∀ f, (s.poisonError c b a).justCleared f = s.justCleared f) ∧ (s.poisonError c b a).mem.bytes = s.mem.bytes ∧
    ∀ i < 64, (s.poisonError c b a).poisoned c (b / 4096 * 4096 + 64 * i) = true := by
  have hacc : (s.access c (b / 4096 * 4096) 4096 reqPoison true).accessedFrom c s := (State.accessedFrom.refl c s).access
  have hbytes := s.access_bytes c (b / 4096 * 4096) 4096 reqPoison true
  unfold State.poisonError
  generalize s.access c (b / 4096 * 4096) 4096 reqPoison true = x at *
  have hpoison := x.poisonGranule_poisons c b
  obtain ⟨p, hp⟩ := x.poisonGranule_eq c b
  dsimp only
  generalize x.poisonGranule c b = y at *
  obtain ⟨q, e, he⟩ := y.spoilRecs_eq (fun r => rangesMeet (y.recRanges r) [(a / 4096 * 4096, 4096)])
    fun z => rangesMeet [z] [(a / 4096 * 4096, 4096)]
  rw [he]
  refine ⟨fun g hg => ?_, fun f => ?_, ?_, hpoison⟩
  · rw [← hacc.fld_eq hg, hp]
    rfl
  · rw [← hacc.justCleared_eq f, hp]
    rfl
  · rw [← hbytes, hp]

/-- The registers of channel `c` that show an uncorrectable error. -/
theorem uncorrectableFlds_ne (c : Nat) : (MEM.CH_ECC.UE c).addr ≠ (MEM.CH_RH.RFM c).addr ∧
    (MEM.CH_POISON.GRANULES c).addr ≠ (MEM.CH_RH.RFM c).addr ∧ (MEM.CH_ECC.UE c).addr ≠ (MEM.CH_POISON.GRANULES c).addr ∧
    (MEM.CH_ECC.UE c).addr ≠ (MEM.CH_ERR_LO.ADDR c).addr ∧ (MEM.CH_ECC.UE c).addr ≠ (MEM.CH_ERR_HI.RANK c).addr ∧
    (MEM.CH_POISON.GRANULES c).addr ≠ (MEM.CH_ERR_LO.ADDR c).addr ∧ (MEM.CH_POISON.GRANULES c).addr ≠ (MEM.CH_ERR_HI.RANK c).addr ∧
    (MEM.CH_ERR_LO.ADDR c).addr ≠ (MEM.CH_ERR_HI.RANK c).addr := by
  simp only [MEM.CH_ECC.UE, MEM.CH_POISON.GRANULES, MEM.CH_ERR_LO.ADDR, MEM.CH_ERR_HI.RANK, MEM.CH_RH.RFM]
  omega

theorem State.showUncorrectable_only (s : State) (c p a : Nat) :
    onlyRegs [(MEM.CH_ECC.UE c).addr, (MEM.CH_POISON.GRANULES c).addr, (MEM.CH_ERR_LO.ADDR c).addr, (MEM.CH_ERR_HI.RANK c).addr]
      { s with mem := { s.mem with ue := Tbl.set 0 s.mem.ue (rankKey c p) (Tbl.get 0 s.mem.ue (rankKey c p) + 1)
                                   errAddr := Tbl.set 0 s.mem.errAddr c a } } (s.showUncorrectable c p a) :=
  ((((onlyRegs_refl _ _).bumpF (by simp)).bumpF (by simp)).setF (by simp)).setF (by simp)

theorem State.showUncorrectable_shows (s : State) (c a : Nat) (hr : r < 4) :
    counted (MEM.CH_ECC.UE c) s (s.showUncorrectable c r a) ∧ counted (MEM.CH_POISON.GRANULES c) s (s.showUncorrectable c r a) ∧
    (s.showUncorrectable c r a).fld (MEM.CH_ERR_LO.ADDR c) = a % 2 ^ 32 ∧ (s.showUncorrectable c r a).fld (MEM.CH_ERR_HI.RANK c) = r := by
  obtain ⟨-, -, hboth, huelo, huehi, hglo, hghi, hlohi⟩ := uncorrectableFlds_ne c
  unfold State.showUncorrectable
  refine ⟨?_, ?_, ?_, ?_⟩
  · refine (State.bumpF_counted { s with mem := _ } _).congr ?_
    rw [State.fld_setF_ne _ _ _ _ huehi, State.fld_setF_ne _ _ _ _ huelo]
    exact State.fld_bumpF_ne _ _ _ _ hboth
  · refine ((State.bumpF_counted (State.bumpF { s with mem := _ } (MEM.CH_ECC.UE c) 1) _).of_same
      (State.fld_bumpF_ne { s with mem := _ } _ _ 1 hboth.symm) rfl).congr ?_
    rw [State.fld_setF_ne _ _ _ _ hghi, State.fld_setF_ne _ _ _ _ hglo]
    rfl
  · rw [State.fld_setF_ne _ _ _ _ hlohi]
    exact State.fld_setF_same _ _ _
  · exact (State.fld_setF_same _ _ _).trans (Nat.mod_eq_of_lt (by show r < 2 ^ 2; omega))

/-- Every channel's registers lie below the reports. -/
theorem uncorrectableFlds_below (hc : c < 12) : (MEM.CH_ECC.UE c).addr < 14 * 524288 ∧ (MEM.CH_POISON.GRANULES c).addr < 14 * 524288 ∧
    (MEM.CH_ERR_LO.ADDR c).addr < 14 * 524288 ∧ (MEM.CH_ERR_HI.RANK c).addr < 14 * 524288 := by
  simp only [MEM.CH_ECC.UE, MEM.CH_POISON.GRANULES, MEM.CH_ERR_LO.ADDR, MEM.CH_ERR_HI.RANK]
  omega

theorem uncorrectableError_shows (hc : c < 12) (hr : r < 4) (hphys : s.phys a = some (c, b)) (hawake : s.dev.sleepMem = false)
    (hrank : s.rankAt c (s.locate b) = r) : ∃ u : State,
      exec (.uncorrectableError a) s = .next (u.rankFails c r) ∧ counted (MEM.CH_ECC.UE c) s u ∧
      counted (MEM.CH_POISON.GRANULES c) s u ∧ reported (137 + 4 * c) 0 r 0 u ∧ u.fld (MEM.CH_ERR_LO.ADDR c) = a % 2 ^ 32 ∧
      Tbl.get 0 u.mem.errAddr c = a ∧ u.fld (MEM.CH_ERR_HI.RANK c) = r ∧
      (∀ i < 64, u.poisoned c (b / 4096 * 4096 + 64 * i) = true) ∧ u.mem.bytes = s.mem.bytes := by
  have hexec : exec (.uncorrectableError a) s = .next
      ((((s.poisonError c b a).showUncorrectable c r a).raise (137 + 4 * c) 0 r 0 (a / 256)).rankFails c r) := by
    subst hrank
    refine congrArg Host.Outcome.next ?_
    unfold effUncorrectableError
    rw [hphys]
    dsimp only
    rw [if_neg (by rw [hawake]; decide)]
    unfold State.showUncorrectable State.countUncorrectable State.poisonError
    with_reducible rfl
  obtain ⟨hfld, hclear, hbytes, hpoison⟩ := s.poisonError_shows c b a
  generalize s.poisonError c b a = x at *
  obtain ⟨hue, hgran, hlo, hhi⟩ := x.showUncorrectable_shows c a hr
  have honly := x.showUncorrectable_only c r a
  obtain ⟨huerfm, hgrfm, -⟩ := uncorrectableFlds_ne c
  obtain ⟨hueb, hgb, hlob, hhib⟩ := uncorrectableFlds_below hc
  generalize x.showUncorrectable c r a = y at *
  have hbelow : ∀ {g : Fld}, g.addr < 14 * 524288 → (y.raise (137 + 4 * c) 0 r 0 (a / 256)).fld g = y.fld g := fun hg =>
    State.raise_below _ _ _ _ _ (by omega) hg
  have hmem : (y.raise (137 + 4 * c) 0 r 0 (a / 256)).mem = y.mem := (State.raise_only [] y _ 0 r 0 _ (by omega)).mem_eq
  refine ⟨_, hexec, (hue.of_same (hfld _ huerfm) (hclear _)).congr (hbelow hueb), (hgran.of_same (hfld _ hgrfm) (hclear _)).congr (hbelow hgb),
    State.raise_reported _ _ 0 r 0 _ (by omega) (by omega) (by omega) (by omega) (by omega), (hbelow hlob).trans hlo, ?_,
    (hbelow hhib).trans hhi, fun i hi => ?_, ?_⟩
  · rw [hmem, honly.mem_eq]
    exact Tbl.get_set_same 0 x.mem.errAddr c a
  · rw [State.poisoned_of_same (s := x) (by rw [hmem, honly.mem_eq]) (by rw [hmem, honly.mem_eq]) ?_]
    · exact hpoison i hi
    · refine (hbelow (by decide)).trans (honly.fld_eq ?_)
      simp only [List.mem_cons, List.not_mem_nil, or_false, MEM.MAPG.MAPG, MEM.CH_ECC.UE, MEM.CH_POISON.GRANULES, MEM.CH_ERR_LO.ADDR, MEM.CH_ERR_HI.RANK]
      omega
  · rw [hmem, honly.mem_eq]
    exact hbytes

end

end Sys2Proof.Machine
end

section
/-!
SUPPORT. Parity errors (R266): what is counted of them, and what becomes of the rank and the channel they meet.
-/

namespace Sys2Proof.Machine

/-! ### What the failure of a rank leaves (R267) -/

/-- The parity errors noted and the time are those of `s₀`. -/
def State.parityAs (s₀ s : State) : Prop := s.mem.paTimes = s₀.mem.paTimes ∧ s.now = s₀.now

section
variable {s s₀ : State} (h : s₀.parityAs s) {c p : Nat}
include h

theorem State.parityAs.setF (f : Fld) (v : Nat) : s₀.parityAs (s.setF f v) := h

theorem State.parityAs.setRank (c r v : Nat) : s₀.parityAs (s.setRank c r v) := h

theorem State.parityAs.rankChange (hc : c < 12) (r k : Nat) : s₀.parityAs (s.rankChange c r k) := by
  have honly := State.raise_only [] s (138 + 4 * c) k r 0 0 (by omega)
  exact ⟨(congrArg MemSt.paTimes honly.mem_eq).trans h.1, honly.now_eq.trans h.2⟩

theorem State.parityAs.degrade (hc : c < 12) : s₀.parityAs (s.degrade c p) := by
  unfold State.degrade
  split
  · exact (h.setRank c p 1).rankChange hc p 2
  · exact h

theorem State.parityAs.showMigrating : s₀.parityAs s.showMigrating := h

theorem State.parityAs.retireRank (hc : c < 12) : s₀.parityAs (s.retireRank c p) := by
  unfold State.retireRank
  refine State.parityAs.rankChange ?_ hc p 0
  iterate 7 refine State.parityAs.setF ?_ _ _
  exact State.parityAs.setRank ⟨h.1, h.2⟩ c p 2

theorem State.parityAs.targetFails (hc : c < 12) : s₀.parityAs (s.targetFails c) := by
  unfold State.targetFails
  refine State.parityAs.degrade (State.parityAs.degrade (State.parityAs.setRank (State.parityAs.setRank
    (State.parityAs.showMigrating (State.parityAs.rankChange (State.parityAs.setF ?_ _ 0) hc _ 3)) c _ 0) c _ 0) hc) hc
  exact ⟨h.1, h.2⟩

theorem State.parityAs.rankFails (hc : c < 12) : s₀.parityAs (s.rankFails c p) := by
  unfold State.rankFails
  dsimp only
  split
  · exact h.targetFails hc
  · split
    · exact h
    · split
      · exact h.retireRank hc
      · split
        · exact ((h.setRank c _ 0).retireRank hc).degrade hc
        · exact h.degrade hc

end

/-! ### Parity errors (R266) -/

section
variable {s : State} {c r n : Nat} {l : List Nat}

/-- The parity errors of the last second, of all ranks of channel `c`. -/
def State.parityErrors (s : State) (c : Nat) : Nat :=
  ((List.range 4).map fun i => (lastSecond s.now (Tbl.get [] s.mem.paTimes (rankKey c i))).length).sum

/-- A parity error of rank `r` noted, the times of the last second `l` with it, and counted. -/
def State.noteParity (s : State) (c r : Nat) (l : List Nat) : State :=
  State.bumpF { s with mem := { s.mem with paTimes := Tbl.set [] s.mem.paTimes (rankKey c r) l } } (MEM.CH_CAPAR.PARITY c) 1

/-- The rank marked failing. -/
def State.markFailing (s : State) (c r : Nat) : State :=
  { s with mem := { s.mem with failing := Tbl.set false s.mem.failing (rankKey c r) true } }

theorem State.noteParity_counted (s : State) (c r : Nat) (l : List Nat) : counted (MEM.CH_CAPAR.PARITY c) s (s.noteParity c r l) :=
  State.bumpF_counted { s with mem := _ } _

theorem State.noteParity_times (s : State) (c r : Nat) (l : List Nat) :
    Tbl.get [] (s.noteParity c r l).mem.paTimes (rankKey c r) = l :=
  Tbl.get_set_same [] s.mem.paTimes _ l

theorem State.noteParity_only (s : State) (c r : Nat) (l : List Nat) :
    onlyRegs [(MEM.CH_CAPAR.PARITY c).addr] s { s.noteParity c r l with mem := s.mem } :=
  (onlyRegs_refl _ s).bumpF (List.mem_singleton_self _)

/-- The errors of the last second with one of now are themselves of the last second. -/
theorem lastSecond_cons (now : Nat) (l : List Nat) : lastSecond now (now :: lastSecond now l) = now :: lastSecond now l := by
  simp [lastSecond]

theorem State.parityErrors_of_same {t : State} (h : s.parityAs t) (c : Nat) : t.parityErrors c = s.parityErrors c := by
  unfold State.parityErrors
  rw [h.1, h.2]

/-- One more parity error. -/
theorem State.noteParity_total (hr : r < 4) (hl : l = s.now :: lastSecond s.now (Tbl.get [] s.mem.paTimes (rankKey c r))) :
    (s.noteParity c r l).parityErrors c = s.parityErrors c + 1 := by
  have hone : ((List.range 4).map fun i => if i = r then 1 else 0).sum = 1 := by
    interval_cases r <;> rfl
  unfold State.parityErrors
  rw [← hone, ← List.sum_map_add]
  refine congrArg List.sum (List.map_congr_left fun i _ => ?_)
  show (lastSecond s.now (Tbl.get [] (Tbl.set [] s.mem.paTimes (rankKey c r) l) (rankKey c i))).length = _
  by_cases hi : i = r
  · rw [hi, Tbl.get_set_same, hl, lastSecond_cons, if_pos rfl]
    rfl
  · have hkey : rankKey c i ≠ rankKey c r := by
      unfold rankKey
      omega
    rw [Tbl.get_set_ne _ _ _ _ _ _ hkey, if_neg hi, Nat.add_zero]

theorem State.allFailing_of_same {t : State} (hin : t.fld MEM.STATUS.IN_SERVICE = s.fld MEM.STATUS.IN_SERVICE)
    (hranks : t.fld MEM.CFG.RANKS = s.fld MEM.CFG.RANKS) (hrank : t.fld (MEM.CH_STATE.RANK c) = s.fld (MEM.CH_STATE.RANK c))
    (hstate : t.fld (MEM.CH_STATE.MIG_STATE c) = s.fld (MEM.CH_STATE.MIG_STATE c))
    (hfrom : t.fld (MEM.CH_STATE.MIG_FROM c) = s.fld (MEM.CH_STATE.MIG_FROM c)) (hstuck : t.mem.stuck = s.mem.stuck)
    (hfailing : t.mem.failing = s.mem.failing) : t.allFailing c = s.allFailing c := by
  simp only [State.allFailing, State.rankThere, State.inService, State.migrated, hin, hranks, hrank, hstate, hfrom, hstuck, hfailing]

theorem State.noteParity_allFailing (s : State) (c r : Nat) (l : List Nat) : (s.noteParity c r l).allFailing c = s.allFailing c := by
  have honly := s.noteParity_only c r l
  have hfld : ∀ {g : Fld}, g.addr ≠ (MEM.CH_CAPAR.PARITY c).addr → (s.noteParity c r l).fld g = s.fld g := fun hg =>
    honly.1 _ fun hm => hg (List.mem_singleton.mp hm)
  refine State.allFailing_of_same (hfld ?_) (hfld ?_) (hfld ?_) (hfld ?_) (hfld ?_) rfl rfl
  all_goals
    simp only [MEM.CH_CAPAR.PARITY, MEM.STATUS.IN_SERVICE, MEM.CFG.RANKS, MEM.CH_STATE.RANK, MEM.CH_STATE.MIG_STATE, MEM.CH_STATE.MIG_FROM]
    omega

/-- The state once a rank that a parity error makes failing has failed. -/
def State.parityRank (s : State) (c r : Nat) (l : List Nat) : State :=
  if 8 < l.length ∧ Tbl.get false s.mem.failing (rankKey c r) = false then (s.markFailing c r).rankFails c r else s

theorem caParityError_eq (hrank : s.rankThere c r = true)
    (hl : l = s.now :: lastSecond s.now (Tbl.get [] s.mem.paTimes (rankKey c r))) : exec (.caParityError c r) s =
      .next (if (((s.noteParity c r l).parityRank c r l).allFailing c &&
          decide (64 < ((s.noteParity c r l).parityRank c r l).parityErrors c)) = true
        then ((s.noteParity c r l).parityRank c r l).loseChannel c 2 else (s.noteParity c r l).parityRank c r l) := by
  subst hl
  exact congrArg Host.Outcome.next (if_pos hrank)

theorem State.parityRank_as (hc : c < 12) (s : State) (l : List Nat) : s.parityAs (s.parityRank c r l) := by
  unfold State.parityRank
  split
  · exact State.parityAs.rankFails (s := s.markFailing c r) ⟨rfl, rfl⟩ hc
  · exact ⟨rfl, rfl⟩

section
variable (hc : c < 12) (hr : r < 4) (hrank : s.rankThere c r = true)
  (hl : l = s.now :: lastSecond s.now (Tbl.get [] s.mem.paTimes (rankKey c r))) (hn : n = s.parityErrors c)
include hrank hl hn

include hc hr in
/-- With at most 64 errors in a second the channel stays. -/
theorem caParityError_stays (hfew : n < 64) : exec (.caParityError c r) s = .next ((s.noteParity c r l).parityRank c r l) := by
  have htotal : ((s.noteParity c r l).parityRank c r l).parityErrors c = n + 1 := by
    rw [State.parityErrors_of_same (State.parityRank_as hc _ l), State.noteParity_total hr hl, hn]
  refine (caParityError_eq hrank hl).trans (congrArg Host.Outcome.next (if_neg ?_))
  rw [htotal]
  simp
  omega

include hc hr in
theorem caParityError_counts (hkeep : Tbl.get false s.mem.failing (rankKey c r) = true ∨ l.length ≤ 8) (hfew : n < 64) :
    ∃ t, exec (.caParityError c r) s = .next t ∧ counted (MEM.CH_CAPAR.PARITY c) s t ∧
      Tbl.get [] t.mem.paTimes (rankKey c r) = l ∧ onlyRegs [(MEM.CH_CAPAR.PARITY c).addr] s { t with mem := s.mem } := by
  have hsame : (s.noteParity c r l).parityRank c r l = s.noteParity c r l := if_neg fun ⟨hmany, hnew⟩ => by
    rcases hkeep with h | h
    · exact absurd (hnew.symm.trans h) Bool.noConfusion
    · omega
  exact ⟨_, (caParityError_stays hc hr hrank hl hn hfew).trans (congrArg Host.Outcome.next hsame), s.noteParity_counted c r l,
    s.noteParity_times c r l, s.noteParity_only c r l⟩

include hc hr in
/-- The ninth error in a second makes the rank failing. -/
theorem caParityError_fails (hnew : Tbl.get false s.mem.failing (rankKey c r) = false) (hmany : 8 < l.length) (hfew : n < 64) :
    ∃ u : State, exec (.caParityError c r) s = .next (u.rankFails c r) ∧ counted (MEM.CH_CAPAR.PARITY c) s u ∧
      Tbl.get false u.mem.failing (rankKey c r) = true :=
  ⟨(s.noteParity c r l).markFailing c r, (caParityError_stays hc hr hrank hl hn hfew).trans
    (congrArg Host.Outcome.next (if_pos ⟨hmany, hnew⟩)), s.noteParity_counted c r l, Tbl.get_set_same false s.mem.failing _ true⟩

include hr in
/-- More than 64 errors in a second, every powered rank failing, lose the channel. -/
theorem caParityError_loses (hfailing : Tbl.get false s.mem.failing (rankKey c r) = true) (hall : s.allFailing c = true) (hmany : 64 ≤ n) :
    ∃ u : State, exec (.caParityError c r) s = .next (u.loseChannel c 2) ∧ counted (MEM.CH_CAPAR.PARITY c) s u := by
  have hsame : (s.noteParity c r l).parityRank c r l = s.noteParity c r l := if_neg fun ⟨_, hnew⟩ =>
    absurd (hnew.symm.trans hfailing) Bool.noConfusion
  refine ⟨s.noteParity c r l, (caParityError_eq hrank hl).trans (congrArg Host.Outcome.next ?_), s.noteParity_counted c r l⟩
  rw [hsame]
  refine if_pos ?_
  rw [State.noteParity_allFailing, hall, State.noteParity_total hr hl, ← hn]
  simp
  omega

end

end

end Sys2Proof.Machine
end

section
/-!
SUPPORT. Rows migrated to the spare (R269). PHY lock (R268). What the loss of a channel leaves (R251, R268).
-/

namespace Sys2Proof.Machine

/-! ### Migration (R269) -/

section
variable {s : State} {c r pos total : Nat}

theorem State.copyMigRow_from (s : State) (c : Nat) : (s.copyMigRow c).accessedFrom c s :=
  (State.accessedFrom.refl c s).foldl fun _ _ hu => hu.touchRow.touchRow

/-- The accesses of the row at POS made. -/
def State.copyMigratedRow (s : State) (c : Nat) : State :=
  let s := s.copyMigRow c
  { s with mem := { s.mem with rowAt := Tbl.set 0 s.mem.rowAt c s.now } }

/-- The row counted in POS, and shown in PCT how far the migration has come. -/
def State.countRow (s : State) (c : Nat) : State :=
  (s.setF (MEM.CH_MIG_POS.POS c) (s.fld (MEM.CH_MIG_POS.POS c) + 1)).setF (MEM.CH_STATE.MIG_PCT c)
    (100 * (s.fld (MEM.CH_MIG_POS.POS c) + 1) / s.fld (MEM.CH_MIG_TOTAL.TOTAL c))

/-- The row at POS copied. -/
def State.moveRow (s : State) (c : Nat) : State := (s.copyMigratedRow c).countRow c

/-- The spare `sp` takes the place of rank `r`. -/
def State.replaceRank (s : State) (c r sp : Nat) : State :=
  ((({ s with mem := { s.mem with repl := Tbl.set 0 s.mem.repl (rankKey c r) (sp + 1) } }.setRank c sp 0).setF
    (MEM.CH_STATE.MIG_STATE c) 3).showMigrating).rankChange c r 1

/-- The registers that a row copied changes. -/
def moveAddrs (c : Nat) : List Nat := [(MEM.CH_MIG_POS.POS c).addr, (MEM.CH_STATE.MIG_PCT c).addr, (MEM.CH_RH.RFM c).addr]

theorem migFlds_apart (c : Nat) : (MEM.CH_MIG_POS.POS c).addr ≠ (MEM.CH_RH.RFM c).addr ∧
    (MEM.CH_MIG_TOTAL.TOTAL c).addr ≠ (MEM.CH_RH.RFM c).addr ∧ (MEM.CH_MIG_POS.POS c).addr ≠ (MEM.CH_STATE.MIG_PCT c).addr ∧
    (MEM.CH_STATE.MIG_FROM c).addr ∉ moveAddrs c ∧ (MEM.CH_STATE.MIG_TO c).addr ∉ moveAddrs c := by
  simp only [moveAddrs, List.mem_cons, List.not_mem_nil, or_false, MEM.CH_MIG_POS.POS, MEM.CH_MIG_TOTAL.TOTAL, MEM.CH_STATE.MIG_PCT,
    MEM.CH_STATE.MIG_FROM, MEM.CH_STATE.MIG_TO, MEM.CH_RH.RFM]
  omega

theorem State.copyMigratedRow_only (s : State) (c : Nat) : onlyRegs [(MEM.CH_RH.RFM c).addr] s { s.copyMigratedRow c with mem := s.mem } := by
  have hcopy := (s.copyMigRow_from c).regs
  unfold State.copyMigratedRow
  generalize s.copyMigRow c = x at *
  exact hcopy

theorem State.copyMigratedRow_fld {g : Fld} (hg : g.addr ≠ (MEM.CH_RH.RFM c).addr) : (s.copyMigratedRow c).fld g = s.fld g :=
  (s.copyMigratedRow_only c).1 g fun hm => hg (List.mem_singleton.mp hm)

theorem State.moveRow_only (s : State) (c : Nat) : onlyRegs (moveAddrs c) s { s.moveRow c with mem := s.mem } := by
  have hcopy := s.copyMigratedRow_only c
  have hcount : onlyRegs (moveAddrs c) (s.copyMigratedRow c) (s.moveRow c) :=
    ((onlyRegs_refl _ _).setF List.mem_cons_self).setF (List.mem_cons_of_mem _ List.mem_cons_self)
  exact hcount.besideMem (hcopy.weaken (by simp [moveAddrs]))

theorem State.moveRow_shows (hpos : pos = s.fld (MEM.CH_MIG_POS.POS c) + 1) (htotal : total = s.fld (MEM.CH_MIG_TOTAL.TOTAL c))
    (hle : pos ≤ total) (hbound : total < 2 ^ 32) : (s.moveRow c).fld (MEM.CH_MIG_POS.POS c) = pos ∧
      (s.moveRow c).fld (MEM.CH_STATE.MIG_PCT c) = 100 * pos / total := by
  obtain ⟨hposRfm, htotalRfm, hposPct, -, -⟩ := migFlds_apart c
  have hpos' := s.copyMigratedRow_fld hposRfm
  have htotal' := s.copyMigratedRow_fld htotalRfm
  have hpct : 100 * pos / total < 2 ^ 7 :=
    (Nat.div_le_of_le_mul (by omega : 100 * pos ≤ total * 100)).trans_lt (by decide)
  unfold State.moveRow State.countRow
  generalize s.copyMigratedRow c = x at *
  constructor
  · refine (State.fld_setF_ne _ _ _ _ hposPct).trans ((State.fld_setF_same _ _ _).trans ?_)
    show (x.fld (MEM.CH_MIG_POS.POS c) + 1) % 2 ^ 32 = pos
    rw [hpos', ← hpos]
    exact Nat.mod_eq_of_lt (by omega)
  · refine (State.fld_setF_same _ _ _).trans ?_
    show (100 * (x.fld (MEM.CH_MIG_POS.POS c) + 1) / x.fld (MEM.CH_MIG_TOTAL.TOTAL c)) % 2 ^ 7 = _
    rw [hpos', htotal', ← hpos, ← htotal]
    exact Nat.mod_eq_of_lt hpct

section
variable (hin : s.inService c = true) (hmig : s.fld (MEM.CH_STATE.MIG_STATE c) = 1) (hawake : s.dev.sleepMem = false)
  (hmoves : s.rowMoves c = true) (hpos : pos = s.fld (MEM.CH_MIG_POS.POS c) + 1) (htotal : total = s.fld (MEM.CH_MIG_TOTAL.TOTAL c))
include hin hmig hawake hmoves hpos htotal

theorem migrationRowDone_eq : exec (.migrationRowDone c) s = .next (if total ≤ pos then
    (s.moveRow c).replaceRank c (s.fld (MEM.CH_STATE.MIG_FROM c)) (s.fld (MEM.CH_STATE.MIG_TO c)) else s.moveRow c) := by
  obtain ⟨hposRfm, htotalRfm, -, hfrom, hto⟩ := migFlds_apart c
  have hfrom' : (s.moveRow c).fld (MEM.CH_STATE.MIG_FROM c) = s.fld (MEM.CH_STATE.MIG_FROM c) := (s.moveRow_only c).1 _ hfrom
  have hto' : (s.moveRow c).fld (MEM.CH_STATE.MIG_TO c) = s.fld (MEM.CH_STATE.MIG_TO c) := (s.moveRow_only c).1 _ hto
  rw [hpos, htotal, ← s.copyMigratedRow_fld hposRfm, ← s.copyMigratedRow_fld htotalRfm, ← hfrom', ← hto']
  refine congrArg Host.Outcome.next ?_
  unfold effMigrationRowDone
  rw [if_pos (by simp [hin, hmig, hawake, hmoves])]
  unfold State.replaceRank State.moveRow State.countRow State.copyMigratedRow
  with_reducible rfl

theorem migrationRowDone_moves (hbound : total < 2 ^ 32) (hmore : pos < total) : ∃ t, exec (.migrationRowDone c) s = .next t ∧
    t.fld (MEM.CH_MIG_POS.POS c) = pos ∧ t.fld (MEM.CH_STATE.MIG_PCT c) = 100 * pos / total ∧
    onlyRegs (moveAddrs c) s { t with mem := s.mem } := by
  obtain ⟨hp, hpct⟩ := State.moveRow_shows hpos htotal hmore.le hbound
  exact ⟨_, (migrationRowDone_eq hin hmig hawake hmoves hpos htotal).trans (congrArg Host.Outcome.next (if_neg (by omega))), hp, hpct,
    s.moveRow_only c⟩

end

theorem State.physRank_replaced {n : Nat} (h : Tbl.get 0 s.mem.repl (rankKey c r) = n + 1) : s.physRank c r = n := by
  unfold State.physRank
  rw [h]

theorem State.replaceRank_shows (s : State) (sp : Nat) (hc : c < 12) (hr : r < 4) : (s.replaceRank c r sp).fld (MEM.CH_STATE.MIG_STATE c) = 3 ∧
    (s.replaceRank c r sp).physRank c r = sp ∧ reported (138 + 4 * c) 1 r 0 (s.replaceRank c r sp) := by
  have hne : (MEM.CH_STATE.MIG_STATE c).addr ≠ MEM.STATUS.MIGRATING.addr := by
    simp only [MEM.CH_STATE.MIG_STATE, MEM.STATUS.MIGRATING]
    omega
  have hbelow : (MEM.CH_STATE.MIG_STATE c).addr < 14 * 524288 := by
    simp only [MEM.CH_STATE.MIG_STATE]
    omega
  refine ⟨?_, State.physRank_replaced ?_, State.raise_reported _ _ 1 r 0 0 (by omega) (by omega) (by omega) (by omega) (by omega)⟩
  · refine (State.raise_below _ _ _ _ _ (by omega) hbelow).trans ((State.fld_setB_ne _ _ _ _ hne).trans ?_)
    exact State.fld_setF_same _ _ _
  · refine (congrArg (fun m : MemSt => Tbl.get 0 m.repl (rankKey c r)) (State.raise_only [] _ _ _ _ _ _ (by omega)).mem_eq).trans ?_
    exact Tbl.get_set_same 0 s.mem.repl (rankKey c r) (sp + 1)

end

/-! ### PHY lock (R268) -/

section
variable {s : State} {c t0 : Nat}

/-- The PHY of a channel out of lock since now. -/
def State.unlock (s : State) (c : Nat) : State :=
  { s with mem := { s.mem with phyLost := Tbl.set none s.mem.phyLost c (some s.now) } }

theorem State.unlock_since (s : State) (c : Nat) : Tbl.get none (s.unlock c).mem.phyLost c = some s.now :=
  Tbl.get_set_same none s.mem.phyLost c (some s.now)

theorem phyLockLost_unlocks (hin : s.inService c = true) (hlock : Tbl.get none s.mem.phyLost c = none) :
    exec (.phyLockLost c) s = .next (s.unlock c) :=
  congrArg Host.Outcome.next (if_pos (by simp [hin, hlock]))

/-- A write to a channel that serves nothing waits. -/
theorem State.writeGranule_waits {a x req pre : Nat} {data : List Byte} {ack : Option (Nat × Nat × Nat)} (hphys : s.phys a = some (c, x))
    (hstops : s.chanStops c = true) : s.writeGranule req a data pre ack = { s with mem := { s.mem with held := s.mem.held ++
      [{ chan := c, req := req, at_ := s.now, addr := a, data := some data, len := data.length, pre := pre, ack := ack }] } } := by
  have hwaits : s.waitsAt req a data.length = some c := by
    unfold State.waitsAt
    rw [hphys]
    exact if_pos (by simp [State.stops, hstops])
  unfold State.writeGranule
  rw [hwaits]

theorem State.unlock_stops (s : State) (c : Nat) : (s.unlock c).chanStops c = true := by
  unfold State.chanStops
  rw [s.unlock_since c]
  rfl

section
variable (hin : s.inService c = true) (hlost : Tbl.get none s.mem.phyLost c = some t0)
include hin hlost

theorem phyLockRegained_eq : exec (.phyLockRegained c) s = .next (if s.now ≤ t0 + 10 * cyclesPerUs then
    State.serveWaiting s.mem.held.length { s with mem := { s.mem with phyLost := Tbl.set none s.mem.phyLost c none } } c true else s) := by
  refine congrArg Host.Outcome.next ?_
  unfold effPhyLockRegained
  rw [hlost]
  simp only [hin, true_and]

theorem channelLost_eq : exec (.channelLost c) s = .next (if t0 + 10 * cyclesPerUs < s.now then s.loseChannel c 0 else s) := by
  refine congrArg Host.Outcome.next ?_
  unfold effChannelLost
  rw [hlost]
  simp only [hin, true_and]

end

end

/-! ### Channel loss (R251, R268) -/

/-- A number without a bit holds every other. -/
theorem bitOf_withoutBit (v i j : Nat) : bitOf (withoutBit v i) j = (decide (j ≠ i) && bitOf v j) := by
  unfold withoutBit
  split
  · next h =>
    have hodd : v / 2 ^ i % 2 = 1 := by simpa [bitOf] using h
    have hle : 2 ^ i ≤ v := by
      by_contra hlt
      rw [Nat.div_eq_of_lt (by omega)] at hodd
      omega
    have hbit : bitOf (v - 2 ^ i) i = false := by
      have hdiv : (v - 2 ^ i) / 2 ^ i = v / 2 ^ i - 1 := by
        simpa using Nat.sub_mul_div v (2 ^ i) 1
      simp only [bitOf, hdiv, beq_eq_false_iff_ne]
      omega
    have hadd := bitOf_add_two_pow (v - 2 ^ i) i j hbit
    rw [Nat.sub_add_cancel hle] at hadd
    by_cases hj : j = i
    · subst hj
      simp [hbit]
    · simp [hadd, hj]
  · next h =>
    by_cases hj : j = i
    · subst hj
      simpa using h
    · simp [hj]

section
variable {s : State} {c kind : Nat}

/-- What waits on a channel dropped: the requests of no other, and no byte. -/
theorem State.dropWaiting_eq (s : State) (c : Nat) : ∃ p o, s.dropWaiting c =
    { s with mem := { s.mem with held := s.mem.held.filter (fun x => x.chan != c), phyLost := p }, out := o } := by
  unfold State.dropWaiting
  refine ⟨Tbl.set none s.mem.phyLost c none, ?_⟩
  refine List.foldlRecOn (motive := fun u : State => ∃ o, u = { s with mem := { s.mem with
    held := s.mem.held.filter (fun x => x.chan != c), phyLost := Tbl.set none s.mem.phyLost c none }, out := o }) _ _ ⟨_, rfl⟩ fun u hu x _ => ?_
  obtain ⟨o, rfl⟩ := hu
  split
  · exact ⟨o, rfl⟩
  · split <;> exact ⟨_, rfl⟩

/-- The records, the blocks gathered and the requests that a channel lost takes with it (R265, R268). -/
def State.dropChannel (s : State) (c : Nat) : State :=
  ((s.poisonRecs fun r => (s.recRanges r).any (s.rangeOn c)).spoilGathered (s.rangeOn c)).dropWaiting c

theorem State.dropChannel_eq (s : State) (c : Nat) : ∃ q r p o, s.dropChannel c = { s with
    seq := q, acq := r, mem := { s.mem with held := s.mem.held.filter (fun x => x.chan != c), phyLost := p }, out := o } := by
  obtain ⟨q, r, hspoil⟩ := s.spoilRecs_eq (fun r => (s.recRanges r).any (s.rangeOn c)) (s.rangeOn c)
  obtain ⟨p, o, hdrop⟩ := State.dropWaiting_eq { s with seq := q, acq := r } c
  refine ⟨q, r, p, o, ?_⟩
  unfold State.dropChannel
  rw [hspoil]
  exact hdrop

/-- A channel out of service for good. -/
def State.leaveService (s : State) (c : Nat) : State :=
  (s.setF MEM.STATUS.IN_SERVICE (withoutBit (s.fld MEM.STATUS.IN_SERVICE) c)).setF (MEM.CH_STATE.STATE c) 4

theorem State.leaveService_only (s : State) (c : Nat) :
    onlyRegs [MEM.STATUS.IN_SERVICE.addr, (MEM.CH_STATE.STATE c).addr] s (s.leaveService c) :=
  ((onlyRegs_refl _ _).setF (by simp)).setF (by simp)

/-- What runs on a channel stopped: its migration, its make-up bursts and its retraining pause; its rows are closed. -/
def State.haltChannel (s : State) (c : Nat) : State :=
  let moving := s.fld (MEM.CH_STATE.MIG_STATE c) == 1 || s.fld (MEM.CH_STATE.MIG_STATE c) == 2
  let s := (if moving then s.setF (MEM.CH_STATE.MIG_STATE c) 0 else s).showMigrating
  { s with mem := { s.mem with pause := Tbl.set false s.mem.pause c false
                               burst := s.mem.burst.filter (fun e => e.1 / 4 != c)
                               open_ := s.mem.open_.filter (fun e => e.1 / 256 != c)
                               stuck := Tbl.set false s.mem.stuck c false }
           seq := { s.seq with training := withoutBit s.seq.training c } }

/-- The channel lost and its fault raised, before the shares and guarantees are judged again. -/
def State.loseService (s : State) (c kind : Nat) : State :=
  ((((s.dropChannel c).leaveService c).rehome c).haltChannel c).raise (139 + 4 * c) kind 0 0 0

theorem State.loseChannel_eq (s : State) (c kind : Nat) : s.loseChannel c kind = (((s.loseService c kind).recompute c).settle).judgeService := by
  unfold State.loseChannel State.loseService State.haltChannel State.leaveService State.dropChannel
  with_reducible rfl

/-- The registers of the mapping that the loss of a channel changes. -/
def rehomeAddrs : List Nat := [MEM.STATUS.REHOMED.addr, MEM.STATUS.REHOMED_WAY.addr, MEM.STATUS.UNMAPPED.addr]

theorem State.rehome_only (s : State) (c : Nat) : onlyRegs rehomeAddrs s (s.rehome c) := by
  unfold State.rehome
  dsimp only
  split
  · exact ((onlyRegs_refl _ s).setF (by simp [rehomeAddrs])).setF (by simp [rehomeAddrs])
  · exact (onlyRegs_refl _ s).setF (by simp [rehomeAddrs])

/-- The first re-homing of a way, where the reserves suffice. -/
theorem State.rehome_shows (htwo : 2 ≤ s.mem.ways.length) (hfits : s.fld MEM.MAPG.MAPG ≤ s.fld MEM.RESG.RESG * (s.mem.ways.length - 1))
    (hfirst : s.bit MEM.STATUS.REHOMED = false) (hc : c ∈ s.mem.ways) (hlen : s.mem.ways.length ≤ 12) :
    (s.rehome c).bit MEM.STATUS.REHOMED = true ∧ s.mem.ways[(s.rehome c).fld MEM.STATUS.REHOMED_WAY]? = some c := by
  have hlt : s.mem.ways.findIdx (fun x => x == c) < s.mem.ways.length := List.findIdx_lt_length_of_exists ⟨c, hc, by simp⟩
  have heq : s.rehome c = (s.setF MEM.STATUS.REHOMED 1).setF MEM.STATUS.REHOMED_WAY (s.mem.ways.findIdx fun x => x == c) :=
    if_pos (by simp [htwo, hfits, hfirst])
  have hway : (s.rehome c).fld MEM.STATUS.REHOMED_WAY = s.mem.ways.findIdx fun x => x == c := by
    rw [heq, State.fld_setF_same]
    exact Nat.mod_eq_of_lt (show _ < 2 ^ 4 by omega)
  refine ⟨?_, ?_⟩
  · rw [heq, State.bit, State.fld_setF_ne _ _ _ _ (by decide), State.fld_setF_same]
    rfl
  · rw [hway, List.getElem?_eq_getElem hlt]
    exact congrArg some (beq_iff_eq.mp (List.findIdx_getElem (w := hlt)))

theorem State.haltChannel_keeps (s : State) (c : Nat) : (s.haltChannel c).mem.held = s.mem.held ∧ (s.haltChannel c).mem.bytes = s.mem.bytes ∧
    ∀ g : Fld, g.addr ∉ [(MEM.CH_STATE.MIG_STATE c).addr, MEM.STATUS.MIGRATING.addr] → (s.haltChannel c).fld g = s.fld g := by
  have honly : onlyRegs [(MEM.CH_STATE.MIG_STATE c).addr, MEM.STATUS.MIGRATING.addr] s
      (if (s.fld (MEM.CH_STATE.MIG_STATE c) == 1 || s.fld (MEM.CH_STATE.MIG_STATE c) == 2) = true then s.setF (MEM.CH_STATE.MIG_STATE c) 0
        else s).showMigrating := by
    refine onlyRegs.setB ?_ (by simp)
    split
    · exact onlyRegs_setF _ s _ 0 List.mem_cons_self
    · exact onlyRegs_refl _ s
  unfold State.haltChannel
  dsimp only
  generalize State.showMigrating _ = x at *
  exact ⟨congrArg MemSt.held honly.mem_eq, congrArg MemSt.bytes honly.mem_eq, honly.1⟩

/-- What the loss of a channel shows, in the registers that neither its mapping nor what ran on it holds. -/
theorem State.loseService_fld (s : State) (hc : c < 12) (kind : Nat) {g : Fld} (hg : g.addr < 14 * 524288)
    (hrun : g.addr ∉ [(MEM.CH_STATE.MIG_STATE c).addr, MEM.STATUS.MIGRATING.addr]) :
    (s.loseService c kind).fld g = (((s.dropChannel c).leaveService c).rehome c).fld g :=
  (State.raise_below _ _ _ _ _ (by omega) hg).trans ((State.haltChannel_keeps _ c).2.2 g hrun)

theorem State.loseService_inService (s : State) (hc : c < 12) (kind : Nat) {d : Nat} (hd : d < 12) :
    (s.loseService c kind).inService d = (decide (d ≠ c) && s.inService d) := by
  have hrun : MEM.STATUS.IN_SERVICE.addr ∉ [(MEM.CH_STATE.MIG_STATE c).addr, MEM.STATUS.MIGRATING.addr] := by
    simp only [List.mem_cons, List.not_mem_nil, or_false, MEM.CH_STATE.MIG_STATE, MEM.STATUS.MIGRATING, MEM.STATUS.IN_SERVICE]
    omega
  have hne : MEM.STATUS.IN_SERVICE.addr ≠ (MEM.CH_STATE.STATE c).addr := by
    simp only [MEM.CH_STATE.STATE, MEM.STATUS.IN_SERVICE]
    omega
  obtain ⟨q, r, p, o, hdrop⟩ := s.dropChannel_eq c
  unfold State.inService
  rw [State.loseService_fld s hc kind (by decide) hrun, (State.rehome_only _ c).fld_eq (by decide), State.leaveService,
    State.fld_setF_ne _ _ _ _ hne, State.fld_setF_same]
  refine (bitOf_mod _ 12 d hd).trans ((bitOf_withoutBit _ c d).trans ?_)
  rw [hdrop]
  rfl

theorem State.loseService_lost (s : State) (hc : c < 12) (kind : Nat) : (s.loseService c kind).fld (MEM.CH_STATE.STATE c) = 4 := by
  have hrun : (MEM.CH_STATE.STATE c).addr ∉ [(MEM.CH_STATE.MIG_STATE c).addr, MEM.STATUS.MIGRATING.addr] ∧
      (MEM.CH_STATE.STATE c).addr ∉ rehomeAddrs ∧ (MEM.CH_STATE.STATE c).addr < 14 * 524288 := by
    simp only [rehomeAddrs, List.mem_cons, List.not_mem_nil, or_false, MEM.CH_STATE.MIG_STATE, MEM.STATUS.MIGRATING, MEM.CH_STATE.STATE,
      MEM.STATUS.REHOMED, MEM.STATUS.REHOMED_WAY, MEM.STATUS.UNMAPPED]
    omega
  rw [State.loseService_fld s hc kind hrun.2.2 hrun.1, (State.rehome_only _ c).fld_eq hrun.2.1]
  exact State.fld_setF_same _ _ _

theorem State.loseService_mem (s : State) (hc : c < 12) (kind : Nat) :
    (s.loseService c kind).mem.held = s.mem.held.filter (fun x => x.chan != c) ∧ (s.loseService c kind).mem.bytes = s.mem.bytes := by
  obtain ⟨q, r, p, o, hdrop⟩ := s.dropChannel_eq c
  have hmap := (State.rehome_only ((s.dropChannel c).leaveService c) c).mem_eq
  have hheld : (s.dropChannel c).mem.held = s.mem.held.filter (fun x => x.chan != c) := by rw [hdrop]
  have hbytes : (s.dropChannel c).mem.bytes = s.mem.bytes := by rw [hdrop]
  have hleave := ((s.dropChannel c).leaveService_only c).mem_eq
  unfold State.loseService
  generalize (s.dropChannel c).leaveService c = w at *
  generalize w.rehome c = x at *
  obtain ⟨hheld', hbytes', -⟩ := x.haltChannel_keeps c
  have hmem := (State.raise_only [] (x.haltChannel c) (139 + 4 * c) kind 0 0 0 (by omega)).mem_eq
  generalize x.haltChannel c = y at *
  rw [hmem, hheld', hbytes', hmap, hleave]
  exact ⟨hheld, hbytes⟩

theorem State.loseService_rehomes (hc : c < 12) (kind : Nat) (htwo : 2 ≤ s.mem.ways.length)
    (hfits : s.fld MEM.MAPG.MAPG ≤ s.fld MEM.RESG.RESG * (s.mem.ways.length - 1)) (hfirst : s.bit MEM.STATUS.REHOMED = false)
    (hway : c ∈ s.mem.ways) (hlen : s.mem.ways.length ≤ 12) : (s.loseService c kind).bit MEM.STATUS.REHOMED = true ∧
      s.mem.ways[(s.loseService c kind).fld MEM.STATUS.REHOMED_WAY]? = some c := by
  have hrun : MEM.STATUS.REHOMED.addr ∉ [(MEM.CH_STATE.MIG_STATE c).addr, MEM.STATUS.MIGRATING.addr] ∧
      MEM.STATUS.REHOMED_WAY.addr ∉ [(MEM.CH_STATE.MIG_STATE c).addr, MEM.STATUS.MIGRATING.addr] := by
    simp only [List.mem_cons, List.not_mem_nil, or_false, MEM.CH_STATE.MIG_STATE, MEM.STATUS.MIGRATING, MEM.STATUS.REHOMED,
      MEM.STATUS.REHOMED_WAY]
    omega
  obtain ⟨q, r, p, o, hdrop⟩ := s.dropChannel_eq c
  have hleave := (s.dropChannel c).leaveService_only c
  have hfld : ∀ g ∈ [MEM.MAPG.MAPG, MEM.RESG.RESG, MEM.STATUS.REHOMED], ((s.dropChannel c).leaveService c).fld g = s.fld g := by
    intro g hg
    rw [hleave.fld_eq, hdrop]
    · rfl
    · simp only [List.mem_cons, List.not_mem_nil, or_false, MEM.CH_STATE.STATE, MEM.STATUS.IN_SERVICE]
      simp only [List.mem_cons, List.not_mem_nil, or_false] at hg
      rcases hg with rfl | rfl | rfl <;> simp only [MEM.MAPG.MAPG, MEM.RESG.RESG, MEM.STATUS.REHOMED] <;> omega
  have hways : ((s.dropChannel c).leaveService c).mem.ways = s.mem.ways := by
    rw [hleave.mem_eq, hdrop]
  unfold State.bit
  rw [State.loseService_fld s hc kind (by decide) hrun.1, State.loseService_fld s hc kind (by decide) hrun.2, ← hways]
  generalize (s.dropChannel c).leaveService c = x at *
  refine State.rehome_shows (by rw [hways]; exact htwo) ?_ ?_ (by rw [hways]; exact hway) (by rw [hways]; exact hlen)
  · rw [hfld _ (by simp), hfld _ (by simp), hways]
    exact hfits
  · rw [State.bit, hfld _ (by simp)]
    exact hfirst

end

/-- Settles O38: each error by what it leaves, lock by what waits for it, and a loss by what it shows before the shares are judged again. -/
theorem errorsAndLockFollowTheirRules : Obligations.ErrorsAndLockFollowTheirRules := by
  refine ⟨fun s c r hc hr => ⟨fun l hl hrank => correctedError_counts hc hr hrank hl,
      fun a b => uncorrectableError_shows hc hr,
      fun l n hl hn hrank => ⟨caParityError_counts hc hr hrank hl hn, caParityError_fails hc hr hrank hl hn,
        caParityError_loses hr hrank hl hn⟩,
      fun pos total hin hmig hawake hmoves hpos htotal hbound =>
        ⟨migrationRowDone_moves hin hmig hawake hmoves hpos htotal hbound, fun hlast hfrom => ?_⟩⟩,
    fun s c hc => ⟨fun hin hlock => ⟨_, phyLockLost_unlocks hin hlock, s.unlock_since c, rfl, fun a x data req pre ack hphys => ?_⟩,
      fun t0 hin hlost => ⟨fun hin10 => ?_, fun hlate => ?_⟩, fun kind hk => ⟨s.loseService c kind, s.loseChannel_eq c kind, ?_⟩⟩⟩
  · obtain ⟨hstate, hplace, hrep⟩ := (s.moveRow c).replaceRank_shows (s.fld (MEM.CH_STATE.MIG_TO c)) hc hr
    refine ⟨_, (migrationRowDone_eq hin hmig hawake hmoves hpos htotal).trans (congrArg Host.Outcome.next (if_pos hlast.ge)), ?_⟩
    rw [hfrom]
    exact ⟨hstate, hplace, hrep⟩
  · rw [State.writeGranule_waits (s := s.unlock c) hphys (s.unlock_stops c)]
    exact ⟨rfl, rfl⟩
  · exact ⟨(phyLockRegained_eq hin hlost).trans (congrArg Host.Outcome.next (if_pos hin10)),
      (channelLost_eq hin hlost).trans (congrArg Host.Outcome.next (if_neg (by omega)))⟩
  · exact ⟨(channelLost_eq hin hlost).trans (congrArg Host.Outcome.next (if_pos hlate)),
      (phyLockRegained_eq hin hlost).trans (congrArg Host.Outcome.next (if_neg (by omega)))⟩
  · obtain ⟨hheld, hbytes⟩ := s.loseService_mem hc kind
    refine ⟨?_, s.loseService_lost hc kind, State.raise_reported _ _ kind 0 0 0 (by omega) (by omega) (by omega) (by omega) (by omega),
      fun d hd hne => ?_, fun x hx => ?_, hbytes, State.loseService_rehomes hc kind⟩
    · rw [State.loseService_inService s hc kind hc]
      simp
    · rw [State.loseService_inService s hc kind hd]
      simp [hne]
    · rw [hheld] at hx
      simpa using (List.mem_filter.mp hx).2

end Sys2Proof.Machine
end

section
/-!
SUPPORT. The end of DRAM training (R248): how each populated channel is judged, and the training sequencer with it.
-/

namespace Sys2Proof.Machine

/-! ### What the judging of channels leaves (R248) -/

/-- The registers that show how channel `c` came out of its training. -/
def trainAddrs (c : Nat) : List Nat := [(MEM.CH_STATE.RANK c).addr, (MEM.CH_STATE.STATE c).addr]

/-- What the judging of the channels `l` leaves: the sequencers, and every register that neither shows one of those channels nor reports. -/
structure judgedFrom (l : List Nat) (s t : State) : Prop where
  fld : ∀ g : Fld, (∀ c ∈ l, g.addr ∉ trainAddrs c) → isReport g = false → t.fld g = s.fld g
  seq : t.seq = s.seq

section
variable {s t u : State} {c : Nat} {l : List Nat}

theorem judgedFrom.refl (l : List Nat) (s : State) : judgedFrom l s s := ⟨fun _ _ _ => rfl, rfl⟩

theorem judgedFrom.trans {m : List Nat} (h : judgedFrom l s t) (k : judgedFrom m t u) : judgedFrom (l ++ m) s u :=
  ⟨fun g hg hr => (k.fld g (fun c hc => hg c (List.mem_append_right l hc)) hr).trans
    (h.fld g (fun c hc => hg c (List.mem_append_left m hc)) hr), k.seq.trans h.seq⟩

theorem judgedFrom.setRank (h : judgedFrom [c] s t) (r v : Nat) : judgedFrom [c] s (t.setRank c r v) :=
  ⟨fun g hg hr => (t.fld_setF_ne (MEM.CH_STATE.RANK c) g _ fun e => hg c List.mem_cons_self (e ▸ List.mem_cons_self)).trans
    (h.fld g hg hr), h.seq⟩

theorem judgedFrom.setState (h : judgedFrom [c] s t) (v : Nat) : judgedFrom [c] s (t.setF (MEM.CH_STATE.STATE c) v) :=
  ⟨fun g hg hr => (t.fld_setF_ne (MEM.CH_STATE.STATE c) g v fun e =>
    hg c List.mem_cons_self (e ▸ List.mem_cons_of_mem _ List.mem_cons_self)).trans (h.fld g hg hr), h.seq⟩

theorem judgedFrom.withMem (h : judgedFrom l s t) (m : MemSt) : judgedFrom l s { t with mem := m } := ⟨h.fld, h.seq⟩

theorem judgedFrom.raise {n k i a a2 : Nat} (hn : n < 256) (h : judgedFrom l s t) : judgedFrom l s (t.raise n k i a a2) :=
  ⟨fun g hg hr => (t.raise_fld k i a a2 hn hr).trans (h.fld g hg hr), (State.raise_only [] t n k i a a2 hn).seq_eq.trans h.seq⟩

theorem judgedFrom.ite {p : Prop} {_ : Decidable p} (h : judgedFrom l s t) (k : judgedFrom l s u) : judgedFrom l s (if p then t else u) := by
  split
  · exact h
  · exact k

theorem judgedFrom.excludeChan (hc : c < 12) (h : judgedFrom [c] s t) : judgedFrom [c] s (t.excludeChan c) :=
  h.ite ((h.setState 3).raise (by omega))

theorem chanState_apart {d : Nat} (h : d ≠ c) : (MEM.CH_STATE.STATE d).addr ∉ trainAddrs c := by
  simp only [trainAddrs, List.mem_cons, List.not_mem_nil, or_false, MEM.CH_STATE.STATE, MEM.CH_STATE.RANK]
  omega

theorem chanState_below (hc : c < 12) : (MEM.CH_STATE.STATE c).addr < 14 * 524288 := by
  simp only [MEM.CH_STATE.STATE]
  omega

theorem judgedFrom.state_eq (h : judgedFrom l s t) (hc : c < 12) (hl : c ∉ l) :
    t.fld (MEM.CH_STATE.STATE c) = s.fld (MEM.CH_STATE.STATE c) :=
  h.fld _ (fun _ hd => chanState_apart fun e => hl (e ▸ hd)) (isReport_below (chanState_below hc))

/-- What the memory is made of. -/
theorem judgedFrom.cfg_eq (h : judgedFrom l s t) {g : Fld} (hg : g.addr < 8 * 0x91000) : t.fld g = s.fld g := by
  refine h.fld g (fun c _ => ?_) (isReport_below (by omega))
  simp only [trainAddrs, List.mem_cons, List.not_mem_nil, or_false, MEM.CH_STATE.STATE, MEM.CH_STATE.RANK]
  omega

theorem State.excludeChan_excludes (s : State) (hc : c < 12) : (s.excludeChan c).fld (MEM.CH_STATE.STATE c) = 3 := by
  unfold State.excludeChan
  split
  · assumption
  · exact (State.raise_below _ _ _ _ _ (by omega) (chanState_below hc)).trans (State.fld_setF_same _ _ _)

end

/-! ### One channel judged (R248) -/

section
variable {s t : State} {c : Nat} {rf : List (Nat × Nat)} {sf : List Nat}

/-- The ranks of channel `c` that failed, of those its data lies in. -/
def State.badRanks (s : State) (rf : List (Nat × Nat)) (c : Nat) : List Nat := (List.range s.liveRanks).filter fun r => rf.contains (c, r)

/-- The channel has a spare, and the spare failed. -/
def State.spareBad (s : State) (rf : List (Nat × Nat)) (c : Nat) : Bool := s.bit MEM.CFG.SPARE && rf.contains (c, s.spareRank)

/-- A channel serves after its training: its subchannels passed with the training sequencer there, and of its ranks at most one failed, for
which it has a spare that passed. -/
def State.trainsWell (s : State) (rf : List (Nat × Nat)) (sf : List Nat) (c : Nat) : Prop :=
  sf.contains c = false ∧ (s.sunit 68).st ≠ 3 ∧ (s.badRanks rf c = [] ∨
    (s.badRanks rf c).length = 1 ∧ s.bit MEM.CFG.SPARE = true ∧ rf.contains (c, s.spareRank) = false)

/-- A channel's spare used up. -/
def State.spendSpare (s : State) (c : Nat) : State := { s with mem := { s.mem with spareUsed := Tbl.set false s.mem.spareUsed c true } }

/-- A channel's spare marked before its ranks are judged: failed, or free to take a rank's place. -/
def State.markSpare (s : State) (rf : List (Nat × Nat)) (c : Nat) : State :=
  let t := if s.bit MEM.CFG.SPARE then s.setRank c s.spareRank (if s.spareBad rf c then 2 else 3) else s
  if s.spareBad rf c then t.spendSpare c else t

/-- The spare in the place of a rank that failed its training. -/
def State.spareFor (s : State) (c r : Nat) : State :=
  let s := (s.setRank c r 2).setRank c s.spareRank 0
  State.spendSpare { s with mem := { s.mem with repl := Tbl.set 0 s.mem.repl (rankKey c r) (s.spareRank + 1) } } c

/-- A channel judged by its ranks that failed, `free` when its spare may take the place of one. -/
def State.judgeRanks (s : State) (c : Nat) (bad : List Nat) (free : Bool) : State :=
  match bad with
  | [] => s.setF (MEM.CH_STATE.STATE c) 2
  | [r] => if free then (s.spareFor c r).setF (MEM.CH_STATE.STATE c) 2 else s.excludeChan c
  | _ => s.excludeChan c

theorem State.trainChan_eq (s : State) (rf : List (Nat × Nat)) (sf : List Nat) (c : Nat) : s.trainChan rf sf c =
    if (s.markSpare rf c).fld (MEM.CH_STATE.STATE c) = 3 then s.markSpare rf c
    else if (sf.contains c || ((s.markSpare rf c).sunit 68).st == 3) = true then (s.markSpare rf c).excludeChan c
    else (s.markSpare rf c).judgeRanks c (s.badRanks rf c) (s.bit MEM.CFG.SPARE && !s.spareBad rf c) := rfl

theorem State.markSpare_judged (s : State) (rf : List (Nat × Nat)) (c : Nat) : judgedFrom [c] s (s.markSpare rf c) := by
  have hmark : judgedFrom [c] s (if s.bit MEM.CFG.SPARE then s.setRank c s.spareRank (if s.spareBad rf c then 2 else 3) else s) :=
    judgedFrom.ite ((judgedFrom.refl _ s).setRank _ _) (judgedFrom.refl _ s)
  exact judgedFrom.ite (hmark.withMem _) hmark

theorem State.markSpare_state (s : State) (rf : List (Nat × Nat)) (c : Nat) :
    (s.markSpare rf c).fld (MEM.CH_STATE.STATE c) = s.fld (MEM.CH_STATE.STATE c) := by
  have hset : ∀ v, (s.setRank c s.spareRank v).fld (MEM.CH_STATE.STATE c) = s.fld (MEM.CH_STATE.STATE c) := fun v =>
    State.fld_setF_ne _ _ _ _ (by simp only [MEM.CH_STATE.STATE, MEM.CH_STATE.RANK]; omega)
  have hmark : (if s.bit MEM.CFG.SPARE then s.setRank c s.spareRank (if s.spareBad rf c then 2 else 3) else s).fld (MEM.CH_STATE.STATE c) =
      s.fld (MEM.CH_STATE.STATE c) := by
    split
    · exact hset _
    · rfl
  unfold State.markSpare
  generalize (if s.bit MEM.CFG.SPARE then s.setRank c s.spareRank (if s.spareBad rf c then 2 else 3) else s) = t at *
  dsimp only
  split
  · exact hmark
  · exact hmark

theorem judgedFrom.judgeRanks (hc : c < 12) (h : judgedFrom [c] s t) (bad : List Nat) (free : Bool) :
    judgedFrom [c] s (t.judgeRanks c bad free) := by
  unfold State.judgeRanks
  split
  · exact h.setState 2
  · exact judgedFrom.ite ((((h.setRank _ _).setRank _ _).withMem _).setState 2) (h.excludeChan hc)
  · exact h.excludeChan hc

theorem State.judgeRanks_state (s : State) (hc : c < 12) (bad : List Nat) (free : Bool) :
    (s.judgeRanks c bad free).fld (MEM.CH_STATE.STATE c) = if bad = [] ∨ bad.length = 1 ∧ free = true then 2 else 3 := by
  have hset : ∀ x : State, (x.setF (MEM.CH_STATE.STATE c) 2).fld (MEM.CH_STATE.STATE c) = 2 := fun x => State.fld_setF_same x _ 2
  have hout := s.excludeChan_excludes hc
  match bad, free with
  | [], _ => exact (hset _).trans (by simp)
  | [r], true => exact (hset _).trans (by simp)
  | [r], false => exact hout.trans (by simp)
  | _ :: _ :: _, _ => exact hout.trans (by simp)

/-- A channel's judgement leaves every other channel's state. -/
theorem State.trainChan_judged (s : State) (hc : c < 12) : judgedFrom [c] s (s.trainChan rf sf c) := by
  have hmark := s.markSpare_judged rf c
  rw [State.trainChan_eq]
  exact judgedFrom.ite hmark (judgedFrom.ite (hmark.excludeChan hc) (hmark.judgeRanks hc _ _))

open Classical in
theorem State.trainChan_state (hc : c < 12) (hnew : s.fld (MEM.CH_STATE.STATE c) ≠ 3) :
    (s.trainChan rf sf c).fld (MEM.CH_STATE.STATE c) = if s.trainsWell rf sf c then 2 else 3 := by
  have hunit : (s.markSpare rf c).sunit 68 = s.sunit 68 := by
    unfold State.sunit
    rw [(s.markSpare_judged rf c).seq]
  rw [State.trainChan_eq, if_neg (by rw [s.markSpare_state]; exact hnew), hunit]
  by_cases hout : sf.contains c = true ∨ (s.sunit 68).st = 3
  · rw [if_pos (by simpa using hout), State.excludeChan_excludes _ hc, if_neg]
    rintro ⟨hsub, hseq, -⟩
    rcases hout with h | h
    · exact Bool.noConfusion (hsub.symm.trans h)
    · exact hseq h
  · rw [if_neg (by simpa using hout), State.judgeRanks_state _ hc]
    obtain ⟨hsub, hseq⟩ := not_or.mp hout
    rw [Bool.not_eq_true] at hsub
    have hfree : (s.bit MEM.CFG.SPARE && !s.spareBad rf c) = true ↔ s.bit MEM.CFG.SPARE = true ∧ rf.contains (c, s.spareRank) = false := by
      cases h : s.bit MEM.CFG.SPARE <;> simp [State.spareBad, h]
    have hiff : s.trainsWell rf sf c ↔
        s.badRanks rf c = [] ∨ (s.badRanks rf c).length = 1 ∧ (s.bit MEM.CFG.SPARE && !s.spareBad rf c) = true := by
      rw [hfree, State.trainsWell]
      exact ⟨fun h => h.2.2, fun h => ⟨hsub, hseq, h⟩⟩
    by_cases hw : s.trainsWell rf sf c
    · rw [if_pos hw, if_pos (hiff.mp hw)]
    · rw [if_neg hw, if_neg fun h => hw (hiff.mpr h)]

end

/-! ### Every populated channel judged (R248) -/

section
variable {s t : State} {c : Nat} {l : List Nat} {rf : List (Nat × Nat)} {sf : List Nat}

/-- The channels `l` judged. -/
def State.trainChans (s : State) (rf : List (Nat × Nat)) (sf l : List Nat) : State :=
  l.foldl (fun (s : State) c => s.trainChan rf sf c) s

theorem State.trainChans_judged (s : State) (hl : ∀ c ∈ l, c < 12) : judgedFrom l s (s.trainChans rf sf l) := by
  induction l generalizing s with
  | nil => exact judgedFrom.refl _ s
  | cons d l ih =>
    exact judgedFrom.trans (s.trainChan_judged (hl d List.mem_cons_self)) (ih _ fun c hc => hl c (List.mem_cons_of_mem d hc))

theorem judgedFrom.trainsWell_iff (h : judgedFrom l s t) : t.trainsWell rf sf c ↔ s.trainsWell rf sf c := by
  have hranks := h.cfg_eq (g := MEM.CFG.RANKS) (by decide)
  have hspare := h.cfg_eq (g := MEM.CFG.SPARE) (by decide)
  simp only [State.trainsWell, State.badRanks, State.sunit, State.liveRanks, State.spareRank, State.bit, h.seq, hranks, hspare]

open Classical in
theorem State.trainChans_state (hl : l.Nodup) (hlt : ∀ c ∈ l, c < 12) (hc : c ∈ l) (hnew : s.fld (MEM.CH_STATE.STATE c) ≠ 3) :
    (s.trainChans rf sf l).fld (MEM.CH_STATE.STATE c) = if s.trainsWell rf sf c then 2 else 3 := by
  induction l generalizing s with
  | nil => exact absurd hc List.not_mem_nil
  | cons d l ih =>
    obtain ⟨hdl, hl'⟩ := List.nodup_cons.mp hl
    have hd : d < 12 := hlt d List.mem_cons_self
    have hlt' : ∀ c ∈ l, c < 12 := fun c hc => hlt c (List.mem_cons_of_mem d hc)
    have hfirst : judgedFrom [d] s (s.trainChan rf sf d) := s.trainChan_judged hd
    rcases List.mem_cons.mp hc with rfl | hc
    · exact ((State.trainChans_judged (s.trainChan rf sf c) hlt').state_eq hd hdl).trans (State.trainChan_state hd hnew)
    · have hne : c ∉ [d] := fun h => hdl (List.mem_singleton.mp h ▸ hc)
      have hstate := hfirst.state_eq (hlt' c hc) hne
      refine (ih (s := s.trainChan rf sf d) hl' hlt' hc (by rw [hstate]; exact hnew)).trans ?_
      by_cases hw : s.trainsWell rf sf c
      · rw [if_pos hw, if_pos (hfirst.trainsWell_iff.mpr hw)]
      · rw [if_neg hw, if_neg fun h => hw (hfirst.trainsWell_iff.mp h)]

theorem State.sunit_setUnit_same (s : State) (n : Nat) (x : SeqUnit) : (s.setUnit n x).sunit n = x := Tbl.get_set_same ({} : SeqUnit) s.seq.units n x

/-- The training sequencer waits for its next request, unless it is withdrawn. -/
def State.parkTraining (s : State) : State := if (s.sunit 68).st = 3 then s else s.setUnit 68 { s.sunit 68 with st := 4 }

theorem State.parkTraining_st (s : State) : (s.parkTraining.sunit 68).st = if (s.sunit 68).st = 3 then 3 else 4 := by
  unfold State.parkTraining
  split
  · assumption
  · rw [State.sunit_setUnit_same]

theorem State.parkTraining_fld (s : State) (g : Fld) : s.parkTraining.fld g = s.fld g := by
  unfold State.parkTraining
  split <;> rfl

theorem State.takeTraining_eq (s : State) (rf : List (Nat × Nat)) (sf : List Nat) : s.takeTraining rf sf =
    let t := (s.trainChans rf sf ((List.range 12).filter s.populated)).parkTraining
    { t with dev := { t.dev with trained := true, training := none } } := rfl

theorem takeTraining_judges (s : State) (rf : List (Nat × Nat)) (sf : List Nat) : (s.takeTraining rf sf).dev.trained = true ∧
    ((s.takeTraining rf sf).sunit 68).st = (if (s.sunit 68).st = 3 then 3 else 4) ∧
    ∀ c < 12, s.populated c = true → s.fld (MEM.CH_STATE.STATE c) ≠ 3 →
      ∀ bad, bad = (List.range s.liveRanks).filter (fun r => rf.contains (c, r)) →
      (s.takeTraining rf sf).fld (MEM.CH_STATE.STATE c) = if sf.contains c = false ∧ (s.sunit 68).st ≠ 3 ∧
        (bad = [] ∨ bad.length = 1 ∧ s.bit MEM.CFG.SPARE = true ∧ rf.contains (c, s.spareRank) = false) then 2 else 3 := by
  have hlt : ∀ c ∈ (List.range 12).filter s.populated, c < 12 := fun c hc => List.mem_range.mp (List.mem_of_mem_filter hc)
  have hjudged : judgedFrom _ s (s.trainChans rf sf ((List.range 12).filter s.populated)) := s.trainChans_judged hlt
  have hunit : (s.trainChans rf sf ((List.range 12).filter s.populated)).sunit 68 = s.sunit 68 := by
    unfold State.sunit
    rw [hjudged.seq]
  refine ⟨rfl, ?_, fun c hc hpop hnew bad hbad => ?_⟩
  · rw [State.takeTraining_eq, ← hunit]
    exact State.parkTraining_st _
  · have hmem : c ∈ (List.range 12).filter s.populated := List.mem_filter.mpr ⟨List.mem_range.mpr hc, hpop⟩
    have hstate := State.trainChans_state (rf := rf) (sf := sf) (List.nodup_range.filter _) hlt hmem hnew
    rw [State.takeTraining_eq]
    refine (State.parkTraining_fld _ _).trans (hstate.trans ?_)
    subst hbad
    unfold State.trainsWell State.badRanks
    congr

end

/-! ### DRAM_TRAINING_DONE (R248, R383) -/

theorem State.showBst_only (s : State) (pos : Nat) : onlyRegs [BST.STATUS.PCT.addr, BST.PROGRESS.POS.addr] s (s.showBst pos) :=
  ((onlyRegs_refl _ s).setF (by decide)).setF (by decide)

section
variable {s : State} {rf : List (Nat × Nat)} {sf : List Nat} (htest : s.testing = true) (htrained : s.dev.trained = false)
  (htraining : s.dev.training = none)
include htest htrained htraining

theorem dramTrainingDone_judges (htested : s.dev.tested = true) :
    exec (.dramTrainingDone rf sf) s = .next (s.takeTraining rf sf).fixMap := by
  refine congrArg Host.Outcome.next ?_
  unfold effDramTrainingDone
  rw [if_pos (by simp [htest, htrained, htraining]), if_pos htested]

/-- What the training found waits for the partitions' results. -/
theorem dramTrainingDone_waits (htested : s.dev.tested = false) : ∃ t, exec (.dramTrainingDone rf sf) s = .next t ∧
    t.dev.training = some (rf, sf) ∧ onlyRegs [BST.STATUS.PCT.addr, BST.PROGRESS.POS.addr] s { t with dev := s.dev } := by
  have hshow : onlyRegs [BST.STATUS.PCT.addr, BST.PROGRESS.POS.addr] s (if bitOf (s.fld BST.CFG.LOAD_SEL) 0 = true then s.showBst 12 else s) := by
    split
    · exact s.showBst_only 12
    · exact onlyRegs_refl _ s
  have hexec := (if_pos (by simp [htest, htrained, htraining]) : effDramTrainingDone rf sf s = _).trans (if_neg (by simp [htested]))
  refine ⟨_, congrArg Host.Outcome.next hexec, rfl, ?_⟩
  generalize (if bitOf (s.fld BST.CFG.LOAD_SEL) 0 = true then s.showBst 12 else s) = x at *
  exact ⟨hshow.1, (congrArg (fun u : State => { u with dev := s.dev }) hshow.2 : _)⟩

end

end Sys2Proof.Machine
end

section
/-!
SUPPORT. The LOAD self-test run (R381, R383, R384): how it ends, and a part that passes. The address map fixed after it (R247 to R251).
-/

namespace Sys2Proof.Machine

/-! ### The end of the run (R383) -/

section
variable {s : State}

/-- What the training found, where it waits, is taken. -/
def State.takeFound (s : State) : State :=
  match s.dev.training with
  | some t => s.takeTraining t.1 t.2
  | none => s

theorem State.takeFound_of {b : State} (hnone : s.dev.training = none → b = s)
    (hsome : ∀ t, s.dev.training = some t → b = s.takeTraining t.1 t.2) : s.takeFound = b := by
  unfold State.takeFound
  split
  · next t h => exact (hsome t h).symm
  · next h => exact (hnone h).symm

/-- The parts judged, the partitions of the DRAM channels before the training that waits for them, then the reference checks. -/
def State.judgeParts (s : State) (tests : List (Nat × Nat × PartTest)) (bad : List Nat) : State :=
  bad.foldl State.failRef ((tests.filter fun r => !dramPart r).foldl State.loadPart
    (((tests.filter dramPart).foldl State.loadPart (s.dropMonitor bad)).excludeFailed).takeFound)

theorem loadSelfTestDone_eq {results : List PartTest} {refs bad : List Nat} {tests : List (Nat × Nat × PartTest)} (htest : s.testing = true)
    (htested : s.dev.tested = false) (hlen : results.length = s.loadParts.length)
    (htests : tests = List.zipWith (fun (pq : Nat × Nat) (r : PartTest) => (pq.1, pq.2, r)) s.loadParts results)
    (hfits : tests.all kindFits = true)
    (hon : bitOf (s.fld BST.CFG.LOAD_SEL) 1 = true → refs.length = 8 ∧ bad = (List.range 8).filter fun i => !s.refPasses i (refs.getD i 0))
    (hoff : bitOf (s.fld BST.CFG.LOAD_SEL) 1 = false → bad = []) :
    exec (.loadSelfTestDone results refs) s = .next (State.fixMap { (s.judgeParts tests bad).showBst
      ((s.judgeParts tests bad).fld BST.PROGRESS.TOTAL - 1) with dev := { ((s.judgeParts tests bad).showBst
      ((s.judgeParts tests bad).fld BST.PROGRESS.TOTAL - 1)).dev with tested := true } }) := by
  have hbad : bad = if bitOf (s.fld BST.CFG.LOAD_SEL) 1 then (List.range 8).filter fun i => !s.refPasses i (refs.getD i 0) else [] := by
    cases h : bitOf (s.fld BST.CFG.LOAD_SEL) 1 with
    | true => exact (hon h).2
    | false => exact hoff h
  have hrefs : (!bitOf (s.fld BST.CFG.LOAD_SEL) 1 || refs.length == 8) = true := by
    cases h : bitOf (s.fld BST.CFG.LOAD_SEL) 1 with
    | true => simp [(hon h).1]
    | false => rfl
  subst htests
  refine congrArg Host.Outcome.next ((if_pos (by simp [htest, htested, hlen, hfits, hrefs])).trans ?_)
  rw [hbad]
  rfl

theorem State.showBst_pos (s : State) (n : Nat) : (s.showBst n).fld BST.PROGRESS.POS = n % 2 ^ BST.PROGRESS.POS.width :=
  (State.fld_setF_ne _ _ _ _ (by decide)).trans (State.fld_setF_same _ _ _)

theorem State.dropMonitor_drops {bad : List Nat} {g : Nat} (hg : g < 4) (hbad : g ∈ bad) :
    Tbl.get false (s.dropMonitor bad).bst.monOff g = true := by
  have hset : ∀ (l : List Nat) (t : Tbl Bool), Tbl.get false t g = true ∨ g ∈ l →
      Tbl.get false (l.foldl (fun t g => Tbl.set false t g true) t) g = true := by
    intro l
    induction l with
    | nil => exact fun t h => h.resolve_right List.not_mem_nil
    | cons d l ih =>
      intro t h
      refine ih _ ?_
      by_cases hd : g = d
      · subst hd
        exact .inl (Tbl.get_set_same false t g true)
      · rw [Tbl.get_set_ne false false t d g true hd]
        exact h.imp_right fun h => (List.mem_cons.mp h).resolve_left hd
  exact hset _ _ (.inr (List.mem_filter.mpr ⟨hbad, by simpa using hg⟩))

/-! ### A part that passes (R384) -/

theorem State.noteSig_eq (s : State) (p q : Nat) (test : PartTest) : ∃ x, s.noteSig p q test = { s with bst := x } := by
  unfold State.noteSig
  split
  · exact ⟨_, rfl⟩
  · exact ⟨_, rfl⟩

/-- A part that passes shows its result and no more. -/
theorem State.loadPart_passes {p q : Nat} {test : PartTest} (hpass : s.partPasses p q test = true) :
    (s.loadPart (p, q, test)).fld (resField p q) = 1 ∧ (s.loadPart (p, q, test)).fld (BST.PART_STATE.AT_LOAD p) = 1 ∧
      onlyRegs [(resField p q).addr, (BST.PART_STATE.AT_LOAD p).addr] s { s.loadPart (p, q, test) with bst := s.bst } := by
  obtain ⟨x, hsig⟩ := s.noteSig_eq p q test
  have heq : s.loadPart (p, q, test) = (State.setF { s with bst := x } (resField p q) 1).setF (BST.PART_STATE.AT_LOAD p) 1 := by
    unfold State.loadPart
    dsimp only
    rw [hpass, hsig]
    rfl
  have hne : (resField p q).addr ≠ (BST.PART_STATE.AT_LOAD p).addr ∧ 1 < 2 ^ (resField p q).width := by
    unfold resField
    split
    · simp only [BST.PART_STATE.RES0, BST.PART_STATE.AT_LOAD]
      omega
    · split
      · simp only [BST.PART_STATE.RES1, BST.PART_STATE.AT_LOAD]
        omega
      · simp only [BST.PART_STATE.RES2, BST.PART_STATE.AT_LOAD]
        omega
  rw [heq]
  refine ⟨?_, State.fld_setF_same _ _ _, ?_⟩
  · exact (State.fld_setF_ne _ _ _ _ hne.1).trans ((State.fld_setF_same _ _ _).trans (Nat.mod_eq_of_lt hne.2))
  · exact ((onlyRegs_refl _ s).setF (f := resField p q) (v := 1) (by simp)).setF (f := BST.PART_STATE.AT_LOAD p) (v := 1) (by simp)

end

/-! ### The address map fixed (R247 to R251) -/

/-- A sum of distinct powers of two holds the bits of their exponents. -/
theorem bitOf_sum_two_pow {l : List Nat} (hl : l.Nodup) (j : Nat) : bitOf (l.map fun c => 2 ^ c).sum j = decide (j ∈ l) := by
  induction l generalizing j with
  | nil => simp [bitOf]
  | cons d l ih =>
    obtain ⟨hd, hl'⟩ := List.nodup_cons.mp hl
    have hfree : bitOf (l.map fun c => 2 ^ c).sum d = false := by
      rw [ih hl']
      exact decide_eq_false hd
    rw [List.map_cons, List.sum_cons, Nat.add_comm, bitOf_add_two_pow _ _ _ hfree, ih hl']
    simp

section
variable {s : State}

/-- The channels whose state is in service. -/
def State.servingChans (s : State) : List Nat := (List.range 12).filter fun c => s.fld (MEM.CH_STATE.STATE c) == 2

theorem State.servingChans_nodup (s : State) : s.servingChans.Nodup := List.nodup_range.filter _

/-- The address map written over the channels `ways`, of `cap` granules each. -/
def State.writeMap (s : State) (ways : List Nat) (cap : Nat) : State :=
  let s := { s with mem := { s.mem with ways := ways, capg := cap } }
  let mapg := cap - s.fld MEM.RESG.RESG
  let s := (s.setF MEM.STATUS.IN_SERVICE (ways.map fun c => 2 ^ c).sum).setF MEM.STATUS.N0 ways.length
  let s := (s.setF MEM.MAPG.MAPG mapg).setF MEM.CEIL.CEIL s.ceiling
  s.setB MEM.RESG.SUFFICIENT (decide (mapg ≤ s.fld MEM.RESG.RESG * (ways.length - 1)) && decide (2 ≤ ways.length))

/-- The registers of the address map. -/
def mapAddrs : List Nat :=
  [MEM.STATUS.IN_SERVICE.addr, MEM.STATUS.N0.addr, MEM.MAPG.MAPG.addr, MEM.CEIL.CEIL.addr, MEM.RESG.SUFFICIENT.addr]

theorem State.writeMap_only (s : State) (ways : List Nat) (cap : Nat) :
    onlyRegs mapAddrs { s with mem := { s.mem with ways := ways, capg := cap } } (s.writeMap ways cap) :=
  (((((onlyRegs_refl _ _).setF (by decide)).setF (by decide)).setF (by decide)).setF (by decide)).setB (by decide)

theorem State.writeMap_shows (s : State) {ways : List Nat} (cap : Nat) (hlen : ways.length ≤ 12) :
    (s.writeMap ways cap).fld MEM.STATUS.N0 = ways.length ∧
    (s.writeMap ways cap).fld MEM.MAPG.MAPG = (cap - s.fld MEM.RESG.RESG) % 2 ^ MEM.MAPG.MAPG.width ∧
    (s.writeMap ways cap).fld MEM.STATUS.IN_SERVICE = (ways.map fun c => 2 ^ c).sum % 2 ^ 12 := by
  have hkeep : ∀ {u : State} {a b c : Nat} {d : Bool} {g : Fld}, g.addr ≠ MEM.STATUS.N0.addr → g.addr ≠ MEM.MAPG.MAPG.addr →
      g.addr ≠ MEM.CEIL.CEIL.addr → g.addr ≠ MEM.RESG.SUFFICIENT.addr →
      ((((u.setF MEM.STATUS.N0 a).setF MEM.MAPG.MAPG b).setF MEM.CEIL.CEIL c).setB MEM.RESG.SUFFICIENT d).fld g = u.fld g := by
    intro u a b c d g hn hm hc hs
    rw [State.fld_setB_ne _ _ _ _ hs, State.fld_setF_ne _ _ _ _ hc, State.fld_setF_ne _ _ _ _ hm, State.fld_setF_ne _ _ _ _ hn]
  unfold State.writeMap
  refine ⟨?_, ?_, ?_⟩
  · rw [State.fld_setB_ne _ _ _ _ (by decide), State.fld_setF_ne _ _ _ _ (by decide), State.fld_setF_ne _ _ _ _ (by decide),
      State.fld_setF_same]
    exact Nat.mod_eq_of_lt (show _ < 2 ^ 4 by omega)
  · rw [State.fld_setB_ne _ _ _ _ (by decide), State.fld_setF_ne _ _ _ _ (by decide), State.fld_setF_same]
    rfl
  · rw [hkeep (by decide) (by decide) (by decide) (by decide), State.fld_setF_same]
    rfl

theorem State.truncated_of_same {t : State} (hranks : t.fld MEM.CFG.RANKS = s.fld MEM.CFG.RANKS) (hspare : t.fld MEM.CFG.SPARE = s.fld MEM.CFG.SPARE)
    (hdensity : t.fld MEM.CFG.DENSITY = s.fld MEM.CFG.DENSITY) (hwidth : t.fld MEM.CFG.WIDTH = s.fld MEM.CFG.WIDTH) :
    t.truncated = s.truncated := by
  have hlive : t.liveRanks = s.liveRanks := by simp only [State.liveRanks, hranks, hspare]
  have hbytes : t.rankBytes = s.rankBytes := by
    have hdevice : t.deviceWidth = s.deviceWidth := by
      unfold State.deviceWidth State.bit
      rw [hwidth]
    simp only [State.rankBytes, State.rowsPerBank, State.densityGb, hdensity, hdevice]
  unfold State.truncated
  rw [hlive, hbytes]

theorem State.fixMap_eq (htrained : s.dev.trained = true) (htested : s.dev.tested = true) (hfits : s.truncated = false) :
    s.fixMap = (s.writeMap s.servingChans s.capacity).showStage 9 := by
  have honly := s.writeMap_only s.servingChans s.capacity
  have htrunc : (s.writeMap s.servingChans s.capacity).truncated = false := by
    rw [State.truncated_of_same (s := s) (honly.1 _ (by decide)) (honly.1 _ (by decide)) (honly.1 _ (by decide)) (honly.1 _ (by decide))]
    exact hfits
  refine (if_pos (by simp [htrained, htested])).trans (congrArg (fun u => State.showStage u 9) (if_neg ?_))
  exact (Bool.not_eq_true _).mpr htrunc

theorem State.showStage_mem (s : State) (n : Nat) : (s.showStage n).mem = s.mem := rfl

theorem State.showStage_fld_ne (s : State) (n : Nat) {g : Fld} (hg : g.addr ≠ DEV.STARTUP.STAGE.addr) : (s.showStage n).fld g = s.fld g :=
  State.fld_setF_ne { s with dev := { s.dev with stageAt := s.now } } _ _ _ hg

theorem State.showStage_stage (s : State) {n : Nat} (hn : n < 16) : (s.showStage n).fld DEV.STARTUP.STAGE = n :=
  (State.fld_setF_same _ _ _).trans (Nat.mod_eq_of_lt hn)

theorem fixMap_fixes (htrained : s.dev.trained = true) (htested : s.dev.tested = true) (hfits : s.truncated = false) :
    s.fixMap.mem.ways = s.servingChans ∧ s.fixMap.mem.capg = s.capacity ∧ s.fixMap.fld MEM.STATUS.N0 = s.fixMap.mem.ways.length ∧
      s.fixMap.fld MEM.MAPG.MAPG = (s.capacity - s.fld MEM.RESG.RESG) % 2 ^ MEM.MAPG.MAPG.width ∧
      (∀ c < 12, s.fixMap.inService c = (s.fld (MEM.CH_STATE.STATE c) == 2)) ∧ s.fixMap.fld DEV.STARTUP.STAGE = 9 := by
  have hlen : s.servingChans.length ≤ 12 := (List.length_filter_le _ _).trans (by simp)
  obtain ⟨hn0, hmapg, hin⟩ := s.writeMap_shows s.capacity hlen
  have hmem := (s.writeMap_only s.servingChans s.capacity).mem_eq
  rw [State.fixMap_eq htrained htested hfits]
  generalize s.capacity = cap at *
  generalize s.writeMap s.servingChans cap = x at *
  rw [← x.showStage_mem 9] at hmem
  have hways : (x.showStage 9).mem.ways = s.servingChans := by rw [hmem]
  refine ⟨hways, by rw [hmem], ?_, ?_, fun c hc => ?_, x.showStage_stage (by decide)⟩
  · rw [hways, x.showStage_fld_ne 9 (by decide)]
    exact hn0
  · rw [x.showStage_fld_ne 9 (by decide)]
    exact hmapg
  · rw [State.inService, x.showStage_fld_ne 9 (by decide), hin, bitOf_mod _ 12 c hc, bitOf_sum_two_pow s.servingChans_nodup]
    simp [State.servingChans, hc, beq_eq_decide]

end

end Sys2Proof.Machine
end

section
/-!
SUPPORT. The end of LOAD (Table 17-12 step 10): what the binding of lanes and the short groups leave (R318, R319, R419), the mode as it changes
(R393, R394), and the service set not met (R396, R418).
-/

namespace Sys2Proof.Machine

/-! ### The mode changed (R393, R394) -/

section
variable {s : State} {n k i a : Nat}

/-- An entry for the log leaves what is reported, but for the log-dropped notice. -/
theorem reported.logEntry (hn : n < 256) (hlog : n ≠ 240) (r : reported n k i a s) (typ source flags : Nat) (data : List Byte) :
    reported n k i a (s.logEntry typ source flags data) := by
  obtain ⟨hevt, hnow⟩ := State.stageLimited_seen s typ source flags data
  have hstage : reported n k i a (s.stageLimited typ source flags data).2 := by
    refine reported_of_same (fun g hg => State.stageLimited_fld s typ source flags data g ?_) (by rw [hevt]) (by rw [hevt]) hnow r
    simp only [EVT.STATUS.STATUS, EVT.DETAIL.KIND, EVT.DETAIL.INDEX, EVT.DETAIL.ARG, MGT.LOG_STATUS.DROPPED] at hg ⊢
    omega
  unfold State.logEntry
  dsimp only
  split
  · exact State.logDropped_keeps _ n k i a hn hlog hstage
  · exact hstage

/-- The registers of the mode. -/
def modeAddrs : List Nat := [DEV.MODE.MODE.addr, DEV.MODE.PREV.addr, DEV.MODE.CAUSE.addr, DEV.MODE.TRANSIT.addr]

/-- The mode and what it came from, in the registers. -/
def State.writeMode (s : State) (m cause : Nat) : State :=
  (((s.setF DEV.MODE.MODE m).setF DEV.MODE.PREV s.mode).setF DEV.MODE.CAUSE cause).setF DEV.MODE.TRANSIT 0

variable {m cause : Nat}

/-- A mode entered that is neither READY nor ACQUIRE is reported and logged. -/
theorem State.changeMode_eq (hready : m ≠ modeReady) (hacquire : m ≠ modeAcquire) :
    s.changeMode m cause = ((s.writeMode m cause).raise 0 cause m 0 0).logMode s.mode m cause :=
  if_neg fun h => h.elim (fun h => hacquire h.2) fun h => hready h.2

section
variable (hready : m ≠ modeReady) (hacquire : m ≠ modeAcquire)
include hready hacquire

theorem State.changeMode_only : onlyReports modeAddrs s (s.changeMode m cause) := by
  rw [State.changeMode_eq hready hacquire]
  have hwrite : onlyRegs modeAddrs s (s.writeMode m cause) :=
    ((((onlyRegs_refl _ s).setF (by decide)).setF (by decide)).setF (by decide)).setF (by decide)
  exact onlyReports_trans (onlyReports_of_onlyRegs hwrite) (onlyReports_trans (State.raise_only _ _ _ _ _ _ _ (by decide))
    (State.logEntry_only _ _ _ _ _ _))

theorem State.changeMode_mode (hm : m < 16) : (s.changeMode m cause).mode = m := by
  have hkeep : isReport DEV.MODE.MODE = false := by decide
  have hraise := onlyReports_trans (State.raise_only [] (s.writeMode m cause) 0 cause m 0 0 (by decide))
    (State.logEntry_only [] _ 2 0 (((s.writeMode m cause).raise 0 cause m 0 0).logFlags false) (le 1 s.mode ++ le 1 m ++ le 1 cause))
  rw [State.changeMode_eq hready hacquire]
  refine (hraise.1 _ List.not_mem_nil hkeep).trans ?_
  unfold State.writeMode
  rw [State.fld_setF_ne _ _ _ _ (by decide), State.fld_setF_ne _ _ _ _ (by decide), State.fld_setF_ne _ _ _ _ (by decide), State.fld_setF_same]
  exact Nat.mod_eq_of_lt hm

theorem State.changeMode_reported (hm : m < 256) (hcause : cause < 256) : reported 0 cause m 0 (s.changeMode m cause) := by
  rw [State.changeMode_eq hready hacquire]
  exact (State.raise_reported _ 0 cause m 0 0 (by decide) (by decide) hcause hm (by decide)).logEntry (by decide) (by decide) _ _ _ _

end

end

/-! ### The lanes of a channel (R63, R68) -/

theorem groupsOf_lt {join g : Nat} (hg : g < 4) : ∀ x ∈ groupsOf join g, x < 4 := by
  intro x hx
  unfold groupsOf at hx
  split at hx
  · simp at hx
    omega
  · split at hx
    · simp at hx
      omega
    · split at hx
      · simp at hx
        omega
      · simp at hx
        omega

section
variable {s : State} {c l g : Nat}

theorem State.lanesOf_lt (hc : c < 64) (hl : l ∈ s.lanesOf c) : l < 64 := by
  obtain ⟨j, hj, rfl⟩ := List.mem_map.mp hl
  have hj := List.mem_range.mp hj
  have hin : ∀ x ∈ s.chanGroups c, x < 4 := by
    intro x hx
    unfold State.chanGroups at hx
    split at hx
    · exact groupsOf_lt (by omega) x hx
    · exact absurd hx List.not_mem_nil
  unfold State.lanes at hj
  unfold State.slotLane
  generalize s.chanGroups c = gs at *
  dsimp only
  match gs with
  | [] => exact hc
  | d :: ds =>
    have hgroup : (d :: ds).getD (j % (d :: ds).length) 0 < 4 := by
      rw [List.getD_eq_getElem _ _ (Nat.mod_lt _ (by simp))]
      exact hin _ (List.getElem_mem _)
    have hturn : j / (d :: ds).length < 16 := by
      rw [Nat.div_lt_iff_lt_mul (by simp)]
      split at hj
      · exact hj
      · have : 1 ≤ (d :: ds).length := by simp
        omega
    show 16 * _ + _ < 64
    omega

theorem State.chanOf_lt (hl : l < 64) : s.chanOf l < 64 := by
  unfold State.chanOf
  split
  · have hhead : ∀ gs : List Nat, (∀ x ∈ gs, x < 4) → gs.headD 0 < 4
      | [], _ => by simp
      | x :: _, h => h x List.mem_cons_self
    have := hhead _ (groupsOf_lt (join := s.fld CNV.LAYOUT.JOIN) (g := l / 16) (by omega))
    omega
  · exact hl

end

/-! ### What the binding and the short groups leave (R318, R319, R419) -/

/-- What the end of LOAD leaves of `s₀` while it binds lanes: the device's own state, the time, and the registers of every block but the
converters' and the sequencers'. -/
structure State.boundFrom (s s₀ : State) : Prop where
  fld : ∀ g : Fld, g.addr / 524288 ≠ 2 → g.addr / 524288 ≠ 13 → isReport g = false → s.fld g = s₀.fld g
  dev : s.dev = s₀.dev
  now : s.now = s₀.now

section
variable {s t s₀ : State}

theorem State.boundFrom.refl (s : State) : s.boundFrom s := ⟨fun _ _ _ _ => rfl, rfl, rfl⟩

theorem State.boundFrom.trans (h : t.boundFrom s) (k : s.boundFrom s₀) : t.boundFrom s₀ :=
  ⟨fun g h2 h13 hr => (h.fld g h2 h13 hr).trans (k.fld g h2 h13 hr), h.dev.trans k.dev, h.now.trans k.now⟩

theorem State.boundFrom.ite {p : Prop} {_ : Decidable p} (hs : s.boundFrom s₀) (ht : t.boundFrom s₀) : (if p then s else t).boundFrom s₀ := by
  split
  · exact hs
  · exact ht

theorem State.boundFrom.foldl {α : Type} {f : State → α → State} {l : List α} (h : s.boundFrom s₀)
    (hf : ∀ u, ∀ x ∈ l, u.boundFrom s₀ → (f u x).boundFrom s₀) : (l.foldl f s).boundFrom s₀ :=
  List.foldlRecOn (motive := fun u => u.boundFrom s₀) l f h fun u hu x hx => hf u x hx hu

theorem State.boundFrom.setF (h : s.boundFrom s₀) {f : Fld} (v : Nat) (hf : f.addr / 524288 = 2 ∨ f.addr / 524288 = 13) :
    (s.setF f v).boundFrom s₀ :=
  ⟨fun g h2 h13 hr => (State.fld_setF_ne s f g v fun e => by rw [e] at h2 h13; omega).trans (h.fld g h2 h13 hr), h.dev, h.now⟩

theorem State.boundFrom.setUnit (h : s.boundFrom s₀) (u : Nat) (x : SeqUnit) : (s.setUnit u x).boundFrom s₀ := ⟨h.fld, h.dev, h.now⟩

theorem State.boundFrom.withCnv (h : s.boundFrom s₀) (x : CnvSt) : State.boundFrom { s with cnv := x } s₀ := ⟨h.fld, h.dev, h.now⟩

theorem State.boundFrom.raise {n k i a a2 : Nat} (hn : n < 256) (h : s.boundFrom s₀) : (s.raise n k i a a2).boundFrom s₀ :=
  ⟨fun g h2 h13 hr => (s.raise_fld k i a a2 hn hr).trans (h.fld g h2 h13 hr), (State.raise_only [] s n k i a a2 hn).dev_eq.trans h.dev,
    (State.raise_only [] s n k i a a2 hn).now_eq.trans h.now⟩

theorem State.boundFrom.bindLane {l u : Nat} (hl : l < 64) (h : s.boundFrom s₀) : (s.bindLane l u).boundFrom s₀ :=
  ((h.setUnit u _).setF u (.inr (by simp only [SEQ.LANE_UNIT.UNIT]; omega))).setF 1 (.inr (by simp only [SEQ.LANE_UNIT.VALID]; omega))

theorem State.boundFrom.bindGroup {g : Nat} (hg : g < 4) (h : s.boundFrom s₀) : (s.bindGroup g).boundFrom s₀ := by
  refine State.boundFrom.setF (h.foldl fun u x hx hu => hu.bindLane ?_) _ (.inl (by simp only [CNV.GROUP_STATUS.SPARE_UNIT]; omega))
  obtain ⟨m, hm, hlane⟩ := List.mem_map.mp (List.of_mem_zip (a := x.1) (b := x.2) hx).1
  have hm := List.mem_range.mp hm
  omega

theorem State.boundFrom.setLead {c : Nat} (hc : c < 64) (h : s.boundFrom s₀) : (s.setLead c).boundFrom s₀ := by
  unfold State.setLead
  split
  · next l hl =>
    have hlt : l < 64 := State.lanesOf_lt hc (List.mem_of_find?_eq_some hl)
    exact h.setF 1 (.inr (by simp only [SEQ.LANE_UNIT.LEAD]; omega))
  · exact h

theorem State.boundFrom.stopAtLoad {c kind : Nat} (h : s.boundFrom s₀) : (s.stopAtLoad c kind).boundFrom s₀ :=
  h.ite ((h.withCnv _).raise (by decide))

theorem State.boundFrom.assignNarrow {g : Nat} (h : s.boundFrom s₀) : (s.assignNarrow g).boundFrom s₀ :=
  List.foldlRecOn (motive := fun x : List Nat × State => x.2.boundFrom s₀) _ _ h fun x hx m _ => by
    dsimp only
    split
    · exact hx.withCnv _
    · split
      · exact hx.stopAtLoad
      · exact hx

theorem State.boundFrom.shorten {g : Nat} (hg : g < 4) (h : s.boundFrom s₀) : (s.shorten g).boundFrom s₀ := by
  have hfixed : (State.setF { s with cnv := { s.cnv with short := Tbl.set false s.cnv.short g true } } (CNV.GROUP_STATUS.FIXED g) 1).boundFrom s₀ :=
    (h.withCnv _).setF 1 (.inl (by simp only [CNV.GROUP_STATUS.FIXED]; omega))
  exact State.boundFrom.ite (hfixed.stopAtLoad.ite hfixed.assignNarrow) h

end

/-! ### The service set not met (R396, R418) -/

section
variable {s : State}

theorem State.testing_iff (s : State) : s.testing = true ↔
    s.mode = modeLoad ∧ s.dev.held = false ∧ s.dev.imageOk = true ∧ s.dev.clockWait = false := by
  simp [State.testing, and_assoc]

theorem State.stageRaw_dev (s : State) (typ source flags : Nat) (data : List Byte) : (s.stageRaw typ source flags data).dev = s.dev := rfl

theorem State.showSlots_dev (s : State) : s.showSlots.dev = s.dev := rfl

theorem State.showOwner_dev (s : State) : s.showOwner.dev = s.dev := by
  unfold State.showOwner
  exact List.foldlRecOn (motive := fun u : State => u.dev = s.dev) (List.range 12) _ rfl fun _ hu _ _ => hu

theorem State.showLog_dev (s : State) : s.showLog.dev = s.dev := by
  unfold State.showLog
  rw [State.setF_dev, State.setF_dev]

theorem State.cold_imageOk (s : State) (cause : Nat) : (s.cold cause).dev.imageOk = false := by
  unfold State.cold
  simp only [State.setF_dev, State.showLog_dev, State.showSlots_dev, State.showOwner_dev]

theorem State.beginLoad_imageOk (h : s.dev.imageOk = false) : s.beginLoad.dev.imageOk = false := by
  unfold State.beginLoad
  split
  · simp only [State.stageRaw_dev, State.setF_dev]
    exact h
  · exact h

/-- After a device reset no image has been verified. -/
theorem State.resetDevice_imageOk (s : State) (cause : Nat) : (s.resetDevice cause).dev.imageOk = false :=
  State.beginLoad_imageOk (State.cold_imageOk _ cause)

/-- SAFE, or the reset that a failed trial makes of it, is no LOAD under test. -/
theorem State.enterSafe_testing (hsafe : s.mode ≠ modeSafe) (hheld : s.dev.held = false) (cause : Nat) (b : Bool) :
    (s.enterSafe cause b).testing = false := by
  have hmode : ∀ u : State, (u.changeMode modeSafe cause).testing = false := fun u => Bool.eq_false_iff.mpr fun htest => by
    have hm : (u.changeMode modeSafe cause).mode = modeSafe := State.changeMode_mode (by decide) (by decide) (by decide)
    exact absurd (hm.symm.trans ((State.testing_iff _).mp htest).1) (by decide)
  have hreset : ∀ u : State, (u.resetDevice 4).testing = false := fun u => by
    simp [State.testing, u.resetDevice_imageOk 4]
  unfold State.enterSafe
  rw [if_neg (by simp [hsafe, hheld])]
  dsimp only
  split
  · split
    · exact hreset _
    · exact hmode _
  · exact hmode _

theorem State.fatal_testing (htest : s.testing = true) (k a : Nat) : (s.fatal k a).testing = false := by
  obtain ⟨hmode, hheld, -, -⟩ := s.testing_iff.mp htest
  have honly := State.raise_only [] s 1 k 0 a 0 (by decide)
  have hmode' : (s.raise 1 k 0 a 0).mode = modeLoad := (honly.1 DEV.MODE.MODE List.not_mem_nil (by decide)).trans hmode
  have hheld' : (s.raise 1 k 0 a 0).dev.held = false := by rw [honly.dev_eq, hheld]
  unfold State.fatal
  rw [if_neg (by simp [hheld])]
  dsimp only
  rw [if_neg (by rw [hmode']; decide)]
  exact State.enterSafe_testing (by rw [hmode']; decide) hheld' 15 false

end

end Sys2Proof.Machine
end

section
/-!
SUPPORT. CALIBRATE entered (R87, R88, R93): the live inputs marked, and LOAD_COMPLETE (R405).
-/

namespace Sys2Proof.Machine

/-! ### Live inputs (R93) -/

section
variable {s t u : State} {f f' : Fld} {g g' : Nat} {narrow : Bool}

/-- A field of one bit that resets to 0. -/
def isFlag (f : Fld) : Prop := f.width = 1 ∧ f.reset = 0

theorem isFlag.eq (hf : isFlag f) (hf' : isFlag f') (h : f'.addr = f.addr) : f' = f := by
  obtain ⟨hw, hr⟩ := hf
  obtain ⟨hw', hr'⟩ := hf'
  cases f
  cases f'
  simp_all

theorem State.setFlag_same (hf : isFlag f) (s : State) : (s.setF f 1).fld f = 1 := by
  rw [State.fld_setF_same, hf.1]
  rfl

/-- A flag set stays so while flags are set, this one or others. -/
theorem State.setFlag_keeps (hf : isFlag f) (hf' : isFlag f') (h : s.fld f = 1) : (s.setF f' 1).fld f = 1 := by
  by_cases e : f'.addr = f.addr
  · rw [hf.eq hf' e]
    exact State.setFlag_same hf s
  · rw [State.fld_setF_ne _ _ _ _ (Ne.symm e)]
    exact h

/-- The marks of a live input, in the order in which they are written. -/
def State.writeLive (s : State) (g : Nat) (narrow : Bool) : State :=
  if narrow then s.setF (CAL.GROUP_RESULT.LIVE_NARROW g) 1
  else ((s.setF (CAL.GROUP_RESULT.LIVE_TRUNK g) 1).setF (CAL.CHAN_STATE.LIVE (s.chanOf (16 * g))) 1).setF
    (CAL.CHAN_STATE.SUSPECT (s.chanOf (16 * g))) 1

theorem State.markLive_eq (s : State) (g : Nat) (narrow : Bool) :
    s.markLive g narrow = (s.writeLive g narrow).raise 61 (if narrow then 1 else 0) g 0 0 := rfl

theorem State.writeLive_keeps (hf : isFlag f) (h : s.fld f = 1) : (s.writeLive g narrow).fld f = 1 := by
  unfold State.writeLive
  split
  · exact State.setFlag_keeps hf ⟨rfl, rfl⟩ h
  · exact State.setFlag_keeps hf ⟨rfl, rfl⟩ (State.setFlag_keeps hf ⟨rfl, rfl⟩ (State.setFlag_keeps hf ⟨rfl, rfl⟩ h))

theorem State.markLive_fld (s : State) (g : Nat) (narrow : Bool) (hf : f.addr < 14 * 524288) :
    (s.markLive g narrow).fld f = (s.writeLive g narrow).fld f := State.raise_below _ _ _ _ _ (by decide) hf

theorem State.markLive_keeps (hf : isFlag f) (hb : f.addr < 14 * 524288) (h : s.fld f = 1) : (s.markLive g narrow).fld f = 1 :=
  (s.markLive_fld g narrow hb).trans (State.writeLive_keeps hf h)

theorem liveFlds_below {c : Nat} (hg : g < 4) (hc : c < 64) : (CAL.GROUP_RESULT.LIVE_TRUNK g).addr < 14 * 524288 ∧
    (CAL.CHAN_STATE.LIVE c).addr < 14 * 524288 ∧ (CAL.GROUP_RESULT.LIVE_NARROW g).addr < 14 * 524288 := by
  simp only [CAL.GROUP_RESULT.LIVE_TRUNK, CAL.CHAN_STATE.LIVE, CAL.GROUP_RESULT.LIVE_NARROW]
  omega

/-- What `t` shows of the live inputs of group `g`, in the layout of `u`. -/
def showsLive (u : State) (g : Nat) (t : State) : Prop :=
  (u.trunk g = true → t.fld (CAL.GROUP_RESULT.LIVE_TRUNK g) = 1 ∧ t.fld (CAL.CHAN_STATE.LIVE (u.chanOf (16 * g))) = 1) ∧
  (u.trunk g = false → t.fld (CAL.GROUP_RESULT.LIVE_NARROW g) = 1)

theorem showsLive.markLive (hg : g < 4) (h : showsLive u g s) : showsLive u g (s.markLive g' narrow) := by
  obtain ⟨htrunk, hlive, hnarrow⟩ := liveFlds_below hg (u.chanOf_lt (l := 16 * g) (by omega))
  exact ⟨fun ht => ⟨State.markLive_keeps ⟨rfl, rfl⟩ htrunk (h.1 ht).1, State.markLive_keeps ⟨rfl, rfl⟩ hlive (h.1 ht).2⟩,
    fun hn => State.markLive_keeps ⟨rfl, rfl⟩ hnarrow (h.2 hn)⟩

/-- A group whose input is live takes its marks. -/
theorem State.markLive_shows (hg : g < 4) (hsame : sameLayout u s) : showsLive u g (s.markLive g (!s.trunk g)) := by
  obtain ⟨htrunk, hlive, hnarrow⟩ := liveFlds_below hg (u.chanOf_lt (l := 16 * g) (by omega))
  unfold showsLive
  rw [s.markLive_fld _ _ htrunk, s.markLive_fld _ _ hlive, s.markLive_fld _ _ hnarrow, hsame.trunk g]
  unfold State.writeLive
  rw [hsame.chanOf]
  refine ⟨fun ht => ?_, fun hn => ?_⟩
  · rw [ht]
    exact ⟨State.setFlag_keeps ⟨rfl, rfl⟩ ⟨rfl, rfl⟩ (State.setFlag_keeps ⟨rfl, rfl⟩ ⟨rfl, rfl⟩ (State.setFlag_same ⟨rfl, rfl⟩ _)),
      State.setFlag_keeps ⟨rfl, rfl⟩ ⟨rfl, rfl⟩ (State.setFlag_same ⟨rfl, rfl⟩ _)⟩
  · rw [hn]
    exact State.setFlag_same ⟨rfl, rfl⟩ _

/-- What the marking of live inputs leaves of `s`: every register outside the results and marks of calibration that reports nothing, what the
calibration itself holds, and what is reported of the mode. -/
structure markedFrom (s t : State) : Prop where
  fld : ∀ g : Fld, g.addr < 8 * 0x30020 ∨ 8 * 0x30500 ≤ g.addr → isReport g = false → t.fld g = s.fld g
  cal : t.cal = s.cal
  reported : ∀ n k i a, n < 61 → reported n k i a s → reported n k i a t

theorem markedFrom.refl (s : State) : markedFrom s s := ⟨fun _ _ _ => rfl, rfl, fun _ _ _ _ _ h => h⟩

theorem markedFrom.trans (h : markedFrom s t) (k : markedFrom t u) : markedFrom s u :=
  ⟨fun g hg hr => (k.fld g hg hr).trans (h.fld g hg hr), k.cal.trans h.cal,
    fun n k' i a hn r => k.reported n k' i a hn (h.reported n k' i a hn r)⟩

theorem markedFrom.setF (hf : 8 * 0x30020 ≤ f.addr) (hf' : f.addr < 8 * 0x30500) (v : Nat) : markedFrom s (s.setF f v) :=
  ⟨fun g hg _ => State.fld_setF_ne _ _ _ _ (by omega), rfl, fun _ _ _ _ hn r => r.setF (by omega) (isReport_below (by omega)) v⟩

theorem markedFrom.raise {k i a a2 : Nat} : markedFrom s (s.raise 61 k i a a2) :=
  ⟨fun g _ hr => s.raise_fld _ _ _ _ (by decide) hr, State.raise_cal _ _ _ _ _ (by decide), fun n _ _ _ hn r =>
    r.raise (by omega) (by omega) (by decide) (by omega) _ _ _ _⟩

theorem State.markLive_marked (s : State) (hg : g < 4) : markedFrom s (s.markLive g narrow) := by
  have hc : s.chanOf (16 * g) < 64 := State.chanOf_lt (by omega)
  have hwrite : markedFrom s (s.writeLive g narrow) := by
    unfold State.writeLive
    split
    · refine markedFrom.setF ?_ ?_ 1
      all_goals
        simp only [CAL.GROUP_RESULT.LIVE_NARROW]
        omega
    · refine ((markedFrom.setF ?_ ?_ 1).trans (markedFrom.setF ?_ ?_ 1)).trans (markedFrom.setF ?_ ?_ 1)
      all_goals
        simp only [CAL.GROUP_RESULT.LIVE_TRUNK, CAL.CHAN_STATE.LIVE, CAL.CHAN_STATE.SUSPECT]
        omega
  exact hwrite.trans markedFrom.raise

theorem markedFrom.sameLayout (h : markedFrom s t) : sameLayout s t :=
  ⟨h.fld _ (.inl (by decide)) (by decide), h.fld _ (.inl (by decide)) (by decide)⟩

theorem sameLayout.trans (h : sameLayout s t) (k : sameLayout t u) : sameLayout s u := ⟨k.1.trans h.1, k.2.trans h.2⟩

/-- The live inputs of the groups `l` marked. -/
def State.markGroups (s : State) (l : List Nat) : State := l.foldl (fun (s : State) g => s.markLive g (!s.trunk g)) s

theorem State.markGroups_marked {l : List Nat} (hl : ∀ g ∈ l, g < 4) (s : State) : markedFrom s (s.markGroups l) :=
  List.foldlRecOn (motive := fun t => markedFrom s t) l _ (markedFrom.refl s) fun t ht g hg => ht.trans (t.markLive_marked (hl g hg))

theorem State.markGroups_shows {l : List Nat} (hl : ∀ g ∈ l, g < 4) (hg : g ∈ l) (hsame : sameLayout u s) : showsLive u g (s.markGroups l) := by
  induction l generalizing s with
  | nil => exact absurd hg List.not_mem_nil
  | cons d l ih =>
    have hl' : ∀ g ∈ l, g < 4 := fun g hg => hl g (List.mem_cons_of_mem d hg)
    have hd : d < 4 := hl d List.mem_cons_self
    rcases List.mem_cons.mp hg with rfl | hg
    · exact List.foldlRecOn (motive := fun t => showsLive u g t) l _ (State.markLive_shows hd hsame) fun t ht e _ => ht.markLive hd
    · exact ih hl' hg (hsame.trans (s.markLive_marked hd).sameLayout)

end

/-! ### CALIBRATE entered (R87, R88) -/

section
variable {s u : State} {g : Nat} {inputs : List InputLevel}

/-- The start of calibration shown, before its inputs are checked. -/
def State.openCalibrate (s : State) : State :=
  let s := { s with cal := { s.cal with calAt := s.now, results := [] } }
  let s := (s.setF CAL.STATUS.STATE 1).setF CAL.STATUS.STEP 1
  (s.setF CAL.STATUS.ATTEMPT 1).setF CAL.PROGRESS.TOTAL s.calTotal

theorem State.openCalibrate_only (s : State) :
    onlyRegs [CAL.STATUS.STATE.addr, CAL.STATUS.STEP.addr, CAL.STATUS.ATTEMPT.addr, CAL.PROGRESS.TOTAL.addr]
    { s with cal := { s.cal with calAt := s.now, results := [] } } s.openCalibrate :=
  ((((onlyRegs_refl _ _).setF (by decide)).setF (by decide)).setF (by decide)).setF (by decide)

theorem State.openCalibrate_shows (s : State) : s.openCalibrate.fld CAL.STATUS.STATE = 1 ∧ s.openCalibrate.fld CAL.STATUS.STEP = 1 ∧
    s.openCalibrate.fld CAL.STATUS.ATTEMPT = 1 := by
  unfold State.openCalibrate
  refine ⟨?_, ?_, ?_⟩
  · rw [State.fld_setF_ne _ _ _ _ (by decide), State.fld_setF_ne _ _ _ _ (by decide), State.fld_setF_ne _ _ _ _ (by decide), State.fld_setF_same]
    rfl
  · rw [State.fld_setF_ne _ _ _ _ (by decide), State.fld_setF_ne _ _ _ _ (by decide), State.fld_setF_same]
    rfl
  · rw [State.fld_setF_ne _ _ _ _ (by decide), State.fld_setF_same]
    rfl

theorem reported.openCalibrate {n k i a : Nat} (hn : n < 256) (r : reported n k i a s) : reported n k i a s.openCalibrate :=
  ((((r.frame (t := { s with cal := { s.cal with calAt := s.now, results := [] } }) hn (fun _ _ => rfl) rfl rfl).setF hn (by decide) _).setF hn
    (by decide) _).setF hn (by decide) _).setF hn (by decide) _

theorem sameLayout.groupLive (h : sameLayout s u) (inputs : List InputLevel) (g : Nat) : u.groupLive inputs g = s.groupLive inputs g := by
  unfold State.groupLive
  rw [h.trunk]

theorem State.startCalibrate_eq (s : State) (inputs : List InputLevel) :
    s.startCalibrate inputs = s.openCalibrate.markGroups ((List.range 4).filter (s.openCalibrate.groupLive inputs)) := by
  unfold State.startCalibrate State.openCalibrate State.markGroups
  rfl

theorem onlyRegs.now_eq {A : List Nat} (h : onlyRegs A s u) : u.now = s.now := (congrArg (fun v : State => v.now) h.2 : _)

theorem onlyRegs.cal_eq {A : List Nat} (h : onlyRegs A s u) : u.cal = s.cal := (congrArg (fun v : State => v.cal) h.2 : _)

theorem State.showStage_cal (s : State) (n : Nat) : (s.showStage n).cal = s.cal := rfl

theorem reported.showStage {n k i a : Nat} (hn : n < 256) (r : reported n k i a s) (m : Nat) : reported n k i a (s.showStage m) :=
  (r.frame (t := { s with dev := { s.dev with stageAt := s.now } }) hn (fun _ _ => rfl) rfl rfl).setF hn (by decide) m

theorem showsLive.showStage {t : State} (h : showsLive s g t) (n : Nat) : showsLive s g (t.showStage n) := by
  have hmark : ∀ f : Fld, 8 * 0x30020 ≤ f.addr → (t.showStage n).fld f = t.fld f := fun f hf =>
    t.showStage_fld_ne n (by simp only [DEV.STARTUP.STAGE]; omega)
  unfold showsLive
  rw [hmark _ (by simp only [CAL.GROUP_RESULT.LIVE_TRUNK]; omega), hmark _ (by simp only [CAL.CHAN_STATE.LIVE]; omega),
    hmark _ (by simp only [CAL.GROUP_RESULT.LIVE_NARROW]; omega)]
  exact h

/-- The lanes bound and the run shown DONE, of which `b` has bound the lanes. -/
def State.showDone (b : State) : State := (b.setF BST.STATUS.STATE 2).showBst (b.fld BST.PROGRESS.TOTAL)

/-- The end of LOAD before the service set is judged: lanes bound, the run DONE, the leads set, the short groups judged. -/
def State.finishLoad (s : State) : State :=
  let d := ((List.range 4).foldl State.bindGroup s).showDone
  (List.range 4).foldl State.shorten (((List.range 64).filter d.inLayout).foldl State.setLead d)

/-- The LOAD time shown. -/
def State.noteLoadTime (s : State) : State := s.setF DEV.TIMES.LOAD_MS (min 4095 ((s.now - s.dev.startAt) / 1000000))

theorem loadComplete_eq (htest : s.testing = true) (htrained : s.dev.trained = true) (htested : s.dev.tested = true)
    (hstale : ∀ pl ∈ s.library, s.bit (ACQ.LIB_CFG.STALE pl.num) = false) : exec (.loadComplete inputs) s = .next
      (if s.finishLoad.judgeService.testing = false then s.finishLoad.judgeService else
        ((s.finishLoad.judgeService.noteLoadTime.changeMode modeCalibrate 0).startCalibrate inputs).showStage 11) := by
  have hready : (s.testing && s.dev.trained && s.dev.tested && s.library.all fun pl => !s.bit (ACQ.LIB_CFG.STALE pl.num)) = true := by
    simpa [htest, htrained, htested] using hstale
  refine congrArg Host.Outcome.next ?_
  unfold effLoadComplete
  dsimp only
  rw [if_pos hready]
  unfold State.finishLoad State.showDone State.noteLoadTime
  with_reducible rfl

theorem State.bindGroups_bound (s : State) : State.boundFrom ((List.range 4).foldl State.bindGroup s) s :=
  (State.boundFrom.refl s).foldl fun _ _ hg hu => hu.bindGroup (List.mem_range.mp hg)

/-- What the end of LOAD shows of the self-test run, and what it leaves. -/
theorem State.finishLoad_shows (s : State) : s.finishLoad.fld BST.STATUS.STATE = 2 ∧
    s.finishLoad.fld BST.PROGRESS.POS = s.fld BST.PROGRESS.TOTAL % 2 ^ BST.PROGRESS.POS.width ∧ s.finishLoad.dev = s.dev ∧
    s.finishLoad.now = s.now ∧ s.finishLoad.mode = s.mode := by
  have hbind := s.bindGroups_bound
  unfold State.finishLoad
  generalize (List.range 4).foldl State.bindGroup s = b at *
  dsimp only
  have hend : State.boundFrom ((List.range 4).foldl State.shorten (((List.range 64).filter b.showDone.inLayout).foldl State.setLead b.showDone))
      b.showDone :=
    ((State.boundFrom.refl _).foldl fun _ _ hc hu => hu.setLead (List.mem_range.mp (List.mem_of_mem_filter hc))).foldl
      fun _ _ hg hu => hu.shorten (List.mem_range.mp hg)
  have hdone : onlyRegs [BST.STATUS.STATE.addr, BST.STATUS.PCT.addr, BST.PROGRESS.POS.addr] b b.showDone :=
    ((onlyRegs_refl _ b).setF (f := BST.STATUS.STATE) (v := 2) (by decide)).setF (f := BST.PROGRESS.POS) (by decide) |>.setF (by decide)
  have hstate : b.showDone.fld BST.STATUS.STATE = 2 :=
    (((b.setF BST.STATUS.STATE 2).showBst_only _).1 _ (by decide)).trans (State.fld_setF_same _ _ _)
  have hpos : b.showDone.fld BST.PROGRESS.POS = b.fld BST.PROGRESS.TOTAL % 2 ^ BST.PROGRESS.POS.width := State.showBst_pos _ _
  generalize b.showDone = d at *
  refine ⟨(hend.fld _ (by decide) (by decide) (by decide)).trans hstate, ?_, hend.dev.trans (hdone.dev_eq.trans hbind.dev),
    hend.now.trans (hdone.now_eq.trans hbind.now), ?_⟩
  · rw [hend.fld _ (by decide) (by decide) (by decide), hpos, hbind.fld _ (by decide) (by decide) (by decide)]
  · exact (hend.fld _ (by decide) (by decide) (by decide)).trans ((hdone.1 _ (by decide)).trans
      (hbind.fld _ (by decide) (by decide) (by decide)))

section
variable (htest : s.testing = true) (htrained : s.dev.trained = true) (htested : s.dev.tested = true)
  (hstale : ∀ pl ∈ s.library, s.bit (ACQ.LIB_CFG.STALE pl.num) = false)
include htest

theorem State.finishLoad_testing : s.finishLoad.testing = true := by
  obtain ⟨-, -, hdev, -, hmode⟩ := s.finishLoad_shows
  rw [State.testing_iff, hdev, hmode]
  exact s.testing_iff.mp htest

include htrained htested hstale

theorem loadComplete_fails (hmissing : s.finishLoad.missing ≠ 0) :
    exec (.loadComplete inputs) s = .next (s.finishLoad.fatal 0 s.finishLoad.missing) := by
  have hjudge : s.finishLoad.judgeService = s.finishLoad.fatal 0 s.finishLoad.missing := if_neg hmissing
  rw [loadComplete_eq htest htrained htested hstale, hjudge,
    if_pos (State.fatal_testing (State.finishLoad_testing htest) 0 s.finishLoad.missing)]

/-- With the service set met CALIBRATE is entered: its progress shown, the live inputs marked. -/
theorem loadComplete_calibrates (hmissing : s.finishLoad.missing = 0) : ∃ t, exec (.loadComplete inputs) s = .next t ∧
    t.mode = modeCalibrate ∧ t.fld DEV.STARTUP.STAGE = 11 ∧ t.fld CAL.STATUS.STATE = 1 ∧ t.fld CAL.STATUS.STEP = 1 ∧
    t.fld CAL.STATUS.ATTEMPT = 1 ∧ t.cal.calAt = s.now ∧ t.cal.results = [] ∧ reported 0 0 1 0 t ∧ t.fld BST.STATUS.STATE = 2 ∧
    t.fld BST.PROGRESS.POS = s.fld BST.PROGRESS.TOTAL % 2 ^ BST.PROGRESS.POS.width ∧
    ∀ g < 4, s.finishLoad.groupLive inputs g = true → showsLive s.finishLoad g t := by
  have hexec : exec (.loadComplete inputs) s =
      .next (((s.finishLoad.noteLoadTime.changeMode modeCalibrate 0).startCalibrate inputs).showStage 11) := by
    have hjudge : s.finishLoad.judgeService = s.finishLoad := if_pos hmissing
    rw [loadComplete_eq htest htrained htested hstale, hjudge, if_neg (by rw [State.finishLoad_testing htest]; decide)]
  obtain ⟨hstate, hpos, -, hnow, -⟩ := s.finishLoad_shows
  refine ⟨_, hexec, ?_⟩
  generalize s.finishLoad = u at *
  have htime : onlyRegs [DEV.TIMES.LOAD_MS.addr] u u.noteLoadTime := onlyRegs_setF _ u _ _ (List.mem_singleton_self _)
  generalize u.noteLoadTime = v at *
  have hchange : onlyReports modeAddrs v (v.changeMode modeCalibrate 0) := State.changeMode_only (by decide) (by decide)
  have hmode : (v.changeMode modeCalibrate 0).mode = modeCalibrate := State.changeMode_mode (by decide) (by decide) (by decide)
  have hrep : reported 0 0 modeCalibrate 0 (v.changeMode modeCalibrate 0) :=
    State.changeMode_reported (by decide) (by decide) (by decide) (by decide)
  generalize v.changeMode modeCalibrate 0 = x at *
  have hlayout : sameLayout u x := ⟨(hchange.1 _ (by decide) (by decide)).trans (htime.1 _ (by decide)),
    (hchange.1 _ (by decide) (by decide)).trans (htime.1 _ (by decide))⟩
  rw [State.startCalibrate_eq]
  have hopen := x.openCalibrate_only
  obtain ⟨hcal, hstep, hattempt⟩ := x.openCalibrate_shows
  have hopenRep : reported 0 0 modeCalibrate 0 x.openCalibrate := hrep.openCalibrate (by decide)
  generalize x.openCalibrate = y at *
  have hlayout' : sameLayout u y := hlayout.trans ⟨hopen.1 _ (by decide), hopen.1 _ (by decide)⟩
  have hlist : ∀ g ∈ (List.range 4).filter (y.groupLive inputs), g < 4 := fun g hg => List.mem_range.mp (List.mem_of_mem_filter hg)
  have hmark := y.markGroups_marked hlist
  have hshow : ∀ g < 4, u.groupLive inputs g = true → showsLive u g (y.markGroups ((List.range 4).filter (y.groupLive inputs))) :=
    fun g hg hlive => State.markGroups_shows hlist
      (List.mem_filter.mpr ⟨List.mem_range.mpr hg, (hlayout'.groupLive inputs g).trans hlive⟩) hlayout'
  generalize y.markGroups ((List.range 4).filter (y.groupLive inputs)) = z at *
  have hz : ∀ {f : Fld}, f.addr < 8 * 0x30020 ∨ 8 * 0x30500 ≤ f.addr → isReport f = false → f.addr ≠ DEV.STARTUP.STAGE.addr →
      (z.showStage 11).fld f = y.fld f := fun hf hr hs => (z.showStage_fld_ne 11 hs).trans (hmark.fld _ hf hr)
  have hx : ∀ {f : Fld}, f.addr ∉ modeAddrs → f.addr ≠ DEV.TIMES.LOAD_MS.addr → isReport f = false → x.fld f = u.fld f :=
    fun hm ht hr => (hchange.1 _ hm hr).trans (htime.1 _ fun h => ht (List.mem_singleton.mp h))
  have hcalState : (z.showStage 11).cal = { x.cal with calAt := x.now, results := [] } :=
    (z.showStage_cal 11).trans (hmark.cal.trans hopen.cal_eq)
  refine ⟨?_, z.showStage_stage (by decide), ?_, ?_, ?_, ?_, ?_, ?_, ?_, ?_, fun g hg hlive => ?_⟩
  · exact (hz (.inl (by decide)) (by decide) (by decide)).trans ((hopen.1 _ (by decide)).trans hmode)
  · exact (hz (.inl (by decide)) (by decide) (by decide)).trans hcal
  · exact (hz (.inl (by decide)) (by decide) (by decide)).trans hstep
  · exact (hz (.inl (by decide)) (by decide) (by decide)).trans hattempt
  · rw [hcalState]
    exact hchange.now_eq.trans (htime.now_eq.trans hnow)
  · rw [hcalState]
  · exact (hmark.reported _ _ _ _ (by decide) hopenRep).showStage (by decide) 11
  · rw [hz (.inr (by decide)) (by decide) (by decide), hopen.1 _ (by decide)]
    exact (hx (by decide) (by decide) (by decide)).trans hstate
  · rw [hz (.inr (by decide)) (by decide) (by decide), hopen.1 _ (by decide)]
    exact (hx (by decide) (by decide) (by decide)).trans hpos
  · exact (hshow g hg hlive).showStage 11

end

end

end Sys2Proof.Machine
end

section
/-!
SUPPORT. The end of CALIBRATE (R87, R91, R96): the slices that failed their loop-back check marked, and the result of the run shown.
-/

namespace Sys2Proof.Machine

section
variable {s t u : State} {sl : Nat} {failed : List Nat}

/-! ### Marks of slices (R91) -/

/-- The slice shows that its loop-back check failed, and that it is suspect. -/
def State.lbMarked (s : State) (sl : Nat) : Prop := s.fld (CAL.SLICE_STATE.LB_FAIL sl) = 1 ∧ s.fld (CAL.SLICE_STATE.SUSPECT sl) = 1

theorem State.markLoopback_same (s : State) (sl : Nat) : (s.markLoopback sl).fld (CAL.SLICE_STATE.LB_FAIL sl) = 1 :=
  State.fld_setF_same _ _ _

theorem State.markLoopback_keeps (h : s.fld (CAL.SLICE_STATE.LB_FAIL sl) = 1) (d : Nat) :
    (s.markLoopback d).fld (CAL.SLICE_STATE.LB_FAIL sl) = 1 :=
  State.setFlag_keeps ⟨rfl, rfl⟩ ⟨rfl, rfl⟩ h

theorem State.markLoopbacks_mark (hsl : sl ∈ failed) (s : State) : (failed.foldl State.markLoopback s).fld (CAL.SLICE_STATE.LB_FAIL sl) = 1 := by
  induction failed generalizing s with
  | nil => exact absurd hsl List.not_mem_nil
  | cons d l ih =>
    rcases List.mem_cons.mp hsl with rfl | hsl
    · exact List.foldlRecOn (motive := fun t : State => t.fld (CAL.SLICE_STATE.LB_FAIL sl) = 1) l _ (s.markLoopback_same sl)
        fun _ ht d _ => State.markLoopback_keeps ht d
    · exact ih hsl _

theorem State.markSlice_lbFail (s : State) (d sl : Nat) : (s.markSlice d).fld (CAL.SLICE_STATE.LB_FAIL sl) = s.fld (CAL.SLICE_STATE.LB_FAIL sl) := by
  refine State.fld_setB_ne _ _ _ _ ?_
  simp only [CAL.SLICE_STATE.LB_FAIL, CAL.SLICE_STATE.SUSPECT]
  omega

theorem State.markSlice_suspect (h : s.fld (CAL.SLICE_STATE.LB_FAIL sl) = 1) : (s.markSlice sl).fld (CAL.SLICE_STATE.SUSPECT sl) = 1 := by
  have hbit : s.bit (CAL.SLICE_STATE.LB_FAIL sl) = true := by rw [State.bit, h, beq_self_eq_true]
  unfold State.markSlice
  rw [hbit, Bool.or_true]
  exact State.fld_setF_same _ _ _

theorem State.lbMarked.markSlice (h : s.lbMarked sl) (d : Nat) : (s.markSlice d).lbMarked sl := by
  refine ⟨(s.markSlice_lbFail d sl).trans h.1, ?_⟩
  by_cases hd : d = sl
  · subst hd
    exact State.markSlice_suspect h.1
  · refine (State.fld_setB_ne _ _ _ _ ?_).trans h.2
    simp only [CAL.SLICE_STATE.SUSPECT]
    omega

/-- Every slice's mark follows, so that one that failed its loop-back check is suspect. -/
theorem State.markSlices_mark {l : List Nat} (hsl : sl ∈ l) (h : s.fld (CAL.SLICE_STATE.LB_FAIL sl) = 1) :
    (l.foldl State.markSlice s).lbMarked sl := by
  induction l generalizing s with
  | nil => exact absurd hsl List.not_mem_nil
  | cons d l ih =>
    rcases List.mem_cons.mp hsl with rfl | hsl
    · exact List.foldlRecOn (motive := fun t : State => t.lbMarked sl) l _ ⟨(s.markSlice_lbFail sl sl).trans h, State.markSlice_suspect h⟩
        fun _ ht d _ => ht.markSlice d
    · exact ih hsl ((s.markSlice_lbFail d sl).trans h)

/-- A register below the marks of slices leaves them. -/
theorem State.lbMarked.setF (h : s.lbMarked sl) {f : Fld} (hf : f.addr < 8 * 0x30A00) (v : Nat) : (s.setF f v).lbMarked sl := by
  refine ⟨(State.fld_setF_ne _ _ _ _ ?_).trans h.1, (State.fld_setF_ne _ _ _ _ ?_).trans h.2⟩
  · simp only [CAL.SLICE_STATE.LB_FAIL]
    omega
  · simp only [CAL.SLICE_STATE.SUSPECT]
    omega

/-- The slices that failed marked, and with them every slice, channel and group. -/
def State.markAll (s : State) (failed : List Nat) : State :=
  let s := failed.foldl State.markLoopback s
  let s := (List.range 64).foldl State.markChan ((List.range 68).foldl State.markSlice s)
  (List.range 4).foldl State.groupResult s

theorem State.markAll_marks (hsl : sl < 68) (hf : sl ∈ failed) (s : State) : (s.markAll failed).lbMarked sl := by
  have hslice : ((List.range 68).foldl State.markSlice (failed.foldl State.markLoopback s)).lbMarked sl :=
    State.markSlices_mark (List.mem_range.mpr hsl) (State.markLoopbacks_mark hf s)
  have hchan : ((List.range 64).foldl State.markChan ((List.range 68).foldl State.markSlice (failed.foldl State.markLoopback s))).lbMarked sl :=
    List.foldlRecOn (motive := fun t : State => t.lbMarked sl) (List.range 64) _ hslice fun _ ht c hc =>
      ht.setF (by have := List.mem_range.mp hc; simp only [CAL.CHAN_STATE.SUSPECT]; omega) _
  unfold State.markAll
  exact List.foldlRecOn (motive := fun t : State => t.lbMarked sl) (List.range 4) State.groupResult hchan fun _ ht g hg =>
    (ht.setF (by have := List.mem_range.mp hg; simp only [CAL.GROUP_RESULT.GOOD]; omega) _).setF
      (by have := List.mem_range.mp hg; simp only [CAL.GROUP_RESULT.PHASE_SUSP]; omega) _

/-! ### The result of the run (R96) -/

/-- The run's result shown and calibration DONE, with `again` items repeated and `suspects` marked. -/
def State.showRun (s : State) (again suspects : Nat) : State :=
  let outcome := if suspects = 0 then 1 else 2
  let s := (s.setF CAL.RUN_RESULT.DURATION (min 4095 ((s.now - s.cal.calAt) / 1000000))).setF CAL.RUN_RESULT.RETRIES (min 255 again)
  let s := (s.setF CAL.RUN_RESULT.SUSPECT suspects).setF CAL.RUN_RESULT.OUTCOME outcome
  (s.finishItem.setF CAL.STATUS.STATE 2).clearFs [CAL.STATUS.STEP, CAL.STATUS.ATTEMPT]

theorem State.finishItem_fld (s : State) {g : Fld} (hpos : g.addr ≠ CAL.PROGRESS.POS.addr) (hpct : g.addr ≠ CAL.STATUS.PCT.addr) :
    s.finishItem.fld g = s.fld g := by
  have hwrap : (s.wrapF CAL.PROGRESS.POS 1).fld g = s.fld g := by
    unfold State.wrapF
    split
    · rfl
    · exact State.fld_setF_ne s _ g _ hpos
  exact (State.fld_setF_ne _ _ _ _ hpct).trans hwrap

theorem State.showRun_shows (s : State) (again : Nat) {suspects : Nat} (hs : suspects < 256) :
    (s.showRun again suspects).fld CAL.STATUS.STATE = 2 ∧ (s.showRun again suspects).fld CAL.STATUS.STEP = 0 ∧
    (s.showRun again suspects).fld CAL.STATUS.ATTEMPT = 0 ∧ (s.showRun again suspects).fld CAL.RUN_RESULT.SUSPECT = suspects ∧
    (s.showRun again suspects).fld CAL.RUN_RESULT.OUTCOME = if suspects = 0 then 1 else 2 := by
  have hclear : ∀ x : State, ∀ g : Fld, g.addr ≠ CAL.STATUS.STEP.addr → g.addr ≠ CAL.STATUS.ATTEMPT.addr →
      (x.clearFs [CAL.STATUS.STEP, CAL.STATUS.ATTEMPT]).fld g = x.fld g := fun x g h1 h2 =>
    State.fld_clearFs_ne _ g x (by simp [h1, h2])
  unfold State.showRun
  refine ⟨?_, ?_, ?_, ?_, ?_⟩
  · rw [hclear _ _ (by decide) (by decide), State.fld_setF_same]
    rfl
  · exact (State.fld_setF_ne _ _ _ _ (by decide)).trans (State.fld_setF_same _ _ _)
  · exact State.fld_setF_same _ _ _
  · rw [hclear _ _ (by decide) (by decide), State.fld_setF_ne _ _ _ _ (by decide), State.finishItem_fld _ (by decide) (by decide),
      State.fld_setF_ne _ _ _ _ (by decide), State.fld_setF_same]
    exact Nat.mod_eq_of_lt hs
  · rw [hclear _ _ (by decide) (by decide), State.fld_setF_ne _ _ _ _ (by decide), State.finishItem_fld _ (by decide) (by decide),
      State.fld_setF_same]
    split <;> rfl

theorem State.lbMarked.finishItem (h : s.lbMarked sl) : s.finishItem.lbMarked sl := by
  refine ⟨(s.finishItem_fld ?_ ?_).trans h.1, (s.finishItem_fld ?_ ?_).trans h.2⟩
  all_goals
    simp only [CAL.SLICE_STATE.LB_FAIL, CAL.SLICE_STATE.SUSPECT, CAL.PROGRESS.POS, CAL.STATUS.PCT]
    omega

theorem State.lbMarked.showRun (h : s.lbMarked sl) (again suspects : Nat) : (s.showRun again suspects).lbMarked sl :=
  ((((((((h.setF (by decide) _).setF (by decide) _).setF (by decide) _).setF (by decide) _).finishItem).setF (by decide) _).setF
    (by decide) _).setF (by decide) _)

/-! ### CALIBRATE_COMPLETE (R87 to R96) -/

/-- The slices whose loop-back check failed. -/
def failedSlices (lb : List (List LoopBack)) : List Nat := (List.range 68).filter fun sl => (lb[sl]?).bind loopOutcome == some false

/-- Every item adopted and every loop-back check noted; the numbers of items repeated and of those marked. -/
def State.decideItems (s : State) (items : List CalMeasure) (lb : List (List LoopBack)) : Nat × Nat × State :=
  let r := ((s.setF CAL.PROGRESS.POS 0).finishItem.noteItem 1 0 0 true []).adoptAll items
  (r.1, r.2.1, (List.range 68).foldl (fun (s : State) sl => s.noteItem 7 sl 0 (!(failedSlices lb).contains sl) []) (r.2.2.finishUnits 68))

/-- What a run leaves marked: at most what its register holds. -/
def State.suspects (s : State) (items : List CalMeasure) (lb : List (List LoopBack)) : Nat :=
  min 255 ((s.decideItems items lb).2.1 + (failedSlices lb).length)

/-- The end of a run before its history is stored. -/
def State.closeRun (s : State) (items : List CalMeasure) (lb : List (List LoopBack)) : State :=
  ((s.decideItems items lb).2.2.markAll (failedSlices lb)).showRun (s.decideItems items lb).1 (s.suspects items lb)

/-- The end of a run stored in the history. -/
def State.storeRun (s : State) : State := (s.calSnap.noteItem 8 0 0 true []).storePowerUp

variable {items : List CalMeasure} {lb : List (List LoopBack)}

theorem calibrateComplete_eq (hmode : s.mode = modeCalibrate) (hheld : s.dev.held = false) (hall : s.calComplete items lb = true) :
    exec (.calibrateComplete items lb) s = .next
      ((((if (if s.suspects items lb = 0 then 1 else 2) = 2 then (s.closeRun items lb).storeRun.raise 63 0 0 (s.suspects items lb) 0
        else (s.closeRun items lb).storeRun).showStage 12).changeMode modeReady 1).readyEntry false) := by
  refine congrArg Host.Outcome.next ?_
  unfold effCalibrateComplete
  rw [if_pos (by simp [hmode, hheld, hall])]
  unfold State.storeRun State.closeRun State.suspects State.showRun State.markAll State.decideItems failedSlices
  dsimp only

theorem calibrateComplete_shows (hmode : s.mode = modeCalibrate) (hheld : s.dev.held = false) (hall : s.calComplete items lb = true) :
    ∃ u v w : State, exec (.calibrateComplete items lb) s = .next (((v.showStage 12).changeMode modeReady 1).readyEntry false) ∧
      w = (u.calSnap.noteItem 8 0 0 true []).storePowerUp ∧
      v = (if u.fld CAL.RUN_RESULT.OUTCOME = 2 then w.raise 63 0 0 (u.fld CAL.RUN_RESULT.SUSPECT) 0 else w) ∧
      u.fld CAL.STATUS.STATE = 2 ∧ u.fld CAL.STATUS.STEP = 0 ∧ u.fld CAL.STATUS.ATTEMPT = 0 ∧
      u.fld CAL.RUN_RESULT.OUTCOME = (if u.fld CAL.RUN_RESULT.SUSPECT = 0 then 1 else 2) ∧
      ∀ sl < 68, (lb[sl]?).bind loopOutcome = some false →
        u.fld (CAL.SLICE_STATE.LB_FAIL sl) = 1 ∧ u.fld (CAL.SLICE_STATE.SUSPECT sl) = 1 := by
  have hfew : s.suspects items lb < 256 := by
    unfold State.suspects
    omega
  obtain ⟨hstate, hstep, hattempt, hsuspect, houtcome⟩ :=
    State.showRun_shows ((s.decideItems items lb).2.2.markAll (failedSlices lb)) (s.decideItems items lb).1 hfew
  refine ⟨s.closeRun items lb, _, _, calibrateComplete_eq hmode hheld hall, rfl, ?_, hstate, hstep, hattempt, ?_, fun sl hsl hfail => ?_⟩
  · unfold State.closeRun at *
    rw [houtcome, hsuspect]
    rfl
  · unfold State.closeRun
    rw [houtcome, hsuspect]
  · have hmem : sl ∈ failedSlices lb := List.mem_filter.mpr ⟨List.mem_range.mpr hsl, by rw [hfail]; rfl⟩
    exact (State.markAll_marks hsl hmem _).showRun _ _

end

/-- Settles O13: each end of a step by what it shows. -/
theorem loadStepsEnd : Obligations.LoadStepsEnd := by
  refine ⟨⟨fun s rf sf htest htrained htraining => ⟨dramTrainingDone_judges htest htrained htraining,
        dramTrainingDone_waits htest htrained htraining⟩, fun s u rf sf hu => ?_,
      fun s results refs bad tests htest htested hlen htests hfits hon hoff a b c ha hnone hsome hc => ?_,
      fun s bad g => State.dropMonitor_drops, fun s p q test _ _ => State.loadPart_passes, fun s => fixMap_fixes⟩,
    fun s b d u inputs htest htrained htested hstale hb hd hu => ?_, fun s items lb => calibrateComplete_shows⟩
  · subst hu
    exact takeTraining_judges s rf sf
  · have hfound : b = a.takeFound := (State.takeFound_of hnone hsome).symm
    have hjudge : s.judgeParts tests bad = c := by rw [hc, hfound, ha]; rfl
    have hexec := loadSelfTestDone_eq htest htested hlen htests hfits hon hoff
    rw [hjudge] at hexec
    exact ⟨_, hexec, c.showBst_only _, c.showBst_pos _⟩
  · have hend : s.finishLoad = u := by rw [hu, hd, hb]; rfl
    subst hend
    exact ⟨loadComplete_fails htest htrained htested hstale, loadComplete_calibrates htest htrained htested hstale⟩

end Sys2Proof.Machine
end
